-- ==== Sys2Proof/Word.lean ====
section
/-!
DEFINITION. The words of the K1024: bytes and register words as bit vectors, and the few
width-generic helpers (byte access, clamping, ceiling division) that every unit uses.
-/

namespace Sys2Proof

/-- A byte of memory or of a frame. -/
abbrev Byte := BitVec 8

/-- A 32-bit register (R7). -/
abbrev Word := BitVec 32

/-- A truth value as one bit. -/
def bit (b : Bool) : Nat := if b then 1 else 0

/-- The nearest legal value of a field with the range `lo` to `hi` (R10). -/
def clampNat (lo hi v : Nat) : Nat := max lo (min hi v)

/-- Saturating addition at `2^w - 1`. -/
def satAdd (w a b : Nat) : Nat := min (2 ^ w - 1) (a + b)

/-- Division rounding up. -/
def ceilDiv (a b : Nat) : Nat := (a + b - 1) / b

/-- Bits `[hi:lo]` of a natural number. -/
def bitsOf (v hi lo : Nat) : Nat := (v / 2 ^ lo) % 2 ^ (hi + 1 - lo)

/-- Bit `i` of a natural number. -/
def bitOf (v i : Nat) : Bool := (v / 2 ^ i) % 2 == 1

/-- Round `v` down to a multiple of `2^k`. -/
def alignDown (k v : Nat) : Nat := (v / 2 ^ k) * 2 ^ k

/-- The little-endian bytes of `v`, `n` of them. -/
def leBytes : Nat → Nat → List Byte
  | 0, _ => []
  | n + 1, v => BitVec.ofNat 8 v :: leBytes n (v / 256)

/-- The number that a little-endian list of bytes holds. -/
def leNat : List Byte → Nat
  | [] => 0
  | b :: bs => b.toNat + 256 * leNat bs

end Sys2Proof
end

