-- ==== Sys2Proof/Syntax.lean ====
section
/-!
DEFINITION. The commands of the K1024 model: one constructor of `Instr` per row of the manual's
table of operations and events, with the operand types they carry. Rows that are opcodes carry a
descriptor (R315); rows that are register writes carry what is written; rows that are events at
the connectors, or steps of the module's own engines, carry what arrives or is measured there.
-/

namespace Sys2Proof

/-- A fabric port, numbered by its lowest lane (R75). -/
abbrev Port := Fin 1024
/-- A fabric lane. -/
abbrev Lane := Fin 1024
/-- A tile of 16 lanes. -/
abbrev Tile := Fin 64
/-- A cage of the carrier, with its shelf link and feed channel. -/
abbrev Cage := Fin 64
/-- A home slice (R136). -/
abbrev Slice := Fin 16
/-- An LPDDR6 channel (R226). -/
abbrev Chan := Fin 32
/-- A stream handle (R255). -/
abbrev Handle := Fin 4096
/-- A Virtual Fabric Instance (R282). -/
abbrev Vfi := Fin 256
/-- A ring pair (R311). -/
abbrev Ring := Fin 64
/-- An island (Table 02-1). -/
abbrev Island := Fin 96
/-- A coherent host number (R134). -/
abbrev Chn := Fin 1024
/-- A line number, FMA[55:6]. -/
abbrev Line56 := Nat
/-- A 4 KiB page number of FMA, FMA[55:12]. -/
abbrev Page := Nat

/-- Where a command comes from: a ring pair, or the side entry (R317). -/
inductive Src where
  | ring (p : Ring)
  | side
  deriving DecidableEq, Repr

/-- A command with its 64-byte descriptor (Table 12-3), byte 0 in the low bits. -/
structure Cmd where
  src : Src
  desc : BitVec 512
  deriving DecidableEq, Repr

/-- Causes of a module reset, as GLB_RESET_CAUSE.MODULE codes them (Table 13-4). -/
inductive ResetCause where
  | inputPower | resetPin | resetCtrl | thermal | inputFailure
  deriving DecidableEq, Repr

/-- MetaValue of a CXL.mem message (R145). -/
inductive Meta where
  | inv | shared | any | noOp
  deriving DecidableEq, Repr

/-- Message kinds that the module tells apart (Tables 04-4, 06-3, 08-2). -/
inductive MsgKind where
  | memRd | memRdData | memRdTEE | memInv | memInvNT | memSpecRd | memClnEvct
  | memWr | memWrPtl
  | ndrCmp | ndrCmpE | ndrCmpS | biConflictAck | drs
  | biSnpInv | biSnpData | biSnpCur
  | biRspI | biRspS | biRspE | biConflict
  | ioMemRd | ioMemWr | ioAtomic | ioSpace | ioCfg | ioMsg | ioCplOk | ioCplUr | ioCplCa | doe
  /-- A request that needs a capability the device does not advertise (R74). -/
  | ioForeign
  /-- PTM request and response (Table 04-1). -/
  | ptmReq | ptmRsp
  | cache
  deriving DecidableEq, Repr

/-- A protocol message as the module sees it: the standards give its wire format. -/
structure Msg where
  kind : MsgKind
  /-- MetaValue carried. -/
  mv : Meta := .inv
  /-- Address: FMA, HMD DPA or device address, as the message's place decides. -/
  addr : BitVec 64 := 0
  /-- 1: `addr` is already an FMA; 0: an HMD DPA that a window maps (R287). -/
  isFma : Bool := true
  tag : BitVec 16 := 0
  ld : BitVec 4 := 0
  /-- Bytes in the checked range. -/
  len : Nat := 64
  data : BitVec 512 := 0
  /-- Byte enables of a partial write. -/
  be : BitVec 64 := BitVec.allOnes 64
  poison : Bool := false
  /-- BIRsp: "writeback owed" (R141). -/
  wbPending : Bool := false
  /-- CXL.io to an upstream port (R197). -/
  toHost : Bool := false
  /-- Destination port of a message routed by port, and of a response. -/
  dst : BitVec 10 := 0
  /-- Ingress stamp of the head, T52 in phase units (R27). -/
  stamp : BitVec 52 := 0
  vfi : BitVec 8 := 0
  /-- Requester index under which it was checked (R198). -/
  rid : BitVec 12 := 0xFFF
  /-- Requester's port, as the home and the trackers know it. -/
  reqPort : BitVec 10 := 0
  /-- 1: issued by a media stream engine (R146). -/
  engine : Bool := false
  /-- 1: issued by a home slice, so no station has checked it (R195). -/
  home : Bool := false
  /-- 1: the region is private in the local pool (Table 01-4). -/
  priv : Bool := false
  /-- Address at the target, once it is known (R182, R287). -/
  dev : BitVec 64 := 0
  /-- 1: entered without home allowance (R140). -/
  noAllow : Bool := false
  /-- Remote source PID on a trunk, 0 otherwise (R94). -/
  pid : BitVec 12 := 0
  /-- Destination PID of a message that port-based routing carries (R94, R95). -/
  dpid : Option (BitVec 12) := none
  /-- CLASS of the request that a response generated by the module answers (Table 05-2, TYPE 8). -/
  made : Option (Fin 3) := none
  /-- BISnp: the BI-ID that the host gave the home memory device (R132). -/
  biId : BitVec 12 := 0
  deriving DecidableEq, Repr

/-- Where a message enters the interconnect (R103). -/
inductive IngressSrc where
  | lanePort (p : Port)
  | slice (s : Slice)
  | engine (e : Fin 4)
  deriving DecidableEq, Repr

/-- Identity of an ACU table entry (R210). -/
inductive AcuEntryId where
  | tag (i : Fin 1048576)
  | requester (rid : Fin 4096)
  deriving DecidableEq, Repr

/-- Outcome of a received flit (R80, R90, R96). -/
inductive FlitOutcome where
  | good | fecFixed | crcFail | macFail | sequenceFail | sourcePoison | bufferEcc | internalError | linkDown
  deriving DecidableEq, Repr

/-- A flit as received: its outcome, the ingress stamp of the CXL.mem message that is open after it, and how
many of that message's 64-byte slots are still to come (R82). -/
structure FlitResult where
  outcome : FlitOutcome
  stamp : BitVec 52 := 0
  slotsLeft : Nat := 0
  deriving DecidableEq, Repr

/-- What the code checks find on a cell that arrives (R117). -/
inductive CellFault where
  | none
  | headerCorrected
  | headerUncorrectable
  | payload (quarters : BitVec 4)
  deriving DecidableEq, Repr

/-- A queue of a tile, as the head checker names it (R106, R107, R119). -/
inductive QueueId where
  | voq (dst : Tile) (off : Fin 17) (cls : Fin 3)
  | egress (off : Fin 17) (cls : Fin 3) (vfi : Vfi)
  deriving DecidableEq, Repr

/-- A transmitter setting: a preset, or the magnitudes of C-2, C-1 and C+1 (R55). -/
inductive TxSetting where
  | preset (p : BitVec 4)
  | cursors (cm2 cm1 cp1 : BitVec 6)
  deriving DecidableEq, Repr

/-- What the partner requests while it evaluates: lane offset, rate code, setting (R57). -/
structure EqRequest where
  off : Fin 16
  rate : Fin 7
  setting : TxSetting
  deriving DecidableEq, Repr

/-- The result of a link training (R57, R62, R78, R91). -/
structure TrainResult where
  /-- 0 non-flit, 1 68-byte, 2 256-byte, 3 latency-optimised: what the partner can use at best. -/
  mode : Fin 4
  rate : Fin 7
  /-- Width code 0 to 4 that the lanes reached. -/
  width : Fin 5
  cxl : Bool
  ldMap : BitVec 16 := 1
  mld : Bool := false
  dcd : Bool := false
  reversed : Bool := false
  /-- Lanes whose receive polarity was corrected. -/
  polarity : BitVec 16 := 0
  /-- Received lane number per offset; empty when in order. -/
  laneOrder : List Byte := []
  /-- The partner's final preset per offset, where it is not the one requested (LNK_LANE_REQ). -/
  presets : List (Fin 16 × BitVec 4) := []
  /-- Requests of the partner while it evaluates. -/
  requests : List EqRequest := []
  /-- The partner asks for the standard Loopback state in place of L0 (R60). -/
  loopback : Bool := false
  deriving DecidableEq, Repr

/-- What a frame received on a shelf link carries around its TYPE and PAYLOAD, which its row gives: SEQ, LENGTH, CRC
(Table 03-9), and whether one of its characters was a code error. -/
structure SlFrame where
  seq : Byte
  length : Byte
  crc : BitVec 16
  codeError : Bool := false
  deriving DecidableEq, Repr

/-- The payload of an ACK: SEQ and TYPE of the frame that it acknowledges (Table 03-10). -/
structure SlAcked where
  seq : Byte
  kind : Byte
  deriving DecidableEq, Repr

/-- An edge on a SYNC pair (R31, R32, R37). -/
structure SyncEdge where
  /-- 0 = SYNC_IN pair, 1 = SYNC_OUT pair used as a second input (R38). -/
  second : Bool := false
  rising : Bool := true
  deriving DecidableEq, Repr

/-- What differs between a stored line as read and as written: XOR masks (R233, R235). -/
structure StoredError where
  data : BitVec 512 := 0
  info : BitVec 64 := 0
  deriving DecidableEq, Repr

/-- What the background pass finds in a word (R241, R367). -/
inductive SramWord where
  | clean | corrected | uncorrectable
  deriving DecidableEq, Repr

/-- The STATUS block of a drive stream window (Table 10-2). -/
structure DriveStatus where
  consumed : BitVec 64
  mediaRate : BitVec 32
  seqSeen : BitVec 32
  state : BitVec 4
  deriving DecidableEq, Repr

/-- Physical Port Control actions (Table 12-15). -/
inductive PpbAction where
  | assertPerst | deassertPerst | resetPpb
  deriving DecidableEq, Repr

/-- The transport of an SPDM request (R418). -/
inductive SpdmVia where
  | mctp
  | doe (p : Port)
  deriving DecidableEq, Repr

/-- How a descriptor fetch ends (R330, Table 12-9). -/
inductive FetchResult where
  | data | completionError | poisoned
  deriving DecidableEq, Repr

/-- Readings of the recorder's sample (Table 14-4), each in 1/16 of its unit, and active lanes. -/
structure Readings where
  die0 : Int
  die1 : Int
  memory : Int
  volts : Int
  watts : Int
  lanes : Nat
  deriving DecidableEq, Repr

/-- Causes of a time entry (R370). -/
inductive TimeCause where
  | periodic | holdUp | thermal
  deriving DecidableEq, Repr

/-- One sample of a feed channel (R383): current in mA, voltages in mV, energy in J since reset. -/
structure FeedMeasure where
  milliamps : Int
  vout : Nat
  senp : Nat
  senn : Nat
  joules : Nat
  deriving DecidableEq, Repr

/-- Sections of the persistent store that fail their check at start-up (R421). -/
structure StoreCheck where
  listBad : Bool := false
  feedBad : Bool := false
  pbrBad : Bool := false
  certBad : Bool := false
  deriving DecidableEq, Repr

/-- Events of the IDE key-management exchange on a port (R96). -/
inductive IdeEvent where
  | progress | secure (keySet : Byte) | refreshed (keySet : Byte) | failed
  deriving DecidableEq, Repr

/-- One constructor per row of the manual's table of operations and events. -/
inductive Instr where
  /-- NOP (R333): Command that does nothing and completes OK with result 0. -/
  | nop (c : Cmd)
  /-- GLB_IDENTIFY (R333): Command that copies the first 4 KiB of the GLB window to manager memory and returns GLB_CAP. -/
  | glbIdentify (c : Cmd)
  /-- RING_CLAMP_READ (R333): Command that returns a ring's clamp count and may clear it together with CMD_RING_LAST_CLAMP. -/
  | ringClampRead (c : Cmd)
  /-- EVENT_FILTER_SET (R333): Command that sets the mask of event kinds that are posted. -/
  | eventFilterSet (c : Cmd)
  /-- RESERVED_OPCODE (R10): A descriptor with a reserved opcode completes BAD_OPCODE with no effect. -/
  | reservedOpcode (c : Cmd)
  /-- PORT_CONFIG (R76): Command or PRT_PORT_CFG write that resolves and applies a tile's port layout and settings, taking an active port down if needed. -/
  | portConfig (c : Cmd)
  /-- PORT_DISABLE (R99): Command that disables a port, with link-down actions if it was UP. -/
  | portDisable (c : Cmd)
  /-- PORT_RETRAIN (R99): Command that sends a port into Recovery or retrains it from Detect (a link-down event). -/
  | portRetrain (c : Cmd)
  /-- PORT_STATUS (R99): Command that returns the PRT_PORT_STATUS image of a port. -/
  | portStatus (c : Cmd)
  /-- PORT_DPC_RELEASE (R90): Command that releases a contained port to DETECT. -/
  | portDpcRelease (c : Cmd)
  /-- PORT_LD_QUERY (R91): Command that returns the logical-device map and count of a port. -/
  | portLdQuery (c : Cmd)
  /-- PORT_CCI_TUNNEL (R93): Command that sends one CCI request to a downstream device or LD and waits for its response. -/
  | portCciTunnel (c : Cmd)
  /-- PORT_PBR_SET (R94): Command that sets the device number, edge indices, routes and trunk groups of port-based routing. -/
  | portPbrSet (c : Cmd)
  /-- PORT_IDE_CTRL (R96): Command that stops, establishes or refreshes a port's link IDE stream. -/
  | portIdeCtrl (c : Cmd)
  /-- PORT_HOT_RESET (R99): Command that sends a hot reset on a downstream port, a link-down event. -/
  | portHotReset (c : Cmd)
  /-- PORT_ERR_CLEAR (R99): Command that clears a port's error flags and saturating counters. -/
  | portErrClear (c : Cmd)
  /-- LNK_EQ_RELOAD (R58): Command that rereads the equalisation table for use at each lane's next equalisation. -/
  | lnkEqReload (c : Cmd)
  /-- LNK_LOOP_SET (R60): Command that starts or ends a lane test loop on a port. -/
  | lnkLoopSet (c : Cmd)
  /-- LNK_LOOP_READ (R71): Command that returns the loop error count of a port's worst lane. -/
  | lnkLoopRead (c : Cmd)
  /-- LNK_SL_LOOP (R70): Command that starts a far-end loopback on a shelf link. -/
  | lnkSlLoop (c : Cmd)
  /-- LNK_SL_DELAY (R69): Command that measures and returns the shelf link's one-way delay. -/
  | lnkSlDelay (c : Cmd)
  /-- TIME_COURSE_SET (R29): Course-aligned command that changes the course length. -/
  | timeCourseSet (c : Cmd)
  /-- TIME_SYNC_SET (R31): Course-aligned command that changes the SYNC_IN settings and restarts acquisition. -/
  | timeSyncSet (c : Cmd)
  /-- TIME_SYNC_OUT_SET (R39): Course-aligned command that changes the SYNC_OUT settings. -/
  | timeSyncOutSet (c : Cmd)
  /-- TIME_MARK (R51): Instant command whose completion records the instant of its execution. -/
  | timeMark (c : Cmd)
  /-- TIME_LAUNCH_CANCEL (R44): Command that removes queued launched actions of a ring and tag. -/
  | timeLaunchCancel (c : Cmd)
  /-- TIME_LAUNCH_QUERY (R51): Command that returns the launch-queue depth. -/
  | timeLaunchQuery (c : Cmd)
  /-- TIME_ISLAND_CHECK (R51): Command that measures island time offsets at the next beacon. -/
  | timeIslandCheck (c : Cmd)
  /-- ACU_REGION_SET (R213): Staging write of a Service region. -/
  | acuRegionSet (c : Cmd)
  /-- ACU_PLINTH_SET (R213): Staging write of a Plinth region. -/
  | acuPlinthSet (c : Cmd)
  /-- ACU_WINDOW_SET (R202): Staging write of a colour window. -/
  | acuWindowSet (c : Cmd)
  /-- ACU_TAG_SET (R213): Staging write of a range of colour tags. -/
  | acuTagSet (c : Cmd)
  /-- ACU_REQ_SET (R199): Staging write of a requester entry's VALID, HOST_DMA and VFI. -/
  | acuReqSet (c : Cmd)
  /-- ACU_KEYS_SET (R204): Staging write of a requester's read or write key mask. -/
  | acuKeysSet (c : Cmd)
  /-- ACU_PORT_MAP_SET (R198): Staging write of a port's RID_BASE and LD_COUNT. -/
  | acuPortMapSet (c : Cmd)
  /-- ACU_COMMIT (R214): Course-aligned command that makes the staged bank active as a new epoch and completes when the old epoch drains. -/
  | acuCommit (c : Cmd)
  /-- ACU_DISCARD (R222): Command that discards the staged changes. -/
  | acuDiscard (c : Cmd)
  /-- ACU_QUERY (R205): Command that evaluates an access against the active or staged rules. -/
  | acuQuery (c : Cmd)
  /-- ACU_TAG_QUERY (R222): Command that returns a byte's active and staged colours and windows. -/
  | acuTagQuery (c : Cmd)
  /-- ACU_DRAIN_QUERY (R222): Command that returns the in-flight sum of the oldest draining epoch. -/
  | acuDrainQuery (c : Cmd)
  /-- HOME_HOST_SET (R441): Command that assigns or removes a coherent host number. -/
  | homeHostSet (c : Cmd)
  /-- HOME_HOST_LOST (R159): Command that applies host loss to a CHN. -/
  | homeHostLost (c : Cmd)
  /-- HOME_ALLOW_SET (R138): Course-aligned command that sets a port's home allowance. -/
  | homeAllowSet (c : Cmd)
  /-- HOME_TIMEOUT_SET (R164): Command or CHM timeout register write that sets SNOOP_TO, WB_TO and MEM_TO for all slices. -/
  | homeTimeoutSet (c : Cmd)
  /-- HOME_LINE_QUERY (R164): Command that returns a line's directory state. -/
  | homeLineQuery (c : Cmd)
  /-- HOME_SWEEP_QUERY (R164): Command that returns a slice's completed sweep laps. -/
  | homeSweepQuery (c : Cmd)
  /-- DIR_STORE_SET (R174): Command that places and zeroes the directory store. -/
  | dirStoreSet (c : Cmd)
  /-- DIR_PLACE_SET (R442): Command that adds, replaces or removes a placement entry. -/
  | dirPlaceSet (c : Cmd)
  /-- DIR_MOVE (R183): Command that relocates a placement range to a new target line by line. -/
  | dirMove (c : Cmd)
  /-- DIR_MOVE_QUERY (R192): Command that returns the lines a slice has cut over. -/
  | dirMoveQuery (c : Cmd)
  /-- DIR_ZERO_SET (R191): Command that enables, sets or disables zero-fill for a placement. -/
  | dirZeroSet (c : Cmd)
  /-- DIR_ZERO_QUERY (R192): Command that returns a page's zero-fill state. -/
  | dirZeroQuery (c : Cmd)
  /-- DIR_STATUS (R194): Command that returns a slice's directory count by selector. -/
  | dirStatus (c : Cmd)
  /-- MEM_SCRUB_SET (R242): Command or MEM_SCRUB_CFG write that sets the scrub rate and lap alarm. -/
  | memScrubSet (c : Cmd)
  /-- MEM_RETIRE (R248): Command that retires or releases an LA page. -/
  | memRetire (c : Cmd)
  /-- MEM_REPAIR (R249): Command that performs or schedules post-package repair of a row. -/
  | memRepair (c : Cmd)
  /-- MEM_RAW_WRITE (R250): Command that writes a raw 72-byte line image in Plinth mode. -/
  | memRawWrite (c : Cmd)
  /-- MEM_RAW_READ (R250): Command that reads a raw line with the decoder verdict in Plinth mode. -/
  | memRawRead (c : Cmd)
  /-- MEM_LINE_QUERY (R251): Command that reads a line with the effects of a normal read and returns its state. -/
  | memLineQuery (c : Cmd)
  /-- MEM_CE_LOG (R251): Command that copies a channel's correctable-error log. -/
  | memCeLog (c : Cmd)
  /-- MEM_RSV_QUERY (R251): Command that returns the granted stream reservation sum. -/
  | memRsvQuery (c : Cmd)
  /-- MEM_ERR_CLEAR (R251): Command that clears memory error flags and counters. -/
  | memErrClear (c : Cmd)
  /-- STREAM_OPEN (R264): Course-aligned command that opens a stream and claims its reservations. -/
  | streamOpen (c : Cmd)
  /-- STREAM_CHANGE (R264): Course-aligned command that changes a stream's RATE or LEAD. -/
  | streamChange (c : Cmd)
  /-- STREAM_CLOSE (R276): Course-aligned command that closes a stream at the end of its current chunk. -/
  | streamClose (c : Cmd)
  /-- STREAM_MOVE (R275): Course-aligned command that moves a stream to another engine. -/
  | streamMove (c : Cmd)
  /-- STREAM_RESUME (R277): Command that takes a stream out of the DENIED or delivery-denied state. -/
  | streamResume (c : Cmd)
  /-- STREAM_QUERY (R277): Command that returns a stream value by selector. -/
  | streamQuery (c : Cmd)
  /-- MSE_SETUP (R262): Command that sets the inlet window and local base. -/
  | mseSetup (c : Cmd)
  /-- VFI_BIND (R296): Course-aligned command that binds or unbinds a port or LD to an instance. -/
  | vfiBind (c : Cmd)
  /-- VFI_WINDOW_SET (R288): Course-aligned command that sets a memory window of an instance. -/
  | vfiWindowSet (c : Cmd)
  /-- VFI_QUOTA_SET (R282): Course-aligned command that sets an instance's buffer, directory and stream quotas. -/
  | vfiQuotaSet (c : Cmd)
  /-- VFI_WEIGHT_SET (R293): Course-aligned command that sets an instance's default or per-port egress weight. -/
  | vfiWeightSet (c : Cmd)
  /-- VFI_COLOUR_SET (R294): Staging write of an instance's colour mask. -/
  | vfiColourSet (c : Cmd)
  /-- VFI_CNT_MAP (R301): Course-aligned command that maps a counter into an instance's counter window. -/
  | vfiCntMap (c : Cmd)
  /-- VFI_MAIL_SEND (R299): Command that places an outbound tenant message. -/
  | vfiMailSend (c : Cmd)
  /-- VFI_MAIL_READ (R299): Command that copies the inbound tenant message and clears IN_FULL. -/
  | vfiMailRead (c : Cmd)
  /-- VFI_RESET (R302): Command that resets an instance's admission and generation and settles its work. -/
  | vfiReset (c : Cmd)
  /-- VFI_QUERY (R306): Command that returns instance state by selector. -/
  | vfiQuery (c : Cmd)
  /-- VFI_MAIL_CFG (R306): Command or register write that sets the mailbox vector and enables. -/
  | vfiMailCfg (c : Cmd)
  /-- PCN_SELECT (R356): Command or PCN_SEL write that sets counters' selectors and clears them. -/
  | pcnSelect (c : Cmd)
  /-- PCN_FREEZE (R357): Course-aligned command that captures every counter at a boundary. -/
  | pcnFreeze (c : Cmd)
  /-- PCN_RELEASE (R360): Command that clears FROZEN. -/
  | pcnRelease (c : Cmd)
  /-- PCN_SNAPSHOT (R359): Course-aligned command that captures counters and writes a range to the snapshot ring. -/
  | pcnSnapshot (c : Cmd)
  /-- PCN_READ (R376): Command that returns a counter's live or image value. -/
  | pcnRead (c : Cmd)
  /-- PCN_CLEAR (R356): Command that clears a range of counters. -/
  | pcnClear (c : Cmd)
  /-- EVR_QUERY (R376): Command that returns a recorder value by selector. -/
  | evrQuery (c : Cmd)
  /-- EVR_READ (R376): Command that copies a record, image or journal range to manager memory. -/
  | evrRead (c : Cmd)
  /-- EVR_WRITE_NOW (R366): Command that requests a record swap. -/
  | evrWriteNow (c : Cmd)
  /-- EVR_CLEAR (R374): Command that issues a clear challenge or performs an authorised clear. -/
  | evrClear (c : Cmd)
  /-- EVR_CFG (R376): Command or EVR_CFG write that sets the record PERIOD. -/
  | evrCfg (c : Cmd)
  /-- FEED_SET (R397): Command or PPU_FEED_CTRL write that sets or clears ON_REQ, or schedules a removal. -/
  | feedSet (c : Cmd)
  /-- FEED_CFG (R388): Command or feed config register write that sets a channel's limits. -/
  | feedCfg (c : Cmd)
  /-- FEED_CLEAR (R385): Command that clears a latched channel. -/
  | feedClear (c : Cmd)
  /-- SHELF_WAKE (R396): Course-aligned command that turns a feed on and sends WAKE. -/
  | shelfWake (c : Cmd)
  /-- SHELF_SLEEP (R397): Command that sends SLEEP and may schedule feed removal. -/
  | shelfSleep (c : Cmd)
  /-- FEED_QUERY (R401): Command that returns a feed value by selector. -/
  | feedQuery (c : Cmd)
  /-- PPU_INPUT_CFG (R392): Command or register write that sets WARN, PFAIL_IN_EN and MAX_RAMPS. -/
  | ppuInputCfg (c : Cmd)
  /-- PPU_QUERY (R401): Command that returns an input value by selector. -/
  | ppuQuery (c : Cmd)
  /-- FW_STAGE (R413): Command that copies image bytes into the inactive slot. -/
  | fwStage (c : Cmd)
  /-- FW_VERIFY (R413): Command that checks the inactive slot's image. -/
  | fwVerify (c : Cmd)
  /-- FW_ACTIVATE (R413): Command that boots the inactive slot on trial or confirms the running trial. -/
  | fwActivate (c : Cmd)
  /-- FW_QUERY (R420): Command that returns firmware state by selector. -/
  | fwQuery (c : Cmd)
  /-- FW_ROLLBACK_ADVANCE (R414): Command that blows SVN-floor fuses up to the running SVN. -/
  | fwRollbackAdvance (c : Cmd)
  /-- ID_CERT_READ (R419): Command that writes the certificate chain or one certificate to manager memory. -/
  | idCertRead (c : Cmd)
  /-- ATTEST_SIGN (R419): Command that signs a nonce and measurements under the Alias key. -/
  | attestSign (c : Cmd)
  /-- MSC_RESTART (R415): Command or GLB_RESET_CTRL KIND 1 write that restarts the MSC firmware. -/
  | mscRestart (c : Cmd)
  /-- SQ_TAIL_DOORBELL (R313): Write of a submission ring's tail doorbell. -/
  | sqTailDoorbell (ring : Ring) (value : Word)
  /-- CQ_HEAD_DOORBELL (R313): Write of a completion ring's head doorbell, releasing entries. -/
  | cqHeadDoorbell (ring : Ring) (value : Word)
  /-- RING_ENABLE (R312): CMD_RING_CTRL.EN 0 to 1 brings a ring pair into use. -/
  | ringEnable (ring : Ring) (value : Word)
  /-- RING_DISABLE (R330): CMD_RING_CTRL.EN 1 to 0 stops a ring pair. -/
  | ringDisable (ring : Ring) (value : Word)
  /-- RING_RESUME (R330): CMD_RING_CTRL.RESUME takes a pair out of SUSPENDED or STOPPED. -/
  | ringResume (ring : Ring) (value : Word)
  /-- DEVICE_RING_ENABLE (R312): CMD_DR_CTRL.EN 0 to 1 brings a device ring into use. -/
  | deviceRingEnable (d : Fin 3) (value : Word)
  /-- DEVICE_RING_DISABLE (R330): CMD_DR_CTRL.EN 1 to 0 disables a device ring. -/
  | deviceRingDisable (d : Fin 3) (value : Word)
  /-- DEVICE_RING_RESUME (R330): CMD_DR_CTRL.RESUME takes a device ring out of SUSPENDED. -/
  | deviceRingResume (d : Fin 3) (value : Word)
  /-- CMD_DR_HEAD (R325): Write of a device ring's consumer index, freeing room for held entries. -/
  | cmdDrHead (d : Fin 3) (value : Word)
  /-- MODULE_RESET_REQUEST (R349): GLB_RESET_CTRL write with KIND 2 that starts a module reset 1 us later. -/
  | moduleResetRequest (value : Word)
  /-- MSIX_VECTOR_UNMASK (R350): Unmasking an MSI-X vector sends its pending message. -/
  | msixVectorUnmask (vector : Byte)
  /-- BUS_MASTER_ENABLE (R329): Setting Bus Master Enable and MSI-X Enable sends each vector with entries waiting. -/
  | busMasterEnable
  /-- SL_ENABLE (R65): LNK_SL_CFG.EN set with feed on starts the shelf-link comma search. -/
  | slEnable (cage : Cage)
  /-- SL_DISABLE (R65): LNK_SL_CFG.EN cleared idles the transmitter and discards queued messages. -/
  | slDisable (cage : Cage)
  /-- FORCE_OFF (R53): Write of LNK_BANK_CTRL.FORCE_OFF that gates or allows power to a tile's lane bank. -/
  | forceOff (tile : Tile) (off : Bool)
  /-- REGISTER_WRITE (R9): Write to a register that has no row of its own, per its access type. -/
  | registerWrite (addr : BitVec 25) (size : Nat) (value : BitVec 64)
  /-- INPUT_TURN_ON (R380): Input at or above 39.0 V for 100 ms ramps the module's internal rails. -/
  | inputTurnOn
  /-- INRUSH_FAULT (R380): Input stage at its inrush limit for 50 ms switches off and retries. -/
  | inrushFault
  /-- RUNNING_OVERCURRENT (R380): Input above 25 A for 5 ms switches the stage off with module reset. -/
  | runningOvercurrent
  /-- FAST_OVERCURRENT (R380): Input above 50 A switches the stage off within 1 us. -/
  | fastOvercurrent
  /-- OVERVOLTAGE (R380): Input above 63.0 V for 10 us switches the stage off. -/
  | overvoltage
  /-- EARLY_WARNING (R392): Input below WARN, or external PFAIL_N low, for 10 us starts the hold-up sequence. -/
  | earlyWarning (external : Bool) (millivolts : BitVec 16)
  /-- INPUT_CLEAR (R394): An early warning ends without brown-out and held ramps proceed. -/
  | inputClear
  /-- BROWN_OUT (R380): Input below 32.0 V for 2 us switches every feed off and resets the module. -/
  | brownOut
  /-- RESET_N (R404): RESET_N held low holds every island in module reset. -/
  | resetN
  /-- MODULE_RESET (R404): A module reset takes effect in every island. -/
  | moduleReset (cause : ResetCause)
  /-- THERMAL_SHUTDOWN (R405): A junction at 160 C for 10 us writes a time entry and holds the module in reset. -/
  | thermalShutdown
  /-- THERMAL_RECOVERY (R405): Every junction at or below 140 C for 1 s ends the thermal hold and start-up begins. -/
  | thermalRecovery
  /-- MSC_WATCHDOG (R406): The MSC watchdog expires and an MSC firmware restart follows. -/
  | mscWatchdog
  /-- REF_LOST (R48): Reference clock stops and the FTU continues from its internal oscillator. -/
  | refLost
  /-- REF_RETURN (R48): Reference clock returns and the FTU follows it without a step. -/
  | refReturn
  /-- PRESENCE_INSERTION (R389): PRSNT_N held low for 300 ms is decided as an insertion. -/
  | presenceInsertion (cage : Cage)
  /-- PRESENCE_REMOVAL (R389): PRSNT_N held high for 1 ms is decided as a removal, switching the feed off and taking the tile's ports down. -/
  | presenceRemoval (cage : Cage)
  /-- FMP_RESET (R310): FMP link loss, hot reset, PERST or FLR resets the FMP and suspends the rings. -/
  | fmpReset
  /-- SYNC_EDGE (R32): An edge on the active SYNC input is captured, validated and used for course pulling and lock. -/
  | syncEdge (edge : SyncEdge)
  /-- SYNC_ABSENT (R36): No valid edge for 3 x P declares SYNC_IN absent and enters holdover or standby source. -/
  | syncAbsent
  /-- BEACON (R25): Every 1,024 ns the FTU sends a beacon and each island copy is checked and corrected. -/
  | beacon (offsets : List (Island × Int))
  /-- COURSE_BOUNDARY (R30): A course boundary is reached and the next boundary is fixed and announced, with all per-course work. -/
  | courseBoundary
  /-- SYNC_OUT_EDGE (R39): SYNC_OUT drives an edge ADV ns before an aligned boundary. -/
  | syncOutEdge
  /-- LAUNCH_EXECUTE (R41): A queued launched action reaches its launch time or boundary and executes in every island concerned. -/
  | launchExecute
  /-- MESSAGE_INGRESS (R103): A message from a port or internal port is stamped, checked at the ACU station and formed into cells. -/
  | messageIngress (src : IngressSrc) (msg : Msg)
  /-- ACU_FETCH_RESPONSE (R210): The central table answers a station's fetch of a missing entry. -/
  | acuFetchResponse (island : Island) (want : AcuEntryId) (uncorrectable : Bool)
  /-- FLIT_RECEIVE (R80): A flit arrives complete and passes or fails FEC, CRC and IDE MAC. -/
  | flitReceive (port : Port) (flit : FlitResult)
  /-- CORE_SLOT (R108): A slot of the cyclic pattern in a tile: requests, assignments and dispatches at both stages. -/
  | coreSlot (tile : Tile)
  /-- CELL_ARRIVAL (R114): A cell arrives over a mortar channel at an intermediate or egress tile and is queued or resequenced. -/
  | cellArrival (stage2 : Bool) (src dst : Tile) (fault : CellFault)
  /-- RESEQ_LOST (R116): An expected cell missing 128 slots behind a later one is declared lost. -/
  | reseqLost (dst src : Tile)
  /-- HEAD_CHECK (R119): The head checker visits a queue and discards an over-age head. -/
  | headCheck (tile : Tile) (queue : QueueId)
  /-- AUDIT_STEP (R128): The audit visits one cell place, quarantining leaks and checking counts at lap end. -/
  | auditStep (tile : Tile)
  /-- EGRESS_SEND (R124): A port takes its next message from the first class with a ready head and credits. -/
  | egressSend (tile : Tile) (off : Fin 17) (credits : Nat)
  /-- PORT_STATE_LEARNED (R123): A tile learns a port's new state and generation and discards its ingress cells for a down port. -/
  | portStateLearned (tile : Tile) (port : Port)
  /-- TRACKER_FREE (R87): The signal of a last response's departure frees a tracker entry and settles the access. -/
  | trackerFree (tile : Tile) (port : Port) (tag : BitVec 16)
  /-- RECEIVER_DETECTED (R84): A partner is detected with the gate open and the port starts training. -/
  | receiverDetected (port : Port)
  /-- LINK_UP (R84): Training ends with the link in L0 and protocols active, or with the mode refused. -/
  | linkUp (port : Port) (t : TrainResult)
  /-- LINK_DOWN (R86): A link-down event of an UP port increments the generation, detaches queues and answers open requests. -/
  | linkDown (port : Port) (surprise : Bool)
  /-- ERR_FATAL (R90): ERR_FATAL received on a downstream or trunk port contains it; on an upstream port it is only logged. -/
  | errFatal (port : Port)
  /-- IDLE_EXIT (R59): A lane leaves electrical idle on exit request or partner energy. -/
  | idleExit (lane : Lane)
  /-- BANK_PLL_LOCK (R53): A powered lane bank's transmit PLL locks and training may start. -/
  | bankPllLock (tile : Tile)
  /-- CCI_TUNNEL_RESPONSE (R93): A tunnelled CCI response arrives and is written to manager memory. -/
  | cciTunnelResponse (port : Port) (body : List Byte)
  /-- CCI_TUNNEL_TIMEOUT (R93): No tunnelled response within 2 s completes the command TIMEOUT. -/
  | cciTunnelTimeout (port : Port)
  /-- SL_COMMA_ALIGN (R65): Three K28.5 at one alignment fix shelf-link alignment. -/
  | slCommaAlign (cage : Cage)
  /-- SL_ALIGNED_TIMER (R65): 100 us aligned with error score 0 moves the shelf link to LOCKED. -/
  | slAlignedTimer (cage : Cage)
  /-- SL_ALIGNMENT_LOST (R65): Error score reaching its threshold drops alignment. -/
  | slAlignmentLost (cage : Cage) (chars : List Bool)
  /-- SL_POLARITY_SEARCH (R65): No comma within 1,024 characters inverts the receiver and searches again. -/
  | slPolaritySearch (cage : Cage)
  /-- SL_ACK (R67): An ACK frame completes a pending shelf-link message. -/
  | slAck (cage : Cage) (f : SlFrame) (acked : SlAcked)
  /-- PRESENT (R68): A shelf's PRESENT frame is acknowledged and starts time transfer. -/
  | shelfPresent (cage : Cage) (f : SlFrame) (kind caps : Byte) (ident : BitVec 128)
  /-- POWER_STATE (R68): A shelf's POWER_STATE frame is recorded and may release port holds or take gated ports down. -/
  | shelfPowerState (cage : Cage) (f : SlFrame) (power : Byte) (current : BitVec 16)
  /-- TEMPERATURE (R68): A shelf's TEMPERATURE frame is recorded. -/
  | shelfTemperature (cage : Cage) (f : SlFrame) (temp : BitVec 16) (limit : Byte)
  /-- DELAY_RESP (R69): A DELAY_RESP frame gives a new one-way delay measurement. -/
  | delayResp (cage : Cage) (f : SlFrame) (turnaround : Word) (answers : Byte)
  /-- SHELF_WARN (R395): A level-3 POWER_WARN from a shelf posts SHELF_WARN. -/
  | shelfWarn (cage : Cage) (f : SlFrame) (removal : BitVec 64)
  /-- SL_RETRANSMIT (R67): An unacknowledged message is retransmitted every 20 us and dropped with NO_RESPONSE after 16. -/
  | slRetransmit (cage : Cage)
  /-- DELAY_REQ (R69): Every 2 ms the module sends DELAY_REQ. -/
  | delayReq (cage : Cage)
  /-- TIME (R69): Every 131,072 ns the module sends a TIME frame. -/
  | timeFrame (cage : Cage)
  /-- POWER_WARN_REPEAT (R395): Each pending warning level is resent every 20 us. -/
  | powerWarnRepeat (cage : Cage)
  /-- SL_LOOP_END (R70): A far-end loop's duration ends and the module returns to SEARCH. -/
  | slLoopEnd (cage : Cage)
  /-- SL_LOOP_TIMEOUT (R70): A loop command not relocked within 100 ms completes TIMEOUT. -/
  | slLoopTimeout (cage : Cage)
  /-- HOME_REQUEST (R150): An M2S Req reaches a slice and is accepted, queued or decided. -/
  | homeRequest (slice : Slice) (msg : Msg)
  /-- HOME_RWD (R153): An M2S RwD reaches a slice and is written to the write buffer or merged with a snoop. -/
  | homeRwd (slice : Slice) (msg : Msg)
  /-- BIRSP (R151): A BIRsp reaches a slice and may close the snoop or invalidation. -/
  | birsp (slice : Slice) (msg : Msg)
  /-- BICONFLICT (R154): A BIConflict is answered with BIConflictAck. -/
  | biconflict (slice : Slice) (msg : Msg)
  /-- BACKING_READ_RESPONSE (R184): Backing memory returns read data to the transaction that issued it. -/
  | backingReadResponse (slice : Slice) (txn : Nat) (data : BitVec 512) (poison : Bool)
  /-- BACKING_WRITE_ACK (R149): Backing memory acknowledges a write and the write-buffer entry may free. -/
  | backingWriteAck (slice : Slice) (line : Line56)
  /-- WAIT_LIST_TAKE (R148): When a line unblocks, the head of its wait list is decided. -/
  | waitListTake (slice : Slice) (line : Line56)
  /-- RETRY_QUEUE_GRANT (R173): A freed capacity resource lets the earliest waiting retry-queue request proceed. -/
  | retryQueueGrant (slice : Slice)
  /-- SNOOP_TIMEOUT (R156): SNOOP_TO expires and silent hosts are treated as BIRspI. -/
  | snoopTimeout (slice : Slice) (txn : Nat)
  /-- WB_TIMEOUT (R156): WB_TO expires in B_WB_OWED and the line is poisoned. -/
  | wbTimeout (slice : Slice) (txn : Nat)
  /-- MEM_READ_TIMEOUT (R156): A backing read expires and the requester receives poisoned data. -/
  | memReadTimeout (slice : Slice) (txn : Nat)
  /-- MEM_WRITE_TIMEOUT (R156): A backing write expires and is reissued once poisoned or abandoned. -/
  | memWriteTimeout (slice : Slice) (line : Line56)
  /-- LATE_WB_FILTER_EXPIRY (R157): A late-writeback filter entry expires after 10 x WB_TO. -/
  | lateWbFilterExpiry (slice : Slice)
  /-- HOST_LOSS (R159): Every slice applies the loss of a host. -/
  | hostLoss (chn : Chn)
  /-- SWEEP_STEP (R161): The sweep examines an entry in a spare lookup cycle and resolves stale pointers. -/
  | sweepStep (slice : Slice)
  /-- ALLOWANCE_RELEASE (R138): A slice's close signal decrements a port's count and admits a held request. -/
  | allowanceRelease (port : Port) (slice : Slice)
  /-- STORE_BUCKET_READ (R176): A directory-store bucket read returns and is matched. -/
  | storeBucketRead (slice : Slice) (txn : Nat) (uncorrectable : Bool)
  /-- VICTIM_WRITE (R177): The victim buffer writes a victim or clear into its bucket. -/
  | victimWrite (slice : Slice) (uncorrectable : Bool)
  /-- TRIM (R181): The trim scanner removes an entry of a VFI over its directory quota. -/
  | trimStep (slice : Slice) (vfi : Vfi)
  /-- MOVE_LINE_START (R183): A move takes its next line when a slot of its DEPTH frees. -/
  | moveLineStart (slice : Slice) (place : Fin 1024)
  /-- ZERO_P (R190): A slice receives zero P and zeroes its lines of the page. -/
  | zeroP (slice : Slice) (page : Page) (vfi : Vfi)
  /-- ZERO_ANSWER (R190): An initiator receives a slice's answer for page P. -/
  | zeroAnswer (slice answering : Slice) (page : Page)
  /-- DONE_P (R190): A slice receives done P, sets the bit in its cache and drops P. -/
  | doneP (slice : Slice) (page : Page)
  /-- ACU_FORCED_SETTLEMENT (R218): At the commit boundary plus CT, islands settle the old epoch's open accesses by force. -/
  | acuForcedSettlement
  /-- CHANNEL_SLOT (R231): A free LPDDR6 command slot is given to DIR, MSE, Other or the scrubber. -/
  | channelSlot (ch : Chan)
  /-- MEM_READ_DONE (R236): An LPDDR6 read returns and is decoded, corrected or poisoned. -/
  | memReadDone (ch : Chan) (stored : StoredError)
  /-- SCRUB_READ (R242): The scrubber reads its next line when the channel is idle and its rate allows. -/
  | scrubRead (ch : Chan) (stored : StoredError)
  /-- SCRUB_LATE (R244): A scrub lap exceeds LAP_ALARM hours. -/
  | scrubLate (ch : Chan)
  /-- MEM_TEMPERATURE_READ (R227): Every 16 ms device temperature and refresh rate are read, throttling at 105 C. -/
  | memTemperatureRead (ch : Chan) (temp : BitVec 8) (refreshRate : BitVec 4)
  /-- MEM_RETRAIN (R227): A channel retrains for DQS drift, blocking it up to 2 us. -/
  | memRetrain (ch : Chan)
  /-- RETIREMENT_COMPLETE (R248): A page copy to its spare ends and held requests are released. -/
  | retirementComplete (spare : Fin 1024)
  /-- REPAIR_DONE (R249): A soft repair ends and the channel and pages are released. -/
  | repairDone (ch : Chan) (refused : Bool)
  /-- PERSISTENT_STORE_WRITE (R398): The MSC writes a changed persistent-store section to NOR within 100 ms. -/
  | persistentStoreWrite
  /-- HARD_REPAIR (R408): A pending hard post-package repair completes at start-up. -/
  | hardRepair (ch : Chan) (row : Nat) (refused : Bool)
  /-- SRAM_BACKGROUND_PASS (R241): The background pass reads and corrects a word of a long-lived array. -/
  | sramBackgroundPass (island : Island) (array : Fin 11) (word : SramWord)
  /-- DRIVE_STATUS_READ (R261): A drive's STATUS read returns to its engine. -/
  | driveStatusRead (handle : Handle) (st : DriveStatus)
  /-- DRIVE_SILENT (R261): 16 missed STATUS reads in a row mark the stream DRIVE_SILENT. -/
  | driveSilent (handle : Handle)
  /-- CTRL_READ (R259): A stream's CTRL line read returns PROD or CONS. -/
  | ctrlRead (handle : Handle) (pos : BitVec 64)
  /-- STAGING_READ_RESPONSE (R267): Staging data returns to an engine for an outbound TLP. -/
  | stagingReadResponse (handle : Handle) (bytes : Nat) (poison : Bool)
  /-- STREAM_TLP_ISSUE (R267): An outbound TLP's issue instant is reached and it is sent. -/
  | streamTlpIssue (handle : Handle)
  /-- INLET_WRITE (R262): An inlet write arrives at an engine and goes to delivery, silt or drop. -/
  | inletWrite (handle : Handle) (offset : BitVec 22) (bytes : Nat) (poison noSlot : Bool)
  /-- DELIVERY_WRITE_COMPLETE (R270): A delivery write completes and PROD may advance. -/
  | deliveryWriteComplete (handle : Handle)
  /-- SILT_DRAIN (R271): Silt drains to DEST once delivery is possible again. -/
  | siltDrain (handle : Handle) (poison : Bool)
  /-- STREAM_HANDOVER (R275): After the last old chunk closes, the stream state passes to the new engine. -/
  | streamHandover (handle : Handle)
  /-- DC_EXTENT_ACCEPTED (R289): A host accepts a dynamic capacity extent and gains access. -/
  | dcExtentAccepted (vfi : Vfi) (window : Fin 32) (port : Port)
  /-- DC_EXTENT_RELEASED (R289): A host releases an extent; the last release removes the window. -/
  | dcExtentReleased (vfi : Vfi) (window : Fin 32) (port : Port)
  /-- DC_RELEASE_TIMEOUT (R289): 10 s after a DC removal boundary the window is removed for all hosts. -/
  | dcReleaseTimeout (vfi : Vfi) (window : Fin 32)
  /-- VFI_FORCED_SETTLEMENT (R304): At reset execution plus CT, an instance's open work is settled by force. -/
  | vfiForcedSettlement (vfi : Vfi)
  /-- TENANT_MESSAGE_SEND (R298): Tenant CCI command placing an inbound mailbox message. -/
  | tenantMessageSend (port : Port) (body : List Byte)
  /-- TENANT_MESSAGE_GET (R299): Tenant CCI command fetching the outbound message. -/
  | tenantMessageGet (port : Port)
  /-- TENANT_COUNTER_READ (R301): Tenant CCI command reading a counter-window slot. -/
  | tenantCounterRead (port : Port) (slot : Fin 32)
  /-- CCI_IDENTIFY (R336): Switch mailbox Identify command. -/
  | cciIdentify (port : Port)
  /-- CCI_BACKGROUND_OPERATION_STATUS (R336): Switch mailbox Background Operation Status command. -/
  | cciBackgroundOperationStatus (port : Port)
  /-- CCI_GET_RESPONSE_MESSAGE_LIMIT (R336): Switch mailbox Get Response Message Limit command. -/
  | cciGetResponseMessageLimit (port : Port)
  /-- CCI_GET_TIMESTAMP (R336): Switch mailbox Get Timestamp command. -/
  | cciGetTimestamp (port : Port)
  /-- CCI_IDENTIFY_SWITCH_DEVICE (R336): Switch mailbox Identify Switch Device command for this virtual switch. -/
  | cciIdentifySwitchDevice (port : Port)
  /-- GET_VIRTUAL_CXL_SWITCH_INFO (R336): Switch mailbox Get Virtual CXL Switch Info command. -/
  | getVirtualCxlSwitchInfo (port : Port)
  /-- FM_IDENTIFY (R335): FM API Identify command over MCTP. -/
  | fmIdentify
  /-- FM_BACKGROUND_OPERATION_STATUS (R335): FM API Background Operation Status command. -/
  | fmBackgroundOperationStatus
  /-- GET_RESPONSE_MESSAGE_LIMIT (R335): FM API Get Response Message Limit command. -/
  | getResponseMessageLimit
  /-- SET_RESPONSE_MESSAGE_LIMIT (R335): FM API Set Response Message Limit command. -/
  | setResponseMessageLimit (bytes : Nat)
  /-- GET_TIMESTAMP (R335): FM API Get Timestamp command. -/
  | getTimestamp
  /-- SET_TIMESTAMP (R335): FM API Set Timestamp command that sets FTU_EPOCH. -/
  | setTimestamp (value : BitVec 64)
  /-- IDENTIFY_SWITCH_DEVICE (R335): FM API Identify Switch Device command for the current port page. -/
  | identifySwitchDevice
  /-- GET_PHYSICAL_PORT_STATE (R335): FM API Get Physical Port State command. -/
  | getPhysicalPortState (fmPort : Byte)
  /-- PHYSICAL_PORT_CONTROL (R335): FM API Physical Port Control command. -/
  | physicalPortControl (fmPort : Byte) (action : PpbAction)
  /-- TUNNEL_MANAGEMENT_COMMAND (R335): FM API Tunnel Management Command acting as PORT_CCI_TUNNEL. -/
  | tunnelManagementCommand (fmPort : Byte) (ld : BitVec 16) (request : List Byte)
  /-- PORT_PAGE_SELECT (R335): FM API vendor command selecting the session's port page. -/
  | portPageSelect (page : Byte)
  /-- GET_VERSION (R418): SPDM GET_VERSION request. -/
  | getVersion (via : SpdmVia) (request : List Byte)
  /-- GET_CAPABILITIES (R418): SPDM GET_CAPABILITIES request. -/
  | getCapabilities (via : SpdmVia) (request : List Byte)
  /-- NEGOTIATE_ALGORITHMS (R418): SPDM NEGOTIATE_ALGORITHMS request. -/
  | negotiateAlgorithms (via : SpdmVia) (request : List Byte)
  /-- GET_DIGESTS (R418): SPDM GET_DIGESTS request. -/
  | getDigests (via : SpdmVia) (request : List Byte)
  /-- GET_CERTIFICATE (R418): SPDM GET_CERTIFICATE request. -/
  | getCertificate (via : SpdmVia) (request : List Byte)
  /-- CHALLENGE (R418): SPDM CHALLENGE request. -/
  | spdmChallenge (via : SpdmVia) (request : List Byte)
  /-- GET_MEASUREMENTS (R418): SPDM GET_MEASUREMENTS request. -/
  | getMeasurements (via : SpdmVia) (request : List Byte)
  /-- KEY_EXCHANGE (R418): SPDM KEY_EXCHANGE request on K1024-F. -/
  | keyExchange (via : SpdmVia) (request : List Byte)
  /-- FINISH (R418): SPDM FINISH request on K1024-F. -/
  | spdmFinish (via : SpdmVia) (request : List Byte)
  /-- END_SESSION (R418): SPDM END_SESSION request on K1024-F. -/
  | endSession (via : SpdmVia) (request : List Byte)
  /-- DESCRIPTOR_FETCH_ISSUE (R314): The command engine issues a descriptor fetch for a pair with credit. -/
  | descriptorFetchIssue
  /-- DESCRIPTOR_FETCH_COMPLETE (R314): Descriptor data returns, or returns with an error and stops the pair. -/
  | descriptorFetchComplete (ring : Ring) (result : FetchResult)
  /-- FETCH_TIMEOUT (R330): A fetch without data in 50 ms stops the pair. -/
  | fetchTimeout (ring : Ring)
  /-- DESCRIPTOR_TAKE (R316): The pipeline takes the earliest waiting ring descriptor and passes it to the FTU or its unit. -/
  | descriptorTake
  /-- SIDE_ENTRY_TAKE (R317): The pipeline takes a command-acting register write or MCTP action from the side entry. -/
  | sideEntryTake
  /-- COMPLETION_IRQ_DELAY (R329): A completion ring's DELAY timer expires and its vector is sent. -/
  | completionIrqDelay (ring : Ring)
  /-- IMAGE_GATHERED (R358): The central reader finishes gathering a frozen image and snapshot entries are written. -/
  | imageGathered
  /-- RECORDER_SAMPLE (R361): Every second the recorder samples its quantities into the active bank. -/
  | recorderSample (r : Readings)
  /-- RECORD_SWAP (R365): A due swap takes place once the inactive bank is zero and 10 s have passed. -/
  | recordSwap
  /-- RECORD_WRITE_DONE (R368): A record's NOR write verifies or fails and the inactive bank is zeroed or kept. -/
  | recordWriteDone (ok : Bool)
  /-- TIME_ENTRY (R370): A time entry falls due and is programmed into the time area. -/
  | timeEntry (cause : TimeCause)
  /-- CHALLENGE_EXPIRY (R374): A clear challenge expires after 60 s. -/
  | challengeExpiry
  /-- FEED_SAMPLE (R383): Every 1 us a channel samples current and voltages and applies its limit. -/
  | feedSample (cage : Cage) (m : FeedMeasure)
  /-- FEED_RAMP_START (R386): A waiting channel with all start conditions and a ramp slot starts its ramp. -/
  | feedRampStart (cage : Cage)
  /-- OUTPUT_GOOD (R385): The feed output reaches good and the channel goes ON. -/
  | outputGood (cage : Cage)
  /-- FAST_COMPARATOR (R383): Current at 2 x ILIM switches the gate off within 1 us as a trip. -/
  | fastComparator (cage : Cage) (milliamps : Nat)
  /-- TSTART_EXPIRY (R387): TSTART expires during RAMP as a trip. -/
  | tstartExpiry (cage : Cage)
  /-- TRUN_EXPIRY (R387): TRUN expires during ON as a trip. -/
  | trunExpiry (cage : Cage)
  /-- OUTPUT_LOW (R387): VOUT below 10.0 V for 100 us during ON is a trip. -/
  | outputLow (cage : Cage)
  /-- RAMP_TIMEOUT (R387): A channel in RAMP past its ramp timeout trips. -/
  | rampTimeout (cage : Cage)
  /-- COOLDOWN_EXPIRY (R387): A cooldown ends and the channel goes to WAIT or OFF. -/
  | cooldownExpiry (cage : Cage)
  /-- EPISODE_END (R388): 10 s in ON without a trip resets TRIPS. -/
  | episodeEnd (cage : Cage)
  /-- OPEN_SENSE (R390): An open Kelvin line for 10 us latches the channel. -/
  | openSense (cage : Cage)
  /-- VOUT_OPEN (R390): An open FEED_VOUT line for 1 ms sets VOUT_OPEN. -/
  | voutOpen (cage : Cage)
  /-- FET_SHORT (R391): Current of 50 mA for 10 ms with the gate off latches the channel. -/
  | fetShort (cage : Cage)
  /-- SUPPLY_LOW (R391): SENP below 10.8 V while ON sets SUPPLY_LOW. -/
  | supplyLow (cage : Cage)
  /-- SCHEDULED_REMOVAL (R397): A scheduled feed removal falls due and the gate goes off. -/
  | scheduledRemoval (cage : Cage)
  /-- SHELF_WAKE_TIMEOUT (R396): No WAKE acknowledgement 2,000 ms after the boundary completes TIMEOUT. -/
  | shelfWakeTimeout (cage : Cage)
  /-- STARTUP (R407): Module reset is released and start-up begins at FT 0. -/
  | startUp
  /-- FTU_RUN (R407): Courses start running and the SRAM sweep, debounce and training begin. -/
  | ftuRun
  /-- SRAM_SWEPT (R240): The SRAM sweep ends; core and home run. -/
  | sramSwept
  /-- MEM_TRAINED (R227): All LPDDR6 channels finish training. -/
  | memTrained
  /-- FW_VERIFIED (R412): The boot image is read and verified, or recovery is entered. -/
  | fwVerified
  /-- FMP_READY (R409): The persistent store is loaded and the FMP answers configuration requests. -/
  | fmpReady (stores : StoreCheck)
  /-- EVR_RUN (R371): The recorder image is loaded and a start-up record is written. -/
  | evrRun
  /-- EQ_LOADED (R56): The equalisation table is read and checked, or defaults applied. -/
  | eqLoaded
  /-- PPU_RUN (R398): First debounce and sense check complete and AUTO channels start. -/
  | ppuRun
  /-- MEM_SWEPT (R238): The LPDDR6 zero sweep ends and READY may set. -/
  | memSwept
  /-- MSC_RETURNED (R415): The MSC firmware restart ends and held requests are answered. -/
  | mscReturned
  /-- ELECTRICAL_IDLE_ENTRY (R59): A port enters L1, or L0p idles some of its lanes, and those lanes enter electrical idle holding PLL, bias, CDR phase and DFE taps. -/
  | electricalIdleEntry (port : Port) (lanes : BitVec 16)
  /-- IDE_KM_MESSAGE (R96): An IDE key-management message arrives over DOE, as requester response on downstream and trunk ports or as request on upstream ports, and advances the stream toward Secure. -/
  | ideKmMessage (port : Port) (event : IdeEvent)
  /-- FMP_LINK_UP (R309): The FMP link reaches L0 and, with Bus Master Enable set, CMD_STATUS.FMP_UP becomes 1, allowing RESUME to act. -/
  | fmpLinkUp
  /-- REFRESH (R227): A per-bank LPDDR6 refresh falls due at the rate the device's refresh-rate indication asks for and takes the channel's slots. -/
  | memRefresh (ch : Chan) (bank : BitVec 4)
  /-- REFRESH_MANAGEMENT (R227): A bank reaches the device's activation-count threshold and the controller issues an RFM command. -/
  | refreshManagement (ch : Chan) (bank : BitVec 4)
  /-- MCTP_CONTROL_MESSAGE (R334): An MCTP control message from the bus owner arrives on the FMP, for example one assigning the endpoint's EID, which resets the port page to 0. -/
  | mctpControlMessage (eid : Option Byte)
  deriving DecidableEq, Repr

end Sys2Proof
end

