-- ==== Sys2Proof/WellFormed.lean ====
section
/-!
DEFINITION. Which commands are well formed: what the operand types alone do not rule out.
Descriptors of any bits are well formed, since the device clamps or refuses what is in them (R10).
-/

namespace Sys2Proof

/-- Access sizes on the FMP: 1, 2, 4 or 8 bytes (R7). -/
def accessSizeOk (n : Nat) : Bool := n == 1 || n == 2 || n == 4 || n == 8

/-- A register write is naturally aligned (R7). -/
def alignedAt (addr : BitVec 25) (n : Nat) : Bool := n != 0 && addr.toNat % n == 0

/-- A CXL.io message that carries data keeps the maximum payload of 512 bytes, a read the maximum request of
4,096; tags of CXL.io have 14 bits (R73). -/
def msgOk (m : Msg) : Bool :=
  decide (1 ≤ m.len) && match m.kind with
    | .ioMemWr | .ioCplOk => decide (m.len ≤ 512) && decide (m.tag.toNat < 2 ^ 14)
    | .ioMemRd | .ioAtomic | .ioSpace | .ioCfg => decide (m.len ≤ 4096) && decide (m.tag.toNat < 2 ^ 14)
    | _ => decide (m.len ≤ 4096)

/-- The check of one command. -/
def Instr.wf : Instr → Bool
  | .registerWrite addr size _ => accessSizeOk size && alignedAt addr size
  | .messageIngress _ msg => msgOk msg
  | .homeRequest _ msg => msgOk msg
  | .homeRwd _ msg => msgOk msg
  | .tenantMessageSend _ body => decide (body.length ≤ 1008)
  | .inletWrite _ _ bytes _ _ => decide (1 ≤ bytes) && decide (bytes ≤ 4096)
  | .linkUp _ t => decide (3 ≤ t.rate.val) && (t.laneOrder.length == 0 || t.laneOrder.length == 16)
  | .tunnelManagementCommand _ _ req => decide (4 ≤ req.length) && decide (req.length ≤ 4096)
  | _ => true

end Sys2Proof
end

