-- ==== Sys2Proof/Config.lean ====
section
/-!
DEFINITION. What an implementation fixes and what the manual leaves open. The opaque constants
have no body: no proof can see a value of theirs, so a claim holds whatever they are.
-/

namespace Sys2Proof

/-- The three variants of Table 00-2. -/
inductive Variant where
  | k1024F | k1024B | k512B
  deriving DecidableEq, Repr

namespace Config

/-- UNSAFE if evaluated, so never evaluated: the `n`-th value the manual does not state.
The state's counter `free` names the next `n` (log entry 3). -/
opaque freeNat : Nat → Nat

/-- The fused serial number before its one stated limit is applied (R439). -/
opaque serialRaw : BitVec 64

/-- GLB_SERIAL is never 0 (R439). -/
def serial : BitVec 64 := if serialRaw = 0 then 1 else serialRaw

/-- GLB_STEPPING, not fixed by the manual (R439). -/
opaque stepping : BitVec 24

/-- GLB_FW_ROM, the boot ROM version, not fixed by the manual (R439). -/
opaque romVersion : BitVec 16

/-- Digest of the boot ROM (R422, measurement block 1). -/
opaque romDigest : List Byte

/-- The hash that picks a trunk within a group, which the manual does not give (R95): of source and
destination PID for CXL.io, of destination PID and FMA[55:6] for CXL.mem. -/
opaque trunkHash : Nat → Nat → Nat

/-- By how much the inner pre-cursor shrinks when both pre-cursors must, which the manual does not
share out (R56): of the two magnitudes; the reader limits it to what reaches FS/2. -/
opaque preCursorCut : (cm2 cm1 : Nat) → Nat

/-- The check bits of the cell header's SECDED code, whose matrix the manual does not give (Table 05-1). -/
opaque headerEcc : BitVec 120 → BitVec 8

/-- What the DFE starts from, of a lane's loss at a rate code (Table 03-3, LOSS_64), and where background
adaptation has taken a lane: of the lane, where it started and for how long it has run (R57). -/
opaque dfeSeed : (rate loss : Nat) → Nat
opaque adaptCtle : (lane start elapsed : Nat) → Nat
opaque adaptDfe : (lane start elapsed : Nat) → Nat
opaque adaptSteps : (lane elapsed : Nat) → Nat

/-- Eye height and width that a lane's receiver measures at an instant, as LNK_LANE_EYE lays them out (R72). -/
opaque laneEye : (lane rate at16 : Nat) → BitVec 32

/-- What the converters of the module's input stage read at an instant: 0 voltage, 1 current, 2 power, 3 temperature of the
hot-swap FET, 4 of the lid (Table 15-10). -/
opaque inputReading : (what at16 : Nat) → Nat

/-- Bit errors that a lane's checker finds in a loop, of the lane, the loop's start and its length (R60). -/
opaque loopErrors : (lane start elapsed : Nat) → Nat

/-- C-2, C-1 and C+1 of a standard preset at a rate code, which the standard gives (R55). -/
opaque presetCursors : (rate preset : Nat) → Nat × Nat × Nat

/-- SECDED over bits [110:0] of a directory entry, whose code the manual does not give (R142). -/
opaque entryEcc : BitVec 111 → BitVec 8

/-- The BI-ID that a configuration write to the home memory device assigns, by register and data, if the standard's
back-invalidate configuration makes it one (R132). -/
opaque biAssign : (register : BitVec 64) → (data : BitVec 512) → Option (BitVec 12)

/-- SHA3-256, whose definition is the standard's (R369, R411). -/
opaque sha3 : List Byte → List Byte

/-- ML-DSA-44 verification of a signature over a digest under a public key (R374, R412). -/
opaque mldsaVerify : (key digest sig : List Byte) → Bool

/-- The four fused digests of signing keys (R412). -/
opaque signerDigest : Nat → List Byte

/-- The Alias key's signature over a digest (R419); the secret never leaves island 91 (R417). -/
opaque aliasSign : List Byte → List Byte

/-- The certificates of R417: 0 the chain, 1 DeviceID, 2 Alias. -/
opaque certificate : Nat → List Byte

/-- RESULT of FW_QUERY selector 0: how CONFIRMED and TRIAL are laid out is not given (R420). -/
opaque bootWord : (confirmedB : Bool) → (trial : Option Bool) → Nat

/-- The bytes of measurement blocks 3 and 4, whose layout is not given (R418), from their values. -/
opaque measurement : (block : Nat) → (values : List Nat) → List Byte

/-- The body of an SPDM response, which the SPDM standard gives (R418). -/
opaque spdmBody : (code : Nat) → (request : List Byte) → List Byte

/-- Bytes of a standard CXL CCI response that this manual leaves to the standard (R335, R336). -/
opaque cciBody : (code : Nat) → (fields : List Nat) → List Byte

end Config
end Sys2Proof
end

