-- ==== Sys2Proof/Machine/Table.lean ====
section
/-!
DEFINITION. Sparse tables by natural key in one canonical form: keys strictly rising, no entry
equal to what an unlisted key reads as. Equal tables are therefore equal lists. The manager's
memory, the LPDDR6 lines and every numbered group of registers are such tables.
-/

namespace Sys2Proof.Machine

/-- Entries by key, rising. -/
abbrev Tbl (α : Type) := List (Nat × α)

/-- What key `k` holds; `d` where it is not listed. -/
def tget {α : Type} (d : α) : Tbl α → Nat → α
  | [], _ => d
  | (j, a) :: t, k => if j = k then a else tget d t k

/-- Remove key `k`. -/
def terase {α : Type} : Tbl α → Nat → Tbl α
  | [], _ => []
  | (j, a) :: t, k => if j = k then terase t k else (j, a) :: terase t k

/-- Put `a` at key `k`, in rising place. -/
def tinsert {α : Type} : Tbl α → Nat → α → Tbl α
  | [], k, a => [(k, a)]
  | (j, b) :: t, k, a => if k < j then (k, a) :: (j, b) :: t else (j, b) :: tinsert t k a

/-- Write key `k`; writing the default removes the entry. -/
def tset {α : Type} [DecidableEq α] (d : α) (t : Tbl α) (k : Nat) (a : α) : Tbl α :=
  if a = d then terase t k else tinsert (terase t k) k a

/-- Change every listed entry, by key; one that becomes the default goes. -/
def tmap {α : Type} [DecidableEq α] (d : α) (f : Nat → α → α) : Tbl α → Tbl α
  | [] => []
  | (j, a) :: t => if f j a = d then tmap d f t else (j, f j a) :: tmap d f t

/-- The canonical form: keys strictly rising, no default listed. -/
def twf {α : Type} [DecidableEq α] (d : α) : Tbl α → Bool
  | [] => true
  | [(_, a)] => a ≠ d
  | (j, a) :: (k, b) :: t => (decide (a ≠ d) && decide (j < k)) && twf d ((k, b) :: t)

end Sys2Proof.Machine
end

