-- ==== Sys2Proof/Machine/State.lean ====
section
/-!
DEFINITION. The state of the module as plain data, unit by unit, and the state right after reset.
Every field's default value is its reset value: the manual's where it states one, and otherwise
the value that notes/assumptions names (log entries 1 and 2). Times are in phase units of 1/16 ns
(`Nat`) unless a field says ns.
-/

namespace Sys2Proof.Machine

/-- Faults. R341: the FMP never answers with an error, and no command stops the module. -/
inductive Fault where
  /-- Raised by no command of this model: nothing in the manual's map is a hole that stops (R339,
  R341). Kept so that the type is inhabited. Safe. -/
  | outsideMap (addr : Nat)
  deriving DecidableEq, Repr

/-- Refusals. -/
inductive Refusal where
  /-- Raised by a dispatch arm whose command has no meaning yet. Safe. -/
  | notModelled (mnemonic : String)
  deriving DecidableEq, Repr

/-! ### Shared pieces -/

/-- Who waits for a completion: source, tag, and what R320 carries besides status and result. -/
structure Ticket where
  src : Src := .side
  tag : Nat := 0
  quiet : Bool := false
  op : Nat := 0
  /-- FT at which the command took effect (R320), in ns. -/
  ft : Nat := 0
  /-- Lowest clamped descriptor byte offset (R322). -/
  clamp : Option Nat := none
  late : Bool := false
  /-- What the command read in the manager's memory when it was accepted (R257). -/
  data : List Byte := []
  /-- Pair, opcode range and TARGET of a command with LAUNCH = 0, which execute in ring order (R318). -/
  order : Option (Nat × Nat × Nat) := none
  /-- The command came by way of the launch queue (R44). -/
  launched : Bool := false
  deriving DecidableEq, Repr

/-- A target of a placement (R182); in a backing request `base` is the line's own address there. -/
structure Target where
  pool : Bool := false
  port : Nat := 0
  ld : Nat := 0
  base : Nat := 0
  deriving DecidableEq, Repr

/-- A character of the shelf link's 8b/10b code: a control or a data character (R64). -/
inductive SlChar where
  | k (x : Byte)
  | d (x : Byte)
  deriving DecidableEq, Repr

/-- Whom a memory island answers: a slice's transaction, a slice's write, a bucket read, or nobody. -/
inductive MemUser where
  | backing (slice txn : Nat)
  | write (slice line : Nat)
  | bucket (slice txn : Nat)
  | other
  deriving DecidableEq, Repr

/-- Return codes of the CCI and the FM API that this manual names (Tables 11-6, 12-15). -/
inductive CciRet where
  | success | unsupported | busy | invalidInput | retry
  deriving DecidableEq, Repr

/-- Things that cross a connector, a pin or an internal channel, in the order they do. The list of
them in the state is the model's own record; no unit reads it. -/
inductive Output where
  | msix (vector : Nat)
  | wire (port : Port) (msg : Msg)
  | toHome (slice : Slice) (msg : Msg)
  | toEngine (engine : Nat) (msg : Msg)
  /-- A message that a slice, an engine or Port Logic issues into the core. -/
  | issue (src : IngressSrc) (msg : Msg)
  /-- A response that Port Logic forms for the requester's port. -/
  | reply (port : Nat) (msg : Msg)
  /-- What a memory island answers to a slice. -/
  | memData (user : MemUser) (data : BitVec 512) (poison : Bool)
  | memAck (user : MemUser)
  /-- Characters on a shelf link: idle pairs, and a frame with the idle pairs that part it from the next (R64). -/
  | slFrame (cage : Cage) (chars : List SlChar)
  | slIdle (cage : Cage) (chars : List SlChar)
  /-- The PRBS15 sequence of a far-end loop, an idle pair after every 256 characters (R70). -/
  | slPrbs (cage : Cage)
  /-- What a lane reflects when its partner asks for a setting (R57). -/
  | eqAnswer (lane rate : Nat) (setting : TxSetting) (accepted : Bool)
  /-- The port leads its partner into the standard Loopback state (Table 03-7). -/
  | loopLead (port : Port) (pattern rate : Nat)
  /-- A presence or link change that a port's virtual slot reports to the owning instance (R90). -/
  | slotEvent (vfi : Nat) (port : Port) (link on : Bool)
  | zeroP (src dst : Slice) (page : Nat)
  | zeroAnswer (src dst : Slice) (page : Nat)
  | doneP (src dst : Slice) (page : Nat)
  | hotReset (port : Port)
  | retrain (port : Port)
  | cciRequest (port : Port) (ld : Nat) (body : List Byte)
  | cciReply (port : Port) (op : Nat) (ret : CciRet) (body : List Byte)
  | fmReply (op : Nat) (ret : CciRet) (body : List Byte)
  | spdm (via : SpdmVia) (code : Nat) (body : List Byte)
  | spdmError (via : SpdmVia)
  | ideKm (port : Port) (start : Bool)
  | mailIrq (vfi : Nat) (port : Nat)
  /-- A dynamic-capacity extent offered to, or asked back from, the hosts at `ports` (R79, R289). -/
  | capacity (vfi window : Nat) (add : Bool) (ports : List Nat)
  | gate (cage : Cage) (on : Bool)
  | pfail (low : Bool)
  | syncOut (ft : Nat) (high : Nat)
  | islandAnnounce (boundary : Nat)
  | streamControl (handle advice : Nat) (seq runway hint pos t64 : Nat)
  /-- Messages that an engine issues at its internal port, or over its channels to the islands. -/
  | streamTlp (handle pos bytes : Nat) (poison : Bool)
  | statusRead (handle : Nat)
  | ctrlRead (handle : Nat)
  | ctrlWrite (handle pos t64 : Nat)
  | stagingRead (handle pos bytes : Nat)
  | delivery (handle pos bytes : Nat) (poison : Bool)
  | siltWrite (handle pos bytes : Nat) (poison : Bool)
  | siltRead (handle pos bytes : Nat)
  | refreshed (ch : Chan) (bank : Nat) (management : Bool)
  | margin (port : Port)
  deriving DecidableEq, Repr

/-! ### Global window (Table 13-3) -/

/-- Why the module is held in module reset (R404, R405, R380). -/
inductive Hold where
  | resetPin | resetCtrl | thermal | supply
  deriving DecidableEq, Repr

structure Glb where
  ready : Bool := false
  fmpReady : Bool := false
  sramSwept : Bool := false
  fwVerified : Bool := false
  ftuRun : Bool := false
  eqLoaded : Bool := false
  coreRun : Bool := false
  homeRun : Bool := false
  memTrained : Bool := false
  memSwept : Bool := false
  mseRun : Bool := false
  ppuRun : Bool := false
  evrRun : Bool := false
  readyFt : Nat := 0
  notReadyWr : Nat := 0
  causeModule : Nat := 1
  causeMsc : Nat := 0
  mscCount : Nat := 0
  /-- GLB_ERR_SUMMARY as last seen, for the rising edges of R350. -/
  lastSummary : Nat := 0
  irqVec : Nat := 0
  irqEn : Bool := false
  irqMask : Nat := 0
  scratch : Word := 0
  /-- A KIND 1 or KIND 2 reset requested, and when it falls due (R349). -/
  resetDue : Option (Nat × Nat) := none
  deriving DecidableEq, Repr

/-! ### FMP and MCTP (R309, R334, R350) -/

structure MsixEntry where
  addr : BitVec 64 := 0
  data : Word := 0
  masked : Bool := true
  deriving DecidableEq, Repr

/-- The SPDM requests that the MSC answers (R418). -/
inductive SpdmReq where
  | version | capabilities | algorithms | digests | certificate | challenge | measurements
  | keyExchange | finish | endSession
  deriving DecidableEq, Repr

/-- A request that the MSC serves over MCTP or DOE (R334, R335, R418). -/
inductive MscReq where
  | identify | backgroundStatus | getLimit
  | setLimit (bytes : Nat)
  | getTimestamp
  | setTimestamp (value : BitVec 64)
  | switchDevice
  | portState (fmPort : Byte)
  | portControl (fmPort : Byte) (action : PpbAction)
  | tunnel (fmPort : Byte) (ld : BitVec 16) (request : List Byte)
  | page (page : Byte)
  | control (eid : Option Byte)
  | spdm (via : SpdmVia) (kind : SpdmReq) (request : List Byte)
  deriving DecidableEq, Repr

structure Fmp where
  linkUp : Bool := false
  bme : Bool := false
  msixEn : Bool := false
  table : Tbl MsixEntry := []
  /-- MSI-X pending bits. -/
  pend : List Nat := []
  /-- Vectors with entries waiting because a master enable is 0 (R329). -/
  waiting : List Nat := []
  /-- Vectors whose message the present command has sent: one message for all that fire in one cycle (R350). -/
  sent : List Nat := []
  /-- The captured _HI half and the offset of the register that returns it (R8). -/
  holdHi : Option (Nat × Word) := none
  holdPhase : Nat := 0
  /-- Staged _LO halves (R8). -/
  stagedLo : Tbl Word := []
  eid : Option Byte := none
  portPage : Nat := 0
  msgLimit : Nat := 256
  /-- Requests held during an MSC firmware restart: up to 8 over MCTP (R334), and those that wait in the
  DOE mailboxes (R415). -/
  heldReqs : List MscReq := []
  deriving DecidableEq, Repr

/-! ### Command engine (Table 12-17) -/

/-- A completion entry before it has a place in its ring (Table 12-4). -/
structure Completion where
  tag : Nat := 0
  status : Nat := 0
  clamped : Bool := false
  late : Bool := false
  ft : Nat := 0
  result : Word := 0
  quiet : Bool := false
  deriving DecidableEq, Repr

/-- States of Table 12-11. -/
inductive RingState where
  | disabled | running | suspended | stopped
  deriving DecidableEq, Repr

/-- A descriptor that has arrived and is not yet taken, with its acceptance stamp (R316). -/
structure WaitDesc where
  desc : BitVec 512
  stamp : Nat
  deriving DecidableEq, Repr

/-- An open descriptor fetch (R314). -/
structure Fetch where
  first : Nat
  count : Nat
  at16 : Nat
  deriving DecidableEq, Repr

structure RingPair where
  sqBase : Nat := 0
  cqBase : Nat := 0
  log2 : Nat := 6
  en : Bool := false
  holdKeep : Bool := false
  vec : Nat := 0
  irqEn : Bool := false
  irqCount : Nat := 0
  irqDelay : Nat := 0
  sqHead : Nat := 0
  sqTail : Nat := 0
  cqHead : Nat := 0
  cqTail : Nat := 0
  phase : Bool := false
  state : RingState := .disabled
  fetchErr : Bool := false
  dbClamp : Bool := false
  clamps : Nat := 0
  lastClamp : Nat := 0
  discard : Nat := 0
  inflight : Nat := 0
  held : List Completion := []
  waiting : List WaitDesc := []
  fetch : Option Fetch := none
  /-- Doorbells that cover descriptors not yet fetched, oldest first: index and stamp (R314). -/
  bells : List (Nat × Nat) := []
  /-- Entries since the last interrupt, and when the first of them was written (R329). -/
  sinceIrq : Nat := 0
  firstAt : Option Nat := none
  deriving DecidableEq, Repr

structure DevRing where
  base : Nat := 0
  log2 : Nat := 6
  en : Bool := false
  holdKeep : Bool := false
  vec : Nat := 0
  irqEn : Bool := false
  head : Nat := 0
  tail : Nat := 0
  phase : Bool := false
  state : RingState := .disabled
  lost : Bool := false
  lostCount : Nat := 0
  lostBefore : Bool := false
  /-- Held entries, without their PHASE and LOST_BEFORE bits (R325). -/
  held : List (List Byte) := []
  seq : Nat := 0
  deriving DecidableEq, Repr

/-- A command-acting register write or an MCTP action in the side entry (R317). -/
structure SideCmd where
  op : Nat
  cmd : Cmd
  /-- An action requested over MCTP, and the request that a tunnelled one carries (R335). -/
  mctp : Bool := false
  data : List Byte := []
  deriving DecidableEq, Repr

/-- A command that its unit holds until an earlier one of its pair, range and TARGET has executed (R318). -/
structure Behind where
  op : Nat
  cmd : Cmd
  data : List Byte := []
  deriving DecidableEq, Repr

structure CmdUnit where
  pairs : Tbl RingPair := []
  dev : Tbl DevRing := []
  regClamp : Nat := 0
  accepted : Nat := 0
  evtFilter : BitVec 256 := BitVec.allOnes 256
  side : List SideCmd := []
  /-- Commands held behind one that still executes, in the order in which they were taken (R318). -/
  behind : List Behind := []
  /-- Every eighth cycle serves the side entry (R317). -/
  cycle : Nat := 0
  /-- FT of the FMP loss for which RINGS_RESTORED is still owed (R330). -/
  lossFt : Option Nat := none
  deriving DecidableEq, Repr

/-! ### Fabric Time Unit (Table 02-7) -/

/-- An action in the FTU launch queue (R41 to R45). -/
structure Launch where
  op : Nat
  cmd : Cmd
  launch : Nat
  accepted : Nat
  /-- Acceptance time A of R41, in ns. -/
  a : Nat
  /-- Course-aligned, or an instant action that arrived too late for its instant. -/
  aligned : Bool
  /-- Effective time E of R41, in ns. -/
  e : Nat
  clamped : Bool
  /-- What the command read in the manager's memory when it was accepted (R257). -/
  data : List Byte := []
  deriving DecidableEq, Repr

structure Ftu where
  lenLog2 : Nat := 13
  courseNum : Nat := 0
  boundary : Nat := 0
  nextBoundary : Nat := 8192
  inEn : Bool := false
  pol : Nat := 0
  standby : Bool := false
  period : Nat := 8192
  ratio : Nat := 1
  inDelay : Nat := 0
  locked : Bool := false
  present : Bool := false
  source : Bool := false
  holdover : Bool := false
  badPeriod : Bool := false
  outlier : Bool := false
  lockLost : Bool := false
  reacquired : Bool := false
  phaseErr : Int := 0
  periodMeas : Nat := 0
  /-- Reference edge and last valid edge, in phase units. -/
  refEdge : Option Nat := none
  lastValid : Option Nat := none
  /-- The same for the SYNC_OUT pair used as a second input (R38). -/
  ref2 : Option Nat := none
  valid2 : Option Nat := none
  enabledAt : Nat := 0
  /-- The last five edges of the two pairs, newest first, with their direction (R37). -/
  edges : List (Nat × Bool) := []
  edges2 : List (Nat × Bool) := []
  intervals : List Nat := []
  /-- Number and FT of the last boundaries, newest first, for the nearest-boundary rule. -/
  recent : List (Nat × Nat) := [(0, 0)]
  aligned : Option Nat := none
  lastAligned : Option Nat := none
  eRem : Int := 0
  hadLock : Bool := false
  wideRun : Nat := 0
  outlierRun : Nat := 0
  outEn : Bool := false
  adv : Nat := 0
  outDiv : Nat := 1
  outDone : Option Nat := none
  /-- FT at which SYNC_OUT began to drive, in ns. -/
  outFrom : Nat := 0
  lateCount : Nat := 0
  stepCount : Nat := 0
  islandStep : Bool := false
  alarms : BitVec 96 := 0
  epochLo : Word := 0
  epochHi : Word := 0
  refLost : Bool := false
  launches : List Launch := []
  /-- TIME_ISLAND_CHECK commands waiting for a beacon. -/
  checks : List Ticket := []
  /-- Last beacon sent, in ns. -/
  lastBeacon : Nat := 0
  deriving DecidableEq, Repr

/-! ### Lane Complex (Tables 03-3, 03-12) -/

/-- A lane entry of the equalisation table (Table 03-3), after the checks of R56. -/
structure EqLane where
  tx8 : Nat := 7
  tx16 : Nat := 7
  tx32 : Nat := 7
  tx64 : Nat := 4
  req8 : Nat := 7
  req16 : Nat := 7
  req32 : Nat := 7
  req64 : Nat := 4
  custom64 : Bool := false
  custom32 : Bool := false
  unused : Bool := false
  cm2 : Nat := 0
  cm1 : Nat := 0
  cp1 : Nat := 0
  c32m1 : Nat := 0
  c32p1 : Nat := 0
  ctle64 : Nat := 8
  ctleLow : Nat := 8
  loss : Nat := 0
  deriving DecidableEq, Repr

structure LaneSt where
  rate : Nat := 0
  idle : Bool := false
  polInv : Bool := false
  reversed : Bool := false
  miswired : Bool := false
  cdrLock : Bool := false
  loop : Nat := 0
  pattern : Nat := 0
  loopRate : Nat := 0
  txPreset : Nat := 0
  txCustom : Bool := false
  txCm1 : Nat := 0
  txCp1 : Nat := 0
  txCm2 : Nat := 0
  reqPreset : Nat := 0
  partner : Nat := 0
  ovrEn : Bool := false
  ovrRate : Nat := 0
  ovrTx : Nat := 0
  ovrReq : Nat := 0
  ctle : Nat := 0
  dfe : Nat := 0
  adapts : Nat := 0
  eye : Word := 0
  loopErr : Nat := 0
  loopBits : Nat := 0
  /-- Since when the receiver adapts from `ctle` and `dfe` (R57), and the loop counts (R60). -/
  adaptAt : Nat := 0
  loopAt : Option Nat := none
  deriving DecidableEq, Repr

/-- A shelf link's receive states (Table 03-8). -/
inductive SlState where
  | off | search | aligned | locked | active | loop
  deriving DecidableEq, Repr

/-- A message queued for a shelf, until it is acknowledged (R67). -/
structure SlMsg where
  kind : Nat
  seq : Nat
  payload : List Byte
  sent : Nat := 0
  lastAt : Nat := 0
  deriving DecidableEq, Repr

structure ShelfLink where
  en : Bool := true
  pol : Nat := 0
  state : SlState := .off
  inverted : Bool := false
  lockLost : Bool := false
  noResponse : Bool := false
  crcErr : Bool := false
  delay : Nat := 0
  power : Nat := 0
  current : Nat := 0
  temp : Nat := 0
  overLimit : Bool := false
  codeErr : Nat := 0
  crcCount : Nat := 0
  ident : BitVec 128 := 0
  kind : Nat := 0
  caps : Nat := 0
  /-- The error score, and the good characters in a row since it last changed (R65). -/
  score : Nat := 0
  goodRun : Nat := 0
  alignedAt : Nat := 0
  txSeq : Nat := 0
  queue : List SlMsg := []
  /-- SEQ of the last accepted frame by type (R67). -/
  lastRx : Tbl (Option Nat) := []
  delays : List Nat := []
  t1 : Option (Nat × Nat) := none
  lastReq : Nat := 0
  lastTime : Nat := 0
  loopEnd : Nat := 0
  loopCmd : Option Ticket := none
  loopMs : Nat := 0
  delayCmd : Option Ticket := none
  /-- Pending warning levels with the instant each carries, and when each was last sent (R395). -/
  warns : List (Nat × Nat × Nat) := []
  deriving DecidableEq, Repr

structure TileLnk where
  forceOff : Bool := false
  powered : Bool := false
  pllLock : Bool := false
  poweredAt : Nat := 0
  src : Bool := false
  badEntries : Nat := 0
  deriving DecidableEq, Repr

structure Lnk where
  tiles : Tbl TileLnk := []
  lanes : Tbl LaneSt := []
  eq : Tbl EqLane := []
  /-- Swing, de-emphasis and equaliser step of each shelf link (Table 03-4). -/
  slEq : Tbl (Nat × Nat × Nat) := []
  links : Tbl ShelfLink := []
  /-- Far-end follower loops allowed, by port (R60). -/
  follow : List Nat := []
  deriving DecidableEq, Repr

/-! ### Cells (Table 05-1) -/

/-- A cell: the header of Table 05-1 and the message it belongs to. -/
structure Cell where
  dstTile : Nat
  dstOff : Nat
  srcTile : Nat
  srcOff : Nat
  cls : Nat
  vfi : Nat
  stamp : Nat
  seq : Nat
  lgen : Nat
  poison : Nat
  type : Nat
  first : Bool
  last : Bool
  quarters : Nat
  msg : Msg
  /-- Cells of the message from this one on. -/
  left : Nat
  place : Nat
  /-- Slot in which the cell entered its egress queue (R114). -/
  slotIn : Nat := 0
  /-- Its request has been counted as waiting for a tracker entry (R87). -/
  waited : Bool := false
  deriving DecidableEq, Repr

/-- A CXL.mem message whose slots are still arriving: its ingress stamp, the slots to come, and the cells that
wait for them once the message has entered the core (R81, R82). -/
structure OpenIn where
  stamp : Nat
  slots : Nat
  rest : List Cell := []
  deriving DecidableEq, Repr

/-! ### Port Logic (Table 04-8) -/

/-- Port states (Table 04-3), in the order of PRT_PORT_STATUS.STATE. -/
inductive PortState where
  | disabled | detect | training | up | contained | loop
  deriving DecidableEq, Repr

/-- An open tunnelled CCI request (R93). -/
structure Tunnel where
  ticket : Ticket
  fm : Bool
  respAddr : Nat
  capacity : Nat
  deadline : Nat
  deriving DecidableEq, Repr

/-- Settings of PRT_PORT_CFG (Table 04-9). -/
structure PortCfg where
  en : Bool := false
  width : Nat := 4
  role : Nat := 0
  maxRate : Nat := 6
  allow68 : Bool := true
  allowLopt : Bool := true
  shelfGate : Bool := false
  dpcEn : Bool := true
  dpcAuto : Bool := false
  dpcCpl : Bool := false
  deriving DecidableEq, Repr

structure PortSt where
  cfg : PortCfg := {}
  state : PortState := .disabled
  width : Nat := 0
  rate : Nat := 0
  mode : Nat := 0
  cxl : Bool := false
  mld : Bool := false
  dcd : Bool := false
  shelfHold : Bool := false
  gen : Nat := 0
  edge : Option Nat := none
  err : BitVec 8 := 0
  replay : Nat := 0
  fec : Nat := 0
  poisonOut : Nat := 0
  npSynth : Nat := 0
  linkupTime : Nat := 0
  ldMap : Nat := 0
  ideRequired : Bool := false
  ideState : Nat := 0
  keySet : Nat := 0
  ideFail : Nat := 0
  ideRefresh : Nat := 0
  /-- Bindings active (R88, R285). -/
  active : Bool := false
  /-- Start of the link-up time of R98. -/
  from16 : Nat := 0
  /-- End of Detect.Quiet after a refused mode or a link-down (12 ms). -/
  quietUntil : Nat := 0
  tunnel : Option Tunnel := none
  group : Option Nat := none
  /-- The CXL.mem message of which only some flits have arrived (R81, R82). -/
  openMsg : Option OpenIn := none
  /-- Mode, pattern and rate of the lane loop that the port runs (R60). -/
  loopReq : Option (Nat × Nat × Nat) := none
  /-- ERR_FATAL logged under AER on an upstream port (R90). -/
  aer : Bool := false
  /-- Home allowance A (R139). -/
  allow : Nat := 6
  /-- Messages held in the receive buffer for home allowance (R138). -/
  heldMsgs : List Msg := []
  deriving DecidableEq, Repr

/-- A tracker entry (R87). -/
structure Tracker where
  port : Nat
  tag : Nat
  requester : Nat
  kind : MsgKind
  addr : Nat
  /-- Address at the target. -/
  dev : Nat := 0
  gen : Nat
  epoch : Nat
  vfi : Nat
  lines : Nat
  rid : Nat
  /-- The requester is a home slice, or an engine. -/
  home : Bool := false
  engine : Bool := false
  /-- Counted settled by force while the answer is still to come (Table 08-12). -/
  settled : Bool := false
  /-- Ingress stamp of the request, in full (R27). -/
  stamp : Nat := 0
  /-- Logical device that the request is for. -/
  ld : Nat := 0
  /-- Source PID of a request that came over a trunk. -/
  pid : Nat := 0
  /-- Settled by an instance's forced settlement (R304). -/
  cut : Bool := false
  deriving DecidableEq, Repr

structure Prt where
  ports : Tbl PortSt := []
  trackers : Tbl (List Tracker) := []
  trkFull : Tbl Nat := []
  /-- Responses that matched no tracker entry of the current generation, by tile (R87). -/
  strays : Tbl Nat := []
  pbrDev : Option Nat := none
  /-- Trunk group of each remote device number. -/
  routes : Tbl (Option Nat) := []
  deriving DecidableEq, Repr

/-! ### Switch Core (Tables 05-1, 05-9) -/

/-- A cell place that is not free (R127, R128). -/
structure Place where
  held : Bool
  takenAt : Nat
  qLap : Nat := 0
  deriving DecidableEq, Repr

/-- A pending request or an assignment for the meeting at slot `slot` (R109). -/
structure Meeting where
  slot : Nat
  peer : Nat
  tiles : List Nat
  /-- The heads named, one for each entry: place, stamp and cells left, which no two cells share. -/
  cells : List (Nat × Nat × Nat) := []
  deriving DecidableEq, Repr

/-- A message whose head has left an egress port and whose remaining cells follow (R118). -/
structure OpenOut where
  cell : Cell
  left : Nat
  poison : Bool
  deriving DecidableEq, Repr

/-- A cell in flight on a core channel (R13, R108). -/
structure Flight where
  stage2 : Bool
  src : Nat
  dst : Nat
  cell : Cell
  at16 : Nat
  deriving DecidableEq, Repr

structure PortCap where
  inCap : Nat := 64
  egCap : Nat := 256
  used : Nat := 0
  stopN : Bool := false
  stopC : Bool := false
  stopR : Bool := false
  deriving DecidableEq, Repr

structure TileSwc where
  inCells : Nat := 6144
  ageLog2 : Nat := 22
  agedCount : Nat := 0
  agedNp : Nat := 0
  genDiscard : Nat := 0
  reseqLost : Nat := 0
  hdrCorr : Nat := 0
  hdrUnc : Nat := 0
  leakCount : Nat := 0
  lap : Nat := 0
  auditPtr : Nat := 0
  waitMax : Nat := 0
  holdMax : Nat := 0
  err : BitVec 6 := 0
  /-- Places that are not free. -/
  places : Tbl (Option Place) := []
  /-- The per-state counters of R128. -/
  freeCount : Nat := 16384
  heldCount : Nat := 0
  quarCount : Nat := 0
  /-- Virtual output queues, all in one list in arrival order (R106). -/
  voq : List Cell := []
  /-- Stage-2 queues with arrival slots (R111). -/
  stage2 : List (Nat × Cell) := []
  /-- Resequencer with arrival slots (R114). -/
  reseq : List (Nat × Cell) := []
  /-- Egress queues, all in one list in order of entry (R107). -/
  egress : List Cell := []
  seqOut : Tbl Nat := []
  expect : Tbl Nat := []
  requests : List Meeting := []
  asks : List Meeting := []
  assigned : List Meeting := []
  caps : Tbl PortCap := []
  /-- Credit balance by offset and VFI (R126). -/
  credit : Tbl Int := []
  /-- State and generation of each port as this tile knows them (R122). -/
  known : Tbl (Bool × Nat) := []
  /-- By lane offset: the message whose head has left (R118). -/
  openOut : Tbl (Option OpenOut) := []
  /-- Cells aged in this course: count and oldest stamp by port (R120). -/
  aged : Tbl (Nat × Nat) := []
  /-- Instances that have reached their buffer quota here and have not yet fallen 64 cells below it
  (R290). -/
  full : List Nat := []
  deriving DecidableEq, Repr

structure Swc where
  tiles : Tbl TileSwc := []
  flights : List Flight := []
  /-- Cells discarded on the way for a header error, until their egress tile has declared them lost (R116). -/
  lost : List Cell := []
  deriving DecidableEq, Repr

/-! ### Access Control Unit (Tables 08-3 to 08-9, 08-16) -/

structure ReqEntry where
  valid : Bool := false
  hostDma : Bool := false
  vfi : Nat := 0
  rd : BitVec 256 := 0
  wr : BitVec 256 := 0
  deriving DecidableEq, Repr

/-- One bank of the tables. -/
structure AcuBank where
  regions : Tbl (BitVec 128) := []
  plinth : Tbl (BitVec 128) := []
  windows : Tbl (BitVec 128) := []
  tags : Tbl Byte := []
  req : Tbl ReqEntry := []
  /-- RID_BASE and LD_COUNT by port. -/
  portMap : Tbl (Nat × Nat) := []
  /-- Colour masks of the instances (R294). -/
  colours : Tbl (BitVec 256) := []
  deriving DecidableEq, Repr

/-- An epoch slot (R217). -/
structure EpochSlot where
  epoch : Option Nat := none
  /-- Signed counts by island. -/
  counts : Tbl Int := []
  latched : Int := 0
  /-- FT of the boundary that ended the epoch. -/
  endedAt : Option Nat := none
  /-- A latched sum of zero has been seen after that boundary (R219). -/
  zeroSeen : Bool := false
  forced : Nat := 0
  ticket : Option Ticket := none
  newEpoch : Nat := 0
  cutDone : Bool := false
  /-- ACU_DRAIN_TO as the commit was accepted with it, in ms (R223). -/
  ct : Nat := 0
  deriving DecidableEq, Repr

/-- Rejections of one RID at one station in this course (R221). -/
structure Coalesce where
  island : Nat
  rid : Nat
  later : Nat := 0
  first : List Byte := []
  deriving DecidableEq, Repr

/-- An ACU_TAG_SET that writes its tags: it executes when the last one is written (R213). -/
structure TagWrite where
  ticket : Ticket
  first : Nat
  tags : List Byte
  /-- FT of the last tag, in ns. -/
  at' : Nat
  deriving DecidableEq, Repr

/-- A station's fetch of a line of 64 colour tags that is open at the central table (R210). -/
structure TagFetch where
  island : Nat
  line : Nat
  /-- STAMP of the message that needs it (R211). -/
  stamp : Nat
  /-- When the fetch was opened, in phase units (Table 08-18). -/
  at16 : Nat := 0
  deriving DecidableEq, Repr

structure Acu where
  active : AcuBank := {}
  staged : AcuBank := {}
  service : Bool := false
  commitPending : Bool := false
  commitMode : Nat := 0
  /-- CT in effect when the pending commit was accepted, in ms (R223). -/
  commitCt : Nat := 0
  staging : Bool := false
  plinthDma : Bool := false
  bank : Bool := false
  epoch : Nat := 0
  drainTo : Nat := 16
  slot0 : EpochSlot := {}
  slot1 : EpochSlot := {}
  slot2 : EpochSlot := {}
  slot3 : EpochSlot := {}
  forced : Nat := 0
  violTotal : Nat := 0
  err : BitVec 5 := 0
  hits : Tbl Nat := []
  misses : Tbl Nat := []
  viol : Tbl Nat := []
  eccC : Tbl Nat := []
  eccU : Tbl Nat := []
  course : List Coalesce := []
  /-- Colour tags each station holds, newest first (R210), by island. -/
  cached : Tbl (List Nat) := []
  fetches : List TagFetch := []
  /-- Table entries found uncorrectable: table code of Table 12-9 and index (R212). -/
  bad : List (Nat × Nat) := []
  /-- Tag writes in progress, in order (R213). -/
  writes : List TagWrite := []
  /-- End of the last staging write taken (R213), in ns. -/
  stagedAt : Nat := 0
  deriving DecidableEq, Repr

/-! ### Coherence Home (Tables 06-1, 06-9, 07-1 to 07-6) -/

structure HostEntry where
  /-- The local port is upstream no more; the CHN is released once its host loss has been applied (R134). -/
  leaving : Bool := false
  who : Nat := 0
  inc : Nat := 0
  valid : Bool := false
  remote : Bool := false
  pending : Nat := 0
  /-- BI-ID that host software gave the home memory device (R132). -/
  biId : BitVec 12 := 0
  deriving DecidableEq, Repr

/-- A directory entry (Table 06-1); the codes of STATE are those of Table 06-2. -/
structure DirEntry where
  state : Nat := 0
  coarse : Bool := false
  /-- CHN and INC, in pointer order. -/
  ptrs : List (Nat × Nat) := []
  groups : BitVec 64 := 0
  charge : Nat := 0
  deriving DecidableEq, Repr

/-- A way of the directory cache with its metadata (Table 07-1); PIN is counted from the open
transactions of its line. -/
structure Way where
  line : Nat
  entry : DirEntry
  refd : Bool := true
  stored : Bool := false
  changed : Bool := false
  deriving DecidableEq, Repr

/-- Request classes of Table 06-3. -/
inductive ReqClass where
  | rdS | rdA | rdD | rdCur | invA | invI | evct | wr
  deriving DecidableEq, Repr

/-- What a transaction does. -/
inductive TxnKind where
  | request
  /-- A request to a private region of the local pool (R146). -/
  | direct
  | recovery
  | hostInval (trim : Bool)
  | move (place : Nat)
  deriving DecidableEq, Repr

/-- The snoop that a transaction waits on (R151). -/
inductive Snoop where
  | none | inv | data | cur
  deriving DecidableEq, Repr

/-- An open transaction of a slice that has left the wait list. -/
structure Txn where
  id : Nat
  line : Nat
  kind : TxnKind
  msg : Msg
  /-- Requester's CHN; none for engines and the home's own work. -/
  chn : Option Nat := none
  /-- Blocking state code (Table 06-2). -/
  block : Nat := 8
  /-- Waiting for a directory-store bucket, so not yet decided (R176). -/
  storeRead : Bool := false
  snoop : Snoop := .none
  /-- Hosts whose BIRsp is outstanding. -/
  await : List Nat := []
  /-- The owner snooped. -/
  owner : Option Nat := none
  /-- The owner's answer: 0 I, 1 S, 2 E. -/
  answer : Nat := 0
  /-- The owner has answered and its writeback is owed (B_WB_OWED). -/
  wbOwed : Bool := false
  wbSeen : Bool := false
  /-- The response needs the line's data. -/
  needData : Bool := false
  data : Option (BitVec 512 × Bool) := none
  /-- A backing read is outstanding. -/
  reading : Bool := false
  /-- Bytes of the write buffer at the issue of that read (R149). -/
  overData : BitVec 512 := 0
  overMask : BitVec 64 := 0
  overPoison : Bool := false
  /-- A move that waits for the line's writes to be acknowledged (R183). -/
  settling : Bool := false
  snoopEnd : Option Nat := none
  wbEnd : Option Nat := none
  readEnd : Option Nat := none
  tgt : Target := {}
  gen : Nat := 0
  /-- A placement covers the line (R182). -/
  placed : Bool := true
  /-- The requester was lost: nothing is recorded or answered (R159). -/
  lost : Bool := false
  /-- Its access has been settled by force (Table 08-12). -/
  settled : Bool := false
  /-- Its data is sent poisoned (Table 08-12). -/
  forcedPoison : Bool := false
  /-- Settled by an instance's forced settlement (R304). -/
  cut : Bool := false
  /-- A BIConflictAck follows the response, with this tag (R154). -/
  ack : Option (BitVec 16) := none
  decidedAt : Nat := 0
  /-- The entry as it was decided on, and its STATE then. -/
  entry : DirEntry := {}
  before : Nat := 0
  /-- The requester was the recorded owner. -/
  own : Bool := false
  /-- The line is being recovered before the decision (R179). -/
  recover : Bool := false
  deriving DecidableEq, Repr

/-- Bytes of a buffered line that go to another target than those before them (R182). -/
structure WPart where
  data : BitVec 512
  mask : BitVec 64
  poison : Bool
  gen : Nat
  tgt : Target
  copyEpoch : Option Nat := none
  vfi : Nat := 0
  deriving DecidableEq, Repr

/-- A write-buffer entry (R149). Its latest backing write is always in flight. -/
structure WEntry where
  data : BitVec 512 := 0
  mask : BitVec 64 := 0
  poison : Bool := false
  /-- Bytes that arrived after that backing write was issued. -/
  later : BitVec 64 := 0
  laterPoison : Bool := false
  /-- Bytes decided since for other targets, in order: they are issued after these (R182). -/
  parts : List WPart := []
  /-- The write in flight is older than the zeros of DIR_ZERO_SET mode 1 (R191). -/
  stale : Bool := false
  /-- The write expired and was reissued poisoned (Table 06-6). -/
  reissued : Bool := false
  ackEnd : Nat := 0
  gen : Nat := 0
  tgt : Target := {}
  /-- Epoch of a relocation copy, settled at the acknowledgement (Table 08-11). -/
  copyEpoch : Option Nat := none
  /-- The instance that its backing write carries: that of its latest write (Table 11-2). -/
  vfi : Nat := 0
  deriving DecidableEq, Repr

/-- A write that waits for a write-buffer entry or a zeroing entry, its line blocked (R149, R156). -/
structure WWait where
  line : Nat
  data : BitVec 512
  mask : BitVec 64
  poison : Bool
  /-- The home's own poisoning, recovery and zero writes go first (R156). -/
  own : Bool
  gen : Nat
  tgt : Target
  copyEpoch : Option Nat := none
  vfi : Nat := 0
  deriving DecidableEq, Repr

/-- A request, or a job of the home, waiting for a line or for capacity (R148, R173, R183). -/
structure Waiter where
  line : Nat
  msg : Msg
  kind : TxnKind := .request
  /-- To be checked again when it is decided (Table 08-12). -/
  recheck : Bool := false
  /-- Settled by an instance's forced settlement (R304). -/
  cut : Bool := false
  /-- In the retry queue because its line's PIN is 255, behind the line's wait list (R173). -/
  full : Bool := false
  since : Nat := 0
  deriving DecidableEq, Repr

/-- A victim or a store clear on its way to the store (R177). -/
structure Victim where
  line : Nat
  entry : DirEntry
  clear : Bool := false
  stored : Bool := false
  changed : Bool := true
  /-- The line under host invalidation that it waits for (R178). -/
  waitFor : Option Nat := none
  deriving DecidableEq, Repr

/-- A page in a slice's zeroing table (R189). `heard`, `replied` and `answered` are the initiator's:
slices that received zero P, that sent an answer, and whose answer has arrived. -/
structure Zeroing where
  page : Nat
  initiated : Bool
  /-- Lines of this slice still to be acknowledged. -/
  owed : List Nat
  heard : List Nat := []
  replied : List Nat := []
  answered : List Nat := []
  /-- Initiators to answer. -/
  asked : List Nat := []
  vfi : Nat := 0
  deriving DecidableEq, Repr

/-- A loss whose first complete sweep lap has not ended (R160, R161). -/
structure LossMark where
  id : Nat
  chn : Nat
  startLap : Nat
  counted : Bool
  poisoned : Nat := 0
  lowest : Nat := 0
  deriving DecidableEq, Repr

structure SliceSt where
  running : Bool := false
  snoopTo : Nat := 1000
  wbTo : Nat := 10
  memTo : Nat := 2000
  txns : List Txn := []
  nextTxn : Nat := 0
  waits : List Waiter := []
  retry : List Waiter := []
  openMax : Nat := 0
  wbuf : Tbl (Option WEntry) := []
  wbufMax : Nat := 0
  wwait : List WWait := []
  /-- Late-writeback filter, oldest first: line, CHN, expiry (R157). -/
  filter : List (Nat × Nat × Nat) := []
  /-- Backing reads of closed transactions: transaction, line, generation (R184). -/
  orphans : List (Nat × Nat × Nat) := []
  err : BitVec 7 := 0
  snoopToCount : Nat := 0
  wbToCount : Nat := 0
  poisonCount : Nat := 0
  conflictCount : Nat := 0
  protoErr : Nat := 0
  lateWb : Nat := 0
  lossDiscard : Nat := 0
  eccC : Nat := 0
  eccU : Nat := 0
  lateBirsp : Nat := 0
  sweepLap : Nat := 0
  sweepPos : Nat := 0
  losses : List LossMark := []
  /-- By 16 × set + way. -/
  ways : Tbl (Option Way) := []
  victims : List Victim := []
  victimsMax : Nat := 0
  storeLive : Nat := 0
  /-- VFIs charged for the live slots, by bucket (R180). -/
  stored : Tbl (List Nat) := []
  /-- Bitmap words that the slice caches, by local word address, newest first (R187). -/
  bitWords : List Nat := []
  suspects : Nat := 0
  /-- Live entries by VFI charged (R180). -/
  charges : Tbl Nat := []
  trimPos : Nat := 0
  trimCount : Nat := 0
  fullInval : Nat := 0
  retryMax : Nat := 0
  retryCount : Nat := 0
  oldDiscard : Nat := 0
  poisonCopies : Nat := 0
  zeroing : List Zeroing := []
  /-- Move cursors by placement: the next 1 KiB block of the range (R183). -/
  cursors : Tbl Nat := []
  /-- Lines cut over, by placement. -/
  cut : Tbl Nat := []
  /-- Blocks below the cursor that were not cut over: placement, block (R185). -/
  skipped : List (Nat × Nat) := []
  deriving DecidableEq, Repr

/-- A placement entry and the move that runs on it (R182 to R191). -/
structure Placement where
  base : Nat
  n : Nat
  target : Target
  gen : Nat := 0
  zeroFill : Bool := false
  bitmap : Nat := 0
  split : Bool := false
  moving : Bool := false
  newTarget : Target := {}
  depth : Nat := 0
  copied : Nat := 0
  moveVfi : Nat := 0
  stopping : Option Nat := none
  ticket : Option Ticket := none
  /-- DIR_ZERO_SET mode 0 runs: the next page to look at, and who waits (R191). -/
  zeroOff : Option Nat := none
  zeroTicket : Option Ticket := none
  deriving DecidableEq, Repr

structure Home where
  hosts : Tbl HostEntry := []
  slices : Tbl SliceSt := []
  /-- Requests open by port and slice: key 16 × port + slice (R138). -/
  counts : Tbl Nat := []
  /-- Hosts whose loss every slice has still to apply, with the instant of the event (R159). -/
  lossDue : List (Nat × Nat) := []
  /-- Instant of the last loss event of a host, by its port, or by 1,024 + its PID (R159). -/
  lostAt : Tbl Nat := []
  /-- Number of the next loss. -/
  lossSeq : Nat := 0
  /-- Close signals on their way to a port's tile, keyed as `counts` (R138). -/
  signals : Tbl Nat := []
  /-- Snoop-owed records: port, PID, line (R140). -/
  owed : List (Nat × Nat × Nat) := []
  places : Tbl (Option Placement) := []
  storeBase : Nat := 0
  storeLog2 : Nat := 0
  deriving DecidableEq, Repr

/-! ### LPDDR6 (Tables 09-4, 09-9) -/

/-- A stored line. `chk` is the stored check symbols XOR the valid ones (R233). -/
structure Line where
  data : BitVec 512 := 0
  poison : Bool := false
  written : Bool := false
  rsv : BitVec 6 := 0
  chk : BitVec 56 := 0
  deriving DecidableEq, Repr

/-- A request queued at a channel (R231). -/
structure ChReq where
  cls : Nat
  stamp : Nat
  island : Nat
  /-- Line number of the local address. -/
  line : Nat
  write : Bool
  user : MemUser := .other
  at16 : Nat := 0
  data : BitVec 512 := 0
  mask : BitVec 64 := BitVec.allOnes 64
  poison : Bool := false
  deriving DecidableEq, Repr

/-- A read that a channel has made: what stood in the line, and whether a write has reached it
since (R236). -/
structure MemRead where
  req : ChReq
  phys : Nat
  line : Line
  stale : Bool := false
  deriving DecidableEq, Repr

/-- An entry of the correctable-error log (R246). -/
structure CeEntry where
  page : Nat
  count : Nat
  lanes : Nat
  at64 : Nat
  deriving DecidableEq, Repr

structure ChanSt where
  trained : Bool := false
  hot : Bool := false
  scrubLate : Bool := false
  blocked : Bool := false
  temp : Nat := 0
  refreshRate : Nat := 0
  refreshes : Nat := 0
  rfm : Nat := 0
  ce : Nat := 0
  ue : Nat := 0
  addrErr : Nat := 0
  poisonRead : Nat := 0
  scrubLap : Nat := 0
  scrubPos : Nat := 0
  lapStart : Nat := 0
  lastScrub : Nat := 0
  lanes : BitVec 24 := 0
  laneCounts : Tbl Nat := []
  laneSaid : List Nat := []
  queue : List ChReq := []
  reading : List MemRead := []
  /-- Retraining blocks the channel until then (R227). -/
  blockedUntil : Nat := 0
  dirUsed : Nat := 0
  mseUsed : Nat := 0
  otherUsed : Nat := 0
  scrubUsed : Nat := 0
  lastA : Nat × Nat := (0, 0)
  lastB : Nat × Nat := (0, 0)
  otherTurn : Bool := false
  softPpr : Nat := 0
  hardPpr : Nat := 0
  log : List CeEntry := []
  ueRecords : Nat := 0
  lastRetrain : Nat := 0
  deriving DecidableEq, Repr

/-- A retirement-list entry (Table 09-10). -/
structure Retire where
  page : Nat := 0
  valid : Bool := false
  /-- Channels whose hard repair of the page's row is due (R249). -/
  hard : List Nat := []
  ue : Bool := false
  hold : Bool := false
  /-- The copy runs back to the page (release), with the command that waits. -/
  releasing : Bool := false
  ticket : Option Ticket := none
  deriving DecidableEq, Repr

/-- A repair in progress (R249): the spares still being copied, and those it retired itself. -/
structure Repair where
  ch : Nat
  row : Nat
  la : Nat
  hard : Bool
  waiting : List Nat
  fresh : List Nat
  all : List Nat
  ticket : Ticket
  deriving DecidableEq, Repr

structure Mem where
  /-- Stored lines by line number, after remapping to spares (R247). -/
  lines : Tbl (Option Line) := []
  /-- Areas that one command wrote whole, newest first: first line, line after the last, ones?
  (R174, R191). An unlisted line there reads as that. -/
  fills : List (Nat × Nat × Bool) := []
  chans : Tbl ChanSt := []
  trained : Bool := false
  swept : Bool := false
  listLoaded : Bool := false
  autoRetire : Bool := true
  retireCe : Nat := 16
  laneCe : Nat := 64
  rateLog2 : Nat := 10
  lapAlarm : Nat := 24
  err : BitVec 6 := 0
  ueTotal : Nat := 0
  sramC : Tbl Nat := []
  sramU : Tbl Nat := []
  retire : Tbl Retire := []
  repairs : List Repair := []
  deriving DecidableEq, Repr

/-! ### Media Stream Engines (Tables 10-1, 10-12) -/

/-- Stream states, in the order of MSE_SLOT_STATUS.STATE. -/
inductive StreamState where
  | opening | running | denied | waitPort | halted | moving | closing
  deriving DecidableEq, Repr

structure Stream where
  engine : Nat
  slot : Nat
  inbound : Bool
  coherent : Bool
  tlp512 : Bool
  keepSilt : Bool
  chunkLog2 : Nat
  blockLog2 : Nat
  port : Nat
  vfi : Nat
  rate : Nat
  lead : Nat
  window : Nat
  dbufLog2 : Nat
  stage : Nat
  stageLog2 : Nat
  ctrl : Nat
  silt : Nat
  siltLog2 : Nat
  dest : Nat
  destLog2 : Nat
  state : StreamState := .opening
  advice : Nat := 0
  /-- Outbound: `sent` of R266; inbound: expected position. -/
  pos : Nat
  /-- Outbound: CONSUMED; inbound: delivered position. -/
  ack : Nat
  /-- Outbound: PROD as last read; inbound: PROD as last written. -/
  prod : Nat
  /-- Inbound: CONS as last read. -/
  cons : Nat
  /-- Milli-bytes of credit (R266). -/
  credit : Nat := 0
  /-- Positions of the silt's head and tail (R271). -/
  siltHead : Nat
  siltTail : Nat
  inSilt : Bool := false
  siltDenied : Bool := false
  deliveryDenied : Bool := false
  lost : Nat := 0
  /-- Last runway in µs; none: unlimited (R268). -/
  runway : Option Nat := none
  /-- SEQ of CONTROL. -/
  seq : Nat := 0
  /-- STATUS reads missed in a row (R261). -/
  missed : Nat := 0
  silent : Bool := false
  /-- A STATUS read is open. -/
  statusOpen : Bool := false
  mediaRate : Nat := 0
  driveHalted : Bool := false
  overrate : Nat := 0
  /-- Inbound: bytes that arrived in this course (R269). -/
  courseBytes : Nat := 0
  /-- Outbound: rise of PROD and length of each of the last 8 courses, newest first (R268); inbound:
  bytes delivered and length (R272). -/
  rises : List (Nat × Nat) := []
  /-- PROD, or the bytes delivered, at the last boundary. -/
  lastProd : Nat
  /-- Bytes that courses have fixed and TLPs have not yet sent (R267). -/
  unsent : Nat := 0
  /-- Where this course's bytes begin. -/
  courseFrom : Nat
  /-- Of the unsent bytes, those whose staging data has returned. -/
  ready : Nat := 0
  /-- Poisoned bytes in the chunk buffer: position and bytes (R256). -/
  poisoned : List (Nat × Nat) := []
  /-- Open chunks: number, and T52 stamp of the opening (R256). -/
  chunks : List (Nat × Nat) := []
  /-- Epoch of the staging reads that are open (R216). -/
  readEpoch : Option Nat := none
  /-- Delivery writes not yet completed, oldest first: position and bytes. -/
  writes : List (Nat × Nat) := []
  /-- First and last position dropped, with their instants, since the last halt (R272). -/
  dropped : Option (Nat × Nat × Nat × Nat) := none
  /-- The DROP record of that halt is written. -/
  dropSaid : Bool := false
  /-- The first write after ADVICE 0 fixes the resume position (R273). -/
  resumeWait : Bool := false
  /-- Order of opening (R265). -/
  opened : Nat
  /-- The move: new engine and its slot, switch position, and who waits (R275). -/
  moveTo : Option (Nat × Nat) := none
  pSwitch : Nat := 0
  moveTicket : Option Ticket := none
  /-- Writes for the new engine that arrived before the handover: position, bytes, poison. -/
  early : List (Nat × Nat × Bool) := []
  /-- Engines whose STATUS reads were open when they handed the stream over. -/
  late : List Nat := []
  /-- The close: end of the last chunk, silt kept, who waits (R276). -/
  closeAt : Option Nat := none
  closeKeep : Bool := false
  closeTicket : Option Ticket := none
  /-- Closed by an instance reset (R303). -/
  aborted : Bool := false
  /-- The last chunk has closed; the reservations go at the next boundary. -/
  ended : Bool := false
  /-- Error records written in this course (R278). -/
  records : Nat := 0
  deriving DecidableEq, Repr

structure EngineSt where
  running : Bool := false
  err : BitVec 5 := 0
  lateCpl : Nat := 0
  deriving DecidableEq, Repr

structure Mse where
  engines : Tbl EngineSt := []
  streams : Tbl (Option Stream) := []
  inletBase : Nat := 0
  localBase : Nat := 0
  opens : Nat := 0
  deriving DecidableEq, Repr

/-! ### Virtual Fabric Instances (Tables 11-3, 11-9) -/

/-- A binding of a port block or a logical device (R285, R296). -/
structure Binding where
  vfi : Nat
  owner : Nat
  vppb : Nat
  role : Nat
  deriving DecidableEq, Repr

structure VfiSt where
  gen : Nat := 0
  resetting : Bool := false
  hot : Bool := false
  stale : Bool := false
  resetAt : Nat := 0
  resetTicket : Option Ticket := none
  resetForced : Nat := 0
  resetZero : Bool := false
  forcedDone : Bool := false
  outstanding : Nat := 0
  bufQuota : Nat := 0
  dirQuota : Nat := 0
  streamsMax : Nat := 4096
  rateMax : Nat := 262143
  weight : Nat := 16
  /-- Overrides in place order: port and weight. -/
  overrides : List (Nat × Nat) := []
  windows : Tbl (BitVec 256) := []
  /-- Accepted extents: window and port; windows being released with deadline and command. -/
  accepted : List (Nat × Nat) := []
  releasing : List (Nat × Nat × Ticket) := []
  cntMap : Tbl (Option Nat) := []
  mailIn : List Byte := []
  inFull : Bool := false
  inSeq : Nat := 0
  mailOut : List Byte := []
  outPending : Bool := false
  outSeq : Nat := 0
  /-- Upstream ports that have still to fetch the outbound message (R299). -/
  outWait : List Nat := []
  vec : Nat := 0
  irqEn : Bool := false
  tenantEn : Bool := false
  deriving DecidableEq, Repr

structure VfiUnit where
  inst : Tbl VfiSt := []
  /-- Key 17 × port + LD-ID, and 17 × port + 16 for a whole port. -/
  bind : Tbl (Option Binding) := []
  deriving DecidableEq, Repr

/-! ### Counters and recorder (Tables 14-4 to 14-12) -/

structure Counter where
  event : Nat := 0
  vfi : Nat := 0
  vfiEn : Bool := false
  port : Nat := 0
  portEn : Bool := false
  value : Nat := 0
  wraps : Nat := 0
  /-- Image: value and wraps at the last freeze. -/
  image : Nat := 0
  imageWraps : Nat := 0
  deriving DecidableEq, Repr

/-- A snapshot command waiting for its image (R359). -/
structure SnapWait where
  first : Nat
  count : Nat
  ticket : Ticket
  deriving DecidableEq, Repr

/-- A freeze or snapshot put off to the first boundary after gathering (R358). -/
structure LateFreeze where
  cmd : Cmd
  ticket : Ticket
  /-- FT of the boundary at which it fell due. -/
  due : Nat
  /-- FIRST and COUNT of a snapshot. -/
  range : Option (Nat × Nat)
  deriving DecidableEq, Repr

structure Pcn where
  counters : Tbl Counter := []
  freezeNum : Nat := 0
  freezeFt : Nat := 0
  imageValid : Bool := false
  frozen : Bool := false
  gathering : Bool := false
  emitting : Bool := false
  freezeLate : Bool := false
  snaps : List SnapWait := []
  deferred : List LateFreeze := []
  /-- Image reads that wait for the gathering: ticket, index, destination (R358). -/
  reads : List (Ticket × Nat × Nat) := []
  deriving DecidableEq, Repr

/-- An extreme: value, operating seconds, power-cycle count. -/
structure Extreme where
  value : Int := 0
  secs : Nat := 0
  cycles : Nat := 0
  deriving DecidableEq, Repr

/-- A histogram image: bins by 256 × H + bin, extremes by 2q (highest) and 2q + 1, tallies. -/
structure Bank where
  bins : Tbl Nat := []
  extremes : Tbl (Option Extreme) := []
  tallies : Tbl Nat := []
  deriving DecidableEq, Repr

/-- A written record (Table 14-7), before it is laid out as bytes. -/
structure Record where
  kind : Nat
  seq : Nat
  cycles : Nat
  secs : Nat
  flags : Nat
  t64 : Nat
  image : Bank
  clearInfo : List Byte := []
  valid : Bool := true
  deriving DecidableEq, Repr

/-- A time entry (R370). -/
structure TimeRec where
  seq : Nat
  cycles : Nat
  secs : Nat
  cause : Nat
  recSeq : Nat
  deriving DecidableEq, Repr

/-- A swap that has fallen due: record kind and who waits; a clear carries its scope and key. -/
structure SwapDue where
  kind : Nat
  ticket : Option Ticket := none
  scope : Nat := 0
  key : Nat := 0
  challenge : List Byte := []
  deriving DecidableEq, Repr

structure Evr where
  life : Bank := {}
  bank0 : Bank := {}
  bank1 : Bank := {}
  /-- Which bank is active. -/
  second : Bool := false
  s0 : Nat := 0
  cycles : Nat := 0
  recSeq : Nat := 0
  recSlot : Nat := 0
  recFt : Nat := 0
  period : Nat := 60
  due : List SwapDue := []
  /-- Dues whose record failed: they go with the next swap that falls due (R368). -/
  carried : List SwapDue := []
  lastSwap : Option Nat := none
  nextPeriodic : Nat := 0
  /-- A record on its way to NOR, with tries made and who waits. -/
  writing : Option (Record × Nat × List SwapDue) := none
  log : Tbl (Option Record) := []
  archive : Tbl (Option Record) := []
  times : List TimeRec := []
  nextTime : Nat := 600
  challenge : Option (List Byte × Nat) := none
  challengeN : Nat := 0
  clears : Nat := 0
  emptyLoad : Bool := false
  timeMerged : Bool := false
  binLost : Bool := false
  sat : Nat := 0
  err : BitVec 4 := 0
  journal : Tbl (List Byte) := []
  journalNext : Nat := 0
  /-- H0 and H1 minimum and maximum of the hour (R361). -/
  hour : Option (Int × Int × Int × Int) := none
  lastSecond : Nat := 0
  lastHour : Nat := 0
  deriving DecidableEq, Repr

/-! ### Power and Protection Unit (Tables 15-3, 15-10) -/

/-- Feed channel states (Table 15-4), in the order of PPU_FEED_STATUS.STATE. -/
inductive FeedState where
  | off | wait | ramp | on | cooldown | latched
  deriving DecidableEq, Repr

/-- What a scheduled removal completes (R397). -/
structure Removal where
  at16 : Nat
  ticket : Option Ticket
  timedOut : Bool := false
  /-- RESULT of the command that set it. -/
  result : Nat := 0
  deriving DecidableEq, Repr

structure Feed where
  onReq : Bool := false
  ilim : Nat := 200
  rampMs : Nat := 2
  tstart : Nat := 25
  trun : Nat := 20
  tripMax : Nat := 3
  auto : Bool := false
  state : FeedState := .off
  present : Bool := false
  debouncing : Bool := false
  inLimit : Bool := false
  trips : Nat := 0
  lastTrip : Nat := 0
  voutOpen : Bool := false
  supplyLow : Bool := false
  fetShort : Bool := false
  latchCause : Nat := 0
  milliamps : Int := 0
  vout : Nat := 0
  senp : Nat := 0
  senn : Nat := 0
  joules : Nat := 0
  coolUntil : Nat := 0
  tripsTotal : Nat := 0
  /-- Time spent in limit in this attempt, and since when in limit (R387). -/
  limTime : Nat := 0
  limSince : Option Nat := none
  /-- Run timer used, and since when out of limit (TRUN of Table 15-3). -/
  runTime : Nat := 0
  outSince : Option Nat := none
  rampAt : Nat := 0
  onAt : Nat := 0
  readyAt : Option Nat := none
  removal : Option Removal := none
  /-- SHELF_WAKE commands: ticket, instant of the boundary, SEQ of the WAKE frame (R396). -/
  wake : List (Ticket × Nat × Nat) := []
  /-- SHELF_SLEEP commands: ticket, REMOVE, LEAD in ms, SEQ of the SLEEP frame (R397). -/
  sleep : List (Ticket × Bool × Nat × Nat) := []
  deriving DecidableEq, Repr

structure Ppu where
  feeds : Tbl Feed := []
  warn : Nat := 152
  pfailInEn : Bool := false
  maxRamps : Nat := 8
  /-- The input in mV that the last early warning was decided on. -/
  inputMv : Nat := 0
  rampDone : Bool := true
  warning : Bool := false
  warnExt : Bool := false
  warnAt : Nat := 0
  pfailDriven : Bool := false
  warnCount : Nat := 0
  warnLast : Nat := 0
  err : BitVec 6 := 0
  failedRamps : Nat := 0
  deriving DecidableEq, Repr

/-! ### MSC, NOR and identity (Tables 16-3 to 16-9) -/

/-- MSC states, in the order of MSC_STATUS.STATE. -/
inductive MscState where
  | rom | running | restarting | recovery
  deriving DecidableEq, Repr

/-- A stored feed configuration (R398). -/
structure FeedCfg where
  ilim : Nat := 200
  rampMs : Nat := 2
  tstart : Nat := 25
  trun : Nat := 20
  tripMax : Nat := 3
  auto : Bool := false
  deriving DecidableEq, Repr

/-- The NOR below the recorder partition (Table 16-3), and the fuses. -/
structure Nor where
  /-- Slot bytes; an erased byte reads 0xFF. -/
  slotA : Tbl Byte := []
  slotB : Tbl Byte := []
  confirmedB : Bool := false
  /-- TRIAL: none, or the slot B? -/
  trial : Option Bool := none
  svnFloor : Nat := 0
  feeds : Tbl FeedCfg := []
  retire : Tbl Retire := []
  pbrDev : Option Nat := none
  /-- Hard repairs performed, by channel. -/
  hardRepairs : Tbl Nat := []
  deriving DecidableEq, Repr

structure Msc where
  state : MscState := .rom
  /-- Slot the running image was booted from. -/
  runB : Bool := false
  onTrial : Bool := false
  stagedValid : Bool := false
  lastReason : Nat := 0
  err : BitVec 4 := 0
  runDigest : List Byte := []
  runVersion : Nat := 0
  runSvn : Nat := 0
  restart : Option (Nat × Option Ticket) := none
  eqDigest : List Byte := []
  /-- Sections of the persistent store that changed and when (R248, R398). -/
  dirty : List (Nat × Nat) := []
  /-- A trial that ended as failed, to be recorded at the next boot: slot B?, cause (R413). -/
  revert : Option (Bool × Nat) := none
  /-- Sectors of the inactive slot erased in this staging (R413). -/
  erased : List Nat := []
  /-- An SPDM session is open, by transport (R418). -/
  sessions : List SpdmVia := []
  nor : Nor := {}
  deriving DecidableEq, Repr

/-! ### The state -/

structure State where
  /-- Fixed by the part; no command changes it. -/
  variant : Variant := .k1024F
  held : Option Hold := none
  /-- Central fabric time in phase units: FT × 16 + phase (R23, R24). -/
  clock : Nat := 0
  glb : Glb := {}
  fmp : Fmp := {}
  cmd : CmdUnit := {}
  ftu : Ftu := {}
  lnk : Lnk := {}
  prt : Prt := {}
  swc : Swc := {}
  acu : Acu := {}
  home : Home := {}
  mem : Mem := {}
  mse : Mse := {}
  vfi : VfiUnit := {}
  pcn : Pcn := {}
  evr : Evr := {}
  ppu : Ppu := {}
  msc : Msc := {}
  /-- The carrier's EEPROM (R54): its bytes, empty when none answers. The model's own. -/
  eeprom : List Byte := []
  /-- The manager's memory (R311), byte by address; an unlisted byte reads 0 (log entry 4). -/
  mgr : Tbl Byte := []
  /-- What has crossed connectors and internal channels, oldest first. The model's own. -/
  out : List Output := []
  /-- Index of the next value the manual leaves open (log entry 3). The model's own. -/
  free : Nat := 0
  /-- Commands waiting, first in first out. -/
  pending : List Instr := []
  deriving DecidableEq, Repr

/-- The machine right after the release of module reset (R407: FT = 0). -/
def State.reset : State := {}

end Sys2Proof.Machine
end

