-- ==== Sys2Proof/Machine/Ops.lean ====
section
/-!
DEFINITION. The named operations that every unit shares: access to the tables, time stamps,
interrupts, the manager's memory, the three device-written rings, completions, counting, and the
wrapper of a command's effect.
-/

namespace Sys2Proof.Machine

/-! ### Tables of the state -/

/-- Entry `k` of `prt.ports`. -/
def State.port (s : State) (k : Nat) : PortSt := tget {} s.prt.ports k
/-- Write entry `k` of `prt.ports`. -/
def State.setPort (s : State) (k : Nat) (v : PortSt) : State :=
  { s with prt := { s.prt with ports := tset {} s.prt.ports k v } }
/-- Change entry `k` of `prt.ports`. -/
def State.modPort (s : State) (k : Nat) (f : PortSt → PortSt) : State := s.setPort k (f (s.port k))

/-- Entry `k` of `lnk.tiles`. -/
def State.tileLnk (s : State) (k : Nat) : TileLnk := tget {} s.lnk.tiles k
/-- Write entry `k` of `lnk.tiles`. -/
def State.setTileLnk (s : State) (k : Nat) (v : TileLnk) : State :=
  { s with lnk := { s.lnk with tiles := tset {} s.lnk.tiles k v } }
/-- Change entry `k` of `lnk.tiles`. -/
def State.modTileLnk (s : State) (k : Nat) (f : TileLnk → TileLnk) : State := s.setTileLnk k (f (s.tileLnk k))

/-- Entry `k` of `lnk.lanes`. -/
def State.lane (s : State) (k : Nat) : LaneSt := tget {} s.lnk.lanes k
/-- Write entry `k` of `lnk.lanes`. -/
def State.setLane (s : State) (k : Nat) (v : LaneSt) : State :=
  { s with lnk := { s.lnk with lanes := tset {} s.lnk.lanes k v } }
/-- Change entry `k` of `lnk.lanes`. -/
def State.modLane (s : State) (k : Nat) (f : LaneSt → LaneSt) : State := s.setLane k (f (s.lane k))

/-- Entry `k` of `lnk.links`. -/
def State.link (s : State) (k : Nat) : ShelfLink := tget {} s.lnk.links k
/-- Write entry `k` of `lnk.links`. -/
def State.setLink (s : State) (k : Nat) (v : ShelfLink) : State :=
  { s with lnk := { s.lnk with links := tset {} s.lnk.links k v } }
/-- Change entry `k` of `lnk.links`. -/
def State.modLink (s : State) (k : Nat) (f : ShelfLink → ShelfLink) : State := s.setLink k (f (s.link k))

/-- Entry `k` of `swc.tiles`. -/
def State.swcTile (s : State) (k : Nat) : TileSwc := tget {} s.swc.tiles k
/-- Write entry `k` of `swc.tiles`. -/
def State.setSwcTile (s : State) (k : Nat) (v : TileSwc) : State :=
  { s with swc := { s.swc with tiles := tset {} s.swc.tiles k v } }
/-- Change entry `k` of `swc.tiles`. -/
def State.modSwcTile (s : State) (k : Nat) (f : TileSwc → TileSwc) : State := s.setSwcTile k (f (s.swcTile k))

/-- Entry `k` of `home.hosts`. -/
def State.host (s : State) (k : Nat) : HostEntry := tget {} s.home.hosts k
/-- Write entry `k` of `home.hosts`. -/
def State.setHost (s : State) (k : Nat) (v : HostEntry) : State :=
  { s with home := { s.home with hosts := tset {} s.home.hosts k v } }
/-- Change entry `k` of `home.hosts`. -/
def State.modHost (s : State) (k : Nat) (f : HostEntry → HostEntry) : State := s.setHost k (f (s.host k))

/-- Entry `k` of `home.slices`. -/
def State.slice (s : State) (k : Nat) : SliceSt := tget {} s.home.slices k
/-- Write entry `k` of `home.slices`. -/
def State.setSlice (s : State) (k : Nat) (v : SliceSt) : State :=
  { s with home := { s.home with slices := tset {} s.home.slices k v } }
/-- Change entry `k` of `home.slices`. -/
def State.modSlice (s : State) (k : Nat) (f : SliceSt → SliceSt) : State := s.setSlice k (f (s.slice k))

/-- Entry `k` of `home.places`. -/
def State.place (s : State) (k : Nat) : Option Placement := tget none s.home.places k
/-- Write entry `k` of `home.places`. -/
def State.setPlace (s : State) (k : Nat) (v : Option Placement) : State :=
  { s with home := { s.home with places := tset none s.home.places k v } }
/-- Change entry `k` of `home.places`. -/
def State.modPlace (s : State) (k : Nat) (f : Option Placement → Option Placement) : State := s.setPlace k (f (s.place k))

/-- Entry `k` of `mem.chans`. -/
def State.chan (s : State) (k : Nat) : ChanSt := tget {} s.mem.chans k
/-- Write entry `k` of `mem.chans`. -/
def State.setChan (s : State) (k : Nat) (v : ChanSt) : State :=
  { s with mem := { s.mem with chans := tset {} s.mem.chans k v } }
/-- Change entry `k` of `mem.chans`. -/
def State.modChan (s : State) (k : Nat) (f : ChanSt → ChanSt) : State := s.setChan k (f (s.chan k))

/-- Entry `k` of `mem.retire`. -/
def State.retire (s : State) (k : Nat) : Retire := tget {} s.mem.retire k
/-- Write entry `k` of `mem.retire`. -/
def State.setRetire (s : State) (k : Nat) (v : Retire) : State :=
  { s with mem := { s.mem with retire := tset {} s.mem.retire k v } }
/-- Change entry `k` of `mem.retire`. -/
def State.modRetire (s : State) (k : Nat) (f : Retire → Retire) : State := s.setRetire k (f (s.retire k))

/-- What line `k` reads as where it is not listed: as the last command that wrote its area left it,
and zeros after the sweep (R238, R239). -/
def Mem.unlisted (m : Mem) (k : Nat) : Line :=
  match m.fills.find? fun f => decide (f.1 ≤ k) && decide (k < f.2.1) with
  | some f => { data := if f.2.2 then BitVec.allOnes 512 else 0, written := true }
  | none => {}
/-- Line `k` of the LPDDR6, after remapping. -/
def State.line (s : State) (k : Nat) : Line := (tget none s.mem.lines k).getD (s.mem.unlisted k)
/-- Write line `k`; writing what an unlisted line reads as removes the entry. -/
def State.setLine (s : State) (k : Nat) (v : Line) : State :=
  { s with mem := { s.mem with
      lines := tset none s.mem.lines k (if v = s.mem.unlisted k then none else some v) } }
/-- One command writes the lines from `lo` up to `hi` whole, with zeros or ones. -/
def State.fillLines (s : State) (lo hi : Nat) (ones : Bool) : State :=
  { s with mem := { s.mem with lines := s.mem.lines.filter fun x => decide (x.1 < lo) || decide (hi ≤ x.1),
                               fills := (lo, hi, ones) :: s.mem.fills } }

/-- Entry `k` of `mse.engines`. -/
def State.engine (s : State) (k : Nat) : EngineSt := tget {} s.mse.engines k
/-- Write entry `k` of `mse.engines`. -/
def State.setEngine (s : State) (k : Nat) (v : EngineSt) : State :=
  { s with mse := { s.mse with engines := tset {} s.mse.engines k v } }
/-- Change entry `k` of `mse.engines`. -/
def State.modEngine (s : State) (k : Nat) (f : EngineSt → EngineSt) : State := s.setEngine k (f (s.engine k))

/-- Entry `k` of `mse.streams`. -/
def State.stream (s : State) (k : Nat) : Option Stream := tget none s.mse.streams k
/-- Write entry `k` of `mse.streams`. -/
def State.setStream (s : State) (k : Nat) (v : Option Stream) : State :=
  { s with mse := { s.mse with streams := tset none s.mse.streams k v } }
/-- The streams that are open, with their handles. -/
def State.streamList (s : State) : List (Nat × Stream) := s.mse.streams.filterMap fun x => x.2.map fun d => (x.1, d)
/-- Change entry `k` of `mse.streams`. -/
def State.modStream (s : State) (k : Nat) (f : Option Stream → Option Stream) : State := s.setStream k (f (s.stream k))

/-- Entry `k` of `vfi.inst`. -/
def State.inst (s : State) (k : Nat) : VfiSt := tget {} s.vfi.inst k
/-- Write entry `k` of `vfi.inst`. -/
def State.setInst (s : State) (k : Nat) (v : VfiSt) : State :=
  { s with vfi := { s.vfi with inst := tset {} s.vfi.inst k v } }
/-- Change entry `k` of `vfi.inst`. -/
def State.modInst (s : State) (k : Nat) (f : VfiSt → VfiSt) : State := s.setInst k (f (s.inst k))

/-- Entry `k` of `vfi.bind`. -/
def State.binding (s : State) (k : Nat) : Option Binding := tget none s.vfi.bind k
/-- Write entry `k` of `vfi.bind`. -/
def State.setBinding (s : State) (k : Nat) (v : Option Binding) : State :=
  { s with vfi := { s.vfi with bind := tset none s.vfi.bind k v } }
/-- Change entry `k` of `vfi.bind`. -/
def State.modBinding (s : State) (k : Nat) (f : Option Binding → Option Binding) : State := s.setBinding k (f (s.binding k))

/-- Entry `k` of `pcn.counters`. -/
def State.counter (s : State) (k : Nat) : Counter := tget {} s.pcn.counters k
/-- Write entry `k` of `pcn.counters`. -/
def State.setCounter (s : State) (k : Nat) (v : Counter) : State :=
  { s with pcn := { s.pcn with counters := tset {} s.pcn.counters k v } }
/-- Change entry `k` of `pcn.counters`. -/
def State.modCounter (s : State) (k : Nat) (f : Counter → Counter) : State := s.setCounter k (f (s.counter k))

/-- Entry `k` of `ppu.feeds`. -/
def State.feed (s : State) (k : Nat) : Feed := tget {} s.ppu.feeds k
/-- Write entry `k` of `ppu.feeds`. -/
def State.setFeed (s : State) (k : Nat) (v : Feed) : State :=
  { s with ppu := { s.ppu with feeds := tset {} s.ppu.feeds k v } }
/-- Change entry `k` of `ppu.feeds`. -/
def State.modFeed (s : State) (k : Nat) (f : Feed → Feed) : State := s.setFeed k (f (s.feed k))

/-- Entry `k` of `cmd.pairs`. -/
def State.pair (s : State) (k : Nat) : RingPair := tget {} s.cmd.pairs k
/-- Write entry `k` of `cmd.pairs`. -/
def State.setPair (s : State) (k : Nat) (v : RingPair) : State :=
  { s with cmd := { s.cmd with pairs := tset {} s.cmd.pairs k v } }
/-- Change entry `k` of `cmd.pairs`. -/
def State.modPair (s : State) (k : Nat) (f : RingPair → RingPair) : State := s.setPair k (f (s.pair k))

/-- Entry `k` of `cmd.dev`. -/
def State.devRing (s : State) (k : Nat) : DevRing := tget {} s.cmd.dev k
/-- Write entry `k` of `cmd.dev`. -/
def State.setDevRing (s : State) (k : Nat) (v : DevRing) : State :=
  { s with cmd := { s.cmd with dev := tset {} s.cmd.dev k v } }
/-- Change entry `k` of `cmd.dev`. -/
def State.modDevRing (s : State) (k : Nat) (f : DevRing → DevRing) : State := s.setDevRing k (f (s.devRing k))

/-- Entry `k` of `prt.trackers`. -/
def State.trackers (s : State) (k : Nat) : List Tracker := tget [] s.prt.trackers k
/-- Write entry `k` of `prt.trackers`. -/
def State.setTrackers (s : State) (k : Nat) (v : List Tracker) : State :=
  { s with prt := { s.prt with trackers := tset [] s.prt.trackers k v } }
/-- Change entry `k` of `prt.trackers`. -/
def State.modTrackers (s : State) (k : Nat) (f : List Tracker → List Tracker) : State := s.setTrackers k (f (s.trackers k))

/-- Entry `k` of `lnk.eq`. -/
def State.eqLane (s : State) (k : Nat) : EqLane := tget {} s.lnk.eq k
/-- Write entry `k` of `lnk.eq`. -/
def State.setEqLane (s : State) (k : Nat) (v : EqLane) : State :=
  { s with lnk := { s.lnk with eq := tset {} s.lnk.eq k v } }
/-- Change entry `k` of `lnk.eq`. -/
def State.modEqLane (s : State) (k : Nat) (f : EqLane → EqLane) : State := s.setEqLane k (f (s.eqLane k))

/-! ### Fabric time (R23, R24, R27) -/

/-- FT in ns. -/
def State.ft (s : State) : Nat := s.clock / 16
/-- The slot count of the central time. -/
def State.slot (s : State) : Nat := s.clock / 10
/-- T52 of the present instant (Table 02-2). -/
def State.t52 (s : State) : Nat := s.clock % 2 ^ 52
/-- T64 of an instant given in phase units (Table 02-2). -/
def t64Of (at16 : Nat) : Nat := at16 % 2 ^ 64
/-- T64 of an FT in ns, phase 0. -/
def t64Ns (ns : Nat) : Nat := (ns * 16) % 2 ^ 64
/-- The full stamp of an event held as T52: the latest instant not after `now` with those low
bits (R27). -/
def restoreT52 (now t52 : Nat) : Nat :=
  if t52 ≤ now % 2 ^ 52 then now - now % 2 ^ 52 + t52 else now - now % 2 ^ 52 - 2 ^ 52 + t52
/-- The rotating key of the tie-break rule (R46). -/
def tieKey (source slot size : Nat) : Nat := (source + slot) % size
/-- Signed comparison of T52 stamps: `a` lies before `b` (R28). -/
def t52Before (a b : Nat) : Bool := decide (2 ^ 51 ≤ (a + 2 ^ 52 - b) % 2 ^ 52)
/-- Nanoseconds as phase units. -/
def ns16 (n : Nat) : Nat := n * 16
/-- Microseconds as phase units. -/
def us16 (n : Nat) : Nat := n * 16000
/-- Milliseconds as phase units. -/
def ms16 (n : Nat) : Nat := n * 16000000

/-! ### Variants (Table 00-2) -/

/-- Ports and lanes that exist (R5). -/
def State.portExists (s : State) (p : Nat) : Bool :=
  decide (p < match s.variant with | .k512B => 512 | _ => 1024)
/-- Tiles and cages that exist (R5). -/
def State.tileExists (s : State) (t : Nat) : Bool :=
  decide (t < match s.variant with | .k512B => 32 | _ => 64)
/-- Tiles present, the N of R108. -/
def State.tileCount (s : State) : Nat := match s.variant with | .k512B => 32 | _ => 64
/-- Engines, link IDE and the local pool exist on K1024-F only (Table 00-2). -/
def State.isF (s : State) : Bool := s.variant == .k1024F
/-- GLB_CAP (R2). -/
def capOf : Variant → Word
  | .k1024F => 0x0018187F
  | .k1024B => 0x00221840
  | .k512B => 0x00320C00
/-- LPDDR6 bytes per channel and in all (Table 09-1). -/
def State.laCapacity (s : State) : Nat := match s.variant with | .k1024F => 2 ^ 39 | _ => 2 ^ 37
/-- Base of the reserve, the top 64 MiB (R228). -/
def State.laReserve (s : State) : Nat := s.laCapacity - 2 ^ 26
/-- The tile that a slice attaches to (R14). -/
def State.sliceTile (s : State) (n : Nat) : Nat := match s.variant with | .k512B => 2 * n | _ => 4 * n
/-- The tile that an engine attaches to (R15). -/
def engineTile (e : Nat) : Nat := 16 * e + 10

/-! ### Lines of shared memory (R136, R168, R175) -/

/-- slice_of (R136). -/
def sliceOf (fma : Nat) : Nat :=
  (List.range 12).foldl (fun n k =>
    let g := (fma >>> (10 + 4 * k)) % 16
    n ^^^ (if k % 2 = 1 then g / 2 + g % 2 * 8 else g)) ((fma >>> 6) % 16)
/-- set_of, with B of R168. -/
def setOf (b fma : Nat) : Nat :=
  let u := bitsOf fma 21 10
  let t := bitsOf fma 55 22
  let f := (t ^^^ (t >>> 12) ^^^ (t >>> 24)) % 4096
  (t % b) * 4096 + (u ^^^ f)
/-- store_bucket (R175). -/
def storeBucket (fma nb : Nat) : Nat :=
  let x := bitsOf fma 55 10
  let x := x ^^^ (x >>> 17)
  let x := (x * 0x6C8E9CF5) % 2 ^ 46
  (x ^^^ (x >>> 23)) % nb
/-- The directory set of a line (R168). -/
def State.dirSet (s : State) (line : Nat) : Nat :=
  setOf (match s.variant with | .k512B => 3 | _ => 6) (line * 64)

/-! ### Outputs, interrupts, the manager's memory -/

/-- Record that something crosses a connector or an internal channel. -/
def State.emit (s : State) (o : Output) : State := { s with out := s.out ++ [o] }

/-- A value that the manual leaves open; the next one is another (log entry 3). -/
def State.freeValue (s : State) : Nat := Config.freeNat s.free
/-- Advance the index of open values. -/
def State.useFree (s : State) : State := { s with free := s.free + 1 }

/-- Add an event's amount to the counters of a block that select it (R354). The counters are the
indices from `lo`, `n` of them. -/
def State.countAt (s : State) (lo n code : Nat) (vfi port : Option Nat) (amount : Nat) : State :=
  let f (i : Nat) (c : Counter) : Counter :=
      if lo ≤ i ∧ i < lo + n ∧ c.event = code ∧ c.event ≠ 0 ∧
          (!c.vfiEn || vfi == some c.vfi) = true ∧ (!c.portEn || port == some c.port) = true then
        { c with value := (c.value + amount) % 2 ^ 48, wraps := satAdd 16 c.wraps ((c.value + amount) / 2 ^ 48) }
      else c
  { s with pcn := { s.pcn with counters := tmap {} f s.pcn.counters } }

/-- Add an amount to every counter of code `code`, whatever its block and filters: the events of
Table 14-2 that carry neither a VFI nor a port. -/
def State.countEvery (s : State) (code amount : Nat) : State :=
  let f (_ : Nat) (c : Counter) : Counter :=
      if c.event = code ∧ c.vfiEn = false ∧ c.portEn = false then
        { c with value := (c.value + amount) % 2 ^ 48, wraps := satAdd 16 c.wraps ((c.value + amount) / 2 ^ 48) }
      else c
  { s with pcn := { s.pcn with counters := tmap {} f s.pcn.counters } }

/-- Count at tile `t` (Table 14-1). -/
def State.cntTile (s : State) (t code : Nat) (vfi port : Option Nat := none) (n : Nat := 1) : State :=
  s.countAt (32 * t) 32 code vfi port n
/-- Count at home slice `k`. -/
def State.cntSlice (s : State) (k code : Nat) (vfi : Option Nat := none) (n : Nat := 1) : State :=
  s.countAt (2048 + 32 * k) 32 code vfi none n
/-- Count at memory island `m`. -/
def State.cntMem (s : State) (m code : Nat) (n : Nat := 1) : State :=
  s.countAt (2560 + 16 * m) 16 code none none n
/-- Count at engine `e`. -/
def State.cntEngine (s : State) (e code : Nat) (vfi : Option Nat := none) (n : Nat := 1) : State :=
  s.countAt (2624 + 16 * e) 16 code vfi none n
/-- Count at the protection table, which sums over all stations. -/
def State.cntAcu (s : State) (code : Nat) (vfi : Option Nat := none) (n : Nat := 1) : State :=
  s.countAt 2688 32 code vfi none n
/-- Count at the command engine. -/
def State.cntCmd (s : State) (code : Nat) (n : Nat := 1) : State := s.countAt 2720 16 code none none n
/-- Count at the time unit. -/
def State.cntFtu (s : State) (code : Nat) (n : Nat := 1) : State := s.countAt 2736 16 code none none n
/-- Count at the power and protection unit. -/
def State.cntPpu (s : State) (code : Nat) (n : Nat := 1) : State := s.countAt 2752 16 code none none n

/-- Count a word that crosses between the dies of two tiles (Table 01-2), at both spines, which every such channel
passes in series (R12); a core channel carries a cell in one word. -/
def State.cntDie (s : State) (src dst : Nat) : State :=
  if src / 32 = dst / 32 then s else s.countAt 2768 16 (if src / 32 = 0 then 0xE8 else 0xE9) none none 1

/-- Send an MSI-X vector: at once and once a cycle, as a pending bit while masked, or later while Bus Master Enable
or MSI-X Enable is 0 (R329, R350). -/
def State.sendVector (s : State) (v : Nat) : State :=
  if s.fmp.bme && s.fmp.msixEn then
    if (tget {} s.fmp.table v).masked then
      { s with fmp := { s.fmp with pend := v :: s.fmp.pend.filter (· ≠ v) } }
    else if s.fmp.sent.contains v then s
    else ({ s with fmp := { s.fmp with sent := v :: s.fmp.sent } }.emit (.msix v)).cntCmd 0xD5
  else { s with fmp := { s.fmp with waiting := v :: s.fmp.waiting.filter (· ≠ v) } }

/-- Write bytes into the manager's memory. -/
def mgrPut : Tbl Byte → Nat → List Byte → Tbl Byte
  | m, _, [] => m
  | m, a, b :: bs => mgrPut (tset 0 m (a % 2 ^ 64) b) (a + 1) bs
/-- Write bytes into the manager's memory. -/
def State.mgrWrite (s : State) (a : Nat) (bs : List Byte) : State := { s with mgr := mgrPut s.mgr a bs }
/-- Read `n` bytes of the manager's memory. -/
def State.mgrRead (s : State) (a n : Nat) : List Byte :=
  (List.range n).map fun i => tget 0 s.mgr ((a + i) % 2 ^ 64)

/-! ### Entries of the device-written rings (R323 to R325) -/

/-- Lay fields out from byte `at_`, each aligned to its size (R324). -/
def packFields : Nat → List (Nat × Nat) → List Byte
  | _, [] => []
  | pos, (n, v) :: fs =>
    let pad := (n - pos % n) % n
    List.replicate pad 0 ++ leBytes n v ++ packFields (pos + pad + n) fs

/-- Cut or fill to `n` bytes. -/
def fitTo (n : Nat) (bs : List Byte) : List Byte := (bs ++ List.replicate n 0).take n

/-- An entry of the event or error-record ring without its flags: header of Table 12-6, payload. -/
def entryBytes (size t64 code island seq : Nat) (payload : List Byte) : List Byte :=
  fitTo size (leBytes 8 t64 ++ leBytes 1 code ++ leBytes 1 island ++ [0, 0] ++ leBytes 4 seq ++ payload)

/-- Set byte 10, the flags of an entry. -/
def withFlags (bs : List Byte) (phase lostBefore : Bool) : List Byte :=
  bs.take 10 ++ [BitVec.ofNat 8 (bit phase + 2 * bit lostBefore)] ++ bs.drop 11

/-- Entry size of device ring `d` (Table 12-2). -/
def devEntrySize (d : Nat) : Nat := if d = 0 then 32 else 64
/-- Hold capacity of device ring `d` (R325). -/
def devHoldCap (d : Nat) : Nat := if d = 2 then 1024 else 4096

/-- The ring has no room: its next tail is its head (R311). -/
def DevRing.full (r : DevRing) : Bool := (r.tail + 1) % 2 ^ r.log2 == r.head

/-- Write one entry at the tail and send the ring's vector (R325, R329). -/
def State.devWrite (s : State) (d : Nat) (bs : List Byte) : State :=
  let r := s.devRing d
  let s := s.mgrWrite (r.base + r.tail * devEntrySize d) (withFlags bs r.phase r.lostBefore)
  let next := (r.tail + 1) % 2 ^ r.log2
  let s := s.setDevRing d { r with tail := next, lostBefore := false,
                                   phase := if next = 0 then !r.phase else r.phase }
  let s := s.cntCmd 0xD3
  if r.irqEn then s.sendVector r.vec else s

/-- Write held entries while there is room, in the order held. -/
def State.devDrain : Nat → State → Nat → State
  | 0, s, _ => s
  | n + 1, s, d =>
    let r := s.devRing d
    match r.held with
    | [] => s
    | bs :: rest =>
      if r.state = .running ∧ r.full = false then
        devDrain n ((s.setDevRing d { r with held := rest }).devWrite d bs) d
      else s

/-- Produce an entry: write it, hold it, or lose it (R325). -/
def State.devProduce (s : State) (d : Nat) (bs : List Byte) : State :=
  let r := s.devRing d
  let s := s.setDevRing d { r with seq := (r.seq + 1) % 2 ^ 32 }
  if r.state = .running ∧ r.full = false ∧ r.held = [] then s.devWrite d bs
  else if r.held.length < devHoldCap d then s.modDevRing d fun r => { r with held := r.held ++ [bs] }
  else (s.modDevRing d fun r => { r with lost := true, lostCount := satAdd 32 r.lostCount 1,
                                         lostBefore := true }).cntCmd 0xD4

/-- Copy an entry into the journal once MEM_SWEPT has set (R373). -/
def State.journalAdd (s : State) (bs : List Byte) : State :=
  if s.glb.memSwept then
    { s with evr := { s.evr with journal := tset [] s.evr.journal (s.evr.journalNext % 983040) (fitTo 64 bs),
                                 journalNext := s.evr.journalNext + 1 } }
  else s

/-- Post an event of a kind that the filter lets through (R325). -/
def State.event (s : State) (kind island t64 : Nat) (fields : List (Nat × Nat)) : State :=
  if s.cmd.evtFilter.getLsbD kind then
    let bs := entryBytes 32 t64 kind island (s.devRing 0).seq (packFields 16 fields)
    (s.journalAdd bs).devProduce 0 bs
  else s

/-- Write an error record with a payload already laid out. -/
def State.recordBytes (s : State) (cause island t64 : Nat) (payload : List Byte) : State :=
  let bs := entryBytes 64 t64 cause island (s.devRing 1).seq payload
  (s.journalAdd bs).devProduce 1 bs

/-- Write an error record (R326, R327). -/
def State.record (s : State) (cause island t64 : Nat) (fields : List (Nat × Nat)) : State :=
  s.recordBytes cause island t64 (packFields 16 fields)

/-- T64 of the present instant. -/
def State.now64 (s : State) : Nat := t64Of s.clock

/-! ### Recorder tallies (R362) -/

/-- Add to a tally of the active bank. -/
def State.tally (s : State) (i : Nat) (n : Nat := 1) : State :=
  let add (b : Bank) : Bank :=
    { b with tallies := tset 0 b.tallies i (satAdd 64 (tget 0 b.tallies i) n) }
  { s with evr := if s.evr.second then { s.evr with bank1 := add s.evr.bank1 }
                  else { s.evr with bank0 := add s.evr.bank0 } }

/-- An error in an on-chip array of an island: counted, and recorded when uncorrectable (R240). -/
def State.sramError (s : State) (island array : Nat) (unc : Bool) : State :=
  if unc then
    let s := { s with mem := { s.mem with sramU := tset 0 s.mem.sramU island (satAdd 16 (tget 0 s.mem.sramU island) 1),
                                          err := s.mem.err ||| 16 } }
    (s.record 0x27 island s.now64 [(1, island), (1, array)]).tally 15
  else { s with mem := { s.mem with sramC := tset 0 s.mem.sramC island (satAdd 16 (tget 0 s.mem.sramC island) 1) } }

/-- A section of the persistent store has changed (R398): 0 retirement list, 1 feeds, 2 PBR settings. -/
def State.markDirty (s : State) (sec : Nat) : State :=
  if s.msc.dirty.any fun x => x.1 == sec then s
  else { s with msc := { s.msc with dirty := s.msc.dirty ++ [(sec, s.clock)] } }

/-! ### Completions (R320 to R322, R329) -/

/-- The bytes of a completion entry (Table 12-4). -/
def Completion.bytes (c : Completion) (phase : Bool) (sqHead : Nat) : List Byte :=
  leBytes 2 c.tag ++ leBytes 1 c.status ++
  [BitVec.ofNat 8 (bit phase + 2 * bit c.clamped + 4 * bit c.late)] ++ leBytes 6 c.ft ++
  leBytes 2 sqHead ++ leBytes 4 c.result.toNat

/-- Count an entry toward the ring's interrupt and send it when COUNT is reached (R329). -/
def State.cqInterrupt (s : State) (p : Nat) (quiet : Bool) : State :=
  let r := s.pair p
  if quiet || !r.irqEn then s
  else if r.sinceIrq + 1 ≥ r.irqCount then
    (s.setPair p { r with sinceIrq := 0, firstAt := none }).sendVector r.vec
  else s.setPair p { r with sinceIrq := r.sinceIrq + 1,
                            firstAt := match r.firstAt with | some t => some t | none => some s.clock }

/-- Write a completion at the CQ tail. -/
def State.cqWrite (s : State) (p : Nat) (c : Completion) : State :=
  let r := s.pair p
  let s := s.mgrWrite (r.cqBase + r.cqTail * 16) (c.bytes r.phase r.sqHead)
  let next := (r.cqTail + 1) % 2 ^ r.log2
  let s := s.setPair p { r with cqTail := next, phase := if next = 0 then !r.phase else r.phase }
  (s.cntCmd 0xD1).cqInterrupt p c.quiet

/-- Write held completions in the order held (Table 12-11). -/
def State.cqDrain : Nat → State → Nat → State
  | 0, s, _ => s
  | n + 1, s, p =>
    match (s.pair p).held with
    | [] => s
    | c :: rest => cqDrain n ((s.modPair p fun r => { r with held := rest }).cqWrite p c) p

/-- Count a clamped command on its ring, or a clamped register write (R322). -/
def State.noteClamp (s : State) (tk : Ticket) (off : Nat) : State :=
  match tk.src with
  | .ring p => (s.modPair p fun r =>
      { r with clamps := satAdd 32 r.clamps 1,
               lastClamp := tk.op + off * 2 ^ 8 + tk.tag * 2 ^ 16 }).cntCmd 0xD2
  | .side => { s with cmd := { s.cmd with regClamp := satAdd 32 s.cmd.regClamp 1 } }

/-- Complete a command: the entry is written while the pair runs or is stopped, and held
otherwise (R320, Table 12-11). A side-entry command has no completion (R317). -/
def State.complete (s : State) (tk : Ticket) (status : Nat) (result : Nat) : State :=
  let s := match tk.clamp with | some off => s.noteClamp tk off | none => s
  match tk.src with
  | .side => s
  | .ring p =>
    let c : Completion := { tag := tk.tag, status := status, clamped := tk.clamp.isSome, late := tk.late,
                            ft := tk.ft % 2 ^ 48, result := BitVec.ofNat 32 result, quiet := tk.quiet }
    let s := s.modPair p fun r => { r with inflight := r.inflight - 1 }
    if ((s.pair p).state = .running ∨ (s.pair p).state = .stopped) ∧ (s.pair p).held = [] then s.cqWrite p c
    else s.modPair p fun r => { r with held := r.held ++ [c] }

/-- Status codes (Table 12-5). -/
abbrev stOk : Nat := 0
abbrev stAbsent : Nat := 1
abbrev stNotReady : Nat := 2
abbrev stBusy : Nat := 3
abbrev stBadOpcode : Nat := 4
abbrev stDenied : Nat := 5
abbrev stNoResource : Nat := 6
abbrev stAborted : Nat := 7
abbrev stTimeout : Nat := 8

/-! ### Descriptor fields (Table 12-3) -/

end Sys2Proof.Machine

namespace Sys2Proof

open Machine

/-- `n` bytes of the descriptor from byte `off`, little-endian. -/
def Cmd.le (c : Cmd) (off n : Nat) : Nat := (c.desc.toNat / 2 ^ (8 * off)) % 2 ^ (8 * n)
/-- Byte `off` of the descriptor. -/
def Cmd.byte (c : Cmd) (off : Nat) : Nat := c.le off 1
/-- OPCODE. -/
def Cmd.opcode (c : Cmd) : Nat := c.byte 0
/-- FENCE. -/
def Cmd.fence (c : Cmd) : Bool := bitOf (c.byte 1) 0
/-- QUIET. -/
def Cmd.quiet (c : Cmd) : Bool := bitOf (c.byte 1) 1
/-- TAG. -/
def Cmd.tag (c : Cmd) : Nat := c.le 2 2
/-- TARGET. -/
def Cmd.target (c : Cmd) : Nat := c.le 4 4
/-- LAUNCH; a side-entry command has launch time 0 (R317). -/
def Cmd.launch (c : Cmd) : Nat := match c.src with | .ring _ => c.le 8 8 | .side => 0

/-- The ticket of a command that takes effect at `ft`. -/
def Cmd.ticket (c : Cmd) (op ft : Nat) : Ticket :=
  let order := match c.src with
    | .ring p => if c.launch = 0 then some (p.val, op / 16, c.target) else none
    | .side => none
  { src := c.src, tag := c.tag, quiet := c.quiet, op := op, ft := ft, order := order }

/-- The lower of two clamped offsets (R322). -/
def minClamp : Option Nat → Option Nat → Option Nat
  | none, b => b
  | a, none => a
  | some a, some b => some (min a b)

/-- A field with a legal range: the value in effect, and its offset if it was clamped. -/
def Cmd.ranged (c : Cmd) (off n lo hi : Nat) : Nat × Option Nat :=
  let v := c.le off n
  (clampNat lo hi v, if lo ≤ v ∧ v ≤ hi then none else some off)

end Sys2Proof

namespace Sys2Proof.Machine

/-! ### Error summary (R347, R350) -/

/-- Some entry of a table satisfies a test. -/
def tany {α : Type} (t : Tbl α) (f : α → Bool) : Bool := t.any fun x => f x.2

/-- GLB_ERR_SUMMARY: the OR of the flags that each bit names. -/
def State.errSummary (s : State) : Nat :=
  bit (tany s.lnk.lanes (·.miswired) || tany s.lnk.links (fun l => l.lockLost || l.noResponse || l.crcErr))
  + 2 * bit (tany s.prt.ports (fun p => p.err != 0))
  + 4 * bit (tany s.swc.tiles (fun t => t.err != 0))
  + 8 * bit (s.ftu.islandStep || s.ftu.badPeriod || s.ftu.outlier || s.ftu.lockLost || s.ftu.reacquired
      || s.ftu.alarms != 0)
  + 16 * bit (s.acu.err != 0)
  + 32 * bit (tany s.home.slices (fun x => x.err != 0))
  + 64 * bit (s.mem.err != 0 || tany s.mem.chans (fun x => x.lanes != 0))
  + 128 * bit (tany s.mse.engines (fun x => x.err != 0))
  + 256 * bit (tany s.cmd.pairs (fun x => x.fetchErr || x.dbClamp) || tany s.cmd.dev (·.lost))
  + 512 * bit (s.ppu.err != 0)
  + 1024 * bit (s.msc.err != 0)
  + 2048 * bit (s.evr.err != 0 || s.pcn.freezeLate)

/-- Send the summary vector when an unmasked bit has changed from 0 to 1 (R350). -/
def State.noteSummary (s : State) : State :=
  let now := s.errSummary
  let rose := (List.range 12).any fun i => bitOf now i && !bitOf s.glb.lastSummary i && bitOf s.glb.irqMask i
  let s' := { s with glb := { s.glb with lastSummary := now } }
  if rose && s.glb.irqEn then s'.sendVector s.glb.irqVec else s'

/-! ### The passage of fabric time -/

/-- Commands accepted and not completed, over all pairs (R314). -/
def State.inflight (s : State) : Nat := s.cmd.pairs.foldl (fun n x => n + x.2.inflight) 0

/-- A feed channel in fault: COOLDOWN or LATCHED (Table 15-4). -/
def Feed.faulted (f : Feed) : Bool := f.state == .cooldown || f.state == .latched

/-- The events of Table 14-2 that are summed per ns of central time. -/
def State.countNs (s : State) : State :=
  let s := s.countEvery 0x01 1
  let s := if s.inflight ≥ 8192 then s.countEvery 0xD6 1 else s
  let s := if s.ftu.holdover then s.countEvery 0xDE 1 else s
  let s := if s.ftu.inEn && !s.ftu.locked then s.countEvery 0xDF 1 else s
  let s := if tany s.ppu.feeds Feed.faulted then s.countEvery 0xE6 1 else s
  -- a port in L1, or at reduced L0p width, has lanes in electrical idle (R59)
  s.prt.ports.foldl (fun s x =>
    if x.2.state = .up ∧ (List.range x.2.width).any (fun i => (s.lane (x.1 + i)).idle) = true then
      s.cntTile (x.1 / 16) 0x1A none (some (x.1 % 16)) else s) s

/-- What the chunk buffer holds of a stream, as positions and bytes: staged and not yet sent; or not yet delivered up to the
end of a chunk, and waiting for a hand-over (R270, R275). -/
def Stream.inBuffer (d : Stream) : List (Nat × Nat) :=
  if d.inbound then
    (if d.writes = [] ∧ d.prod = d.ack then []
     else [(d.prod, d.writes.foldl (fun m w => max m (w.1 + w.2)) d.ack - d.prod)]) ++ d.early.map fun w => (w.1, w.2.1)
  else [(d.pos - d.unsent, d.ready)]
/-- Bytes of a stream in the chunk buffer. -/
def Stream.buffered (d : Stream) : Nat := d.inBuffer.foldl (fun n w => n + w.2) 0
/-- What is summed per slot: the bytes in each engine's chunk buffer (Table 10-14). -/
def State.countSlot (s : State) : State :=
  s.streamList.foldl (fun s x => s.cntEngine x.2.engine 0xCE (some x.2.vfi) x.2.buffered) s

/-- Fabric time advances by one phase unit (R23, R24). -/
def State.advance (s : State) : State :=
  let s := { s with clock := s.clock + 1 }
  let s := if s.clock % 10 = 0 then s.countSlot else s
  if s.clock % 16 = 0 then s.countNs else s

/-! ### Channel requests (R229, R247, R373) -/

/-- XOR of the 5-bit groups of a number below 2^30. -/
def fold5 (x : Nat) : Nat := (List.range 6).foldl (fun c i => c ^^^ (x >>> (5 * i)) % 32) 0
/-- channel_of (R229). -/
def channelOf (la : Nat) : Nat := (la >>> 8) % 32 ^^^ fold5 (la >>> 13)
/-- Page number of spare `i`. -/
def State.sparePage (s : State) (i : Nat) : Nat := (s.laCapacity - 2 ^ 22) / 4096 + i
/-- The spare that serves a page. -/
def State.spareOf (s : State) (page : Nat) : Option Nat :=
  (s.mem.retire.find? fun x => x.2.valid && x.2.page == page).map (·.1)
/-- The line that a line of the local address space lies on. -/
def State.physLine (s : State) (line : Nat) : Nat :=
  match s.spareOf (line / 64) with
  | some i => s.sparePage i * 64 + line % 64
  | none => line
/-- A copy of the page is in progress. -/
def State.pageHeld (s : State) (page : Nat) : Bool := s.mem.retire.any fun x => x.2.hold && x.2.page == page
/-- Put a request into its channel's queue. -/
def State.memSubmit (s : State) (r : ChReq) : State :=
  let ch := channelOf (s.physLine r.line * 64)
  let s := s.modChan ch fun x => { x with queue := x.queue ++ [{ r with at16 := s.clock }] }
  if s.pageHeld (r.line / 64) then s.cntMem (ch / 8) 0xBF else s
/-- The recorder writes the journal entries from number `n` on, in the class Other (R19, R373). -/
def State.journalOut (s : State) (n : Nat) : State :=
  (List.range (s.evr.journalNext - n)).foldl (fun s i =>
    let slot := (n + i) % 983040
    s.memSubmit { cls := 2, stamp := s.clock, island := 93, line := s.laReserve / 64 + slot, write := true
                  data := BitVec.ofNat 512 (leNat (tget [] s.evr.journal slot)) }) s

/-! ### The wrapper of a command's effect -/

/-- The answer of a step. -/
abbrev Answer : Type := Host.Outcome State Fault Refusal

/-- What no command's effect reaches: the part itself, the carrier's EEPROM, the queue, and the hold,
which resets alone begin and the start alone ends (R404). `before`: the state the command found. What entries the
command made go to the journal's memory, and its cycle is over for the interrupt messages. -/
def State.framed (before after : State) : State :=
  let u := after.noteSummary.journalOut before.evr.journalNext
  { u with held := none, variant := before.variant, eeprom := before.eeprom, pending := before.pending, fmp := { u.fmp with sent := [] } }

/-- A command acts unless the module is held in module reset (R404); afterwards the error summary
is brought up to date. -/
def act (s : State) (f : State → State) : Answer :=
  match s.held with
  | some _ => .next s
  | none => .next (s.framed (f s))

/-- The FMP answers BAR accesses: its link is up and FMP_READY has set (R309, R344). -/
def State.fmpAlive (s : State) : Bool := s.fmp.linkUp && s.glb.fmpReady

/-- A register write or doorbell: it acts only while the FMP answers. -/
def actFmp (s : State) (f : State → State) : Answer :=
  act s fun s => if s.fmpAlive then f s else s

end Sys2Proof.Machine
end

