-- ==== Sys2Proof/Machine/Issue.lean ====
section
/-!
DEFINITION. How a command reaches its unit: acceptance (R316), the refusals before execution
(R4, R344, R416), the FTU launch queue (R40 to R45), and the completion (R320 to R322).
-/

namespace Sys2Proof.Machine

/-- What a unit answers to a command: the state after it, the status and RESULT if it completes at
once (`none`: the unit keeps the ticket), and the lowest clamped byte offset (R322). -/
structure Reply where
  st : State
  done : Option (Nat × Nat) := some (stOk, 0)
  clamp : Option Nat := none

/-- Completed with status OK. -/
def Reply.ok (s : State) (res : Nat := 0) (clamp : Option Nat := none) : Reply :=
  { st := s, done := some (stOk, res), clamp := clamp }
/-- Completed with another status and no effect (R321). -/
def Reply.bad (s : State) (status : Nat) (clamp : Option Nat := none) : Reply :=
  { st := s, done := some (status, 0), clamp := clamp }
/-- Still executing: the unit holds the ticket. -/
def Reply.later (s : State) : Reply := { st := s, done := none }

/-- An opcode: its kind (R40), what makes its unit absent (R4, R5), whether it needs swept LPDDR6
(R344), what the pipeline decides when it takes the command, and the effect in its unit. -/
structure OpSpec where
  code : Nat
  aligned : Bool := false
  absent : Cmd → State → Bool := fun _ _ => false
  needsMem : Cmd → Bool := fun _ => false
  /-- A status other than OK decided at the take (R214). -/
  refuse : Cmd → State → Option Nat := fun _ _ => none
  /-- What changes at the take (R214). -/
  taken : Cmd → State → State := fun _ s => s
  /-- The acceptance time A (R41, R214). -/
  accTime : State → Nat := State.ft
  /-- What it reads in the manager's memory when it is accepted (R257). -/
  reads : Cmd → State → List Byte := fun _ _ => []
  /-- At the boundary at that FT the action is put off to a later one (R358). -/
  defers : State → Nat → Bool := fun _ _ => false
  body : Ticket → Cmd → State → Reply

/-- The GLB_READY bit that governs an opcode range (Table 13-6). In recovery (R416) the MSC's
FW_STAGE, FW_VERIFY, FW_ACTIVATE and FW_QUERY execute and its other opcodes are not ready. -/
def State.opReady (s : State) (op : Nat) : Bool :=
  match op / 16 with
  | 0 => s.glb.fmpReady
  | 1 => s.glb.eqLoaded
  | 2 => s.glb.ftuRun
  | 3 => s.glb.sramSwept
  | 4 => s.glb.homeRun
  | 5 => s.glb.memSwept
  | 6 => s.glb.mseRun
  | 7 => s.glb.sramSwept
  | 8 => s.glb.sramSwept
  | 9 => s.glb.evrRun
  | 10 => s.glb.ppuRun
  | _ => if s.msc.state = .recovery then decide (op ≤ 0xB3) else s.glb.fwVerified

/-- An MSC firmware restart makes opcodes 0xB0 to 0xBF, and EVR_CLEAR, complete BUSY (Table 01-11,
R348). -/
def State.mscBusy (s : State) (op : Nat) : Bool :=
  s.msc.state == .restarting && (decide (0xB0 ≤ op) || op == 0x93)

/-- Deliver a unit's reply: complete the command, or leave its ticket with the unit. -/
def Reply.finish (r : Reply) (tk : Ticket) : State :=
  match r.done with
  | some (status, res) => r.st.complete { tk with clamp := minClamp tk.clamp r.clamp } status res
  | none => r.st

/-- Execute a command in its unit. -/
def OpSpec.run (o : OpSpec) (tk : Ticket) (c : Cmd) (s : State) : State :=
  if s.mscBusy o.code then s.complete tk stBusy 0 else (o.body tk c s).finish tk

/-- The launch time after its clamp to A + 2^46 (R43). -/
def launchTime (a t : Nat) : Nat := min t (a + 2 ^ 46)

/-- The queue entry of a command accepted at `a` with launch time `t` (R41). -/
def OpSpec.entry (o : OpSpec) (c : Cmd) (stamp a t : Nat) (data : List Byte) : Launch :=
  let late := !o.aligned && decide (t < a + 256)
  { op := o.code, cmd := c, launch := launchTime a t, accepted := stamp, a := a,
    aligned := o.aligned || late, e := max (launchTime a t) (a + 256), clamped := decide (a + 2 ^ 46 < t), data := data }

/-- A command of the pair, range and TARGET `k` has yet to execute: an island check that waits for its
beacon, a tag write in progress, or a command held behind one (R318). -/
def State.ahead (s : State) (k : Option (Nat × Nat × Nat)) : Bool :=
  k.isSome && (s.ftu.checks.any (fun t => t.order == k) || s.acu.writes.any (fun w => w.ticket.order == k)
    || s.cmd.behind.any fun b => (b.cmd.ticket b.op 0).order == k)

/-- Execute a command in its unit, or hold it there behind an earlier one (R318). -/
def OpSpec.enter (o : OpSpec) (data : List Byte) (c : Cmd) (s : State) : State :=
  let tk := c.ticket o.code s.ft
  if s.ahead tk.order then
    { s with cmd := { s.cmd with behind := s.cmd.behind ++ [{ op := o.code, cmd := c, data := data }] } }
  else o.run { tk with data := data } c s

/-- Pass a taken command to its unit, or to the launch queue if it is course-aligned or carries a
launch time (R40, R41). UNIT_ABSENT is decided first (R4), NOT_READY next (R344). A course-aligned
command without a launch time takes a place in the queue as well (DEDUCED from R44, R49). -/
def OpSpec.issue (o : OpSpec) (c : Cmd) (stamp : Nat) (s : State) : State :=
  let tk := c.ticket o.code s.ft
  if o.absent c s then s.complete tk stAbsent 0
  else if !s.opReady o.code || (o.needsMem c && !s.glb.memSwept) then s.complete tk stNotReady 0
  else if s.mscBusy o.code then s.complete tk stBusy 0
  else match o.refuse c s with
    | some st => s.complete tk st 0
    | none =>
      if o.aligned || decide (c.launch ≠ 0) then
        if s.ftu.launches.length ≥ 4096 then s.complete tk stNoResource 0
        else
          let s := o.taken c s
          { s with ftu := { s.ftu with
              launches := s.ftu.launches ++ [o.entry c stamp (o.accTime s) c.launch (o.reads c s)] } }
      else o.enter (o.reads c s) c (o.taken c s)

/-- A register write that acts as a command, as a side-entry descriptor (R317): `fields` are byte
offset, length and value; `part` marks in byte 63 which fields the register holds (0: all). -/
def sideCmd (target part : Nat) (fields : List (Nat × Nat × Nat)) : Cmd :=
  { src := .side
    desc := BitVec.ofNat 512 (target % 2 ^ 32 * 2 ^ 32 + part % 256 * 2 ^ 504 +
      fields.foldl (fun n f => n + f.2.2 % 2 ^ (8 * f.2.1) * 2 ^ (8 * f.1)) 0) }

/-- A field group that a command sets: every group of a descriptor, the written register's of a
register write. -/
def partSet (c : Cmd) (i : Nat) : Bool :=
  match c.src with
  | .ring _ => true
  | .side => c.byte 63 == 0 || bitOf (c.byte 63) i

/-- Put a command-acting register write into the side entry (R317, R351). -/
def State.sidePush (s : State) (op : Nat) (c : Cmd) : State :=
  { s with cmd := { s.cmd with side := s.cmd.side ++ [{ op := op, cmd := c }] } }

/-- Acceptance of a ring descriptor (R316): it counts as in flight until it completes (R314). -/
def State.accept (s : State) (c : Cmd) : State :=
  match c.src with
  | .ring p =>
    let s := s.modPair p fun r => { r with inflight := r.inflight + 1 }
    ({ s with cmd := { s.cmd with accepted := satAdd 32 s.cmd.accepted 1 } }).cntCmd 0xD0
  | .side => s.cntCmd 0xD7

/-- A command accepted, taken and passed on at the present instant. -/
def OpSpec.submit (o : OpSpec) (c : Cmd) (s : State) : State := o.issue c s.clock (s.accept c)

/-- The boundaries that have passed, newest first, from boundary 0 (the device keeps the last). -/
def State.firstBoundary (s : State) (from' : Nat) : Nat :=
  (s.ftu.recent.filter fun x => decide (from' ≤ x.2)).foldl (fun m x => min m x.2) s.ftu.boundary

/-- A queued action has fallen due (R41). -/
def Launch.due (l : Launch) (s : State) : Bool :=
  if l.aligned then decide (l.e ≤ s.ftu.boundary) else decide (l.e ≤ s.ft)

/-- The instant at which a due action takes effect (R41). -/
def Launch.at' (l : Launch) (s : State) : Nat := if l.aligned then s.firstBoundary l.e else l.e

/-- Source index of R47 for launched actions; 64 for the side entry. -/
def Src.index : Src → Nat
  | .ring p => p
  | .side => 64

/-- The order of R45: launch time, then acceptance stamp, then the rotating key. -/
def Launch.key (l : Launch) (slot : Nat) : Nat × Nat × Nat :=
  (l.launch, l.accepted, tieKey (Src.index l.cmd.src) slot 65)

/-- Lexicographic order of keys. -/
def keyLt (a b : Nat × Nat × Nat) : Bool :=
  decide (a.1 < b.1) || (a.1 == b.1 && (decide (a.2.1 < b.2.1) ||
    (a.2.1 == b.2.1 && decide (a.2.2 < b.2.2))))

/-- The first due action in the order of R45. -/
def pickLaunch (s : State) : List Launch → Option Launch
  | [] => none
  | l :: ls =>
    match pickLaunch s ls with
    | none => if l.due s then some l else none
    | some m => if l.due s && !keyLt (m.key s.slot) (l.key s.slot) then some l else some m

/-- Record a late launch (R42): the event LAUNCH_LATE and FTU_LATE_COUNT. -/
def State.noteLate (s : State) (c : Cmd) (ft lateness : Nat) : State :=
  let s := match c.src with
    | .ring p => s.event 0x20 89 (t64Ns ft) [(1, p), (2, c.tag), (4, min (2 ^ 32 - 1) lateness)]
    | .side => s
  ({ s with ftu := { s.ftu with lateCount := satAdd 32 s.ftu.lateCount 1 } }).cntFtu 0xDA

/-- How late the action executes, in ns: its intended instant is T, or the first boundary at or after T; with
T = 0 it is never late (R42). -/
def OpSpec.lag (o : OpSpec) (l : Launch) (s : State) : Nat :=
  if l.launch = 0 then 0 else l.at' s - if o.aligned then s.firstBoundary l.launch else l.launch

/-- What the FTU notes of an action that has executed at `ft`, `lag` ns late (R42). -/
def State.noteLaunched (s : State) (c : Cmd) (ft lag : Nat) : State :=
  (if 0 < lag then s.noteLate c ft lag else s).cntFtu 0xD9

/-- The ticket of a launched action that executes at `s` (R41 to R43). -/
def OpSpec.launchTicket (o : OpSpec) (l : Launch) (s : State) : Ticket :=
  { l.cmd.ticket l.op (l.at' s) with data := l.data, late := decide (0 < o.lag l s), launched := true,
                                     clamp := if l.clamped then some 8 else none }

/-- The state without the action in the launch queue. -/
def State.unqueue (s : State) (l : Launch) : State :=
  { s with ftu := { s.ftu with launches := s.ftu.launches.erase l } }

/-- Execute one launched action (R41 to R45) with the opcode's specification. One that is put off is noted when
it executes. -/
def OpSpec.launchNow (o : OpSpec) (l : Launch) (s : State) : State :=
  let s := s.unqueue l
  let done := o.run (o.launchTicket l s) l.cmd s
  if o.defers s (l.at' s) then done else done.noteLaunched l.cmd (l.at' s) (o.lag l s)

end Sys2Proof.Machine
end

