-- ==== Sys2Proof/Machine/Rings.lean ====
section
/-!
DEFINITION. The command engine's rings (chapter 12): doorbells, descriptor fetching, the states of
Table 12-11, interrupts, the CMD window, and the commands that act on them.
-/

namespace Sys2Proof.Machine

/-! ### Registers in pairs (R8) -/

/-- A write of a _LO register stages the half (R8); `a` is the BAR0 offset of the pair. -/
def State.stageLo (s : State) (a v : Nat) : State :=
  { s with fmp := { s.fmp with stagedLo := tset 0 s.fmp.stagedLo a (BitVec.ofNat 32 v) } }
/-- The 64-bit value that a write `v` of the _HI register commits (R8). -/
def State.commit64 (s : State) (a v : Nat) : Nat :=
  (tget 0 s.fmp.stagedLo a).toNat + v % 2 ^ 32 * 2 ^ 32
/-- Count a register write whose value the device changed (R322). -/
def State.regClamp (s : State) : State :=
  { s with cmd := { s.cmd with regClamp := satAdd 32 s.cmd.regClamp 1 } }
/-- Count it if the value was changed. -/
def State.regClampIf (s : State) (b : Bool) : State := if b then s.regClamp else s

/-! ### Doorbells (R313) -/

/-- A doorbell index on a ring of 2^log2 entries. -/
def doorbellIndex (log2 v : Nat) : Nat := min (2 ^ log2 - 1) (v % 65536)

/-- Record a clamped doorbell (R313). -/
def RingPair.bellClamp (r : RingPair) (v : Nat) : RingPair :=
  if 2 ^ r.log2 ≤ v % 65536 then { r with dbClamp := true, clamps := satAdd 32 r.clamps 1 } else r

/-- The SQ tail doorbell of pair `p`: ignored while EN = 0. -/
def State.sqDoorbell (s : State) (p v : Nat) : State :=
  let r := s.pair p
  if r.en then
    let r := { r.bellClamp v with sqTail := doorbellIndex r.log2 v }
    s.setPair p { r with bells := if r.sqTail = r.sqHead then [] else r.bells ++ [(r.sqTail, s.clock)] }
  else s

/-- The CQ head doorbell of pair `p`: it releases entries. -/
def State.cqDoorbell (s : State) (p v : Nat) : State :=
  let r := s.pair p
  if r.en then s.setPair p { r.bellClamp v with cqHead := doorbellIndex r.log2 v } else s

/-! ### Credit and fetching (R314) -/

/-- Completions written and not yet released. -/
def RingPair.unreleased (r : RingPair) : Nat := (r.cqTail + 2 ^ r.log2 - r.cqHead) % 2 ^ r.log2
/-- Descriptors placed and not yet fetched. -/
def RingPair.unfetched (r : RingPair) : Nat := (r.sqTail + 2 ^ r.log2 - r.sqHead) % 2 ^ r.log2
/-- Entries the pair may still take on. -/
def RingPair.credit (r : RingPair) : Nat :=
  (2 ^ r.log2 - 1) - (r.inflight + r.unreleased + r.held.length + (r.fetch.map (·.count)).getD 0)
/-- Descriptors that one fetch may read: up to 16, consecutive, not across the ring's end. -/
def RingPair.fetchable (r : RingPair) : Nat :=
  min (min 16 r.credit) (min r.unfetched (2 ^ r.log2 - r.sqHead))
/-- Descriptors asked for by open fetches. -/
def State.fetching (s : State) : Nat :=
  s.cmd.pairs.foldl (fun n x => n + (x.2.fetch.map (·.count)).getD 0) 0

/-- The doorbells that are left once `n` more descriptors have been fetched. -/
def RingPair.bellsAfter (r : RingPair) (n clock : Nat) : List (Nat × Nat) :=
  let left := r.bells.filter fun b => decide (n < (b.1 + 2 ^ r.log2 - r.sqHead) % 2 ^ r.log2)
  if (r.sqHead + n) % 2 ^ r.log2 = r.sqTail then [] else if left = [] then [(r.sqTail, clock)] else left

/-- The pair that the next fetch serves: the earliest bell, then the lowest rotating key. -/
def pickFetch (slot : Nat) : Tbl RingPair → Option (Nat × Nat × Nat)
  | [] => none
  | (p, r) :: t =>
    match r.bells with
    | (_, b) :: _ =>
      if r.state = .running ∧ r.fetch = none ∧ 0 < r.fetchable then
        match pickFetch slot t with
        | some (b', k', q) =>
          if b < b' ∨ (b = b' ∧ tieKey p slot 64 < k') then some (b, tieKey p slot 64, p) else some (b', k', q)
        | none => some (b, tieKey p slot 64, p)
      else pickFetch slot t
    | [] => pickFetch slot t

/-- Issue one descriptor fetch, if a pair has descriptors and credit, a fetch is free and the
pipeline is not full. -/
def State.fetchIssue (s : State) : State :=
  if (s.cmd.pairs.filter fun x => x.2.fetch.isSome).length ≥ 16 then s
  else match pickFetch s.slot s.cmd.pairs with
    | none => s
    | some (_, _, p) =>
      let r := s.pair p
      let n := min r.fetchable (8192 - (s.inflight + s.fetching))
      if n = 0 then s else s.setPair p { r with fetch := some { first := r.sqHead, count := n, at16 := s.clock } }

/-- The descriptor at index `i` of pair `r`, as the manager's memory holds it. -/
def State.descAt (s : State) (r : RingPair) (i : Nat) : BitVec 512 :=
  BitVec.ofNat 512 (leNat (s.mgrRead (r.sqBase + i * 64) 64))

/-- Accept the descriptors of a fetch that has returned (R316). -/
def State.fetchData (s : State) (p : Nat) (f : Fetch) : State :=
  let r := s.pair p
  let ds := (List.range f.count).map fun i => ({ desc := s.descAt r (f.first + i), stamp := s.clock } : WaitDesc)
  let head := (f.first + f.count) % 2 ^ r.log2
  let s := s.setPair p { r with fetch := none, waiting := r.waiting ++ ds, inflight := r.inflight + f.count,
                                sqHead := head, bells := r.bellsAfter f.count s.clock }
  ({ s with cmd := { s.cmd with accepted := satAdd 32 s.cmd.accepted f.count } }).cntCmd 0xD0 f.count

/-- A fetch that failed stops its pair (Table 12-11): kinds 1 completion error, 2 poison,
3 timeout (Table 12-9). -/
def State.fetchFail (s : State) (p kind : Nat) : State :=
  let r := s.pair p
  (s.setPair p { r with fetch := none, fetchErr := true,
                        state := if r.state = .running then .stopped else r.state }).record 0xB0 90 s.now64
    [(1, p), (2, r.sqHead), (1, kind)]

/-! ### Ring states (R312, R330) -/

/-- EN 0 to 1: indices 0, phase 1; held completions written first, or discarded and counted. -/
def State.pairEnable (s : State) (p : Nat) : State :=
  let r := s.pair p
  let n := r.held.length
  let r0 := { r with en := true, sqHead := 0, sqTail := 0, cqHead := 0, cqTail := 0, phase := true,
                     state := .running, bells := [], fetch := none }
  if r.holdKeep then (s.setPair p r0).cqDrain n p
  else if n = 0 then s.setPair p r0
  else
    let s := s.setPair p { r0 with held := [], discard := satAdd 32 r.discard n }
    s.record 0xB1 90 s.now64 [(1, p), (2, min 65535 n)]

/-- EN 1 to 0: fetching stops and later completions are held. -/
def State.pairDisable (s : State) (p : Nat) : State :=
  s.modPair p fun r => { r with en := false, state := .disabled, fetch := none, bells := [] }

/-- CMD_STATUS.FMP_UP (R338). -/
def State.fmpUp (s : State) : Bool := s.fmp.linkUp && s.fmp.bme

/-- Completions held over all pairs. -/
def State.heldAll (s : State) : Nat := s.cmd.pairs.foldl (fun n x => n + x.2.held.length) 0

/-- RINGS_RESTORED, posted once after a loss of the FMP (R330). -/
def State.ringsRestored (s : State) : State :=
  match s.cmd.lossFt with
  | none => s
  | some t =>
    let s := { s with cmd := { s.cmd with lossFt := none } }
    s.event 0x01 90 t [(8, s.now64), (4, s.heldAll)]

/-- The bell of a pair that resumes: descriptors placed before wait from now on. -/
def RingPair.rebell (r : RingPair) (clock : Nat) : RingPair :=
  { r with state := .running, bells := if r.sqTail = r.sqHead then [] else [(r.sqTail, clock)] }

/-- RESUME of a pair (Table 12-11); ignored while FMP_UP = 0. -/
def State.pairResume (s : State) (p : Nat) : State :=
  let r := s.pair p
  if s.fmpUp then
    match r.state with
    | .suspended =>
      let s := s.ringsRestored
      (s.setPair p ((s.pair p).rebell s.clock)).cqDrain r.held.length p
    | .stopped => s.setPair p (r.rebell s.clock)
    | _ => s
  else s

/-- A write of CMD_RING_CTRL of pair `p`. -/
def State.ringCtrl (s : State) (p v : Nat) : State :=
  let was := (s.pair p).en
  let s := s.modPair p fun r => { r with holdKeep := bitOf v 2 }
  if !was && bitOf v 0 then s.pairEnable p
  else if was && !bitOf v 0 then s.pairDisable p
  else if bitOf v 1 then s.pairResume p else s

/-- EN 0 to 1 of a device ring: held entries are written first, or lost and counted (R325). -/
def State.devEnable (s : State) (d : Nat) : State :=
  let r := s.devRing d
  let n := r.held.length
  let r0 := { r with en := true, head := 0, tail := 0, phase := true, state := .running }
  if r.holdKeep then (s.setDevRing d r0).devDrain n d
  else if n = 0 then s.setDevRing d r0
  else (s.setDevRing d { r0 with held := [], lost := true, lostCount := satAdd 32 r.lostCount n,
                                 lostBefore := true }).cntCmd 0xD4 n

/-- EN 1 to 0 of a device ring: later entries are held. -/
def State.devDisable (s : State) (d : Nat) : State :=
  s.modDevRing d fun r => { r with en := false, state := .disabled }

/-- RESUME of a device ring. -/
def State.devResume (s : State) (d : Nat) : State :=
  if s.fmpUp && (s.devRing d).state == .suspended then
    let s := s.ringsRestored
    (s.modDevRing d fun r => { r with state := .running }).devDrain (s.devRing d).held.length d
  else s

/-- A write of CMD_DR_CTRL of device ring `d`. -/
def State.devCtrl (s : State) (d v : Nat) : State :=
  let was := (s.devRing d).en
  let s := s.modDevRing d fun r =>
    { r with holdKeep := bitOf v 2, vec := bitsOf v 15 8, irqEn := bitOf v 16 }
  if !was && bitOf v 0 then s.devEnable d
  else if was && !bitOf v 0 then s.devDisable d
  else if bitOf v 1 then s.devResume d else s

/-- A write of CMD_DR_HEAD: a value at or above the size takes size - 1; room lets held entries go. -/
def State.devHead (s : State) (d v : Nat) : State :=
  let r := s.devRing d
  let v := v % 65536
  let s := s.setDevRing d { r with head := min v (2 ^ r.log2 - 1) }
  (s.regClampIf (decide (2 ^ r.log2 ≤ v))).devDrain r.held.length d

/-! ### The FMP link and its interrupts (R309, R310, R329, R350) -/

/-- An FMP reset: configuration space to its defaults, MSI-X cleared, running rings suspended. -/
def State.fmpReset (s : State) : State :=
  let s := { s with
    fmp := { s.fmp with linkUp := false, bme := false, msixEn := false, table := [], pend := [], waiting := [] },
    cmd := { s.cmd with lossFt := match s.cmd.lossFt with | some t => some t | none => some s.now64 } }
  { s with cmd := { s.cmd with
      pairs := s.cmd.pairs.map fun (p, r) =>
        (p, if r.state = .running ∨ r.state = .stopped then { r with state := .suspended, fetch := none, bells := [] } else r),
      dev := s.cmd.dev.map fun (d, r) => (d, if r.state = .running then { r with state := .suspended } else r) } }

/-- Bus Master Enable and MSI-X Enable set: each waiting vector is sent once (R329). -/
def State.masterEnable (s : State) : State :=
  let ws := s.fmp.waiting
  let s := { s with fmp := { s.fmp with bme := true, msixEn := true, waiting := [] } }
  ws.foldr (fun v s => s.sendVector v) s

/-- Clear the mask of vector `v`; a pending message is sent (R350). -/
def State.msixUnmask (s : State) (v : Nat) : State :=
  let e := tget {} s.fmp.table v
  let was := s.fmp.pend.contains v
  let s := { s with fmp := { s.fmp with table := tset {} s.fmp.table v { e with masked := false },
                                        pend := s.fmp.pend.filter (· ≠ v) } }
  if was then s.sendVector v else s

/-! ### The CMD window (Tables 12-17, 12-18) -/

/-- Alignment of a ring's base in address bits: 4 KiB, or the ring's size if that is smaller (R311). -/
def baseAlign (log2 entryLog2 : Nat) : Nat := min 12 (log2 + entryLog2)

/-- State code of Table 12-18. -/
def RingState.code : RingState → Nat
  | .disabled => 0 | .running => 1 | .suspended => 2 | .stopped => 3

/-- Ring pair block, offset `o`. -/
def State.pairRead (s : State) (p o : Nat) : Nat :=
  let r := s.pair p
  match o with
  | 0x00 => r.sqBase % 2 ^ 32
  | 0x04 => r.sqBase / 2 ^ 32
  | 0x08 => r.cqBase % 2 ^ 32
  | 0x0C => r.cqBase / 2 ^ 32
  | 0x10 => r.log2
  | 0x14 => bit r.en + 4 * bit r.holdKeep
  | 0x18 => r.vec + 2 ^ 8 * bit r.irqEn + 2 ^ 16 * r.irqCount + 2 ^ 24 * r.irqDelay
  | 0x1C => r.sqHead
  | 0x20 => r.sqTail
  | 0x24 => r.cqHead
  | 0x28 => r.cqTail + 2 ^ 16 * bit r.phase
  | 0x2C => r.state.code + 8 * bit r.fetchErr + 16 * bit r.dbClamp
  | 0x30 => r.clamps
  | 0x34 => r.lastClamp
  | 0x38 => r.discard
  | 0x3C => r.inflight
  | _ => 0

/-- Device ring block, offset `o`. -/
def State.devRead (s : State) (d o : Nat) : Nat :=
  let r := s.devRing d
  match o with
  | 0x00 => r.base % 2 ^ 32
  | 0x04 => r.base / 2 ^ 32
  | 0x08 => r.log2
  | 0x0C => bit r.en + 4 * bit r.holdKeep + 2 ^ 8 * r.vec + 2 ^ 16 * bit r.irqEn
  | 0x10 => r.head
  | 0x14 => r.tail
  | 0x18 => r.state.code + 8 * bit r.phase + 16 * bit r.lost
  | 0x1C => r.lostCount
  | 0x20 => r.held.length
  | _ => 0

/-- CMD_STATUS. -/
def State.cmdStatus (s : State) : Nat :=
  bit s.fmpUp + 2 * bit (tany s.cmd.pairs (·.state == .suspended) || tany s.cmd.dev (·.state == .suspended))
    + 4 * bit (decide (8192 ≤ s.inflight))

/-- A read of the CMD window at offset `o`. -/
def State.cmdRead (s : State) (o : Nat) : Nat :=
  if o = 0x0 then s.cmdStatus
  else if o = 0x4 then s.inflight + 2 ^ 16 * s.heldAll
  else if o = 0x8 then s.cmd.accepted
  else if o = 0xC then s.cmd.regClamp
  else if 0x20 ≤ o ∧ o < 0x40 then bitsOf s.cmd.evtFilter.toNat ((o - 0x20) * 8 + 31) ((o - 0x20) * 8)
  else if 0x100 ≤ o ∧ o < 0x1C0 then s.devRead ((o - 0x100) / 0x40) ((o - 0x100) % 0x40)
  else if 0x1000 ≤ o ∧ o < 0x2000 then s.pairRead ((o - 0x1000) / 0x40) (o % 0x40)
  else 0

/-- Set a pair's size and align its bases (R311, R312). -/
def State.pairSize (s : State) (p v : Nat) : State :=
  let r := s.pair p
  let n := clampNat 6 16 (v % 32)
  (s.setPair p { r with log2 := n, sqBase := alignDown (baseAlign n 6) r.sqBase,
                        cqBase := alignDown (baseAlign n 4) r.cqBase }).regClampIf (decide (n ≠ v % 32))

/-- A write to a ring pair block; `a` is the block's BAR0 offset. -/
def State.pairWrite (s : State) (p o a v : Nat) : State :=
  let r := s.pair p
  match o with
  | 0x00 => s.stageLo a v
  | 0x04 =>
    if r.en then s else
      let b := s.commit64 a v
      let k := alignDown (baseAlign r.log2 6) b
      (s.setPair p { r with sqBase := k }).regClampIf (decide (k ≠ b))
  | 0x08 => s.stageLo (a + 8) v
  | 0x0C =>
    if r.en then s else
      let b := s.commit64 (a + 8) v
      let k := alignDown (baseAlign r.log2 4) b
      (s.setPair p { r with cqBase := k }).regClampIf (decide (k ≠ b))
  | 0x10 => if r.en then s else s.pairSize p v
  | 0x14 => s.ringCtrl p v
  | 0x18 => s.setPair p { r with vec := v % 256, irqEn := bitOf v 8, irqCount := bitsOf v 23 16,
                                 irqDelay := bitsOf v 31 24 }
  | 0x2C => s.setPair p { r with fetchErr := r.fetchErr && !bitOf v 3, dbClamp := r.dbClamp && !bitOf v 4 }
  | _ => s

/-- A write to a device ring block. -/
def State.devRegWrite (s : State) (d o a v : Nat) : State :=
  let r := s.devRing d
  match o with
  | 0x00 => s.stageLo a v
  | 0x04 =>
    if r.en then s else
      let b := s.commit64 a v
      let k := alignDown (baseAlign r.log2 (if d = 0 then 5 else 6)) b
      (s.setDevRing d { r with base := k }).regClampIf (decide (k ≠ b))
  | 0x08 =>
    if r.en then s else
      let n := clampNat 6 16 (v % 32)
      (s.setDevRing d { r with log2 := n, base := alignDown (baseAlign n (if d = 0 then 5 else 6)) r.base }).regClampIf
        (decide (n ≠ v % 32))
  | 0x0C => s.devCtrl d v
  | 0x10 => s.devHead d v
  | 0x18 => s.setDevRing d { r with lost := r.lost && !bitOf v 4 }
  | _ => s

/-- A write to the CMD window at offset `o`. -/
def State.cmdWrite (s : State) (o v : Nat) : State :=
  if 0x100 ≤ o ∧ o < 0x1C0 then
    s.devRegWrite ((o - 0x100) / 0x40) ((o - 0x100) % 0x40) (0x10000 + alignDown 6 o) v
  else if 0x1000 ≤ o ∧ o < 0x2000 then
    s.pairWrite ((o - 0x1000) / 0x40) (o % 0x40) (0x10000 + alignDown 6 o) v
  else s

/-! ### The commands -/

/-- SQ_TAIL_DOORBELL (R313). -/
def execSqTailDoorbell (ring : Ring) (value : Word) (s : State) : Answer :=
  actFmp s fun s => s.sqDoorbell ring value.toNat

/-- CQ_HEAD_DOORBELL (R313). -/
def execCqHeadDoorbell (ring : Ring) (value : Word) (s : State) : Answer :=
  actFmp s fun s => s.cqDoorbell ring value.toNat

/-- RING_ENABLE (R312): CMD_RING_CTRL written with EN = 1. -/
def execRingEnable (ring : Ring) (value : Word) (s : State) : Answer :=
  actFmp s fun s => s.ringCtrl ring (value ||| 1).toNat

/-- RING_DISABLE (R330): CMD_RING_CTRL written with EN = 0. -/
def execRingDisable (ring : Ring) (value : Word) (s : State) : Answer :=
  actFmp s fun s => s.ringCtrl ring (value &&& ~~~1).toNat

/-- RING_RESUME (R330): CMD_RING_CTRL written with RESUME = 1 and EN as it is. -/
def execRingResume (ring : Ring) (value : Word) (s : State) : Answer :=
  actFmp s fun s => s.ringCtrl ring (((value &&& ~~~3) ||| 2).toNat + bit (s.pair ring).en)

/-- DEVICE_RING_ENABLE (R312). -/
def execDeviceRingEnable (d : Fin 3) (value : Word) (s : State) : Answer :=
  actFmp s fun s => s.devCtrl d (value ||| 1).toNat

/-- DEVICE_RING_DISABLE (R330). -/
def execDeviceRingDisable (d : Fin 3) (value : Word) (s : State) : Answer :=
  actFmp s fun s => s.devCtrl d (value &&& ~~~1).toNat

/-- DEVICE_RING_RESUME (R330). -/
def execDeviceRingResume (d : Fin 3) (value : Word) (s : State) : Answer :=
  actFmp s fun s => s.devCtrl d (((value &&& ~~~3) ||| 2).toNat + bit (s.devRing d).en)

/-- CMD_DR_HEAD (R325). -/
def execCmdDrHead (d : Fin 3) (value : Word) (s : State) : Answer :=
  actFmp s fun s => s.devHead d value.toNat

/-- MSIX_VECTOR_UNMASK (R350). -/
def execMsixVectorUnmask (vector : Byte) (s : State) : Answer :=
  actFmp s fun s => s.msixUnmask vector.toNat

/-- BUS_MASTER_ENABLE (R329). -/
def execBusMasterEnable (s : State) : Answer := actFmp s State.masterEnable

/-- FMP_RESET (R310, R330). -/
def execFmpReset (s : State) : Answer := act s State.fmpReset

/-- FMP_LINK_UP (R309): the FMP link reaches L0. -/
def execFmpLinkUp (s : State) : Answer := act s fun s => { s with fmp := { s.fmp with linkUp := true } }

/-- DESCRIPTOR_FETCH_ISSUE (R314). -/
def execDescriptorFetchIssue (s : State) : Answer := act s State.fetchIssue

/-- DESCRIPTOR_FETCH_COMPLETE (R314, R330): without an open fetch nothing returns. -/
def execDescriptorFetchComplete (ring : Ring) (result : FetchResult) (s : State) : Answer :=
  act s fun s =>
    match (s.pair ring).fetch with
    | none => s
    | some f =>
      match result with
      | .data => s.fetchData ring f
      | .completionError => s.fetchFail ring 1
      | .poisoned => s.fetchFail ring 2

/-- FETCH_TIMEOUT (R330): a fetch without data for 50 ms. -/
def execFetchTimeout (ring : Ring) (s : State) : Answer :=
  act s fun s =>
    match (s.pair ring).fetch with
    | none => s
    | some f => if f.at16 + ms16 50 ≤ s.clock then s.fetchFail ring 3 else s

/-- COMPLETION_IRQ_DELAY (R329): DELAY us since the first entry after the last interrupt. -/
def execCompletionIrqDelay (ring : Ring) (s : State) : Answer :=
  act s fun s =>
    let r := s.pair ring
    match r.firstAt with
    | none => s
    | some t =>
      if r.irqEn = true ∧ r.irqDelay ≠ 0 ∧ t + us16 r.irqDelay ≤ s.clock then
        (s.setPair ring { r with sinceIrq := 0, firstAt := none }).sendVector r.vec
      else s

end Sys2Proof.Machine
end

