-- ==== Sys2Proof/Machine/Global.lean ====
section
/-!
DEFINITION. The GLB window (chapter 13) and the global opcodes (Table 12-14).
-/

namespace Sys2Proof.Machine

/-- GLB_READY (Table 13-4). -/
def State.readyWord (s : State) : Nat :=
  let g := s.glb
  bit g.ready + 2 * bit g.fmpReady + 4 * bit g.sramSwept + 8 * bit g.fwVerified + 16 * bit g.ftuRun
    + 32 * bit g.eqLoaded + 64 * bit g.coreRun + 128 * bit g.homeRun + 256 * bit g.memTrained
    + 512 * bit g.memSwept + 1024 * bit g.mseRun + 2048 * bit g.ppuRun + 4096 * bit g.evrRun

/-- READY sets in the cycle in which the last of bits 2 to 12 sets (R348). -/
def State.noteReady (s : State) : State :=
  let g := s.glb
  if !g.ready && g.sramSwept && g.fwVerified && g.ftuRun && g.eqLoaded && g.coreRun && g.homeRun
      && g.memTrained && g.memSwept && g.mseRun && g.ppuRun && g.evrRun then
    { s with glb := { g with ready := true, readyFt := s.ft } }
  else s

/-- A write to a window whose readiness bit is 0 is ignored and counted (R344). -/
def State.gated (s : State) (ready : Bool) (f : State → State) : State :=
  if ready then f s else { s with glb := { s.glb with notReadyWr := satAdd 32 s.glb.notReadyWr 1 } }

/-- GLB_PART (Table 13-3). -/
def partOf : Variant → Nat
  | .k1024F => 0x11024
  | .k1024B => 0x21024
  | .k512B => 0x30512

/-- An RW1C flag of tile `t`'s LNK, PRT or SWC sub-window is set (GLB_TILE_ERR). -/
def State.tileErr (s : State) (t : Nat) : Bool :=
  let l := s.link t
  (List.range 16).any (fun o => (s.lane (16 * t + o)).miswired || (s.port (16 * t + o)).err != 0)
    || l.lockLost || l.noResponse || l.crcErr || (s.swcTile t).err != 0

/-- 32 bits of GLB_TILE_ERR from tile `t0`. -/
def State.tileErrs (s : State) (t0 : Nat) : Nat :=
  (List.range 32).foldl (fun n i => n + 2 ^ i * bit (s.tileErr (t0 + i))) 0

/-- An MSI-X table entry, register `o` of 4. -/
def MsixEntry.read (e : MsixEntry) : Nat → Nat
  | 0 => e.addr.toNat % 2 ^ 32
  | 4 => e.addr.toNat / 2 ^ 32
  | 8 => e.data.toNat
  | _ => bit e.masked

/-- GLB_FW_RUNNING (R439): 0 until FW_VERIFIED sets and in recovery. -/
def State.fwRunning (s : State) : Nat :=
  if s.glb.fwVerified && s.msc.state != .recovery then s.msc.runVersion % 2 ^ 24 + 2 ^ 24 * bit s.msc.runB else 0

/-- A read of the GLB window at offset `o` (Table 13-3). -/
def State.glbRead (s : State) (o : Nat) : Nat :=
  match o with
  | 0x0000 => 0x484F4853
  | 0x0004 => partOf s.variant
  | 0x0008 => Config.stepping.toNat
  | 0x000C => 1
  | 0x0010 => (capOf s.variant).toNat
  | 0x0018 => Config.serial.toNat % 2 ^ 32
  | 0x001C => Config.serial.toNat / 2 ^ 32
  | 0x0020 => s.fwRunning
  | 0x0024 => Config.romVersion.toNat
  | 0x0100 => s.readyWord
  | 0x0104 => s.glb.readyFt % 2 ^ 32
  | 0x0108 => s.glb.readyFt / 2 ^ 32
  | 0x010C => s.glb.notReadyWr
  | 0x0204 => s.glb.causeModule + 2 ^ 4 * s.glb.causeMsc + 2 ^ 16 * s.glb.mscCount
  | 0x0300 => s.errSummary
  | 0x0304 => s.glb.irqVec + 2 ^ 8 * bit s.glb.irqEn + 2 ^ 16 * s.glb.irqMask
  | 0x0308 => s.tileErrs 0
  | 0x030C => s.tileErrs 32
  | 0x0310 => min 64 (s.cmd.side.filter fun x => !x.mctp).length
  | 0x0314 => s.glb.scratch.toNat
  | _ =>
    if 0x8000 ≤ o ∧ o < 0x9000 then (tget {} s.fmp.table ((o - 0x8000) / 16)).read (o % 16)
    else if 0x9000 ≤ o ∧ o < 0x9020 then
      (List.range 32).foldl (fun n i => n + 2 ^ i * bit (s.fmp.pend.contains ((o - 0x9000) * 8 + i))) 0
    else 0

/-- A write of GLB_RESET_CTRL (R349): the reset falls due 1 us later. -/
def State.resetCtrl (s : State) (v : Nat) : State :=
  if v / 2 ^ 16 % 2 ^ 16 ≠ 0x4B31 then s
  else
    let kind := v % 16
    let s := s.regClampIf (decide (2 < kind))
    if kind = 0 then s
    else if kind = 1 then
      if s.msc.state = .restarting ∨ s.glb.resetDue.isSome then s
      else { s with glb := { s.glb with resetDue := some (1, s.clock + us16 1) } }
    else match s.glb.resetDue with
      | some (2, _) => s
      | _ => { s with glb := { s.glb with resetDue := some (2, s.clock + us16 1) } }

/-- A write to an MSI-X table entry. -/
def State.msixWrite (s : State) (n o v : Nat) : State :=
  let e := tget {} s.fmp.table n
  let put (e : MsixEntry) : State := { s with fmp := { s.fmp with table := tset {} s.fmp.table n e } }
  match o with
  | 0 => put { e with addr := BitVec.ofNat 64 (e.addr.toNat / 2 ^ 32 * 2 ^ 32 + v % 2 ^ 32) }
  | 4 => put { e with addr := BitVec.ofNat 64 (e.addr.toNat % 2 ^ 32 + v % 2 ^ 32 * 2 ^ 32) }
  | 8 => put { e with data := BitVec.ofNat 32 v }
  | _ => if e.masked && !bitOf v 0 then s.msixUnmask n else put { e with masked := bitOf v 0 }

/-- A write to the GLB window at offset `o`. -/
def State.glbWrite (s : State) (o v : Nat) : State :=
  match o with
  | 0x0200 => s.resetCtrl v
  | 0x0304 => { s with glb := { s.glb with irqVec := v % 256, irqEn := bitOf v 8, irqMask := bitsOf v 27 16 } }
  | 0x0314 => { s with glb := { s.glb with scratch := BitVec.ofNat 32 v } }
  | _ => if 0x8000 ≤ o ∧ o < 0x9000 then s.msixWrite ((o - 0x8000) / 16) (o % 16) v else s

/-! ### Global opcodes (Table 12-14) -/

/-- NOP. -/
def opNop : OpSpec := { code := 0x00, body := fun _ _ s => .ok s }

/-- The first 4 KiB of the GLB window. -/
def State.glbImage (s : State) : List Byte :=
  (List.range 1024).flatMap fun i => leBytes 4 (s.glbRead (4 * i))

/-- GLB_IDENTIFY. -/
def opGlbIdentify : OpSpec :=
  { code := 0x01, body := fun _ c s => .ok (s.mgrWrite (c.le 16 8) s.glbImage) (capOf s.variant).toNat }

/-- RING_CLAMP_READ. -/
def opRingClampRead : OpSpec :=
  { code := 0x02
    body := fun _ c s =>
      let (p, cl) := c.ranged 16 1 0 63
      let n := (s.pair p).clamps
      .ok (if bitOf (c.byte 17) 0 then s.modPair p fun r => { r with clamps := 0, lastClamp := 0 } else s) n cl }

/-- EVENT_FILTER_SET. -/
def opEventFilterSet : OpSpec :=
  { code := 0x03
    body := fun _ c s => .ok { s with cmd := { s.cmd with evtFilter := BitVec.ofNat 256 (c.le 24 32) } } }

/-- A reserved opcode completes BAD_OPCODE with no effect (R10, R321). -/
def State.badOpcode (c : Cmd) (s : State) : State := s.complete (c.ticket c.opcode s.ft) stBadOpcode 0

/-- NOP (R333). -/
def execNop (c : Cmd) (s : State) : Answer := act s (opNop.submit c)
/-- GLB_IDENTIFY (R333, R346). -/
def execGlbIdentify (c : Cmd) (s : State) : Answer := act s (opGlbIdentify.submit c)
/-- RING_CLAMP_READ (R333). -/
def execRingClampRead (c : Cmd) (s : State) : Answer := act s (opRingClampRead.submit c)
/-- EVENT_FILTER_SET (R333). -/
def execEventFilterSet (c : Cmd) (s : State) : Answer := act s (opEventFilterSet.submit c)
/-- RESERVED_OPCODE (R10, R332). -/
def execReservedOpcode (c : Cmd) (s : State) : Answer := act s fun s => (s.accept c).badOpcode c

/-- MODULE_RESET_REQUEST (R349): GLB_RESET_CTRL written with KIND 2 and the GUARD of `value`. -/
def execModuleResetRequest (value : Word) (s : State) : Answer :=
  actFmp s fun s => s.resetCtrl (value.toNat / 16 * 16 + 2)

end Sys2Proof.Machine
end

