-- ==== Sys2Proof/Machine/FabricTime.lean ====
section
/-!
DEFINITION. The Fabric Time Unit (chapter 02): courses, SYNC_IN and SYNC_OUT, beacons, the time
opcodes and the FTU window.
-/

namespace Sys2Proof.Machine

/-! ### Course lengths (R29, R31, R33, R34) -/

/-- The nominal course length L, in ns. -/
def Ftu.len (f : Ftu) : Nat := 2 ^ f.lenLog2
/-- The range of P for given M and L (R31). -/
def syncRange (m l : Nat) : Nat × Nat := (ceilDiv (15 * m * l) 16, 17 * m * l / 16)
/-- P_use in ns (R33): the mean of the last valid intervals, rounded to the nanosecond. -/
def Ftu.pUse (f : Ftu) : Nat :=
  match f.intervals with
  | [] => f.ratio * f.len
  | xs => (xs.foldl (· + ·) 0 + 8 * xs.length) / (16 * xs.length)
/-- k of R33 for course `n`. While no aligned boundary exists R33 gives nothing to count from; k is then
`n` mod M (log entry 82, DESIGN CHOICE). -/
def Ftu.courseK (f : Ftu) (n : Nat) : Nat :=
  match f.aligned with
  | none => n % f.ratio
  | some a => (((n : Int) - a) % f.ratio).toNat
/-- The base length of course `n` (R33); exactly L while SYNC_IN is not in use (R29). -/
def Ftu.base (f : Ftu) (n : Nat) : Nat :=
  if f.inEn then
    let k := f.courseK n
    (k + 1) * f.pUse / f.ratio - k * f.pUse / f.ratio
  else f.len
/-- The pull of R34 in ns: whole nanoseconds of the remaining error, at most L/8 either way. -/
def Ftu.pull (f : Ftu) : Int :=
  if f.inEn then max (-((f.len / 8 : Nat) : Int)) (min ((f.len / 8 : Nat) : Int) (Int.tdiv f.eRem 16)) else 0
/-- Fix and announce the end of the present course (R30, R34). -/
def Ftu.announce (f : Ftu) : Ftu :=
  { f with nextBoundary := ((f.boundary + f.base f.courseNum : Nat) + f.pull : Int).toNat
           eRem := f.eRem - 16 * f.pull }
/-- The announced boundary is reached (R30). The end of the new course is announced once the actions of
this boundary have taken effect (R29). -/
def Ftu.pass (f : Ftu) : Ftu :=
  let f := { f with courseNum := f.courseNum + 1, boundary := f.nextBoundary,
                    recent := (f.courseNum + 1, f.nextBoundary) :: f.recent }
  match f.aligned with
  | some a => if ((f.courseNum : Int) - a) % f.ratio = 0 then { f with lastAligned := some f.courseNum } else f
  | none => f
/-- Acquisition restarts (R31): LOCKED clears and the first edge is a reference only. PRESENT, HOLDOVER,
SOURCE and the interval history start anew as well (log entry 82, DESIGN CHOICE). -/
def Ftu.restart (f : Ftu) (clock : Nat) : Ftu :=
  { f with locked := false, lockLost := f.lockLost || f.locked, present := false, holdover := false,
           source := false, aligned := none, intervals := [], refEdge := none, lastValid := none,
           ref2 := none, valid2 := none, eRem := 0, hadLock := false, wideRun := 0, outlierRun := 0,
           periodMeas := 0, enabledAt := clock }

/-! ### SYNC edges (R32 to R38) -/

/-- FT of boundary `n` as the FTU knows it: a past one, the announced one, or a later one at base
lengths (DEDUCED). -/
def Ftu.boundaryFt (f : Ftu) (n : Nat) : Nat :=
  if n ≤ f.courseNum then ((f.recent.find? fun x => x.1 == n).map (·.2)).getD 0
  else (List.range (n - f.courseNum - 1)).foldl (fun t i => t + f.base (f.courseNum + 1 + i)) f.nextBoundary
/-- Distance in phase units. -/
def dist16 (t ft : Nat) : Nat := ((t : Int) - 16 * ft).natAbs
/-- The boundary nearest to an edge at `t`, among those already fixed (R34). -/
def Ftu.nearest (f : Ftu) (t : Nat) : Nat × Nat :=
  f.recent.foldl (fun b x => if dist16 t x.2 < dist16 t b.2 then x else b) (f.courseNum + 1, f.nextBoundary)
/-- The aligned boundary nearest to an edge at `t` (R34): of those that have passed and the next one. -/
def Ftu.nearestAligned (f : Ftu) (t a : Nat) : Nat × Nat :=
  let next := f.courseNum + 1 + ((((a : Int) - f.courseNum - 1) % f.ratio).toNat)
  (f.recent.filter fun x => decide (((x.1 : Int) - a) % f.ratio = 0)).foldl
    (fun b x => if dist16 t x.2 < dist16 t b.2 then x else b) (next, f.boundaryFt next)
/-- High time and length of the last two periods of a pair, from its last five edges, newest first (R37). -/
def twoPeriods : List (Nat × Bool) → Option (Nat × Nat)
  | (t4, _) :: (t3, r3) :: (t2, r2) :: (t1, r1) :: (t0, r0) :: _ =>
    let high (a b : Nat) (r : Bool) : Nat := if r then b - a else 0
    some (high t0 t1 r0 + high t1 t2 r1 + high t2 t3 r2 + high t3 t4 r3, t4 - t0)
  | _ => none
/-- What the last two periods of a pair show (R37); `none` until they have been measured. -/
def Ftu.measured (f : Ftu) (second : Bool) : Option (Nat × Nat) := twoPeriods (if second then f.edges2 else f.edges)
/-- The pair is seen to be inverted: a high fraction above 60 % (R37). -/
def Ftu.isInverted (f : Ftu) (second : Bool) : Bool :=
  match f.measured second with | some (h, n) => f.pol == 0 && decide (60 * n < 100 * h) | none => false
/-- The high fraction of the pair lies from 40 % to 60 % (R37). -/
def Ftu.isAmbiguous (f : Ftu) (second : Bool) : Bool :=
  match f.measured second with
  | some (h, n) => f.pol == 0 && decide (40 * n ≤ 100 * h ∧ 100 * h ≤ 60 * n)
  | none => false
/-- INVERTED of the active source; with IN_EN = 0 it reads 0 (R36, R37). -/
def Ftu.inverted (f : Ftu) : Bool := f.inEn && f.isInverted f.source
/-- AMBIGUOUS of the active source (R37). -/
def Ftu.ambiguous (f : Ftu) : Bool := f.inEn && f.isAmbiguous f.source
/-- Capture an edge for the measurement of its pair; it runs whether or not SYNC_IN is used (log entry 13). -/
def Ftu.sense (f : Ftu) (e : SyncEdge) (clock : Nat) : Ftu :=
  if e.second then { f with edges2 := ((clock, e.rising) :: f.edges2).take 5 }
  else { f with edges := ((clock, e.rising) :: f.edges).take 5 }
/-- The edge is the timing edge of its pair (R37): with POL = 0 none is before two periods are measured. -/
def Ftu.timing (f : Ftu) (e : SyncEdge) : Bool :=
  match f.pol with
  | 0 => (f.measured e.second).isSome && (if f.isInverted e.second then !e.rising else e.rising)
  | 1 => e.rising
  | _ => !e.rising
/-- The interval from the reference is within 1 % of P (R32), all in phase units. -/
def Ftu.validInterval (f : Ftu) (i : Nat) : Bool :=
  decide (100 * ((i : Int) - 16 * f.period).natAbs ≤ 16 * f.period)
/-- SYNC_IN is absent in the sense of Table 02-3. -/
def Ftu.inAbsent (f : Ftu) (clock : Nat) : Bool :=
  decide ((f.lastValid.getD f.enabledAt) + 3 * 16 * f.period ≤ clock)
/-- A switch of source keeps the aligned boundaries and P_use, and runs one acquisition (R33, R38); HOLDOVER
ends with the first edge that is used (R36). -/
def Ftu.switchTo (f : Ftu) (second : Bool) : Ftu :=
  { f with source := second, locked := false, lockLost := f.lockLost || f.locked,
           hadLock := false, wideRun := 0, outlierRun := 0, eRem := 0 }
/-- Lock bookkeeping of a valid edge with error `e` (R35). -/
def Ftu.lockRule (f : Ftu) (e : Int) : Ftu :=
  if e.natAbs ≤ 64 then { f with locked := true, hadLock := true, wideRun := 0 }
  else if f.wideRun + 1 ≥ 3 then
    { f with wideRun := 3, locked := false, lockLost := f.lockLost || f.locked }
  else { f with wideRun := f.wideRun + 1 }
/-- A valid edge of the active source, at `t` after the interval `i` (R33 to R35). An outlier counts among the
wide edges of R35; the third in a row clears e_rem, and the next valid edge begins the new acquisition (log
entry 82, DESIGN CHOICE). After holdover the first edge acquires by the nearest-boundary rule (R36). -/
def Ftu.useEdge (f : Ftu) (t i : Nat) : Ftu :=
  let f := if f.holdover then { f with holdover := false, reacquired := true, aligned := none, hadLock := false }
           else f
  let near := match f.aligned with | none => f.nearest t | some a => f.nearestAligned t a
  let e : Int := (t : Int) - 16 * near.2
  let f := { f with present := true, phaseErr := e }
  if f.hadLock && decide (2 * f.len < e.natAbs) then
    let f := f.lockRule e
    if f.outlierRun + 1 ≥ 3 then
      { f with outlier := true, outlierRun := 0, reacquired := true, aligned := none, hadLock := false, eRem := 0 }
    else { f with outlier := true, outlierRun := f.outlierRun + 1 }
  else
    let f := { f with aligned := some near.1, outlierRun := 0, eRem := e,
                      lastAligned := if near.1 ≤ f.courseNum then some near.1 else f.lastAligned,
                      intervals := (i :: f.intervals).take 8 }
    { (f.lockRule e) with periodMeas := f.pUse }
/-- The edge was an outlier: for the count of ignored edges. -/
def Ftu.isOutlier (f : Ftu) (t : Nat) : Bool :=
  match f.aligned with
  | some a => !f.holdover && f.hadLock && decide (2 * f.len < ((t : Int) - 16 * (f.nearestAligned t a).2).natAbs)
  | none => false

/-- A valid edge is used; an outlier is counted among the ignored edges. -/
def State.syncUse (s : State) (f : Ftu) (t i : Nat) : State :=
  { (if f.isOutlier t then s.cntFtu 0xDC else s) with ftu := f.useEdge t i }

/-- An edge on a SYNC pair (R32): the SYNC_OUT pair is an input only in standby (R38). -/
def State.syncEdge (s : State) (e : SyncEdge) : State :=
  if e.second && !s.ftu.standby then s
  else
    let f := s.ftu.sense e s.clock
    if !f.inEn || !f.timing e then { s with ftu := f }
    else
      let t := s.clock - 16 * f.inDelay
      let setRef (f : Ftu) : Ftu := if e.second then { f with ref2 := some t } else { f with refEdge := some t }
      match if e.second then f.ref2 else f.refEdge with
      | none => { s with ftu := setRef f }
      | some r =>
        let i := t - r
        let f := setRef f
        if !f.validInterval i then ({ s with ftu := { f with badPeriod := true } }).cntFtu 0xDC
        else
          let absent := f.inAbsent s.clock
          let f := if e.second then { f with valid2 := some t } else { f with lastValid := some t }
          let s := s.cntFtu 0xDB
          if e.second then
            if f.source then s.syncUse f t i
            else if absent then s.syncUse (f.switchTo true) t i
            else { s with ftu := f }
          else if f.source then s.syncUse (f.switchTo false) t i
          else s.syncUse f t i

/-- No valid edge of the active source for 3 × P (R36, R38). -/
def State.syncAbsent (s : State) : State :=
  let f := s.ftu
  let last := (if f.source then f.valid2 else f.lastValid).getD f.enabledAt
  if f.inEn ∧ last + 3 * 16 * f.period ≤ s.clock ∧ f.holdover = false then
    if f.standby && !f.source && (match f.valid2 with | some t => decide (s.clock < t + 3 * 16 * f.period) | none => false) then
      { s with ftu := { (f.switchTo true) with refEdge := none } }
    else if f.present then
      let s := s.record 0x61 89 s.now64 [(4, f.pUse), (4, (f.phaseErr % 2 ^ 32).toNat)]
      { s with ftu := { f with present := false, holdover := true, locked := false,
                               lockLost := f.lockLost || f.locked, eRem := 0, hadLock := false,
                               refEdge := if f.source then f.refEdge else none,
                               ref2 := if f.source then none else f.ref2 } }
    else { s with ftu := { f with refEdge := if f.source then f.refEdge else none,
                                  ref2 := if f.source then none else f.ref2 } }
  else s

/-! ### Beacons, SYNC_OUT, the reference clock (R25, R39, R48) -/

/-- Correct one island's copy that a beacon finds more than 1 ns off (R25). -/
def State.islandOff (s : State) (i : Nat) (off : Int) : State :=
  if 16 < off.natAbs then
    let f := s.ftu
    (({ s with ftu := { f with alarms := f.alarms ||| BitVec.ofNat 96 (2 ^ i), islandStep := true,
                               stepCount := satAdd 32 f.stepCount 1 } }).record 0x60 89 s.now64
      [(1, i), (4, (off % 2 ^ 32).toNat)]).cntFtu 0xDD
  else s

/-- A beacon with the island offsets it finds (R25), once its FT is reached; TIME_ISLAND_CHECK
commands that wait complete with it (Table 02-9). -/
def State.beacon (s : State) (offs : List (Island × Int)) : State :=
  if s.ft < s.ftu.lastBeacon + 1024 then s
  else
    let at' := s.ft / 1024 * 1024
    let worst := offs.foldl (fun m x => max m x.2.natAbs) 0
    let s := offs.foldl (fun s x => s.islandOff x.1 x.2) s
    let ws := s.ftu.checks.filter fun tk => decide (tk.ft < at')
    let rest := s.ftu.checks.filter fun tk => decide (at' ≤ tk.ft)
    let s := { s with ftu := { s.ftu with lastBeacon := at', checks := rest } }
    ws.foldl (fun s tk => s.complete { tk with ft := at' } stOk worst) s

/-- A rising edge of SYNC_OUT before boundary `b` at `ft` is due and not yet driven; an instant before the
output was enabled is none (R39). -/
def State.outDue (s : State) (b ft : Nat) : Bool :=
  decide (((b : Int) - (s.ftu.lastAligned.getD 0)) % s.ftu.outDiv = 0) && decide (ft - s.ftu.adv ≤ s.ft) &&
    decide (s.ftu.outFrom + s.ftu.adv ≤ ft) &&
    (match s.ftu.outDone with | some d => decide (d < b) | none => true)

/-- A quarter of the output period from boundary `b` at `ft` to the next boundary that drives an edge, as
announced or at base lengths (R39). -/
def Ftu.outHigh (f : Ftu) (b ft : Nat) : Nat := (f.boundaryFt (b + f.outDiv) - ft) / 4

/-- SYNC_OUT drives an edge ADV ns before an aligned boundary (R39), high for a quarter period. -/
def State.syncOut (s : State) : State :=
  let f := s.ftu
  let go (b ft : Nat) : State :=
    ({ s with ftu := { f with outDone := some b } }).emit (.syncOut (ft - f.adv) (f.outHigh b ft))
  if f.outEn && !f.standby then
    if s.outDue f.courseNum f.boundary then go f.courseNum f.boundary
    else if s.outDue (f.courseNum + 1) f.nextBoundary then go (f.courseNum + 1) f.nextBoundary
    else s
  else s

/-! ### Time opcodes (Table 02-9) -/

/-- Set the course length (R29); a change restarts acquisition and reclamps P (R31). -/
def Ftu.setLen (f : Ftu) (n clock : Nat) : Ftu :=
  if n = f.lenLog2 then f
  else
    let r := syncRange f.ratio (2 ^ n)
    ({ f with lenLog2 := n, period := clampNat r.1 r.2 f.period }.restart clock).announce

/-- Set STANDBY at `ft` (R38): without it SYNC_OUT is no source and no input, and drives again. -/
def Ftu.setStandby (f : Ftu) (standby : Bool) (ft : Nat) : Ftu :=
  if standby then { f with standby := true }
  else
    let f := if f.source then f.switchTo false else f
    { f with standby := false, ref2 := none, valid2 := none, edges2 := [],
             outFrom := if f.standby then ft else f.outFrom }

/-- Set the SYNC_IN settings at `ft`; a change of P, M or IN_EN restarts acquisition (R31). -/
def Ftu.setSync (f : Ftu) (en : Bool) (pol : Nat) (standby : Bool) (p m delay ft clock : Nat) : Ftu :=
  let g := { f.setStandby standby ft with inEn := en, pol := pol, period := p, ratio := m, inDelay := delay }
  if p = f.period ∧ m = f.ratio ∧ en = f.inEn then g else (g.restart clock).announce

/-- TIME_SYNC_SET. A register write sets its own register's fields only. -/
def opTimeSyncSet : OpSpec :=
  { code := 0x21, aligned := true
    body := fun tk c s =>
      let f := s.ftu
      let cfg := c.le 16 4
      let pol := if partSet c 0 then min 2 (bitsOf cfg 2 1) else f.pol
      let c0 := if partSet c 0 && bitsOf cfg 2 1 == 3 then some 16 else none
      let (m, c2) := if partSet c 2 then c.ranged 24 2 1 4096 else (f.ratio, none)
      let r := syncRange m f.len
      let (p, c1) := if partSet c 1 then c.ranged 20 4 r.1 r.2 else (clampNat r.1 r.2 f.period, none)
      let delay := if partSet c 3 then c.le 26 2 else f.inDelay
      let en := if partSet c 0 then bitOf cfg 0 else f.inEn
      let standby := if partSet c 0 then bitOf cfg 3 else f.standby
      .ok { s with ftu := f.setSync en pol standby p m delay tk.ft s.clock } 0 (minClamp c0 (minClamp c1 c2)) }

/-- TIME_SYNC_OUT_SET. -/
def opTimeSyncOutSet : OpSpec :=
  { code := 0x22, aligned := true
    body := fun tk c s =>
      let f := s.ftu
      let cfg := c.le 16 4
      let en := if partSet c 0 then bitOf cfg 0 else f.outEn
      let adv := bitsOf cfg 25 16
      let c0 := if partSet c 0 && decide (512 < adv) then some 16 else none
      let (d, c1) := if partSet c 1 then c.ranged 20 2 1 4096 else (f.outDiv, none)
      .ok { s with ftu := { f with outEn := en, outFrom := if en && !f.outEn then tk.ft else f.outFrom,
                                   adv := if partSet c 0 then min 512 adv else f.adv, outDiv := d } }
        0 (minClamp c0 c1) }

/-- TIME_MARK. -/
def opTimeMark : OpSpec := { code := 0x23, body := fun _ _ s => .ok s }

/-- The action came from ring `r` with tag `t`. -/
def Launch.matches (l : Launch) (r t : Nat) : Bool :=
  (match l.cmd.src with | .ring p => (p : Nat) == r | .side => false) && l.cmd.tag == t
/-- Its boundary is announced or its execution has begun, so it can no longer be cancelled (R44). -/
def Launch.fixed (l : Launch) (s : State) : Bool :=
  if l.aligned then decide (l.e ≤ s.ftu.nextBoundary) else decide (l.e ≤ s.ft)

/-- The command came from ring `r` with tag `t`. -/
def Ticket.isOf (tk : Ticket) (r t : Nat) : Bool :=
  (match tk.src with | .ring p => (p : Nat) == r | .side => false) && tk.tag == t
/-- The tickets of the commands that units still execute. -/
def State.openTickets (s : State) : List Ticket :=
  s.ftu.checks
    ++ s.lnk.links.flatMap (fun x => x.2.loopCmd.toList ++ x.2.delayCmd.toList)
    ++ s.prt.ports.filterMap (fun x => x.2.tunnel.map (·.ticket))
    ++ [s.acu.slot0, s.acu.slot1, s.acu.slot2, s.acu.slot3].filterMap (·.ticket) ++ s.acu.writes.map (·.ticket)
    ++ s.home.places.flatMap (fun x => match x.2 with | some p => p.ticket.toList ++ p.zeroTicket.toList | none => [])
    ++ s.mem.retire.filterMap (fun x => x.2.ticket) ++ s.mem.repairs.map (·.ticket)
    ++ s.mse.streams.flatMap (fun x => match x.2 with | some d => d.moveTicket.toList ++ d.closeTicket.toList | none => [])
    ++ s.vfi.inst.flatMap (fun x => x.2.resetTicket.toList ++ x.2.releasing.map (·.2.2))
    ++ s.pcn.snaps.map (·.ticket) ++ s.pcn.deferred.map (·.ticket) ++ s.pcn.reads.map (·.1)
    ++ s.evr.due.filterMap (·.ticket) ++ (s.evr.writing.toList.flatMap fun x => x.2.2.filterMap (·.ticket))
    ++ s.ppu.feeds.flatMap (fun x => (x.2.removal.bind (·.ticket)).toList ++ x.2.wake.map (·.1) ++ x.2.sleep.map (·.1))
    ++ (s.msc.restart.bind (·.2)).toList

/-- Complete a cancelled action ABORTED; a cancelled commit no longer blocks staging (R214). -/
def State.abortLaunch (s : State) (l : Launch) : State :=
  let s := if l.op = 0x37 then { s with acu := { s.acu with commitPending := false } } else s
  s.complete { l.cmd.ticket l.op s.ft with clamp := if l.clamped then some 8 else none } stAborted 0

/-- TIME_LAUNCH_CANCEL. -/
def opTimeLaunchCancel : OpSpec :=
  { code := 0x24
    body := fun _ c s =>
      let (r, cl) := c.ranged 16 1 0 63
      let hit := s.ftu.launches.filter fun l => l.matches r (c.le 18 2)
      let begun := s.openTickets.filter fun tk => tk.launched && tk.isOf r (c.le 18 2)
      let gone := hit.filter fun l => !l.fixed s
      let s' := { s with ftu := { s.ftu with
        launches := s.ftu.launches.filter fun l => !(l.matches r (c.le 18 2) && !l.fixed s) } }
      .ok (gone.foldl State.abortLaunch s') (gone.length + 2 ^ 16 * (hit.length - gone.length + begun.length)) cl }

/-- TIME_LAUNCH_QUERY. -/
def opTimeLaunchQuery : OpSpec := { code := 0x25, body := fun _ _ s => .ok s s.ftu.launches.length }

/-- TIME_ISLAND_CHECK: it executes at the next beacon (Table 02-9). -/
def opTimeIslandCheck : OpSpec :=
  { code := 0x26, body := fun tk _ s => .later { s with ftu := { s.ftu with checks := s.ftu.checks ++ [tk] } } }

/-! ### The FTU window (Tables 02-7, 02-8) -/

/-- FTU_SYNC_STATUS. -/
def Ftu.syncStatus (f : Ftu) : Nat :=
  bit f.locked + 2 * bit f.present + 4 * bit f.inverted + 8 * bit f.ambiguous + 16 * bit f.source
    + 32 * bit f.holdover + 256 * bit f.badPeriod + 512 * bit f.outlier + 1024 * bit f.lockLost
    + 2048 * bit f.reacquired

/-- A read of the FTU window at offset `o`. -/
def State.ftuRead (s : State) (o : Nat) : Nat :=
  let f := s.ftu
  match o with
  | 0x00 => s.ft % 2 ^ 32
  | 0x04 => s.ft / 2 ^ 32 % 2 ^ 32
  | 0x08 => s.fmp.holdPhase
  | 0x0C => bit f.refLost + 2 * bit f.islandStep + 4 * bit (decide (4096 ≤ f.launches.length))
  | 0x10 => f.lenLog2
  | 0x14 => f.courseNum % 2 ^ 32
  | 0x18 => f.courseNum / 2 ^ 32 % 2 ^ 32
  | 0x1C => f.boundary % 2 ^ 32
  | 0x20 => f.boundary / 2 ^ 32 % 2 ^ 32
  | 0x24 => f.nextBoundary % 2 ^ 32
  | 0x28 => f.nextBoundary / 2 ^ 32 % 2 ^ 32
  | 0x2C => bit f.inEn + 2 * f.pol + 8 * bit f.standby
  | 0x30 => f.period
  | 0x34 => f.ratio
  | 0x38 => f.inDelay
  | 0x3C => f.syncStatus
  | 0x40 => (f.phaseErr % 2 ^ 32).toNat
  | 0x44 => f.periodMeas
  | 0x48 => bit f.outEn + 2 ^ 16 * f.adv
  | 0x4C => f.outDiv
  | 0x50 => f.launches.length
  | 0x54 => f.lateCount
  | 0x58 => f.stepCount
  | 0x5C => f.alarms.toNat % 2 ^ 32
  | 0x60 => f.alarms.toNat / 2 ^ 32 % 2 ^ 32
  | 0x64 => f.alarms.toNat / 2 ^ 64
  | 0x68 => f.epochLo.toNat
  | 0x6C => f.epochHi.toNat
  | _ => 0

/-- A write to the FTU window (R49). -/
def State.ftuWrite (s : State) (o v : Nat) : State :=
  let f := s.ftu
  let clearAlarm (sh : Nat) : State :=
    { s with ftu := { f with alarms := f.alarms &&& ~~~ BitVec.ofNat 96 (v % 2 ^ 32 * 2 ^ sh) } }
  match o with
  | 0x0C => { s with ftu := { f with islandStep := f.islandStep && !bitOf v 1 } }
  | 0x10 => s.sidePush 0x20 (sideCmd 0 0 [(16, 1, v % 32)])
  | 0x2C => s.sidePush 0x21 (sideCmd 0 1 [(16, 4, v)])
  | 0x30 => s.sidePush 0x21 (sideCmd 0 2 [(20, 4, v)])
  | 0x34 => s.sidePush 0x21 (sideCmd 0 4 [(24, 2, v % 2 ^ 13)])
  | 0x38 => s.sidePush 0x21 (sideCmd 0 8 [(26, 2, v)])
  | 0x3C => { s with ftu := { f with badPeriod := f.badPeriod && !bitOf v 8, outlier := f.outlier && !bitOf v 9,
                                     lockLost := f.lockLost && !bitOf v 10,
                                     reacquired := f.reacquired && !bitOf v 11 } }
  | 0x48 => s.sidePush 0x22 (sideCmd 0 1 [(16, 4, v)])
  | 0x4C => s.sidePush 0x22 (sideCmd 0 2 [(20, 2, v % 2 ^ 13)])
  | 0x5C => clearAlarm 0
  | 0x60 => clearAlarm 32
  | 0x64 => clearAlarm 64
  | 0x68 => s.stageLo 0x20068 v
  | 0x6C => { s with ftu := { f with epochLo := tget 0 s.fmp.stagedLo 0x20068, epochHi := BitVec.ofNat 32 v } }
  | _ => s

/-! ### The commands -/

/-- TIME_SYNC_SET (R31). -/
def execTimeSyncSet (c : Cmd) (s : State) : Answer := act s (opTimeSyncSet.submit c)
/-- TIME_SYNC_OUT_SET (R39). -/
def execTimeSyncOutSet (c : Cmd) (s : State) : Answer := act s (opTimeSyncOutSet.submit c)
/-- TIME_MARK (R51). -/
def execTimeMark (c : Cmd) (s : State) : Answer := act s (opTimeMark.submit c)
/-- TIME_LAUNCH_CANCEL (R44). -/
def execTimeLaunchCancel (c : Cmd) (s : State) : Answer := act s (opTimeLaunchCancel.submit c)
/-- TIME_LAUNCH_QUERY (R51). -/
def execTimeLaunchQuery (c : Cmd) (s : State) : Answer := act s (opTimeLaunchQuery.submit c)
/-- TIME_ISLAND_CHECK (R51). -/
def execTimeIslandCheck (c : Cmd) (s : State) : Answer := act s (opTimeIslandCheck.submit c)
/-- REF_LOST (R48). -/
def execRefLost (s : State) : Answer :=
  act s fun s =>
    if s.ftu.refLost then s
    else ({ s with ftu := { s.ftu with refLost := true } }).record 0x62 89 s.now64 []
/-- REF_RETURN (R48). -/
def execRefReturn (s : State) : Answer := act s fun s => { s with ftu := { s.ftu with refLost := false } }
/-- SYNC_EDGE (R32). -/
def execSyncEdge (edge : SyncEdge) (s : State) : Answer := act s fun s => s.syncEdge edge
/-- SYNC_ABSENT (R36). -/
def execSyncAbsent (s : State) : Answer := act s State.syncAbsent
/-- SYNC_OUT_EDGE (R39). -/
def execSyncOutEdge (s : State) : Answer := act s State.syncOut

end Sys2Proof.Machine
end

