-- ==== Sys2Proof/Machine/Access.lean ====
section
/-!
DEFINITION. The Access Control Unit (chapter 08): the check, the counts of accesses in flight,
violation records, staging, commit, forced settlement, the ACU opcodes and the ACU window.
-/

namespace Sys2Proof.Machine

/-! ### Table entries as numbers (Tables 08-5, 08-6, 08-9) -/

/-- BASE of a region, in bytes: FMA[55:6] in bits [81:32]. -/
def rgBase (v : Nat) : Nat := bitsOf v 81 32 * 64
/-- SIZE_LOG2 of a region. -/
def rgLog2 (v : Nat) : Nat := bitsOf v 21 16
/-- A Service region with its fields at their nearest legal values (R200). -/
def regionLegal (v : Nat) : Nat :=
  let n := clampNat 6 56 (rgLog2 v)
  v % 32 + 2 ^ 8 * bitsOf v 15 8 + 2 ^ 16 * n + 2 ^ 32 * (alignDown n (rgBase v) / 64)
/-- The lowest descriptor byte that `regionLegal` changed, for an image at byte 24. -/
def regionClamp (lo : Nat) (v : Nat) : Option Nat :=
  let n := clampNat lo 56 (rgLog2 v)
  if n ≠ rgLog2 v then some 26 else if alignDown n (rgBase v) ≠ rgBase v then some 28 else none
/-- A Plinth region with its fields at their nearest legal values (R207). -/
def plinthLegal (v : Nat) : Nat :=
  let n := clampNat 9 56 (rgLog2 v)
  v % 8 + 2 ^ 8 * bitsOf v 15 8 + 2 ^ 16 * n + 2 ^ 32 * (alignDown n (rgBase v) / 64)
    + 2 ^ 82 * bitsOf v 93 82 + 2 ^ 94 * bitsOf v 105 94

/-- A colour window (Table 08-6). -/
structure CWin where
  en : Bool
  w : Nat
  g : Nat
  tag : Nat
  base : Nat
/-- The fields of a window image. -/
def CWin.of (v : Nat) : CWin :=
  { en := bitOf v 0, w := bitsOf v 13 8, g := bitsOf v 21 16, tag := bitsOf v 43 24, base := bitsOf v 113 64 * 64 }
/-- The window image. -/
def CWin.image (x : CWin) : Nat :=
  bit x.en + 2 ^ 8 * x.w + 2 ^ 16 * x.g + 2 ^ 24 * x.tag + 2 ^ 64 * (x.base / 64)
/-- Tags that the window uses. -/
def CWin.count (x : CWin) : Nat := 2 ^ (x.w - x.g)
/-- The nearest legal window (R202). -/
def CWin.legal (x : CWin) : CWin :=
  let w0 := clampNat 21 50 x.w
  let g := min (clampNat 21 30 x.g) w0
  let w := min w0 (g + 20)
  { x with w := w, g := g, tag := min x.tag (1048576 - 2 ^ (w - g)), base := alignDown w x.base }
/-- The lowest descriptor byte that `CWin.legal` changed. -/
def CWin.clamp (x : CWin) : Option Nat :=
  let y := x.legal
  if y.w ≠ x.w then some 25 else if y.g ≠ x.g then some 26 else if y.tag ≠ x.tag then some 27
  else if y.base ≠ x.base then some 32 else none
/-- Two windows share an address. -/
def CWin.overlaps (x y : CWin) : Bool := decide (x.base < y.base + 2 ^ y.w ∧ y.base < x.base + 2 ^ x.w)

/-! ### The decision (R201 to R208) -/


/-- The colour mask of instance `v` in a bank; bits 1 to 255 are set at reset (Table 11-1). -/
def AcuBank.colourMask (b : AcuBank) (v : Nat) : BitVec 256 := tget (BitVec.allOnes 256 <<< 1) b.colours v
/-- The colour window of an address, and its index (R203). -/
def AcuBank.window (b : AcuBank) (fma : Nat) : Option (Nat × CWin) :=
  (b.windows.map fun x => (x.1, CWin.of x.2.toNat)).find? fun x => x.2.en && fma / 2 ^ x.2.w == x.2.base / 2 ^ x.2.w
/-- The tag index of an address, if a window covers it. -/
def AcuBank.tagIndex (b : AcuBank) (fma : Nat) : Option Nat :=
  (b.window fma).map fun x => x.2.tag + (fma - x.2.base) / 2 ^ x.2.g
/-- The colour of an address; 0 outside every window (R203). -/
def AcuBank.colour (b : AcuBank) (fma : Nat) : Nat :=
  match b.tagIndex fma with
  | some i => (tget 0 b.tags i).toNat
  | none => 0

/-- A Service region covers an address for instance `vfi` and grants the permission bit `p`
(1 read, 2 write) (R200, R201). -/
def regionGrants (v : Nat) (vfi p fma : Nat) : Bool :=
  bitOf v 0 && bitOf v p && (bitOf v 4 || bitsOf v 15 8 == vfi) && fma / 2 ^ rgLog2 v == rgBase v / 2 ^ rgLog2 v
/-- A Plinth region applies to a source and grants the permission at an address (R207, R208). -/
def plinthGrants (v : Nat) (rid : Option Nat) (p fma : Nat) : Bool :=
  let n := rgLog2 v
  let mask := bitsOf v 105 94
  let hit := match rid with
    | some r => (r &&& mask) == (bitsOf v 93 82 &&& mask)
    | none => mask == 0
  bitOf v 0 && bitOf v p && hit && fma / 2 ^ n == rgBase v / 2 ^ n
    && !bitOf (bitsOf v 15 8) (fma % 2 ^ n / 2 ^ (n - 3))

/-- Reason codes (Table 08-7). -/
abbrev rPermitted : Nat := 0
abbrev rNoRequester : Nat := 1
abbrev rHostDma : Nat := 2
abbrev rNoRegion : Nat := 3
abbrev rUnassigned : Nat := 4
abbrev rColourKey : Nat := 5
abbrev rEntryError : Nat := 6

/-- Does entry `e` grant permission `p` (1 read, 2 write) at an address in Service mode (R201, R204)? -/
def servicePerm (b : AcuBank) (e : ReqEntry) (p fma : Nat) : Nat :=
  let rs := b.regions.filter fun x => regionGrants x.2.toNat e.vfi p fma
  if rs.isEmpty then rNoRegion
  else if rs.any fun x => !bitOf x.2.toNat 3 then rPermitted
  else
    let c := b.colour fma
    let keys := (if p = 1 then e.rd else e.wr) &&& b.colourMask e.vfi
    if c = 0 then rUnassigned else if keys.getLsbD c then rPermitted else rColourKey

/-- The same in Plinth mode (R208). -/
def plinthPerm (b : AcuBank) (rid : Option Nat) (p fma : Nat) : Nat :=
  if b.plinth.any fun x => plinthGrants x.2.toNat rid p fma then rPermitted else rNoRegion

/-- The first failing reason of two permissions. -/
def worse (a b : Nat) : Nat := if a = 0 then b else if b = 0 then a else min a b

/-- The verdict at one address for a kind of access. -/
def byteVerdict (service : Bool) (b : AcuBank) (rid : Option Nat) (kind fma : Nat) : Nat :=
  let perm (p : Nat) : Nat :=
    if service then
      match rid with
      | none => rNoRequester
      | some r =>
        let e := tget {} b.req r
        if e.valid then servicePerm b e p fma else rNoRequester
    else plinthPerm b rid p fma
  match kind with
  | 0 => perm 1
  | 1 => perm 2
  | _ => worse (perm 1) (perm 2)

/-- A bank with its uncorrectable entries failing closed (R212). -/
def AcuBank.closed (b : AcuBank) (bad : List (Nat × Nat)) : AcuBank :=
  bad.foldl (fun b x => match x.1 with
    | 1 => { b with regions := terase b.regions x.2 }
    | 2 => { b with plinth := terase b.plinth x.2 }
    | 3 => { b with windows := terase b.windows x.2 }
    | 4 => { b with tags := terase b.tags x.2 }
    | _ => { b with req := terase b.req x.2 }) b

/-- The verdict with uncorrectable entries: a decision that depends on one is ENTRY_ERROR (R212). -/
def verdictAt (service : Bool) (b : AcuBank) (bad : List (Nat × Nat)) (rid : Option Nat) (kind fma : Nat) : Nat :=
  let v := byteVerdict service (b.closed bad) rid kind fma
  if v = 0 then 0 else if byteVerdict service b rid kind fma = v then v else rEntryError

/-- The first 64-byte line, from line `l`, of `n` lines that is not granted, with its reason. Every
region bound and every granule bound is a multiple of 64 bytes, so a line has one verdict. -/
def firstBad (f : Nat → Nat) : Nat → Nat → Option (Nat × Nat)
  | _, 0 => none
  | l, n + 1 => if f (64 * l) = 0 then firstBad f (l + 1) n else some (64 * l, f (64 * l))

/-- The check of an access of `len` bytes at `fma`: reason, and offset of the first forbidden byte
(R205). Kind 3 is a request to an upstream port (R197, R208). -/
def decideAccess (service plinthDma : Bool) (b : AcuBank) (bad : List (Nat × Nat)) (rid : Option Nat)
    (kind fma len : Nat) : Nat × Nat :=
  if kind = 3 then
    if service then
      match rid with
      | none => (rNoRequester, 0)
      | some r =>
        let e := tget {} b.req r
        if bad.contains (5, r) then (rEntryError, 0)
        else if !e.valid then (rNoRequester, 0) else if e.hostDma then (0, 0) else (rHostDma, 0)
    else if plinthDma then (0, 0) else (rHostDma, 0)
  else
    match firstBad (verdictAt service b bad rid kind) (fma / 64) ((fma + len - 1) / 64 + 1 - fma / 64) with
    | none => (0, 0)
    | some (a, r) => (r, max fma a - fma)

/-- The check under the rules in effect. -/
def State.check (s : State) (rid : Option Nat) (kind fma len : Nat) : Nat × Nat :=
  decideAccess s.acu.service s.acu.plinthDma s.acu.active s.acu.bad rid kind fma len

/-- The requester index of LD `ld` of port `p` (R198). -/
def State.rid (s : State) (p ld : Nat) : Option Nat :=
  let m := tget (0, 0) s.acu.active.portMap p
  if ld < m.2 then some (m.1 + ld) else none

/-! ### Accesses in flight (R216, R217) -/

/-- Epoch slot `i`. -/
def Acu.slotAt (a : Acu) (i : Nat) : EpochSlot :=
  match i % 4 with | 0 => a.slot0 | 1 => a.slot1 | 2 => a.slot2 | _ => a.slot3
/-- Write epoch slot `i`. -/
def Acu.setSlot (a : Acu) (i : Nat) (v : EpochSlot) : Acu :=
  match i % 4 with
  | 0 => { a with slot0 := v } | 1 => { a with slot1 := v } | 2 => { a with slot2 := v } | _ => { a with slot3 := v }
/-- The epoch to which an access stamped at `t` (phase units) belongs (R215). -/
def State.epochOf (s : State) (t : Nat) : Nat :=
  let old := [0, 1, 2, 3].filterMap fun i =>
    match (s.acu.slotAt i).epoch, (s.acu.slotAt i).endedAt with
    | some e, some b => if t < 16 * b then some (e, b) else none
    | _, _ => none
  match old.foldl (fun m x => match m with | none => some x | some y => if x.2 < y.2 then some x else m) none with
  | some x => x.1
  | none => s.acu.epoch
/-- Slot `epoch mod 4` belongs to that epoch: it is in effect, or it drains (R217). -/
def Acu.inUse (a : Acu) (epoch : Nat) : Bool :=
  match (a.slotAt epoch).epoch with | some e => e == epoch | none => a.epoch == epoch
/-- Add to the signed count of an epoch at an island (R217). -/
def State.countAccess (s : State) (island epoch : Nat) (d : Int) : State :=
  let x := s.acu.slotAt epoch
  if s.acu.inUse epoch then
    { s with acu := s.acu.setSlot epoch { x with counts := tset 0 x.counts island (tget 0 x.counts island + d) } }
  else s
/-- An access of epoch `e` settles at an island. -/
def State.settle (s : State) (island e : Nat) : State := s.countAccess island e (-1)
/-- The sum over all islands of an epoch's counts. -/
def EpochSlot.total (x : EpochSlot) : Int := x.counts.foldl (fun n c => n + c.2) 0

/-- Count an ACU event at a station's block and at the protection table (R225). -/
def State.cntStn (s : State) (island code : Nat) (vfi : Option Nat := none) (n : Nat := 1) : State :=
  let s := if island < 64 then s.cntTile island code vfi none n
    else if island < 80 then s.cntSlice (island - 64) code vfi n
    else s.cntEngine (island - 84) code vfi n
  s.cntAcu code vfi n

/-! ### Violations (R220, R221) -/

/-- What a violation record carries besides its header and Repeats (Table 08-14). -/
structure Violation where
  island : Nat
  rid : Option Nat
  port : Nat
  ld : Nat
  vfi : Nat
  epoch : Nat
  kind : Nat
  reason : Nat
  fma : Nat
  len : Nat
  t64 : Nat

/-- The payload before Repeats. -/
def Violation.payload (v : Violation) : List Byte :=
  packFields 16 [(2, v.rid.getD 0xFFF), (2, v.port), (1, v.ld), (1, v.vfi), (4, v.epoch), (1, v.kind),
    (1, v.reason), (8, if v.reason ≤ 2 then 0 else v.fma), (2, v.len)] ++ [0, 0]
/-- RIDs that a station tracks in this course. -/
def State.tracked (s : State) (island : Nat) : Nat := (s.acu.course.filter fun x => x.island == island).length

/-- Record a rejection under the coalescing rule (R221). -/
def State.violation (s : State) (v : Violation) : State :=
  let key := v.rid.getD 0xFFF
  let bump (t : Tbl Nat) : Tbl Nat := tset 0 t v.island (satAdd 32 (tget 0 t v.island) 1)
  let s := { s with acu := { s.acu with violTotal := satAdd 32 s.acu.violTotal 1, viol := bump s.acu.viol,
                                        err := s.acu.err ||| 1 } }
  let s := (s.cntStn v.island 0xA1 (some v.vfi)).tally 18
  match s.acu.course.find? fun x => x.island == v.island && x.rid == key with
  | some x =>
    let y : Coalesce := if x.later = 0 then { x with later := 1, first := leBytes 8 v.t64 ++ v.payload }
                        else { x with later := satAdd 32 x.later 1 }
    let s := if x.later = 0 then s else s.cntStn v.island 0xA9 (some v.vfi)
    { s with acu := { s.acu with course := s.acu.course.map fun z => if z = x then y else z } }
  | none =>
    if s.tracked v.island < 32 then
      let s := { s with acu := { s.acu with
        course := s.acu.course ++ [({ island := v.island, rid := key } : Coalesce)]
        err := if s.tracked v.island = 31 then s.acu.err ||| 16 else s.acu.err } }
      s.recordBytes 0x70 v.island v.t64 (v.payload ++ leBytes 4 0)
    else s

/-- The second records of R221, written at a boundary, and the new course's empty tracking. -/
def State.flushViolations (s : State) : State :=
  let s' := s.acu.course.foldl (fun s x =>
    if x.later = 0 then s
    else s.recordBytes 0x70 x.island (leNat (x.first.take 8)) (x.first.drop 8 ++ leBytes 4 (x.later - 1))) s
  { s' with acu := { s'.acu with course := [] } }

/-! ### Station caches (R210 to R212) -/

/-- Open a station's fetch of a line of tags for a message stamped `stamp`; a line that is being fetched
already is not fetched again, and a station keeps up to 32 fetches open (R210). -/
def Acu.openFetch (a : Acu) (island line stamp at16 : Nat) : Acu :=
  let mine := a.fetches.filter fun f => f.island == island
  if mine.any (fun f => f.line == line) || decide (32 ≤ mine.length) then a
  else { a with fetches := a.fetches ++ [{ island := island, line := line, stamp := stamp, at16 := at16 }] }

/-- Look up a colour tag in a station's cache of 256 lines of 64 tags, least recently used
replaced; a line that is absent is fetched (R210). -/
def State.tagLookup (s : State) (island stamp tag : Nat) : State :=
  let lines := tget [] s.acu.cached island
  if lines.contains (tag / 64) then
    ({ s with acu := { s.acu with hits := tset 0 s.acu.hits island (satAdd 32 (tget 0 s.acu.hits island) 1)
                                  cached := tset [] s.acu.cached island (tag / 64 :: lines.erase (tag / 64)) } }).cntStn island 0xA2
  else
    let misses := tset 0 s.acu.misses island (satAdd 32 (tget 0 s.acu.misses island) 1)
    ({ s with acu := { s.acu.openFetch island (tag / 64) stamp s.clock with misses := misses } }).cntStn island 0xA3

/-- A colour tag decides some permission of an access at `fma` (R210). -/
def AcuBank.needsTag (b : AcuBank) (e : ReqEntry) (kind fma : Nat) : Bool :=
  let need (p : Nat) : Bool :=
    let rs := b.regions.filter fun x => regionGrants x.2.toNat e.vfi p fma
    !rs.isEmpty && rs.all fun x => bitOf x.2.toNat 3
  match kind with | 0 => need 1 | 1 => need 2 | 2 => need 1 || need 2 | _ => false

/-- The colour-tag lookups of a check for a message stamped `stamp`, one per granule of the range (at most two,
R202). -/
def State.tagLookups (s : State) (island stamp : Nat) (rid : Option Nat) (kind fma len : Nat) : State :=
  match s.acu.service, rid with
  | true, some r =>
    let b := s.acu.active
    let e := tget {} b.req r
    let ends := if (b.tagIndex fma) = b.tagIndex (fma + len - 1) then [fma] else [fma, fma + len - 1]
    ends.foldl (fun s a => match b.tagIndex a with
      | some i => if e.valid && b.needsTag e kind a then s.tagLookup island stamp i else s
      | none => s) s
  | _, _ => s

/-- An uncorrectable entry of the central table fails closed, with one record (R212). -/
def State.entryBad (s : State) (table index : Nat) : State :=
  if s.acu.bad.contains (table, index) then s
  else (({ s with acu := { s.acu with bad := (table, index) :: s.acu.bad, err := s.acu.err ||| 2 } }).sramError 88 5 true).record
    0x71 88 s.now64 [(1, table), (4, index)]

/-- The order of R47 among fetches: STAMP, then the rotating key over the 96 islands. -/
def TagFetch.key (f : TagFetch) (slot : Nat) : Nat × Nat × Nat := (f.stamp, tieKey f.island slot 96, 0)
/-- The fetch is among the two that the central table serves in this cycle (R46, R210). -/
def State.fetchTurn (s : State) (f : TagFetch) : Bool :=
  decide ((s.acu.fetches.filter fun g => keyLt (g.key s.slot) (f.key s.slot)).length < 2)
/-- The open fetch of a station for a line of tags. -/
def Acu.fetchOf (a : Acu) (island line : Nat) : Option TagFetch :=
  a.fetches.find? fun f => f.island == island && f.line == line
/-- A fetched line enters a station's cache, and the least recently used of 256 leaves it; the fetch time is counted in
cycles (Table 08-18). -/
def State.loadTags (s : State) (island line : Nat) : State :=
  let lines := tget [] s.acu.cached island
  let s := match s.acu.fetchOf island line with
    | some f => s.cntStn island 0xA4 none ((s.clock - f.at16) / 8)
    | none => s
  { s with acu := { s.acu with
      fetches := s.acu.fetches.filter fun f => !(f.island == island && f.line == line)
      cached := tset [] s.acu.cached island ((line :: lines.erase line).take 256) } }

/-- The central table answers a station's fetch once its turn has come. A line that no lookup waits for is one
whose copy the station discarded (R212). -/
def State.fetchAnswer (s : State) (island : Nat) (want : AcuEntryId) (unc : Bool) : State :=
  match want with
  | .tag i =>
    if unc then s.entryBad 4 i
    else if (s.acu.fetchOf island (i / 64)).any fun f => !s.fetchTurn f then s
    else s.loadTags island (i / 64)
  | .requester r => if unc then s.entryBad 5 r else s

/-! ### Staging (R213, R214) -/

/-- A staging write is refused from the take of a commit until its boundary (R214). -/
def stagingBusy (_ : Cmd) (s : State) : Option Nat := if s.acu.commitPending then some stBusy else none
/-- Write the staged bank. -/
def State.stage (s : State) (f : AcuBank → AcuBank) : State :=
  ({ s with acu := { s.acu with staged := f s.acu.staged } }).cntAcu 0xA5

/-- ACU_REGION_SET. -/
def opAcuRegionSet : OpSpec :=
  { code := 0x30, refuse := fun c s => stagingBusy c s
    body := fun _ c s =>
      let (i, cl) := c.ranged 16 2 0 2047
      let v := c.le 24 16
      .ok (s.stage fun b => { b with regions := tset 0 b.regions i (BitVec.ofNat 128 (regionLegal v)) }) i
        (minClamp cl (regionClamp 6 v)) }

/-- ACU_PLINTH_SET. -/
def opAcuPlinthSet : OpSpec :=
  { code := 0x31, refuse := fun c s => stagingBusy c s
    body := fun _ c s =>
      let (i, cl) := c.ranged 16 1 0 63
      let v := c.le 24 16
      .ok (s.stage fun b => { b with plinth := tset 0 b.plinth i (BitVec.ofNat 128 (plinthLegal v)) }) i
        (minClamp cl (regionClamp 9 v)) }

/-- ACU_WINDOW_SET. -/
def opAcuWindowSet : OpSpec :=
  { code := 0x32, refuse := fun c s => stagingBusy c s
    body := fun _ c s =>
      let (i, cl) := c.ranged 16 1 0 63
      let w := CWin.of (c.le 24 16)
      let cl := minClamp cl w.clamp
      let w := w.legal
      if w.en && s.acu.staged.windows.any (fun x => x.1 != i && (CWin.of x.2.toNat).en && w.overlaps (CWin.of x.2.toNat))
      then .bad s stNoResource cl
      else .ok (s.stage fun b => { b with windows := tset 0 b.windows i (BitVec.ofNat 128 w.image) })
        (if w.en then w.count else 0) cl }

/-- Write the tags `vs` from tag `i` on. -/
def setTags (vs : List Byte) (t : Tbl Byte) (i : Nat) : Tbl Byte :=
  t.filter (fun x => decide (x.1 < i))
    ++ (vs.zipIdx i).filterMap (fun v => if v.1 = 0 then none else some (v.2, v.1))
    ++ t.filter (fun x => decide (i + vs.length ≤ x.1))

/-- Duration of an ACU_TAG_SET of `n` tags in ns: 2,048 tags per us (R213). -/
def tagSetNs (n : Nat) : Nat := ceilDiv (n * 1000) 2048
/-- First tag and count of an ACU_TAG_SET, at their nearest legal values (Table 08-15). -/
def tagRange (c : Cmd) : Nat × Nat :=
  let i := (c.ranged 16 4 0 1048575).1
  (i, min (c.ranged 20 4 1 1048576).1 (1048576 - i))

/-- ACU_TAG_SET: it executes when its last tag is written (R213). -/
def opAcuTagSet : OpSpec :=
  { code := 0x33, refuse := fun c s => stagingBusy c s
    body := fun tk c s =>
      let (i, n) := tagRange c
      let c0 := (c.ranged 16 4 0 1048575).2
      let c1 := if n ≠ c.le 20 4 then some 20 else none
      let (src, c2) := c.ranged 25 1 0 1
      let tags : List Byte := if src = 0 then List.replicate n (BitVec.ofNat 8 (c.byte 24))
        else s.mgrRead (c.le 32 8) n
      let at' := max s.acu.stagedAt tk.ft + tagSetNs n
      let tk := { tk with ft := at', clamp := minClamp tk.clamp (minClamp c0 (minClamp c1 c2)) }
      let w : TagWrite := { ticket := tk, first := i, tags := tags, at' := at' }
      .later { s with acu := { s.acu with stagedAt := at', writes := s.acu.writes ++ [w] } } }

/-- The last tag of the first write in progress is written: ACU_TAG_SET executes and completes (R213). -/
def State.tagsWritten (s : State) : State :=
  match s.acu.writes with
  | [] => s
  | w :: ws =>
    if w.at' ≤ s.ft then
      let s := { s with acu := { s.acu with writes := ws } }
      (s.stage fun b => { b with tags := setTags w.tags b.tags w.first }).complete w.ticket stOk w.tags.length
    else s

/-- ACU_REQ_SET. -/
def opAcuReqSet : OpSpec :=
  { code := 0x34, refuse := fun c s => stagingBusy c s
    body := fun _ c s =>
      let (r, cl) := c.ranged 16 2 0 4095
      .ok (s.stage fun b => { b with req := tset {} b.req r { tget {} b.req r with
        valid := bitOf (c.byte 18) 0, hostDma := bitOf (c.byte 18) 1, vfi := c.byte 19 } }) r cl }

/-- ACU_KEYS_SET; bit 0 of both masks stays 0 (R199). -/
def opAcuKeysSet : OpSpec :=
  { code := 0x35, refuse := fun c s => stagingBusy c s
    body := fun _ c s =>
      let (r, c0) := c.ranged 16 2 0 4095
      let (m, c1) := c.ranged 18 1 0 2
      let mask := BitVec.ofNat 256 (c.le 24 32 / 2 * 2)
      let e := tget {} s.acu.staged.req r
      let e := { e with rd := if m = 1 then e.rd else mask, wr := if m = 0 then e.wr else mask }
      .ok (s.stage fun b => { b with req := tset {} b.req r e }) r (minClamp c0 c1) }

/-- The port that a two-byte field names, clamped into the range of every variant (R5, R10). -/
def portAt (c : Cmd) (off : Nat) : Nat := min 1023 (c.le off 2)

/-- ACU_PORT_MAP_SET. -/
def opAcuPortMapSet : OpSpec :=
  { code := 0x36, refuse := fun c s => stagingBusy c s
    absent := fun c s => !s.portExists (portAt c 16)
    body := fun _ c s =>
      let (p, c0) := c.ranged 16 2 0 1023
      let (n, c2) := c.ranged 20 1 0 16
      let base := min (c.le 18 2) (3836 - n)
      let c1 := if base ≠ c.le 18 2 then some 18 else none
      .ok (s.stage fun b => { b with portMap := tset (0, 0) b.portMap p (base, n) }) (base + 2 ^ 16 * n)
        (minClamp c0 (minClamp c1 c2)) }

/-! ### Commit and drain (R214 to R219) -/

/-- Earlier epochs still draining. -/
def State.draining (s : State) : Nat := ([0, 1, 2, 3].filter fun i => (s.acu.slotAt i).endedAt.isSome).length

/-- Mode that a commit takes: 0 keep, 1 Service, 2 Plinth. -/
def commitService (now : Bool) (mode : Nat) : Bool := match mode with | 0 => now | 1 => true | _ => false

/-- Where the staging opcodes lie: 0x30 to 0x36, and 0x74 (R332). -/
def isStaging (op : Nat) : Bool := (decide (0x30 ≤ op) && decide (op ≤ 0x36)) || op == 0x74

/-- How long a staging opcode takes once it begins: ACU_TAG_SET writes its tags, the others write at once. -/
def stagingNs (op : Nat) (c : Cmd) : Nat := if op = 0x33 then tagSetNs (tagRange c).2 else 0

/-- A of a commit: its arrival, or the execution of the last staging write taken before it (R214), one that is
held behind another or waits in the launch queue included. Tag writes follow one another. -/
def State.commitAcc (s : State) : Nat :=
  let begun := max s.ft s.acu.stagedAt
  let held := s.cmd.behind.foldl (fun t b => t + stagingNs b.op b.cmd) begun
  let queued := s.ftu.launches.filter fun l => isStaging l.op
  queued.foldl (fun t l => max t (if l.aligned then max l.e s.ftu.nextBoundary else l.e) + stagingNs l.op l.cmd) held

/-- The least CT of R218 in ms: the largest age limit of any tile, rounded up, plus 1 ms. A tile that is not listed has
the limit of reset. -/
def State.drainFloor (s : State) : Nat :=
  let top := s.swc.tiles.foldl (fun m x => max m x.2.ageLog2) (if s.swc.tiles.length < s.tileCount then 22 else 14)
  ceilDiv (2 ^ top) 1000000 + 1
/-- CT in ms (R218). -/
def State.ctMs (s : State) : Nat := max s.acu.drainTo s.drainFloor

/-- ACU_COMMIT at its boundary: the staged bank becomes active as a new epoch (R215). -/
def State.commit (s : State) (tk : Ticket) (mode : Nat) : State :=
  let a := s.acu
  let e := a.epoch
  let next := (e + 1) % 2 ^ 32
  let a := a.setSlot e { a.slotAt e with epoch := some e, endedAt := some tk.ft, zeroSeen := false, forced := 0,
                                         ticket := some tk, newEpoch := next, cutDone := false, ct := a.commitCt,
                                         latched := (a.slotAt e).total }
  let a := a.setSlot (e + 1) {}
  let s := { s with acu := { a with active := a.staged, service := commitService a.service mode, epoch := next,
                                    commitPending := false, bad := [] } }
  (s.event 0x30 88 (t64Ns tk.ft) [(4, next)]).cntAcu 0xA6

/-- ACU_COMMIT. -/
def opAcuCommit : OpSpec :=
  { code := 0x37, aligned := true
    refuse := fun _ s => if s.acu.commitPending || decide (3 ≤ s.draining) then some stBusy else none
    taken := fun c s => { s with acu := { s.acu with commitPending := true, commitMode := min 2 (c.byte 16), commitCt := s.ctMs } }
    accTime := State.commitAcc
    body := fun tk c s =>
      let (m, cl) := c.ranged 16 1 0 2
      .later (s.commit { tk with clamp := minClamp tk.clamp cl } m) }

/-- At a boundary: complete the commits whose zero sum was seen at an earlier one, then latch
(R217, R219). -/
def State.drainSlot (s : State) (i : Nat) : State :=
  let x := s.acu.slotAt i
  match x.endedAt with
  | none => s
  | some b =>
    if x.zeroSeen then
      let s := { s with acu := s.acu.setSlot i {} }
      match x.ticket with
      | some tk => s.complete tk stOk (x.newEpoch % 65536 * 65536 + min 65535 x.forced)
      | none => s
    else
      { s with acu := s.acu.setSlot i { x with latched := x.total,
                                               zeroSeen := decide (x.total = 0 ∧ b < s.ftu.boundary) } }

/-- ACU_DISCARD. -/
def opAcuDiscard : OpSpec :=
  { code := 0x38, refuse := fun c s => stagingBusy c s
    body := fun _ _ s => .ok { s with acu := { s.acu with staged := s.acu.active } } }

/-- ACU_QUERY: exactly the station's decision, without counting and without records. -/
def opAcuQuery : OpSpec :=
  { code := 0x39
    body := fun _ c s =>
      let (fma, c0) := c.ranged 16 8 0 (2 ^ 56 - 1)
      let (len, c1) := c.ranged 24 2 1 4096
      let raw := c.le 26 2
      let rid := if raw = 0xFFFF then none else some (min 4095 raw)
      let c2 := if raw ≠ 0xFFFF ∧ 4095 < raw then some 26 else none
      let (kind, c3) := c.ranged 28 1 0 3
      let (bank, c4) := c.ranged 29 1 0 1
      let a := s.acu
      let r := if bank = 0 then s.check rid kind fma len
        else decideAccess (if a.commitPending then commitService a.service a.commitMode else a.service) a.plinthDma
          a.staged [] rid kind fma len
      .ok s (if r.1 = 0 then 0 else r.2 % 4096 + 2 ^ 16 * r.1)
        (minClamp c0 (minClamp c1 (minClamp c2 (minClamp c3 c4)))) }

/-- ACU_TAG_QUERY. -/
def opAcuTagQuery : OpSpec :=
  { code := 0x3A
    body := fun _ c s =>
      let (fma, cl) := c.ranged 16 8 0 (2 ^ 56 - 1)
      let a := s.acu.active.closed s.acu.bad
      let w (b : AcuBank) : Nat := match b.window fma with | some x => x.1 | none => 0x3F
      .ok s (a.colour fma + 2 ^ 8 * s.acu.staged.colour fma + 2 ^ 16 * w a + 2 ^ 24 * w s.acu.staged) cl }

/-- The draining epoch that ended first. -/
def State.oldestDrain (s : State) : Option EpochSlot :=
  ([0, 1, 2, 3].map s.acu.slotAt).foldl (fun m x => match x.endedAt, m with
    | none, _ => m
    | some _, none => some x
    | some b, some y => if b < y.endedAt.getD 0 then some x else m) none

/-- ACU_DRAIN_QUERY. -/
def opAcuDrainQuery : OpSpec :=
  { code := 0x3B
    body := fun _ _ s => .ok s (match s.oldestDrain with | some x => (x.latched % 2 ^ 32).toNat | none => 0) }

/-! ### The ACU window (Tables 08-16, 08-17) -/

/-- Keys at which two tables differ. -/
def tdiff {α : Type} [DecidableEq α] (d : α) (a b : Tbl α) : Nat :=
  (a.filter fun x => tget d b x.1 ≠ x.2).length + (b.filter fun x => tget d a x.1 = d ∧ x.2 ≠ d).length
/-- Staged entries that differ from the active bank. -/
def Acu.stagedDiff (a : Acu) : Nat :=
  tdiff 0 a.staged.regions a.active.regions + tdiff 0 a.staged.plinth a.active.plinth
    + tdiff 0 a.staged.windows a.active.windows + tdiff 0 a.staged.tags a.active.tags
    + tdiff {} a.staged.req a.active.req + tdiff (0, 0) a.staged.portMap a.active.portMap
    + tdiff (BitVec.allOnes 256 <<< 1) a.staged.colours a.active.colours

/-- Word `k` of a 128-bit image. -/
def word128 (v : BitVec 128) (k : Nat) : Nat := bitsOf v.toNat (32 * k + 31) (32 * k)
/-- Word `k` of a 256-bit mask. -/
def word256 (v : BitVec 256) (k : Nat) : Nat := bitsOf v.toNat (32 * k + 31) (32 * k)

/-- A read of the ACU window at offset `o`. -/
def State.acuRead (s : State) (o : Nat) : Nat :=
  let a := s.acu
  let b := if a.bank then a.staged else a.active
  if o = 0x0 then bit a.service + 2 * bit a.commitPending + 4 * s.draining + 16 * bit (decide (s.ft < a.stagedAt))
  else if o = 0x4 then bit a.plinthDma + 2 * bit a.bank
  else if o = 0x8 then a.epoch
  else if o = 0xC then s.ctMs
  else if o = 0x10 then a.stagedDiff
  else if 0x14 ≤ o ∧ o < 0x24 then
    let i := (o - 0x14) / 4
    match (a.slotAt i).epoch with | some e => e | none => if a.epoch % 4 = i then a.epoch else 0xFFFFFFFF
  else if 0x24 ≤ o ∧ o < 0x34 then ((a.slotAt ((o - 0x24) / 4)).latched % 2 ^ 32).toNat
  else if o = 0x34 then a.forced
  else if o = 0x38 then a.violTotal
  else if o = 0x3C then a.err.toNat
  else if 0x1000 ≤ o ∧ o < 0x1000 + 0x20 * 96 then
    let n := (o - 0x1000) / 0x20
    match o % 0x20 with
    | 0x0 => tget 0 a.hits n
    | 0x4 => tget 0 a.misses n
    | 0x8 => tget 0 a.viol n
    | 0xC => tget 0 a.eccC n + 2 ^ 16 * tget 0 a.eccU n
    | _ => 0
  else if 0x10000 ≤ o ∧ o < 0x18000 then word128 (tget 0 b.regions ((o - 0x10000) / 16)) (o % 16 / 4)
  else if 0x30000 ≤ o ∧ o < 0x30400 then word128 (tget 0 b.plinth ((o - 0x30000) / 16)) (o % 16 / 4)
  else if 0x31000 ≤ o ∧ o < 0x31400 then word128 (tget 0 b.windows ((o - 0x31000) / 16)) (o % 16 / 4)
  else if 0x40000 ≤ o ∧ o < 0x41000 then
    let m := tget (0, 0) b.portMap ((o - 0x40000) / 4)
    m.1 + 2 ^ 16 * m.2
  else if 0x80000 ≤ o then
    let e := tget {} b.req ((o - 0x80000) / 0x80)
    let k := o % 0x80
    if k = 0 then bit e.valid + 2 * bit e.hostDma + 2 ^ 8 * e.vfi
    else if 0x20 ≤ k ∧ k < 0x40 then word256 e.rd ((k - 0x20) / 4)
    else if 0x40 ≤ k ∧ k < 0x60 then word256 e.wr ((k - 0x40) / 4)
    else 0
  else 0

/-- A write to the ACU window (R223). -/
def State.acuWrite (s : State) (o v : Nat) : State :=
  match o with
  | 0x4 => { s with acu := { s.acu with plinthDma := bitOf v 0, bank := bitOf v 1 } }
  | 0xC =>
    let w := v % 1024
    let s' := { s with acu := { s.acu with drainTo := clampNat 1 1000 w } }
    ({ s' with acu := { s'.acu with drainTo := min 1000 s'.ctMs } }).regClampIf
      (decide (min 1000 s'.ctMs ≠ w))
  | 0x3C => { s with acu := { s.acu with err := s.acu.err &&& ~~~ BitVec.ofNat 5 v } }
  | _ => s

/-! ### The commands -/

/-- ACU_REGION_SET (R213). -/
def execAcuRegionSet (c : Cmd) (s : State) : Answer := act s (opAcuRegionSet.submit c)
/-- ACU_PLINTH_SET (R213). -/
def execAcuPlinthSet (c : Cmd) (s : State) : Answer := act s (opAcuPlinthSet.submit c)
/-- ACU_WINDOW_SET (R202). -/
def execAcuWindowSet (c : Cmd) (s : State) : Answer := act s (opAcuWindowSet.submit c)
/-- ACU_TAG_SET (R213). -/
def execAcuTagSet (c : Cmd) (s : State) : Answer := act s (opAcuTagSet.submit c)
/-- ACU_REQ_SET (R199). -/
def execAcuReqSet (c : Cmd) (s : State) : Answer := act s (opAcuReqSet.submit c)
/-- ACU_KEYS_SET (R204). -/
def execAcuKeysSet (c : Cmd) (s : State) : Answer := act s (opAcuKeysSet.submit c)
/-- ACU_PORT_MAP_SET (R198). -/
def execAcuPortMapSet (c : Cmd) (s : State) : Answer := act s (opAcuPortMapSet.submit c)
/-- ACU_COMMIT (R214). -/
def execAcuCommit (c : Cmd) (s : State) : Answer := act s (opAcuCommit.submit c)
/-- ACU_DISCARD (R222). -/
def execAcuDiscard (c : Cmd) (s : State) : Answer := act s (opAcuDiscard.submit c)
/-- ACU_QUERY (R205). -/
def execAcuQuery (c : Cmd) (s : State) : Answer := act s (opAcuQuery.submit c)
/-- ACU_TAG_QUERY (R222). -/
def execAcuTagQuery (c : Cmd) (s : State) : Answer := act s (opAcuTagQuery.submit c)
/-- ACU_DRAIN_QUERY (R222). -/
def execAcuDrainQuery (c : Cmd) (s : State) : Answer := act s (opAcuDrainQuery.submit c)
/-- ACU_FETCH_RESPONSE (R210). -/
def execAcuFetchResponse (island : Island) (want : AcuEntryId) (uncorrectable : Bool) (s : State) : Answer :=
  act s fun s => s.fetchAnswer island want uncorrectable

end Sys2Proof.Machine
end

