-- ==== Sys2Proof/Machine/Counters.lean ====
section
/-!
DEFINITION. The Performance Counter Network (chapter 14): selection, freeze, snapshot and reading of
the 2,784 counters, and the PCN window.
-/

namespace Sys2Proof.Machine

/-- Counters of the module (R352). -/
abbrev pcnCount : Nat := 2784

/-- `v` lies in `lo` to `hi`. -/
def within (lo hi v : Nat) : Bool := decide (lo ≤ v) && decide (v ≤ hi)

/-- The block of counter `i` offers event code `e` (Table 14-1). -/
def offered (i e : Nat) : Bool :=
  e == 1 ||
  if i < 2048 then within 0x10 0x1B e || within 0x40 0x51 e || within 0xA0 0xA9 e
  else if i < 2560 then within 0x80 0x93 e || within 0xA0 0xA9 e
  else if i < 2624 then within 0xB0 0xBF e
  else if i < 2688 then within 0xC0 0xCF e || within 0xA0 0xA9 e
  else if i < 2720 then within 0xA0 0xA9 e
  else if i < 2736 then within 0xD0 0xD7 e
  else if i < 2752 then within 0xD8 0xDF e
  else if i < 2768 then within 0xE0 0xE7 e
  else within 0xE8 0xEB e

/-- Counter `i` belongs to a unit that this variant has (R352). -/
def State.counterHere (s : State) (i : Nat) : Bool :=
  decide (i < pcnCount) &&
  (if i < 2048 then s.tileExists (i / 32) else if 2624 ≤ i ∧ i < 2688 then s.isF else true)

/-- A counter selected by a PCN_SEL image, cleared (R355, R356, Table 14-12). -/
def selected (i v : Nat) : Counter :=
  { event := if offered i (v % 256) then v % 256 else 0, vfi := bitsOf v 15 8, vfiEn := bitOf v 16
    port := min 16 (bitsOf v 21 17), portEn := bitOf v 22 && decide (i < 2048) }
/-- A field of the image is clamped for counter `i` (R355). -/
def selClamped (i v : Nat) : Bool :=
  (!offered i (v % 256) && v % 256 != 0) || decide (16 < bitsOf v 21 17)
/-- The PCN_SEL image. -/
def Counter.image' (c : Counter) : Nat :=
  c.event + 2 ^ 8 * c.vfi + 2 ^ 16 * bit c.vfiEn + 2 ^ 17 * c.port + 2 ^ 22 * bit c.portEn

/-- FIRST and COUNT of a descriptor, kept inside the 2,784 counters (R376), with the clamp. -/
def pcnRange (c : Cmd) : Nat × Nat × Option Nat :=
  let (f, c0) := c.ranged 16 2 0 (pcnCount - 1)
  let (n, c1) := c.ranged 18 2 1 pcnCount
  let m := min n (pcnCount - f)
  (f, m, minClamp c0 (if m < n then some 18 else c1))

/-- The counters of a range that this variant has. -/
def State.pcnHere (s : State) (f n : Nat) : List Nat := ((List.range n).map (f + ·)).filter s.counterHere
/-- Every counter of the range is absent (R376). -/
def pcnAbsent (c : Cmd) (s : State) : Bool := (s.pcnHere (pcnRange c).1 (pcnRange c).2.1).isEmpty

/-- PCN_SELECT. -/
def opPcnSelect : OpSpec :=
  { code := 0x80, absent := pcnAbsent
    body := fun _ c s =>
      let (f, n, cl) := pcnRange c
      let v := c.le 20 4
      let is := s.pcnHere f n
      .ok (is.foldl (fun s i => s.modCounter i fun x => { selected i v with image := x.image, imageWraps := x.imageWraps }) s)
        is.length (minClamp cl (if is.any fun i => selClamped i v then some 20 else none)) }

/-- PCN_CLEAR. -/
def opPcnClear : OpSpec :=
  { code := 0x85, absent := pcnAbsent
    body := fun _ c s =>
      let (f, n, cl) := pcnRange c
      let is := s.pcnHere f n
      .ok (is.foldl (fun s i => s.modCounter i fun x => { x with value := 0, wraps := 0 }) s) is.length cl }

/-- The capture of every counter at the boundary at FT `b` (R357, R358); commands of one boundary share
one image. -/
def State.freezeAt (s : State) (b : Nat) (late : Bool) : State :=
  if s.pcn.freezeNum ≠ 0 ∧ s.pcn.freezeFt = b then s
  else
    let s := { s with pcn := { s.pcn with
      counters := tmap {} (fun _ x => { x with image := x.value, imageWraps := x.wraps }) s.pcn.counters
      freezeNum := (s.pcn.freezeNum + 1) % 2 ^ 32, freezeFt := b, frozen := true, gathering := true } }
    s.event 0x80 93 (t64Ns b) [(4, s.pcn.freezeNum), (1, bit late)]

/-- A freeze must wait: an earlier image is still being gathered (R358). -/
def State.freezeBlocked (s : State) (b : Nat) : Bool := s.pcn.gathering && s.pcn.freezeFt != b

/-- Execute a freeze, or a snapshot of `range`, at boundary `b`. -/
def State.freezeRun (s : State) (tk : Ticket) (range : Option (Nat × Nat)) (b : Nat) (late : Bool) : State :=
  let s := s.freezeAt b late
  match range with
  | none => s.complete tk stOk s.pcn.freezeNum
  | some (f, n) => { s with pcn := { s.pcn with snaps := s.pcn.snaps ++ [{ first := f, count := n, ticket := tk }] } }

/-- Put a freeze off to the first boundary after the gathering. -/
def State.freezeDefer (s : State) (tk : Ticket) (c : Cmd) (range : Option (Nat × Nat)) : State :=
  { s with pcn := { s.pcn with freezeLate := true
                               deferred := s.pcn.deferred ++ [{ cmd := c, ticket := tk, due := tk.ft, range := range }] } }

/-- The freezes put off execute at this boundary (R358). One with a launch time is late (R42). -/
def State.freezeBoundary (s : State) (b : Nat) : State :=
  if s.pcn.gathering then s
  else
    let ds := s.pcn.deferred
    ds.foldl (fun s d =>
      let lag := if d.cmd.launch = 0 then 0 else b - s.firstBoundary (min d.cmd.launch d.due)
      (s.freezeRun { d.ticket with ft := b, late := decide (0 < lag) } d.range b true).noteLaunched d.cmd b lag)
      { s with pcn := { s.pcn with deferred := [] } }

/-- PCN_FREEZE. -/
def opPcnFreeze : OpSpec :=
  { code := 0x81, aligned := true, defers := State.freezeBlocked
    body := fun tk c s =>
      .later (if s.freezeBlocked tk.ft then s.freezeDefer tk c none else s.freezeRun tk none tk.ft false) }

/-- PCN_SNAPSHOT. -/
def opPcnSnapshot : OpSpec :=
  { code := 0x83, aligned := true, defers := State.freezeBlocked
    body := fun tk c s =>
      let (f, n, cl) := pcnRange c
      let tk := { tk with clamp := minClamp tk.clamp cl }
      .later (if s.freezeBlocked tk.ft then s.freezeDefer tk c (some (f, n)) else s.freezeRun tk (some (f, n)) tk.ft false) }

/-- PCN_RELEASE. -/
def opPcnRelease : OpSpec :=
  { code := 0x82
    body := fun _ _ s => .ok { s with pcn := { s.pcn with frozen := false } } (bit (!s.pcn.frozen)) }

/-- The 16 bytes of PCN_READ: value and wraps, then T64 (Table 14-8). -/
def counterBytes (value wraps t64 : Nat) : List Byte := leBytes 6 value ++ leBytes 2 wraps ++ leBytes 8 t64

/-- An image read at its end: 0 where no image exists. -/
def State.imageRead (s : State) (tk : Ticket) (i dest : Nat) : State :=
  let c := s.counter i
  if s.pcn.imageValid then
    (s.mgrWrite dest (counterBytes c.image c.imageWraps (t64Ns s.pcn.freezeFt))).complete tk stOk (c.image % 2 ^ 32)
  else (s.mgrWrite dest (counterBytes 0 0 0)).complete tk stOk 0

/-- PCN_READ. -/
def opPcnRead : OpSpec :=
  { code := 0x84, absent := fun c s => !s.counterHere (min (pcnCount - 1) (c.le 16 2))
    body := fun tk c s =>
      let (i, c0) := c.ranged 16 2 0 (pcnCount - 1)
      let (src, c1) := c.ranged 18 1 0 1
      let cl := minClamp c0 c1
      let tk := { tk with clamp := minClamp tk.clamp cl }
      let dest := c.le 24 8
      if src = 0 then
        let x := s.counter i
        .ok (s.mgrWrite dest (counterBytes x.value x.wraps s.now64)) (x.value % 2 ^ 32) cl
      else if s.pcn.gathering then
        .later { s with pcn := { s.pcn with reads := s.pcn.reads ++ [(tk, i, dest)] } }
      else .later (s.imageRead tk i dest) }

/-- One snapshot entry of up to 8 counters (Table 12-10); byte 10 takes its flags when it is written. -/
def State.snapEntry (s : State) (f n : Nat) : List Byte :=
  fitTo 64 (leBytes 8 (t64Ns s.pcn.freezeFt) ++ leBytes 2 f ++ [0] ++ leBytes 1 n ++ leBytes 4 s.pcn.freezeNum ++
    (List.range n).flatMap fun i => leBytes 6 (s.counter (f + i)).image)

/-- The entries of a range in ascending order (R359). -/
def State.snapWrite (s : State) (f n : Nat) : State :=
  (List.range (ceilDiv n 8)).foldl (fun s j => s.devProduce 2 (s.snapEntry (f + 8 * j) (min 8 (n - 8 * j)))) s

/-- IMAGE_GATHERED (R358, R359): the image exists; waiting snapshots and reads end. -/
def State.imageGathered (s : State) : State :=
  let snaps := s.pcn.snaps
  let reads := s.pcn.reads
  let s := { s with pcn := { s.pcn with
    gathering := false, imageValid := s.pcn.imageValid || s.pcn.gathering, snaps := [], reads := [] } }
  let s := snaps.foldl (fun s x => (s.snapWrite x.first x.count).complete x.ticket stOk s.pcn.freezeNum) s
  reads.foldl (fun s x => s.imageRead x.1 x.2.1 x.2.2) s

/-! ### The PCN window (Tables 14-11, 14-12) -/

/-- A read of the PCN window at offset `o`. -/
def State.pcnRead (s : State) (o : Nat) : Nat :=
  if 0x1000 ≤ o ∧ o < 0x1000 + 4 * pcnCount then
    let i := (o - 0x1000) / 4
    if s.counterHere i then (s.counter i).image' else 0
  else if 0x4000 ≤ o ∧ o < 0x4000 + 8 * pcnCount then
    let i := (o - 0x4000) / 8
    if !s.counterHere i then 0
    else if o % 8 = 0 then (s.counter i).image % 2 ^ 32
    else (s.counter i).image / 2 ^ 32 % 2 ^ 16 + 2 ^ 16 * (s.counter i).imageWraps
  else match o with
    | 0x00 => bit s.pcn.imageValid + 2 * bit s.pcn.frozen + 4 * bit s.pcn.gathering + 8 * bit s.pcn.emitting
    | 0x04 => s.pcn.freezeNum
    | 0x08 => s.pcn.freezeFt % 2 ^ 32
    | 0x0C => s.pcn.freezeFt / 2 ^ 32
    | 0x10 => bit s.pcn.freezeLate
    | _ => 0

/-- A write to the PCN window at offset `o`. -/
def State.pcnWrite (s : State) (o v : Nat) : State :=
  if 0x1000 ≤ o ∧ o < 0x1000 + 4 * pcnCount then
    let i := (o - 0x1000) / 4
    if s.counterHere i then s.sidePush 0x80 (sideCmd 0 0 [(16, 2, i), (18, 2, 1), (20, 4, v)]) else s
  else if o = 0x10 then { s with pcn := { s.pcn with freezeLate := s.pcn.freezeLate && !bitOf v 0 } }
  else s

/-- PCN_SELECT (R356). -/
def execPcnSelect (c : Cmd) (s : State) : Answer := act s (opPcnSelect.submit c)
/-- PCN_FREEZE (R357). -/
def execPcnFreeze (c : Cmd) (s : State) : Answer := act s (opPcnFreeze.submit c)
/-- PCN_RELEASE (R360). -/
def execPcnRelease (c : Cmd) (s : State) : Answer := act s (opPcnRelease.submit c)
/-- PCN_SNAPSHOT (R359). -/
def execPcnSnapshot (c : Cmd) (s : State) : Answer := act s (opPcnSnapshot.submit c)
/-- PCN_READ (R376). -/
def execPcnRead (c : Cmd) (s : State) : Answer := act s (opPcnRead.submit c)
/-- PCN_CLEAR (R356). -/
def execPcnClear (c : Cmd) (s : State) : Answer := act s (opPcnClear.submit c)
/-- IMAGE_GATHERED (R358). -/
def execImageGathered (s : State) : Answer := act s State.imageGathered

end Sys2Proof.Machine
end

