-- ==== Sys2Proof/Machine/LineCode.lean ====
section
/-!
DEFINITION. The line code of the LPDDR6 (R233 to R235): a systematic Reed-Solomon code over GF(2^8)
with 70 information symbols, five of them the address, and 7 check symbols stored inverted. A decoder
for up to 3 symbol errors.
-/

namespace Sys2Proof.Machine

/-! ### GF(2^8) with x^8 + x^4 + x^3 + x^2 + 1 -/

/-- Multiplication by x. -/
def gfDouble (a : Nat) : Nat := if 256 ≤ 2 * a then (2 * a) ^^^ 0x11D else 2 * a
/-- Product, by the bits of `b` from bit `8 - n`. -/
def gfMulFrom : Nat → Nat → Nat → Nat
  | 0, _, _ => 0
  | n + 1, a, b => (if b % 2 = 1 then a else 0) ^^^ gfMulFrom n (gfDouble a) (b / 2)
/-- Product. -/
def gfMul (a b : Nat) : Nat := gfMulFrom 8 a b
/-- α to the `n`, with α = 0x02. -/
def gfExp : Nat → Nat
  | 0 => 1
  | n + 1 => gfDouble (gfExp n)
/-- The product of the squares a^2, a^4 and so on: `n` of them. -/
def gfSquares : Nat → Nat → Nat
  | 0, _ => 1
  | n + 1, a => let q := gfMul a a; gfMul q (gfSquares n q)
/-- Inverse: a^254 (0 for 0). -/
def gfInv (a : Nat) : Nat := gfSquares 7 a
/-- Quotient. -/
def gfDiv (a b : Nat) : Nat := gfMul a (gfInv b)
/-- Sum of a list. -/
def gfSum (l : List Nat) : Nat := l.foldl (· ^^^ ·) 0
/-- Product of a list. -/
def gfProd (l : List Nat) : Nat := l.foldl gfMul 1

/-! ### Encoding (R233) -/

/-- One more root: the coefficients, highest degree first, of a polynomial times (x - r). -/
def polyRoot (p : List Nat) (r : Nat) : List Nat := List.zipWith (· ^^^ ·) (p ++ [0]) (0 :: p.map (gfMul r))
/-- g(x), highest degree first. -/
def rsGen : List Nat := (List.range 7).foldl (fun p i => polyRoot p (gfExp i)) [1]
/-- One step of the division: the next information symbol enters a remainder of 7 symbols. -/
def rsStep (g : List Nat) (r : List Nat) (x : Nat) : List Nat :=
  let f := (r.headD 0) ^^^ x
  List.zipWith (· ^^^ ·) (r.drop 1 ++ [0]) (g.map (gfMul f))
/-- The remainder r0 to r6 of the information symbols, highest degree first. -/
def rsRemainder (info : List Nat) : List Nat :=
  let g := rsGen.drop 1
  info.foldl (rsStep g) (List.replicate 7 0)

/-- Bytes of a number, lowest first. -/
def bytesOf (n v : Nat) : List Nat := (List.range n).map fun i => (v >>> (8 * i)) % 256
/-- A number from its bytes, lowest first. -/
def ofBytes (l : List Nat) : Nat := l.foldr (fun b n => b % 256 + 256 * n) 0

/-- The check symbols s65 to s71 as stored, in metadata order: bytes 0 to 6 (R233, R234). -/
def rsStored (addr : Nat) (data : BitVec 512) (meta7 : Nat) : Nat :=
  ofBytes ((rsRemainder ((bytesOf 5 addr).reverse ++ bytesOf 64 data.toNat ++ [meta7])).map (· ^^^ 0xFF))
/-- The change of the check symbols that a change of the data symbols makes: the code is linear. -/
def rsDelta (data : BitVec 512) (meta7 : Nat) : Nat :=
  ofBytes (rsRemainder (bytesOf 64 data.toNat ++ [meta7]))

/-! ### Decoding (R235) -/

/-- Syndrome `j` of a word of errors, highest degree first. -/
def syndrome (w : List Nat) (j : Nat) : Nat :=
  let a := gfExp j
  w.foldl (fun s x => gfMul s a ^^^ x) 0

/-- The locator coefficients σ1 to σν for ν errors, or none where they are not determined. -/
def locator (s : Nat → Nat) (v : Nat) : Option (List Nat) :=
  let det2 (a b c d : Nat) : Nat := gfMul a d ^^^ gfMul b c
  let det3 (a b c d e f g h i : Nat) : Nat :=
    gfMul a (det2 e f h i) ^^^ gfMul b (det2 d f g i) ^^^ gfMul c (det2 d e g h)
  match v with
  | 1 => if s 0 = 0 then none else some [gfDiv (s 1) (s 0)]
  | 2 =>
    let d := det2 (s 1) (s 0) (s 2) (s 1)
    if d = 0 then none
    else some [gfDiv (det2 (s 2) (s 0) (s 3) (s 1)) d, gfDiv (det2 (s 1) (s 2) (s 2) (s 3)) d]
  | _ =>
    let d := det3 (s 2) (s 1) (s 0) (s 3) (s 2) (s 1) (s 4) (s 3) (s 2)
    if d = 0 then none
    else some [gfDiv (det3 (s 3) (s 1) (s 0) (s 4) (s 2) (s 1) (s 5) (s 3) (s 2)) d,
               gfDiv (det3 (s 2) (s 3) (s 0) (s 3) (s 4) (s 1) (s 4) (s 5) (s 2)) d,
               gfDiv (det3 (s 2) (s 1) (s 3) (s 3) (s 2) (s 4) (s 4) (s 3) (s 5)) d]

/-- The locator explains every syndrome: each is the recurrence of those before it. -/
def explains (s : Nat → Nat) (sig : List Nat) : Bool :=
  let v := sig.length
  (List.range (7 - v)).all fun j =>
    s (j + v) == gfSum ((List.range v).map fun i => gfMul (sig.getD i 0) (s (j + v - 1 - i)))

/-- The degrees below 77 at which the locator vanishes. -/
def errorDegrees (sig : List Nat) : List Nat :=
  (List.range 77).filter fun d =>
    let x := gfExp d
    sig.foldl (fun a c => gfMul a x ^^^ c) 1 == 0

/-- The error at one of the degrees `ds`. -/
def errorValue (s : Nat → Nat) (ds : List Nat) (d : Nat) : Nat :=
  let x := gfExp d
  let others := (ds.filter (· != d)).map gfExp
  let p := (others.foldl polyRoot [1]).reverse
  let num := gfSum ((List.range p.length).map fun j => gfMul (p.getD j 0) (s j))
  gfDiv num (gfProd (others.map (x ^^^ ·)))

/-- What the decoder says of a word: the errors by degree, or that it cannot be corrected. -/
inductive Verdict where
  | clean
  | corrected (errors : List (Nat × Nat))
  | uncorrectable
  | address (errors : List (Nat × Nat))
  deriving DecidableEq, Repr

/-- Errors of weight `v`, if they explain the syndromes. -/
def solve (s : Nat → Nat) (v : Nat) : Option (List (Nat × Nat)) :=
  match locator s v with
  | none => none
  | some sig =>
    if explains s sig then
      let ds := errorDegrees sig
      if ds.length = v then some (ds.map fun d => (d, errorValue s ds d)) else none
    else none

/-- Decode a word of errors over the 77 symbols, highest degree first (R235). Symbol s_i has degree
71 - i; degrees 72 to 76 are the address. -/
def decodeWord (w : List Nat) : Verdict :=
  if w.all (· == 0) then .clean
  else
    let l := (List.range 7).map (syndrome w)
    let s (j : Nat) : Nat := l.getD j 0
    if l.all (· == 0) then .clean
    else match solve s 1, solve s 2, solve s 3 with
      | some e, _, _ => if e.any (fun x => decide (72 ≤ x.1)) then .address e else .corrected e
      | none, some e, _ => if e.any (fun x => decide (72 ≤ x.1)) then .address e else .corrected e
      | none, none, some e => if e.any (fun x => decide (72 ≤ x.1)) then .address e else .corrected e
      | none, none, none => .uncorrectable

/-- The error word of a stored line and of what happened to it on the way (R233): the data symbols as
read, and the check symbols as they differ from valid ones. -/
def errorWord (data : BitVec 512) (info : BitVec 64) (chk : BitVec 56) : List Nat :=
  List.replicate 5 0 ++ bytesOf 64 data.toNat ++ [info.toNat >>> 56] ++ bytesOf 7 (info.toNat % 2 ^ 56 ^^^ chk.toNat)

/-- Byte 7 of a line's metadata (Table 09-12). -/
def Line.meta7 (l : Line) : Nat := bit l.poison + 2 * bit l.written + 4 * l.rsv.toNat
/-- A line with byte 7 of its metadata changed. -/
def Line.withMeta7 (l : Line) (v : Nat) : Line :=
  { l with poison := v % 2 = 1, written := v / 2 % 2 = 1, rsv := BitVec.ofNat 6 (v / 4) }

/-- A line as read, and the decoder's verdict on it. -/
def Line.read (l : Line) (e : StoredError) : Line × Verdict :=
  let r := ({ l with data := l.data ^^^ e.data }).withMeta7 (l.meta7 ^^^ e.info.toNat >>> 56)
  (r, decodeWord (errorWord e.data e.info l.chk))

/-- Undo the errors found in a line, as it is written back: the reserved bits are 0 (R234). -/
def Line.fix (l : Line) (errors : List (Nat × Nat)) : Line :=
  let l := errors.foldl (fun (l : Line) x =>
    if 72 ≤ x.1 ∨ x.1 < 7 then l
    else
      let i := 71 - x.1
      if i = 64 then l.withMeta7 (l.meta7 ^^^ x.2)
      else { l with data := l.data ^^^ BitVec.ofNat 512 (x.2 <<< (8 * i)) }) l
  { l with chk := 0, rsv := 0 }

/-- The DQ lanes that carry the symbols in error (R233). -/
def laneMap (errors : List (Nat × Nat)) : Nat :=
  errors.foldl (fun m x => if 72 ≤ x.1 then m else m ||| 2 ^ ((71 - x.1) / 3)) 0

/-- The 72 stored bytes of a line at an address: s0 to s63, then metadata bytes 0 to 7 (R250). -/
def Line.raw (l : Line) (addr : Nat) : List Byte :=
  let chk := rsStored addr l.data l.meta7 ^^^ l.chk.toNat
  (bytesOf 64 l.data.toNat ++ bytesOf 7 chk ++ [l.meta7]).map (BitVec.ofNat 8)

/-- The line that 72 raw bytes make at an address. -/
def rawLine (addr : Nat) (bs : List Byte) : Line :=
  let n := bs.map BitVec.toNat
  let l := ({ data := BitVec.ofNat 512 (ofBytes (n.take 64)) } : Line).withMeta7 (n.getD 71 0)
  { l with chk := BitVec.ofNat 56 (ofBytes ((n.drop 64).take 7) ^^^ rsStored addr l.data l.meta7) }

/-- The line that an image with computed check symbols makes, once a mask has been laid over it. -/
def maskedLine (image mask : List Byte) : Line :=
  let n := image.map BitVec.toNat
  let m := mask.map BitVec.toNat
  let d := BitVec.ofNat 512 (ofBytes (m.take 64))
  let l := ({ data := BitVec.ofNat 512 (ofBytes (n.take 64)) ^^^ d } : Line).withMeta7 (n.getD 71 0 ^^^ m.getD 71 0)
  { l with chk := BitVec.ofNat 56 (ofBytes ((m.drop 64).take 7) ^^^ rsDelta d (m.getD 71 0)) }

end Sys2Proof.Machine
end

