-- ==== Sys2Proof/Machine/Memory.lean ====
section
/-!
DEFINITION. LPDDR6 (chapter 09): interleave, channel queues and shares, reads and writes under the line
code, the scrubber, the correctable-error log, page retirement, repair, raw test mode, the memory opcodes
and the MEM window.
-/

namespace Sys2Proof.Machine

/-! ### Local addresses (R228, R229) -/

/-- Lines per channel (Table 09-1). -/
def State.chanLines (s : State) : Nat := match s.variant with | .k1024F => 2 ^ 28 | _ => 2 ^ 26
/-- ca_of (R229). -/
def caOf (la : Nat) : Nat := (la >>> 13) * 256 + la % 256
/-- The local address at a channel address. -/
def laOf (ch ca : Nat) : Nat := (ca / 256) * 8192 + (ch ^^^ fold5 (ca / 256)) * 256 + ca % 256
/-- The 40-bit address value of the line code (R233). -/
def codeAddr (la : Nat) : Nat := channelOf la * 2 ^ 28 + caOf la / 64 % 2 ^ 28
/-- The bank of a channel address (R229). -/
def bankOf (ca : Nat) : Nat := bitsOf ca 14 11 ^^^ bitsOf ca 18 15
/-- The row of a channel that holds an address. -/
def rowOf (la : Nat) : Nat := caOf la / 2048
/-- A local address inside the capacity, at its line (R251). -/
def State.lineLa (s : State) (la : Nat) : Nat := alignDown 6 (min la (s.laCapacity - 64))
/-- The clamp of an LA field at byte 16. -/
def State.laClamp (s : State) (la : Nat) : Option Nat := if s.laCapacity ≤ la then some 16 else none
/-- The base that an area of `size` bytes takes: aligned to 2^`k` and below the reserve (R228). -/
def State.areaBase (s : State) (k size base : Nat) : Nat :=
  let b := alignDown k base
  if b + size ≤ s.laReserve then b else alignDown k (s.laReserve - size)

/-! ### Shares (R231, R232) -/

/-- Lines per 1,024 ns that a stream of RATE `r` reserves (Table 10-3). -/
def streamLines (r : Nat) : Nat := ceilDiv (9 * r) 500 + 2
/-- G, the granted stream reservations in lines per 1,024 ns (R232). -/
def State.granted (s : State) : Nat := s.streamList.foldl (fun n x => n + streamLines x.2.rate) 0
/-- L, the course length in ns. -/
def State.courseLen (s : State) : Nat := 2 ^ s.ftu.lenLog2
/-- K. -/
def State.memK (s : State) : Nat := 546 * s.courseLen / 1024
/-- The DIR count. -/
def State.dirShare (s : State) : Nat := 109 * s.courseLen / 1024
/-- The MSE count. -/
def State.mseShare (s : State) : Nat := ceilDiv (s.granted * s.courseLen) 32768

/-! ### Outcomes of reads (R235, R236, R245, R246) -/

/-- How a read was made: by a user, by a merge, or by the scrubber. -/
abbrev byRead : Nat := 0
abbrev byMerge : Nat := 1
abbrev byScrub : Nat := 2

/-- The lowest spare that is free. -/
def State.freeSpare (s : State) : Option Nat := (List.range 1024).find? fun i => s.retire i = {}
/-- Begin the copy of a page to a spare; `none` where no spare is free, with its record (R248). -/
def State.retireStart (s : State) (page : Nat) (ue : Bool) (hard : List Nat) (tk : Option Ticket) : State × Option Nat :=
  match s.freeSpare with
  | some i => (s.setRetire i { page := page, hold := true, ue := ue, hard := hard, ticket := tk }, some i)
  | none =>
    (({ s with mem := { s.mem with err := s.mem.err ||| 8 } }).record 0x25 (80 + channelOf (page * 4096) / 8) s.now64
      [(1, channelOf (page * 4096)), (4, page)], none)
/-- The page is a spare page. -/
def State.isSpare (s : State) (page : Nat) : Bool := decide (s.sparePage 0 ≤ page)
/-- Automatic retirement of a page, or of the page whose spare it is (R248). -/
def State.autoRetire (s : State) (page : Nat) (ue : Bool) : State :=
  if !s.mem.autoRetire then s
  else if s.isSpare page then
    let e := s.retire (page - s.sparePage 0)
    if e.valid && !e.hold && !s.pageHeld e.page then (s.retireStart e.page ue e.hard none).1 else s
  else if (s.spareOf page).isSome || s.pageHeld page then s
  else (s.retireStart page ue [] none).1

/-- The entry that gives way in a full log: the lowest count, the oldest among equals (R246). -/
def ceVictim (l : List CeEntry) : Option CeEntry :=
  l.foldl (fun m e => match m with
    | none => some e
    | some x => if e.count < x.count ∨ (e.count = x.count ∧ e.at64 < x.at64) then some e else some x) none
/-- The log after a corrected event on a page. -/
def ceLog (l : List CeEntry) (page lanes at64 : Nat) : List CeEntry :=
  if l.any (·.page == page) then
    l.map fun e => if e.page = page then { e with count := satAdd 16 e.count 1, lanes := e.lanes ||| lanes, at64 := at64 } else e
  else
    let l := if l.length < 64 then l else match ceVictim l with | some x => l.erase x | none => l
    l ++ [{ page := page, count := 1, lanes := lanes, at64 := at64 }]

/-- Count one corrected symbol on a lane; a lane that reaches LANE_CE is recorded once per lap (R246). -/
def State.laneError (s : State) (ch lane : Nat) : State :=
  let c := s.chan ch
  let n := tget 0 c.laneCounts lane + 1
  let c := { c with laneCounts := tset 0 c.laneCounts lane n }
  if s.mem.laneCe ≤ n ∧ !c.laneSaid.contains lane then
    let s := s.setChan ch { c with laneSaid := lane :: c.laneSaid, lanes := c.lanes ||| BitVec.ofNat 24 (2 ^ lane) }
    ({ s with mem := { s.mem with err := s.mem.err ||| 4 } }).record 0x23 (80 + ch / 8) s.now64
      [(1, ch), (1, lane), (4, n)]
  else s.setChan ch c

/-- A corrected event on a line (R246). -/
def State.corrected (s : State) (ch phys : Nat) (errors : List (Nat × Nat)) : State :=
  let page := phys / 64
  let lanes := laneMap errors
  let s := s.modChan ch fun x => { x with ce := satAdd 32 x.ce 1, log := ceLog x.log page lanes s.now64 }
  let s := ((s.cntMem (ch / 8) 0xB6).cntMem (ch / 8) 0xB7 errors.length).tally 12
  let s := errors.foldl (fun s x => if 72 ≤ x.1 then s else s.laneError ch ((71 - x.1) / 3)) s
  match (s.chan ch).log.find? fun e => e.page == page with
  | some e =>
    if e.count = s.mem.retireCe then
      let s := { s with mem := { s.mem with err := s.mem.err ||| 2 } }
      (s.record 0x22 (80 + ch / 8) s.now64 [(1, ch), (4, page), (2, e.count), (4, e.lanes)]).autoRetire page false
    else s
  | none => s

/-- An uncorrectable line or an address error (R245). -/
def State.uncorrected (s : State) (ch phys cls found : Nat) (address : Bool) : State :=
  let s := s.modChan ch fun x => if address then { x with addrErr := satAdd 16 x.addrErr 1 } else { x with ue := satAdd 16 x.ue 1 }
  let s := ({ s with mem := { s.mem with ueTotal := satAdd 32 s.mem.ueTotal 1 } }).cntMem (ch / 8) 0xB8
  let s := s.tally 13
  if (s.chan ch).ueRecords < 16 then
    let s := s.modChan ch fun x => { x with ueRecords := x.ueRecords + 1 }
    let s := { s with mem := { s.mem with err := s.mem.err ||| 1 } }
    let s := s.record (if address then 0x21 else 0x20) (80 + ch / 8) s.now64
      [(1, ch), (8, phys * 64), (1, cls), (1, found)]
    if address then s else s.autoRetire (phys / 64) true
  else s

/-- What a decoded read gives its user and leaves in the line (Table 09-4). -/
structure ReadOut where
  st : State
  data : BitVec 512
  poison : Bool

/-- Resolve a read of a line as it stood (Table 09-4); a write since then discards the write-back
(R243). -/
def State.resolveRead (s : State) (ch phys cls found : Nat) (l : Line) (e : StoredError) (stale : Bool) : ReadOut :=
  let (got, v) := l.read e
  match v with
  | .clean =>
    { st := if got.poison then (s.modChan ch fun x => { x with poisonRead := satAdd 32 x.poisonRead 1 }).cntMem (ch / 8) 0xB9 else s
      data := got.data, poison := got.poison }
  | .corrected errors =>
    let good := got.fix errors
    let s := if stale then s else s.setLine phys good
    let s := s.corrected ch phys errors
    { st := if good.poison then (s.modChan ch fun x => { x with poisonRead := satAdd 32 x.poisonRead 1 }).cntMem (ch / 8) 0xB9 else s
      data := good.data, poison := good.poison }
  | .uncorrectable =>
    let s := if stale then s else s.setLine phys { poison := true, written := true }
    { st := s.uncorrected ch phys cls found false, data := 0, poison := true }
  | .address _ =>
    let s := if stale then s else s.setLine phys { poison := true, written := true }
    { st := s.uncorrected ch phys cls found true, data := 0, poison := true }

/-! ### Service (R231, R237) -/

/-- A byte mask as a bit mask. -/
def byteMask (m : BitVec 64) : BitVec 512 :=
  BitVec.ofNat 512 ((List.range 64).foldl (fun n i => n + bit (m.getLsbD i) * 255 * 2 ^ (8 * i)) 0)
/-- Bytes of `b` under the mask, bytes of `a` elsewhere. -/
def overlay (a b : BitVec 512) (m : BitVec 64) : BitVec 512 :=
  if m = BitVec.allOnes 64 then b else (a &&& ~~~(byteMask m)) ||| (b &&& byteMask m)

/-- Write a line, whole or merged (R237), and mark the reads under way that it overtakes. -/
def State.writeLine (s : State) (ch phys cls : Nat) (data : BitVec 512) (mask : BitVec 64) (poison : Bool) : State :=
  let s := s.modChan ch fun x => { x with reading := x.reading.map fun r => if r.phys = phys then { r with stale := true } else r }
  if mask = BitVec.allOnes 64 then s.setLine phys { data := data, poison := poison, written := true }
  else
    let r := s.resolveRead ch phys cls byMerge (s.line phys) {} true
    (r.st.cntMem (ch / 8) 0xBA).setLine phys
      { data := overlay r.data data mask, poison := r.poison || poison, written := true }

/-- Code of a user class's served-lines event. -/
def servedCode (cls : Nat) : Nat := match cls with | 0 => 0xB2 | 1 => 0xB3 | _ => 0xB4
/-- Serve a request: a read is on its way, a write is done. -/
def State.memServe (s : State) (ch : Nat) (r : ChReq) : State :=
  let phys := s.physLine r.line
  let count (x : ChanSt) : ChanSt :=
    match r.cls with
    | 0 => { x with dirUsed := x.dirUsed + 1 }
    | 1 => { x with mseUsed := x.mseUsed + 1 }
    | _ => { x with otherUsed := x.otherUsed + 1 }
  let s := s.modChan ch fun x => count { x with queue := x.queue.erase r }
  let s := (s.cntMem (ch / 8) (servedCode r.cls)).cntMem (ch / 8) (if r.write then 0xB1 else 0xB0)
  if r.write then
    let s := s.writeLine ch phys r.cls r.data r.mask r.poison
    if r.user = .other then s else s.emit (.memAck r.user)
  else
    let m : MemRead := { req := r, phys := phys, line := s.line phys }
    s.modChan ch fun x => { x with reading := x.reading ++ [m] }

/-- Requests that may be served: the first for its line, and its page not held. -/
def State.servable (s : State) : List ChReq → List ChReq → List ChReq
  | _, [] => []
  | seen, r :: rs =>
    let rest := servable s (r :: seen) rs
    if (seen.any fun q => q.line == r.line) || s.pageHeld (r.line / 64) then rest else r :: rest

/-- The request with the earliest stamp, ties by the rotating key (R46, R231). -/
def State.earliest (s : State) (l : List ChReq) : Option ChReq :=
  l.foldl (fun m r => match m with
    | none => some r
    | some x =>
      if r.stamp < x.stamp ∨ (r.stamp = x.stamp ∧ tieKey r.island s.slot 96 < tieKey x.island s.slot 96) then some r
      else some x) none

/-- The channel takes no command now (R227, R249). -/
def State.chanBlocked (s : State) (ch : Nat) : Bool := (s.chan ch).blocked || decide (s.clock < (s.chan ch).blockedUntil)

/-- CHANNEL_SLOT (R231). The scrubber's reads are rows of their own. -/
def State.channelSlot (s : State) (ch : Nat) : State :=
  let c := s.chan ch
  if !s.glb.memSwept then s
  else if s.chanBlocked ch then (if c.queue = [] then s else s.cntMem (ch / 8) 0xBD)
  else
    let q := s.servable [] c.queue
    let note (s : State) : State := if q.any (·.cls == 2) then s.cntMem (ch / 8) 0xBC else s
    match (if c.dirUsed < s.dirShare then q.find? (·.cls == 0) else none) with
    | some r => note (s.memServe ch r)
    | none =>
      match (if c.mseUsed < s.mseShare then q.find? (·.cls == 1) else none) with
      | some r => note (s.memServe ch r)
      | none =>
        match s.earliest q with
        | none => s
        | some r =>
          if c.hot ∧ c.otherTurn then s.modChan ch fun x => { x with otherTurn := false }
          else (s.memServe ch r).modChan ch fun x => { x with otherTurn := true }

/-- MEM_READ_DONE (R236). -/
def State.memReadDone (s : State) (ch : Nat) (e : StoredError) : State :=
  match (s.chan ch).reading with
  | [] => s
  | m :: rest =>
    let s := s.modChan ch fun x => { x with reading := rest }
    let s := s.cntMem (ch / 8) 0xBB ((s.clock - m.req.at16) / 16)
    let r := s.resolveRead ch m.phys m.req.cls byRead m.line e m.stale
    if m.req.user = .other then r.st else r.st.emit (.memData m.req.user r.data r.poison)

/-- A command that takes its place in a line's order: what was queued before it is served first
(R250). -/
def State.flushLine (s : State) (line : Nat) : State :=
  if s.pageHeld (line / 64) then s
  else
    let ch := channelOf (s.physLine line * 64)
    ((s.chan ch).queue.filter (·.line == line)).foldl (fun s r => s.memServe ch r) s

/-- The counts of a course lapse (R231, R245). -/
def State.memBoundary (s : State) : State :=
  let f (_ : Nat) (x : ChanSt) : ChanSt :=
    { x with lastA := (min 65535 x.dirUsed, min 65535 x.mseUsed), lastB := (min 65535 x.otherUsed, min 65535 x.scrubUsed)
             dirUsed := 0, mseUsed := 0, otherUsed := 0, scrubUsed := 0, ueRecords := 0 }
  { s with mem := { s.mem with chans := tmap {} f s.mem.chans } }

/-! ### The scrubber (R242 to R244) -/

/-- The end of a lap: its duration, and the error counts of the lap (R244, R246). -/
def State.lapEnd (s : State) (ch : Nat) : State :=
  s.modChan ch fun x =>
    { x with scrubLap := min (2 ^ 32 - 1) ((s.clock - x.lapStart) / 16000000), scrubPos := 0, lapStart := s.clock
             scrubLate := false, laneCounts := [], laneSaid := []
             log := (x.log.map fun e => { e with count := e.count / 2 }).filter fun e => e.count != 0 }

/-- SCRUB_READ. -/
def State.scrubRead (s : State) (ch : Nat) (e : StoredError) : State :=
  let c := s.chan ch
  if s.glb.memSwept && !s.chanBlocked ch && c.queue == [] && decide (c.lastScrub + ns16 (2 ^ s.mem.rateLog2) ≤ s.clock) then
    let phys := laOf ch (c.scrubPos * 64) / 64
    let s := (s.setChan ch { c with lastScrub := s.clock, scrubPos := c.scrubPos + 1, scrubUsed := c.scrubUsed + 1 }).cntMem
      (ch / 8) 0xB5
    let s := (s.resolveRead ch phys 3 byScrub (s.line phys) e false).st
    if s.chanLines ≤ (s.chan ch).scrubPos then s.lapEnd ch else s
  else s

/-- SCRUB_LATE. -/
def State.scrubLate (s : State) (ch : Nat) : State :=
  let c := s.chan ch
  if s.glb.memSwept && !c.scrubLate && decide (c.lapStart + s.mem.lapAlarm * 3600000 * 16000000 < s.clock) then
    (s.setChan ch { c with scrubLate := true }).record 0x28 (80 + ch / 8) s.now64 [(1, ch), (4, c.scrubPos)]
  else s

/-! ### Temperature, retraining, refresh (R227) -/

/-- MEM_TEMPERATURE_READ. -/
def State.memTemp (s : State) (ch : Nat) (temp : BitVec 8) (rate : BitVec 4) : State :=
  let c := s.chan ch
  let hot := decide (105 ≤ temp.toInt)
  let s := s.setChan ch { c with temp := temp.toNat, refreshRate := rate.toNat, hot := hot }
  if hot && !c.hot then
    ({ s with mem := { s.mem with err := s.mem.err ||| 32 } }).record 0x29 (80 + ch / 8) s.now64 [(1, ch), (1, temp.toNat)]
  else s

/-- MEM_RETRAIN: at most every 256 ms, and 2 us at the most. -/
def State.memRetrain (s : State) (ch : Nat) : State :=
  let c := s.chan ch
  if c.trained && (c.lastRetrain == 0 || decide (c.lastRetrain + ms16 256 ≤ s.clock)) then
    s.setChan ch { c with lastRetrain := s.clock, blockedUntil := s.clock + us16 2 }
  else s

/-- REFRESH. -/
def State.memRefresh (s : State) (ch : Chan) (bank : BitVec 4) : State :=
  if (s.chan ch).trained then
    (s.modChan ch fun x => { x with refreshes := x.refreshes + 1 }).emit (.refreshed ch bank.toNat false)
  else s
/-- REFRESH_MANAGEMENT. -/
def State.memRfm (s : State) (ch : Chan) (bank : BitVec 4) : State :=
  if (s.chan ch).trained then
    ((s.modChan ch fun x => { x with rfm := x.rfm + 1 }).emit (.refreshed ch bank.toNat true)).cntMem (ch / 8) 0xBE
  else s

/-! ### Retirement (R248) -/

/-- What a page's copy has met: the lines copied poisoned, and whether one could not be corrected. -/
structure Copied where
  st : State
  poisoned : Nat := 0
  lost : Bool := false
/-- Copy one line of a page, correcting it on the way (R248). -/
def State.copyLine (x : Copied) (src dst : Nat) : Copied :=
  let s := x.st
  let l := s.line src
  let (got, v) := l.read {}
  let bad : Line := { poison := true, written := true }
  let out := match v with
    | .clean => if got.poison then bad else { got with rsv := 0 }
    | .corrected e => let g := got.fix e; if g.poison then bad else g
    | _ => bad
  let lost := match v with | .clean => false | .corrected _ => false | _ => true
  { st := s.setLine dst out, poisoned := x.poisoned + bit out.poison, lost := x.lost || lost }
/-- Copy a page, line by line. -/
def State.copyPage (s : State) (src dst : Nat) : Copied :=
  (List.range 64).foldl (fun x i => State.copyLine x (src * 64 + i) (dst * 64 + i)) { st := s }

/-- The pages of a row, one per granule (R249). -/
def rowPages (ch row : Nat) : List Nat := (List.range 8).map fun g => laOf ch (row * 2048 + g * 256) / 4096

/-- The command of a repair ends: its record and its completion (R249). -/
def State.repairDoneWith (s : State) (r : Repair) (refused : Bool) : State :=
  let s := { s with mem := { s.mem with repairs := s.mem.repairs.erase r } }
  let s := s.record 0x26 (80 + r.ch / 8) s.now64 [(1, r.ch), (8, r.la), (1, bit r.hard), (1, bit refused)]
  s.complete r.ticket stOk (bit refused)

/-- The pages of a repair have been copied: a soft repair blocks the channel, a hard one is scheduled. -/
def State.repairReady (s : State) (r : Repair) : State :=
  if r.hard then
    let s := r.all.foldl (fun s i => s.modRetire i fun e => { e with hard := if e.hard.contains r.ch then e.hard else e.hard ++ [r.ch] }) s
    ({ s with mem := { s.mem with repairs := s.mem.repairs.erase r } }.complete r.ticket stOk 0).markDirty 0
  else s.modChan r.ch fun x => { x with blocked := true }

/-- A spare has been filled: the repairs that waited for it go on. -/
def State.repairsNote (s : State) (spare : Nat) : State :=
  s.mem.repairs.foldl (fun s r =>
    if r.waiting.contains spare then
      let r' := { r with waiting := r.waiting.erase spare }
      let s := { s with mem := { s.mem with repairs := s.mem.repairs.map fun x => if x = r then r' else x } }
      if r'.waiting = [] then s.repairReady r' else s
    else s) s

/-- RETIREMENT_COMPLETE. -/
def State.retired (s : State) (i : Nat) : State :=
  let e := s.retire i
  if !e.hold then s
  else if e.releasing then
    let s := (s.copyPage (s.sparePage i) e.page).st
    let s := (s.setRetire i {}).markDirty 0
    match e.ticket with | some tk => s.complete tk stOk i | none => s
  else
    let old := s.spareOf e.page
    let x := s.copyPage (match old with | some j => s.sparePage j | none => e.page) (s.sparePage i)
    let s := x.st
    let s := match old with | some j => s.setRetire j {} | none => s
    let s := (s.setRetire i { e with hold := false, valid := true, ticket := none, ue := e.ue || x.lost }).markDirty 0
    let s := (s.record 0x24 (80 + channelOf (e.page * 4096) / 8) s.now64
      [(1, channelOf (e.page * 4096)), (4, e.page), (2, i), (1, x.poisoned)]).tally 14
    let s := match e.ticket with | some tk => s.complete tk stOk i | none => s
    s.repairsNote i

/-- Release a page: its lines are copied back (R248). -/
def State.releaseStart (s : State) (i : Nat) (tk : Option Ticket) : State :=
  s.modRetire i fun e => { e with hold := true, releasing := true, ticket := tk }

/-- REPAIR_DONE (R249). -/
def State.repairDone (s : State) (ch : Nat) (refused : Bool) : State :=
  match s.mem.repairs.find? fun r => r.ch == ch && !r.hard && r.waiting == [] with
  | none => s
  | some r =>
    let s := s.modChan ch fun x => { x with blocked := false, softPpr := if refused then x.softPpr else satAdd 8 x.softPpr 1 }
    let s := s.repairDoneWith r refused
    if refused then s else r.fresh.foldl (fun s i => s.releaseStart i none) s

/-- HARD_REPAIR at start-up (R249, R408). -/
def State.hardRepair (s : State) (ch row : Nat) (refused : Bool) : State :=
  let due := s.mem.retire.filter fun x => x.2.valid && x.2.hard.contains ch && decide (rowOf (x.2.page * 4096) = row)
  if s.mem.listLoaded && s.glb.memTrained && !s.glb.memSwept && due != [] then
    let s := due.foldl (fun s x =>
      let h := x.2.hard.erase ch
      s.setRetire x.1 (if refused = false ∧ h = [] then {} else { x.2 with hard := h })) s
    let s := s.markDirty 0
    let n := s.msc.nor
    let s := if refused then s
      else { s with msc := { s.msc with nor := { n with hardRepairs := tset 0 n.hardRepairs ch (satAdd 8 (tget 0 n.hardRepairs ch) 1) } } }
    s.record 0x26 (80 + ch / 8) s.now64 [(1, ch), (8, laOf ch (row * 2048)), (1, 1), (1, bit refused)]
  else s

/-! ### Opcodes (Table 09-8) -/

/-- MEM_SCRUB_SET. -/
def opMemScrubSet : OpSpec :=
  { code := 0x50
    body := fun _ c s =>
      let (r, c0) := c.ranged 16 1 6 16
      let (a, c1) := c.ranged 17 1 1 255
      .ok { s with mem := { s.mem with rateLog2 := r, lapAlarm := a } } 0 (minClamp c0 c1) }

/-- MEM_RETIRE. A page already retired answers with its spare; a page being copied is busy. -/
def opMemRetire : OpSpec :=
  { code := 0x51
    body := fun tk c s =>
      let la := c.le 16 8
      let page := s.lineLa la / 4096
      let (m, c1) := c.ranged 24 1 0 1
      let cl := minClamp (s.laClamp la) c1
      if s.isSpare page then .bad s stDenied cl
      else if s.pageHeld page then .bad s stBusy cl
      else match s.spareOf page with
        | some i =>
          if m = 0 then .ok s i cl else .later (s.releaseStart i (some { tk with clamp := minClamp tk.clamp cl }))
        | none =>
          if m = 1 then .ok s.useFree (s.freeValue % 2 ^ 32) cl
          else
            let (s', r) := s.retireStart page false [] (some { tk with clamp := minClamp tk.clamp cl })
            match r with
            | some _ => .later s'
            | none => .bad s' stNoResource cl }

/-- MEM_REPAIR. -/
def opMemRepair : OpSpec :=
  { code := 0x52
    body := fun tk c s =>
      let la0 := c.le 16 8
      let la := s.lineLa la0
      let (k, c1) := c.ranged 24 1 0 1
      let cl := minClamp (s.laClamp la0) c1
      let ch := channelOf la
      let pages := rowPages ch (rowOf la)
      let todo := pages.filter fun p => (s.spareOf p).isNone
      let free := ((List.range 1024).filter fun i => s.retire i = {}).length
      if pages.any s.isSpare then .bad s stDenied cl
      else if (pages.any s.pageHeld) || (s.mem.repairs.any fun r => r.ch == ch) then .bad s stBusy cl
      else if free < todo.length then .bad s stNoResource cl
      else
        let old := pages.filterMap s.spareOf
        let (s, fresh) := todo.foldl (fun (x : State × List Nat) p =>
          match x.1.retireStart p false [] none with
          | (s, some i) => (s, x.2 ++ [i])
          | (s, none) => (s, x.2)) (s, [])
        let r : Repair := { ch := ch, row := rowOf la, la := laOf ch (rowOf la * 2048), hard := k == 1, waiting := fresh
                            fresh := fresh, all := old ++ fresh, ticket := { tk with clamp := minClamp tk.clamp cl } }
        let s := { s with mem := { s.mem with repairs := s.mem.repairs ++ [r] } }
        .later (if fresh = [] then s.repairReady r else s) }

/-- MEM_RAW_WRITE. -/
def opMemRawWrite : OpSpec :=
  { code := 0x53
    body := fun _ c s =>
      let la0 := c.le 16 8
      let (m, c1) := c.ranged 40 1 0 1
      let cl := minClamp (s.laClamp la0) c1
      if s.acu.service then .bad s stDenied cl
      else
        let line := s.lineLa la0 / 64
        let s := s.flushLine line
        let phys := s.physLine line
        let image := s.mgrRead (c.le 24 8) 72
        let l := if m = 0 then rawLine (codeAddr (phys * 64)) image else maskedLine image (s.mgrRead (c.le 32 8) 72)
        let ch := channelOf (phys * 64)
        let s := s.modChan ch fun x => { x with reading := x.reading.map fun r => if r.phys = phys then { r with stale := true } else r }
        .ok (s.setLine phys l) 0 cl }

/-- The verdict in the form of MEM_RAW_READ: outcome, symbols in error, lane map. An uncorrectable
word reports 4 symbols (DEDUCED from the case of R250); its lane map is open. -/
def verdictWord (v : Verdict) (free : Nat) : Nat :=
  match v with
  | .clean => 0
  | .corrected e => 1 + 4 * e.length + 2 ^ 8 * laneMap e
  | .uncorrectable => 2 + 4 * 4 + 2 ^ 8 * (free % 2 ^ 24)
  | .address e => 3 + 4 * e.length + 2 ^ 8 * laneMap e

/-- MEM_RAW_READ. -/
def opMemRawRead : OpSpec :=
  { code := 0x54
    body := fun _ c s =>
      let la0 := c.le 16 8
      let cl := s.laClamp la0
      if s.acu.service then .bad s stDenied cl
      else
        let line := s.lineLa la0 / 64
        let s := s.flushLine line
        let phys := s.physLine line
        let l := s.line phys
        let s := s.mgrWrite (c.le 24 8) (l.raw (codeAddr (phys * 64)))
        .ok s.useFree (verdictWord (l.read {}).2 s.freeValue) cl }

/-- MEM_LINE_QUERY: the line is read with the effects of Table 09-4. -/
def opMemLineQuery : OpSpec :=
  { code := 0x55
    body := fun _ c s =>
      let la0 := c.le 16 8
      let line := s.lineLa la0 / 64
      let s := s.flushLine line
      let phys := s.physLine line
      let l := s.line phys
      let ch := channelOf (phys * 64)
      let retired := (s.spareOf (line / 64)).isSome
      let held := s.pageHeld (line / 64)
      let out := match (l.read {}).2 with | .clean => 0 | .corrected _ => 1 | .uncorrectable => 2 | .address _ => 3
      let r := s.resolveRead ch phys 2 byRead l {} false
      .ok r.st (bit r.poison + 2 * bit ((r.st.line phys).written) + 4 * bit retired + 8 * bit held + 2 ^ 8 * ch + 2 ^ 16 * out)
        (s.laClamp la0) }

/-- A log entry as 16 bytes (R251). -/
def CeEntry.bytes (e : CeEntry) : List Byte :=
  leBytes 4 e.page ++ leBytes 2 e.count ++ leBytes 3 e.lanes ++ leBytes 7 (e.at64 / 16)
/-- MEM_CE_LOG. -/
def opMemCeLog : OpSpec :=
  { code := 0x56
    body := fun _ c s =>
      let (ch, cl) := c.ranged 16 1 0 31
      let l := (s.chan ch).log
      .ok (s.mgrWrite (c.le 24 8) (l.flatMap CeEntry.bytes)) l.length cl }

/-- MEM_RSV_QUERY. -/
def opMemRsvQuery : OpSpec :=
  { code := 0x57, body := fun _ _ s => .ok s (s.granted + 2 ^ 16 * (6976 - s.granted)) }

/-- MEM_ERR_CLEAR. -/
def opMemErrClear : OpSpec :=
  { code := 0x58
    body := fun _ _ s =>
      let f (_ : Nat) (x : ChanSt) : ChanSt := { x with lanes := 0, ce := 0, ue := 0, addrErr := 0, poisonRead := 0 }
      .ok { s with mem := { s.mem with err := 0, chans := tmap {} f s.mem.chans } } }

/-! ### The MEM window (Tables 09-9, 09-10) -/

/-- Retirement entries in use. -/
def State.sparesUsed (s : State) : Nat := (s.mem.retire.filter fun x => x.2.valid || x.2.hold).length
/-- The MEM_RETIRE image. -/
def Retire.image (e : Retire) : Nat :=
  e.page % 2 ^ 27 + 2 ^ 27 * bit e.valid + 2 ^ 28 * bit (e.hard != []) + 2 ^ 29 * bit e.ue + 2 ^ 30 * bit e.hold

/-- A register of channel block `ch`. -/
def State.memChanRead (s : State) (ch o : Nat) : Nat :=
  let c := s.chan ch
  match o with
  | 0x00 => bit c.trained + 2 * bit c.hot + 4 * bit c.scrubLate + 8 * bit (s.chanBlocked ch) + 2 ^ 8 * (c.temp % 256)
  | 0x04 => c.ce
  | 0x08 => c.ue + 2 ^ 16 * c.addrErr
  | 0x0C => c.poisonRead
  | 0x10 => c.scrubLap
  | 0x14 => c.scrubPos
  | 0x18 => c.lanes.toNat
  | 0x1C => c.lastA.1 + 2 ^ 16 * c.lastA.2
  | 0x20 => c.lastB.1 + 2 ^ 16 * c.lastB.2
  | 0x24 => c.softPpr + 2 ^ 8 * tget 0 s.msc.nor.hardRepairs ch
  | _ => 0

/-- A read of the MEM window. -/
def State.memRead (s : State) (o : Nat) : Nat :=
  let m := s.mem
  if o < 0x1000 then
    match o with
    | 0x00 => bit m.trained + 2 * bit m.swept + 4 * bit m.listLoaded + 8 * bit (!s.acu.service)
    | 0x04 => bit m.autoRetire + 2 ^ 8 * m.retireCe + 2 ^ 16 * m.laneCe
    | 0x08 => m.rateLog2 + 2 ^ 8 * m.lapAlarm
    | 0x0C => s.laReserve / 2 ^ 20
    | 0x10 => s.memK
    | 0x14 => s.dirShare
    | 0x18 => s.granted + 2 ^ 16 * s.mseShare
    | 0x1C => s.sparesUsed + 2 ^ 16 * (m.retire.filter fun x => x.2.hard != []).length
    | 0x20 => m.err.toNat
    | 0x24 => m.ueTotal
    | _ => 0
  else if o < 0x1800 then s.memChanRead ((o - 0x1000) / 0x40) (o % 0x40)
  else if 0x4000 ≤ o ∧ o < 0x4180 then
    let n := (o - 0x4000) / 4
    tget 0 m.sramC n + 2 ^ 16 * tget 0 m.sramU n
  else if 0x8000 ≤ o ∧ o < 0x9000 then (s.retire ((o - 0x8000) / 4)).image
  else 0

/-- A write to the MEM window. -/
def State.memWrite (s : State) (o v : Nat) : State :=
  if o = 0x04 then
    ({ s with mem := { s.mem with autoRetire := bitOf v 0, retireCe := max 1 (bitsOf v 15 8), laneCe := max 1 (bitsOf v 31 16) } }).regClampIf
      (bitsOf v 15 8 == 0 || bitsOf v 31 16 == 0)
  else if o = 0x08 then s.sidePush 0x50 (sideCmd 0 0 [(16, 1, bitsOf v 4 0), (17, 1, bitsOf v 15 8)])
  else if o = 0x20 then { s with mem := { s.mem with err := s.mem.err &&& ~~~(BitVec.ofNat 6 v) } }
  else if 0x1000 ≤ o ∧ o < 0x1800 ∧ o % 0x40 = 0x18 then
    s.modChan ((o - 0x1000) / 0x40) fun x => { x with lanes := x.lanes &&& ~~~(BitVec.ofNat 24 v) }
  else s

/-! ### The commands -/

/-- MEM_SCRUB_SET (R242). -/
def execMemScrubSet (c : Cmd) (s : State) : Answer := act s (opMemScrubSet.submit c)
/-- MEM_RETIRE (R248). -/
def execMemRetire (c : Cmd) (s : State) : Answer := act s (opMemRetire.submit c)
/-- MEM_REPAIR (R249). -/
def execMemRepair (c : Cmd) (s : State) : Answer := act s (opMemRepair.submit c)
/-- MEM_RAW_WRITE (R250). -/
def execMemRawWrite (c : Cmd) (s : State) : Answer := act s (opMemRawWrite.submit c)
/-- MEM_RAW_READ (R250). -/
def execMemRawRead (c : Cmd) (s : State) : Answer := act s (opMemRawRead.submit c)
/-- MEM_LINE_QUERY (R251). -/
def execMemLineQuery (c : Cmd) (s : State) : Answer := act s (opMemLineQuery.submit c)
/-- MEM_CE_LOG (R251). -/
def execMemCeLog (c : Cmd) (s : State) : Answer := act s (opMemCeLog.submit c)
/-- MEM_RSV_QUERY (R232). -/
def execMemRsvQuery (c : Cmd) (s : State) : Answer := act s (opMemRsvQuery.submit c)
/-- MEM_ERR_CLEAR (R251). -/
def execMemErrClear (c : Cmd) (s : State) : Answer := act s (opMemErrClear.submit c)
/-- CHANNEL_SLOT (R231). -/
def execChannelSlot (ch : Chan) (s : State) : Answer := act s fun s => s.channelSlot ch
/-- MEM_READ_DONE (R236). -/
def execMemReadDone (ch : Chan) (stored : StoredError) (s : State) : Answer := act s fun s => s.memReadDone ch stored
/-- SCRUB_READ (R242). -/
def execScrubRead (ch : Chan) (stored : StoredError) (s : State) : Answer := act s fun s => s.scrubRead ch stored
/-- SCRUB_LATE (R244). -/
def execScrubLate (ch : Chan) (s : State) : Answer := act s fun s => s.scrubLate ch
/-- MEM_TEMPERATURE_READ (R227). -/
def execMemTemperatureRead (ch : Chan) (temp : BitVec 8) (refreshRate : BitVec 4) (s : State) : Answer :=
  act s fun s => s.memTemp ch temp refreshRate
/-- MEM_RETRAIN (R227). -/
def execMemRetrain (ch : Chan) (s : State) : Answer := act s fun s => s.memRetrain ch
/-- REFRESH (R227). -/
def execMemRefresh (ch : Chan) (bank : BitVec 4) (s : State) : Answer := act s fun s => s.memRefresh ch bank
/-- REFRESH_MANAGEMENT (R227). -/
def execRefreshManagement (ch : Chan) (bank : BitVec 4) (s : State) : Answer := act s fun s => s.memRfm ch bank
/-- RETIREMENT_COMPLETE (R248). -/
def execRetirementComplete (spare : Fin 1024) (s : State) : Answer := act s fun s => s.retired spare
/-- REPAIR_DONE (R249). -/
def execRepairDone (ch : Chan) (refused : Bool) (s : State) : Answer := act s fun s => s.repairDone ch refused
/-- HARD_REPAIR (R408). -/
def execHardRepair (ch : Chan) (row : Nat) (refused : Bool) (s : State) : Answer := act s fun s => s.hardRepair ch row refused

end Sys2Proof.Machine
end

