-- ==== Sys2Proof/Machine/HomeBase.lean ====
section
/-!
DEFINITION. What every part of the Coherence Home looks up: placements and the target of a line
(R182 to R185), zero-fill pages (R187, R188), and the end of a move.
-/

namespace Sys2Proof.Machine

/-! ### Placements -/

/-- The placement covers a line. -/
def Placement.covers (p : Placement) (line : Nat) : Bool := decide (p.base ≤ line * 64) && decide (line * 64 < p.base + 2 ^ p.n)
/-- The placement of a line, with its index (R182). -/
def State.placeOf (s : State) (line : Nat) : Option (Nat × Placement) :=
  s.home.places.findSome? fun x => match x.2 with
    | some p => if p.covers line then some (x.1, p) else none
    | none => none
/-- The placement whose range starts at an FMA. -/
def State.placeAtBase (s : State) (base : Nat) : Option (Nat × Placement) :=
  s.home.places.findSome? fun x => match x.2 with
    | some p => if p.base = base then some (x.1, p) else none
    | none => none

/-- The 1 KiB block of the range that holds a line. -/
def Placement.block (p : Placement) (line : Nat) : Nat := (line * 64 - p.base) / 1024
/-- Blocks of the range: as many lines as each slice owns. -/
def Placement.blocks (p : Placement) : Nat := 2 ^ (p.n - 10)
/-- The line of block `i` that slice `k` owns (R136). -/
def Placement.lineAt (p : Placement) (k i : Nat) : Nat :=
  let l0 := (p.base + i * 1024) / 64
  l0 + ((List.range 16).find? fun j => sliceOf ((l0 + j) * 64) == k).getD 0
/-- The line's own address at a target. -/
def Placement.at' (p : Placement) (t : Target) (line : Nat) : Target := { t with base := t.base + (line * 64 - p.base) }

/-- A move of placement `i` holds the line, in flight or waiting for it. -/
def SliceSt.moving (x : SliceSt) (i line : Nat) : Bool :=
  (x.txns.any fun t => t.line == line && t.kind == .move i) || (x.waits.any fun w => w.line == line && w.kind == .move i)
/-- The line has been cut over to the new target (R183, R185). -/
def SliceSt.isCut (x : SliceSt) (i : Nat) (p : Placement) (line : Nat) : Bool :=
  (p.moving || p.split) && decide (p.block line < tget 0 x.cursors i) && !x.skipped.contains (i, p.block line) && !x.moving i line
/-- The target and generation of a line in slice `k` (R182, R184). -/
def State.lineTarget (s : State) (k line : Nat) : Option (Target × Nat) :=
  match s.placeOf line with
  | none => none
  | some (i, p) =>
    if (s.slice k).isCut i p line then some (p.at' p.newTarget line, p.gen)
    else some (p.at' p.target line, if p.moving || p.split then (p.gen + 255) % 256 else p.gen)

/-! ### The end of a move (R183, R185) -/

/-- Lines of placement `i` in flight in all slices. -/
def State.moveFlight (s : State) (i : Nat) : Nat :=
  s.home.slices.foldl (fun n x => n + (x.2.txns.filter (·.kind == .move i)).length
    + (x.2.waits.filter (·.kind == .move i)).length) 0
/-- Every slice has passed the end of the range. -/
def State.movePassed (s : State) (i : Nat) (p : Placement) : Bool :=
  (List.range 16).all fun k => decide (p.blocks ≤ tget 0 (s.slice k).cursors i) && !(s.slice k).skipped.any fun x => x.1 == i
/-- A move that has nothing in flight ends: stopped and split, or complete with the new target. -/
def State.settleMove (s : State) (i : Nat) : State :=
  match s.place i with
  | none => s
  | some p =>
    if !p.moving || s.moveFlight i != 0 then s
    else
      let finish (s : State) (st : Nat) : State :=
        match p.ticket with | some tk => s.complete tk st (p.copied / 16) | none => s
      match p.stopping with
      | some st =>
        finish (s.setPlace i (some { p with moving := false, split := true, stopping := none, ticket := none })) st
      | none =>
        if s.movePassed i p then
          finish (s.setPlace i (some { p with moving := false, split := false, target := p.newTarget, ticket := none })) stOk
        else s
/-- Moves to or from a port that goes down stop at the end of their lines in flight (R185). -/
def State.stopMoves (s : State) (port : Nat) : State :=
  s.home.places.foldl (fun s x =>
    match s.place x.1 with
    | none => s
    | some p =>
      let uses (t : Target) : Bool := !t.pool && t.port == port
      if p.moving && (uses p.target || uses p.newTarget) && p.stopping.isNone then
        (s.setPlace x.1 (some { p with stopping := some stAborted })).settleMove x.1
      else s) s

/-! ### Zero-fill (R187, R188) -/

/-- The first local address of the byte of the bitmap that covers a page, and the bit in it. -/
def Placement.bitAt (p : Placement) (page : Nat) : Nat × Nat :=
  let i := page - p.base / 4096
  (p.bitmap + i / 8, i % 8)
/-- The bitmap bit of a page of a placement. -/
def State.bitmapBit (s : State) (p : Placement) (page : Nat) : Bool :=
  let (la, b) := p.bitAt page
  (s.line (s.physLine (la / 64))).data.getLsbD (8 * (la % 64) + b)
/-- Lines of class DIR that an access to the local line `la` moves on its channel (R19). -/
def State.dirDraw (s : State) (la n : Nat) : State :=
  let ch := channelOf (s.physLine la * 64)
  (s.modChan ch fun x => { x with dirUsed := x.dirUsed + n }).cntMem (ch / 8) 0xB2 n
/-- Set the bitmap bit of a page: the island sets that bit alone. -/
def State.setBitmapBit (s : State) (p : Placement) (page : Nat) : State :=
  let (la, b) := p.bitAt page
  let phys := s.physLine (la / 64)
  let l := s.line phys
  (s.dirDraw (la / 64) 1).writeLine (channelOf (phys * 64)) phys 0 (l.data ||| BitVec.ofNat 512 (2 ^ (8 * (la % 64) + b))) (BitVec.allOnes 64) l.poison
/-- The zeroing entry of a page in slice `k`. -/
def State.zeroEntry (s : State) (k page : Nat) : Option Zeroing := (s.slice k).zeroing.find? fun z => z.page == page
/-- Slice `k` regards the page of a line as written (R188). -/
def State.pageWritten (s : State) (k line : Nat) : Bool :=
  match s.placeOf line with
  | none => true
  | some (_, p) => !p.zeroFill || s.bitmapBit p (line / 64) || (s.zeroEntry k (line / 64)).isSome
/-- The 4 lines of a page that slice `k` owns. -/
def pageLines (k page : Nat) : List Nat := (List.range 64).filterMap fun j =>
  if sliceOf ((page * 64 + j) * 64) = k then some (page * 64 + j) else none

end Sys2Proof.Machine
end

