-- ==== Sys2Proof/Machine/StreamBase.lean ====
section
/-!
DEFINITION. What the engines share of a stream (chapter 10): positions and chunks, records, advice and CONTROL, the checks of
an engine's accesses, drops, and the silt. Stream bytes are counted by position; their contents are not held.
-/

namespace Sys2Proof.Machine

/-! ### Positions (R256, R258) -/

/-- Bytes of a chunk. -/
def Stream.chunk (d : Stream) : Nat := 2 ^ d.chunkLog2
/-- The end of the chunk that is in progress at a position. -/
def Stream.chunkEnd (d : Stream) (p : Nat) : Nat := ceilDiv p d.chunk * d.chunk
/-- Silt occupancy and Z (R272). -/
def Stream.occupancy (d : Stream) : Nat := d.siltTail - d.siltHead
/-- Size of the silt area. -/
def Stream.z (d : Stream) : Nat := 2 ^ d.siltLog2
/-- The pieces of ring `base`, `2^k` bytes, that hold `n` bytes from position `p`: address and length. -/
def ringPieces (base k p n : Nat) : List (Nat × Nat) :=
  let o := p % 2 ^ k
  if o + n ≤ 2 ^ k then [(base + o, n)] else [(base + o, 2 ^ k - o), (base, n - (2 ^ k - o))]
/-- Bytes `n` from position `p` meet one of the ranges. -/
def meets (l : List (Nat × Nat)) (p n : Nat) : Bool := l.any fun w => decide (w.1 < p + n) && decide (p < w.1 + w.2)
/-- Bytes `n` from position `p` enter the engine: the chunks they open carry the T52 stamp of their opening (R256). -/
def Stream.enter (d : Stream) (t52 p n : Nat) : Stream :=
  if n = 0 then d
  else
    let new := (List.range ((p % d.chunk + n + d.chunk - 1) / d.chunk)).map (p / d.chunk + ·)
    { d with chunks := d.chunks ++ (new.filter fun c => !d.chunks.any (·.1 == c)).map fun c => (c, t52) }
/-- Close the chunks whose last byte has left, and forget poison of bytes that are no longer held (R256). -/
def Stream.leave (d : Stream) : Stream :=
  let at' := if d.inbound then d.pos else d.pos - d.unsent
  let ranges := d.inBuffer
  { d with
    chunks := d.chunks.filter fun c => meets ranges (c.1 * d.chunk) d.chunk || (c.1 == at' / d.chunk && at' % d.chunk != 0)
    poisoned := d.poisoned.filter fun w => meets ranges w.1 w.2 }
/-- Change a stream. -/
def State.modS (s : State) (h : Nat) (f : Stream → Stream) : State := s.modStream h fun d => d.map f
/-- The requester index of an engine (Table 08-3). -/
def engineRid (e : Nat) : Nat := 3836 + e
/-- A runway as 32 bits, saturating. -/
def Stream.runway32 (d : Stream) : Nat := match d.runway with | some r => min (2 ^ 32 - 1) r | none => 2 ^ 32 - 1

/-! ### Records, advice and CONTROL (R260, R268, R278) -/

/-- Write a stream's error record and set its flag: at most 4 a course. -/
def State.streamRecord (s : State) (h cause t64 : Nat) (fields : List (Nat × Nat)) (flag : BitVec 5) : State :=
  match s.stream h with
  | none => s
  | some d =>
    if d.records < 4 then
      let s := s.setStream h (some { d with records := d.records + 1 })
      (s.modEngine d.engine fun x => { x with err := x.err ||| flag }).record cause (84 + d.engine) t64 ((2, h) :: fields)
    else s

/-- Supply as a fraction, in bytes per µs: min(RATE, P) (R268). -/
def Stream.supply (d : Stream) : Nat × Nat :=
  let rise := d.rises.foldl (fun n x => n + x.1) 0
  let len := d.rises.foldl (fun n x => n + x.2) 0
  (min (d.rate * len) (1000 * rise), len)
/-- RATE_HINT: RATE, and under advice 1 the supply, or the delivery rate of an inbound stream. -/
def Stream.hint (d : Stream) : Nat :=
  if d.advice = 1 then
    if d.inbound then 1000 * d.rises.foldl (fun n x => n + x.1) 0 / max 1 (d.rises.foldl (fun n x => n + x.2) 0)
    else d.supply.1 / max 1 d.supply.2
  else d.rate
/-- POS of CONTROL (Table 10-2). -/
def Stream.ctlPos (d : Stream) : Nat :=
  match d.advice with
  | 2 => match d.closeAt with | some c => c | none => d.siltTail + d.early.foldl (fun n w => n + w.2.1) 0
  | 3 => d.closeAt.getD d.pos
  | _ => d.pos
/-- Write CONTROL (R261). -/
def State.writeControl (s : State) (h : Nat) : State :=
  match s.stream h with
  | none => s
  | some d =>
    let q := (d.seq + 1) % 2 ^ 32
    (s.setStream h (some { d with seq := q })).emit
      (.streamControl h d.advice q (match d.runway with | some r => min (2 ^ 64 - 1) r | none => 2 ^ 64 - 1) d.hint d.ctlPos s.now64)
/-- The advice changes: an event, and its counts (R268, Table 10-14). -/
def State.setAdvice (s : State) (h a : Nat) : State :=
  match s.stream h with
  | none => s
  | some d =>
    if d.advice = a then s
    else
      let s := s.setStream h (some { d with advice := a })
      let s := s.event 0x60 (84 + d.engine) s.now64 [(2, h), (1, a), (4, d.runway32)]
      match a with
      | 1 => s.cntEngine d.engine 0xC9 (some d.vfi)
      | 2 => (s.cntEngine d.engine 0xCA (some d.vfi)).writeControl h
      | _ => s

/-- The check of an engine's access: at its own station for LPDDR6, at its tile's otherwise (R255, R262). A
rejection is a violation, and a STREAM_DENIED record. -/
def State.streamCheck (s : State) (h : Nat) (d : Stream) (direct : Bool) (kind addr len : Nat) : State × Bool :=
  let island := if direct then 84 + d.engine else engineTile d.engine
  let fma := if direct then s.mse.localBase + addr else addr
  let rid := some (engineRid d.engine)
  let (r, off) := s.check rid kind fma len
  let s := (s.tagLookups island s.clock rid kind fma len).cntStn island 0xA0 (some d.vfi)
  if r = 0 then (s, true)
  else
    let s := s.violation { island := island, rid := rid, port := 0x3FF, ld := 0
                           vfi := (tget {} s.acu.active.req (engineRid d.engine)).vfi, epoch := s.acu.epoch, kind := kind
                           reason := r, fma := fma + off, len := len, t64 := s.now64 }
    (s.streamRecord h 0x30 s.now64 [(1, kind), (8, addr), (1, r)] 1, false)
/-- The check of every piece of a ring. -/
def State.ringCheck (s : State) (h : Nat) (d : Stream) (direct : Bool) (kind base k p n : Nat) : State × Bool :=
  (ringPieces base k p n).foldl (fun x y =>
    if x.2 then x.1.streamCheck h d direct kind y.1 y.2 else x) (s, true)

/-! ### Drops and silt (R270 to R272) -/

/-- Write the DROP record of what has been dropped since the last halt (R272). -/
def State.sayDrop (s : State) (h : Nat) : State :=
  match s.stream h with
  | none => s
  | some d =>
    match d.dropped, d.dropSaid with
    | some (a, t, b, u), false =>
      let s := s.setStream h (some { d with dropSaid := true })
      s.streamRecord h 0x31 (t64Of t) [(8, a), (8, b), (8, t64Of u), (8, a / 2 ^ d.blockLog2), (8, b / 2 ^ d.blockLog2)] 2
    | _, _ => s
/-- `n` bytes from position `p` are lost. -/
def State.loseBytes (s : State) (h p n : Nat) : State :=
  match s.stream h with
  | none => s
  | some d =>
    if n = 0 then s
    else
      let span := match d.dropped with
        | some (a, t, _, _) => (a, t, p + n - 1, s.clock)
        | none => (p, s.clock, p + n - 1, s.clock)
      let s := s.setStream h (some { d with lost := satAdd 64 d.lost n, dropped := some span, dropSaid := d.dropSaid && d.dropped.isSome })
      (s.cntEngine d.engine 0xC5 (some d.vfi) n).tally 19 n
/-- Channel requests of class MSE for `n` bytes at position `p` of a ring in local memory (R15, R19, R231). What a silt write
stores is the drive's data, which is open here (log entry 91). -/
def State.ringLines (s : State) (e base log2 p n : Nat) (write poison : Bool) : State :=
  (List.range ((p % 64 + n + 63) / 64)).foldl (fun s j =>
    let at' := p / 64 * 64 + 64 * j
    let lo := max p at' - at'
    let hi := min (p + n) (at' + 64) - at'
    let r : ChReq := { cls := 1, stamp := s.clock, island := 84 + e, line := (base + at' % 2 ^ log2) / 64, write := write, poison := poison
                       mask := BitVec.ofNat 64 (2 ^ hi - 2 ^ lo) }
    if write then s.useFree.memSubmit { r with data := BitVec.ofNat 512 s.freeValue } else s.memSubmit r) s
/-- Put `n` bytes at `p` into the silt; what does not fit is dropped (R271, R272). -/
def State.intoSilt (s : State) (h p n : Nat) (poison : Bool) : State :=
  match s.stream h with
  | none => s
  | some d =>
    let (s, okay) := if d.siltDenied then (s, false) else s.ringCheck h d true 1 d.silt d.siltLog2 p n
    let s := if okay then s else s.modS h fun d => { d with siltDenied := true }
    let fit := if okay then min n (d.z - d.occupancy) else 0
    let s := s.modS h fun d =>
      { d with inSilt := d.inSilt || decide (0 < fit), siltHead := if d.occupancy = 0 then p else d.siltHead, siltTail := p + fit }
    let s := if fit = 0 then s
      else
        ((s.ringLines d.engine d.silt d.siltLog2 p fit true poison).cntEngine d.engine 0xC3 (some d.vfi) fit).emit (.siltWrite h p fit poison)
    if fit = n then s else (s.loseBytes h (p + fit) (n - fit)).setAdvice h 2
/-- The deliveries that a port's loss leaves incomplete: their chunk is rewritten by way of silt, ahead of what lies there
(R270). What the engine may not write there is dropped (Table 10-7). -/
def State.rewrite (s : State) (h : Nat) : State :=
  match s.stream h with
  | none => s
  | some d =>
    match d.writes with
    | [] => s
    | w :: _ =>
      let p := max d.prod (alignDown d.chunkLog2 w.1)
      let top := d.writes.foldl (fun m x => max m (x.1 + x.2)) 0
      let bad := meets d.poisoned p (top - p)
      let (s, okay) := if d.siltDenied then (s, false) else s.ringCheck h d true 1 d.silt d.siltLog2 p (top - p)
      if okay then
        let s := s.modS h fun d =>
          { d with writes := [], ack := p, siltHead := p, siltTail := if d.occupancy = 0 then top else d.siltTail, inSilt := true }.leave
        ((s.ringLines d.engine d.silt d.siltLog2 p (top - p) true bad).cntEngine d.engine 0xC3 (some d.vfi) (top - p)).emit
          (.siltWrite h p (top - p) bad)
      else
        let s := s.modS h fun d => { d with writes := [], ack := p, siltDenied := true }.leave
        (s.loseBytes h p (top - p)).setAdvice h 2

end Sys2Proof.Machine
end

