-- ==== Sys2Proof/Machine/Switch.lean ====
section
/-!
DEFINITION. The Switch Core (chapter 05): cells and places, the cyclic pattern, resequencing,
ageing, the audit, egress scheduling and the SWC sub-window. Answers for lost ports (Table 04-4)
stand here because every queue gives them.
-/

namespace Sys2Proof.Machine

/-! ### Messages -/

/-- Quarters of 16 bytes that a message occupies: a header, and its data. -/
def msgQuarters (m : Msg) : Nat :=
  match m.kind with
  | .memWr | .memWrPtl | .drs => 5
  | .ioMemWr | .ioAtomic | .ioCplOk => 1 + ceilDiv m.len 16
  | _ => 1
/-- Cells of a message (R101). -/
def msgCells (m : Msg) : Nat := ceilDiv (msgQuarters m) 4
/-- TYPE of a message's cells (Table 05-2). -/
def msgType (m : Msg) : Nat :=
  if m.made.isSome then 8 else match m.kind with
  | .memRd | .memRdData | .memRdTEE | .memInv | .memInvNT | .memSpecRd | .memClnEvct => 1
  | .memWr | .memWrPtl => 2
  | .ndrCmp | .ndrCmpE | .ndrCmpS | .biConflictAck => 3
  | .drs => 4
  | .biSnpInv | .biSnpData | .biSnpCur => 5
  | .biRspI | .biRspS | .biRspE | .biConflict => 6
  | .cache => 7
  | _ => 0
/-- A CXL.mem request of the master (M2S Req or RwD). -/
def isM2S (m : Msg) : Bool := msgType m == 1 || msgType m == 2
/-- CLASS of a message's cells (Table 05-2); `slice`: to or from a home slice's internal port, `issued`: an engine
issues it. -/
def msgClass (m : Msg) (slice issued : Bool) : Nat :=
  match msgType m with
  | 5 | 6 => 1
  | 1 | 2 | 3 | 4 => if slice then 1 else 0
  | 8 => match m.made with | some c => c.val | none => 0
  | 0 => if issued then 2 else 0
  | _ => 0
/-- The kind of access that a message's check needs (Table 08-2); `none`: not checked. -/
def accessKind (m : Msg) : Option Nat :=
  match m.kind with
  | .memRd | .memRdData | .memRdTEE | .memSpecRd => some 0
  | .memInv | .memInvNT | .memWr | .memWrPtl => some 1
  | .ioMemRd => some (if m.toHost then 3 else 0)
  | .ioMemWr => some (if m.toHost then 3 else 1)
  | .ioAtomic => some (if m.toHost then 3 else 2)
  | _ => none
/-- The message was counted by a station (R217). -/
def isCounted (m : Msg) : Bool := (accessKind m).isSome && !m.home
/-- The full stamp of a message (R27). -/
def State.stampOf (s : State) (m : Msg) : Nat := restoreT52 s.clock m.stamp.toNat
/-- The epoch of a message. -/
def State.epochFor (s : State) (m : Msg) : Nat := s.epochOf (s.stampOf m)
/-- Settle a message's access at an island (R216). -/
def State.settleMsg (s : State) (island : Nat) (m : Msg) : State :=
  if isCounted m then s.settle island (s.epochFor m) else s

/-- The responses that Table 04-4 gives for a request whose port is lost, or Table 08-8 for one
rejected; `ca` chooses CA for CXL.io completions. -/
def lostReplies (m : Msg) (ca : Bool) : List Msg :=
  let r (k : MsgKind) : Msg := { kind := k, addr := m.addr, tag := m.tag, ld := m.ld, dst := m.reqPort, vfi := m.vfi, pid := m.pid }
  match m.kind with
  | .memRd | .memRdData | .memRdTEE => List.replicate (max 1 (m.len / 64)) { r .drs with poison := true, mv := .inv }
  | .memWr | .memWrPtl | .memInv | .memInvNT | .memClnEvct => [r .ndrCmp]
  | .ioMemRd | .ioAtomic | .ioSpace | .ioCfg | .ioForeign => [r (if ca then .ioCplCa else .ioCplUr)]
  | _ => []
/-- A request that expects a response. -/
def isNonPosted (m : Msg) : Bool := (lostReplies m false) != []

/-- The way of a module's response to whoever sent the request. -/
def replyTo (m r : Msg) : Output :=
  if m.home then .toHome (Fin.ofNat 16 (sliceOf m.addr.toNat)) r
  else if m.engine then .toEngine m.reqPort.toNat r
  else .reply m.reqPort.toNat r
/-! ### Cells -/

/-- Bits [119:0] of the cell header (Table 05-1). -/
def Cell.headerLow (c : Cell) : BitVec 120 :=
  BitVec.ofNat 120 (c.dstTile % 64 + 2 ^ 6 * (c.dstOff % 32) + 2 ^ 11 * (c.srcTile % 64) + 2 ^ 17 * (c.srcOff % 32)
    + 2 ^ 22 * (c.cls % 4) + 2 ^ 24 * (c.vfi % 256) + 2 ^ 32 * (c.stamp % 2 ^ 52) + 2 ^ 84 * (c.seq % 2 ^ 16)
    + 2 ^ 100 * (c.lgen % 256) + 2 ^ 108 * (c.poison % 16) + 2 ^ 112 * (c.type % 16) + 2 ^ 116 * bit c.first
    + 2 ^ 117 * bit c.last + 2 ^ 118 * (c.quarters % 4))
/-- The 16-byte header of a cell: bit 0 is bit 0 of byte 0, and HDR_ECC stands in [127:120] (R102). -/
def Cell.header (c : Cell) : BitVec 128 := Config.headerEcc c.headerLow ++ c.headerLow
/-- What names a cell in a request: its place, its stamp and how much of its message it begins. -/
def Cell.name (c : Cell) : Nat × Nat × Nat := (c.place, c.stamp, c.left)

/-! ### Places (R105, R127) -/

/-- The lowest index from `i` that a rising table does not list. -/
def firstFree {α : Type} : Nat → Tbl α → Nat
  | i, [] => i
  | i, (j, _) :: t => if j = i then firstFree (i + 1) t else i
/-- Take a place of tile `t`. One is always free: R106, R109, R112 and R115 bound what each area of Table 05-3 holds. -/
def TileSwc.take (x : TileSwc) (now : Nat) : TileSwc × Nat :=
  let p := firstFree 0 x.places
  ({ x with places := tset none x.places p (some { held := true, takenAt := now }),
            freeCount := x.freeCount - 1, heldCount := x.heldCount + 1 }, p)
/-- Free a place. -/
def TileSwc.free (x : TileSwc) (p : Nat) : TileSwc :=
  match tget none x.places p with
  | none => x
  | some q =>
    { x with places := tset none x.places p none, freeCount := x.freeCount + 1,
             heldCount := x.heldCount - bit q.held, quarCount := x.quarCount - bit (!q.held) }
/-- The place is in QUARANTINE. -/
def TileSwc.quarantined (x : TileSwc) (p : Nat) : Bool :=
  match tget none x.places p with | some q => !q.held | none => false

/-- Cells of one message. -/
def Cell.same (a b : Cell) : Bool :=
  a.srcTile == b.srcTile && a.srcOff == b.srcOff && a.stamp == b.stamp && a.cls == b.cls && a.dstOff == b.dstOff
    && a.dstTile == b.dstTile && a.msg.tag == b.msg.tag

/-- The tile has an internal port (R14, R15). -/
def State.hasInternal (s : State) (t : Nat) : Bool :=
  (List.range 16).any (fun n => s.sliceTile n == t) || (s.isF && (List.range 4).any (fun e => engineTile e == t))
/-- The home slice at a tile, if any. -/
def State.sliceAt (s : State) (t : Nat) : Option Nat := (List.range 16).find? fun n => s.sliceTile n == t

/-! ### Stops (R112) -/

/-- Egress pool places of a tile. -/
def TileSwc.egPool (x : TileSwc) : Nat := 15744 - x.inCells
/-- IN_CAP of a block, in units of 16 cells: no larger than the pool in effect (Table 05-9). -/
def TileSwc.inCapOf (x : TileSwc) (i : Nat) : Nat := min (tget {} x.caps i).inCap (x.inCells / 16)
/-- EG_CAP of a block, likewise. -/
def TileSwc.egCapOf (x : TileSwc) (i : Nat) : Nat := min (tget {} x.caps i).egCap (x.egPool / 16)
/-- A port's cells in the egress pool. -/
def TileSwc.egCells (x : TileSwc) (off : Nat) : Nat := (x.egress.filter (·.dstOff == off)).length
/-- A port's cells of one class in the egress pool. -/
def TileSwc.egClass (x : TileSwc) (off cls : Nat) : Nat :=
  (x.egress.filter fun c => c.dstOff == off && c.cls == cls).length
/-- The port takes traffic: it is UP with active bindings, or it is the internal port (R88). -/
def State.portOpen (s : State) (t off : Nat) : Bool :=
  if off = 16 then s.hasInternal t else (s.port (16 * t + off)).state == .up && (s.port (16 * t + off)).active

/-- The stop state of a port after a change (Table 05-4). -/
def State.restopPort (s : State) (t off : Nat) : State :=
  let x := s.swcTile t
  let c := tget {} x.caps off
  let free := x.egPool - x.egress.length
  let shut := !s.portOpen t off
  let cap := 16 * x.egCapOf off
  let n := x.egCells off
  let k (cls : Nat) := x.egClass off cls
  let c := { c with
    stopN := shut || (if c.stopN then !decide (n < cap - 512) else decide (cap - 256 ≤ n))
    stopC := shut || (if c.stopC then !decide (k 1 < 384 ∧ 768 ≤ free) else decide (512 ≤ k 1 ∨ free < 512))
    stopR := shut || (if c.stopR then !decide (k 2 < 384 ∧ 512 ≤ free) else decide (512 ≤ k 2 ∨ free < 256)) }
  s.setSwcTile t { x with caps := tset {} x.caps off c }
/-- The stop states of a tile after the cells of one port have changed: where the pool's free places are near a
threshold, or a stop stands, every port's (Table 05-4). -/
def State.restop (s : State) (t off : Nat) : State :=
  let x := s.swcTile t
  if x.egPool - x.egress.length < 1024 || x.caps.any (fun c => c.2.stopC || c.2.stopR) then
    (List.range 17).foldl (fun s o => s.restopPort t o) s
  else s.restopPort t off
/-- The class of a port is stopped. -/
def State.stopped (s : State) (t off cls : Nat) : Bool :=
  let c := tget {} (s.swcTile t).caps off
  !s.portOpen t off || (match cls with | 0 => c.stopN | 1 => c.stopC | _ => c.stopR)

/-! ### Buffer quotas (R290) -/

/-- Cells of an instance in a tile's ingress and egress pools. -/
def TileSwc.charged (x : TileSwc) (vfi : Nat) : Nat :=
  (x.voq.filter (·.vfi == vfi)).length + (x.egress.filter (·.vfi == vfi)).length
/-- An instance's cells in tile `t` have changed, or its quota has. -/
def State.noteQuota (s : State) (t vfi : Nat) : State :=
  let q := (s.inst vfi).bufQuota
  let x := s.swcTile t
  if x.full.contains vfi then
    if q = 0 ∨ x.charged vfi ≤ 16 * q - 64 then s.setSwcTile t { x with full := x.full.erase vfi } else s
  else if q ≠ 0 ∧ 16 * q ≤ x.charged vfi then s.setSwcTile t { x with full := vfi :: x.full }
  else s

/-! ### Into the core (R103, R106) -/

/-- The generation that ingress writes into LGEN (R122). -/
def State.heldGen (s : State) (src t off : Nat) : Nat :=
  if off = 16 then 0
  else match (s.swcTile src).known.find? fun x => x.1 == 16 * t + off with
    | some x => x.2.2 % 256
    | none => (s.port (16 * t + off)).gen % 256

/-- A tile knows a port to be UP (R122, R123). -/
def State.knownUp (s : State) (t q : Nat) : Bool :=
  match (s.swcTile t).known.find? fun x => x.1 == q with
  | some x => x.2.1
  | none => (s.port q).state == .up

/-- Places of the ingress pool that cells of tile `t` hold: those queued, and those that still cross to an
intermediate tile (R105). -/
def State.inHeld (s : State) (t : Nat) : Nat :=
  (s.swcTile t).voq.length + (s.swc.flights.filter fun f => !f.stage2 && f.src == t).length
/-- The same of one port of the tile. -/
def State.inHeldOf (s : State) (t off : Nat) : Nat :=
  ((s.swcTile t).voq.filter (·.srcOff == off)).length
    + (s.swc.flights.filter fun f => !f.stage2 && f.src == t && f.cell.srcOff == off).length
/-- A port of the tile has reached a limit of the ingress pool: its IN_CAP, or the pool, of which 512 places are held
for the internal port where the tile has one (R105, R106). -/
def State.poolShut (s : State) (t off : Nat) : Bool :=
  let x := s.swcTile t
  decide (16 * x.inCapOf off ≤ s.inHeldOf t off) || decide (x.inCells ≤ s.inHeld t)
    || (off != 16 && s.hasInternal t && decide (x.inCells - 512 ≤ s.inHeld t - s.inHeldOf t 16))
/-- The bindings of a port's block. -/
def State.bindingsOf (s : State) (p : Nat) : List Binding := (List.range 17).filterMap fun i => s.binding (17 * p + i)
/-- Port Logic withholds link credits from a port (R106, R290). -/
def State.creditsShut (s : State) (p : Nat) : Bool :=
  s.poolShut (p / 16) (p % 16) || (s.bindingsOf p).any fun b => (s.swcTile (p / 16)).full.contains b.vfi

/-- A cell is formed at ingress: it takes a place and its queue's end. -/
def State.queueCell (s : State) (src : Nat) (c : Cell) : State :=
  let (x, p) := (s.swcTile src).take s.ft
  s.setSwcTile src { x with voq := x.voq ++ [{ c with place := p, lgen := s.heldGen src c.dstTile c.dstOff }] }

/-- Slots of the port's open CXL.mem message that are still to come when message `m` enters the core (R81). -/
def State.slotsToCome (s : State) (src srcOff : Nat) (m : Msg) : Nat :=
  if srcOff = 16 then 0
  else match (s.port (16 * src + srcOff)).openMsg with
    | some o => if o.stamp = m.stamp.toNat ∧ 1 ≤ msgType m ∧ msgType m ≤ 6 then min o.slots (msgCells m - 1) else 0
    | none => 0

/-- Form the cells of a message and queue them at ingress (R101 to R106); those of slots that have not arrived wait
for their flits (R81). -/
def State.intoCore (s : State) (src srcOff dst dstOff : Nat) (m : Msg) (slice : Bool) : State :=
  let n := msgCells m
  let q := msgQuarters m
  let cell (i : Nat) : Cell :=
    { dstTile := dst, dstOff := dstOff, srcTile := src, srcOff := srcOff
      cls := msgClass m slice (m.engine && srcOff == 16), vfi := m.vfi.toNat, stamp := m.stamp.toNat, seq := 0, lgen := 0
      poison := if m.poison && decide (0 < i) then 15 else 0, type := msgType m, first := i == 0
      last := i + 1 == n, quarters := min 4 (q - 4 * i) - 1, msg := m, left := n - i, place := 0 }
  let wait := s.slotsToCome src srcOff m
  let s := (List.range (n - wait)).foldl (fun s i => s.queueCell src (cell i)) s
  let s := if wait = 0 then s else s.modPort (16 * src + srcOff) fun x =>
    { x with openMsg := x.openMsg.map fun o => { o with slots := wait, rest := (List.range wait).map fun i => cell (n - wait + i) } }
  s.noteQuota src m.vfi.toNat

/-! ### Answers as for a lost port (Table 04-4) -/

/-- Tile and offset at which whoever sent a request takes its response. -/
def State.requesterAt (s : State) (m : Msg) : Nat × Nat :=
  if m.home then (s.sliceTile (sliceOf m.addr.toNat), 16)
  else if m.engine then (engineTile m.reqPort.toNat, 16)
  else (m.reqPort.toNat / 16, m.reqPort.toNat % 16)
/-- A response that the module forms in tile `tile`: handed over there where the requester's port lies in that tile,
else through the core as a cell of TYPE 8 in the request's class, from the offset of the port it stands for (R86, R104). -/
def State.sendMade (s : State) (tile : Nat) (m : Msg) (cls : Nat) (r : Msg) : State :=
  let (t, off) := s.requesterAt m
  if t = tile then s.emit (replyTo m r)
  else if off ≠ 16 ∧ s.knownUp tile (16 * t + off) = false then s
  else s.intoCore tile (m.dst.toNat % 16) t off
    { r with made := some (Fin.ofNat 3 cls), stamp := BitVec.ofNat 52 s.t52, reqPort := m.reqPort, home := m.home, engine := m.engine } false
/-- Answer a request as for a lost port (Table 04-4). `counted`: a station counts its access, which settles in the tile
that answers; `cls`: the class of the request. -/
def State.answerLost (s : State) (tile : Nat) (m : Msg) (ca : Bool) (code : Nat) (counted : Bool := true)
    (cls : Nat := msgClass m m.home m.engine) : State :=
  let rs := lostReplies m ca
  let s := rs.foldl (fun s r => s.sendMade tile m cls r) s
  let s := if rs = [] then s else s.cntTile tile code (some m.vfi.toNat) none rs.length
  if counted then s.settleMsg tile m else s

/-- Answer a request for the port `lost` that is down (R86, R123), with its records (R440); the
responses count in PRT_NP_SYNTH of port `cnt`. -/
def State.answerDown (s : State) (tile lost cnt : Nat) (m : Msg) (code : Nat) (counted : Bool := true)
    (cls : Nat := msgClass m m.home m.engine) : State :=
  let p := s.port lost
  let s := s.answerLost tile m p.cfg.dpcCpl code counted cls
  let n := (lostReplies m false).length
  let s := if n = 0 then s else s.modPort cnt fun p => { p with npSynth := satAdd 32 p.npSynth n }
  match m.kind with
  | .memRd | .memRdData | .memRdTEE => s.record 0x41 tile s.now64 [(2, lost), (4, p.gen), (8, m.addr.toNat)]
  | .memWr | .memWrPtl => s.record 0x42 tile s.now64 [(2, lost), (4, p.gen), (8, m.addr.toNat)]
  | _ => s
/-- Generated completions of a lost egress port carry CA (Table 04-4, DPC_CPL). -/
def State.cplCa (s : State) (t off : Nat) : Bool := off != 16 && (s.port (16 * t + off)).cfg.dpcCpl

/-! ### Out of the core (R113 to R118, R123, R124) -/

/-- Discard a cell from tile `t`: its place goes back to the free list. -/
def State.dropCell (s : State) (t : Nat) (c : Cell) : State :=
  (s.modSwcTile t fun x => x.free c.place).noteQuota t c.vfi

/-! ### Home allowance (R138 to R140) -/

/-- The allowance in effect at a port: 0 while its host is CLEANING (R161). -/
def State.allowance (s : State) (p : Nat) : Nat :=
  if s.home.hosts.any fun x => x.2.valid && !x.2.remote && x.2.who == p && x.2.pending == 15 then 0 else (s.port p).allow
/-- The message is a writeback that a snoop asked for, so it needs no allowance (R140). -/
def State.snoopOwed (s : State) (p : Nat) (m : Msg) : Bool :=
  msgType m == 2 && s.home.owed.any fun o => o.1 == p && o.2.1 == m.pid.toNat && o.2.2 == m.addr.toNat / 64
/-- The message may enter the core now. -/
def State.mayEnter (s : State) (p : Nat) (m : Msg) : Bool :=
  s.snoopOwed p m || decide (tget 0 s.home.counts (16 * p + sliceOf m.addr.toNat) < s.allowance p)
/-- A request for a home slice enters the ingress pool. -/
def State.enterHome (s : State) (p : Nat) (m : Msg) : State :=
  let k := sliceOf m.addr.toNat
  let free := s.snoopOwed p m
  let s := if free then s
    else { s with home := { s.home with counts := tset 0 s.home.counts (16 * p + k) (tget 0 s.home.counts (16 * p + k) + 1) } }
  s.intoCore (p / 16) (p % 16) (s.sliceTile k) 16 { m with noAllow := free } true
/-- Admit the held messages that may enter: each channel in order, a snooped writeback out of turn. -/
def State.admitHeld (s : State) (p : Nat) : State :=
  let step (x : State × List Nat × List Msg) (m : Msg) : State × List Nat × List Msg :=
    let (s, stopped, kept) := x
    if (!stopped.contains (msgType m) && s.mayEnter p m) || s.snoopOwed p m then (s.enterHome p m, stopped, kept)
    else (s, msgType m :: stopped, kept ++ [m])
  let (s', _, kept) := (s.port p).heldMsgs.foldl step (s, [], [])
  s'.modPort p fun x => { x with heldMsgs := kept }

/-- A message that the core lost is open at no slice: the count of its port, or of its engine, falls (R138, R139), unless the
loss of its host has set it to 0 already (R159). -/
def State.uncount (s : State) (c : Cell) : State :=
  let m := c.msg
  match if c.dstOff = 16 ∧ isM2S m = true ∧ m.home = false then s.sliceAt c.dstTile else none with
  | none => s
  | some k =>
    let p := if m.engine then 1024 + m.reqPort.toNat else m.reqPort.toNat
    if !m.engine && (m.noAllow || decide (s.stampOf m < tget 0 s.home.lostAt p)) then s
    else
      ({ s with home := { s.home with counts := tset 0 s.home.counts (16 * p + k) (tget 0 s.home.counts (16 * p + k) - 1) } }).admitHeld
        m.reqPort.toNat
/-- Answer the request of a lost message in its own class, at the tile where it is lost (Table 04-4). -/
def State.answerCell (s : State) (t : Nat) (c : Cell) (ca : Bool) : State :=
  (s.answerLost t c.msg ca 0x4B true c.cls).uncount c

/-- What happens when a message has left its egress port: engines and slices receive it; a posted
write settles; a request is already in the tracker (R87, R216). -/
def State.delivered (s : State) (t off : Nat) (m : Msg) : State :=
  if off = 16 then
    match s.sliceAt t with
    | some n => s.emit (.toHome (Fin.ofNat 16 n) m)
    | none => s.emit (.toEngine ((t - 10) / 16) m)
  else
    let p := Fin.ofNat 1024 (16 * t + off)
    let s := (s.emit (.wire p m)).cntTile t 0x11 (some m.vfi.toNat) (some off)
    match m.kind with
    | .ioMemWr => s.settleMsg t m
    | .ioMemRd | .ioAtomic => if (s.port (16 * t + off)).cfg.role = 1 then s.settleMsg t m else s
    | .biSnpInv | .biSnpData | .biSnpCur =>
      ({ s with home := { s.home with owed := s.home.owed ++ [(16 * t + off, m.pid.toNat, m.addr.toNat / 64)] } }).admitHeld
        (16 * t + off)
    | _ => s

/-- A cell of a message whose head has left is sent as it arrives (R118). -/
def State.sendOpen (s : State) (t : Nat) (o : OpenOut) (c : Cell) : State :=
  let s := s.dropCell t c
  let s := if c.poison ≠ 0 then s.cntTile t 0x4C (some c.vfi) (some c.dstOff) else s
  let o := { o with left := o.left - 1, poison := o.poison || decide (c.poison ≠ 0) }
  if o.left = 0 then
    (s.modSwcTile t fun x => { x with openOut := tset none x.openOut c.dstOff none }).delivered t c.dstOff
      { o.cell.msg with poison := o.cell.msg.poison || o.poison }
  else s.modSwcTile t fun x => { x with openOut := tset none x.openOut c.dstOff (some o) }

/-- Which of two cells from different ingress tiles that become ready in one slot enters first: the earlier stamp, then
the rotating key over ingress tiles (R114, R46). -/
def State.readyFirst (s : State) (a b : Cell) : Bool :=
  let age (c : Cell) : Nat := s.clock - restoreT52 s.clock c.stamp
  decide (age b < age a) || (age a == age b && decide (tieKey a.srcTile s.slot 64 < tieKey b.srcTile s.slot 64))
/-- Put a cell into the egress queues, given from the back: ahead of the cells of other ingress tiles that entered in
this slot and stand after it (R114). -/
def State.placeBack (s : State) (c : Cell) : List Cell → List Cell
  | [] => [c]
  | d :: ds =>
    if d.slotIn = c.slotIn ∧ d.srcTile ≠ c.srcTile ∧ s.readyFirst c d = true then d :: s.placeBack c ds else c :: d :: ds
/-- A cell enters its egress queue. -/
def State.queueEgress (s : State) (t : Nat) (c : Cell) : State :=
  let c := { c with slotIn := s.slot }
  let s := s.modSwcTile t fun x => { x with egress := (s.placeBack c x.egress.reverse).reverse }
  ((s.cntTile t 0x42 (some c.vfi) (some c.dstOff)).restop t c.dstOff).noteQuota t c.vfi

/-- A cell leaves the resequencer for its egress queue (R114), unless its generation is stale
(R123), or its message has lost its head (R116). -/
def State.enterEgress (s : State) (t : Nat) (c : Cell) : State :=
  let cur := if c.dstOff = 16 then 0 else (s.port (16 * t + c.dstOff)).gen % 256
  if c.lgen ≠ cur then
    let s := (s.dropCell t c).modSwcTile t fun x => { x with genDiscard := satAdd 32 x.genDiscard 1 }
    let s := s.cntTile t 0x4A (some c.vfi) (some c.dstOff)
    if c.first then s.answerDown t (16 * t + c.dstOff) (16 * t + c.dstOff) c.msg 0x4B true c.cls else s
  else
    let x := s.swcTile t
    match tget none x.openOut c.dstOff with
    | some o =>
      if o.cell.same c then s.sendOpen t o c
      else if c.first || x.egress.any (·.same c) then
        s.queueEgress t c
      else s.dropCell t c
    | none =>
      if c.first || x.egress.any (·.same c) then
        s.queueEgress t c
      else s.dropCell t c

/-- Release every held cell that is in order, in SEQ order (R114). -/
def State.release : Nat → State → (t src : Nat) → State
  | 0, s, _, _ => s
  | n + 1, s, t, src =>
    let x := s.swcTile t
    let e := tget 0 x.expect src
    match x.reseq.find? fun y => y.2.srcTile == src && y.2.seq == e with
    | none => s
    | some y =>
      let hold := s.slot - y.1
      let x := { x with reseq := x.reseq.erase y, expect := tset 0 x.expect src ((e + 1) % 65536),
                        holdMax := max x.holdMax (min 255 hold) }
      release n (((s.setSwcTile t x).cntTile t 0x46 (some y.2.vfi) none hold).enterEgress t y.2) t src

/-- A cell arrives at its egress tile: in order it enters its queue, ahead of order it is held, late
it is discarded (R114, R116). -/
def State.reseqIn (s : State) (t : Nat) (c : Cell) : State :=
  let x := s.swcTile t
  let e := tget 0 x.expect c.srcTile
  let d := (c.seq + 65536 - e) % 65536
  if 32768 ≤ d then s.dropCell t c
  else
    let s := s.setSwcTile t { x with reseq := x.reseq ++ [(s.slot, c)] }
    let s := if d = 0 then s else s.cntTile t 0x47 (some c.vfi)
    s.release 513 t c.srcTile

/-! ### Errors found on a cell (R117) -/

/-- Poison the quarters of a cell in which a tile finds an uncorrectable error, with the record. -/
def State.poisonCell (s : State) (t : Nat) (c : Cell) (q : BitVec 4) : State × Cell :=
  let port := if c.srcOff = 16 then 0x3FF else 16 * c.srcTile + c.srcOff
  let s := (s.modSwcTile t fun x => { x with err := x.err ||| 8 }).sramError t 0 true
  (s.record 0x51 t (t64Of (restoreT52 s.clock c.stamp)) [(2, port), (1, t), (1, q.toNat)],
    { c with poison := c.poison ||| q.toNat })

/-- A cell arrives over a mortar channel (R13, R109, R114, R117). -/
def State.cellArrival (s : State) (stage2 : Bool) (src dst : Nat) (fault : CellFault) : State :=
  match s.swc.flights.find? fun f => f.stage2 == stage2 && f.src == src && f.dst == dst with
  | none => s
  | some f =>
    let s := { s with swc := { s.swc with flights := s.swc.flights.erase f } }
    let s := s.dropCell src f.cell
    let s := if fault = .headerCorrected then
      ((s.modSwcTile dst fun x => { x with hdrCorr := satAdd 16 x.hdrCorr 1 }).cntTile dst 0x51).sramError dst 1 false else s
    if fault = .headerUncorrectable then
      let s := { s with swc := { s.swc with lost := s.swc.lost ++ [f.cell] } }
      ((s.modSwcTile dst fun x => { x with hdrUnc := satAdd 16 x.hdrUnc 1, err := x.err ||| 4 }).sramError dst 1 true).record
        0x52 dst s.now64 [(1, dst), (2, f.cell.place)]
    else
      let (s, c) := match fault with
        | .payload q => s.poisonCell dst f.cell q
        | _ => (s, f.cell)
      let (x, p) := (s.swcTile dst).take s.ft
      let c := { c with place := p }
      let s := s.setSwcTile dst x
      if stage2 then s.reseqIn dst c
      else s.modSwcTile dst fun x => { x with stage2 := x.stage2 ++ [(s.slot, c)] }

/-- The message that lost cell `c` at its egress tile: discarded and answered while its head waits, poisoned once it has
left (R116). A message already discarded is not answered again. -/
def State.loseMessage (s : State) (t : Nat) (c : Cell) : State :=
  let x := s.swcTile t
  match (tget none x.openOut c.dstOff).filter fun o => o.cell.same c with
  | some o =>
    if o.left ≤ 1 then
      (s.setSwcTile t { x with openOut := tset none x.openOut c.dstOff none }).delivered t c.dstOff
        { o.cell.msg with poison := true }
    else s.setSwcTile t { x with openOut := tset none x.openOut c.dstOff (some { o with left := o.left - 1, poison := true }) }
  | none =>
    let mine := x.egress.filter (·.same c)
    let s := s.setSwcTile t { x with egress := x.egress.filter fun y => !y.same c }
    let s := mine.foldl (fun s y => s.dropCell t y) s
    let s := if c.first || mine != [] then s.answerCell t c (s.cplCa t c.dstOff) else s
    s.restop t c.dstOff

/-- The cell with SEQ `e` of a pair: one discarded on the way, or one that is still there. -/
def State.pairCell (s : State) (t src e : Nat) : Option Cell :=
  (s.swc.lost ++ s.swc.flights.map (·.cell) ++ s.swc.tiles.flatMap fun x => x.2.stage2.map (·.2)).find? fun c =>
    c.dstTile == t && c.srcTile == src && c.seq == e

/-- RESEQ_LOST: the expected cell of a pair is declared lost once a later one has waited 128 slots
(R116). -/
def State.reseqLoss (s : State) (t src : Nat) : State :=
  let x := s.swcTile t
  let e := tget 0 x.expect src
  let held := x.reseq.filter fun y => y.2.srcTile == src
  if held.any (fun y => y.1 + 128 ≤ s.slot) && !held.any (fun y => y.2.seq == e) then
    let c := s.pairCell t src e
    let s := s.setSwcTile t { x with expect := tset 0 x.expect src ((e + 1) % 65536),
                                     reseqLost := satAdd 32 x.reseqLost 1, err := x.err ||| 16 }
    let s := s.record 0x50 t s.now64 [(1, t), (1, src), (2, e)]
    let s := match c with
      | some c => { s with swc := { s.swc with lost := s.swc.lost.erase c } }.loseMessage t c
      | none => s
    s.release 513 t src
  else s

/-! ### Ageing (R119, R120) -/

/-- The head of the cell's message has left its egress port (R118). -/
def State.headLeft (s : State) (c : Cell) : Bool :=
  match tget none (s.swcTile c.dstTile).openOut c.dstOff with
  | some o => o.cell.same c
  | none => false
/-- A head is over the age limit of its tile; a message whose head has left is never aged. -/
def State.overAge (s : State) (t : Nat) (c : Cell) : Bool :=
  !s.headLeft c && decide (16 * 2 ^ (s.swcTile t).ageLog2 < s.clock - restoreT52 s.clock c.stamp)

/-- The port whose queue held a cell, as the tile tells ports apart: lane ports by number, the internal port of tile
`d` as 1024 + d. -/
def agedPort (c : Cell) : Nat := if c.dstOff = 16 then 1024 + c.dstTile else 16 * c.dstTile + c.dstOff

/-- Discard an aged head and the cells of its message behind it (R120). -/
def State.ageCell (s : State) (t : Nat) (c : Cell) : State :=
  let x := s.swcTile t
  let a := tget (0, 0) x.aged (agedPort c)
  let at' := restoreT52 s.clock c.stamp
  let old := if a.1 = 0 then at' else min a.2 at'
  let x := { x with agedCount := satAdd 32 x.agedCount 1, err := x.err ||| 32,
                    aged := tset (0, 0) x.aged (agedPort c) (a.1 + 1, old) }
  let s := (((s.setSwcTile t x).dropCell t c).cntTile t 0x49 (some c.vfi) (some c.dstOff)).tally 16
  if c.first then
    (if isNonPosted c.msg then s.modSwcTile t fun x => { x with agedNp := satAdd 32 x.agedNp 1 } else s).answerCell t c true
  else s

/-- Age the cells of `c`'s message in the ingress queues. Where its head has gone on, the message has lost a cell. -/
def State.ageVoq (s : State) (t : Nat) (c : Cell) : State :=
  let x := s.swcTile t
  let s := (x.voq.filter (·.same c)).foldl (fun s y => s.ageCell t y)
    (s.setSwcTile t { x with voq := x.voq.filter fun y => !y.same c })
  if c.first then s else s.loseMessage c.dstTile c
/-- Age the cells of `c`'s message in the egress queues. -/
def State.ageEgress (s : State) (t : Nat) (c : Cell) : State :=
  let x := s.swcTile t
  ((x.egress.filter (·.same c)).foldl (fun s y => s.ageCell t y)
    (s.setSwcTile t { x with egress := x.egress.filter fun y => !y.same c })).restop t c.dstOff

/-- An ingress queue reaches a cell whose place is in QUARANTINE: the cell counts as lost and its place is freed; a
message still queued here is discarded and answered (R128). -/
def State.loseVoq (s : State) (t : Nat) (c : Cell) : State :=
  let x := s.swcTile t
  if c.first then
    let s := (x.voq.filter (·.same c)).foldl (fun s y => s.dropCell t y)
      (s.setSwcTile t { x with voq := x.voq.filter fun y => !y.same c })
    s.answerCell t c (s.cplCa c.dstTile c.dstOff)
  else ((s.setSwcTile t { x with voq := x.voq.erase c }).dropCell t c).loseMessage c.dstTile c

/-- The head checker's visit of a queue (R119). -/
def State.headCheck (s : State) (t : Nat) (q : QueueId) : State :=
  let x := s.swcTile t
  match q with
  | .voq d o k =>
    match x.voq.find? fun c => c.dstTile == d.val && c.dstOff == o.val && c.cls == k.val with
    | some c => if s.overAge t c then s.ageVoq t c else s
    | none => s
  | .egress o k v =>
    match x.egress.find? fun c => c.dstOff == o.val && c.cls == k.val && (k.val != 0 || c.vfi == v.val) with
    | some c => if s.overAge t c then s.ageEgress t c else s
    | none => s

/-- The AGED records of a course, at the boundary that ends it (R120). -/
def State.flushAged (s : State) (t : Nat) : State :=
  let a := (s.swcTile t).aged
  let s := a.foldl (fun s x =>
    if x.1 < 1024 then s.record 0x53 t (t64Of x.2.2) [(2, x.1), (4, x.2.1)]
    else s.record 0x53 (x.1 - 1024) (t64Of x.2.2) [(2, 0x3FF), (4, x.2.1)]) s
  s.modSwcTile t fun x => { x with aged := [] }

/-! ### The cyclic pattern (R108 to R110) -/

/-- Rate in Gb/s of a rate code (Table 03-1). -/
def rateGbs (code : Nat) : Nat := match code with | 3 => 8 | 4 => 16 | 5 => 32 | 6 => 64 | _ => 0
/-- Lanes of a width code. -/
def widthLanes (code : Nat) : Nat := 2 ^ code
/-- Course capacity C of a port in cells (R125). -/
def State.portCells (s : State) (p : Nat) : Nat :=
  let x := s.port p
  let base := widthLanes x.width * rateGbs x.rate * s.ftu.len
  match x.mode with
  | 0 => base * 128 * 7 / (512 * 130 * 8)
  | 1 => base * 128 * 64 / (512 * 130 * 68)
  | _ => base * 240 / (512 * 256)
/-- The Reserved limit of a port: 3/4 of C. -/
def State.rsvLimit (s : State) (p : Nat) : Nat := s.portCells p * 3 / 4

/-- TLP size S of a stream. -/
def Stream.tlp (d : Stream) : Nat := if d.tlp512 then 512 else 256
/-- Bytes B that a stream of RATE `r` may send in a course of length `l` (Table 10-3). -/
def rateBytes (r l : Nat) : Nat := ceilDiv (9 * r * l) 8000
/-- Egress cells per course that a stream of RATE `r` reserves at its drive's port (Table 10-3). -/
def Stream.cellsAt (d : Stream) (r l : Nat) : Nat :=
  if d.inbound then 3 else (ceilDiv (rateBytes r l) d.tlp + 1) * (d.tlp / 64 + 1) + 3
/-- The same at its RATE in effect. -/
def Stream.cells (d : Stream) (l : Nat) : Nat := d.cellsAt d.rate l
/-- Reservations of the streams that egress through a port. -/
def State.reserved (s : State) (p : Nat) : Nat :=
  s.streamList.foldl (fun n x => if x.2.port = p then n + x.2.cells s.ftu.len else n) 0
/-- The Reserved quota in effect of a port (R125). -/
def State.quota (s : State) (p : Nat) : Nat := min (s.rsvLimit p) (s.reserved p)
/-- Reserved cells of a port are within their quota (R125); no stream egresses through an internal port. -/
def State.inQuota (s : State) (t off : Nat) : Bool :=
  off != 16 && decide ((tget {} (s.swcTile t).caps off).used < s.quota (16 * t + off))
/-- Rank of a class in a request (R110). -/
def State.rank (s : State) (c : Cell) : Nat :=
  match c.cls with
  | 2 => if s.inQuota c.dstTile c.dstOff then 0 else 2
  | 1 => 1
  | _ => 2
/-- The order of R110: class, stamp, rotating key over port offsets. -/
def State.cellKey (s : State) (size src : Nat) (c : Cell) : Nat × Nat × Nat :=
  (s.rank c, s.clock - restoreT52 s.clock c.stamp, tieKey src s.slot size)
/-- `a` goes before `b`: a lower rank, an earlier stamp (a greater age), a lower key. -/
def keyFirst (a b : Nat × Nat × Nat) : Bool :=
  decide (a.1 < b.1) || (a.1 == b.1 && (decide (b.2.1 < a.2.1) || (a.2.1 == b.2.1 && decide (a.2.2 < b.2.2))))
/-- Insert in order. -/
def insertBy {α : Type} (lt : α → α → Bool) (a : α) : List α → List α
  | [] => [a]
  | b :: t => if lt a b then a :: b :: t else b :: insertBy lt a t
/-- The heads of the ingress queues, in queue order. -/
def heads : List Cell → List Cell → List Cell
  | _, [] => []
  | seen, c :: t =>
    if seen.any fun d => d.dstTile == c.dstTile && d.dstOff == c.dstOff && d.cls == c.cls then heads seen t
    else c :: heads (c :: seen) t

/-- The request of ingress tile `i` for the meeting 32 slots ahead (R109, R110). -/
def State.sendRequest (s : State) (i : Nat) : State :=
  let x := s.swcTile i
  let m := s.slot + 32
  let j := (i + m) % s.tileCount
  let named := x.requests.flatMap (·.cells) ++ x.assigned.flatMap (·.cells)
  let hs := (heads [] x.voq).filter fun c => !named.contains c.name && !s.stopped c.dstTile c.dstOff c.cls
  let best := (hs.foldr (insertBy fun a b => keyFirst (s.cellKey 17 a.srcOff a) (s.cellKey 17 b.srcOff b)) []).take 4
  if best = [] then s
  else
    let r : Meeting := { slot := m, peer := j, tiles := best.map (·.dstTile), cells := best.map Cell.name }
    let s := s.setSwcTile i { x with requests := x.requests ++ [r] }
    s.modSwcTile j fun y => { y with asks := y.asks ++ [{ r with peer := i }] }

/-- Places at intermediate `j` for egress tile `d` that hold a cell, be it on its way in or out, or are assigned. -/
def State.stage2Used (s : State) (j d : Nat) : Nat :=
  ((s.swcTile j).stage2.filter (·.2.dstTile == d)).length
    + (s.swc.flights.filter fun f => f.cell.dstTile == d && (if f.stage2 then f.src == j else f.dst == j)).length
    + s.swc.tiles.foldl (fun n x => n + ((x.2.assigned.filter (·.peer == j)).foldl
        (fun n m => n + (m.tiles.filter (· == d)).length) 0)) 0

/-- An entry of a request: the egress tile, and the name of the head. -/
abbrev Entry : Type := Nat × Nat × Nat × Nat
/-- Assign up to `n` free places to the entries of a request, in order; counts the entries refused for lack of a place
(R109). -/
def State.assignEntries (s : State) (j : Nat) : Nat → List Entry → List Entry → Nat → List Entry × Nat
  | 0, _, got, refused => (got, refused)
  | _, [], got, refused => (got, refused)
  | n + 1, e :: es, got, refused =>
    if s.stage2Used j e.1 + (got.filter (·.1 == e.1)).length < 2 then s.assignEntries j n es (got ++ [e]) refused
    else s.assignEntries j (n + 1) es got (refused + 1)

/-- Intermediate `j` answers the request for the meeting 16 slots ahead (R109). -/
def State.answerRequest (s : State) (j : Nat) : State :=
  let x := s.swcTile j
  let m := s.slot + 16
  match x.asks.find? (·.slot == m) with
  | none => s
  | some r =>
    let (got, refused) := s.assignEntries j 2 (r.tiles.zip r.cells) [] 0
    let s := s.setSwcTile j { x with asks := x.asks.filter fun a => decide (m < a.slot) }
    let s := s.cntTile j 0x44 none none refused
    if got = [] then s
    else s.modSwcTile r.peer fun y => { y with
      assigned := y.assigned ++ [{ slot := m, peer := j, tiles := got.map (·.1), cells := got.map (·.2) }] }

/-- Dispatch one named cell to intermediate `j` with the next SEQ of its pair (R109, R113). -/
def State.dispatch (s : State) (i j : Nat) (name : Nat × Nat × Nat) : State :=
  let x := s.swcTile i
  match x.voq.find? (·.name == name) with
  | none => s
  | some c =>
    if x.quarantined c.place then s.loseVoq i c
    else
      let q := tget 0 x.seqOut c.dstTile
      let s := s.setSwcTile i { x with voq := x.voq.erase c, seqOut := tset 0 x.seqOut c.dstTile ((q + 1) % 65536) }
      let f : Flight := { stage2 := false, src := i, dst := j, cell := { c with seq := q }, at16 := s.clock }
      let s := { s with swc := { s.swc with flights := s.swc.flights ++ [f] } }
      ((s.cntTile i 0x40 (some c.vfi) (some c.srcOff)).cntDie i j).noteQuota i c.vfi

/-- The meeting of ingress `i` in this slot: one cell for each assigned place; the heads named for it are no longer
held (R109, R110). -/
def State.meetNow (s : State) (i : Nat) : State :=
  let x := s.swcTile i
  let s' := match x.assigned.find? (·.slot == s.slot) with
    | none => s
    | some a => a.cells.foldl (fun s p => s.dispatch i a.peer p) s
  let s' := if s'.swc.flights.length = s.swc.flights.length then s'.cntTile i 0x43 else s'
  s'.modSwcTile i fun y => { y with assigned := y.assigned.filter fun r => decide (s.slot < r.slot)
                                    requests := y.requests.filter fun r => decide (s.slot < r.slot) }

/-- Stage 2 of intermediate `j` in this slot: up to 2 cells to its egress tile (R108). -/
def State.stage2Now (s : State) (j : Nat) : State :=
  let d := (j + s.tileCount - s.slot % s.tileCount) % s.tileCount
  let x := s.swcTile j
  let go := (x.stage2.filter (·.2.dstTile == d)).take 2
  go.foldl (fun s y =>
    let wait := s.slot - y.1
    let s := s.modSwcTile j fun x => { x with stage2 := x.stage2.erase y, waitMax := max x.waitMax (min 127 wait) }
    let f : Flight := { stage2 := true, src := j, dst := d, cell := y.2, at16 := s.clock }
    ((({ s with swc := { s.swc with flights := s.swc.flights ++ [f] } }).cntTile j 0x41 (some y.2.vfi)).cntTile j 0x45
      (some y.2.vfi) none wait).cntDie j d) s

/-- The block of lane offset `off` is an enabled port, or the internal port. -/
def State.swcCounts (s : State) (t off : Nat) : Bool :=
  if off = 16 then s.hasInternal t else (s.port (16 * t + off)).cfg.en
/-- SWC_STATUS.ANY_STOP (Table 05-10). -/
def State.anyStop (s : State) (t : Nat) : Bool :=
  (List.range 17).any fun i => s.swcCounts t i && (s.stopped t i 0 || s.stopped t i 1 || s.stopped t i 2)

/-- A slot of the pattern in tile `t`: the heads of the ingress queues are checked as they are considered. -/
def State.coreSlot (s : State) (t : Nat) : State :=
  if s.glb.coreRun && s.tileExists t then
    let s := ((heads [] (s.swcTile t).voq).filter (s.overAge t)).foldl (fun s c => s.ageVoq t c) s
    let s := ((heads [] (s.swcTile t).voq).filter fun c => (s.swcTile t).quarantined c.place).foldl (fun s c => s.loseVoq t c) s
    let s := ((s.meetNow t).stage2Now t).answerRequest t
    let s := s.sendRequest t
    let s := if s.anyStop t then s.cntTile t 0x48 else s
    if (List.range 16).any fun i => s.portOpen t i && s.creditsShut (16 * t + i) then s.cntTile t 0x4F else s
  else s

/-! ### The audit (R128) -/

/-- AUDIT_STEP: one place is visited. -/
def State.auditStep (s : State) (t : Nat) : State :=
  let x := s.swcTile t
  let p := x.auditPtr
  let s := match tget none x.places p with
    | some q =>
      if q.held then
        if 2 ^ x.ageLog2 + 20480 < s.ft - q.takenAt then
          let s := s.setSwcTile t { x with
            places := tset none x.places p (some { q with held := false, qLap := x.lap })
            heldCount := x.heldCount - 1, quarCount := x.quarCount + 1
            leakCount := satAdd 32 x.leakCount 1, err := x.err ||| 1 }
          ((s.record 0x54 t (t64Ns q.takenAt) [(1, t), (2, p)]).cntTile t 0x50).tally 17
        else s
      else if q.qLap < x.lap then s.setSwcTile t (x.free p) else s
    | none => s
  let x := s.swcTile t
  if p + 1 = 16384 then
    let bad := x.freeCount + x.heldCount + x.quarCount ≠ 16384
    let s := s.setSwcTile t { x with auditPtr := 0, lap := x.lap + 1, err := if bad then x.err ||| 2 else x.err }
    if bad then s.record 0x55 t s.now64 [(1, t), (2, x.freeCount), (2, x.heldCount)] else s
  else s.setSwcTile t { x with auditPtr := p + 1 }

/-! ### Egress scheduling (R124 to R126) -/

/-- The weight of an instance at a port (R293). -/
def State.weight (s : State) (vfi port : Nat) : Nat :=
  match (s.inst vfi).overrides.find? fun x => x.1 == port with
  | some x => x.2
  | none => (s.inst vfi).weight

/-- Record a non-posted request that leaves for a downstream or trunk port (R87). -/
def State.trackIfNeeded (s : State) (t off : Nat) (m : Msg) : State :=
  let p := s.port (16 * t + off)
  let e : Tracker :=
    { port := 16 * t + off
      tag := m.tag.toNat
      requester := m.reqPort.toNat
      kind := m.kind
      addr := m.addr.toNat
      dev := m.dev.toNat
      gen := p.gen
      epoch := s.epochFor m
      vfi := m.vfi.toNat
      lines := max 1 (m.len / 64)
      rid := m.rid.toNat
      pid := m.pid.toNat
      ld := m.ld.toNat
      stamp := s.stampOf m
      home := m.home
      engine := m.engine
      settled := !isCounted m }
  if off ≠ 16 && isNonPosted m && p.cfg.role != 1 then s.modTrackers t fun l => l ++ [e]
  else s
/-- The tile's tracker is full for this message. -/
def State.trackerFull (s : State) (t off : Nat) (m : Msg) : Bool :=
  off != 16 && isNonPosted m && (s.port (16 * t + off)).cfg.role != 1 && decide (8192 ≤ (s.trackers t).length)

/-- Send the message whose head is `c` from a port: its cells present leave, the others follow as
they arrive (R118). -/
def State.sendMsg (s : State) (t off : Nat) (c : Cell) : State :=
  let x := s.swcTile t
  let mine := x.egress.filter (·.same c)
  let bad := mine.any fun y => decide (y.poison ≠ 0)
  let s := s.setSwcTile t { x with egress := x.egress.filter fun y => !y.same c }
  let s := mine.foldl (fun s y => s.dropCell t y) s
  let s := s.trackIfNeeded t off c.msg
  let s := s.cntTile t 0x4C (some c.vfi) (some off) (mine.filter fun y => decide (y.poison ≠ 0)).length
  let s := if c.left ≤ mine.length then s.delivered t off { c.msg with poison := c.msg.poison || bad }
    else
      let o : OpenOut := { cell := c, left := c.left - mine.length, poison := bad }
      s.modSwcTile t fun x => { x with openOut := tset none x.openOut off (some o) }
  s.restop t off

/-- The binding that governs a port: the whole port's, or LD 0's. -/
def State.portBinding (s : State) (p : Nat) : Option Binding := (s.binding (17 * p + 16)) <|> (s.binding (17 * p))
/-- The binding that governs LD `ld` of a port. -/
def State.ldBinding (s : State) (p ld : Nat) : Option Binding :=
  if (s.port p).mld then (s.binding (17 * p + ld)) <|> (s.binding (17 * p + 16)) else s.portBinding p
/-- The message goes to a logical device that is bound no more, or to another instance: it receives no traffic (R91). -/
def State.ldShut (s : State) (t off : Nat) (m : Msg) : Bool :=
  let p := 16 * t + off
  off != 16 && (s.port p).cfg.role == 0 && (s.port p).mld && (match s.ldBinding p m.ld.toNat with
    | some b => !m.home && b.vfi != m.vfi.toNat
    | none => true)
/-- A message whose header quarter is poisoned, or whose logical device receives none, is discarded, and answered if
non-posted (R91, R117). -/
def State.sendOrDiscard (s : State) (t off : Nat) (c : Cell) : State :=
  if c.poison % 2 = 1 ∨ s.ldShut t off c.msg = true then
    let x := s.swcTile t
    let mine := x.egress.filter (·.same c)
    let s := s.setSwcTile t { x with egress := x.egress.filter fun y => !y.same c }
    ((mine.foldl (fun s y => s.dropCell t y) s).answerCell t c (s.cplCa t off)).restop t off
  else s.sendMsg t off c

/-- Credit balances of the instances with Normal cells at a port at the start of a round (R126). -/
def State.newRound (s : State) (t off : Nat) (vs : List Nat) : State :=
  let x := s.swcTile t
  let lapsed := x.credit.map fun e => if e.1 / 256 = off then (e.1, min 0 e.2) else e
  let credit := vs.foldl (fun k v =>
    tset 0 k (256 * off + v) ((s.weight v (16 * t + off) : Int) + min 0 (tget 0 k (256 * off + v)))) lapsed
  (s.setSwcTile t { x with credit := credit.filter fun e => decide (e.2 ≠ 0) }).cntTile t 0x4E none (some off)

/-- The Normal queue heads of a port: one for each instance, and Reserved cells over quota with
their instance's (R124, R126). -/
def State.normalHeads (s : State) (t off : Nat) : List Cell :=
  let cs := (s.swcTile t).egress.filter fun c => c.dstOff == off && c.first &&
    (c.cls == 0 || (c.cls == 2 && !s.inQuota t off))
  cs.foldl (fun hs c => if hs.any (·.vfi == c.vfi) then hs else hs ++ [c]) []

/-- A back-invalidate snoop finds the port's 1,024 snoop-owed records in use (R140). -/
def State.owedFull (s : State) (t off : Nat) (m : Msg) : Bool :=
  msgType m == 5 && off != 16 && decide (1024 ≤ (s.home.owed.filter (·.1 == 16 * t + off)).length)
/-- A head may leave: the port holds the credits for its whole message, and the records it needs are free (R87, R118). -/
def State.headReady (s : State) (t off credits : Nat) (c : Cell) : Bool :=
  decide (c.left ≤ credits) && !s.owedFull t off c.msg && !s.trackerFull t off c.msg
/-- A request finds the tracker full and waits, which is counted once (R87). -/
def State.noteTrkWait (s : State) (t off : Nat) (c : Cell) : State :=
  if c.waited || !s.trackerFull t off c.msg then s
  else
    let n := satAdd 32 (tget 0 s.prt.trkFull t) 1
    let s := s.modSwcTile t fun x => { x with egress := x.egress.map fun d => if d = c then { d with waited := true } else d }
    ({ s with prt := { s.prt with trkFull := tset 0 s.prt.trkFull t n } }).cntTile t 0x19 (some c.vfi) (some off)

/-- Send from the Normal class (R126). A round ends when no instance with cells queued has credit left, whether or not
its head may leave. -/
def State.sendNormal (s : State) (t off credits : Nat) : State :=
  let s := (s.normalHeads t off).foldl (fun s c => s.noteTrkWait t off c) s
  let hs := s.normalHeads t off
  let bal (s : State) (v : Nat) : Int := tget 0 (s.swcTile t).credit (256 * off + v)
  let s := if hs = [] ∨ (hs.any fun c => decide (0 < bal s c.vfi)) = true then s else s.newRound t off (hs.map (·.vfi))
  let ok := hs.filter fun c => decide (0 < bal s c.vfi) && s.headReady t off credits c
  let best := ok.foldl (fun b c => match b with
    | none => some c
    | some d => if keyFirst (0, (s.cellKey 64 c.srcTile c).2) (0, (s.cellKey 64 d.srcTile d).2) then some c else some d) none
  match best with
  | none => s
  | some c =>
    let s := if c.cls = 2 then s.cntTile t 0x4D (some c.vfi) (some off) c.left else s
    let s := s.modSwcTile t fun x =>
      { x with credit := tset 0 x.credit (256 * off + c.vfi) (tget 0 x.credit (256 * off + c.vfi) - c.left) }
    s.sendOrDiscard t off c

/-- Send the head of a class if it may leave, else go on to the next class (R124). -/
def State.sendFirst (s : State) (t off credits : Nat) (h : Option Cell) (send : State → Cell → State)
    (next : State → State) : State :=
  match h with
  | none => next s
  | some c => if s.headReady t off credits c then send s c else next (s.noteTrkWait t off c)
/-- The head of a class at a port. -/
def State.classHead (s : State) (t off cls : Nat) : Option Cell :=
  (s.swcTile t).egress.find? fun c => c.dstOff == off && c.cls == cls && c.first
/-- A Reserved message within quota leaves and uses the quota (R125). -/
def State.sendReserved (s : State) (t off : Nat) (c : Cell) : State :=
  let k := tget {} (s.swcTile t).caps off
  (s.modSwcTile t fun x => { x with caps := tset {} x.caps off { k with used := k.used + c.left } }).sendOrDiscard t off c
/-- EGRESS_SEND: the port takes its next message from the first class whose head is ready (R124). Aged heads are
discarded as they are considered, and cells in QUARANTINE count as lost (R119, R128). -/
def State.egressSend (s : State) (t off credits : Nat) : State :=
  if !s.portOpen t off || (tget none (s.swcTile t).openOut off).isSome then s
  else
    let old := (s.swcTile t).egress.filter fun c => c.dstOff == off && s.overAge t c
    let s := old.foldl (fun s c => s.ageEgress t c) s
    let gone := (s.swcTile t).egress.filter fun c => c.dstOff == off && (s.swcTile t).quarantined c.place
    let s := gone.foldl (fun s c => s.loseMessage t c) s
    s.sendFirst t off credits (if s.inQuota t off then s.classHead t off 2 else none) (fun s c => s.sendReserved t off c)
      fun s => s.sendFirst t off credits (s.classHead t off 1) (fun s c => s.sendOrDiscard t off c)
        fun s => s.sendNormal t off credits

/-! ### A port goes down (R86, R122, R123) -/

/-- Detach the egress queues of a port and answer the requests among their cells (R86). -/
def State.detachEgress (s : State) (p : Nat) : State :=
  let t := p / 16
  let off := p % 16
  let x := s.swcTile t
  let mine := x.egress.filter (·.dstOff == off)
  let s := s.setSwcTile t { x with egress := x.egress.filter (·.dstOff != off), openOut := tset none x.openOut off none }
  let s := mine.foldl (fun s c => s.dropCell t c) s
  let s := (mine.filter (·.first)).foldl (fun s c => s.answerDown t p p c.msg 0x17 true c.cls) s
  s.restop t off

/-- PORT_STATE_LEARNED: a tile learns a port's state and discards its ingress cells for a port that
is down (R123). -/
def State.learnPort (s : State) (t p : Nat) : State :=
  let x := s.swcTile t
  let up := (s.port p).state == .up
  let x := { x with known := tset (false, 0) x.known p (up, (s.port p).gen) }
  if up then s.setSwcTile t x
  else
    let mine := x.voq.filter fun c => c.dstTile == p / 16 && c.dstOff == p % 16
    let s := s.setSwcTile t { x with voq := x.voq.filter fun c => !(c.dstTile == p / 16 && c.dstOff == p % 16) }
    let s := mine.foldl (fun s c => s.dropCell t c) s
    let s := s.modSwcTile t fun x => { x with genDiscard := satAdd 32 x.genDiscard mine.length }
    (mine.filter (·.first)).foldl (fun s c =>
      s.answerDown t p (if c.msg.home || c.msg.engine then p else c.msg.reqPort.toNat) c.msg 0x4B true c.cls) s

/-! ### The SWC sub-window (Tables 05-9, 05-10) -/

/-- Units of 4 cells, rounded up. -/
def by4 (n : Nat) : Nat := min 65535 (ceilDiv n 4)
/-- A read of tile `t`'s SWC sub-window. -/
def State.swcRead (s : State) (t o : Nat) : Nat :=
  let x := s.swcTile t
  if 0x100 ≤ o ∧ o < 0x210 then
    let i := (o - 0x100) / 16
    let c := tget {} x.caps i
    match o % 16 with
    | 0x0 => x.inCapOf i + 2 ^ 16 * x.egCapOf i
    | 0x4 => by4 (if i = 16 then 0 else s.quota (16 * t + i)) + 2 ^ 16 * by4 c.used
    | 0x8 => bit (s.stopped t i 0) + 2 * bit (s.stopped t i 1) + 4 * bit (s.stopped t i 2)
    | _ => x.egCells i + 2 ^ 16 * s.inHeldOf t i
  else match o with
    | 0x00 => bit s.glb.coreRun + 2 * bit (s.hasInternal t) + 4 * bit (s.anyStop t)
    | 0x04 => x.inCells
    | 0x08 => x.ageLog2
    | 0x0C => x.freeCount
    | 0x10 => s.inHeld t
    | 0x14 => x.egress.length
    | 0x18 => x.agedCount
    | 0x1C => x.agedNp
    | 0x20 => x.genDiscard
    | 0x24 => x.reseqLost
    | 0x28 => x.hdrCorr + 2 ^ 16 * x.hdrUnc
    | 0x2C => x.leakCount
    | 0x30 => x.lap % 2 ^ 32
    | 0x34 => x.waitMax + 2 ^ 16 * x.holdMax
    | 0x38 => x.err.toNat
    | _ => 0

/-- A write to tile `t`'s SWC sub-window. -/
def State.swcWrite (s : State) (t o v : Nat) : State :=
  let x := s.swcTile t
  if 0x100 ≤ o ∧ o < 0x210 then
    if o % 16 = 0 then
      let i := (o - 0x100) / 16
      let c := tget {} x.caps i
      let a := min (clampNat 8 856 (bitsOf v 9 0)) (x.inCells / 16)
      let b := min (clampNat 48 984 (bitsOf v 25 16)) (x.egPool / 16)
      ((s.setSwcTile t { x with caps := tset {} x.caps i { c with inCap := a, egCap := b } }).restop t i).regClampIf
        (decide (a ≠ bitsOf v 9 0 ∨ b ≠ bitsOf v 25 16))
    else s
  else match o with
    | 0x04 =>
      let n := clampNat 2048 13696 (v % 2 ^ 14)
      ((List.range 17).foldl (fun s i => s.restop t i) (s.setSwcTile t { x with inCells := n })).regClampIf
        (decide (n ≠ v % 2 ^ 14))
    | 0x08 =>
      let n := clampNat 14 26 (v % 32)
      (s.setSwcTile t { x with ageLog2 := n }).regClampIf (decide (n ≠ v % 32))
    | 0x38 => s.setSwcTile t { x with err := x.err &&& ~~~ BitVec.ofNat 6 v }
    | _ => s

/-! ### The commands -/

/-- CORE_SLOT (R108). -/
def execCoreSlot (tile : Tile) (s : State) : Answer := act s fun s => s.coreSlot tile
/-- CELL_ARRIVAL (R114). -/
def execCellArrival (stage2 : Bool) (src dst : Tile) (fault : CellFault) (s : State) : Answer :=
  act s fun s => s.cellArrival stage2 src dst fault
/-- RESEQ_LOST (R116). -/
def execReseqLost (dst src : Tile) (s : State) : Answer := act s fun s => s.reseqLoss dst src
/-- HEAD_CHECK (R119). -/
def execHeadCheck (tile : Tile) (queue : QueueId) (s : State) : Answer := act s fun s => s.headCheck tile queue
/-- AUDIT_STEP (R128): audits run while the core does. -/
def execAuditStep (tile : Tile) (s : State) : Answer :=
  act s fun s => if s.glb.coreRun && s.tileExists tile then s.auditStep tile else s
/-- EGRESS_SEND (R124). -/
def execEgressSend (tile : Tile) (off : Fin 17) (credits : Nat) (s : State) : Answer :=
  act s fun s => s.egressSend tile off credits
/-- PORT_STATE_LEARNED (R123). -/
def execPortStateLearned (tile : Tile) (port : Port) (s : State) : Answer := act s fun s => s.learnPort tile port

end Sys2Proof.Machine
end

