-- ==== Sys2Proof/Machine/Ports.lean ====
section
/-!
DEFINITION. Port Logic (chapter 04): port layout, states and link generation, link-down actions,
containment, trunks, link IDE, the port opcodes and the PRT sub-window.
-/

namespace Sys2Proof.Machine

/-! ### Settings (Tables 04-8, 04-9) -/

/-- The PRT_PORT_CFG image. -/
def PortCfg.image (c : PortCfg) : Nat :=
  bit c.en + 2 * c.width + 2 ^ 4 * c.role + 2 ^ 6 * c.maxRate + 2 ^ 9 * bit c.allow68 + 2 ^ 10 * bit c.allowLopt
    + 2 ^ 11 * bit c.shelfGate + 2 ^ 12 * bit c.dpcEn + 2 ^ 13 * bit c.dpcAuto + 2 ^ 14 * bit c.dpcCpl
/-- The settings that an image gives, each field at its nearest legal value. -/
def PortCfg.of (v : Nat) : PortCfg :=
  { en := bitOf v 0, width := min 4 (bitsOf v 3 1), role := min 2 (bitsOf v 5 4), maxRate := clampNat 3 6 (bitsOf v 8 6),
    allow68 := bitOf v 9, allowLopt := bitOf v 10, shelfGate := bitOf v 11, dpcEn := bitOf v 12,
    dpcAuto := bitOf v 13, dpcCpl := bitOf v 14 }
/-- PRT_PORT_STATUS.STATE. -/
def PortState.code : PortState → Nat
  | .disabled => 0 | .detect => 1 | .training => 2 | .up => 3 | .contained => 4 | .loop => 5
/-- The PRT_PORT_STATUS image. -/
def PortSt.status (p : PortSt) : Nat :=
  p.state.code + 2 ^ 3 * p.width + 2 ^ 6 * p.rate + 2 ^ 10 * p.mode + 2 ^ 12 * bit p.cxl + 2 ^ 13 * bit p.mld
    + 2 ^ 14 * bit p.dcd + 2 ^ 15 * bit p.shelfHold
/-- PRT_IDE_STATUS. -/
def PortSt.ideStatus (p : PortSt) : Nat := p.ideState + 2 ^ 8 * p.keySet
/-- Upstream ports enabled in the module. -/
def State.upstreamCount (s : State) : Nat :=
  (s.prt.ports.filter fun x => x.2.cfg.en && x.2.cfg.role == 1).length
/-- The PID of an edge port (R94). -/
def State.portPid (s : State) (p : Nat) : Option Nat :=
  match s.prt.pbrDev, (s.port p).edge with
  | some d, some e => if (s.port p).cfg.role = 2 then none else some (512 * d + e)
  | _, _ => none

/-! ### State changes -/

/-- A port changes state; the change is posted (Table 12-7). -/
def State.portTo (s : State) (p : Nat) (st : PortState) : State :=
  if (s.port p).state = st then s
  else
    let s := s.modPort p fun x => { x with state := st }
    s.event 0x10 (p / 16) s.now64 [(2, p), (1, st.code), (4, (s.port p).gen)]

/-! ### Lanes of a port -/

/-- The receiver adapts: it is locked, and not held in electrical idle (R57, R59). -/
def LaneSt.adapts' (x : LaneSt) : Bool := x.cdrLock && !x.idle
/-- A lane as it is at the present: background adaptation and a loop's counts brought up to date (R57, R60). -/
def State.laneNow (s : State) (l : Nat) : LaneSt :=
  let x := s.lane l
  let d := s.clock - x.adaptAt
  let x := if x.adapts' then
      { x with ctle := Config.adaptCtle l x.ctle d % 16, dfe := Config.adaptDfe l x.dfe d % 256
               adapts := min 65535 (x.adapts + Config.adaptSteps l d), eye := Config.laneEye l x.rate s.clock, adaptAt := s.clock }
    else x
  match x.loopAt with
  | none => x
  | some a =>
    { x with loopErr := min (2 ^ 32 - 1) (Config.loopErrors l a (s.clock - a)), loopBits := 2 ^ x.rate * (s.clock - a) / 16 }
/-- Change a lane, from what it is at the present. -/
def State.turnLane (s : State) (l : Nat) (f : LaneSt → LaneSt) : State :=
  s.setLane l { f (s.laneNow l) with adaptAt := s.clock }
/-- A lane is off: not powered, or of no enabled port (R53). -/
def LaneSt.off (x : LaneSt) : LaneSt := { x with rate := 0, idle := false, cdrLock := false, loop := 0, loopAt := none }

/-- The lanes of a port. -/
def State.portLanes (s : State) (p : Nat) : List Nat :=
  (List.range (widthLanes (s.port p).cfg.width)).map (p + ·)
/-- Apply a change to every lane of a port that is wired (R55). -/
def State.modLanes (s : State) (p : Nat) (f : LaneSt → LaneSt) : State :=
  (s.portLanes p).foldl (fun s l => if (s.eqLane l).unused then s else s.turnLane l f) s
/-- Run the port's lane loop, once its bank's PLL has locked (R53, R60, Table 03-7). -/
def State.loopRun (s : State) (p : Nat) : State :=
  match (s.port p).loopReq with
  | none => s
  | some (mode, pattern, rate) =>
    if (s.port p).state = .loop ∧ (s.tileLnk (p / 16)).pllLock = true then
      let s := s.modLanes p fun x => { x with
        loop := mode, pattern := pattern, loopRate := rate, rate := rate, idle := decide (mode < 3), cdrLock := true
        loopErr := 0, loopBits := 0, loopAt := if mode = 4 then none else some s.clock }
      if mode = 3 then s.emit (.loopLead (Fin.ofNat 1024 p) pattern rate) else s
    else s

/-- The bank of a tile is powered while it has an enabled port and is not forced off (R53). -/
def State.repower (s : State) (t : Nat) : State :=
  let l := s.tileLnk t
  let on := !l.forceOff && (List.range 16).any fun i => (s.port (16 * t + i)).cfg.en
  if on = l.powered then s
  else
    let s := s.setTileLnk t { l with powered := on, pllLock := false, poweredAt := if on then s.clock else l.poweredAt }
    (List.range 16).foldl (fun s i =>
      if !on then s.turnLane (16 * t + i) LaneSt.off
      else if (s.port (16 * t + i)).state = .detect then s.modLanes (16 * t + i) fun x => { x with idle := true }
      else s) s

/-- The shelf of a tile has not reported power good (Table 04-3). -/
def State.gateShut (s : State) (p : Nat) : Bool := (s.port p).cfg.shelfGate && (s.link (p / 16)).power != 2

/-- A port enters DETECT: its lanes wait at electrical idle while their bank is powered (R53). The link-up time of R98 starts
when power good comes, or when the port leaves DETECT. -/
def State.toDetect (s : State) (p : Nat) : State :=
  let on := (s.tileLnk (p / 16)).powered
  let s := s.modLanes p fun l => { l.off with idle := on }
  let s := s.modPort p fun x => { x with shelfHold := s.gateShut p, from16 := 0, loopReq := none }
  s.portTo p .detect
/-- The link passes through Detect.Quiet, 12 ms, before it trains again (Table 04-3, R85). -/
def State.quiet (s : State) (p : Nat) : State := s.modPort p fun x => { x with quietUntil := s.clock + ms16 12 }

/-- A change of link or presence on a downstream port, passed to the instances that own it (R90). -/
def State.slotNote (s : State) (p : Nat) (link on : Bool) : State :=
  if (s.port p).cfg.role ≠ 0 then s
  else (s.bindingsOf p).foldl (fun s b => s.emit (.slotEvent b.vfi (Fin.ofNat 1024 p) link on)) s

/-! ### Memory windows (Table 11-3) -/

/-- A memory window. -/
structure Win where
  valid : Bool
  dc : Bool
  kind : Nat
  log2 : Nat
  ld : Nat
  port : Nat
  dpa : Nat
  fma : Nat
  target : Nat
  deriving DecidableEq, Repr
/-- The fields of a window image. -/
def Win.of (v : Nat) : Win :=
  { valid := bitOf v 0, dc := bitOf v 1, kind := bitsOf v 9 8, log2 := bitsOf v 21 16, ld := bitsOf v 27 24
    port := bitsOf v 47 32, dpa := bitsOf v 127 64, fma := bitsOf v 191 128, target := bitsOf v 255 192 }
/-- The window image. -/
def Win.image (w : Win) : Nat :=
  bit w.valid + 2 * bit w.dc + 2 ^ 8 * w.kind + 2 ^ 16 * w.log2 + 2 ^ 24 * w.ld + 2 ^ 32 * w.port + 2 ^ 64 * w.dpa
    + 2 ^ 128 * w.fma + 2 ^ 192 * w.target
/-- The valid windows of an instance, with their numbers. -/
def State.wins (s : State) (v : Nat) : List (Nat × Win) :=
  ((s.inst v).windows.map fun x => (x.1, Win.of x.2.toNat)).filter (·.2.valid)
/-- The window of an instance that covers an FMA. -/
def State.winAt (s : State) (v fma : Nat) : Option Win :=
  ((s.wins v).find? fun x => decide (x.2.fma ≤ fma) && decide (fma < x.2.fma + 2 ^ x.2.log2)).map (·.2)

/-- The port that an inbound stream's deliveries go to: the target of a private window, none for memory
behind the home, and otherwise the upstream port that owns the drive (R270). -/
def State.destPort (s : State) (d : Stream) : Option Nat :=
  match s.winAt d.vfi d.dest with
  | some w => if w.kind = 2 then some w.port else none
  | none => (s.portBinding d.port).map (·.owner)

/-- Drive streams of a port that goes down or comes back, and streams that deliver to it (Table 10-7). -/
def State.streamsPort (s : State) (p : Nat) (up : Bool) : State :=
  s.streamList.foldl (fun s x =>
    let s := if !up && x.2.inbound && s.destPort x.2 == some p then s.rewrite x.1 else s
    if x.2.port = p then
      let s := s.event 0x62 (84 + x.2.engine) s.now64 [(2, x.1), (2, p), (1, bit up)]
      if up then s
      else s.modS x.1 fun d =>
        let d := if d.inbound then { d with statusOpen := false }
          else { d with pos := d.ack, courseFrom := d.ack, unsent := 0, ready := 0, statusOpen := false }.leave
        if d.state = .closing ∨ d.state = .denied then d else { d with state := .waitPort }
    else s) s

/-- An outbound tenant message no longer waits for a port (R299). -/
def State.mailDrop (s : State) (p : Nat) : State :=
  s.vfi.inst.foldl (fun s x =>
    if x.2.outWait.contains p then
      let w := x.2.outWait.erase p
      let s := s.setInst x.1 { x.2 with outWait := w, outPending := x.2.outPending && w != [] }
      if w = [] ∧ x.2.outPending then s.event 0x71 90 s.now64 [(1, x.1), (2, x.2.outSeq)] else s
    else s) s

/-- The coherent host number of a local port, if it holds one (R134). -/
def State.chnOfPort (s : State) (p : Nat) : Option Nat :=
  (s.home.hosts.find? fun x => x.2.valid && !x.2.remote && x.2.who == p).map (·.1)

/-- Trunk members of a group. -/
def State.groupMembers (s : State) (g : Nat) : List Nat :=
  (s.prt.ports.filter fun x => x.2.group == some g && x.2.cfg.role == 2).map (·.1)
/-- Members of a group that are UP. -/
def State.groupUp (s : State) (g : Nat) : List Nat := (s.groupMembers g).filter fun q => (s.port q).state == .up

/-- Hosts lost with an upstream port, or with the last trunk of a group (R159). -/
def State.hostsLost (s : State) (p : Nat) : List Nat :=
  let x := s.port p
  match x.cfg.role with
  | 1 => match s.chnOfPort p with | some c => [c] | none => []
  | 2 =>
    match x.group with
    | none => []
    | some g =>
      if (s.groupUp g).all (· == p) then
        (s.home.hosts.filter fun h => h.2.valid && h.2.remote && tget none s.prt.routes (h.2.who / 512) == some g).map (·.1)
      else []
  | _ => []

/-- A tracker entry as the request it stands for. -/
def Tracker.msg (e : Tracker) : Msg :=
  { kind := e.kind, addr := BitVec.ofNat 64 e.addr, tag := BitVec.ofNat 16 e.tag, reqPort := BitVec.ofNat 10 e.requester,
    vfi := BitVec.ofNat 8 e.vfi, len := 64 * e.lines, stamp := BitVec.ofNat 52 e.stamp, home := e.home, engine := e.engine
    ld := BitVec.ofNat 4 e.ld, pid := BitVec.ofNat 12 e.pid, rid := BitVec.ofNat 12 e.rid }

/-- Answer a tracker entry as for a lost port and free it (R86, R87); its access settles here. -/
def State.answerTracker (s : State) (t : Nat) (e : Tracker) : State :=
  let s := s.modTrackers t fun l => l.erase e
  let s := if e.settled then s else s.settle t e.epoch
  s.answerDown t e.port e.port e.msg 0x17 false

/-- The next `n` slots of the port's open CXL.mem message arrive, poisoned or not, and their cells are formed (R81). -/
def State.slotsArrive (s : State) (p n : Nat) (poison : Bool) : State :=
  match (s.port p).openMsg with
  | none => s
  | some o =>
    let s := (o.rest.take n).foldl (fun s c => s.queueCell (p / 16) (if poison then { c with poison := 15 } else c)) s
    s.modPort p fun x => { x with openMsg := if o.slots ≤ n then none else some { o with slots := o.slots - n, rest := o.rest.drop n } }
/-- The head of the port's open message has left the ingress tile (R82). -/
def State.openHeadLeft (s : State) (p : Nat) (o : OpenIn) : Bool :=
  !((s.swcTile (p / 16)).voq.any fun c => c.srcOff == p % 16 && c.stamp == o.stamp && c.first)
    && !((s.port p).heldMsgs.any fun m => m.stamp.toNat == o.stamp)

/-- Poison the remaining slots of a port's open CXL.mem message, whose cells the tile forms itself (R82, R83, R118): cause
1 link down, 2 source poison, 3 buffer ECC. -/
def State.poisonOpen (s : State) (p cause : Nat) : State :=
  match (s.port p).openMsg with
  | none => s
  | some o =>
    let s := s.slotsArrive p o.slots true
    let s := s.modPort p fun x => { x with err := x.err ||| 2, poisonOut := satAdd 32 x.poisonOut o.slots
                                           heldMsgs := x.heldMsgs.map fun m => if m.stamp.toNat = o.stamp then { m with poison := true } else m }
    (s.record 0x40 (p / 16) (t64Of (restoreT52 s.clock o.stamp)) [(2, p), (1, cause), (4, (s.port p).gen), (2, o.slots)]).cntTile
      (p / 16) 0x16 none (some (p % 16)) o.slots

/-- The link-down actions for an UP port (R86, R88, R89). The port's next state is the caller's. -/
def State.linkDown (s : State) (p : Nat) : State :=
  let lost := s.hostsLost p
  let s := (((s.poisonOpen p 1).slotNote p true false).quiet p).modPort p fun x =>
    { x with gen := (x.gen + 1) % 2 ^ 32, active := false, width := 0, rate := 0, heldMsgs := [], ideState := 0, mld := false, dcd := false }
  let s := (s.cntTile (p / 16) 0x18 none (some (p % 16))).tally 10
  let s := s.detachEgress p
  let s := ((s.trackers (p / 16)).filter (·.port == p)).foldl (fun s e => s.answerTracker (p / 16) e) s
  let s := { s with
    msc := { s.msc with sessions := s.msc.sessions.erase (.doe (Fin.ofNat 1024 p)) },
    home := { s.home with
      lossDue := s.home.lossDue ++ (lost.filter fun c => !s.home.lossDue.any fun x => x.1 == c).map fun c => (c, s.clock)
      owed := s.home.owed.filter fun o => o.1 != p } }
  ((s.streamsPort p false).mailDrop p).stopMoves p

/-- A link-down event of a port that then waits in DETECT. -/
def State.downToDetect (s : State) (p : Nat) : State :=
  if (s.port p).state = .up then (s.linkDown p).toDetect p
  else if (s.port p).state = .training then (s.quiet p).toDetect p else s

/-- Containment (R90): the link is held in Disabled. -/
def State.contain (s : State) (p : Nat) : State :=
  if (s.port p).state = .up then
    let s := (s.linkDown p).modPort p fun x => { x with err := x.err ||| 16 }
    s.portTo p .contained
  else s

/-! ### Layout (R75 to R77) -/

/-- The largest width code up to `w` whose width divides offset `i`. -/
def widthAt (i : Nat) : Nat → Nat
  | 0 => 0
  | w + 1 => if i % 2 ^ (w + 1) = 0 then w + 1 else widthAt i w
/-- Resolve the blocks of a tile in order of lane offset (R76). `got`: blocks already resolved. -/
def resolveLayout : List (Nat × PortCfg) → List (Nat × PortCfg) → List (Nat × PortCfg)
  | got, [] => got
  | got, (i, c) :: t =>
    let c := { c with width := widthAt i c.width }
    let lapped := got.any fun x => x.2.en && decide (i < x.1 + 2 ^ x.2.width)
    resolveLayout (got ++ [(i, { c with en := c.en && !lapped })]) t

/-- Put new settings into a block and run the state change they cause (R77, Table 04-3). -/
def State.applyBlock (s : State) (p : Nat) (c : PortCfg) : State :=
  let old := s.port p
  if old.cfg = c then s
  else
    let put (s : State) : State := s.modPort p fun x => { x with cfg := c }
    if !c.en then
      let s := if old.state = .up then s.linkDown p else s
      let s := if old.cfg.en then s.modLanes p LaneSt.off else s
      (put s).portTo p .disabled
    else match old.state with
      | .disabled => (put s).toDetect p
      | .contained => put s
      | .loop => (put (s.modLanes p LaneSt.off)).loopRun p
      | .up => (put ((s.linkDown p).modLanes p LaneSt.off)).toDetect p
      | _ => (put (s.modLanes p LaneSt.off)).toDetect p

/-- A local port that becomes upstream without a CHN takes the lowest free one; one whose ROLE stops
being upstream releases its own, once the host loss of its link-down has been applied (R134). -/
def State.chnUpdate (s : State) (t : Nat) : State :=
  (List.range 16).foldl (fun s i =>
    let p := 16 * t + i
    let c := (s.port p).cfg
    match s.chnOfPort p with
    | some n =>
      let due := s.home.lossDue.any fun x => x.1 == n
      if c.role = 1 then s.modHost n fun h => { h with leaving := false }
      else s.modHost n fun h => if due then { h with leaving := true } else { h with valid := false }
    | none =>
      if c.en && c.role == 1 then
        match (List.range 1024).find? fun n => !(s.host n).valid with
        | some n => s.modHost n fun h => { h with valid := true, remote := false, who := p }
        | none => s
      else s) s

/-- The sum of A over the other upstream and trunk ports (R139). -/
def State.allowSum (s : State) (p : Nat) : Nat :=
  s.prt.ports.foldl (fun n x => if x.1 ≠ p ∧ x.2.cfg.role ≠ 0 then n + x.2.allow else n) 0
/-- A port that becomes an upstream or a trunk port keeps as much of its A as the sum has room for (R139). -/
def State.fitAllow (s : State) (p : Nat) : State :=
  if (s.port p).cfg.role = 0 then s else s.modPort p fun x => { x with allow := min x.allow (3584 - s.allowSum p) }

/-- Apply settings to the block of port `p` and resolve its tile; `none` where a 513th upstream port
would be enabled (R76, R77). -/
def State.configure (s : State) (p : Nat) (c : PortCfg) : Option State :=
  let t := p / 16
  let blocks := (List.range 16).map fun i => (i, if i = p % 16 then c else (s.port (16 * t + i)).cfg)
  let new := resolveLayout [] blocks
  let ups := s.upstreamCount + (new.filter fun x => x.2.en && x.2.role == 1).length
    - ((List.range 16).filter fun i => (s.port (16 * t + i)).cfg.en && (s.port (16 * t + i)).cfg.role == 1).length
  if 512 < ups then none
  else
    -- a block that is disabled gives its lanes up before another port takes them
    let s := (new.filter fun x => !x.2.en).foldl (fun s x => s.applyBlock (16 * t + x.1) x.2) s
    let s := (new.filter fun x => x.2.en).foldl (fun s x => s.applyBlock (16 * t + x.1) x.2) s
    let s := (List.range 16).foldl (fun s i => s.fitAllow (16 * t + i)) ((s.repower t).chnUpdate t)
    some ((List.range 17).foldl (fun s o => s.restop t o) s)

/-! ### Port opcodes (Table 04-7) -/

/-- The port that the descriptor's TARGET names, clamped into the range of every variant. -/
def targetPort (c : Cmd) : Nat := min 1023 c.target
/-- The clamp of TARGET as a port. -/
def targetClamp (c : Cmd) (hi : Nat) : Option Nat := if hi < c.target then some 4 else none
/-- The port named does not exist on this variant (R5). -/
def portAbsent (c : Cmd) (s : State) : Bool := !s.portExists (targetPort c)
/-- RESULT of a command that has no meaning for a block that is not an enabled port (R99). -/
abbrev noPort : Nat := 0xFFFFFFFF

/-- PORT_CONFIG. -/
def opPortConfig : OpSpec :=
  { code := 0x10, absent := portAbsent
    body := fun _ c s =>
      let p := targetPort c
      let v := c.le 16 4
      match s.configure p (PortCfg.of v) with
      | none => .bad s stNoResource (minClamp (targetClamp c 1023) (if (PortCfg.of v).image ≠ v % 2 ^ 15 then some 16 else none))
      | some s' =>
        let eff := (s'.port p).cfg.image
        .ok s' eff (minClamp (targetClamp c 1023) (if eff ≠ v % 2 ^ 15 then some 16 else none)) }

/-- PORT_DISABLE. -/
def opPortDisable : OpSpec :=
  { code := 0x11, absent := portAbsent
    body := fun _ c s =>
      let p := targetPort c
      let s' := (s.configure p { (s.port p).cfg with en := false }).getD s
      .ok s' (s'.port p).gen (targetClamp c 1023) }

/-- PORT_RETRAIN. -/
def opPortRetrain : OpSpec :=
  { code := 0x12, absent := portAbsent
    body := fun _ c s =>
      let p := targetPort c
      let (m, cl) := c.ranged 16 1 0 1
      let cl := minClamp (targetClamp c 1023) cl
      if !(s.port p).cfg.en then .ok s noPort cl
      else if m = 0 then .ok (if (s.port p).state = .up then s.emit (.retrain (Fin.ofNat 1024 p)) else s) 0 cl
      else .ok (s.downToDetect p) 0 cl }

/-- PORT_STATUS. -/
def opPortStatus : OpSpec :=
  { code := 0x13, absent := portAbsent
    body := fun _ c s => .ok s (s.port (targetPort c)).status (targetClamp c 1023) }

/-- A contained port is released to DETECT (R90). -/
def State.dpcRelease (s : State) (p : Nat) : State :=
  if (s.port p).state = .contained then s.toDetect p else s

/-- PORT_DPC_RELEASE. -/
def opPortDpcRelease : OpSpec :=
  { code := 0x14, absent := portAbsent
    body := fun _ c s =>
      let p := targetPort c
      .ok (s.dpcRelease p) (bit ((s.port p).state != .contained)) (targetClamp c 1023) }

/-- Logical devices in a map. -/
def popCount16 (n : Nat) : Nat := ((List.range 16).filter (bitOf n ·)).length

/-- PORT_LD_QUERY. -/
def opPortLdQuery : OpSpec :=
  { code := 0x15, absent := portAbsent
    body := fun _ c s =>
      let m := (s.port (targetPort c)).ldMap
      .ok s (m + 2 ^ 16 * popCount16 m) (targetClamp c 1023) }

/-- Open a tunnelled CCI request (R93). -/
def State.openTunnel (s : State) (p : Nat) (tk : Ticket) (fm : Bool) (ld respAddr cap : Nat) (req : List Byte) : State :=
  (s.modPort p fun x => { x with tunnel := some { ticket := tk, fm := fm, respAddr := respAddr, capacity := cap,
                                                  deadline := s.clock + ms16 2000 } }).emit
    (.cciRequest (Fin.ofNat 1024 p) ld req)

/-- PORT_CCI_TUNNEL. -/
def opPortCciTunnel : OpSpec :=
  { code := 0x16, absent := portAbsent
    body := fun tk c s =>
      let p := targetPort c
      let (n, c1) := c.ranged 24 4 4 4096
      let raw := c.le 40 2
      let ld := if raw = 0xFFFF then raw else min 15 raw
      let cl := minClamp (targetClamp c 1023) (minClamp c1 (if ld ≠ raw then some 40 else none))
      if !(s.port p).cfg.en then .ok s noPort cl
      else if (s.port p).tunnel.isSome then .bad s stBusy cl
      else .later (s.openTunnel p { tk with clamp := minClamp tk.clamp cl } false ld (c.le 28 8) (c.le 36 4)
        (s.mgrRead (c.le 16 8) n)) }

/-- No port keeps edge index `i`: an index belongs to one port (R94). -/
def State.dropEdge (s : State) (i : Nat) : State :=
  s.prt.ports.foldl (fun s x => if x.2.edge = some i then s.setPort x.1 { x.2 with edge := none } else s) s

/-- PORT_PBR_SET. -/
def opPortPbrSet : OpSpec :=
  { code := 0x17, absent := fun c s => min 4 (c.byte 16) != 0 && portAbsent c s
    body := fun _ c s =>
      let p := targetPort c
      let (f, c0) := c.ranged 16 1 0 4
      let (dev, c1) := c.ranged 17 1 0 7
      let (g, c2) := c.ranged 18 1 0 7
      match f with
      | 0 => .ok (({ s with prt := { s.prt with pbrDev := some dev } }).markDirty 2) 0 (minClamp c0 c1)
      | 1 =>
        let raw := c.le 18 2
        let e := if raw = 0xFFFF then none else some (min 511 raw)
        let cl := minClamp (targetClamp c 1023) (minClamp c0 (if raw ≠ 0xFFFF ∧ 511 < raw then some 18 else none))
        let s := match e with
          | some i => s.dropEdge i
          | none => s
        .ok (s.modPort p fun x => { x with edge := e }) 0 cl
      | 2 => .ok { s with prt := { s.prt with routes := tset none s.prt.routes dev (some g) } } 0
          (minClamp (targetClamp c 1023) (minClamp c0 (minClamp c1 c2)))
      | 3 =>
        let cl := minClamp (targetClamp c 1023) (minClamp c0 c2)
        if (s.port p).group != some g && decide (8 ≤ ((s.prt.ports.filter fun x => x.2.group == some g).length)) then
          .bad s stNoResource cl
        else .ok (s.modPort p fun x => { x with group := some g }) 0 cl
      | _ => .ok (s.modPort p fun x => { x with group := none }) 0 (minClamp (targetClamp c 1023) c0) }

/-- PORT_IDE_CTRL. -/
def opPortIdeCtrl : OpSpec :=
  { code := 0x18, absent := fun c s => !s.isF || portAbsent c s
    body := fun _ c s =>
      let p := targetPort c
      let (f, c0) := c.ranged 16 1 0 2
      let (r, c1) := c.ranged 17 1 0 1
      let cl := minClamp (targetClamp c 1023) (minClamp c0 c1)
      let s := s.modPort p fun x => { x with ideRequired := r == 1 }
      let s := match f with
        | 0 => (s.modPort p fun x => { x with ideState := 0 }).emit (.ideKm (Fin.ofNat 1024 p) false)
        | 1 => (s.modPort p fun x => { x with ideState := 1 }).emit (.ideKm (Fin.ofNat 1024 p) true)
        | _ => s.emit (.ideKm (Fin.ofNat 1024 p) true)
      .ok s (s.port p).ideStatus cl }

/-- PORT_HOT_RESET. -/
def opPortHotReset : OpSpec :=
  { code := 0x19, absent := portAbsent
    body := fun _ c s =>
      let p := targetPort c
      if !(s.port p).cfg.en then .ok s noPort (targetClamp c 1023)
      else if (s.port p).cfg.role ≠ 0 then .bad s stDenied (targetClamp c 1023)
      else .ok ((s.emit (.hotReset (Fin.ofNat 1024 p))).downToDetect p) 0 (targetClamp c 1023) }

/-- PORT_ERR_CLEAR. -/
def opPortErrClear : OpSpec :=
  { code := 0x1A, absent := portAbsent
    body := fun _ c s =>
      .ok (s.modPort (targetPort c) fun x => { x with err := 0, replay := 0, fec := 0, poisonOut := 0, npSynth := 0,
                                                      ideFail := 0 }) 0 (targetClamp c 1023) }

/-! ### Events of a port -/

/-- RECEIVER_DETECTED: a partner is detected with the gate open (Table 04-3). -/
def State.receiverDetected (s : State) (p : Nat) : State :=
  let x := s.port p
  let l := s.tileLnk (p / 16)
  if s.portExists p && x.cfg.en && x.state == .detect && l.powered && l.pllLock && !s.gateShut p
      && decide (x.quietUntil ≤ s.clock) && !(s.eqLane p).unused then
    let s := s.modPort p fun x => { x with shelfHold := false
                                           from16 := if x.cfg.shelfGate ∧ x.from16 ≠ 0 then x.from16 else s.clock }
    (s.modLanes p fun x => { x with rate := 1, idle := false }).portTo p .training
  else s

/-- The first `n` entries arrive straight or reversed. -/
def inOrder (order : List Byte) (n : Nat) : Bool :=
  let xs := (order.take n).map (·.toNat)
  xs == (List.range n) || xs == (List.range n).reverse
/-- The widest legal width code up to `w` whose first lanes are all wired and arrive in order. -/
def State.usableWidth (s : State) (p : Nat) (order : List Byte) : Nat → Nat
  | 0 => 0
  | w + 1 =>
    let n := 2 ^ (w + 1)
    if ((List.range n).all fun i => !(s.eqLane (p + i)).unused) && (order.isEmpty || inOrder order n) then w + 1
    else s.usableWidth p order w

/-- The flit mode that a port takes with its partner at a rate (Table 04-2, R78): `none` where it is refused. -/
def modeFor (c : PortCfg) (rate : Nat) (t : TrainResult) : Option Nat :=
  match t.mode.val with
  | 3 => some (if c.allowLopt then 3 else 2)
  | 2 => some 2
  | m =>
    if rate = 6 then none
    else if t.cxl then (if m = 1 ∧ c.allow68 = true then some 1 else none)
    else some 0

/-- A refused mode: an error record, and Detect.Quiet before the retry (Table 04-3). -/
def State.refuseMode (s : State) (p mode rate : Nat) (flag : Bool) : State :=
  let s := s.modPort p fun x => { x with mode := mode, err := if flag then x.err ||| 64 else x.err }
  ((s.record 0x44 (p / 16) s.now64 [(2, p), (1, mode), (1, rate)]).quiet p).toDetect p

/-- Lanes excluded by miswiring (R62), with the record. -/
def State.noteMiswired (s : State) (p n : Nat) (t : TrainResult) : State :=
  let all := widthLanes (s.port p).cfg.width
  if t.laneOrder.isEmpty || inOrder t.laneOrder all then s
  else
    let s := ((List.range all).filter (fun i => decide (n ≤ i))).foldl (fun s i =>
      s.turnLane (p + i) fun l => { l with miswired := true, rate := 0, idle := true }) s
    s.recordBytes 0x43 (p / 16) s.now64 (leBytes 2 p ++ fitTo 16 (t.laneOrder ++ List.replicate 16 0xFF))

/-- The transmit preset of a lane at a rate code: the override where one is enabled (R55, R58). -/
def State.txPreset (s : State) (l rate : Nat) : Nat :=
  let e := s.eqLane l
  let x := s.lane l
  if x.ovrEn && x.ovrRate == rate - 3 then x.ovrTx
  else match rate with | 3 => e.tx8 | 4 => e.tx16 | 5 => e.tx32 | _ => e.tx64
/-- The preset requested from the partner (R57). -/
def State.reqPreset (s : State) (l rate : Nat) : Nat :=
  let e := s.eqLane l
  let x := s.lane l
  if x.ovrEn && x.ovrRate == rate - 3 then x.ovrReq
  else match rate with | 3 => e.req8 | 4 => e.req16 | 5 => e.req32 | _ => e.req64

/-- An override is in effect for the lane at a rate code; it displaces the table's preset and its custom coefficients
(R58, log entry 84). -/
def State.ovrAt (s : State) (l rate : Nat) : Bool := (s.lane l).ovrEn && (s.lane l).ovrRate == rate - 3
/-- The custom coefficients C-2, C-1 and C+1 of a lane at a rate code, if it uses them (Table 03-3). -/
def State.custom (s : State) (l rate : Nat) : Option (Nat × Nat × Nat) :=
  let e := s.eqLane l
  if s.ovrAt l rate then none
  else if rate = 6 ∧ e.custom64 = true then some (e.cm2, e.cm1, e.cp1)
  else if rate = 5 ∧ e.custom32 = true then some (0, e.c32m1, e.c32p1)
  else none
/-- What a lane transmits at a rate code. -/
def State.txSetting (s : State) (l rate : Nat) : TxSetting :=
  match s.custom l rate with
  | some (a, b, c) => .cursors (BitVec.ofNat 6 a) (BitVec.ofNat 6 b) (BitVec.ofNat 6 c)
  | none => .preset (BitVec.ofNat 4 (s.txPreset l rate))
/-- A setting as coefficients: a preset's are the standard's. -/
def cursorsOf (rate : Nat) : TxSetting → Nat × Nat × Nat
  | .preset p => Config.presetCursors rate p.toNat
  | .cursors a b c => (a.toNat, b.toNat, c.toNat)
/-- The partner asks a lane for a setting: the table's own is reflected, rejected unless it is the one asked for (R57). -/
def State.answerEq (s : State) (p : Nat) (r : EqRequest) : State :=
  let own := s.txSetting (p + r.off.val) r.rate.val
  s.emit (.eqAnswer (p + r.off.val) r.rate.val own (own == r.setting || cursorsOf r.rate.val own == cursorsOf r.rate.val r.setting))

/-- What equalisation leaves on a lane (R55, R57). -/
def State.equalise (s : State) (l rate i : Nat) (t : TrainResult) : State :=
  let e := s.eqLane l
  let c := (s.custom l rate).getD (0, 0, 0)
  let req := s.reqPreset l rate
  s.setLane l { s.laneNow l with
    rate := rate, idle := false, cdrLock := true, polInv := t.polarity.getLsbD i, reversed := t.reversed
    txPreset := s.txPreset l rate, txCustom := (s.custom l rate).isSome, txCm2 := c.1, txCm1 := c.2.1, txCp1 := c.2.2
    reqPreset := req, partner := match t.presets.find? fun x => x.1.val == i with | some x => x.2.toNat | none => req
    ctle := if rate = 6 then e.ctle64 else e.ctleLow, dfe := Config.dfeSeed rate e.loss % 256, adaptAt := s.clock }

/-- Start lane loop `mode` 1 to 4 on an enabled port (R60, R61). -/
def State.loopStart (s : State) (p mode pattern rate : Nat) : State :=
  if (s.port p).state = .disabled then s
  else
    let s := if (s.port p).state = .up then s.linkDown p else s
    let s := s.modPort p fun x => { x with loopReq := some (mode, pattern, rate) }
    (s.portTo p .loop).loopRun p

/-- LINK_UP: training ends in L0, in a loop that the partner asked for, or the mode is refused (R60, R76, R78, R79, R84,
R98). -/
def State.linkUp (s : State) (p : Nat) (t : TrainResult) : State :=
  let x := s.port p
  if x.state ≠ .training then s
  else
    let rate := min t.rate.val x.cfg.maxRate
    if rate < 3 then s
    else if t.loopback then (if s.lnk.follow.contains p then s.loopStart p 4 0 rate else s)
    else match modeFor x.cfg rate t with
      | none => s.refuseMode p t.mode.val rate false
      | some mode =>
        if x.cfg.role = 2 ∧ mode < 2 then s.refuseMode p mode rate true
        else
          let w := min t.width.val (s.usableWidth p t.laneOrder x.cfg.width)
          let us := min (2 ^ 24 - 1) ((s.clock - x.from16) / 16000)
          let slow := decide (ms16 20 < s.clock - x.from16)
          let s := s.noteMiswired p (2 ^ w) t
          let s := t.requests.foldl (fun s r => if r.off.val < 2 ^ w then s.answerEq p r else s) s
          let s := (List.range (2 ^ w)).foldl (fun s i => s.equalise (p + i) rate i t) s
          let err := (if w < x.cfg.width then (32 : BitVec 8) else 0) ||| (if slow then 128 else 0)
          let s := s.modPort p fun x => { x with
            width := w, rate := rate, mode := mode, cxl := t.cxl, mld := t.mld, dcd := t.dcd, active := false
            ldMap := t.ldMap.toNat, linkupTime := us, err := x.err ||| err, openMsg := none, ideState := 0 }
          let s := if slow then s.event 0x11 (p / 16) s.now64 [(2, p), (4, us)] else s
          ((s.portTo p .up).slotNote p true true).streamsPort p true

/-- LINK_DOWN: the link leaves L0 or DL_Down is reported (R84, R90). -/
def State.linkDownEvent (s : State) (p : Nat) (surprise : Bool) : State :=
  if (s.port p).state = .up then
    if surprise then
      let s := s.modPort p fun x => { x with err := x.err ||| 1 }
      if (s.port p).cfg.dpcEn then s.contain p else s.downToDetect p
    else s.downToDetect p
  else s.downToDetect p

/-- ERR_FATAL (R90): on an upstream port it is only logged, under AER. -/
def State.errFatal (s : State) (p : Nat) : State :=
  if (s.port p).cfg.role = 1 then s.modPort p fun x => { x with aer := true } else s.contain p

/-- An IDE failure: kinds 1 MAC, 2 sequence (R96). -/
def State.ideFail (s : State) (p kind : Nat) : State :=
  let s := s.modPort p fun x => { x with err := x.err ||| 8, ideFail := satAdd 32 x.ideFail 1 }
  let s := s.record 0x46 (p / 16) s.now64 [(2, p), (1, kind), (1, (s.port p).keySet)]
  (s.contain p).modPort p fun x => { x with ideState := 3 }

/-- FLIT_RECEIVE (R80, R82, R96). -/
def State.flitReceive (s : State) (p : Nat) (f : FlitResult) : State :=
  let t := p / 16
  let off := p % 16
  if (s.port p).state ≠ .up then s
  else
    -- the slots of the open message that this flit carries arrive; another message may open in it
    let opened (poison : Bool) (s : State) : State :=
      let stamp := f.stamp.toNat
      match (s.port p).openMsg with
      | some o =>
        if f.slotsLeft ≠ 0 ∧ o.stamp = stamp then s.slotsArrive p (o.slots - f.slotsLeft) poison
        else (s.slotsArrive p o.slots poison).modPort p fun x =>
          { x with openMsg := if f.slotsLeft = 0 then none else some { stamp := stamp, slots := f.slotsLeft } }
      | none => s.modPort p fun x => { x with openMsg := if f.slotsLeft = 0 then none else some { stamp := stamp, slots := f.slotsLeft } }
    let turnsBad := match (s.port p).openMsg with | some o => s.openHeadLeft p o | none => false
    match f.outcome with
    | .good => opened false (s.cntTile t 0x10 none (some off))
    | .fecFixed =>
      opened false (((s.modPort p fun x => { x with fec := satAdd 16 x.fec 1 }).cntTile t 0x13 none (some off)).cntTile t 0x10 none (some off))
    | .crcFail => (s.modPort p fun x => { x with replay := satAdd 16 x.replay 1 }).cntTile t 0x12 none (some off)
    | .macFail => if s.isF && (s.port p).ideState == 2 then s.ideFail p 1 else s
    | .sequenceFail => if s.isF && (s.port p).ideState == 2 then s.ideFail p 2 else s
    | .sourcePoison =>
      let s := s.cntTile t 0x10 none (some off)
      if turnsBad then s.poisonOpen p 2 else opened true s
    | .bufferEcc => (s.cntTile t 0x10 none (some off)).poisonOpen p 3
    | .internalError => s.contain p
    | .linkDown => s.linkDownEvent p true

/-- TRACKER_FREE: the last response of a request has left the requester's port (R87, R216). -/
def State.trackerFree (s : State) (t p tag : Nat) : State :=
  match (s.trackers t).find? fun e => e.port == p && e.tag == tag with
  | none => s
  | some e =>
    let s := s.modTrackers t fun l => l.erase e
    if e.settled then s else s.settle t e.epoch

/-- CCI_TUNNEL_RESPONSE (R93). -/
def State.tunnelResponse (s : State) (p : Nat) (body : List Byte) : State :=
  match (s.port p).tunnel with
  | none => s
  | some t =>
    let s := s.modPort p fun x => { x with tunnel := none }
    if t.fm then s.emit (.fmReply 0x5300 .success body)
    else (s.mgrWrite t.respAddr (body.take t.capacity)).complete t.ticket stOk body.length

/-- CCI_TUNNEL_TIMEOUT (R93). -/
def State.tunnelTimeout (s : State) (p : Nat) : State :=
  match (s.port p).tunnel with
  | none => s
  | some t =>
    if t.deadline ≤ s.clock then
      let s := s.modPort p fun x => { x with tunnel := none }
      if t.fm then s.emit (.fmReply 0x5300 .retry []) else s.complete t.ticket stTimeout 0
    else s

/-- IDE_KM_MESSAGE (R96). -/
def State.ideKm (s : State) (p : Nat) (e : IdeEvent) : State :=
  if !s.isF || (s.port p).state != .up then s
  else s.modPort p fun x => match e with
    | .progress => if x.cfg.role = 1 ∧ x.ideState = 0 then { x with ideState := 1 } else x
    | .secure k => if x.ideState = 1 then { x with ideState := 2, keySet := k.toNat } else x
    | .refreshed k => if x.ideState = 2 then { x with keySet := k.toNat, ideRefresh := (x.ideRefresh + 1) % 2 ^ 32 } else x
    | .failed => if x.ideState = 1 then { x with ideState := 0 } else x

/-- ELECTRICAL_IDLE_ENTRY (R59): the named lanes of an UP port enter idle. -/
def State.idleEntry (s : State) (p : Nat) (lanes : BitVec 16) : State :=
  if (s.port p).state ≠ .up then s
  else (s.portLanes p).foldl (fun s l => if lanes.getLsbD (l - p) then s.turnLane l fun x => { x with idle := true } else s) s

/-! ### The PRT sub-window (Tables 04-8, 04-9) -/

/-- Bits by lane offset. -/
def bits16 (f : Nat → Bool) : Nat := (List.range 16).foldl (fun n i => n + 2 ^ i * bit (f i)) 0

/-- A read of tile `t`'s PRT sub-window. -/
def State.prtRead (s : State) (t o : Nat) : Nat :=
  if 0x1000 ≤ o ∧ o < 0x5000 then
    let p := 16 * t + (o - 0x1000) / 0x400
    let x := s.port p
    match (o - 0x1000) % 0x400 with
    | 0x00 => x.cfg.image
    | 0x04 => x.status
    | 0x08 => x.gen
    | 0x0C => match s.portPid p with | some q => q + 2 ^ 15 | none => 0
    | 0x10 => x.err.toNat
    | 0x14 => x.replay + 2 ^ 16 * x.fec
    | 0x18 => x.poisonOut
    | 0x1C => x.npSynth
    | 0x20 => x.linkupTime
    | 0x24 => x.ldMap
    | _ => 0
  else if 0x8000 ≤ o ∧ o < 0x9000 then
    if !s.isF then 0
    else
      let x := s.port (16 * t + (o - 0x8000) / 0x100)
      match (o - 0x8000) % 0x100 with
      | 0x0 => bit x.ideRequired
      | 0x4 => x.ideStatus
      | 0x8 => x.ideFail
      | 0xC => x.ideRefresh
      | _ => 0
  else match o with
    | 0x00 => bits16 (fun i => (s.port (16 * t + i)).cfg.en) + 2 ^ 16 * bits16 (fun i => (s.port (16 * t + i)).state == .up)
    | 0x04 => (s.trackers t).length
    | 0x08 => tget 0 s.prt.trkFull t
    | 0x0C => s.upstreamCount
    | 0x10 => match s.prt.pbrDev with | some d => d + 8 | none => 0
    | _ => 0

/-- A write to tile `t`'s PRT sub-window. -/
def State.prtWrite (s : State) (t o v : Nat) : State :=
  if 0x1000 ≤ o ∧ o < 0x5000 then
    let p := 16 * t + (o - 0x1000) / 0x400
    match (o - 0x1000) % 0x400 with
    | 0x00 => s.sidePush 0x10 (sideCmd p 0 [(16, 4, v)])
    | 0x10 => s.modPort p fun x => { x with err := x.err &&& ~~~ BitVec.ofNat 8 v }
    | _ => s
  else if 0x8000 ≤ o ∧ o < 0x9000 ∧ (o - 0x8000) % 0x100 = 0 ∧ s.isF then
    s.modPort (16 * t + (o - 0x8000) / 0x100) fun x => { x with ideRequired := bitOf v 0 }
  else s

/-! ### The commands -/

/-- PORT_CONFIG (R76). -/
def execPortConfig (c : Cmd) (s : State) : Answer := act s (opPortConfig.submit c)
/-- PORT_DISABLE (R99). -/
def execPortDisable (c : Cmd) (s : State) : Answer := act s (opPortDisable.submit c)
/-- PORT_RETRAIN (R99). -/
def execPortRetrain (c : Cmd) (s : State) : Answer := act s (opPortRetrain.submit c)
/-- PORT_STATUS (R99). -/
def execPortStatus (c : Cmd) (s : State) : Answer := act s (opPortStatus.submit c)
/-- PORT_DPC_RELEASE (R90). -/
def execPortDpcRelease (c : Cmd) (s : State) : Answer := act s (opPortDpcRelease.submit c)
/-- PORT_LD_QUERY (R91). -/
def execPortLdQuery (c : Cmd) (s : State) : Answer := act s (opPortLdQuery.submit c)
/-- PORT_CCI_TUNNEL (R93). -/
def execPortCciTunnel (c : Cmd) (s : State) : Answer := act s (opPortCciTunnel.submit c)
/-- PORT_PBR_SET (R94). -/
def execPortPbrSet (c : Cmd) (s : State) : Answer := act s (opPortPbrSet.submit c)
/-- PORT_IDE_CTRL (R96). -/
def execPortIdeCtrl (c : Cmd) (s : State) : Answer := act s (opPortIdeCtrl.submit c)
/-- PORT_HOT_RESET (R99). -/
def execPortHotReset (c : Cmd) (s : State) : Answer := act s (opPortHotReset.submit c)
/-- PORT_ERR_CLEAR (R99). -/
def execPortErrClear (c : Cmd) (s : State) : Answer := act s (opPortErrClear.submit c)
/-- RECEIVER_DETECTED (R84). -/
def execReceiverDetected (port : Port) (s : State) : Answer := act s fun s => s.receiverDetected port
/-- LINK_UP (R84). -/
def execLinkUp (port : Port) (t : TrainResult) (s : State) : Answer := act s fun s => s.linkUp port t
/-- LINK_DOWN (R86). -/
def execLinkDown (port : Port) (surprise : Bool) (s : State) : Answer := act s fun s => s.linkDownEvent port surprise
/-- ERR_FATAL (R90). -/
def execErrFatal (port : Port) (s : State) : Answer := act s fun s => s.errFatal port
/-- FLIT_RECEIVE (R80). -/
def execFlitReceive (port : Port) (flit : FlitResult) (s : State) : Answer := act s fun s => s.flitReceive port flit
/-- TRACKER_FREE (R87). -/
def execTrackerFree (tile : Tile) (port : Port) (tag : BitVec 16) (s : State) : Answer :=
  act s fun s => s.trackerFree tile port tag.toNat
/-- CCI_TUNNEL_RESPONSE (R93). -/
def execCciTunnelResponse (port : Port) (body : List Byte) (s : State) : Answer := act s fun s => s.tunnelResponse port body
/-- CCI_TUNNEL_TIMEOUT (R93). -/
def execCciTunnelTimeout (port : Port) (s : State) : Answer := act s fun s => s.tunnelTimeout port
/-- IDE_KM_MESSAGE (R96). -/
def execIdeKmMessage (port : Port) (event : IdeEvent) (s : State) : Answer := act s fun s => s.ideKm port event
/-- ELECTRICAL_IDLE_ENTRY (R59). -/
def execElectricalIdleEntry (port : Port) (lanes : BitVec 16) (s : State) : Answer := act s fun s => s.idleEntry port lanes
/-- IDLE_EXIT (R59): the lane leaves idle with its held CDR phase and taps. -/
def execIdleExit (lane : Lane) (s : State) : Answer :=
  act s fun s => if (s.lane lane).idle && (s.lane lane).rate != 0 then
    s.turnLane lane fun x => { x with idle := false, cdrLock := true } else s

end Sys2Proof.Machine
end

