-- ==== Sys2Proof/Machine/HomeBuffer.lean ====
section
/-!
DEFINITION. The write buffer of a home slice (R149, R156), poisoning (R156), and the first-write
procedure of zero-fill (R187 to R190).
-/

namespace Sys2Proof.Machine

/-- Island of a slice (Table 02-1). -/
abbrev sliceIsland (k : Nat) : Nat := 64 + k
/-- The slice as an operand. -/
def sliceFin (k : Nat) : Slice := Fin.ofNat 16 k

/-- The write-buffer entry of a line. -/
def SliceSt.buffered (x : SliceSt) (line : Nat) : Option WEntry := tget none x.wbuf line
/-- Write the buffer entry of a line. -/
def State.setBuf (s : State) (k line : Nat) (e : Option WEntry) : State :=
  s.modSlice k fun x =>
    let b := tset none x.wbuf line e
    { x with wbuf := b, wbufMax := max x.wbufMax b.length }

/-! ### Backing requests (R149, R182) -/

/-- A message of a slice to a backing device. -/
def backingMsg (t : Target) (line : Nat) (kind : MsgKind) (tag vfi : Nat) : Msg :=
  { kind := kind, mv := .noOp, addr := BitVec.ofNat 64 (line * 64), dev := BitVec.ofNat 64 t.base, tag := BitVec.ofNat 16 tag
    ld := BitVec.ofNat 4 t.ld, dst := BitVec.ofNat 10 t.port, vfi := BitVec.ofNat 8 vfi, home := true }

/-- Issue a backing write: to a memory island, or to the shelf's port. -/
def State.backWrite (s : State) (k line : Nat) (t : Target) (data : BitVec 512) (mask : BitVec 64) (poison : Bool)
    (vfi : Nat) : State :=
  let s := s.cntSlice k 0x8D
  if t.pool then
    s.memSubmit { cls := 2, stamp := s.clock, island := sliceIsland k, line := t.base / 64, write := true,
                  user := .write k line, data := data, mask := mask, poison := poison }
  else
    let kind : MsgKind := if mask = BitVec.allOnes 64 then .memWr else .memWrPtl
    s.emit (.issue (.slice (sliceFin k)) { backingMsg t line kind line vfi with data := data, be := mask, poison := poison })
/-- Issue a backing read for transaction `id`; one of a coherent stream goes in the MSE class (R263). -/
def State.backRead (s : State) (k id line : Nat) (t : Target) (vfi : Nat) (engine : Bool := false) : State :=
  let s := s.cntSlice k 0x8C
  if t.pool then
    s.memSubmit { cls := if engine then 1 else 2, stamp := s.clock, island := sliceIsland k, line := t.base / 64, write := false, user := .backing k id }
  else s.emit (.issue (.slice (sliceFin k)) (backingMsg t line .memRd id vfi))

/-! ### Entries -/

/-- What a list of writes says of a line, laid one over the other: data, bytes written, poison. A write of the whole line
replaces the poison of those before it. -/
def overWrites (v : BitVec 512 × BitVec 64 × Bool) (l : List (BitVec 512 × BitVec 64 × Bool)) : BitVec 512 × BitVec 64 × Bool :=
  l.foldl (fun v w => (overlay v.1 w.1 w.2.1, v.2.1 ||| w.2.1, if w.2.1 = BitVec.allOnes 64 then w.2.2 else v.2.2 || w.2.2)) v
/-- What a read is served from an entry: once its write has been reissued poisoned, only later writes of the whole line
serve (Table 06-6). -/
def WEntry.view (e : WEntry) : BitVec 512 × BitVec 64 × Bool :=
  let v := if e.reissued then
      if e.later = BitVec.allOnes 64 then (e.data, e.later, e.laterPoison) else (0, BitVec.allOnes 64, true)
    else (e.data, e.mask, e.poison)
  overWrites v (e.parts.map fun p => (p.data, p.mask, p.poison))
/-- What the write buffer, and the writes that wait for it, say of a line (R149). -/
def SliceSt.bufView (x : SliceSt) (line : Nat) : BitVec 512 × BitVec 64 × Bool :=
  overWrites (match x.buffered line with | some e => e.view | none => (0, 0, false))
    ((x.wwait.filter (·.line == line)).map fun w => (w.data, w.mask, w.poison))

/-- The buffer can take a write to the line now. -/
def SliceSt.room (x : SliceSt) (line : Nat) : Bool := (x.buffered line).isSome || decide (x.wbuf.length < 1024)

/-- Lay a write over an entry that goes to the same target (R149). -/
def WEntry.merge (e : WEntry) (w : WWait) : WEntry :=
  let full := decide (w.mask = BitVec.allOnes 64)
  { e with
    data := overlay e.data w.data w.mask, mask := e.mask ||| w.mask, poison := if full then w.poison else e.poison || w.poison
    later := e.later ||| w.mask, laterPoison := if full then w.poison else e.laterPoison || w.poison
    gen := w.gen, vfi := w.vfi }
/-- Add a write to an entry: bytes for another target than the last ones wait behind them (R182). -/
def WEntry.add (e : WEntry) (w : WWait) : WEntry :=
  let part : WPart := { data := w.data, mask := w.mask, poison := w.poison, gen := w.gen, tgt := w.tgt, copyEpoch := w.copyEpoch,
                        vfi := w.vfi }
  match e.parts.getLast? with
  | none => if e.tgt = w.tgt then e.merge w else { e with parts := [part] }
  | some p =>
    if p.tgt = w.tgt then
      let v := overWrites (p.data, p.mask, p.poison) [(w.data, w.mask, w.poison)]
      { e with parts := e.parts.dropLast ++ [{ p with data := v.1, mask := v.2.1, poison := v.2.2, gen := w.gen, vfi := w.vfi }] }
    else { e with parts := e.parts ++ [part] }

/-- Place a write: a new entry is issued at once, an old one takes the bytes (R149). -/
def State.bufPlace (s : State) (k : Nat) (w : WWait) : State :=
  match (s.slice k).buffered w.line with
  | some e => s.setBuf k w.line (some (e.add w))
  | none =>
    let e : WEntry := { data := w.data, mask := w.mask, poison := w.poison, gen := w.gen, tgt := w.tgt, copyEpoch := w.copyEpoch, vfi := w.vfi
                        ackEnd := s.clock + us16 (s.slice k).memTo }
    (s.setBuf k w.line (some e)).backWrite k w.line w.tgt w.data w.mask w.poison w.vfi

/-- Let a write wait for an entry with its line blocked (R156). -/
def State.bufHold (s : State) (k : Nat) (w : WWait) : State := s.modSlice k fun x => { x with wwait := x.wwait ++ [w] }
/-- Place a write, or let it wait, behind a write of its line that waits. -/
def State.bufRaw (s : State) (k : Nat) (w : WWait) : State :=
  let x := s.slice k
  if x.room w.line && !x.wwait.any (·.line == w.line) then s.bufPlace k w else s.bufHold k w

/-! ### Bitmap words (R187) -/

/-- A slice reads the bitmap word of a page: from its cache, or from LPDDR6 on the directory store's reservation. -/
def State.bitDraw (s : State) (k page : Nat) : State :=
  match s.placeOf (page * 64) with
  | none => s
  | some (_, p) =>
    let w := (p.bitAt page).1 / 8
    if !p.zeroFill || (s.slice k).bitWords.contains w then s
    else (s.modSlice k fun x => { x with bitWords := (w :: x.bitWords).take 512 }).dirDraw (w / 8) 1
/-- A zero write of the first-write procedure; a write already buffered stays in its place (R190). -/
def State.zeroWrite (s : State) (k line vfi : Nat) : State :=
  let x := s.slice k
  if (x.buffered line).isSome || x.wwait.any (·.line == line) then s
  else match s.lineTarget k line with
    | some (t, g) =>
      s.bufRaw k { line := line, data := 0, mask := BitVec.allOnes 64, poison := false, own := true, gen := g, tgt := t, vfi := vfi }
    | none => s.modSlice k fun x =>
        { x with zeroing := x.zeroing.map fun z => { z with owed := z.owed.filter (· != line) } }

/-- Pages that a slice has initiated. -/
def SliceSt.initiated (x : SliceSt) : Nat := (x.zeroing.filter (·.initiated)).length

/-- Begin the first-write procedure for a page: the table entry, what `f` writes, the zero writes of the
other lines, and zero P to the other slices (R190). -/
def State.startZero (s : State) (k page vfi : Nat) (f : State → State) : State :=
  let z : Zeroing := { page := page, initiated := true, owed := pageLines k page, vfi := vfi }
  let s := f (s.modSlice k fun x => { x with zeroing := x.zeroing ++ [z] })
  let s := (pageLines k page).foldl (fun s l => s.zeroWrite k l vfi) s
  ((List.range 16).filter (· != k)).foldl (fun s j => s.emit (.zeroP (sliceFin k) (sliceFin j) page)) s

/-- A write that may start a zeroing can be placed now. -/
def State.zeroRoom (s : State) (k line : Nat) : Bool := s.pageWritten k line || decide ((s.slice k).initiated < 64)

/-- Place a write to a coherent line by `place`, starting the first-write procedure where its page needs it. -/
def State.bufWith (s : State) (k : Nat) (w : WWait) (place : State → WWait → State) : State :=
  let s := s.bitDraw k (w.line / 64)
  if s.pageWritten k w.line then place s w
  else if (s.slice k).initiated < 64 then
    s.startZero k (w.line / 64) w.vfi fun s => place s { w with data := overlay 0 w.data w.mask, mask := BitVec.allOnes 64 }
  else s.bufHold k w
/-- Place a write to a coherent line. -/
def State.bufPut (s : State) (k : Nat) (w : WWait) : State := s.bufWith k w fun s w => s.bufRaw k w

/-- A waiting write can be placed: it is the first of its line, and there is room. -/
def State.canPlace (s : State) (k : Nat) (w : WWait) : Bool :=
  (s.slice k).room w.line && s.zeroRoom k w.line && (s.slice k).wwait.find? (·.line == w.line) == some w
/-- Place waiting writes while there is room: lines with a write of the home's own first (R156). -/
def State.drainWaits : Nat → State → Nat → State
  | 0, s, _ => s
  | n + 1, s, k =>
    let ws := (s.slice k).wwait
    match (ws.find? fun w => s.canPlace k w && ws.any fun v => v.own && v.line == w.line) <|> (ws.find? fun w => s.canPlace k w) with
    | none => s
    | some w =>
      drainWaits n ((s.modSlice k fun x => { x with wwait := x.wwait.erase w }).bufWith k w fun s w => s.bufPlace k w) k

/-- Poison a line (R156); `chn` is the lost host it is poisoned for (R160), `vfi` the instance that the write carries. -/
def State.poisonLine (s : State) (k line : Nat) (chn : Option Nat) (tgt : Option (Target × Nat)) (vfi : Nat) : State :=
  let s := s.modSlice k fun x =>
    { x with poisonCount := satAdd 32 x.poisonCount 1
             losses := x.losses.map fun m => if some m.chn = chn then
                { m with poisoned := satAdd 32 m.poisoned 1, lowest := if m.poisoned = 0 then line * 64 else min m.lowest (line * 64) }
              else m }
  let s := (s.cntSlice k 0x90).tally 11
  match tgt with
  | some (t, g) =>
    s.bufPut k { line := line, data := 0, mask := BitVec.allOnes 64, poison := true, own := true, gen := g, tgt := t
                 vfi := vfi }
  | none => s

/-! ### The end of a zeroing (R190, R191) -/

/-- Pages of a placement. -/
def Placement.pages (p : Placement) : Nat := 2 ^ (p.n - 12)
/-- A page of the placement is being initiated by some slice. -/
def State.zeroBusy (s : State) (p : Placement) : Bool :=
  s.home.slices.any fun x => x.2.zeroing.any fun z => z.initiated && p.covers (z.page * 64)

/-- DIR_ZERO_SET mode 0: start the first-write procedure for unwritten pages, in order, while the
initiating slices have entries; page P is initiated by slice P mod 16. -/
def State.zeroPump : Nat → State → Nat → State
  | 0, s, _ => s
  | n + 1, s, i =>
    match s.place i with
    | none => s
    | some p =>
      match p.zeroOff with
      | none => s
      | some at' =>
        if p.pages ≤ at' then s
        else
          let page := p.base / 4096 + at'
          let next (s : State) : State := s.modPlace i fun q => q.map fun q => { q with zeroOff := some (at' + 1) }
          if s.bitmapBit p page || s.home.slices.any (fun x => x.2.zeroing.any fun z => z.page == page) then zeroPump n (next s) i
          else if (s.slice (page % 16)).initiated < 64 then zeroPump n (next (s.startZero (page % 16) page 0 id)) i
          else s
/-- Mode 0 ends when the last page is set. -/
def State.zeroOffDone (s : State) (i : Nat) : State :=
  match s.place i with
  | none => s
  | some p =>
    match p.zeroOff with
    | none => s
    | some at' =>
      if p.pages ≤ at' && !s.zeroBusy p then
        let s := s.setPlace i (some { p with zeroFill := false, zeroOff := none, zeroTicket := none })
        match p.zeroTicket with | some tk => s.complete tk stOk 0 | none => s
      else s
/-- Continue mode 0 on a placement. -/
def State.zeroStep (s : State) (i : Nat) : State :=
  match s.place i with
  | some p => ((s.zeroPump p.pages i)).zeroOffDone i
  | none => s

/-- Continue mode 0 on every placement that runs it: a zeroing entry is free. -/
def State.zeroSteps (s : State) : State :=
  s.home.places.foldl (fun s x => match x.2 with | some p => if p.zeroOff.isSome then s.zeroStep x.1 else s | none => s) s

/-- The initiator has its own lines and all answers: it sets the bit and tells the others. -/
def State.zeroFinish (s : State) (k page : Nat) : State :=
  match s.zeroEntry k page with
  | none => s
  | some z =>
    if z.initiated && z.owed == [] && z.answered.length == 15 then
      let s := match s.placeOf (page * 64) with | some (_, p) => s.setBitmapBit p page | none => s
      let s := s.modSlice k fun x => { x with zeroing := x.zeroing.erase z }
      let s := ((List.range 16).filter (· != k)).foldl (fun s j => s.emit (.doneP (sliceFin k) (sliceFin j) page)) s
      (s.drainWaits 1024 k).zeroSteps
    else s
/-- Change the zeroing entry of a page. -/
def State.modZero (s : State) (k page : Nat) (f : Zeroing → Zeroing) : State :=
  s.modSlice k fun x => { x with zeroing := x.zeroing.map fun z => if z.page = page then f z else z }
/-- A slice whose lines of a page are acknowledged answers those that asked. -/
def State.zeroAnswers (s : State) (k page : Nat) : State :=
  match s.zeroEntry k page with
  | none => s
  | some z =>
    if z.owed = [] then
      let s := z.asked.foldl (fun s j => (s.emit (.zeroAnswer (sliceFin k) (sliceFin j) page)).modZero j page fun y =>
        { y with replied := y.replied ++ [k] }) s
      (s.modZero k page fun y => { y with asked := [] }).zeroFinish k page
    else s
/-- A backing write of a line is acknowledged (R190). -/
def State.zeroLine (s : State) (k line : Nat) : State :=
  if (s.zeroEntry k (line / 64)).isSome then
    (s.modZero k (line / 64) fun z => { z with owed := z.owed.filter (· != line) }).zeroAnswers k (line / 64)
  else s

/-- ZERO_P: the slice learns of a page from the first initiator that it has not heard (R190). -/
def State.zeroHear (s : State) (k page vfi : Nat) : State :=
  match s.home.slices.find? fun x => x.1 != k && x.2.zeroing.any fun z => z.page == page && z.initiated && !z.heard.contains k with
  | none => s
  | some (j, _) =>
    let s := s.modZero j page fun z => { z with heard := z.heard ++ [k] }
    let s := s.bitDraw k page
    let reply (s : State) : State :=
      (s.emit (.zeroAnswer (sliceFin k) (sliceFin j) page)).modZero j page fun z => { z with replied := z.replied ++ [k] }
    match s.zeroEntry k page with
    | some _ => (s.modZero k page fun z => { z with asked := z.asked ++ [j] }).zeroAnswers k page
    | none =>
      let set := match s.placeOf (page * 64) with | some (_, p) => s.bitmapBit p page | none => true
      if set then reply s
      else
        let z : Zeroing := { page := page, initiated := false, owed := pageLines k page, asked := [j], vfi := vfi }
        let s := s.modSlice k fun x => { x with zeroing := x.zeroing ++ [z] }
        ((pageLines k page).foldl (fun s l => s.zeroWrite k l vfi) s).zeroAnswers k page
/-- ZERO_ANSWER: an answer that was sent arrives (R190). -/
def State.zeroGot (s : State) (k from' page : Nat) : State :=
  match s.zeroEntry k page with
  | some z =>
    if z.initiated && z.replied.contains from' then
      (s.modZero k page fun z => { z with replied := z.replied.erase from', answered := z.answered ++ [from'] }).zeroFinish k page
    else s
  | none => s
/-- DONE_P: a participating entry goes once the bit is set; an initiator keeps its own (R190). -/
def State.zeroDone (s : State) (k page : Nat) : State :=
  let set := match s.placeOf (page * 64) with | some (_, p) => s.bitmapBit p page | none => true
  if set then s.modSlice k fun x => { x with zeroing := x.zeroing.filter fun z => z.page != page || z.initiated } else s

end Sys2Proof.Machine
end

