-- ==== Sys2Proof/Machine/Store.lean ====
section
/-!
DEFINITION. The directory store in LPDDR6 (R174 to R179): slots as bits, buckets, suspect buckets.
-/

namespace Sys2Proof.Machine

/-- LPDDR6 lines of a bucket of slice `k` (R174). -/
def State.bucketLine (s : State) (k b : Nat) : Nat := (s.home.storeBase + k * 2 ^ (s.home.storeLog2 + 4) + b * 128) / 64
/-- The bucket of a line. -/
def State.bucketOf (s : State) (line : Nat) : Nat := storeBucket (line * 64) (2 ^ (s.home.storeLog2 - 3))

/-- Entry fields common to Tables 06-1 and 07-2: MODE and the pointers or the groups. -/
def DirEntry.bits (e : DirEntry) : Nat :=
  if e.coarse then 2 ^ 38 + 2 ^ 39 * e.groups.toNat
  else
    (List.range 4).foldl (fun n i => match e.ptrs[i]? with
      | some (c, inc) => n + 2 ^ (39 + 12 * i) * (c % 4096) + 2 ^ (87 + 4 * i) * (inc % 16)
      | none => n + 2 ^ (39 + 12 * i) * 0xFFF) 0
/-- The entry that the bits give. -/
def DirEntry.of (st v : Nat) : DirEntry :=
  if bitOf v 38 then { state := st, coarse := true, groups := BitVec.ofNat 64 (bitsOf v 102 39) }
  else
    { state := st
      ptrs := (List.range 4).filterMap fun i =>
        let c := v / 2 ^ (39 + 12 * i) % 4096
        if c = 0xFFF then none else some (c, v / 2 ^ (87 + 4 * i) % 16) }

/-- The image of a slot (Table 07-2). -/
def slotBits (line : Nat) (e : DirEntry) : Nat :=
  line / 2 ^ 16 % 2 ^ 34 + 2 ^ 34 * e.state + e.bits + 2 ^ 103 * (line / 16 % 4096) + 2 ^ 115 * (e.charge % 256)
/-- The suspect mark (R179). -/
def suspectBits : Nat := 7 * 2 ^ 34

/-- What a slot holds. -/
inductive SlotView where
  | empty
  | suspect
  | entry (line : Nat) (e : DirEntry)
  | bad
/-- Read slot `i` of a bucket of slice `k`. -/
def slotView (k i v : Nat) : SlotView :=
  match bitsOf v 37 34 with
  | 0 => .empty
  | 7 => if i = 0 then .suspect else .bad
  | 1 | 2 =>
    let top := bitsOf v 33 0 * 2 ^ 16 + bitsOf v 114 103 * 16
    let line := top + ((List.range 16).find? fun j => sliceOf ((top + j) * 64) == k).getD 0
    .entry line { DirEntry.of (bitsOf v 37 34) v with charge := bitsOf v 122 115 }
  | _ => .bad

/-- The data of a stored line after correction; none where it is poisoned or uncorrectable. -/
def State.peekLine (s : State) (line : Nat) : Option (BitVec 512) :=
  let l := s.line (s.physLine line)
  let (got, v) := l.read {}
  match v with
  | .clean => if got.poison then none else some got.data
  | .corrected e => let g := got.fix e; if g.poison then none else some g.data
  | _ => none
/-- The 8 slots of a bucket; none where the bucket is uncorrectable (R179). -/
def State.bucket (s : State) (k b : Nat) : Option (List SlotView) :=
  let l := s.bucketLine k b
  match s.peekLine l, s.peekLine (l + 1) with
  | some d0, some d1 =>
    let v := d0.toNat + 2 ^ 512 * d1.toNat
    let views := (List.range 8).map fun i => slotView k i (v / 2 ^ (128 * i) % 2 ^ 128)
    if views.any fun x => match x with | .bad => true | _ => false then none else some views
  | _, _ => none
/-- Write slot `i` of a bucket. -/
def State.writeSlot (s : State) (k b i v : Nat) : State :=
  let l := s.bucketLine k b + i / 4
  let phys := s.physLine l
  let d := (s.peekLine l).getD 0
  let sh := 128 * (i % 4)
  let d := (d &&& ~~~(BitVec.ofNat 512 ((2 ^ 128 - 1) * 2 ^ sh))) ||| BitVec.ofNat 512 (v * 2 ^ sh)
  s.writeLine (channelOf (phys * 64)) phys 0 d (BitVec.allOnes 64) false
/-- Count the DIR lines that an access to a bucket moves. -/
def State.countDir (s : State) (k b n : Nat) : State := s.dirDraw (s.bucketLine k b) n

/-- Slots of a view that hold the line. -/
def matchSlot (l : List SlotView) (line : Nat) : Option Nat :=
  (List.range l.length).find? fun i => match l[i]? with | some (.entry m _) => m == line | _ => false
/-- The lowest empty slot. -/
def emptySlot (l : List SlotView) : Option Nat :=
  (List.range l.length).find? fun i => match l[i]? with | some .empty => true | _ => false
/-- The bucket carries the suspect mark. -/
def isSuspect (l : List SlotView) : Bool := l.any fun x => match x with | .suspect => true | _ => false
/-- The entries of a bucket. -/
def slotEntries (l : List SlotView) : List (Nat × Nat × DirEntry) :=
  (List.range l.length).filterMap fun (i : Nat) => match l[i]? with | some (SlotView.entry m e) => some (i, m, e) | _ => none

/-- Change the count of entries charged to an instance (R180). -/
def SliceSt.charge (x : SliceSt) (vfi : Nat) (up : Bool) : SliceSt :=
  let n := tget 0 x.charges vfi
  { x with charges := tset 0 x.charges vfi (if up then n + 1 else n - 1) }
/-- The live slots of bucket `b` after one that was charged to `old` becomes one charged to `new`. -/
def SliceSt.slotNow (x : SliceSt) (b : Nat) (old new : Option Nat) : SliceSt :=
  let l := tget [] x.stored b
  let l := match old with | some v => l.erase v | none => l
  let l := match new with | some v => l ++ [v] | none => l
  { x with stored := tset [] x.stored b l, storeLive := x.storeLive - bit old.isSome + bit new.isSome }
/-- Write slot `i` of a bucket, reading the bucket and writing it back (R177): the entry of a line in S or M, or empty. -/
def State.putStoreSlot (s : State) (k b i line : Nat) (old new : Option DirEntry) : State :=
  let s := (s.writeSlot k b i (match new with | some e => slotBits line e | none => 0)).countDir k b 4
  s.modSlice k fun x => x.slotNow b (old.map (·.charge)) (new.map (·.charge))
/-- A bucket that cannot say which lines it held: the suspect mark, and a record (R179). Its entries are charged no longer. -/
def State.markSuspect (s : State) (k b line : Nat) : State :=
  let s := ((List.range 8).foldl (fun s i => s.writeSlot k b i (if i = 0 then suspectBits else 0)) s).countDir k b 2
  let s := s.modSlice k fun x =>
    let l := tget [] x.stored b
    let x := l.foldl (fun x v => x.charge v false) x
    { x with suspects := x.suspects + 1, err := x.err ||| 64, storeLive := x.storeLive - l.length, stored := tset [] x.stored b [] }
  s.record 0x09 (sliceIsland k) s.now64 [(8, line * 64), (2, 0)]
/-- Write the slot that holds a line, if one does: its entry, or empty where the line is in I. -/
def State.storeUpdate (s : State) (k line : Nat) (new : Option DirEntry) : State :=
  if s.home.storeLog2 = 0 then s
  else
    let b := s.bucketOf line
    match s.bucket k b with
    | none => s.markSuspect k b line
    | some l =>
      match matchSlot l line, (slotEntries l).find? fun x => x.2.1 == line with
      | some i, some x => s.putStoreSlot k b i line (some x.2.2) new
      | _, _ => s.countDir k b 2
/-- The entry of a line in the store, if its bucket can be read. -/
def State.storeEntry (s : State) (k line : Nat) : Option DirEntry :=
  if s.home.storeLog2 = 0 then none
  else match s.bucket k (s.bucketOf line) with
    | none => none
    | some l => (slotEntries l).findSome? fun x => if x.2.1 = line then some x.2.2 else none

/-- Buckets of a slice's store that hold something, from bucket `from'` up: the lowest. -/
def State.nextBucket (s : State) (k from' : Nat) : Option Nat :=
  if s.home.storeLog2 = 0 then none
  else
    let lo := s.bucketLine k 0
    let n := 2 ^ (s.home.storeLog2 - 3)
    let la (phys : Nat) : Nat :=
      if s.sparePage 0 ≤ phys / 64 then (s.retire (phys / 64 - s.sparePage 0)).page * 64 + phys % 64 else phys
    s.mem.lines.foldl (fun m x =>
      let l := la x.1
      if lo ≤ l ∧ (l - lo) / 2 < n ∧ from' ≤ (l - lo) / 2 then
        match m with | none => some ((l - lo) / 2) | some y => some (min y ((l - lo) / 2))
      else m) none

end Sys2Proof.Machine
end

