-- ==== Sys2Proof/Machine/Home.lean ====
section
/-!
DEFINITION. The transactions of a home slice (chapter 06): entries and their ways, snoops, decisions,
closes, conflicts and timeouts.
-/

namespace Sys2Proof.Machine

/-! ### Hosts (R134, R135, R144) -/

/-- The CHN of the host that sent a message: the PID's on a trunk, the port's otherwise; engines have none (R146). -/
def State.chnOf (s : State) (m : Msg) : Option Nat :=
  if m.engine then none
  else if (s.port m.reqPort.toNat).cfg.role = 2 then
    (s.home.hosts.find? fun x => x.2.valid && x.2.remote && x.2.who == m.pid.toNat).map (·.1)
  else s.chnOfPort m.reqPort.toNat
/-- The trunk that a message to a remote PID takes: hash `h` over the UP members of its group (R95). -/
def State.trunkFor (s : State) (pid h : Nat) : Option Nat :=
  match tget none s.prt.routes (pid / 512) with
  | none => none
  | some g =>
    let up := s.groupUp g
    up[Config.trunkHash pid h % (max 1 up.length)]?
/-- The port toward a host. -/
def State.hostPort (s : State) (chn line : Nat) : Option Nat :=
  let h := s.host chn
  if h.remote then s.trunkFor h.who (line % 2 ^ 50) else some h.who
/-- The host of a message in `home.lostAt`: its PID on a trunk, its port otherwise. -/
def State.hostKey (s : State) (m : Msg) : Nat :=
  if (s.port m.reqPort.toNat).cfg.role = 2 then 1024 + m.pid.toNat else m.reqPort.toNat
/-- The message was sent by an incarnation of its host that has been lost since, whether or not the host still has a CHN
(R159). -/
def State.fromLost (s : State) (m : Msg) : Bool :=
  !m.engine && !m.home && decide (s.stampOf m < tget 0 s.home.lostAt (s.hostKey m))
/-- CHNs that are assigned. -/
def State.validHosts (s : State) : List Nat := (s.home.hosts.filter (·.2.valid)).map (·.1)

/-- The pointers of an entry that are not stale (R135). -/
def State.livePtrs (s : State) (e : DirEntry) : List Nat :=
  e.ptrs.filterMap fun x => if (s.host x.1).inc = x.2 then some x.1 else none
/-- The hosts that an entry records (R144). -/
def State.hostsOf (s : State) (e : DirEntry) : List Nat :=
  if e.coarse then s.validHosts.filter fun c => e.groups.getLsbD (c / 16) else s.livePtrs e
/-- The owner of an entry in M. -/
def DirEntry.owner (e : DirEntry) : Option Nat := if e.state = 2 then (e.ptrs.head?).map (·.1) else none
/-- An entry that counts as live: S or M. -/
def DirEntry.live (e : DirEntry) : Bool := e.state == 1 || e.state == 2
/-- An entry with one pointer. -/
def State.oneHost (s : State) (st chn : Nat) : DirEntry := { state := st, ptrs := [(chn, (s.host chn).inc)] }
/-- Add a sharer; a fifth makes the entry coarse (R144). -/
def State.addSharer (s : State) (e : DirEntry) (q : Nat) : DirEntry :=
  let bits (l : List Nat) : BitVec 64 := l.foldl (fun g c => g ||| BitVec.ofNat 64 (2 ^ (c / 16))) 0
  if e.coarse then { e with groups := e.groups ||| bits [q] }
  else
    let l := s.livePtrs e
    if l.contains q then e
    else if l.length < 4 then { e with state := 1, ptrs := l.map (fun c => (c, (s.host c).inc)) ++ [(q, (s.host q).inc)] }
    else { e with state := 1, coarse := true, ptrs := [], groups := bits (q :: l) }

/-! ### Lines of a slice (R143, R148, R171) -/

/-- Open transactions (R137). -/
def SliceSt.openCount (x : SliceSt) : Nat := x.txns.length + x.waits.length + x.retry.length
/-- Open transactions of a line: its PIN, which leaves out the requests that a full PIN keeps in the retry queue (R173). -/
def SliceSt.pin (x : SliceSt) (line : Nat) : Nat :=
  (x.txns.filter (·.line == line)).length + (x.waits.filter (·.line == line)).length
    + (x.retry.filter fun w => w.line == line && !w.full).length
/-- The line is blocked: by a transaction, by a request at its head in the retry queue, or by a write that waits. -/
def SliceSt.blocked (x : SliceSt) (line : Nat) : Bool :=
  x.txns.any (·.line == line) || x.retry.any (fun w => w.line == line && !w.full) || x.wwait.any (·.line == line)
/-- Requests of the line wait already, so a new one joins them (R148). -/
def SliceSt.queued (x : SliceSt) (line : Nat) : Bool := x.waits.any (·.line == line) || x.retry.any (·.line == line)
/-- The transaction moves a line. -/
def TxnKind.isMove : TxnKind → Bool
  | .move _ => true
  | _ => false
/-- Transactions of the home's own that run (R139). -/
def SliceSt.ownJobs (x : SliceSt) : Nat :=
  (x.txns.filter fun t => match t.kind with | .hostInval _ => true | .recovery => true | _ => false).length
/-- Note the highest number of open transactions and of retries. -/
def State.noteOpen (s : State) (k : Nat) : State :=
  s.modSlice k fun x => { x with openMax := max x.openMax x.openCount, retryMax := max x.retryMax x.retry.length }
/-- A transaction of a slice. -/
def State.txn (s : State) (k id : Nat) : Option Txn := (s.slice k).txns.find? (·.id == id)
/-- Change a transaction. -/
def State.modTxn (s : State) (k id : Nat) (f : Txn → Txn) : State :=
  s.modSlice k fun x => { x with txns := x.txns.map fun t => if t.id = id then f t else t }
/-- Open a transaction. -/
def State.openTxn (s : State) (k : Nat) (t : Txn) : State × Nat :=
  let id := (s.slice k).nextTxn
  ((s.modSlice k fun x => { x with txns := x.txns ++ [{ t with id := id }], nextTxn := id + 1 }).noteOpen k, id)

/-- The way that holds a line. -/
def SliceSt.wayOf (x : SliceSt) (line : Nat) : Option (Nat × Way) :=
  x.ways.findSome? fun y => match y.2 with
    | some w => if w.line = line then some (y.1, w) else none
    | none => none
/-- The victim-buffer entry that holds a line. -/
def SliceSt.victimOf (x : SliceSt) (line : Nat) : Option Victim := x.victims.find? fun v => v.line == line && !v.clear
/-- A store clear of the line waits in the victim buffer, so the store's copy is void (R171). -/
def SliceSt.cleared (x : SliceSt) (line : Nat) : Bool := (x.victimOf line).isNone && x.victims.any fun v => v.line == line && v.clear
/-- The transaction that reads a line's bucket. -/
def SliceSt.fetching (x : SliceSt) (line : Nat) : Option Txn := x.txns.find? fun t => t.line == line && t.storeRead
/-- The entry of a line where it stands: the transaction table, the cache, the victim buffer, the store (R170). -/
def State.heldEntry (s : State) (k line : Nat) : Option DirEntry :=
  let x := s.slice k
  let below := match x.victimOf line with
    | some v => some v.entry
    | none => if x.cleared line then none else s.storeEntry k line
  match x.fetching line with
  | some t => if t.wbSeen then some t.entry else below
  | none => match x.wayOf line with | some (_, w) => some w.entry | none => below

/-- The per-slice limit of an instance; none without a quota (R180). -/
def State.dirLimit (s : State) (vfi : Nat) : Option Nat :=
  let q := (s.inst vfi).dirQuota
  if q = 0 then none else some (q / 16)
/-- The instance may create no entry now (R181). -/
def State.overage (s : State) (k vfi : Nat) : Bool :=
  match s.dirLimit vfi with
  | some n => decide (n + 256 ≤ tget 0 (s.slice k).charges vfi)
  | none => false

/-- The entry as it is charged after a change (R180), and the slice's counts. -/
def SliceSt.recharge (x : SliceSt) (old new : DirEntry) (vfi : Nat) : SliceSt × DirEntry :=
  if old.live then
    if new.live then (x, { new with charge := old.charge }) else (x.charge old.charge false, { new with charge := 0 })
  else if new.live then (x.charge vfi true, { new with charge := vfi })
  else (x, { new with charge := 0 })

/-- Put a victim or a clear into the victim buffer, which has room (R177). -/
def SliceSt.addVictim (x : SliceSt) (v : Victim) : SliceSt :=
  let l := x.victims ++ [v]
  { x with victims := l, victimsMax := max x.victimsMax l.length }

/-- Write a line's entry where it is held: in the transaction that reads its bucket, its way, the victim buffer, or, for an
entry that stands in the store alone, through the victim buffer (R152, R171). A change that finds the buffer full goes to the
bucket at once (log entry 89). -/
def State.putEntry (s : State) (k line : Nat) (new : DirEntry) (vfi : Nat) : State :=
  let old := (s.heldEntry k line).getD {}
  let (x, e) := (s.slice k).recharge old new vfi
  if e = old then s
  else
    let s := s.setSlice k x
    let s := if new.coarse && !old.coarse then s.cntSlice k 0x8E else s
    let x := s.slice k
    match x.fetching line with
    | some t => s.modTxn k t.id fun t => { t with entry := e, wbSeen := true }
    | none => match x.wayOf line with
      | some (key, w) => s.setSlice k { x with ways := tset none x.ways key (some { w with entry := e, changed := true }) }
      | none => match x.victimOf line with
        | some v =>
          if e.live then
            s.setSlice k { x with victims := x.victims.map fun y => if y = v then { v with entry := e, changed := true } else y }
          else if v.stored then
            s.setSlice k { x with victims := x.victims.map fun y => if y = v then { v with entry := {}, clear := true, waitFor := none } else y }
          else s.setSlice k { x with victims := x.victims.erase v }
        | none =>
          if x.victims.length < 256 then s.setSlice k (x.addVictim { line := line, entry := e, clear := !e.live, stored := true })
          else s.storeUpdate k line (if e.live then some e else none)

/-- A way whose line is in I with no open transaction becomes free; a store copy is cleared (R171). -/
def State.freeWay (s : State) (k line : Nat) : State :=
  let x := s.slice k
  match x.wayOf line with
  | none => s
  | some (key, w) =>
    if w.entry.live || x.pin line != 0 then s
    else
      let x := { x with ways := tset none x.ways key none }
      if !w.stored then s.setSlice k x
      else if x.victims.length < 256 then s.setSlice k (x.addVictim { line := line, entry := {}, clear := true, stored := true })
      else (s.setSlice k x).storeUpdate k line none

/-- The ways of a set in scanning order from way `i` (R172). -/
def scanWays (set i : Nat) : List Nat := (List.range 16).map fun j => 16 * set + (i + j) % 16
/-- Take a way for a line by replacement; none for lack of an unpinned way or of room for its victim
(R172, R173). -/
def State.takeWay (s : State) (k line : Nat) : Option State :=
  let x := s.slice k
  let set := s.dirSet line
  let w : Way := { line := line, entry := {} }
  match (scanWays set 0).find? fun key => (tget none x.ways key).isNone with
  | some key => some (s.setSlice k { x with ways := tset none x.ways key (some w) })
  | none =>
    let free := (scanWays set (s.clock / 8 % 16)).filter fun key =>
      match tget none x.ways key with | some v => x.pin v.line == 0 | none => false
    let old := free.find? fun key => match tget none x.ways key with | some v => !v.refd | none => false
    match old <|> free.head? with
    | none => none
    | some key =>
      match tget none x.ways key with
      | none => none
      | some v =>
        if (v.entry.live || v.stored) && decide (256 ≤ x.victims.length) then none
        else
          let ways := if old.isNone then free.foldl (fun t key => match tget none t key with
            | some y => tset none t key (some { y with refd := false })
            | none => t) x.ways else x.ways
          let x := { x with ways := tset none ways key (some w) }
          some (s.setSlice k (if v.entry.live then
            x.addVictim { line := v.line, entry := v.entry, stored := v.stored, changed := v.changed }
          else if v.stored then x.addVictim { line := v.line, entry := {}, clear := true, stored := true } else x))

/-- Resolve the stale pointers of an entry (R160): a lost owner's line is poisoned, sharers go. -/
def State.purge (s : State) (k line : Nat) (e : DirEntry) (tgt : Option (Target × Nat)) : State × DirEntry :=
  if e.coarse then (s, e)
  else
    let stale := e.ptrs.filter fun x => (s.host x.1).inc != x.2
    if stale = [] then (s, e)
    else
      let s := s.cntSlice k 0x8F none stale.length
      if e.state = 2 then (s.poisonLine k line ((stale.head?).map (·.1)) tgt e.charge, {})
      else
        let l := e.ptrs.filter fun x => (s.host x.1).inc == x.2
        (s, if l = [] then {} else { e with ptrs := l })

/-! ### Messages to hosts (R145, R150) -/

/-- Response to the requester of `m`. -/
def State.respond (s : State) (k : Nat) (m : Msg) (kind : MsgKind) (mv : Meta) (data : BitVec 512) (poison : Bool) : State :=
  let remote := (s.port m.reqPort.toNat).cfg.role = 2 && !m.engine
  let door := if remote then s.trunkFor m.pid.toNat (m.addr.toNat / 64 % 2 ^ 50) else some m.reqPort.toNat
  match door with
  | none => s
  | some p =>
    s.emit (.issue (.slice (sliceFin k))
      { kind := kind, mv := mv, addr := m.addr, tag := m.tag, ld := m.ld, dst := BitVec.ofNat 10 p, vfi := m.vfi, reqPort := m.reqPort
        pid := m.pid, engine := m.engine, home := true, data := data, poison := poison })
/-- Send a back-invalidate snoop to each host; what is sent is counted. -/
def State.snoopHosts (s : State) (k line : Nat) (kind : MsgKind) (vfi : Nat) (hosts : List Nat) : State :=
  hosts.foldl (fun s c =>
    let s := s.cntSlice k (match kind with | .biSnpData => 0x86 | .biSnpCur => 0x87 | _ => 0x85)
    match s.hostPort c line with
    | none => s
    | some p => s.emit (.issue (.slice (sliceFin k))
        { kind := kind, addr := BitVec.ofNat 64 (line * 64), tag := BitVec.ofNat 16 c, dst := BitVec.ofNat 10 p, home := true
          biId := (s.host c).biId, vfi := BitVec.ofNat 8 vfi, pid := BitVec.ofNat 12 (if (s.host c).remote then (s.host c).who else 0) })) s
/-- BIConflictAck (R154). -/
def State.conflictAck (s : State) (k : Nat) (m : Msg) (tag : BitVec 16) : State :=
  (s.respond k { m with tag := tag } .biConflictAck .inv 0 false).cntSlice k 0x91
/-- The access of a request settles in the slice (Table 08-11). -/
def State.settleHome (s : State) (k : Nat) (m : Msg) : State := s.settleMsg (sliceIsland k) m

/-! ### Classes and flows (Tables 06-3, 06-4) -/

/-- The class of a CXL.mem request. -/
def classOf (m : Msg) : ReqClass :=
  match m.kind with
  | .memRd | .memRdTEE => match m.mv with | .shared => .rdS | .any => .rdA | _ => .rdCur
  | .memRdData => .rdD
  | .memInv | .memInvNT => match m.mv with | .any => .invA | _ => .invI
  | .memClnEvct => .evct
  | .memWr | .memWrPtl => .wr
  | _ => .rdCur
/-- The class reads the line. -/
def ReqClass.isRead : ReqClass → Bool
  | .rdS | .rdA | .rdD | .rdCur => true
  | _ => false
/-- The class, decided on I, makes an entry. -/
def createsEntry (m : Msg) : Bool :=
  match classOf m with
  | .rdS | .rdA | .rdD | .invA => true
  | .wr => m.mv == .shared || m.mv == .any
  | _ => false
/-- The snoop that a request causes, by the STATE it is decided on. -/
def planSnoop (before : Nat) (c : ReqClass) (own : Bool) : Snoop :=
  if before = 1 then match c with | .rdA | .invA | .invI | .wr => .inv | _ => .none
  else if before = 2 ∧ own = false then
    match c with
    | .rdS | .rdD => .data
    | .rdCur => .cur
    | .evct => .none
    | _ => .inv
  else .none
/-- The blocked state that a request waits in (Table 06-2). -/
def planBlock (before : Nat) (sn : Snoop) : Nat :=
  match sn with
  | .none => 8
  | .inv => if before = 1 then 9 else 11
  | .data => 10
  | .cur => 12
/-- The response to a request decided on `before` (Table 06-4). -/
def responseOf (before : Nat) (c : ReqClass) (own : Bool) : MsgKind × Meta :=
  match c with
  | .rdS => (.drs, .shared)
  | .rdA => (.drs, .any)
  | .rdD => (.drs, if before = 1 ∨ (before = 2 ∧ own = false) then .shared else .any)
  | .rdCur => (.drs, .inv)
  | .invA => (.ndrCmpE, .inv)
  | _ => (.ndrCmp, .inv)

/-- The holding that a write leaves its requester with. -/
def State.holding (s : State) (v : Meta) (q : Option Nat) : DirEntry :=
  match q, v with
  | some q, .any => s.oneHost 2 q
  | some q, .shared => s.oneHost 1 q
  | _, _ => {}
/-- The entry after a request closes (Table 06-4). `e` is the entry it was decided on, `q` the
requester if it is recorded. -/
def State.nextEntry (s : State) (t : Txn) (e : DirEntry) (q : Option Nat) : DirEntry :=
  let sole (st : Nat) : DirEntry := match q with | some q => s.oneHost st q | none => {}
  let add (e : DirEntry) : DirEntry := match q with | some q => s.addSharer e q | none => e
  let kept : DirEntry := match t.owner with | some o => if t.answer = 1 then s.oneHost 1 o else {} | none => {}
  match t.before, classOf t.msg, t.own with
  | 0, .rdS, _ => sole 1
  | 0, .rdA, _ => sole 2
  | 0, .rdD, _ => sole 2
  | 0, .invA, _ => sole 2
  | 0, .wr, _ => s.holding t.msg.mv q
  | 0, _, _ => e
  | 1, .rdS, _ => add e
  | 1, .rdD, _ => add e
  | 1, .rdA, _ => sole 2
  | 1, .invA, _ => sole 2
  | 1, .invI, _ => {}
  | 1, .wr, _ => s.holding t.msg.mv q
  | 1, .evct, _ =>
    match q with
    | some q =>
      if e.coarse then e
      else
        let l := e.ptrs.filter (·.1 != q)
        if l = [] then {} else { e with ptrs := l }
    | none => e
  | 1, .rdCur, _ => e
  | _, .wr, _ => s.holding t.msg.mv q
  | _, .evct, true => {}
  | _, .invI, _ => {}
  | _, .rdS, true => sole 1
  | _, .rdA, _ => sole 2
  | _, .rdD, true => sole 2
  | _, .invA, true => e
  | _, .invA, false => sole 2
  | _, .rdCur, true => e
  | _, .rdS, false => add kept
  | _, .rdD, false => add kept
  | _, .rdCur, false =>
    match t.owner with
    | some o => if t.answer = 2 then s.oneHost 2 o else if t.answer = 1 then s.oneHost 1 o else {}
    | none => e
  | _, .evct, false => e

/-! ### Reads of backing memory (R149, R156, R188) -/

/-- Start the read of a transaction: from an unwritten page, from the buffer, or from backing memory with the buffered bytes
over it (R149, R188). -/
def State.startRead (s : State) (k id : Nat) : State :=
  match s.txn k id with
  | none => s
  | some t =>
    let have' (d : BitVec 512) (p : Bool) (s : State) : State := s.modTxn k id fun t => { t with data := some (d, p) }
    let s := if t.kind = .direct then s else s.bitDraw k (t.line / 64)
    if t.kind ≠ .direct ∧ s.pageWritten k t.line = false then have' 0 false s
    else
      let v := (s.slice k).bufView t.line
      if v.2.1 = BitVec.allOnes 64 then have' v.1 v.2.2 (s.cntSlice k 0x8B)
      else
        (s.backRead k id t.line t.tgt t.msg.vfi.toNat t.msg.engine).modTxn k id fun t =>
          { t with reading := true, overData := v.1, overMask := v.2.1, overPoison := v.2.2
                   readEnd := some (s.clock + us16 (s.slice k).memTo) }
/-- Data read for a transaction, under the bytes written since the read was issued and those still buffered. -/
def State.overlaid (s : State) (k : Nat) (t : Txn) (d : BitVec 512) (p : Bool) : BitVec 512 × Bool :=
  let v := overWrites (d, 0, p) [(t.overData, t.overMask, t.overPoison), (s.slice k).bufView t.line]
  (v.1, v.2.2)

/-! ### Closing (R150, R151, R158) -/

/-- A close signal to the port's tile (R138); writebacks admitted without allowance send none, nor do a lost local host's
transactions, whose counts are 0 already (R159). An engine's count falls at once. -/
def State.closeSignal (s : State) (k : Nat) (m : Msg) (lost : Bool := false) : State :=
  let dec (t : Tbl Nat) (i : Nat) : Tbl Nat := tset 0 t i (tget 0 t i - 1)
  if m.home then s
  else if m.engine then { s with home := { s.home with counts := dec s.home.counts (16 * (1024 + m.reqPort.toNat) + k) } }
  else if m.noAllow || lost && (s.port m.reqPort.toNat).cfg.role != 2 then s
  else
    let i := 16 * m.reqPort.toNat + k
    { s with home := { s.home with signals := tset 0 s.home.signals i (tget 0 s.home.signals i + 1) } }
/-- Take a closed transaction out of the slice; a way that no other pins may become free (R171). -/
def State.dropTxn (s : State) (k : Nat) (t : Txn) : State :=
  let s := s.modSlice k fun x =>
    { x with txns := x.txns.filter (·.id != t.id)
             orphans := if t.reading then x.orphans ++ [(t.id, t.line, t.gen)] else x.orphans }
  (s.cntSlice k 0x93 none ((s.clock - t.decidedAt) / 8)).freeWay k t.line

/-- The write of a request enters the buffer; `own`: it is a recovery's (R156). -/
def State.putWrite (s : State) (k : Nat) (m : Msg) (t : Target) (gen : Nat) (own : Bool := false)
    (vfi : Nat := m.vfi.toNat) : State :=
  let w : WWait :=
    { line := m.addr.toNat / 64, data := m.data, mask := if m.kind = .memWrPtl then m.be else BitVec.allOnes 64, poison := m.poison
      own := own, gen := gen, tgt := t, vfi := vfi }
  if m.priv then s.bufRaw k w else s.bufPut k w

/-- A request closes: its next state, its write, its response, and the ack that waited (R150, R154). -/
def State.finishReq (s : State) (k : Nat) (t : Txn) : State :=
  let c := classOf t.msg
  let q := if t.lost then none else t.chn
  let (s, e) := if t.snoop ≠ .none ∧ t.before = 2 then (s, t.entry) else s.purge k t.line t.entry (some (t.tgt, t.gen))
  let s := s.putEntry k t.line (s.nextEntry t e q) t.msg.vfi.toNat
  let s := if c = .wr then s.putWrite k t.msg t.tgt t.gen else s
  let (kind, mv) := responseOf t.before c t.own
  let (d, p) := t.data.getD (0, false)
  let s := if t.lost then s else s.respond k t.msg kind mv d (p || t.forcedPoison)
  let s := if t.settled then s else s.settleHome k t.msg
  let s := match t.ack with | some tag => if t.lost then s else s.conflictAck k t.msg tag | none => s
  (s.closeSignal k t.msg t.lost).dropTxn k t

/-- A request to a private region of the local pool closes (R146). -/
def State.finishDirect (s : State) (k : Nat) (t : Txn) : State :=
  let c := classOf t.msg
  let s := if c = .wr then s.putWrite k t.msg t.tgt t.gen else s
  let (d, p) := t.data.getD (0, false)
  let s := if t.lost then s
    else s.respond k t.msg (if c.isRead then .drs else .ndrCmp) .inv d (p || t.forcedPoison)
  let s := if t.settled then s else s.settleHome k t.msg
  (s.closeSignal k t.msg t.lost).dropTxn k t

/-- A request closes if nothing is owed to it. -/
def State.finishIfReady (s : State) (k id : Nat) : State :=
  match s.txn k id with
  | none => s
  | some t =>
    if t.storeRead || t.recover || t.await != [] || t.wbOwed || t.settling || (t.needData && t.data.isNone) then s
    else match t.kind with
      | .request => s.finishReq k t
      | .direct => s.finishDirect k t
      | _ => s

/-! ### Decisions (R150, R182) -/

/-- Act on a request whose entry is known (Table 06-4). -/
def State.actOn (s : State) (k id : Nat) (e0 : DirEntry) : State :=
  match s.txn k id with
  | none => s
  | some t =>
    let s := s.modTxn k id fun t => { t with storeRead := false }
    let (s, e) := s.purge k t.line e0 (some (t.tgt, t.gen))
    let s := if e = e0 then s else s.putEntry k t.line e t.msg.vfi.toNat
    let own := t.chn.isSome && e.owner == t.chn
    let c := classOf t.msg
    let sn := planSnoop e.state c own
    let hosts := match sn with
      | .none => []
      | _ => (s.hostsOf e).filter fun h => some h != t.chn
    let s := if c = .rdCur then s.cntSlice k 0x92 else s
    let s := s.modTxn k id fun t => { t with
      before := e.state, own := own, entry := e, block := planBlock e.state sn
      snoop := sn, await := hosts, owner := if e.state = 2 ∧ own = false then e.owner else none
      needData := c.isRead, decidedAt := s.clock
      snoopEnd := if hosts = [] then none else some (s.clock + us16 (s.slice k).snoopTo) }
    let kind : MsgKind := match sn with | .data => .biSnpData | .cur => .biSnpCur | _ => .biSnpInv
    let s := s.snoopHosts k t.line kind t.msg.vfi.toNat hosts
    (if c.isRead then s.startRead k id else s).finishIfReady k id

/-- Start the recovery of a line before a request is decided on I (R163, R179). -/
def State.startRecover (s : State) (k id : Nat) : State :=
  match s.txn k id with
  | none => s
  | some t =>
    let hosts := s.validHosts
    let s := s.modSlice k fun x => { x with err := x.err ||| 64 }
    let s := s.record 0x09 (sliceIsland k) s.now64 [(8, t.line * 64), (2, hosts.length)]
    if hosts = [] then s.actOn k id {}
    else
      let s := s.modTxn k id fun t => { t with storeRead := false, recover := true, block := 9, snoop := .inv, await := hosts
                                               snoopEnd := some (s.clock + us16 (s.slice k).snoopTo) }
      s.snoopHosts k t.line .biSnpInv t.msg.vfi.toNat hosts

/-- What a decision comes to. -/
inductive Decision where
  | done (s : State)
  /-- It waits for capacity (R173). -/
  | retry
  /-- It waits in the wait list for a write-buffer entry (R149). -/
  | wait

/-- A request to a private region of the local pool: no lookup (R17). -/
def State.decideDirect (s : State) (k : Nat) (w : Waiter) : Decision :=
  let m := w.msg
  let c := classOf m
  if c = .wr && !(s.slice k).room w.line then .wait
  else
    let t : Txn := { id := 0, line := w.line, kind := .direct, msg := m, chn := s.chnOf m, decidedAt := s.clock, needData := c.isRead
                     tgt := { pool := true, base := m.dev.toNat }, settled := w.recheck, lost := s.fromLost m }
    let (s, id) := s.openTxn k t
    .done ((if c.isRead then s.startRead k id else s).finishIfReady k id)

/-- Read a bucket of the store for a transaction: two lines of class DIR (R170, R176). -/
def State.readBucket (s : State) (k id line : Nat) : State :=
  let l := s.bucketLine k (s.bucketOf line)
  let r (i : Nat) : ChReq :=
    { cls := 0, stamp := s.clock, island := sliceIsland k, line := l + i, write := false, user := .bucket k id }
  (s.memSubmit (r 0)).memSubmit (r 1)

/-- Decide a coherent request whose placement is known (R170, R171, R173). -/
def State.decideLine (s : State) (k : Nat) (w : Waiter) (tg : Target) (gen : Nat) : Decision :=
  let m := w.msg
  let c := classOf m
  let x := s.slice k
  let t : Txn := { id := 0, line := w.line, kind := .request, msg := m, chn := s.chnOf m, tgt := tg, gen := gen
                   decidedAt := s.clock, settled := w.recheck, lost := s.fromLost m }
  let tooMany (e : DirEntry) : Bool := !e.live && createsEntry m && s.overage k m.vfi.toNat
  let go (s : State) (e : DirEntry) : Decision :=
    let (s, id) := s.openTxn k t
    .done (s.actOn k id e)
  let fetch (s : State) : Decision :=
    let (s, id) := s.openTxn k { t with storeRead := true }
    .done (s.readBucket k id w.line)
  if c = .wr && !x.room w.line then .wait
  else if c = .wr && !s.zeroRoom k w.line then .retry
  else match x.wayOf w.line with
    | some (key, y) =>
      if tooMany y.entry then .retry
      else
        let s := (s.setSlice k { x with ways := tset none x.ways key (some { y with refd := true }) }).cntSlice k 0x81
        go s y.entry
    | none =>
      match x.victimOf w.line with
      | some v =>
        if c = .rdCur then go (s.cntSlice k 0x82) v.entry
        else
          match (s.setSlice k { x with victims := x.victims.erase v }).takeWay k w.line with
          | none => .retry
          | some s =>
            let s := s.modSlice k fun x => { x with ways := x.ways.map fun y => match y.2 with
              | some z => if z.line = w.line then (y.1, some { z with entry := v.entry, stored := v.stored, changed := true }) else y
              | none => y }
            go (s.cntSlice k 0x82) v.entry
      | none =>
        let cleared := x.cleared w.line
        if c = .rdCur then
          if s.home.storeLog2 = 0 || cleared then go (s.cntSlice k 0x82) {} else fetch (s.cntSlice k 0x82)
        else if (s.home.storeLog2 == 0 || cleared) && tooMany {} then .retry
        else match s.takeWay k w.line with
          | none => .retry
          | some s =>
            let s := s.cntSlice k 0x82
            if s.home.storeLog2 = 0 || cleared then go s {} else fetch s

/-- A request that is answered as for a lost port in the slice, with the signal of its close. -/
def State.refuseLost (s : State) (k : Nat) (m : Msg) (settled : Bool) : State :=
  (s.answerLost (s.sliceTile k) m false 0x17 (!settled)).closeSignal k m (s.fromLost m)
/-- A request toward a line that no placement covers: a DISCARDED record of kind 4 against its ingress port (R182). -/
def State.refuseUnplaced (s : State) (k : Nat) (m : Msg) (settled : Bool) : State :=
  (s.record 0x45 (s.sliceTile k) s.now64 [(2, m.reqPort.toNat), (1, 4), (8, m.addr.toNat)]).refuseLost k m settled

/-- The check of a request, made again when it is decided, fails (Table 08-12). -/
def State.recheckFails (s : State) (m : Msg) : Bool :=
  let rid := if m.rid = 0xFFF then none else some m.rid.toNat
  match accessKind m with | some kd => (s.check rid kd m.addr.toNat 64).1 != 0 | none => false

/-- Decide a request (R150, R182, Table 08-12). -/
def State.decideReq (s : State) (k : Nat) (w : Waiter) : Decision :=
  let m := w.msg
  if w.recheck && s.recheckFails m then .done ((s.refuseLost k m true).freeWay k w.line)
  else if m.priv then s.decideDirect k w
  else match s.lineTarget k w.line with
    | none => .done ((s.refuseUnplaced k m w.recheck).freeWay k w.line)
    | some (t, g) => s.decideLine k w t g

/-- Put a request into the retry queue (R173). -/
def State.joinRetry (s : State) (k : Nat) (w : Waiter) : State :=
  (s.modSlice k fun x => { x with retry := x.retry ++ [w], retryCount := satAdd 32 x.retryCount 1 }).noteOpen k
/-- Put a request into its line's wait list, or, at PIN 255, into the retry queue behind it (R148, R171, R173). -/
def State.joinWaits (s : State) (k : Nat) (w : Waiter) : State :=
  if (s.slice k).pin w.line ≥ 255 ∨ (s.slice k).retry.any (fun y => y.line == w.line && y.full) then
    s.joinRetry k { w with full := true }
  else ((s.modSlice k fun x => { x with waits := x.waits ++ [{ w with since := s.clock, full := false }] }).cntSlice k 0x83).noteOpen k
/-- Decide a request, or let it wait for what it lacks. -/
def State.decideOrWait (s : State) (k : Nat) (w : Waiter) : State :=
  match s.decideReq k w with
  | .done s => s
  | .retry => s.joinRetry k w
  | .wait => s.joinWaits k w

/-! ### Acceptance (R134, R147, R157, R159, R161) -/

/-- Discard a lost host's message (R159). -/
def State.discardLost (s : State) (k : Nat) (m : Msg) : State :=
  ((s.modSlice k fun x => { x with lossDiscard := satAdd 16 x.lossDiscard 1 }).settleHome k m).closeSignal k m true
/-- A coherent request is offered nothing: its host has no CHN, or its remote host is CLEANING. -/
def State.noHost (s : State) (m : Msg) : Bool :=
  !m.engine && !m.priv && (match s.chnOf m with
    | none => true
    | some c => (s.host c).remote && (s.host c).pending == 15)
/-- Refuse such a request (R134, R161). -/
def State.refuseHost (s : State) (k : Nat) (m : Msg) : State :=
  let s := if (s.chnOf m).isSome then s.modSlice k fun x => { x with lossDiscard := satAdd 16 x.lossDiscard 1 } else s
  s.refuseLost k m false
/-- Take a request that waits behind its line, or decide it. -/
def State.takeRequest (s : State) (k : Nat) (m : Msg) : State :=
  let line := m.addr.toNat / 64
  let w : Waiter := { line := line, msg := m, since := s.clock }
  let x := s.slice k
  if x.blocked line || x.queued line then s.joinWaits k w else s.decideOrWait k w

/-- HOME_REQUEST. -/
def State.homeRequest (s : State) (k : Nat) (m : Msg) : State :=
  if !(s.slice k).running then s
  else
    let s := s.cntSlice k 0x80 (some m.vfi.toNat)
    if s.fromLost m then s.discardLost k m
    else if s.noHost m then s.refuseHost k m
    else s.takeRequest k m

/-! ### Writebacks (R153, R157) -/

/-- The transaction that blocks a line. -/
def SliceSt.txnOn (x : SliceSt) (line : Nat) : Option Txn := x.txns.find? fun t => t.line == line && !t.storeRead
/-- The host is the recorded owner of a line. -/
def State.ownsLine (s : State) (k line c : Nat) : Bool :=
  match s.heldEntry k line with | some e => e.owner == some c && s.livePtrs e == [c] | none => false
/-- The host is the recorded owner of a blocked line, or one that a recovery or an invalidation waits for. -/
def State.isOwner (s : State) (k : Nat) (t : Txn) (c : Nat) : Bool :=
  t.owner == some c || (t.recover || t.kind == .recovery) && t.await.contains c || s.ownsLine k t.line c
    || (t.owner == none && t.entry.owner == some c && s.livePtrs t.entry == [c])

/-- A late writeback is discarded (R157). -/
def State.lateWriteback (s : State) (k : Nat) (m : Msg) (c : Nat) : State :=
  let s := s.modSlice k fun x => { x with lateWb := satAdd 16 x.lateWb 1, err := x.err ||| 32 }
  let s := s.record 0x08 (sliceIsland k) s.now64 [(8, m.addr.toNat), (2, c)]
  (s.settleHome k m).closeSignal k m

/-- A writeback is accepted while its line is blocked: its bytes go to the write buffer, and the owner receives Cmp at once
(R153). Toward a line that no placement covers it is answered as any access there (R182). -/
def State.takeWriteback (s : State) (k : Nat) (m : Msg) (tgt : Option (Target × Nat)) (own : Bool)
    (vfi : Nat := m.vfi.toNat) : State :=
  match tgt with
  | none => s.refuseUnplaced k m false
  | some (t, g) =>
    let s := (s.putWrite k m t g own vfi).cntSlice k 0x89
    ((s.respond k m .ndrCmp .inv 0 false).settleHome k m).closeSignal k m
/-- A writeback from the recorded owner of a line that no decided transaction blocks: it also sets the owner's holding. -/
def State.ownWriteback (s : State) (k : Nat) (m : Msg) (c : Nat) : State :=
  let line := m.addr.toNat / 64
  (s.takeWriteback k m (s.lineTarget k line) false).putEntry k line (s.holding m.mv (some c)) m.vfi.toNat

/-- The bytes of a writeback that a transaction's data takes: what it has, or what a read still brings, under them (R150). -/
def Txn.withBytes (t : Txn) (m : Msg) : Txn :=
  let mask := if m.kind = .memWrPtl then m.be else BitVec.allOnes 64
  let laid (v : BitVec 512 × BitVec 64 × Bool) : BitVec 512 × BitVec 64 × Bool := overWrites v [(m.data, mask, m.poison)]
  let held := laid (t.overData, t.overMask, t.overPoison)
  { t with
    data := t.data.map fun d => ((laid (d.1, 0, d.2)).1, (laid (d.1, 0, d.2)).2.2)
    overData := held.1, overMask := held.2.1, overPoison := held.2.2 }
/-- The instance that a write of the home's own carries: the one charged for the line's entry, or the transaction's where the
line has none (Table 11-2). -/
def Txn.charged (t : Txn) : Nat := if t.entry.live then t.entry.charge else t.msg.vfi.toNat
/-- A writeback from the recorded owner while its line is blocked by a transaction (R153). -/
def State.mergeWriteback (s : State) (k : Nat) (t : Txn) (m : Msg) (c : Nat) : State :=
  let own := t.recover || (match t.kind with | .hostInval _ => true | .recovery => true | _ => false)
  let s := s.takeWriteback k m (if t.placed then some (t.tgt, t.gen) else none) own
    (if own then t.charged else m.vfi.toNat)
  let s := s.modTxn k t.id fun t => t.withBytes m
  let snooped := t.owner == some c && t.snoop != .none || t.await.contains c
  if snooped then
    s.modTxn k t.id fun t => { t with
      wbSeen := true, wbOwed := false, wbEnd := none
      data := if t.needData && m.kind != .memWrPtl then some (m.data, m.poison) else t.data }
  else
    let e := s.holding m.mv (some c)
    (s.putEntry k t.line e m.vfi.toNat).modTxn k t.id fun t => { t with entry := e }

end Sys2Proof.Machine
end

