-- ==== Sys2Proof/Machine/HomeEvents.lean ====
section
/-!
DEFINITION. What reaches a home slice after the request (chapter 06): snoop responses, backing memory's
answers, timeouts, the queues, the moves of lines (R183 to R185), host loss and the sweep.
-/

namespace Sys2Proof.Machine

/-! ### Relocation of a line (R183 to R185) -/

/-- A move of line `line` is refused by the ACU: the move stops, and the line stays behind (R185). -/
def State.moveDenied (s : State) (k i : Nat) (t : Txn) (kind reason : Nat) : State :=
  let s := match s.place i with
    | some p => s.modSlice k fun x => { x with skipped := x.skipped ++ [(i, p.block t.line)] }
    | none => s
  let s := s.modPlace i fun q => q.map fun q => { q with stopping := some (q.stopping.getD stDenied) }
  let s := s.violation { island := sliceIsland k, rid := some (3840 + t.msg.vfi.toNat), port := 0x3FF, ld := 0
                         vfi := (tget {} s.acu.active.req (3840 + t.msg.vfi.toNat)).vfi
                         epoch := s.acu.epoch, kind := kind, reason := reason, fma := t.line * 64, len := 64, t64 := s.now64 }
  (s.dropTxn k t).settleMove i
/-- The line is cut over, and its transaction closes. -/
def State.moveCut (s : State) (k i : Nat) (t : Txn) (copied : Bool) : State :=
  let s := s.modSlice k fun x => { x with cut := tset 0 x.cut i (tget 0 x.cut i + 1) }
  let s := if copied then s.modPlace i fun q => q.map fun q => { q with copied := q.copied + 1 } else s
  (s.dropTxn k t).settleMove i
/-- The copied data is written toward the new target, and the line is cut over (R183, R185). -/
def State.movePlace (s : State) (k i : Nat) (t : Txn) (d : BitVec 512) (p : Bool) : State :=
  match s.place i with
  | none => s.dropTxn k t
  | some q =>
    let rid := 3840 + t.msg.vfi.toNat
    let (r, _) := s.check (some rid) 1 (t.line * 64) 64
    let s := (s.tagLookups (sliceIsland k) s.clock (some rid) 1 (t.line * 64) 64).cntStn (sliceIsland k) 0xA0 (some t.msg.vfi.toNat)
    if r ≠ 0 then s.moveDenied k i t 1 r
    else
      let s := s.countAccess (sliceIsland k) s.acu.epoch 1
      let s := s.bufPut k { line := t.line, data := d, mask := BitVec.allOnes 64, poison := p, own := false, gen := q.gen
                            tgt := q.at' q.newTarget t.line, copyEpoch := some s.acu.epoch, vfi := t.msg.vfi.toNat }
      let s := if p then s.modSlice k fun x => { x with poisonCopies := satAdd 32 x.poisonCopies 1 } else s
      s.moveCut k i t true
/-- The next step of a move that nothing holds back (R183): while the old placement has still to acknowledge a write of the
line it waits; then it reads the line, unless its page is unwritten, and once it has the data it writes that and cuts the
line over. The move keeps the epoch of its read in `before`, which it has no other use for. -/
def State.moveNext (s : State) (k i : Nat) (t : Txn) : State :=
  let x := s.slice k
  if (x.buffered t.line).isSome || x.wwait.any (·.line == t.line) || t.reading then s
  else match t.data with
  | some (d, p) => s.movePlace k i t d p
  | none =>
    let s := s.bitDraw k (t.line / 64)
    if !s.pageWritten k t.line then s.moveCut k i t false
    else
      let rid := 3840 + t.msg.vfi.toNat
      let (r, _) := s.check (some rid) 0 (t.line * 64) 64
      let s := (s.tagLookups (sliceIsland k) s.clock (some rid) 0 (t.line * 64) 64).cntStn (sliceIsland k) 0xA0 (some t.msg.vfi.toNat)
      if r ≠ 0 then s.moveDenied k i t 0 r
      else
        let s := s.countAccess (sliceIsland k) s.acu.epoch 1
        (s.backRead k t.id t.line t.tgt t.msg.vfi.toNat t.msg.engine).modTxn k t.id fun t =>
          { t with reading := true, readEnd := some (s.clock + us16 (s.slice k).memTo), before := s.acu.epoch }
/-- The copy arrives, under the bytes that the owner has written since: those go to the old placement, whose
acknowledgement the cut-over waits for (R149, R153, R184). -/
def State.moveCopy (s : State) (k i : Nat) (t : Txn) (d : BitVec 512) (p : Bool) : State :=
  let s := if t.settled then s else s.settle (sliceIsland k) t.before
  let t := { t with reading := false, readEnd := none, data := some (s.overlaid k t d p) }
  (s.modTxn k t.id fun _ => t).moveNext k i t
/-- A move takes a line that no other transaction holds: it is blocked (R183). -/
def State.moveBegin (s : State) (k i line : Nat) (m : Msg) : State :=
  match s.place i, s.lineTarget k line with
  | some p, some _ =>
    let (s, id) := s.openTxn k
      { id := 0, line := line, kind := .move i, msg := m, block := 15, settling := true, decidedAt := s.clock
        tgt := p.at' p.target line, gen := (p.gen + 255) % 256 }
    match s.txn k id with | some t => s.moveNext k i t | none => s
  | _, _ => s

/-! ### Host invalidation and recovery (R163, R178) -/

/-- The line of a host invalidation or a recovery becomes I, and its slot empty (R178). -/
def State.finishInval (s : State) (k : Nat) (t : Txn) : State :=
  let old := (s.heldEntry k t.line).getD {}
  let s := s.modSlice k fun x =>
    let (x, _) := x.recharge old {} 0
    let ways := match x.wayOf t.line with
      | some (key, w) => tset none x.ways key (some { w with entry := {}, stored := false, changed := true })
      | none => x.ways
    { x with ways := ways, victims := (x.victims.filter fun v => v.line != t.line || v.clear).map fun v =>
        if v.waitFor = some t.line then { v with waitFor := none } else v }
  (s.storeUpdate k t.line none).dropTxn k t

/-- Everything owed to a transaction has come: it goes on or closes. -/
def State.tryClose (s : State) (k id : Nat) : State :=
  match s.txn k id with
  | none => s
  | some t =>
    match t.kind with
    | .hostInval _ | .recovery => if t.await = [] && !t.wbOwed then s.finishInval k t else s
    | .move _ => s
    | _ =>
      if t.recover then
        if t.await = [] then (s.modTxn k id fun t => { t with recover := false, snoop := .none, snoopEnd := none }).actOn k id {} else s
      else s.finishIfReady k id

/-- Begin a host invalidation, or the recovery of a line, that nothing else holds (R163, R178). A recovery trusts no entry of
the line, and poisons nothing. -/
def State.invalBegin (s : State) (k line : Nat) (kind : TxnKind) : State :=
  let e0 := (s.heldEntry k line).getD {}
  let tg := s.lineTarget k line
  let (s, e) := if kind = .recovery then (s, e0) else s.purge k line e0 tg
  let s := if e = e0 then s else s.putEntry k line e e0.charge
  let hosts := if kind = .recovery then s.validHosts else s.hostsOf e
  let (t, g) := tg.getD ({}, 0)
  let (s, id) := s.openTxn k
    { id := 0, line := line, kind := kind, msg := { kind := .memInv, home := true }, tgt := t, gen := g, placed := tg.isSome, entry := e
      before := e.state, block := if e.state = 2 ∧ kind ≠ .recovery then 11 else 9, snoop := .inv, await := hosts
      owner := if kind = .recovery then none else e.owner, decidedAt := s.clock
      snoopEnd := if hosts = [] then none else some (s.clock + us16 (s.slice k).snoopTo) }
  (s.snoopHosts k line .biSnpInv 0 hosts).tryClose k id

/-- The recovery reserve has no transaction left for a job (R139). -/
def SliceSt.reserveFull (x : SliceSt) (kind : TxnKind) : Bool :=
  match kind with | .hostInval _ => decide (128 ≤ x.ownJobs) | .recovery => decide (128 ≤ x.ownJobs) | _ => false
/-- A job of the home that joins a line's wait list like any request, or begins; it waits too while its reserve is in use. -/
def State.startJob (s : State) (k line : Nat) (kind : TxnKind) (vfi : Nat) : State :=
  let m : Msg := { kind := .memRd, home := true, vfi := BitVec.ofNat 8 vfi, addr := BitVec.ofNat 64 (line * 64)
                   stamp := BitVec.ofNat 52 s.t52 }
  let x := s.slice k
  if x.blocked line || x.queued line || x.reserveFull kind then s.joinWaits k { line := line, msg := m, kind := kind, since := s.clock }
  else match kind with
    | .move i => s.moveBegin k i line m
    | _ => s.invalBegin k line kind

/-! ### Snoop responses (R151, R152, R154) -/

/-- What the home makes of a BIRsp: the answer it stands for, and whether the snoop allows it (R151). -/
def readAnswer (sn : Snoop) (kind : MsgKind) : Nat × Bool :=
  let a := match kind with | .biRspS => 1 | .biRspE => 2 | _ => 0
  match sn with
  | .cur => (a, true)
  | .data => if a = 2 then (0, false) else (a, true)
  | _ => (0, a == 0)

/-- BIRSP. -/
def State.birsp (s : State) (k : Nat) (m : Msg) : State :=
  let line := m.addr.toNat / 64
  if !(s.slice k).running then s
  else if s.fromLost m then s.modSlice k fun x => { x with lossDiscard := satAdd 16 x.lossDiscard 1 }
  else
    let s := s.cntSlice k 0x88
    match s.chnOf m with
    | none => s.modSlice k fun x => { x with lateBirsp := x.lateBirsp + 1 }
    | some c =>
      match (s.slice k).txns.find? fun t => t.line == line && t.await.contains c with
      | none => s.modSlice k fun x => { x with lateBirsp := x.lateBirsp + 1 }
      | some t =>
        let (a, okay) := readAnswer t.snoop m.kind
        let code := match m.kind with | .biRspS => 1 | .biRspE => 2 | _ => 0
        let sent := match t.snoop with | .data => 1 | .cur => 2 | _ => 0
        let s := if okay then s
          else
            let s := s.modSlice k fun x => { x with protoErr := satAdd 32 x.protoErr 1, err := x.err ||| 16 }
            s.record 0x07 (sliceIsland k) s.now64 [(8, line * 64), (2, c), (1, code), (1, sent)]
        let mine := t.owner == some c
        let owes := mine && m.wbPending && !t.wbSeen
        let s := if owes then s.cntSlice k 0x8A else s
        let s := s.modTxn k t.id fun t => { t with
          await := t.await.filter (· != c)
          answer := if mine then a else t.answer
          wbOwed := t.wbOwed || owes
          block := if owes then 13 else t.block
          wbEnd := if owes then some (s.clock + us16 (s.slice k).wbTo) else t.wbEnd
          snoopEnd := if (t.await.filter (· != c)) = [] then none else t.snoopEnd }
        s.tryClose k t.id

/-- BICONFLICT (R154). -/
def State.biconflict (s : State) (k : Nat) (m : Msg) : State :=
  if !(s.slice k).running then s
  else if s.fromLost m then s.modSlice k fun x => { x with lossDiscard := satAdd 16 x.lossDiscard 1 }
  else
    let s := s.modSlice k fun x => { x with conflictCount := satAdd 32 x.conflictCount 1 }
    let line := m.addr.toNat / 64
    match (s.slice k).txns.find? fun t =>
        t.line == line && t.kind == .request && !t.storeRead && !t.recover && t.chn.isSome && t.chn == s.chnOf m with
    | some t => s.modTxn k t.id fun t => { t with ack := some m.tag }
    | none => s.conflictAck k m m.tag

/-- HOME_RWD (R149, R153, R157). -/
def State.homeRwd (s : State) (k : Nat) (m : Msg) : State :=
  if !(s.slice k).running then s
  else
    let s := s.cntSlice k 0x80 (some m.vfi.toNat)
    let line := m.addr.toNat / 64
    if s.fromLost m then s.discardLost k m
    else if s.noHost m then s.refuseHost k m
    else match s.chnOf m with
      | none => s.takeRequest k m
      | some c =>
        if m.engine || m.priv then s.takeRequest k m
        else if (s.slice k).filter.any fun f => f.1 == line && f.2.1 == c then s.lateWriteback k m c
        else match (s.slice k).txnOn line with
          | some t => if s.isOwner k t c then (s.mergeWriteback k t m c).tryClose k t.id else s.takeRequest k m
          | none => if (s.slice k).blocked line && s.ownsLine k line c then s.ownWriteback k m c else s.takeRequest k m

/-! ### Backing memory's answers (R149, R156, R184) -/

/-- BACKING_READ_RESPONSE. -/
def State.backingRead (s : State) (k id : Nat) (d : BitVec 512) (p : Bool) : State :=
  match s.txn k id with
  | some t =>
    if !t.reading then s
    else match t.kind with
      | .move i => s.moveCopy k i t d p
      | _ =>
        let (d', p') := s.overlaid k t d p
        (s.modTxn k id fun t => { t with reading := false, readEnd := none, data := t.data <|> some (d', p') }).tryClose k id
  | none =>
    match (s.slice k).orphans.find? fun o => o.1 == id with
    | none => s
    | some o =>
      let old := match s.placeOf o.2.1 with | some (_, q) => q.gen != o.2.2 | none => true
      s.modSlice k fun x => { x with orphans := x.orphans.erase o, oldDiscard := if old then satAdd 32 x.oldDiscard 1 else x.oldDiscard }

/-- Where a target's errors are recorded: a port, or a memory island. -/
def Target.code (t : Target) : Nat := if t.pool then 80 + channelOf t.base / 8 else t.port

/-- A line's buffer entry is free: what waited for it goes on. -/
def State.bufFreed (s : State) (k line : Nat) : State :=
  let s := s.setBuf k line none
  let s := s.zeroLine k line
  let s := s.drainWaits 1024 k
  match (s.slice k).txns.find? fun t => t.line == line && t.settling with
  | some t => match t.kind with | .move i => s.moveNext k i t | _ => s
  | none => s
/-- Issue the bytes of an entry again as a new backing write (R149). -/
def State.bufIssue (s : State) (k line : Nat) (e : WEntry) : State :=
  let e := { e with later := 0, laterPoison := false, reissued := false, stale := false, ackEnd := s.clock + us16 (s.slice k).memTo }
  (s.setBuf k line (some e)).backWrite k line e.tgt e.data e.mask e.poison e.vfi
/-- What an entry has to issue once its write has ended: its bytes with those that came since; after a poisoned reissue only
those; then the bytes for the next target (R149, R182, Table 06-6). -/
def WEntry.next (e : WEntry) : Option WEntry :=
  if e.later ≠ 0 then
    some (if e.reissued then { e with mask := e.later, poison := e.laterPoison, copyEpoch := none } else { e with copyEpoch := none })
  else match e.parts with
    | [] => none
    | p :: l => some { data := p.data, mask := p.mask, poison := p.poison, gen := p.gen, tgt := p.tgt, copyEpoch := p.copyEpoch, vfi := p.vfi, parts := l }
/-- A relocation copy's write settles (Table 08-11). -/
def State.settleCopy (s : State) (k : Nat) (e : WEntry) : State :=
  match e.copyEpoch with | some n => s.settle (sliceIsland k) n | none => s
/-- The backing write of an entry has ended: by its acknowledgement, or by the expiry of its reissue. -/
def State.writeEnd (s : State) (k line : Nat) (e : WEntry) : State :=
  let s := s.settleCopy k e
  match e.next with
  | none => s.bufFreed k line
  | some e' =>
    let s := s.bufIssue k line e'
    if e.stale then s else s.zeroLine k line
/-- BACKING_WRITE_ACK. -/
def State.writeAck (s : State) (k line : Nat) : State :=
  match (s.slice k).buffered line with
  | none => s
  | some e => s.writeEnd k line e

/-! ### Timeouts (R156, Table 06-6) -/

/-- An instant has come. -/
def State.due (s : State) (t : Option Nat) : Bool := match t with | some t => decide (t ≤ s.clock) | none => false

/-- The owner that a transaction waits for is gone: its line is poisoned and stands in I (R156, R159). -/
def State.loseOwner (s : State) (k : Nat) (t : Txn) (chn : Option Nat) : State :=
  (s.poisonLine k t.line chn (if t.placed then some (t.tgt, t.gen) else none) t.charged).putEntry k t.line {} 0

/-- SNOOP_TIMEOUT: silent hosts count as BIRspI, a silent owner has its line poisoned. -/
def State.snoopTimeout (s : State) (k id : Nat) : State :=
  match s.txn k id with
  | none => s
  | some t =>
    if t.await = [] || !s.due t.snoopEnd then s
    else
      let s := s.modSlice k fun x => { x with snoopToCount := satAdd 32 x.snoopToCount 1, err := x.err ||| 1 }
      let s := t.await.foldl (fun s c => s.record 0x01 (sliceIsland k) s.now64
        [(8, t.line * 64), (2, c), (1, if t.before = 2 then 2 else 1)]) s
      let silent := match t.owner with | some o => t.await.contains o | none => false
      let s := if silent then s.loseOwner k t none else s
      let s := s.modTxn k id fun t => { t with
        await := [], snoopEnd := none, answer := if silent then 0 else t.answer
        entry := if silent then {} else t.entry
        data := if silent && t.needData then some (0, true) else t.data }
      s.tryClose k id

/-- WB_TIMEOUT. -/
def State.wbTimeout (s : State) (k id : Nat) : State :=
  match s.txn k id with
  | none => s
  | some t =>
    if !t.wbOwed || !s.due t.wbEnd then s
    else
      let c := t.owner.getD 0
      let s := s.modSlice k fun x =>
        let f := x.filter ++ [(t.line, c, s.clock + us16 (10 * x.wbTo))]
        { x with wbToCount := satAdd 32 x.wbToCount 1, err := x.err ||| 2, filter := if 64 < f.length then f.drop 1 else f }
      let s := s.record 0x02 (sliceIsland k) s.now64 [(8, t.line * 64), (2, c)]
      let s := s.poisonLine k t.line none (if t.placed then some (t.tgt, t.gen) else none) t.charged
      let s := s.modTxn k id fun t => { t with wbOwed := false, wbEnd := none, data := if t.needData then some (0, true) else t.data }
      s.tryClose k id

/-- MEM_READ_TIMEOUT: the requester receives poisoned data, and a copy is written poisoned. -/
def State.readTimeout (s : State) (k id : Nat) : State :=
  match s.txn k id with
  | none => s
  | some t =>
    if !t.reading || !s.due t.readEnd then s
    else
      let s := s.modSlice k fun x => { x with err := x.err ||| 4, orphans := x.orphans ++ [(t.id, t.line, t.gen)] }
      let s := s.record 0x03 (sliceIsland k) s.now64 [(8, t.line * 64), (2, t.tgt.code)]
      match t.kind with
      | .move i => s.moveCopy k i t 0 true
      | _ => (s.modTxn k id fun t => { t with reading := false, readEnd := none, data := t.data <|> some (0, true) }).tryClose k id

/-- MEM_WRITE_TIMEOUT. -/
def State.writeTimeout (s : State) (k line : Nat) : State :=
  match (s.slice k).buffered line with
  | none => s
  | some e =>
    if s.clock < e.ackEnd then s
    else
      let s := s.modSlice k fun x => { x with err := x.err ||| 4 }
      let s := s.record 0x04 (sliceIsland k) s.now64 [(8, line * 64), (2, e.tgt.code), (1, bit e.reissued)]
      if e.reissued then s.writeEnd k line e
      else
        (s.setBuf k line (some { e with reissued := true, ackEnd := s.clock + us16 (s.slice k).memTo })).backWrite k line e.tgt 0
          (BitVec.allOnes 64) true e.vfi

/-- LATE_WB_FILTER_EXPIRY. -/
def State.filterExpiry (s : State) (k : Nat) : State :=
  s.modSlice k fun x => { x with filter := x.filter.filter fun f => decide (s.clock < f.2.2) }

/-! ### The queues (R148, R173) -/

/-- Order of waiting requests: stamp, then the rotating key over ingress tiles. -/
def State.waitFirst (s : State) (a b : Waiter) : Bool :=
  let sa := s.stampOf a.msg
  let sb := s.stampOf b.msg
  let key (w : Waiter) : Nat := tieKey (if w.msg.engine then engineTile w.msg.reqPort.toNat else w.msg.reqPort.toNat / 16) s.slot 64
  decide (sa < sb) || (sa == sb && decide (key a < key b))
/-- The first of a list of waiting requests. -/
def State.firstWaiter (s : State) (l : List Waiter) : Option Waiter :=
  l.foldl (fun m w => match m with | none => some w | some x => if s.waitFirst w x then some w else some x) none

/-- Begin what a waiter stands for. -/
def State.begin (s : State) (k : Nat) (w : Waiter) : State :=
  match w.kind with
  | .move i => s.moveBegin k i w.line w.msg
  | .hostInval trim => s.invalBegin k w.line (.hostInval trim)
  | .recovery => s.invalBegin k w.line .recovery
  | _ => s.decideOrWait k w

/-- WAIT_LIST_TAKE. -/
def State.waitTake (s : State) (k line : Nat) : State :=
  let x := s.slice k
  if x.blocked line then s
  else match s.firstWaiter (x.waits.filter (·.line == line)) with
    | none => s
    | some w =>
      let stuck := w.kind == .request && classOf w.msg == .wr && !x.room line || x.reserveFull w.kind
      if stuck then s
      else
        let s := s.setSlice k { x with waits := x.waits.erase w }
        (s.cntSlice k 0x84 none ((s.clock - w.since) / 8)).begin k w

/-- A retry that can proceed: the state in which it has. One that a full PIN holds goes to its line's wait list; any other
stands at the head of its line, so it is decided. -/
def State.tryRetry (s : State) (k : Nat) (w : Waiter) : Option State :=
  let x := s.slice k
  let x' := { x with retry := x.retry.erase w }
  let s' := s.setSlice k x'
  if w.full then if x'.pin w.line < 255 then some (s'.joinWaits k w) else none
  else if x'.blocked w.line then none
  else match s'.decideReq k w with
    | .done t => some t
    | .wait => some (s'.joinWaits k w)
    | .retry => none
/-- The earliest retry that can proceed does (R173): `n` bounds the search. -/
def State.grantRetry : Nat → State → Nat → List Waiter → State
  | 0, s, _, _ => s
  | n + 1, s, k, l =>
    match s.firstWaiter l with
    | none => s
    | some w =>
      match s.tryRetry k w with
      | some s' => s'
      | none => grantRetry n s k (l.erase w)

/-! ### Host loss and the sweep (R159 to R161) -/

/-- Apply a loss to the open transactions of a slice; the number it completes (R159). -/
def State.lossTxn (s : State) (k chn : Nat) (t : Txn) : State × Bool :=
  let owner := t.owner == some chn && (t.await.contains chn || t.wbOwed)
  let waits := t.await.contains chn || owner
  let mine := t.chn == some chn
  if !waits && !mine then (s, false)
  else
    let s := if owner then s.loseOwner k t (some chn) else s
    let s := s.modTxn k t.id fun t => { t with
      await := t.await.filter (· != chn)
      wbOwed := t.wbOwed && !owner, wbEnd := if owner then none else t.wbEnd
      answer := if owner then 0 else t.answer, entry := if owner then {} else t.entry
      data := if owner && t.needData then some (0, true) else t.data
      lost := t.lost || mine }
    let s := s.tryClose k t.id
    (s, waits && (s.txn k t.id).isNone)
/-- Apply a loss in one slice. -/
def State.lossSlice (s : State) (k chn id : Nat) (counted : Bool) : State :=
  let x := s.slice k
  let mark : LossMark := { id := id, chn := chn, counted := counted, startLap := if x.sweepPos = 0 then x.sweepLap else x.sweepLap + 1 }
  let s := s.setSlice k { x with losses := x.losses ++ [mark], err := x.err ||| 8 }
  let (s, n) := x.txns.foldl (fun (y : State × Nat) t =>
    match y.1.txn k t.id with
    | some t => let (s, b) := y.1.lossTxn k chn t; (s, y.2 + bit b)
    | none => y) (s, 0)
  s.record 0x05 (sliceIsland k) s.now64 [(2, chn), (1, (s.host chn).inc), (4, n)]
/-- Every slice applies the loss of a host whose event was at `at16` (R159, R161). A CHN whose port is upstream no more is
released then (R134), and what a local port holds may enter. -/
def State.applyLoss (s : State) (chn at16 : Nat) : State :=
  let h := s.host chn
  let counted := decide (h.pending < 15)
  let id := s.home.lossSeq
  let s := s.setHost chn
    { h with inc := if counted then (h.inc + 1) % 16 else h.inc, pending := min 15 (h.pending + 1)
             valid := h.valid && !h.leaving, leaving := false }
  let zero (t : Tbl Nat) : Tbl Nat := if h.remote then t else (List.range 16).foldl (fun t k => tset 0 t (16 * h.who + k) 0) t
  let s := { s with home := { s.home with lossSeq := id + 1, counts := zero s.home.counts, signals := zero s.home.signals
                                          lostAt := tset 0 s.home.lostAt (if h.remote then 1024 + h.who else h.who) at16
                                          lossDue := s.home.lossDue.filter fun x => x.1 != chn } }
  let s := (List.range 16).foldl (fun s k => s.lossSlice k chn id counted) s
  if h.remote then s else s.admitHeld h.who
/-- HOST_LOSS. -/
def State.hostLoss (s : State) (chn : Nat) : State :=
  match s.home.lossDue.find? fun x => x.1 == chn with
  | some x => s.applyLoss chn x.2
  | none => s

/-- Offset of the store's buckets in the positions of the sweep and of the trim scanner. -/
abbrev scanStore : Nat := 2 ^ 24
/-- The next position, from `from'` up, at which a slice holds something: a way, or a bucket. -/
def State.nextPos (s : State) (k from' : Nat) : Option Nat :=
  match (s.slice k).ways.find? fun w => decide (from' ≤ w.1) with
  | some w => some w.1
  | none => (s.nextBucket k (from' - scanStore)).map (· + scanStore)

/-- The sweep resolves the stale pointers of an entry, and of the transactions that were decided on it. -/
def State.sweepEntry (s : State) (k line : Nat) (e : DirEntry) : State :=
  let (s, e') := s.purge k line e (s.lineTarget k line)
  if e' = e then s
  else
    (s.putEntry k line e' e.charge).modSlice k fun x => { x with txns := x.txns.map fun t =>
      if t.line ≠ line then t
      else if t.kind.isMove && e.state == 2 then
        { t with data := t.data.map fun _ => (0, true), overData := 0, overMask := BitVec.allOnes 64, overPoison := true }
      else if t.entry.ptrs = e.ptrs ∧ t.entry.state = e.state then { t with entry := e' }
      else t }
/-- The sweep examines a way. -/
def State.sweepWay (s : State) (k key : Nat) : State :=
  match tget none (s.slice k).ways key with
  | none => s
  | some w => if ((s.slice k).fetching w.line).isSome then s else (s.sweepEntry k w.line w.entry).freeWay k w.line
/-- The sweep examines the victims: their entries are between a way and a slot. -/
def State.sweepVictims (s : State) (k : Nat) : State :=
  (s.slice k).victims.foldl (fun s v => if v.clear || (s.slice k).victimOf v.line != some v then s else s.sweepEntry k v.line v.entry) s
/-- The sweep examines a bucket: slots whose entry stands elsewhere or is cleared are void, and suspect buckets hold no stale
pointers for it (R170, R179). -/
def State.sweepBucket (s : State) (k b : Nat) : State :=
  match s.bucket k b with
  | none => s.markSuspect k b (s.bucketLine k b)
  | some l =>
    let s := s.countDir k b 2
    if isSuspect l then s
    else (slotEntries l).foldl (fun s y =>
      let (i, line, e) := y
      let x := s.slice k
      if ((x.wayOf line).isSome && (x.fetching line).isNone) || x.victims.any (·.line == line) then s
      else
        let (s, e') := s.purge k line e (s.lineTarget k line)
        if e' = e then s
        else
          let s := s.modSlice k fun x => (x.recharge e e' 0).1
          s.putStoreSlot k b i line (some e) (if e'.live then some { e' with charge := e.charge } else none)) s

/-- The end of a sweep lap, after the victims: the summaries of the losses whose lap it was (R160, R161). -/
def State.sweepLapEnd (s : State) (k : Nat) : State :=
  let s := s.sweepVictims k
  let x := s.slice k
  let done := x.losses.filter fun m => decide (m.startLap ≤ x.sweepLap)
  let s := s.setSlice k { x with sweepLap := (x.sweepLap + 1) % 2 ^ 32, sweepPos := 0, losses := x.losses.filter fun m => !decide (m.startLap ≤ x.sweepLap) }
  done.foldl (fun s m =>
    let s := s.record 0x06 (sliceIsland k) s.now64 [(2, m.chn), (4, m.poisoned), (8, m.lowest)]
    let last := !s.home.slices.any fun y => y.2.losses.any (·.id == m.id)
    if last && m.counted then
      let s := s.modHost m.chn fun h => { h with pending := h.pending - 1 }
      if (s.host m.chn).valid && !(s.host m.chn).remote then s.admitHeld (s.host m.chn).who else s
    else s) s
/-- SWEEP_STEP. -/
def State.sweepStep (s : State) (k : Nat) : State :=
  if !(s.slice k).running then s
  else match s.nextPos k (s.slice k).sweepPos with
    | none => s.sweepLapEnd k
    | some p =>
      let s := s.modSlice k fun x => { x with sweepPos := p + 1 }
      if p < scanStore then s.sweepWay k p else s.sweepBucket k (p - scanStore)

/-! ### The commands -/

/-- HOME_REQUEST (R150). -/
def execHomeRequest (slice : Slice) (msg : Msg) (s : State) : Answer := act s fun s => s.homeRequest slice msg
/-- HOME_RWD (R153). -/
def execHomeRwd (slice : Slice) (msg : Msg) (s : State) : Answer := act s fun s => s.homeRwd slice msg
/-- BIRSP (R151). -/
def execBirsp (slice : Slice) (msg : Msg) (s : State) : Answer := act s fun s => s.birsp slice msg
/-- BICONFLICT (R154). -/
def execBiconflict (slice : Slice) (msg : Msg) (s : State) : Answer := act s fun s => s.biconflict slice msg
/-- BACKING_READ_RESPONSE (R184). -/
def execBackingReadResponse (slice : Slice) (txn : Nat) (data : BitVec 512) (poison : Bool) (s : State) : Answer :=
  act s fun s => s.backingRead slice txn data poison
/-- BACKING_WRITE_ACK (R149). -/
def execBackingWriteAck (slice : Slice) (line : Line56) (s : State) : Answer := act s fun s => s.writeAck slice line
/-- WAIT_LIST_TAKE (R148). -/
def execWaitListTake (slice : Slice) (line : Line56) (s : State) : Answer := act s fun s => s.waitTake slice line
/-- RETRY_QUEUE_GRANT (R173). -/
def execRetryQueueGrant (slice : Slice) (s : State) : Answer :=
  act s fun s => s.grantRetry ((s.slice slice).retry.length) slice (s.slice slice).retry
/-- SNOOP_TIMEOUT (R156). -/
def execSnoopTimeout (slice : Slice) (txn : Nat) (s : State) : Answer := act s fun s => s.snoopTimeout slice txn
/-- WB_TIMEOUT (R156). -/
def execWbTimeout (slice : Slice) (txn : Nat) (s : State) : Answer := act s fun s => s.wbTimeout slice txn
/-- MEM_READ_TIMEOUT (R156). -/
def execMemReadTimeout (slice : Slice) (txn : Nat) (s : State) : Answer := act s fun s => s.readTimeout slice txn
/-- MEM_WRITE_TIMEOUT (R156). -/
def execMemWriteTimeout (slice : Slice) (line : Line56) (s : State) : Answer := act s fun s => s.writeTimeout slice line
/-- LATE_WB_FILTER_EXPIRY (R157). -/
def execLateWbFilterExpiry (slice : Slice) (s : State) : Answer := act s fun s => s.filterExpiry slice
/-- HOST_LOSS (R159). -/
def execHostLoss (chn : Chn) (s : State) : Answer := act s fun s => s.hostLoss chn
/-- SWEEP_STEP (R161). -/
def execSweepStep (slice : Slice) (s : State) : Answer := act s fun s => s.sweepStep slice
/-- ZERO_P (R190). -/
def execZeroP (slice : Slice) (page : Page) (vfi : Vfi) (s : State) : Answer := act s fun s => s.zeroHear slice page vfi
/-- ZERO_ANSWER (R190). -/
def execZeroAnswer (slice answering : Slice) (page : Page) (s : State) : Answer := act s fun s => s.zeroGot slice answering page
/-- DONE_P (R190). -/
def execDoneP (slice : Slice) (page : Page) (s : State) : Answer := act s fun s => s.zeroDone slice page

end Sys2Proof.Machine
end

