-- ==== Sys2Proof/Machine/Directory.lean ====
section
/-!
DEFINITION. The directory's capacity (chapter 07): bucket reads, victims, trims, moves; the home and
directory opcodes and the CHM window.
-/

namespace Sys2Proof.Machine

/-! ### Bucket reads (R171, R176, R179) -/

/-- STORE_BUCKET_READ. -/
def State.bucketRead (s : State) (k id : Nat) (unc : Bool) : State :=
  match s.txn k id with
  | none => s
  | some t =>
    if !t.storeRead then s
    else if t.settled && s.recheckFails t.msg then (s.refuseLost k t.msg true).dropTxn k t
    else
      let b := s.bucketOf t.line
      match (if unc then none else s.bucket k b) with
      | none => (s.markSuspect k b t.line).startRecover k id
      | some l =>
        let found := (slotEntries l).find? fun x => x.2.1 == t.line
        if found = none ∧ t.wbSeen = false ∧ isSuspect l = true then s.startRecover k id
        else if found = none ∧ t.wbSeen = false ∧ createsEntry t.msg = true ∧ s.overage k t.msg.vfi.toNat = true then
          (s.dropTxn k t).joinRetry k { line := t.line, msg := t.msg, recheck := t.settled, since := s.clock }
        else
          -- an entry in the victim buffer goes before the slot (R170); the owner's writeback has changed what it set (R153)
          let void := (s.slice k).victims.any (·.line == t.line)
          let s := s.modTxn k id fun t => { t with storeRead := false, wbSeen := false, entry := {} }
          let s := match found, (s.slice k).wayOf t.line with
            | some y, some (key, w) =>
              if void then s
              else s.modSlice k fun x =>
                { x with ways := tset none x.ways key (some { w with entry := y.2.2, stored := true, changed := false }) }
            | _, _ => s
          let s := if t.wbSeen then s.putEntry k t.line t.entry t.entry.charge else s
          s.actOn k id ((s.heldEntry k t.line).getD {})

/-! ### The victim buffer (R177, R178) -/

/-- Hosts to snoop for an entry, counting 16 for every coarse bit (R178). -/
def State.snoopCost (s : State) (e : DirEntry) : Nat :=
  if e.coarse then 16 * ((List.range 64).filter fun i => e.groups.getLsbD i).length else (s.livePtrs e).length
/-- The candidate to remove from a full bucket: candidates are index, line, entry (R178). -/
def State.pickFull (s : State) (l : List (Nat × Nat × DirEntry)) : Option (Nat × Nat × DirEntry) :=
  let rank (x : Nat × Nat × DirEntry) : Nat × Nat × Nat :=
    (if x.2.2.state = 1 then 0 else 1, if x.2.2.state = 1 then s.snoopCost x.2.2 else 0, tieKey x.1 s.slot 9)
  l.foldl (fun m x => match m with | none => some x | some y => if keyLt (rank x) (rank y) then some x else some y) none

/-- A victim that no invalidation holds back. -/
def SliceSt.nextVictim (x : SliceSt) : Option Victim := x.victims.find? fun v => v.waitFor.isNone
/-- Take a victim out of the buffer. -/
def State.dropVictim (s : State) (k : Nat) (v : Victim) : State := s.modSlice k fun x => { x with victims := x.victims.erase v }
/-- Begin the host invalidation that makes room for a victim. -/
def State.makeRoom (s : State) (k : Nat) (v : Victim) (line : Nat) : State :=
  let s := s.modSlice k fun x =>
    { x with fullInval := satAdd 32 x.fullInval 1
             victims := x.victims.map fun y => if y = v then { y with waitFor := some line } else y }
  s.startJob k line (.hostInval false) 0
/-- Write a victim into slot `i` of its bucket, over the entry that stands there. -/
def State.storeVictim (s : State) (k b i : Nat) (v : Victim) (old : Option DirEntry) : State :=
  (s.putStoreSlot k b i v.line old (some v.entry)).dropVictim k v

/-- VICTIM_WRITE: stale pointers of the victim are resolved first (R160). -/
def State.victimWrite (s : State) (k : Nat) (unc : Bool) : State :=
  let s := match (s.slice k).nextVictim with | some v => if v.clear then s else s.sweepEntry k v.line v.entry | none => s
  match (s.slice k).nextVictim with
  | none => s
  | some v =>
    if s.home.storeLog2 = 0 then
      if v.clear then s.dropVictim k v else s.makeRoom k v v.line
    else
      let b := s.bucketOf v.line
      let s := if unc || (s.bucket k b).isNone then s.markSuspect k b v.line else s
      match s.bucket k b with
      | none => s
      | some l =>
        if v.clear then (s.storeUpdate k v.line none).dropVictim k v
        else if v.stored && !v.changed && !isSuspect l then s.dropVictim k v
        else match (slotEntries l).find? fun x => x.2.1 == v.line with
          | some y => s.storeVictim k b y.1 v (some y.2.2)
          | none =>
            match emptySlot l with
            | some i => s.storeVictim k b i v none
            | none =>
              match s.pickFull (slotEntries l ++ [(8, v.line, v.entry)]) with
              | some c => s.makeRoom k v c.2.1
              | none => s

/-! ### Trims (R181) -/

/-- A position holds an entry charged to an instance that nothing pins; its line. -/
def State.trimLine (s : State) (k vfi p : Nat) : Option Nat :=
  let x := s.slice k
  if p < scanStore then
    match tget none x.ways p with
    | some w => if w.entry.live && w.entry.charge == vfi && x.pin w.line == 0 then some w.line else none
    | none => none
  else match s.bucket k (p - scanStore) with
    | none => none
    | some l => (slotEntries l).findSome? fun y =>
        if y.2.2.charge = vfi ∧ x.wayOf y.2.1 = none ∧ x.victims.any (·.line == y.2.1) = false ∧ x.pin y.2.1 = 0 then some y.2.1 else none
/-- The first such position from `p` up: `n` bounds the scan. -/
def State.trimScan : Nat → State → (k vfi p : Nat) → Option (Nat × Nat)
  | 0, _, _, _, _ => none
  | n + 1, s, k, vfi, p =>
    match s.nextPos k p with
    | none => none
    | some q => match s.trimLine k vfi q with
      | some l => some (q, l)
      | none => trimScan n s k vfi (q + 1)
/-- Instances that the trims of a slice run for. -/
def SliceSt.trims (x : SliceSt) : List Nat :=
  (x.txns.filter (·.kind == .hostInval true)).map (·.entry.charge) ++ (x.waits.filter (·.kind == .hostInval true)).map (·.msg.vfi.toNat)
/-- TRIM: one for each entry above the limit that no trim takes yet. The scanner stays where it took one: that is pinned now. -/
def State.trim (s : State) (k vfi : Nat) : State :=
  let x := s.slice k
  let excess := match s.dirLimit vfi with | some n => decide (n + x.trims.count vfi < tget 0 x.charges vfi) | none => false
  if !excess || decide (16 ≤ x.trims.length) then s
  else
    let n := x.ways.length + s.mem.lines.length + 1
    match (s.trimScan n k vfi x.trimPos) <|> (s.trimScan n k vfi 0) with
    | none => s
    | some (p, line) =>
      let s := s.modSlice k fun x => { x with trimPos := p, trimCount := satAdd 32 x.trimCount 1 }
      s.startJob k line (.hostInval true) vfi

/-! ### Moves (R183, R186) -/

/-- Lines of a placement in flight in a slice. -/
def SliceSt.inMove (x : SliceSt) (i : Nat) : Nat :=
  (x.txns.filter (·.kind == .move i)).length + (x.waits.filter (·.kind == .move i)).length
/-- MOVE_LINE_START: a block left behind first, then the cursor. -/
def State.moveStart (s : State) (k i : Nat) : State :=
  match s.place i with
  | none => s
  | some p =>
    let x := s.slice k
    if !p.moving || p.stopping.isSome || decide (p.depth ≤ x.inMove i) then s
    else match x.skipped.find? fun y => y.1 == i with
      | some y =>
        (s.setSlice k { x with skipped := x.skipped.erase y }).startJob k (p.lineAt k y.2) (.move i) p.moveVfi
      | none =>
        let c := tget 0 x.cursors i
        if p.blocks ≤ c then s
        else (s.setSlice k { x with cursors := tset 0 x.cursors i (c + 1) }).startJob k (p.lineAt k c) (.move i) p.moveVfi

/-- Moves that run. -/
def State.moves (s : State) : List Placement := s.home.places.filterMap fun x => match x.2 with
  | some p => if p.moving then some p else none
  | none => none

/-! ### Home opcodes (Table 06-8) -/

/-- The CHN at bytes 16 and 17. -/
def chnField (c : Cmd) : Nat × Option Nat := c.ranged 16 2 0 1023
/-- HOME_HOST_SET (R441). -/
def opHomeHostSet : OpSpec :=
  { code := 0x40
    absent := fun c s => c.byte 18 == 1 && !s.portExists (min 1023 (c.le 20 2))
    body := fun _ c s =>
      let (n, c0) := chnField c
      let (kind, c1) := c.ranged 18 1 0 2
      let top := if kind = 2 then 0xFFF else 1023
      let who := min top (c.le 20 2)
      let cl := minClamp c0 (minClamp c1 (if kind ≠ 0 ∧ top < c.le 20 2 then some 20 else none))
      if kind = 0 then
        if (s.host n).valid then .ok ((s.applyLoss n s.clock).modHost n fun h => { h with valid := false }) n cl
        else .ok s n cl
      else match s.home.hosts.find? fun x => x.2.valid && x.2.remote == (kind == 2) && x.2.who == who with
        | some x => .ok s x.1 cl
        | none =>
          if (s.host n).valid then .bad s stBusy cl
          else .ok (s.modHost n fun h => { h with valid := true, remote := kind == 2, who := who }) n cl }

/-- HOME_HOST_LOST (R159). A CHN that names no host changes nothing. -/
def opHomeHostLost : OpSpec :=
  { code := 0x41
    body := fun _ c s =>
      let (n, cl) := chnField c
      let s := if (s.host n).valid then s.applyLoss n s.clock else s
      .ok s (s.host n).inc cl }

/-- HOME_ALLOW_SET. -/
def opHomeAllowSet : OpSpec :=
  { code := 0x42, aligned := true
    absent := fun c s => !s.portExists (min 1023 (c.le 16 2))
    body := fun _ c s =>
      let (p, c0) := c.ranged 16 2 0 1023
      let a0 := c.byte 18
      let a := min (min 64 a0) (3584 - s.allowSum p)
      .ok ((s.modPort p fun x => { x with allow := a }).admitHeld p) a (minClamp c0 (if a ≠ a0 then some 18 else none)) }

/-- HOME_TIMEOUT_SET: the fields of the registers written, or all three. -/
def opHomeTimeoutSet : OpSpec :=
  { code := 0x43
    body := fun _ c s =>
      let (a, c0) := c.ranged 16 2 10 65535
      let (b, c1) := c.ranged 18 2 1 1000
      let (m, c2) := c.ranged 20 2 100 65535
      let t := partSet c 0
      let u := partSet c 1
      let s := (List.range 16).foldl (fun s k => s.modSlice k fun x =>
        { x with snoopTo := if t then a else x.snoopTo, wbTo := if t then b else x.wbTo, memTo := if u then m else x.memTo }) s
      .ok s 0 (minClamp (if t then minClamp c0 c1 else none) (if u then c2 else none)) }

/-- STATE of a line: the blocked state of the transaction that holds it, or its stable state (Table 06-2). -/
def State.lineState (s : State) (k line : Nat) : Nat :=
  match (s.slice k).txns.find? (·.line == line) with | some t => t.block | none => ((s.heldEntry k line).getD {}).state
/-- The 16-byte image of a cached entry (Table 06-1), with its SECDED code over [110:0] (R142). -/
def State.entryImage (s : State) (k line : Nat) : Nat :=
  let e := (s.heldEntry k line).getD {}
  let v := BitVec.ofNat 111 (line / 2 ^ 16 % 2 ^ 34 + 2 ^ 34 * s.lineState k line + e.bits + 2 ^ 103 * min 255 ((s.slice k).pin line))
  v.toNat + 2 ^ 111 * (Config.entryEcc v).toNat
/-- RESULT of HOME_LINE_QUERY: the entry as it stands (R170), and whether the store holds a copy that no clear voids. -/
def State.lineWord (s : State) (line : Nat) : Nat :=
  let k := sliceOf (line * 64)
  let x := s.slice k
  let e := (s.heldEntry k line).getD {}
  s.lineState k line + 2 ^ 4 * bit e.coarse + 2 ^ 5 * bit (x.wayOf line).isSome
    + 2 ^ 6 * bit (!x.cleared line && (s.storeEntry k line).isSome) + 2 ^ 7 * bit (x.blocked line)
    + 2 ^ 8 * min 255 (x.pin line) + 2 ^ 16 * (if e.coarse then 0xFFF else (e.ptrs.head?).elim 0xFFF (·.1))
/-- HOME_LINE_QUERY. -/
def opHomeLineQuery : OpSpec :=
  { code := 0x44
    body := fun _ c s =>
      let (a, cl) := c.ranged 16 8 0 (2 ^ 56 - 1)
      .ok s (s.lineWord (a / 64)) cl }
/-- HOME_SWEEP_QUERY. -/
def opHomeSweepQuery : OpSpec :=
  { code := 0x45
    body := fun _ c s =>
      let (k, cl) := c.ranged 16 1 0 15
      .ok s (s.slice k).sweepLap cl }

/-! ### Directory opcodes (Tables 07-4 to 07-6) -/

/-- Write an area of the local address space whole: its lines, and the spares of its retired pages. -/
def State.fillArea (s : State) (la size : Nat) (ones : Bool) : State :=
  let s := s.fillLines (la / 64) ((la + size) / 64) ones
  s.mem.retire.foldl (fun s x =>
    if x.2.valid ∧ la ≤ x.2.page * 4096 ∧ x.2.page * 4096 < la + size then
      s.fillLines (s.sparePage x.1 * 64) (s.sparePage x.1 * 64 + 64) ones
    else s) s

/-- The nearest legal STORE_LOG2: 0, or 20 to 28. -/
def storeLog (v : Nat) : Nat := if v < 10 then 0 else clampNat 20 28 v
/-- A slice holds a live entry. -/
def SliceSt.anyLive (x : SliceSt) : Bool :=
  (x.ways.any fun y => match y.2 with | some w => w.entry.live | none => false) || (x.victims.any fun v => !v.clear) || x.storeLive != 0
/-- DIR_STORE_SET. -/
def opDirStoreSet : OpSpec :=
  { code := 0x48, needsMem := fun _ => true
    body := fun _ c s =>
      let k := storeLog (c.byte 24)
      let c1 := if k ≠ c.byte 24 then some 24 else none
      if s.home.slices.any fun x => x.2.anyLive then .bad s stBusy c1
      else
        let base := if k = 0 then 0 else s.areaBase (k + 8) (2 ^ (k + 8)) (c.le 16 8)
        let c0 := if k ≠ 0 ∧ base ≠ c.le 16 8 then some 16 else none
        let s := (List.range 16).foldl (fun s j => s.modSlice j fun x => { x with suspects := 0, storeLive := 0, stored := [] }) s
        let s := { s with home := { s.home with storeBase := base, storeLog2 := k } }
        .ok (if k = 0 then s else s.fillArea base (2 ^ (k + 8)) false) k (minClamp c0 c1) }

/-- The port has an LD bound (Table 07-5). -/
def State.boundLd (s : State) (p ld : Nat) : Bool :=
  (s.binding (17 * p + ld)).isSome || (s.binding (17 * p + 16)).isSome
/-- The target at bytes 25 to 28, whose kind is at least `least`, names a port or a pool that the variant lacks (R4, R5). -/
def targetAbsentAt (least : Nat) (c : Cmd) (s : State) : Bool :=
  match clampNat least 2 (c.byte 25) with
  | 1 => !s.portExists (min 1023 (c.le 26 2))
  | 2 => !s.isF
  | _ => false
/-- The target that bytes 25 to 39 name, for a range of `size` bytes, with its clamp. -/
def State.targetOf (s : State) (c : Cmd) (kind size : Nat) : Target × Option Nat :=
  if kind = 2 then
    let b := s.areaBase 6 size (c.le 32 8)
    ({ pool := true, base := b }, if b ≠ c.le 32 8 then some 32 else none)
  else
    let (p, c0) := c.ranged 26 2 0 1023
    let (l, c1) := c.ranged 28 1 0 15
    let b := alignDown 6 (c.le 32 8)
    ({ port := p, ld := l, base := b }, minClamp c0 (minClamp c1 (if b ≠ c.le 32 8 then some 32 else none)))
/-- The target is a downstream port with a bound LD, or the pool (Table 07-5). -/
def State.targetOkay (s : State) (t : Target) : Bool := t.pool || ((s.port t.port).cfg.role == 0 && s.boundLd t.port t.ld)

/-- A placement entry starts or ends: what the slices keep of moves by its index is void. -/
def State.freshPlace (s : State) (i : Nat) (p : Option Placement) : State :=
  let s := (List.range 16).foldl (fun s k => s.modSlice k fun x =>
    { x with cursors := tset 0 x.cursors i 0, cut := tset 0 x.cut i 0, skipped := x.skipped.filter (·.1 != i) }) s
  s.setPlace i p
/-- DIR_PLACE_SET (R193, R442). -/
def opDirPlaceSet : OpSpec :=
  { code := 0x49, needsMem := fun c => c.byte 25 ≥ 2
    absent := targetAbsentAt 0
    body := fun _ c s =>
      let (n, c1) := c.ranged 24 1 30 40
      let (kind, c2) := c.ranged 25 1 0 2
      let base := alignDown n (min (c.le 16 8) (2 ^ 56 - 2 ^ n))
      let c0 := if base ≠ c.le 16 8 then some 16 else none
      let cl := minClamp c0 (minClamp c1 c2)
      if kind = 0 then
        match s.placeAtBase (c.le 16 8) with
        | none => .ok s 0xFFFFFFFF (minClamp c1 c2)
        | some (i, p) =>
          if p.moving || p.split then .bad s stBusy (minClamp c1 c2) else .ok (s.freshPlace i none) i (minClamp c1 c2)
      else
        let (t, c3) := s.targetOf c kind (2 ^ n)
        let cl := minClamp cl c3
        if !s.targetOkay t then .bad s stDenied cl
        else match s.placeAtBase base with
          | some (i, p) =>
            if p.n ≠ n then .bad s stNoResource cl
            else if p.moving || p.split then .bad s stBusy cl
            else .ok (s.setPlace i (some { p with target := t, gen := (p.gen + 1) % 256 })) i cl
          | none =>
            let lapped := s.home.places.any fun x => match x.2 with
              | some p => decide (base < p.base + 2 ^ p.n) && decide (p.base < base + 2 ^ n)
              | none => false
            if lapped then .bad s stNoResource cl
            else match (List.range 1024).find? fun i => s.place i = none with
              | none => .bad s stNoResource cl
              | some i => .ok (s.freshPlace i (some { base := base, n := n, target := t })) i cl }

/-- DIR_MOVE (R183, R185, R186). An FMA that starts no entry moves nothing; its RESULT is open. -/
def opDirMove : OpSpec :=
  { code := 0x4A, needsMem := fun c => c.byte 25 ≥ 2
    absent := targetAbsentAt 1
    body := fun tk c s =>
      let (kind, c1) := c.ranged 25 1 1 2
      let (d0, c2) := c.ranged 40 1 1 128
      let vfi := min 255 c.target
      let c3 := if 255 < c.target then some 4 else none
      match s.placeAtBase (c.le 16 8) with
      | none => .ok s.useFree (s.freeValue % 2 ^ 32) (minClamp c1 (minClamp c2 c3))
      | some (i, p) =>
        let (t, c4) := s.targetOf c kind (2 ^ p.n)
        let used := s.moves.foldl (fun n q => n + q.depth) 0
        let d := min d0 (128 - used)
        let cl := minClamp c1 (minClamp c3 (minClamp c4 (if d ≠ d0 then some 40 else c2)))
        if !s.targetOkay t then .bad s stDenied cl
        else if p.moving || (p.split && p.newTarget != t) then .bad s stBusy cl
        else if 8 ≤ s.moves.length ∨ d = 0 then .bad s stNoResource cl
        else
          let p' : Placement := { p with moving := true, newTarget := t, depth := d, copied := 0, moveVfi := vfi, stopping := none
                                         ticket := some { tk with clamp := minClamp tk.clamp cl } }
          if p.split then .later ((s.setPlace i (some { p' with split := false })).settleMove i)
          else .later (s.freshPlace i (some { p' with gen := (p.gen + 1) % 256 })) }

/-- DIR_MOVE_QUERY. -/
def opDirMoveQuery : OpSpec :=
  { code := 0x4B
    body := fun _ c s =>
      let (k, cl) := c.ranged 24 1 0 15
      match s.placeAtBase (c.le 16 8) with
      | none => .ok s.useFree (s.freeValue % 2 ^ 32) cl
      | some (i, _) => .ok s (tget 0 (s.slice k).cut i % 2 ^ 32) cl }

/-- DIR_ZERO_SET mode 1 over what slice `k` still buffers of a range: those bytes are zeros from now on, and are written as
zeros once the write in flight has ended (log entry 90). -/
def State.zeroBuffered (s : State) (k : Nat) (p : Placement) : State :=
  s.modSlice k fun x => { x with
    wbuf := x.wbuf.map fun y => match y.2 with
      | some e => if p.covers y.1 then
          (y.1, some { e with data := 0, mask := BitVec.allOnes 64, poison := false, later := BitVec.allOnes 64, laterPoison := false
                              parts := [], stale := true }) else y
      | none => y
    wwait := x.wwait.map fun w => if p.covers w.line then { w with data := 0, mask := BitVec.allOnes 64, poison := false } else w }
/-- DIR_ZERO_SET mode 1 or 2 sets the whole bitmap: procedures under way for its pages end, and cached words go. -/
def State.zeroDrop (s : State) (k : Nat) (p : Placement) : State :=
  (s.modSlice k fun x => { x with zeroing := x.zeroing.filter fun z => !p.covers (z.page * 64), bitWords := [] }).drainWaits 1024 k
/-- Placements with zero-fill. -/
def State.zeroCount (s : State) : Nat := (s.home.places.filter fun x => match x.2 with | some p => p.zeroFill | none => false).length
/-- DIR_ZERO_SET (R187, R191). -/
def opDirZeroSet : OpSpec :=
  { code := 0x4C, needsMem := fun _ => true
    body := fun tk c s =>
      let (m, c1) := c.ranged 24 1 0 2
      match s.placeAtBase (c.le 16 8) with
      | none => .ok s.useFree (s.freeValue % 2 ^ 32) c1
      | some (i, p) =>
        if p.moving || p.split || p.zeroOff.isSome then .bad s stBusy c1
        else if m = 0 then
          if p.zeroFill then
            .later ((s.setPlace i (some { p with zeroOff := some 0, zeroTicket := some { tk with clamp := minClamp tk.clamp c1 } })).zeroStep i)
          else .ok s 0 c1
        else
          let size := 2 ^ (p.n - 15)
          let b := s.areaBase 6 size (c.le 32 8)
          let cl := minClamp c1 (if b ≠ c.le 32 8 then some 32 else none)
          if !p.zeroFill && decide (64 ≤ s.zeroCount) then .bad s stNoResource cl
          else
            let s := (s.fillArea b size (m == 2)).setPlace i (some { p with zeroFill := true, bitmap := b })
            let s := if m = 1 then (List.range 16).foldl (fun s k => s.zeroBuffered k p) s else s
            .ok ((List.range 16).foldl (fun s k => s.zeroDrop k p) s) 0 cl }

/-- DIR_ZERO_QUERY. -/
def opDirZeroQuery : OpSpec :=
  { code := 0x4D
    body := fun _ c s =>
      let (a, cl) := c.ranged 16 8 0 (2 ^ 56 - 1)
      let page := a / 4096
      let busy := s.home.slices.any fun x => x.2.zeroing.any fun z => z.page == page
      match s.placeOf (a / 64) with
      | some (_, p) => .ok s (bit (p.zeroFill && s.bitmapBit p page) + 2 * bit busy + 4 * bit p.zeroFill) cl
      | none => .ok s 0 cl }

/-- A DIR_STATUS count (Table 07-6). -/
def SliceSt.dirCount (x : SliceSt) : Nat → Nat
  | 0 => x.retry.length
  | 1 => x.retryMax
  | 2 => x.retryCount
  | 3 => x.storeLive
  | 4 => x.fullInval
  | 5 => x.trimCount
  | 6 => x.suspects
  | 7 => x.victims.length + 2 ^ 16 * x.victimsMax
  | 8 => x.initiated + 2 ^ 16 * (x.zeroing.length - x.initiated)
  | 9 => x.oldDiscard
  | _ => x.poisonCopies
/-- DIR_STATUS. -/
def opDirStatus : OpSpec :=
  { code := 0x4E
    body := fun _ c s =>
      let (k, c0) := c.ranged 16 1 0 15
      let (i, c1) := c.ranged 17 1 0 10
      .ok s ((s.slice k).dirCount i) (minClamp c0 c1) }

/-! ### The CHM window (Tables 06-9, 06-10) -/

/-- Reserves in use (R139). -/
def SliceSt.reserve (x : SliceSt) : Nat :=
  let moves := (x.txns.filter fun t => match t.kind with | .move _ => true | _ => false).length
    + (x.waits.filter fun w => match w.kind with | .move _ => true | _ => false).length
  let own := (x.txns.filter fun t => match t.kind with | .hostInval _ => true | .recovery => true | _ => false).length
    + (x.waits.filter fun w => match w.kind with | .hostInval _ => true | .recovery => true | _ => false).length
    + (x.wwait.filter (·.own)).length
  let eng := (x.txns.filter (·.msg.engine)).length + (x.waits.filter (·.msg.engine)).length + (x.retry.filter (·.msg.engine)).length
  min 128 moves + 2 ^ 8 * min 128 own + 2 ^ 16 * (eng % 65536)
/-- The CHM_HOST image. -/
def HostEntry.image (h : HostEntry) : Nat :=
  h.who % 4096 + 2 ^ 12 * h.inc + 2 ^ 16 * bit h.valid + 2 ^ 17 * bit h.remote + 2 ^ 18 * bit (h.pending == 15) + 2 ^ 19 * h.pending
/-- A read of slice `k`'s CHM window. -/
def State.chmRead (s : State) (k o : Nat) : Nat :=
  let x := s.slice k
  if 0x1000 ≤ o ∧ o < 0x2000 then (s.host ((o - 0x1000) / 4)).image
  else if 0x2000 ≤ o ∧ o < 0x2400 then
    (List.range 4).foldl (fun n j =>
      let p := o - 0x2000 + j
      n + 2 ^ (8 * j) * (if s.portExists p then (s.port p).allow else 0)) 0
  else match o with
    | 0x00 => bit x.running + 2 * bit (x.losses != []) + 4 * bit (decide (1024 ≤ x.wbuf.length))
    | 0x04 => x.snoopTo + 2 ^ 16 * x.wbTo
    | 0x08 => x.memTo
    | 0x0C => x.openCount % 2 ^ 13 + 2 ^ 16 * ((x.waits.length + x.retry.length) % 2 ^ 13)
    | 0x10 => x.openMax
    | 0x14 => x.wbuf.length + 2 ^ 16 * x.wbufMax
    | 0x18 => x.err.toNat
    | 0x1C => x.snoopToCount
    | 0x20 => x.wbToCount
    | 0x24 => x.poisonCount
    | 0x28 => x.conflictCount
    | 0x2C => x.protoErr
    | 0x30 => x.lateWb + 2 ^ 16 * x.lossDiscard
    | 0x34 => x.eccC + 2 ^ 16 * x.eccU
    | 0x38 => x.sweepLap
    | 0x3C => x.reserve
    | _ => 0
/-- A write to slice `k`'s CHM window. -/
def State.chmWrite (s : State) (k o v : Nat) : State :=
  match o with
  | 0x04 => s.sidePush 0x43 (sideCmd 0 1 [(16, 2, bitsOf v 15 0), (18, 2, bitsOf v 25 16)])
  | 0x08 => s.sidePush 0x43 (sideCmd 0 2 [(20, 2, bitsOf v 15 0)])
  | 0x10 => if bitOf v 0 then s.modSlice k fun x => { x with openMax := x.openCount } else s
  | 0x18 => s.modSlice k fun x => { x with err := x.err &&& ~~~(BitVec.ofNat 7 v) }
  | _ => s

/-! ### The commands -/

/-- HOME_HOST_SET (R441). -/
def execHomeHostSet (c : Cmd) (s : State) : Answer := act s (opHomeHostSet.submit c)
/-- HOME_HOST_LOST (R159). -/
def execHomeHostLost (c : Cmd) (s : State) : Answer := act s (opHomeHostLost.submit c)
/-- HOME_ALLOW_SET (R138). -/
def execHomeAllowSet (c : Cmd) (s : State) : Answer := act s (opHomeAllowSet.submit c)
/-- HOME_TIMEOUT_SET (R164). -/
def execHomeTimeoutSet (c : Cmd) (s : State) : Answer := act s (opHomeTimeoutSet.submit c)
/-- HOME_LINE_QUERY (R164). -/
def execHomeLineQuery (c : Cmd) (s : State) : Answer := act s (opHomeLineQuery.submit c)
/-- HOME_SWEEP_QUERY (R164). -/
def execHomeSweepQuery (c : Cmd) (s : State) : Answer := act s (opHomeSweepQuery.submit c)
/-- DIR_STORE_SET (R174). -/
def execDirStoreSet (c : Cmd) (s : State) : Answer := act s (opDirStoreSet.submit c)
/-- DIR_PLACE_SET (R442). -/
def execDirPlaceSet (c : Cmd) (s : State) : Answer := act s (opDirPlaceSet.submit c)
/-- DIR_MOVE (R183). -/
def execDirMove (c : Cmd) (s : State) : Answer := act s (opDirMove.submit c)
/-- DIR_MOVE_QUERY (R192). -/
def execDirMoveQuery (c : Cmd) (s : State) : Answer := act s (opDirMoveQuery.submit c)
/-- DIR_ZERO_SET (R191). -/
def execDirZeroSet (c : Cmd) (s : State) : Answer := act s (opDirZeroSet.submit c)
/-- DIR_ZERO_QUERY (R192). -/
def execDirZeroQuery (c : Cmd) (s : State) : Answer := act s (opDirZeroQuery.submit c)
/-- DIR_STATUS (R194). -/
def execDirStatus (c : Cmd) (s : State) : Answer := act s (opDirStatus.submit c)
/-- STORE_BUCKET_READ (R176). -/
def execStoreBucketRead (slice : Slice) (txn : Nat) (uncorrectable : Bool) (s : State) : Answer :=
  act s fun s => s.bucketRead slice txn uncorrectable
/-- VICTIM_WRITE (R177). -/
def execVictimWrite (slice : Slice) (uncorrectable : Bool) (s : State) : Answer := act s fun s => s.victimWrite slice uncorrectable
/-- TRIM (R181). -/
def execTrimStep (slice : Slice) (vfi : Vfi) (s : State) : Answer := act s fun s => s.trim slice vfi
/-- MOVE_LINE_START (R183). -/
def execMoveLineStart (slice : Slice) (place : Fin 1024) (s : State) : Answer := act s fun s => s.moveStart slice place

end Sys2Proof.Machine
end

