-- ==== Sys2Proof/Machine/Streams.lean ====
section
/-!
DEFINITION. The Media Stream Engines (chapter 10): streams, reservations, pacing, advice, inbound
delivery and silt, moves and closes, the stream opcodes, TIME_COURSE_SET with what it does to
streams, and the MSE window. Stream bytes are counted by position; their contents are not held.
-/

namespace Sys2Proof.Machine

/-! ### The end of a stream (R272, R276) -/

/-- PROD advances to the end of the last chunk whose writes have all completed (R270). -/
def State.advanceProd (s : State) (h : Nat) : State :=
  match s.stream h with
  | none => s
  | some d =>
    let p := if d.closeAt.isSome ∧ d.writes = [] then d.ack else alignDown d.chunkLog2 d.ack
    if p ≤ d.prod then s
    else
      let s := s.setStream h (some { d with prod := p })
      let n := p / d.chunk - d.prod / d.chunk
      ((if n = 0 then s else s.cntEngine d.engine 0xC6 (some d.vfi) n)).emit (.ctrlWrite h p s.now64)
/-- The last chunk has closed: the close completes, and what else waited is aborted. -/
def State.endStream (s : State) (h : Nat) : State :=
  match s.stream h with
  | none => s
  | some d =>
    let s := match d.closeTicket with | some tk => s.complete tk stOk (d.pos % 2 ^ 32) | none => s
    let s := match d.moveTicket with | some tk => s.complete tk stAborted 0 | none => s
    let s := match d.readEpoch with | some e => s.settle (84 + d.engine) e | none => s
    s.setStream h (some { d with ended := true, closeTicket := none, moveTicket := none, moveTo := none, readEpoch := none
                                 unsent := 0, ready := 0, writes := [], early := [], chunks := [], poisoned := [] })
/-- A closing stream ends once its last chunk has closed (R276). -/
def State.tryEnd (s : State) (h : Nat) : State :=
  match s.stream h with
  | none => s
  | some d =>
    match d.closeAt with
    | none => s
    | some c =>
      if d.ended then s
      else if !d.inbound then (if c ≤ d.pos ∧ d.unsent = 0 then s.endStream h else s)
      else if !d.driveHalted then s
      else
        let s := if d.closeKeep then s
          else
            let s := s.loseBytes h d.siltHead d.occupancy
            s.modS h fun d => { d with siltHead := d.siltTail, inSilt := false }
        let s := s.sayDrop h
        match s.stream h with
        | some d => if d.occupancy = 0 ∧ d.writes = [] then (s.advanceProd h).endStream h else s
        | none => s

/-! ### Outbound: pacing (R266, R267) -/

/-- The position that an outbound stream may not pass: the end of its last chunk at this engine. -/
def Stream.limit (d : Stream) : Nat :=
  let m := if d.moveTo.isSome then min d.prod d.pSwitch else d.prod
  match d.closeAt with | some c => min m c | none => m
/-- The outbound pacing of one course: credit after the course's share, the bytes it may send, and what
held it back (1 staged data, 2 room in the drive). -/
def Stream.share (d : Stream) (l len : Nat) : Nat × Nat × Nat :=
  let credit := min (d.credit + d.rate * len) (1000 * rateBytes d.rate l)
  let avail := d.limit - d.pos
  let room := 2 ^ d.dbufLog2 - (d.pos - d.ack)
  let n := min (credit / 1000) (min avail room)
  let n := if n < avail then n - n % 64 else n
  (credit, n, if avail < credit / 1000 ∧ avail ≤ room then 1 else if room < credit / 1000 then 2 else 0)
/-- Pace a stream for the course now starting: fix its bytes and issue its staging reads. -/
def State.pace (s : State) (h len : Nat) : State :=
  match s.stream h with
  | none => s
  | some d =>
    let (credit, n, why) := d.share s.ftu.len len
    let s := match why with
      | 1 => s.cntEngine d.engine 0xC7 (some d.vfi)
      | 2 => s.cntEngine d.engine 0xC8 (some d.vfi)
      | _ => s
    let n := n - d.unsent
    if n = 0 then s.setStream h (some { d with credit := credit, courseFrom := d.pos })
    else
      let (s, okay) := s.ringCheck h d (!d.coherent) 0 d.stage d.stageLog2 d.pos n
      if !okay then (s.modS h fun d => { d with credit := credit, state := .denied }).setAdvice h 1
      else
        let s := s.modS h fun d => { d with credit := credit - 1000 * n, pos := d.pos + n, courseFrom := d.pos, unsent := d.unsent + n }
        let s := if d.coherent then s.cntEngine d.engine 0xCC (some d.vfi) (ceilDiv n 64)
          else
            let s := s.ringLines d.engine d.stage d.stageLog2 d.pos n false false
            if d.readEpoch.isSome then s
            else (s.countAccess (84 + d.engine) s.acu.epoch 1).modS h fun d => { d with readEpoch := some s.acu.epoch }
        s.emit (.stagingRead h d.pos n)

/-- The runway, from PROD, CONSUMED and MEDIA_RATE (R268); none where it is unlimited. -/
def Stream.project (d : Stream) : Option Nat :=
  let (a, b) := d.supply
  if d.mediaRate * b ≤ a then none else some ((d.prod - d.ack) * b / (d.mediaRate * b - a))
/-- The runway is less than LEAD. -/
def Stream.short (d : Stream) : Bool :=
  let (a, b) := d.supply
  decide (a < d.mediaRate * b) && decide ((d.prod - d.ack) * b < 1000 * d.lead * (d.mediaRate * b - a))
/-- At RATE the drive could run for twice the lead. -/
def Stream.ample (d : Stream) : Bool :=
  let (a, b) := d.supply
  decide (d.rate * b ≤ a) || decide (2000 * d.lead * (d.rate * b - a) ≤ (d.prod - d.ack) * b)
/-- Outbound advice at a boundary (Table 10-4). -/
def State.adviseOut (s : State) (h : Nat) : State :=
  let s := s.modS h fun d => { d with runway := d.project }
  match s.stream h with
  | none => s
  | some d =>
    if d.state = .closing ∨ d.closeAt.isSome then s.setAdvice h 3
    else if d.state = .denied then s
    else if d.advice = 0 ∧ d.short then s.setAdvice h 1
    else if d.advice = 1 ∧ d.ample then s.setAdvice h 0
    else s

/-! ### Inbound: delivery, silt and drops (R269 to R273) -/

/-- The FMA of a position in DEST, and the kind of access that writes it (R270). -/
def State.destKind (s : State) (d : Stream) : Nat := if (s.winAt d.vfi d.dest).isSome then 1 else 3
/-- The delivery target takes data (Table 10-5). -/
def State.targetOpen (s : State) (d : Stream) : Bool :=
  match s.destPort d with
  | none => (s.winAt d.vfi d.dest).isSome
  | some q => s.portOpen (q / 16) (q % 16) && !s.stopped (q / 16) (q % 16) (if s.destKind d = 1 then 0 else 2)
/-- DEST has room for `n` bytes at `p`. -/
def Stream.destRoom (d : Stream) (p n : Nat) : Bool := decide (p + n ≤ d.cons + 2 ^ d.destLog2)
/-- Write `n` bytes at `p` to DEST; `false`: the ACU denies it (Table 10-7). -/
def State.deliver (s : State) (h p n : Nat) (poison : Bool) : State × Bool :=
  match s.stream h with
  | none => (s, true)
  | some d =>
    let (s, okay) := s.ringCheck h d false (s.destKind d) d.dest d.destLog2 p n
    if !okay then (s.modS h fun d => { d with deliveryDenied := true }, false)
    else
      let s := s.modS h fun d => { d with writes := d.writes ++ [(p, n)] }
      let s := if poison then s.cntEngine d.engine 0xCF (some d.vfi) n else s
      (s.emit (.delivery h p n poison), true)
/-- Where arriving bytes go: after a drop, nowhere; to DEST; or to silt (R270, R271). -/
def State.dispose (s : State) (h p n : Nat) (poison noSlot : Bool) : State :=
  match s.stream h with
  | none => s
  | some d =>
    if d.dropped.isSome then s.loseBytes h p n
    else if d.occupancy = 0 && !noSlot && !d.deliveryDenied && s.targetOpen d && d.destRoom p n then
      let (s, okay) := s.deliver h p n poison
      if okay then s.modS h fun d => { d with inSilt := false } else s.intoSilt h p n poison
    else s.intoSilt h p n poison
/-- Arriving bytes, in their place: nothing is taken beyond a close, bytes from the switch position wait for the hand-over at
the new engine, and the others are disposed of (R275, R276). -/
def State.inletTake (s : State) (h p n : Nat) (poison noSlot : Bool) : State :=
  match s.stream h with
  | none => s
  | some d =>
    let n := match d.closeAt with | some c => min n (c - p) | none => n
    if n = 0 then s
    else
      let next := match d.moveTo with | some (e, _) => if d.pSwitch ≤ p then some e else none | none => none
      let s := s.modS h fun d => { d with pos := p + n, courseBytes := d.courseBytes + n, resumeWait := false }.enter s.t52 p n
      let s := s.cntEngine (next.getD d.engine) 0xC1 (some d.vfi) n
      if next.isSome then s.modS h fun d => { d with early := d.early ++ [(p, n, poison)] }
      else (((s.dispose h p n poison noSlot).modS h Stream.leave).tryEnd h)

/-- INLET_WRITE (R262, R273, R275). -/
def State.inletWrite (s : State) (h off n : Nat) (poison noSlot : Bool) : State :=
  match s.stream h with
  | none => s
  | some d =>
    if !d.inbound || d.ended then s
    else
      let gap := (off + 2 ^ 22 - d.pos % 2 ^ 22) % 2 ^ 22
      let p := d.pos + gap
      if gap = 0 then s.inletTake h p n poison noSlot
      else if d.resumeWait then
        if gap ≤ 2 ^ 22 - d.chunk then
          let s := s.streamRecord h 0x32 s.now64 [(8, d.pos), (8, p)] 2
          let s := ((s.modS h fun d => { d with lost := satAdd 64 d.lost gap }).tally 19 gap)
          s.inletTake h p n poison noSlot
        else s
      else s.streamRecord h 0x35 s.now64 [(8, d.pos), (4, off)] 16

/-- DELIVERY_WRITE_COMPLETE. -/
def State.deliveryDone (s : State) (h : Nat) : State :=
  match s.stream h with
  | none => s
  | some d =>
    match d.writes with
    | [] => match d.late with
      | e :: l => (s.setStream h (some { d with late := l })).modEngine e fun x => { x with lateCpl := satAdd 32 x.lateCpl 1 }
      | [] => s
    | (p, n) :: rest =>
      let s := s.setStream h (some { d with writes := rest, ack := p + n })
      (((((s.cntEngine d.engine 0xCD (some d.vfi)).cntEngine d.engine 0xC2 (some d.vfi) n)).advanceProd h).modS h Stream.leave).tryEnd h

/-- SILT_DRAIN: what lies at the head of the silt, up to the end of its chunk, is delivered (R271). -/
def State.siltDrain (s : State) (h : Nat) (poison : Bool) : State :=
  match s.stream h with
  | none => s
  | some d =>
    let n := min d.occupancy (d.chunk - d.siltHead % d.chunk)
    if n = 0 || d.deliveryDenied || d.siltDenied || d.ended || !s.targetOpen d || !d.destRoom d.siltHead n then s
    else
      let (s, readOk) := s.ringCheck h d true 0 d.silt d.siltLog2 d.siltHead n
      if !readOk then s.modS h fun d => { d with siltDenied := true }
      else
        let (s, okay) := s.deliver h d.siltHead n poison
        if !okay then s
        else
          let s := s.modS h fun d => { d with siltHead := d.siltHead + n, inSilt := decide (d.siltHead + n < d.siltTail) }
          let s := s.ringLines d.engine d.silt d.siltLog2 d.siltHead n false false
          let s := (s.cntEngine d.engine 0xC4 (some d.vfi) n).emit (.siltRead h d.siltHead n)
          let s := if poison then s.streamRecord h 0x34 s.now64 [(8, d.siltHead), (4, n), (1, 1)] 8 else s
          s.tryEnd h

/-- Inbound advice at a boundary (Table 10-6); `0` after a halt resumes at Q (R272, R273). -/
def State.adviseIn (s : State) (h : Nat) : State :=
  match s.stream h with
  | none => s
  | some d =>
    if d.closeAt.isSome then s
    else match d.advice with
      | 0 => if 3 * d.z ≤ 4 * d.occupancy then s.setAdvice h 1 else s
      | 1 => if 4 * d.occupancy < d.z then s.setAdvice h 0 else s
      | 2 =>
        let q := match d.dropped with | some (a, _, _, _) => a | none => d.pos
        let next := if d.occupancy = 0 then q else d.siltHead
        if 2 * d.occupancy < d.z && !d.deliveryDenied && !d.siltDenied && s.targetOpen d && d.destRoom next 1 && d.driveHalted then
          (s.modS h fun d => { d with pos := q, dropped := none, dropSaid := false, resumeWait := true
                                      state := if d.state = .halted then .running else d.state }).setAdvice h 0
        else s
      | _ => s

/-! ### What comes back to an engine (R259, R261, R267) -/

/-- DRIVE_STATUS_READ. -/
def State.statusRead (s : State) (h : Nat) (st : DriveStatus) : State :=
  match s.stream h with
  | none => s
  | some d =>
    if d.ended then (if d.aborted then s.modInst d.vfi fun v => { v with stale := true } else s)
    else if !d.statusOpen then
      match d.late with
      | e :: l => (s.setStream h (some { d with late := l })).modEngine e fun x => { x with lateCpl := satAdd 32 x.lateCpl 1 }
      | [] => s
    else
      let back := d.state == .waitPort
      let halted := st.state.getLsbD 2
      let d' := { d with statusOpen := false, missed := 0, silent := false, mediaRate := st.mediaRate.toNat, driveHalted := halted
                         ack := if d.inbound then d.ack else st.consumed.toNat
                         pos := if back && !d.inbound then st.consumed.toNat else d.pos
                         courseFrom := if back && !d.inbound then st.consumed.toNat else d.courseFrom
                         state := if back then .running else if d.inbound && halted && d.advice == 2 && d.state == .running then .halted
                           else d.state }
      let s := s.setStream h (some d')
      let s := if d.inbound && halted && !d.driveHalted then s.sayDrop h else s
      s.tryEnd h
/-- DRIVE_SILENT (R261). -/
def State.driveSilent (s : State) (h : Nat) : State :=
  match s.stream h with
  | none => s
  | some d =>
    if d.missed < 16 || d.silent || d.ended then s
    else (s.setStream h (some { d with silent := true })).streamRecord h 0x33 s.now64 [(2, d.port), (8, d.ack)] 4
/-- CTRL_READ. -/
def State.ctrlValue (s : State) (h v : Nat) : State :=
  s.modS h fun d => if d.ended then d else if d.inbound then { d with cons := v } else { d with prod := v }
/-- STAGING_READ_RESPONSE. -/
def State.stagingBack (s : State) (h n : Nat) (poison : Bool) : State :=
  match s.stream h with
  | none => s
  | some d =>
    if d.inbound then s
    else if d.ended then (if d.aborted then s.modInst d.vfi fun v => { v with stale := true } else s)
    else
      let r := min d.unsent (d.ready + n)
      let p := d.pos - d.unsent + d.ready
      let d' := { d with ready := r, poisoned := if poison then d.poisoned ++ [(p, r - d.ready)] else d.poisoned
                         readEpoch := if r = d.unsent then none else d.readEpoch }
      let s := s.setStream h (some (d'.enter s.t52 p (r - d.ready)))
      let s := match d.readEpoch with | some e => if r = d.unsent then s.settle (84 + d.engine) e else s | none => s
      if poison then s.streamRecord h 0x34 s.now64 [(8, p), (4, r - d.ready), (1, 0)] 8 else s
/-- The next TLP: position, bytes, and the instant before which it is not issued (R267). -/
def State.nextTlp (s : State) (d : Stream) : Nat × Nat × Nat :=
  let p := d.pos - d.unsent
  let z := d.tlp
  if p < d.courseFrom then (p, min (z - p % z) (d.courseFrom - p), 0)
  else
    let m := (d.pos - 1) / z - d.courseFrom / z + 1
    let k := p / z - d.courseFrom / z
    (p, min (z - p % z) (d.pos - p), 16 * s.ftu.boundary + 16 * k * (s.ftu.nextBoundary - s.ftu.boundary) / m)
/-- STREAM_TLP_ISSUE. -/
def State.tlpIssue (s : State) (h : Nat) : State :=
  match s.stream h with
  | none => s
  | some d =>
    let (p, n, at16) := s.nextTlp d
    if d.inbound || d.ended || d.state == .denied || d.unsent == 0 || decide (d.ready < n) || decide (s.clock < at16)
        || (s.port d.port).state != .up then s
    else
      let bad := meets d.poisoned p n
      let s := s.setStream h (some { d with unsent := d.unsent - n, ready := d.ready - n }.leave)
      let s := s.cntEngine d.engine 0xC0 (some d.vfi) n
      let s := if bad then s.cntEngine d.engine 0xCF (some d.vfi) n else s
      let s := if (p + n) % d.chunk = 0 then s.cntEngine d.engine 0xC6 (some d.vfi) else s
      (s.emit (.streamTlp h p n bad)).tryEnd h

/-- STREAM_HANDOVER (R275): the last old chunk has closed, and the new engine starts at P_sw. -/
def State.handover (s : State) (h : Nat) : State :=
  match s.stream h with
  | none => s
  | some d =>
    match d.moveTo with
    | none => s
    | some (e, slot) =>
      let closed := if d.inbound then decide (d.pSwitch ≤ d.pos) && d.writes.all (fun w => decide (d.pSwitch ≤ w.1))
        else decide (d.pSwitch ≤ d.pos) && d.unsent == 0
      if !closed || d.ended then s
      else
        let s := match d.readEpoch with | some n => s.settle (84 + d.engine) n | none => s
        let s := s.setStream h (some { d with
          engine := e, slot := slot, moveTo := none, moveTicket := none, early := [], readEpoch := none, statusOpen := false
          late := if d.statusOpen then d.late ++ [d.engine] else d.late
          state := if d.state = .moving then .running else d.state })
        let s := match d.moveTicket with | some tk => s.complete tk stOk e | none => s
        (d.early.foldl (fun s w => s.dispose h w.1 w.2.1 (w.2.2 || meets d.poisoned w.1 w.2.1) false) s).modS h Stream.leave

/-! ### The course boundary (R259, R261, R266, R272) -/

/-- Length of the course that has ended. -/
def State.lastLen (s : State) : Nat := match s.ftu.recent with | (_, b) :: (_, a) :: _ => b - a | _ => 0
/-- The drive's port takes traffic. -/
def State.driveUp (s : State) (d : Stream) : Bool := s.portOpen (d.port / 16) (d.port % 16)
/-- The course's reads, and its CONTROL write. -/
def State.courseReads (s : State) (h : Nat) : State :=
  match s.stream h with
  | none => s
  | some d =>
    let s := if s.driveUp d then
        ((s.writeControl h).emit (.statusRead h)).modS h fun d => { d with statusOpen := true }
      else s
    let direct := !d.inbound && !d.coherent
    let line := if d.inbound then d.ctrl + 64 else d.ctrl
    let (s, okay) := s.streamCheck h d direct 0 line 64
    let (s, okay') := if d.inbound || !okay then (s, okay) else s.streamCheck h d direct 1 (d.ctrl + 64) 64
    if okay' then
      let s := if d.inbound then s else s.emit (.ctrlWrite h d.ack s.now64)
      let r : ChReq := { cls := 1, stamp := s.clock, island := 84 + d.engine, line := d.ctrl / 64, write := false }
      let s := if direct then
          (s.memSubmit { r with line := d.ctrl / 64 + 1, write := true, mask := 0xFFFF
                                data := BitVec.ofNat 512 (d.ack % 2 ^ 64 + 2 ^ 64 * s.now64) }).memSubmit r
        else s
      s.emit (.ctrlRead h)
    else if d.inbound || d.state == .closing then s
    else (s.modS h fun d => { d with state := .denied }).setAdvice h 1
/-- What a boundary does for a stream: `len` is the course that starts. -/
def State.streamCourse (s : State) (h len : Nat) : State :=
  match s.stream h with
  | none => s
  | some d =>
    if d.ended then s.setStream h none
    else
      let last := s.lastLen
      let s := if d.statusOpen then s.cntEngine d.engine 0xCB (some d.vfi) else s
      let done := if d.inbound then d.ack else d.prod
      let d := { d with
        missed := if d.statusOpen then satAdd 16 d.missed 1 else d.missed
        records := 0, rises := ((done - d.lastProd, last) :: d.rises).take 8, lastProd := done, courseBytes := 0
        overrate := if d.inbound ∧ 9 * d.rate * last < 8000 * d.courseBytes then satAdd 16 d.overrate 1 else d.overrate
        state := if d.state = .opening then .running else d.state }
      let s := s.setStream h (some d)
      let paced := d.state == .running || d.state == .moving || d.state == .closing
      let s := if d.inbound then s.adviseIn h
        else if paced then (if s.driveUp d then s.pace h len else s).adviseOut h
        else s
      (s.courseReads h).tryEnd h
/-- Every open stream at a boundary. -/
def State.streamsCourse (s : State) : State :=
  s.streamList.foldl (fun s x => if (s.engine x.2.engine).running then s.streamCourse x.1 (s.ftu.nextBoundary - s.ftu.boundary) else s) s

/-! ### Reservations (R255, R263 to R265, R292) -/

/-- Summed RATE of the streams other than `h` that satisfy a test. -/
def State.rateSum (s : State) (h : Nat) (f : Stream → Bool) : Nat :=
  s.streamList.foldl (fun n x => if x.1 ≠ h ∧ f x.2 then n + x.2.rate else n) 0
/-- Streams of an instance. -/
def State.streamsOf (s : State) (v : Nat) : Nat := (s.streamList.filter (·.2.vfi == v)).length
/-- An engine holds a slot and capacity for the stream. -/
def Stream.on (d : Stream) (e : Nat) : Bool := d.engine == e || (match d.moveTo with | some x => x.1 == e | none => false)
/-- Engine `e` has capacity for `r` MB/s more beside the streams other than `h`. -/
def State.engineFits (s : State) (h e r : Nat) : Bool := decide (9 * (s.rateSum h (·.on e) + r) ≤ 8 * 72000)
/-- The lowest free slot of an engine. -/
def State.freeSlot (s : State) (e : Nat) : Option Nat :=
  (List.range 1024).find? fun n => !s.streamList.any fun x =>
    (x.2.engine == e && x.2.slot == n) || (match x.2.moveTo with | some y => y == (e, n) | none => false)
/-- The largest RATE whose cells fit `room` cells per course of length `l` (Table 10-3). -/
def Stream.maxRate (d : Stream) (room l : Nat) : Nat :=
  if room < 3 then 0
  else if d.inbound then 65535
  else ((room - 3) / (d.tlp / 64 + 1) - 1) * d.tlp * 8000 / (9 * l)
/-- The RATE that stream `h`, as `d`, gets when it asks for `r` (R264, R292); none: NO_RESOURCE. -/
def State.fitRate (s : State) (h : Nat) (d : Stream) (r : Nat) : Option Nat :=
  let r := min r ((s.inst d.vfi).rateMax - s.rateSum h (·.vfi == d.vfi))
  let others := s.streamList.filter fun x => x.1 != h
  let lines := others.foldl (fun n x => n + streamLines x.2.rate) 0
  let cells := others.foldl (fun n x => if x.2.port = d.port then n + x.2.cells s.ftu.len else n) 0
  let engines := d.engine :: (match d.moveTo with | some x => [x.1] | none => [])
  if r = 0 || !engines.all (fun e => s.engineFits h e r) || decide (6976 < lines + streamLines r) then none
  else
    let r := min r (d.maxRate (s.rsvLimit d.port - cells) s.ftu.len)
    if r = 0 then none else some r
/-- Lower streams, latest-opened first, where the course length leaves a port over its limit (R265). -/
def State.streamsRelength (s : State) : State :=
  let byAge := s.streamList.foldl (fun l x => insertBy (fun a b => decide (b.2.opened < a.2.opened)) x l) []
  byAge.foldl (fun s x =>
    let d := x.2
    let lim := s.rsvLimit d.port
    let sum := s.reserved d.port
    if sum ≤ lim then s
    else
      let r := max 1 (min d.rate (d.maxRate (lim - (sum - d.cells s.ftu.len)) s.ftu.len))
      if r = d.rate then s
      else (s.modS x.1 fun d => { d with rate := r }).event 0x61 (84 + d.engine) (t64Ns s.ftu.boundary) [(2, x.1), (2, r)]) s

/-- TIME_COURSE_SET (R29, R265). -/
def opTimeCourseSet : OpSpec :=
  { code := 0x20, aligned := true
    body := fun _ c s =>
      let (n, cl) := c.ranged 16 1 10 17
      .ok ({ s with ftu := s.ftu.setLen n s.clock }).streamsRelength 0 cl }

/-! ### Stream opcodes (Table 10-10) -/

/-- The handle at bytes 4 to 7 (R277). -/
def handleOf (c : Cmd) : Nat := min 4095 c.target
/-- The clamp of the handle. -/
def handleClamp (c : Cmd) : Option Nat := if 4095 < c.target then some 4 else none
/-- Engines are absent on K1024-B and K512-B (R4). -/
def mseAbsent (_ : Cmd) (s : State) : Bool := !s.isF

/-- The stream that a descriptor describes, every field at its nearest legal value (Table 10-1, R258). -/
def State.streamFrom (s : State) (b : List Byte) (engine slot opened : Nat) : Stream :=
  let f (off n : Nat) : Nat := leNat ((b.drop off).take n)
  let bitAt (i : Nat) : Bool := bitOf (f 1 1) i
  let inb := decide (1 ≤ f 0 1)
  let coh := bitAt 0
  let sl := clampNat 13 38 (f 40 1)
  let zl := clampNat 13 38 (f 64 1)
  let fma (v : Nat) : Nat := min v (2 ^ 56 - 1)
  let start := alignDown 6 (f 88 8)
  { engine := engine, slot := slot, inbound := inb, coherent := coh, tlp512 := bitAt 1, keepSilt := bitAt 2
    chunkLog2 := clampNat 12 16 (f 2 1), blockLog2 := clampNat 9 26 (f 3 1), port := min 1023 (f 4 2), vfi := f 6 1
    rate := clampNat 1 65535 (f 8 4), lead := clampNat 1 65535 (f 12 2), window := alignDown 12 (fma (f 16 8))
    dbufLog2 := clampNat 16 36 (f 24 1), stageLog2 := sl
    stage := if coh then alignDown 13 (fma (f 32 8)) else s.areaBase 13 (2 ^ sl) (f 32 8)
    ctrl := if inb || coh then alignDown 7 (fma (f 48 8)) else s.areaBase 7 128 (f 48 8)
    silt := s.areaBase 13 (2 ^ zl) (f 56 8), siltLog2 := zl, dest := alignDown 12 (fma (f 72 8)), destLog2 := clampNat 12 40 (f 80 1)
    pos := start, ack := start, prod := start, cons := start, siltHead := start, siltTail := start, lastProd := start
    courseFrom := start, opened := opened }
/-- The descriptor's fields are all legal as given. -/
def State.streamLegal (s : State) (b : List Byte) : Bool :=
  let d := s.streamFrom b 0 0 0
  let f (off n : Nat) : Nat := leNat ((b.drop off).take n)
  f 0 1 == bit d.inbound && f 2 1 == d.chunkLog2 && f 3 1 == d.blockLog2 && f 4 2 == d.port && f 8 4 == d.rate && f 12 2 == d.lead
    && f 16 8 == d.window && f 48 8 == d.ctrl && f 88 8 == d.pos
    && (if d.inbound then f 56 8 == d.silt && f 64 1 == d.siltLog2 && f 72 8 == d.dest && f 80 1 == d.destLog2
        else f 24 1 == d.dbufLog2 && f 32 8 == d.stage && f 40 1 == d.stageLog2)

/-- STREAM_OPEN: the descriptor is read when the command is accepted. -/
def opStreamOpen : OpSpec :=
  { code := 0x60, aligned := true, absent := mseAbsent
    reads := fun c s => s.mgrRead (c.le 24 8) 128
    body := fun tk c s =>
      let h := handleOf c
      let (e, c1) := c.ranged 16 1 0 3
      let cl := minClamp (handleClamp c) c1
      let d := s.streamFrom tk.data e ((s.freeSlot e).getD 0) s.mse.opens
      let cl' := minClamp cl (if s.streamLegal tk.data then none else some 24)
      if (s.stream h).isSome || (s.inst d.vfi).resetting then .bad s stBusy cl'
      else if (s.port d.port).cfg.role ≠ 0 then .bad s stDenied cl'
      else if (s.freeSlot e).isNone || decide ((s.inst d.vfi).streamsMax ≤ s.streamsOf d.vfi) then .bad s stNoResource cl'
      else match s.fitRate h d d.rate with
        | none => .bad s stNoResource cl'
        | some r =>
          let s := s.setStream h (some { d with rate := r })
          let s := { s with mse := { s.mse with opens := s.mse.opens + 1 } }
          .ok (s.courseReads h) r (minClamp cl' (if r = d.rate then none else some 24)) }

/-- STREAM_CHANGE. -/
def opStreamChange : OpSpec :=
  { code := 0x61, aligned := true, absent := mseAbsent
    body := fun _ c s =>
      let h := handleOf c
      let want := min 65535 (c.le 16 4)
      let lead := c.le 20 2
      let cl := minClamp (handleClamp c) (if 65535 < c.le 16 4 then some 16 else none)
      match s.stream h with
      | none => .bad s stDenied cl
      | some d =>
        let lead := if lead = 0 then d.lead else lead
        if want = 0 ∨ want ≤ d.rate then
          let r := if want = 0 then d.rate else want
          .ok (s.setStream h (some { d with rate := r, lead := lead })) r cl
        else match s.fitRate h d want with
          | none => .bad s stNoResource cl
          | some r =>
            let r := max r d.rate
            .ok (s.setStream h (some { d with rate := r, lead := lead })) r (minClamp cl (if r = want then none else some 16)) }

/-- Start a close: nothing beyond the end of the current chunk (R276). -/
def State.startClose (s : State) (h : Nat) (keep : Bool) (tk : Option Ticket) (aborted : Bool) : State :=
  let s := s.modS h fun d => { d with
    state := .closing, closeAt := some (d.chunkEnd d.pos), closeKeep := keep, closeTicket := tk, aborted := aborted }
  match s.stream h with
  | some d => (s.setAdvice h (if d.inbound then 2 else 3)).tryEnd h
  | none => s
/-- STREAM_CLOSE. -/
def opStreamClose : OpSpec :=
  { code := 0x62, aligned := true, absent := mseAbsent
    body := fun tk c s =>
      let h := handleOf c
      let (k, c1) := c.ranged 16 1 0 2
      let cl := minClamp (handleClamp c) c1
      match s.stream h with
      | none => .bad s stDenied cl
      | some d =>
        if d.closeAt.isSome then .bad s stBusy cl
        else .later (s.startClose h (if k = 0 then d.keepSilt else k == 1) (some { tk with clamp := minClamp tk.clamp cl }) false) }

/-- STREAM_MOVE. -/
def opStreamMove : OpSpec :=
  { code := 0x63, aligned := true, absent := mseAbsent
    body := fun tk c s =>
      let h := handleOf c
      let (e, c1) := c.ranged 16 1 0 3
      let cl := minClamp (handleClamp c) c1
      match s.stream h with
      | none => .bad s stDenied cl
      | some d =>
        if d.moveTo.isSome || d.closeAt.isSome then .bad s stBusy cl
        else if d.engine = e then .ok s e cl
        else match s.freeSlot e with
          | none => .bad s stNoResource cl
          | some n =>
            if !s.engineFits h e d.rate then .bad s stNoResource cl
            else .later (s.setStream h (some { d with
              moveTo := some (e, n), pSwitch := d.chunkEnd d.pos, moveTicket := some { tk with clamp := minClamp tk.clamp cl }
              state := if d.state = .running then .moving else d.state })) }

/-- STREAM_RESUME (R274). -/
def opStreamResume : OpSpec :=
  { code := 0x64, absent := mseAbsent
    body := fun _ c s =>
      let h := handleOf c
      match s.stream h with
      | none => .bad s stDenied (handleClamp c)
      | some d =>
        let was := d.state == .denied || d.deliveryDenied || d.siltDenied
        let s := s.setStream h (some { d with
          deliveryDenied := false, siltDenied := false
          state := if d.state = .denied then (if d.moveTo.isSome then .moving else .running) else d.state })
        .ok s (bit (!was)) (handleClamp c) }

/-- STATE codes (Table 10-13). -/
def StreamState.code : StreamState → Nat
  | .opening => 0 | .running => 1 | .denied => 2 | .waitPort => 3 | .halted => 4 | .moving => 5 | .closing => 6
/-- MSE_SLOT_STATUS. -/
def Stream.word (d : Stream) (h : Nat) : Nat :=
  h + 2 ^ 12 + 2 ^ 13 * bit d.inbound + 2 ^ 14 * d.state.code + 2 ^ 18 * d.advice + 2 ^ 20 * bit d.inSilt + 2 ^ 21 * bit d.silent
/-- STREAM_QUERY. -/
def opStreamQuery : OpSpec :=
  { code := 0x65, absent := mseAbsent
    body := fun _ c s =>
      let h := handleOf c
      let (k, c1) := c.ranged 16 1 0 5
      let cl := minClamp (handleClamp c) c1
      match s.stream h with
      | none => .bad s stDenied cl
      | some d =>
        .ok s (match k with
          | 0 => d.word h
          | 1 => d.pos % 2 ^ 32
          | 2 => d.ack % 2 ^ 32
          | 3 => min (2 ^ 32 - 1) (d.occupancy / 1024)
          | 4 => min (2 ^ 32 - 1) d.lost
          | _ => d.runway32) cl }

/-- MSE_SETUP. -/
def opMseSetup : OpSpec :=
  { code := 0x66, absent := mseAbsent
    body := fun _ c s =>
      let a := alignDown 34 (min (c.le 16 8) (2 ^ 56 - 2 ^ 34))
      let b := min (c.le 24 8) (2 ^ 56 - 1)
      let cl := if a ≠ c.le 16 8 then some 16 else if b ≠ c.le 24 8 then some 24 else none
      if s.streamList != [] then .bad s stBusy cl
      else .ok { s with mse := { s.mse with inletBase := a, localBase := b } } 0 cl }

/-! ### Instance resets (R303, R304) -/

/-- A chunk of the stream is open. -/
def Stream.chunkOpen (d : Stream) : Bool :=
  !d.ended && (if d.closeAt.isSome then true
    else if d.inbound then d.pos % d.chunk != 0 || d.writes != []
    else d.pos % d.chunk != 0 || d.unsent != 0)
/-- Close every stream of an instance at the end of its chunk; its pending commands are aborted. -/
def State.abortStreams (s : State) (v : Nat) : State :=
  (s.streamList.filter fun x => x.2.vfi == v && !x.2.ended).foldl (fun s x =>
    let d := x.2
    let s := match d.closeTicket with | some tk => s.complete tk stAborted 0 | none => s
    let s := match d.moveTicket with | some tk => s.complete tk stAborted 0 | none => s
    let s := s.modS x.1 fun d => { d with closeTicket := none, moveTicket := none }
    if d.closeAt.isSome then s.modS x.1 fun d => { d with closeKeep := false, aborted := true }
    else s.startClose x.1 false none true) s
/-- A stream ends at once at its sent position, with advice 3 (R304). -/
def State.cutStream (s : State) (h : Nat) : State :=
  let s := s.modS h fun d => { d with
    pos := if d.inbound then d.pos else d.pos - d.unsent, unsent := 0, closeAt := some (if d.inbound then d.pos else d.pos - d.unsent) }
  ((s.setAdvice h 3).writeControl h).endStream h

/-! ### The MSE windows (Tables 10-12, 10-13) -/

/-- Register `o` of the slot block of stream `h`. -/
def State.slotRead (s : State) (h : Nat) (d : Stream) (o : Nat) : Nat :=
  match o with
  | 0x00 => d.word h
  | 0x04 => d.rate + 2 ^ 16 * d.lead
  | 0x08 => d.pos % 2 ^ 32
  | 0x0C => d.pos / 2 ^ 32 % 2 ^ 32
  | 0x10 => d.ack % 2 ^ 32
  | 0x14 => d.ack / 2 ^ 32 % 2 ^ 32
  | 0x18 => d.occupancy / 1024
  | 0x1C => d.runway32
  | 0x20 => d.lost % 2 ^ 32
  | 0x24 => d.lost / 2 ^ 32
  | 0x28 => d.cells s.ftu.len % 2 ^ 20 + 2 ^ 20 * (streamLines d.rate % 2 ^ 12)
  | 0x2C => d.pos / d.chunk % 2 ^ 32
  | 0x30 => d.overrate + 2 ^ 16 * d.missed
  | _ => 0
/-- A read of engine `e`'s window. -/
def State.mseRead (s : State) (e o : Nat) : Nat :=
  if !s.isF then 0
  else if 0x10000 ≤ o then
    match s.streamList.find? fun x => x.2.engine == e && x.2.slot == (o - 0x10000) / 0x40 with
    | some x => s.slotRead x.1 x.2 (o % 0x40)
    | none => 0
  else
    let mine := s.streamList.filter fun x => x.2.on e
    match o with
    | 0x00 => bit (s.engine e).running + 2 * bit (mine.any fun x => x.2.moveTo.isSome)
    | 0x04 => 9 * s.rateSum 4096 (·.on e) / 8
    | 0x08 => mine.length
    | 0x0C => (s.engine e).err.toNat
    | 0x10 => s.mse.inletBase % 2 ^ 32
    | 0x14 => s.mse.inletBase / 2 ^ 32
    | 0x18 => s.mse.localBase % 2 ^ 32
    | 0x1C => s.mse.localBase / 2 ^ 32
    | 0x20 => (s.engine e).lateCpl
    | 0x24 => min (2 ^ 22 - 1) ((s.streamList.filter fun x => x.2.engine == e).foldl (fun n x => n + x.2.buffered) 0)
    | _ => 0
/-- A write to engine `e`'s window: its error flags. -/
def State.mseWrite (s : State) (e o v : Nat) : State :=
  if s.isF && o == 0x0C then s.modEngine e fun x => { x with err := x.err &&& ~~~ BitVec.ofNat 5 v } else s

/-! ### The commands -/

/-- TIME_COURSE_SET (R29). -/
def execTimeCourseSet (c : Cmd) (s : State) : Answer := act s (opTimeCourseSet.submit c)
/-- STREAM_OPEN (R264). -/
def execStreamOpen (c : Cmd) (s : State) : Answer := act s (opStreamOpen.submit c)
/-- STREAM_CHANGE (R264). -/
def execStreamChange (c : Cmd) (s : State) : Answer := act s (opStreamChange.submit c)
/-- STREAM_CLOSE (R276). -/
def execStreamClose (c : Cmd) (s : State) : Answer := act s (opStreamClose.submit c)
/-- STREAM_MOVE (R275). -/
def execStreamMove (c : Cmd) (s : State) : Answer := act s (opStreamMove.submit c)
/-- STREAM_RESUME (R277). -/
def execStreamResume (c : Cmd) (s : State) : Answer := act s (opStreamResume.submit c)
/-- STREAM_QUERY (R277). -/
def execStreamQuery (c : Cmd) (s : State) : Answer := act s (opStreamQuery.submit c)
/-- MSE_SETUP (R262). -/
def execMseSetup (c : Cmd) (s : State) : Answer := act s (opMseSetup.submit c)
/-- DRIVE_STATUS_READ (R261). -/
def execDriveStatusRead (handle : Handle) (st : DriveStatus) (s : State) : Answer := act s fun s => s.statusRead handle st
/-- DRIVE_SILENT (R261). -/
def execDriveSilent (handle : Handle) (s : State) : Answer := act s fun s => s.driveSilent handle
/-- CTRL_READ (R259). -/
def execCtrlRead (handle : Handle) (pos : BitVec 64) (s : State) : Answer := act s fun s => s.ctrlValue handle pos.toNat
/-- STAGING_READ_RESPONSE (R267). -/
def execStagingReadResponse (handle : Handle) (bytes : Nat) (poison : Bool) (s : State) : Answer :=
  act s fun s => s.stagingBack handle bytes poison
/-- STREAM_TLP_ISSUE (R267). -/
def execStreamTlpIssue (handle : Handle) (s : State) : Answer := act s fun s => s.tlpIssue handle
/-- INLET_WRITE (R262). -/
def execInletWrite (handle : Handle) (offset : BitVec 22) (bytes : Nat) (poison noSlot : Bool) (s : State) : Answer :=
  act s fun s => s.inletWrite handle offset.toNat bytes poison noSlot
/-- DELIVERY_WRITE_COMPLETE (R270). -/
def execDeliveryWriteComplete (handle : Handle) (s : State) : Answer := act s fun s => s.deliveryDone handle
/-- SILT_DRAIN (R271). -/
def execSiltDrain (handle : Handle) (poison : Bool) (s : State) : Answer := act s fun s => s.siltDrain handle poison
/-- STREAM_HANDOVER (R275). -/
def execStreamHandover (handle : Handle) (s : State) : Answer := act s fun s => s.handover handle

end Sys2Proof.Machine
end

