-- ==== Sys2Proof/Machine/Forced.lean ====
section
/-!
DEFINITION. Forced settlement (Table 08-12, R218, R304): what an island does with work that is still
open at the completion timeout, for an epoch and for an instance.
-/

namespace Sys2Proof.Machine

/-- The request of a tracker entry is a CXL.mem write. -/
def Tracker.isWrite (e : Tracker) : Bool := e.kind == .memWr || e.kind == .memWrPtl
/-- Answer a tracker entry as for a lost port and free it: its access settles, and a later response
finds no entry. -/
def State.forceAnswer (s : State) (t : Nat) (e : Tracker) : State :=
  let s := s.modTrackers t fun l => l.erase e
  let s := if e.settled then s else s.settle t e.epoch
  s.answerLost t e.msg (s.port e.port).cfg.dpcCpl 0x17 false
/-- A write that has gone out cannot be recalled: it is counted settled, with its record. -/
def State.forceWrite (s : State) (t : Nat) (e : Tracker) (cut : Bool) : State :=
  let s := s.modTrackers t fun l => l.map fun x => if x = e then { x with settled := true, cut := x.cut || cut } else x
  let s := if e.settled then s else s.settle t e.epoch
  let s := { s with acu := { s.acu with err := s.acu.err ||| 8 } }
  s.record 0x72 t s.now64 [(4, e.epoch), (8, e.addr), (2, e.port), (2, e.rid)]
/-- Settle the tracker entries of all tiles that satisfy a test; how many (Table 08-12). -/
def State.forceTrackers (s : State) (f : Tracker → Bool) (cut : Bool) : State × Nat :=
  s.prt.trackers.foldl (fun x y => (y.2.filter f).foldl (fun (z : State × Nat) e =>
    (if e.isWrite then z.1.forceWrite y.1 e cut else z.1.forceAnswer y.1 e, z.2 + 1)) x) (s, 0)

/-- A request that waits is checked again when it is decided. -/
def State.forceWaiter (s : State) (k : Nat) (cut : Bool) (w : Waiter) : State × Waiter :=
  let s := if w.recheck then s else s.settleMsg (sliceIsland k) w.msg
  (s, { w with recheck := true, cut := w.cut || cut })
/-- The data of a request that is decided goes out poisoned. -/
def State.forceTxn (s : State) (k : Nat) (cut : Bool) (t : Txn) : State × Txn :=
  let s := if t.settled then s else s.settleMsg (sliceIsland k) t.msg
  (s, { t with settled := true, forcedPoison := t.forcedPoison || (t.needData && !t.storeRead), cut := t.cut || cut })
/-- Map a list with a state, where a test holds. -/
def forceList {α : Type} (f : α → Bool) (g : State → α → State × α) : List α → State → State × List α
  | [], s => (s, [])
  | a :: l, s =>
    let (s, b) := if f a then g s a else (s, a)
    let (s, r) := forceList f g l s
    (s, b :: r)
/-- Settle the requests of a slice that satisfy a test; how many (Table 08-12). -/
def State.forceHome (s : State) (k : Nat) (fw : Waiter → Bool) (ft : Txn → Bool) (cut : Bool) : State × Nat :=
  let x := s.slice k
  let fw (w : Waiter) : Bool := w.kind == .request && fw w
  let ft (t : Txn) : Bool := (t.kind == .request || t.kind == .direct) && ft t
  let (s, waits) := forceList fw (fun s => s.forceWaiter k cut) x.waits s
  let (s, retry) := forceList fw (fun s => s.forceWaiter k cut) x.retry s
  let (s, txns) := forceList ft (fun s => s.forceTxn k cut) x.txns s
  (s.modSlice k fun x => { x with waits := waits, retry := retry, txns := txns },
    (x.waits.filter fw).length + (x.retry.filter fw).length + (x.txns.filter ft).length)

/-! ### An epoch (R218) -/

/-- The epoch's accesses that no request stands for: relocation reads and copies, staging reads. -/
def State.forceRest (s : State) (e : Nat) : State :=
  let tx (t : Txn) : Txn := match t.kind with
    | .move _ => if t.reading && t.before == e then { t with settled := true } else t
    | _ => t
  let wb (w : WEntry) : WEntry :=
    { w with copyEpoch := if w.copyEpoch = some e then none else w.copyEpoch
             parts := w.parts.map fun p => { p with copyEpoch := if p.copyEpoch = some e then none else p.copyEpoch } }
  let s := (List.range 16).foldl (fun s k => s.modSlice k fun x =>
    { x with txns := x.txns.map tx, wbuf := x.wbuf.map fun y => (y.1, y.2.map wb) }) s
  s.streamList.foldl (fun s x => if x.2.readEpoch = some e then s.modS x.1 fun d => { d with readEpoch := none } else s) s
/-- The epoch that drains in slot `i` has reached its completion timeout. -/
def State.cutDue (s : State) (i : Nat) : Option Nat :=
  let x := s.acu.slotAt i
  match x.epoch, x.endedAt with
  | some e, some b => if !x.cutDone && decide (16 * b + ms16 (max x.ct s.drainFloor) ≤ s.clock) then some e else none
  | _, _ => none
/-- Settle by force what slot `i` still counts. -/
def State.cutSlot (s : State) (i : Nat) : State :=
  match s.cutDue i with
  | none => s
  | some e =>
    let n := (s.acu.slotAt i).total.toNat
    let (s, _) := s.forceTrackers (fun t => !t.settled && t.epoch == e) false
    let s := (List.range 16).foldl (fun s k =>
      (s.forceHome k (fun w => !w.recheck && isCounted w.msg && s.epochFor w.msg == e)
        (fun t => !t.settled && isCounted t.msg && s.epochFor t.msg == e) false).1) s
    let s := s.forceRest e
    let x := s.acu.slotAt i
    let s := { s with acu := s.acu.setSlot i { x with counts := [], forced := x.forced + n, cutDone := true } }
    let s := { s with acu := { s.acu with forced := satAdd 32 s.acu.forced n, err := if n = 0 then s.acu.err else s.acu.err ||| 4 } }
    if n = 0 then s else s.cntAcu 0xA7 none n
/-- ACU_FORCED_SETTLEMENT. -/
def State.forcedSettlement (s : State) : State := (List.range 4).foldl State.cutSlot s

/-! ### An instance (R304) -/

/-- Lines under relocation for an instance, in flight in slice `k`. -/
def SliceSt.movesOf (x : SliceSt) (v : Nat) : List Txn := x.txns.filter fun t => (match t.kind with | .move _ => true | _ => false) && t.msg.vfi.toNat == v
/-- The same, waiting for their line. -/
def SliceSt.moveWaits (x : SliceSt) (v : Nat) : List Waiter := x.waits.filter fun w => (match w.kind with | .move _ => true | _ => false) && w.msg.vfi.toNat == v
/-- A request of an instance that waits, or a transaction of it. -/
def Waiter.ofVfi (w : Waiter) (v : Nat) : Bool := w.kind == .request && !w.cut && w.msg.vfi.toNat == v
/-- A home transaction of an instance. -/
def Txn.ofVfi (t : Txn) (v : Nat) : Bool := (t.kind == .request || t.kind == .direct) && !t.cut && t.msg.vfi.toNat == v
/-- A tracker entry of an instance. -/
def Tracker.ofVfi (e : Tracker) (v : Nat) : Bool := !e.cut && e.vfi == v
/-- Open work of an instance, over all islands. -/
def State.openWork (s : State) (v : Nat) : Nat :=
  let home := s.home.slices.foldl (fun n y =>
    let x := y.2
    n + (x.movesOf v).length + (x.moveWaits v).length + (x.waits.filter (·.ofVfi v)).length + (x.retry.filter (·.ofVfi v)).length
      + (x.txns.filter (·.ofVfi v)).length) 0
  let trk := s.prt.trackers.foldl (fun n y => n + (y.2.filter (·.ofVfi v)).length) 0
  home + trk + (s.streamList.filter fun x => x.2.vfi == v && x.2.chunkOpen).length

/-- Lines under relocation are cut over poisoned; a line that has not begun stays behind (R185). -/
def State.forceMoves (s : State) (k v : Nat) : State × Nat :=
  let x := s.slice k
  let waits := x.moveWaits v
  let s := s.modSlice k fun x => { x with waits := x.waits.filter fun w => !waits.contains w }
  let s := waits.foldl (fun s w => match w.kind with
    | .move i => match s.place i with
      | some p => (s.modSlice k fun x => { x with skipped := x.skipped ++ [(i, p.block w.line)] }).settleMove i
      | none => s
    | _ => s) s
  ((x.movesOf v).foldl (fun s t => match t.kind with
    | .move i => s.moveCopy k i { t with settled := t.settled || !t.reading } 0 true
    | _ => s) s, waits.length + (x.movesOf v).length)
/-- Settle by force all work of an instance that is still open. -/
def State.forceVfi (s : State) (v : Nat) : State :=
  let (s, n) := s.forceTrackers (·.ofVfi v) true
  let (s, n) := (List.range 16).foldl (fun (y : State × Nat) k =>
    let (s, a) := y.1.forceHome k (·.ofVfi v) (·.ofVfi v) true
    let (s, b) := s.forceMoves k v
    (s, y.2 + a + b)) (s, n)
  let open' := s.streamList.filter fun x => x.2.vfi == v && x.2.chunkOpen
  let s := open'.foldl (fun s x => s.cutStream x.1) s
  s.modInst v fun x => { x with forcedDone := true, resetForced := satAdd 32 x.resetForced (n + open'.length) }
/-- VFI_FORCED_SETTLEMENT: at execution of the reset plus CT. -/
def State.vfiForced (s : State) (v : Nat) : State :=
  let x := s.inst v
  if x.resetting && !x.forcedDone && decide (x.resetAt + ms16 s.ctMs ≤ s.clock) then s.forceVfi v else s

/-! ### The commands -/

/-- ACU_FORCED_SETTLEMENT (R218). -/
def execAcuForcedSettlement (s : State) : Answer := act s State.forcedSettlement
/-- VFI_FORCED_SETTLEMENT (R304). -/
def execVfiForcedSettlement (vfi : Vfi) (s : State) : Answer := act s fun s => s.vfiForced vfi

end Sys2Proof.Machine
end

