-- ==== Sys2Proof/Machine/Ingress.lean ====
section
/-!
DEFINITION. Ingress (R17, R27, R91, R95, R103, R106, R123, R138 to R141, R196, R206, R286, R287, R302):
what becomes of a message that a lane-backed port, a home slice or an engine hands to the interconnect,
and the release of home allowance.
-/

namespace Sys2Proof.Machine

/-! ### Who a port belongs to (R91, R283, R285, R286) -/

/-- The VFI that ingress writes for a message from a lane-backed port (Table 11-2). -/
def State.vfiFrom (s : State) (p ld : Nat) : Nat :=
  match if (s.port p).cfg.role = 0 then s.ldBinding p ld else s.portBinding p with
  | some b => b.vfi
  | none => 0
/-- The upstream port of the virtual switch that a port, or an LD of it, stands in (R283). -/
def State.switchOf (s : State) (p ld : Nat) : Option Nat :=
  match s.ldBinding p ld with
  | some b => if b.role = 2 then none else some b.owner
  | none => none
/-- A message from port `p` may be routed to port `q`: both stand in one virtual switch (R283). -/
def State.sameSwitch (s : State) (p ldP q ldQ : Nat) : Bool :=
  match s.switchOf p ldP, s.switchOf q ldQ with
  | some a, some b => a == b
  | _, _ => false
/-- A response, which is not a request of anybody's. -/
def isResponse (m : Msg) : Bool :=
  match m.kind with
  | .ndrCmp | .ndrCmpE | .ndrCmpS | .drs | .ioCplOk | .ioCplUr | .ioCplCa => true
  | _ => false
/-- The port's link IDE lets only configuration requests and DOE through, with their completions (R96). -/
def State.ideShut (s : State) (p : Nat) (m : Msg) : Bool :=
  let x := s.port p
  s.isF && x.ideRequired && x.ideState != 2 && m.kind != .ioCfg && m.kind != .doe && !isResponse m

/-! ### The station (R196 to R206) -/

/-- The requester index that a message carries. -/
def ridOf (m : Msg) : Option Nat := if m.rid = 0xFFF then none else some m.rid.toNat
/-- The check of a message at the station of tile `t`; what passes is counted in flight. `port`: the
ingress port number of the record, `loud` whether the look-up is counted here. -/
def State.stationCheck (s : State) (t port : Nat) (m : Msg) (loud : Bool) : State × Bool :=
  match accessKind m with
  | none => (s, true)
  | some kind =>
    let (fma, len) := if msgType m = 0 then (m.addr.toNat, m.len) else (m.addr.toNat / 64 * 64, 64)
    let (r, off) := s.check (ridOf m) kind fma len
    let s := if loud then (s.tagLookups t s.clock (ridOf m) kind fma len).cntStn t 0xA0 (some m.vfi.toNat) else s
    if r = 0 then (s.countAccess t s.acu.epoch 1, true)
    else
      let vfi := match ridOf m with | some i => (tget {} s.acu.active.req i).vfi | none => m.vfi.toNat
      (s.violation { island := t, rid := ridOf m, port := port, ld := m.ld.toNat, vfi := vfi, epoch := s.acu.epoch, kind := kind
                     reason := r, fma := fma + off, len := len, t64 := s.now64 }, false)

/-! ### Forwarding (R17, R95, R123, R138) -/

/-- A message goes to a port: it takes cell places if the port is UP, and is answered at ingress if not (R123, R440), or if
its link IDE is not Secure where it must be (R96). -/
def State.toPort (s : State) (t off q : Nat) (m : Msg) (slice : Bool) : State :=
  let m := { m with dst := BitVec.ofNat 10 q }
  let cls := msgClass m slice (m.engine && off == 16)
  if !s.knownUp t q then s.answerDown t q (if m.home || m.engine then q else m.reqPort.toNat) m 0x4B true cls
  else if s.ideShut q m then s.answerLost t m (s.port q).cfg.dpcCpl 0x17 true cls
  else s.intoCore t off (q / 16) (q % 16) m slice
/-- Discard a misrouted message, with BAD_TLP and the DISCARDED record of kind `kind` against port `p` (R95, Table 04-9). -/
def State.discard (s : State) (t p kind value : Nat) (m : Msg) : State :=
  let s := s.modPort p fun x => { x with err := x.err ||| 4 }
  (s.record 0x45 t s.now64 [(2, p), (1, kind), (8, value)]).settleMsg t m
/-- The trunk group of a PID's device, and the member that a message takes there: by its hash among those that are UP, or
one that is down where none is (R95). -/
def State.trunkOf (s : State) (pid : Nat) (m : Msg) : Option (Nat × Nat) :=
  let h := if msgType m = 0 ∨ msgType m = 7 then m.pid.toNat else m.addr.toNat / 64 % 2 ^ 50
  match tget none s.prt.routes (pid / 512) with
  | none => none
  | some g => ((s.trunkFor pid h) <|> (s.groupMembers g).head?).map fun q => (g, q)
/-- A message goes to another device over the trunk group of its route (R95). An edge port without an index takes no part
in cross-device routing (R94). -/
def State.toTrunk (s : State) (p pid : Nat) (m : Msg) : State :=
  if (s.port p).cfg.role ≠ 2 ∧ s.portPid p = none then s.discard (p / 16) p 2 pid m
  else match s.trunkOf pid m with
    | none => s.discard (p / 16) p 2 pid m
    | some (g, q) =>
      if (s.port p).cfg.role = 2 ∧ (s.port p).group = some g then s.discard (p / 16) p 2 pid m
      else s.toPort (p / 16) (p % 16) q m false
/-- The edge port of a PID of this device (R94). -/
def State.edgePort (s : State) (pid : Nat) : Option Nat :=
  (s.prt.ports.find? fun x => x.2.edge == some (pid % 512) && x.2.cfg.role != 2).map (·.1)
/-- A message toward a home slice: it enters the core, or waits for allowance behind what waits (R138). -/
def State.toHome (s : State) (p : Nat) (m : Msg) : State :=
  let waits := (s.port p).heldMsgs.any fun h => msgType h == msgType m
  if s.snoopOwed p m || (!waits && s.mayEnter p m) then s.enterHome p m
  else
    (s.modPort p fun x => { x with heldMsgs := x.heldMsgs ++ [m] }).cntTile (p / 16) 0x1B (some m.vfi.toNat) (some (p % 16))

/-! ### CXL.mem from a lane-backed port (R79, R133, R140, R141, R287) -/

/-- The window of a message, and its FMA. -/
def State.windowOf (s : State) (v p : Nat) (m : Msg) : Option (Win × Nat) :=
  let a := m.addr.toNat
  let ws := (s.wins v).filter fun x => !x.2.dc || (s.inst v).accepted.contains (x.1, p)
  if m.isFma then
    (ws.find? fun x => decide (x.2.fma ≤ a) && decide (a < x.2.fma + 2 ^ x.2.log2)).map fun x => (x.2, a)
  else
    (ws.find? fun x => decide (x.2.dpa ≤ a) && decide (a < x.2.dpa + 2 ^ x.2.log2)).map fun x => (x.2, x.2.fma + (a - x.2.dpa))
/-- The message names another device of the cascade. -/
def State.remoteTo (s : State) (m : Msg) : Option Nat :=
  match m.dpid with
  | some d => if s.prt.pbrDev = some (d.toNat / 512) then none else some d.toNat
  | none => none
/-- The request needs 256-byte flits: it goes to a coherent region, or to another device (R79). -/
def State.needs256 (s : State) (w : Option Win) (m : Msg) : Bool :=
  (s.remoteTo m).isSome || (match w with | some w => w.kind != 2 && w.kind != 3 | none => true)
/-- An M2S request that has its FMA is routed by the kind of its region (Table 01-4). -/
def State.routeMem (s : State) (p : Nat) (w : Option Win) (m : Msg) : State :=
  let t := p / 16
  let x := s.port p
  let a := m.addr.toNat
  if x.mode < 2 ∧ s.needs256 w m = true then
    let s := s.modPort p fun x => { x with err := x.err ||| 64 }
    (s.record 0x44 t s.now64 [(2, p), (1, x.mode), (1, x.rate)]).answerLost t m false 0x17
  else match s.remoteTo m, w with
    | some d, _ => s.toTrunk p d m
    | none, some w =>
      if w.kind = 2 then
        let q := w.port
        let m := { m with ld := BitVec.ofNat 4 w.ld, dev := BitVec.ofNat 64 (w.target + (a - w.fma)) }
        match s.ldBinding q w.ld with
        | some b => if b.vfi = m.vfi.toNat then s.toPort t (p % 16) q m false else s.answerLost t m false 0x17
        | none => s.answerLost t m false 0x17
      else if w.kind = 3 then s.toHome p { m with priv := true, dev := BitVec.ofNat 64 (w.target + (a - w.fma)) }
      else s.toHome p m
    | none, none => s.toHome p m
/-- A request of the CXL.mem master from an upstream or a trunk port. -/
def State.ingressM2S (s : State) (p : Nat) (m : Msg) : State :=
  let t := p / 16
  match s.windowOf m.vfi.toNat p m with
  | none =>
    if m.isFma then
      match s.stationCheck t p m true with
      | (s, true) => s.routeMem p none m
      | (s, false) => s.answerLost t m false 0 false
    else (s.record 0x45 t s.now64 [(2, p), (1, 5), (8, m.addr.toNat)]).answerLost t m false 0x17 false
  | some (w, a) =>
    let m := { m with addr := BitVec.ofNat 64 a, isFma := true }
    match s.stationCheck t p m true with
    | (s, true) => s.routeMem p (some w) m
    | (s, false) => s.answerLost t m false 0 false
/-- Port Logic holds, or has partly received, a write of the same host for the same line (R141). -/
def State.writePending (s : State) (p : Nat) (m : Msg) : Bool :=
  let same (h : Msg) : Bool := msgType h == 2 && h.pid == m.pid && h.addr.toNat / 64 == m.addr.toNat / 64
  (s.port p).heldMsgs.any same || (match (s.port p).openMsg with
    | some o => o.rest.any fun c => same c.msg
    | none => false)
/-- A BIRsp or BIConflict from a host. -/
def State.ingressBiRsp (s : State) (p : Nat) (m : Msg) : State :=
  let a := match s.windowOf m.vfi.toNat p m with | some (_, a) => a | none => m.addr.toNat
  let m := { m with addr := BitVec.ofNat 64 a, isFma := true }
  let conflict := m.kind == .biConflict
  let m := { m with wbPending := !conflict && (m.wbPending || s.writePending p m) }
  let s := if conflict then s else { s with home := { s.home with
    owed := s.home.owed.filter fun o => !(o.1 == p && o.2.1 == m.pid.toNat && o.2.2 == a / 64) } }
  match s.remoteTo m with
  | some d => s.toTrunk p d m
  | none => s.intoCore (p / 16) (p % 16) (s.sliceTile (sliceOf a)) 16 m true

/-! ### Responses (R87) -/

/-- The tracker entry that a response answers: among open requests with its tag at the port, the one
with its address, else the oldest. -/
def State.answered (s : State) (t p : Nat) (m : Msg) : Option Tracker :=
  let es := (s.trackers t).filter fun e => e.port == p && e.tag == m.tag.toNat && e.gen == (s.port p).gen
  (es.find? fun e => e.addr == m.addr.toNat || e.dev == m.addr.toNat) <|> es.head?
/-- A response from a downstream or a trunk port goes to whoever its tracker entry names: to a host on another device over
the trunk that its PID hashes to (R95). One that answers no entry of the current generation is discarded (R87). -/
def State.ingressResponse (s : State) (p : Nat) (m : Msg) : State :=
  let t := p / 16
  match s.answered t p m with
  | none => { s with prt := { s.prt with strays := tset 0 s.prt.strays t (satAdd 32 (tget 0 s.prt.strays t) 1) } }
  | some e =>
    let m := { m with addr := BitVec.ofNat 64 e.addr, reqPort := BitVec.ofNat 10 e.requester, pid := BitVec.ofNat 12 e.pid, ld := BitVec.ofNat 4 e.ld }
    if e.home then s.intoCore t (p % 16) (s.sliceTile (sliceOf e.addr)) 16 { m with home := true } true
    else if e.engine then s.intoCore t (p % 16) (engineTile e.requester) 16 { m with engine := true } false
    else if (s.port e.requester).cfg.role = 2 then
      match s.trunkOf e.pid m with
      | some (_, q) => s.toPort t (p % 16) q m false
      | none => s.discard t p 2 e.pid m
    else s.toPort t (p % 16) e.requester m false

/-! ### CXL.io, CXL.cache and what crosses a trunk -/

/-- A message that is routed by port: within the virtual switch of its source, or to a PID. -/
def State.routeByPort (s : State) (p : Nat) (m : Msg) (ldQ : Nat) : State :=
  let t := p / 16
  let q := m.dst.toNat
  match m.dpid with
  | some d =>
    match s.remoteTo m with
    | some d => s.toTrunk p d m
    | none =>
      match s.edgePort d.toNat with
      | some q => s.toPort t (p % 16) q m false
      | none => s.discard t p 3 d.toNat m
  | none =>
    if s.sameSwitch p m.ld.toNat q ldQ then s.toPort t (p % 16) q m false
    else s.answerLost t m false 0x17
/-- The engine that holds the inlet of an address (R262). -/
def State.inletEngine (s : State) (a : Nat) : Option (Option Nat) :=
  if s.isF && decide (s.mse.inletBase ≤ a) && decide (a < s.mse.inletBase + 2 ^ 34) && s.glb.mseRun then
    some ((s.stream ((a - s.mse.inletBase) / 2 ^ 22)).map fun d =>
      match d.moveTo with
      | some (e, _) =>
        -- the old engine keeps the chunk that ends at the switch position (R275)
        let old := (a % 2 ^ 22 + 2 ^ 22 + d.chunk - d.pSwitch % 2 ^ 22) % 2 ^ 22 < d.chunk
        if old then d.engine else e
      | none => d.engine)
  else none
/-- A CXL.io request or message. -/
def State.ingressIo (s : State) (p : Nat) (m : Msg) : State :=
  let t := p / 16
  let own := m.dst.toNat = p ∧ (s.port p).cfg.role = 1 ∧ m.dpid = none
  -- the switch's own functions: configuration space is the standard's, DOE has its own rows
  if own ∧ m.kind = .ioCfg then
    let s := match Config.biAssign m.addr m.data, s.chnOfPort p with
      | some b, some n => s.modHost n fun h => { h with biId := b }
      | _, _ => s
    (s.emit (.reply p { kind := .ioCplOk, tag := m.tag, dst := m.reqPort, vfi := m.vfi, data := BitVec.ofNat 512 s.freeValue })).useFree
  else if own ∧ m.kind = .doe then s
  else if m.kind = .ioForeign then s.answerLost t m false 0 false
  else if m.kind = .ptmReq then
    if (s.port p).cfg.role = 0 then
      s.emit (.wire (Fin.ofNat 1024 p) { kind := .ptmRsp, tag := m.tag, dst := m.reqPort, vfi := m.vfi, data := BitVec.ofNat 512 s.now64 })
    else s
  else
    match s.stationCheck t p m true with
    | (s, false) => s.answerLost t m false 0 false
    | (s, true) =>
      match (if m.kind = .ioMemWr ∧ m.toHost = false then s.inletEngine m.addr.toNat else none) with
      | some (some e) => s.intoCore t (p % 16) (engineTile e) 16 m false
      | some none => s.settleMsg t m
      | none => s.routeByPort p m (if (s.port p).cfg.role = 0 then 0 else m.ld.toNat)

/-! ### MESSAGE_INGRESS -/

/-- A message as ingress stamps it (R103, R198, R286). -/
def State.stampIn (s : State) (p : Nat) (m : Msg) : Msg :=
  let x := s.port p
  let ld := if x.mld ∨ x.cfg.role ≠ 0 then m.ld.toNat else 0
  let pid := if x.cfg.role = 2 then m.pid.toNat else (s.portPid p).getD 0
  { m with
    stamp := BitVec.ofNat 52 s.t52, reqPort := BitVec.ofNat 10 p, vfi := BitVec.ofNat 8 (s.vfiFrom p ld), ld := BitVec.ofNat 4 ld
    rid := BitVec.ofNat 12 ((s.rid p (if x.cfg.role = 0 then ld else 0)).getD 0xFFF), engine := false, home := false
    toHost := if m.dpid.isNone then decide (m.dst.toNat ≠ p) && (s.port m.dst.toNat).cfg.role == 1 else m.toHost
    noAllow := false, priv := false, wbPending := m.wbPending && msgType m == 6, dev := 0, pid := BitVec.ofNat 12 (if x.cfg.role = 2 ∨ m.dpid.isSome then pid else 0) }
/-- A message from a lane-backed port. -/
def State.ingressPort (s : State) (p : Nat) (m0 : Msg) : State :=
  let t := p / 16
  let x := s.port p
  if !s.portOpen t (p % 16) || s.creditsShut p then s
  else
    let m := s.stampIn p m0
    let v := m.vfi.toNat
    let s := s.cntTile t (if msgType m = 0 then 0x14 else 0x15) (some v) (some (p % 16))
    let lost (s : State) : State := s.answerLost t m false 0x17 false
    if s.ideShut p m then s.answerLost t m x.cfg.dpcCpl 0x17 false
    else if isResponse m then
      if x.cfg.role = 1 then
        if m.kind = .drs ∨ msgType m = 3 then s
        else if (s.remoteTo m).isSome then s.toTrunk p ((m.dpid.getD 0).toNat) m
        else if m0.engine then s.intoCore t (p % 16) (engineTile (m0.reqPort.toNat % 4)) 16 { m with engine := true, reqPort := m0.reqPort } false
        else if s.sameSwitch p 0 m.dst.toNat m.ld.toNat then s.toPort t (p % 16) m.dst.toNat m false else s
      else s.ingressResponse p m
    else if (s.inst v).resetting && msgType m != 6 then lost s
    else match msgType m with
      | 1 | 2 =>
        if m.kind = .memSpecRd then s
        else if x.cfg.role = 0 then lost s
        else s.ingressM2S p m
      | 6 => if x.cfg.role = 0 then s else s.ingressBiRsp p m
      | 7 =>
        if m.dpid = none ∧ x.cfg.role ≠ 2 ∧ s.sameSwitch p m.ld.toNat m.dst.toNat m.ld.toNat = true then
          s.toPort t (p % 16) m.dst.toNat m false
        else
          let s := s.modPort p fun x => { x with err := x.err ||| 4 }
          s.record 0x45 t s.now64 [(2, p), (1, 1), (8, m.addr.toNat)]
      | 3 | 5 => if x.cfg.role = 2 then s.routeByPort p m 0 else s
      | _ => s.ingressIo p m
/-- A message that a home slice issues: a response, a snoop or a backing request (R14, R149). -/
def State.ingressSlice (s : State) (k : Nat) (m0 : Msg) : State :=
  let t := s.sliceTile k
  let m := { m0 with stamp := BitVec.ofNat 52 s.t52, home := true }
  let q := m.dst.toNat
  if s.poolShut t 16 || (s.swcTile t).full.contains m.vfi.toNat then s
  else if m.engine ∧ isM2S m = false then s.intoCore t 16 (engineTile (m.reqPort.toNat % 4)) 16 m true
  else
    let m := if isM2S m then m
      else match s.portBinding q with | some b => { m with vfi := BitVec.ofNat 8 b.vfi } | none => m
    s.toPort t 16 q m true
/-- Engine `e` has 64 transactions open at the slice that a request goes to (R139). -/
def State.engineHeld (s : State) (e : Nat) (m : Msg) : Bool :=
  isM2S m && decide (64 ≤ tget 0 s.home.counts (16 * (1024 + e) + sliceOf m.addr.toNat))
    && (match s.winAt m.vfi.toNat m.addr.toNat with | some w => w.kind != 2 | none => true)
/-- A message that an engine issues at its internal port (R15, R255, R270). Its look-up was counted when
the engine issued it. One that the pool, its quota or its reserve cannot take stays with the engine, which issues it again. -/
def State.ingressEngine (s : State) (e : Nat) (m0 : Msg) : State :=
  let t := engineTile e
  let m := { m0 with stamp := BitVec.ofNat 52 s.t52, engine := true, home := false, reqPort := BitVec.ofNat 10 e
                     rid := BitVec.ofNat 12 (3836 + e), noAllow := true, isFma := true }
  if !s.isF || s.poolShut t 16 || (s.swcTile t).full.contains m.vfi.toNat || s.engineHeld e m then s
  else match s.stationCheck t 0x3FF m false with
    | (s, false) => s.answerLost t m false 0 false
    | (s, true) =>
      if isM2S m then
        let a := m.addr.toNat
        let i := 16 * (1024 + e) + sliceOf a
        let slice (s : State) (m : Msg) : State :=
          let s := { s with home := { s.home with counts := tset 0 s.home.counts i (tget 0 s.home.counts i + 1) } }
          s.intoCore t 16 (s.sliceTile (sliceOf a)) 16 m true
        match s.winAt m.vfi.toNat a with
        | some w =>
          let at' : BitVec 64 := BitVec.ofNat 64 (w.target + (a - w.fma))
          if w.kind = 2 then
            if (s.ldBinding w.port w.ld).isSome then s.toPort t 16 w.port { m with ld := BitVec.ofNat 4 w.ld, dev := at' } false
            else s.answerLost t m false 0x17
          else if w.kind = 3 then slice s { m with priv := true, dev := at' }
          else slice s m
        | none => slice s m
      else s.toPort t 16 m.dst.toNat m false
/-- MESSAGE_INGRESS. -/
def State.ingress (s : State) (src : IngressSrc) (m : Msg) : State :=
  if !s.glb.coreRun then s
  else match src with
    | .lanePort p => s.ingressPort p m
    | .slice k => s.ingressSlice k m
    | .engine e => s.ingressEngine e m

/-- ALLOWANCE_RELEASE: a slice's close signal reaches the port's tile (R138). -/
def State.allowanceRelease (s : State) (p k : Nat) : State :=
  let i := 16 * p + k
  if tget 0 s.home.signals i = 0 then s
  else
    ({ s with home := { s.home with signals := tset 0 s.home.signals i (tget 0 s.home.signals i - 1)
                                    counts := tset 0 s.home.counts i (tget 0 s.home.counts i - 1) } }).admitHeld p

/-! ### The commands -/

/-- MESSAGE_INGRESS (R103). -/
def execMessageIngress (src : IngressSrc) (msg : Msg) (s : State) : Answer := act s fun s => s.ingress src msg
/-- ALLOWANCE_RELEASE (R138). -/
def execAllowanceRelease (port : Port) (slice : Slice) (s : State) : Answer := act s fun s => s.allowanceRelease port slice

end Sys2Proof.Machine
end

