-- ==== Sys2Proof/Machine/Lanes.lean ====
section
/-!
DEFINITION. The Lane Complex (chapter 03): lane banks, the board equalisation table, lane loops,
and the shelf links with their frames, time transfer and far-end loop.
-/

namespace Sys2Proof.Machine

/-! ### The equalisation table (R54 to R56) -/

/-- One byte of CRC-32 (IEEE 802.3, reflected). -/
def crc32Bits : Nat → Nat → Nat
  | 0, c => c
  | n + 1, c => crc32Bits n (if c % 2 = 1 then (c / 2) ^^^ 0xEDB88320 else c / 2)
/-- CRC-32 with initial and final XOR of all ones. -/
def crc32 (bs : List Byte) : Nat :=
  (bs.foldl (fun c b => crc32Bits 8 (c ^^^ b.toNat)) 0xFFFFFFFF) ^^^ 0xFFFFFFFF

/-- Bytes `off` to `off + n - 1` as a number. -/
def leAt (bs : List Byte) (off n : Nat) : Nat := leNat ((bs.drop off).take n)

/-- What the checks of Table 03-5 find: 0 good, else the codes of record EQ_TABLE. -/
def eqFinding (bs : List Byte) : Nat :=
  let n := leAt bs 6 2
  let len := 32 + 16 * n + 256 + 4
  if bs.isEmpty then 1
  else if leAt bs 0 4 ≠ 0x42545145 then 2
  else if leAt bs 4 2 ≠ 1 then 3
  else if (n ≠ 512 ∧ n ≠ 1024) ∨ leAt bs 24 4 ≠ len ∨ bs.length < len then 4
  else if leAt bs (len - 4) 4 ≠ crc32 (bs.take (len - 4)) then 5
  else 0

/-- Reduce a coefficient set until the main cursor reaches FS/2 (R56): C-2, C-1, C+1. -/
def fitCursor (cm2 cm1 cp1 : Nat) : Nat × Nat × Nat :=
  let excess := cm2 + cm1 + cp1 - 31
  let cut := min cp1 excess
  let rest := excess - cut
  let c1 := clampNat (rest - cm2) (min rest cm1) (Config.preCursorCut cm2 cm1)
  (cm2 - (rest - c1), cm1 - c1, cp1 - cut)

/-- A lane entry of 16 bytes with every field at its nearest legal value, and whether one was out
of range (Table 03-3, R56). -/
def eqEntry (e : List Byte) : EqLane × Bool :=
  let b (i : Nat) : Nat := leAt e i 1
  let lo (i : Nat) : Nat := b i % 16
  let hi (i : Nat) : Nat := b i / 16
  let f64 := fitCursor (b 5 % 64) (b 6 % 64) (b 7 % 64)
  let f32 := fitCursor 0 (b 8 % 64) (b 9 % 64)
  let raw := [lo 0, hi 0, lo 1, hi 1, lo 2, hi 2, lo 3, hi 3]
  ({ tx8 := min 10 (lo 0), tx16 := min 10 (hi 0), tx32 := min 10 (lo 1), tx64 := min 10 (hi 1)
     req8 := min 10 (lo 2), req16 := min 10 (hi 2), req32 := min 10 (lo 3), req64 := min 10 (hi 3)
     custom64 := bitOf (b 4) 0, custom32 := bitOf (b 4) 1, unused := bitOf (b 4) 2
     cm2 := f64.1, cm1 := f64.2.1, cp1 := f64.2.2, c32m1 := f32.2.1, c32p1 := f32.2.2
     ctle64 := lo 10, ctleLow := hi 10, loss := b 11 },
   (raw.any fun v => decide (10 < v)) || f64 != (b 5 % 64, b 6 % 64, b 7 % 64) || f32 != (0, b 8 % 64, b 9 % 64))

/-- The 16 bytes of lane `l`'s entry. -/
def eqBytes (bs : List Byte) (l : Nat) : List Byte := (bs.drop (32 + 16 * l)).take 16
/-- A shelf link's entry, cage `c` of a table with `n` lanes (Table 03-4). -/
def slEntry (bs : List Byte) (n c : Nat) : Nat × Nat × Nat :=
  let at_ := 32 + 16 * n + 4 * c
  (leAt bs at_ 1 % 8, leAt bs (at_ + 1) 1 % 4, leAt bs (at_ + 2) 1 % 8)

/-- Lanes that exist. -/
def State.laneCount (s : State) : Nat := 16 * s.tileCount

/-- Read, check and take over the table (R54, R56). -/
def State.loadEq (s : State) : State :=
  let bs := s.eeprom
  let f := eqFinding bs
  let n := leAt bs 6 2
  let bad (t : Nat) : Nat := ((List.range 16).filter fun i => (eqEntry (eqBytes bs (16 * t + i))).2).length
  let setTiles (s : State) (src : Nat → Bool) (bad : Nat → Nat) : State :=
    (List.range s.tileCount).foldl (fun s t => s.modTileLnk t fun x => { x with src := src t, badEntries := bad t }) s
  if f ≠ 0 then
    let s := { s with lnk := { s.lnk with eq := [], slEq := [] } }
    (setTiles s (fun _ => true) (fun _ => 0)).record 0x47 91 s.now64 [(1, f), (2, n)]
  else
    let m := min n s.laneCount
    let s := { s with lnk := { s.lnk with
      eq := (List.range m).foldl (fun t l => tset {} t l (eqEntry (eqBytes bs l)).1) []
      slEq := (List.range s.tileCount).foldl (fun t c => tset (4, 1, 3) t c (slEntry bs n c)) [] } }
    setTiles s (fun t => decide (m ≤ 16 * t)) (fun t => if m ≤ 16 * t then 0 else bad t)

/-- Bad entries across all tiles (Table 03-11). -/
def State.badEntries (s : State) : Nat := (s.lnk.tiles.map fun x => x.2.badEntries).sum

/-! ### Lane banks, idle and loops -/

/-- BANK_PLL_LOCK (R53): 50 µs after power-on; loops that waited for it run. -/
def State.bankPllLock (s : State) (t : Nat) : State :=
  let x := s.tileLnk t
  if x.powered && !x.pllLock && decide (x.poweredAt + us16 50 ≤ s.clock) then
    (List.range 16).foldl (fun s i => s.loopRun (16 * t + i)) (s.setTileLnk t { x with pllLock := true })
  else s

/-- LNK_BANK_CTRL.FORCE_OFF (R53): the links of a gated bank are gone. -/
def State.forceOff (s : State) (t : Nat) (off : Bool) : State :=
  let s := if off then
      (List.range 16).foldl (fun s i => s.downToDetect (16 * t + i)) s
    else s
  (s.modTileLnk t fun x => { x with forceOff := off }).repower t

/-- End a lane loop: EN reads 0 and the port stays down (R61, Table 04-3). -/
def State.loopStop (s : State) (p : Nat) : State :=
  let s := { s with lnk := { s.lnk with follow := s.lnk.follow.filter (· ≠ p) } }
  if (s.port p).state = .loop then
    let s := s.modLanes p LaneSt.off
    let s := s.modPort p fun x => { x with cfg := { x.cfg with en := false }, loopReq := none }
    (s.portTo p .disabled).repower (p / 16)
  else s

/-! ### Characters and frames of a shelf link (R64, R66) -/

/-- The 5b/6b and 3b/4b codes of a data character, taken together, invert the running disparity: one of the two has an
unequal number of ones and zeros, and not both. -/
def flipsDisparity (x : Byte) : Bool :=
  let five := x.toNat % 32
  let three := x.toNat / 32
  ([0, 1, 2, 4, 8, 15, 16, 23, 24, 27, 29, 30, 31].contains five) != ([0, 4, 7].contains three)
/-- An idle pair: K28.5 with D16.2, or with D5.6 where the running disparity before it is positive, so that it ends
negative (R64). -/
def idlePair (positive : Bool) : List SlChar := [.k 0xBC, .d (if positive then 0xC5 else 0x50)]
/-- One byte of CRC-16 with polynomial 0x1021. -/
def crc16Bits : Nat → Nat → Nat
  | 0, c => c
  | n + 1, c => crc16Bits n (if 2 ^ 15 ≤ c then (2 * c % 2 ^ 16) ^^^ 0x1021 else 2 * c)
/-- CRC-16 with initial value 0xFFFF (Table 03-9). -/
def crc16 (bs : List Byte) : Nat := bs.foldl (fun c b => crc16Bits 8 (c ^^^ (b.toNat * 256))) 0xFFFF
/-- What a frame's CRC covers: TYPE, SEQ, LENGTH and PAYLOAD (Table 03-9). -/
def frameHead (kind seq : Nat) (payload : List Byte) : List Byte :=
  leBytes 1 kind ++ leBytes 1 seq ++ leBytes 1 payload.length ++ payload
/-- The data characters of a frame (Table 03-9): the CRC's high byte comes last but one. -/
def frameBody (kind seq : Nat) (payload : List Byte) : List Byte :=
  let b := frameHead kind seq payload
  b ++ [BitVec.ofNat 8 (crc16 b / 256), BitVec.ofNat 8 (crc16 b)]
/-- A frame on the wire, after idle pairs and so at negative disparity: K27.7, its characters, K29.7, and two idle pairs
that part it from the next (R64). -/
def frameChars (kind seq : Nat) (payload : List Byte) : List SlChar :=
  let b := frameBody kind seq payload
  let positive := b.foldl (fun d x => d != flipsDisparity x) false
  [.k 0xFB] ++ b.map .d ++ [.k 0xFD] ++ idlePair positive ++ idlePair false

/-- A received frame keeps the checks of R66: no code error, its end where LENGTH puts it, LENGTH at most 32, its CRC. -/
def frameGood (f : SlFrame) (kind : Nat) (payload : List Byte) : Bool :=
  !f.codeError && f.length.toNat == payload.length && decide (f.length.toNat ≤ 32)
    && f.crc.toNat == crc16 (frameHead kind f.seq.toNat payload)
/-- What a shelf sends around a TYPE and a PAYLOAD (Table 03-9). -/
def frameOf (kind seq : Nat) (payload : List Byte) : SlFrame :=
  { seq := BitVec.ofNat 8 seq, length := BitVec.ofNat 8 payload.length, crc := BitVec.ofNat 16 (crc16 (frameHead kind seq payload)) }

/-- The payload of an ACK (Table 03-10). -/
def ackPay (a : SlAcked) : List Byte := [a.seq, a.kind]
/-- The payload of a shelf's PRESENT. -/
def presentPay (kind caps : Byte) (ident : BitVec 128) : List Byte := [kind, caps] ++ leBytes 16 ident.toNat
/-- The payload of a POWER_STATE. -/
def powerPay (power : Byte) (current : BitVec 16) : List Byte := power :: leBytes 2 current.toNat
/-- The payload of a TEMPERATURE. -/
def tempPay (temp : BitVec 16) (limit : Byte) : List Byte := leBytes 2 temp.toNat ++ [limit]
/-- The payload of a DELAY_RESP. -/
def delayPay (turnaround : Word) (answers : Byte) : List Byte := leBytes 4 turnaround.toNat ++ [answers]
/-- The payload of a POWER_WARN of level 3. -/
def warnPay (removal : BitVec 64) : List Byte := 3 :: leBytes 8 removal.toNat

/-! ### Shelf links -/

/-- The feed of a cage is on: its gate is driven. -/
def State.feedOn (s : State) (c : Nat) : Bool := (s.feed c).state == .ramp || (s.feed c).state == .on
/-- LOCKED or ACTIVE. -/
def ShelfLink.up (l : ShelfLink) : Bool := l.state == .locked || l.state == .active
/-- LNK_SL_STATUS.STATE. -/
def SlState.code : SlState → Nat
  | .off => 0 | .search => 1 | .aligned => 2 | .locked => 3 | .active => 4 | .loop => 5

/-- Send a new frame, which takes the next SEQ (Table 03-9). -/
def State.slSend (s : State) (c kind : Nat) (payload : List Byte) : State :=
  let n := (s.link c).txSeq
  (s.modLink c fun l => { l with txSeq := (n + 1) % 256 }).emit (.slFrame (Fin.ofNat 64 c) (frameChars kind n payload))

/-- Transmit one queued message (R67). -/
def State.slSendMsg (s : State) (c : Nat) (m : SlMsg) : State :=
  (s.modLink c fun l => { l with queue := l.queue.map fun x =>
      if x.seq = m.seq then { x with sent := x.sent + 1, lastAt := s.clock } else x }).emit
    (.slFrame (Fin.ofNat 64 c) (frameChars m.kind m.seq m.payload))

/-- Queue a message that is acknowledged; it leaves at once on a locked link (R67, R396). -/
def State.slQueue (s : State) (c kind : Nat) (payload : List Byte) : State :=
  let n := (s.link c).txSeq
  let m : SlMsg := { kind := kind, seq := n, payload := payload }
  let s := s.modLink c fun l => { l with txSeq := (n + 1) % 256, queue := l.queue ++ [m] }
  if (s.link c).up then s.slSendMsg c m else s

/-- Acknowledge a frame (Table 03-10). -/
def State.slAcknowledge (s : State) (c seq kind : Nat) : State :=
  s.slSend c 0x01 (leBytes 1 seq ++ leBytes 1 kind)

/-- A POWER_WARN frame of a pending level (Table 03-10). -/
def State.slWarn (s : State) (c level t64 : Nat) : State :=
  if (s.link c).up then
    (s.modLink c fun l => { l with warns := l.warns.map fun w => if w.1 = level then (w.1, w.2.1, s.clock) else w }).slSend
      c 0x40 (leBytes 1 level ++ leBytes 8 t64)
  else s

/-- Begin a warning level on a shelf link: it is sent at once and ends a far-end loop (R68, R70). -/
def State.slWarnSet (s : State) (c level t64 : Nat) : State :=
  let s := s.modLink c fun l => { l with
    warns := (l.warns.filter fun w => w.1 != level) ++ [(level, t64, s.clock)]
    state := if l.state = .loop then .search else l.state
    loopEnd := if l.state = .loop then s.clock else l.loopEnd }
  s.slWarn c level t64
/-- A warning level is over. -/
def State.slWarnClear (s : State) (c level : Nat) : State :=
  s.modLink c fun l => { l with warns := l.warns.filter fun w => w.1 != level }

/-- Start the comma search (Table 03-8): the module transmits idle pairs. The receiver's polarity is the one POL asks for
(log entry 84). -/
def State.slSearch (s : State) (c : Nat) : State :=
  (s.modLink c fun l => { l with state := .search, score := 0, goodRun := 0, inverted := l.pol == 2 }).emit
    (.slIdle (Fin.ofNat 64 c) (idlePair false))
/-- The link leaves OFF where the feed is on and EN = 1. -/
def State.slStart (s : State) (c : Nat) : State :=
  if (s.link c).en && s.feedOn c && (s.link c).state == .off then s.slSearch c else s

/-- Complete and forget the command that waits on a loop. -/
def State.slLoopDone (s : State) (c status : Nat) : State :=
  match (s.link c).loopCmd with
  | none => s
  | some tk => (s.modLink c fun l => { l with loopCmd := none }).complete tk status 0
/-- Complete and forget the command that waits for a delay. -/
def State.slDelayDone (s : State) (c status res : Nat) : State :=
  match (s.link c).delayCmd with
  | none => s
  | some tk => (s.modLink c fun l => { l with delayCmd := none }).complete tk status res
/-- Complete and forget the SHELF_WAKE whose WAKE frame has SEQ `n` (R396). -/
def State.wakeDone (s : State) (c n status : Nat) (res : Nat → Nat) : State :=
  ((s.feed c).wake.filter fun w => w.2.2 == n).foldl (fun s w => s.complete w.1 status (res w.2.1))
    (s.modFeed c fun f => { f with wake := f.wake.filter fun w => w.2.2 != n })
/-- Complete and forget the SHELF_SLEEP whose SLEEP frame has SEQ `n` (R397). -/
def State.sleepDone (s : State) (c n status : Nat) : State :=
  ((s.feed c).sleep.filter fun w => w.2.2.2 == n).foldl (fun s w => s.complete w.1 status 0)
    (s.modFeed c fun f => { f with sleep := f.sleep.filter fun w => w.2.2.2 != n })

/-- The feed has gone off or EN is 0: queued messages end ABORTED and the link is OFF (Table 03-8). -/
def State.slOff (s : State) (c : Nat) : State :=
  if (s.link c).state = .off then s
  else
    let msgs := (s.link c).queue
    let s := s.modLink c fun l => { l with state := .off, queue := [], lastRx := [], t1 := none, lastTime := 0, delays := [], score := 0 }
    let s := (s.slLoopDone c stAborted).slDelayDone c stTimeout 0
    msgs.foldl (fun s m => match m.kind with
      | 0x30 => s.wakeDone c m.seq stAborted fun _ => 0
      | 0x31 => s.sleepDone c m.seq stAborted
      | _ => s) s

/-- SL_ENABLE and SL_DISABLE (R65). -/
def State.slSetEn (s : State) (c : Nat) (en : Bool) : State :=
  let s := s.modLink c fun l => { l with en := en }
  if en then s.slStart c else s.slOff c

/-- SL_COMMA_ALIGN. -/
def State.slCommaAlign (s : State) (c : Nat) : State :=
  if (s.link c).state = .search then s.modLink c fun l => { l with state := .aligned, alignedAt := s.clock, score := 0, goodRun := 0 }
  else s

/-- Transmit everything queued, in order. -/
def State.slFlush (s : State) (c : Nat) : State := (s.link c).queue.foldl (fun s m => s.slSendMsg c m) s

/-- SL_ALIGNED_TIMER: 100 µs with error score 0. Queued messages leave, then the PRESENT request and
pending warnings; a far-end loop's command completes (R70). -/
def State.slLock (s : State) (c : Nat) : State :=
  let l := s.link c
  if l.state = .aligned ∧ l.score = 0 ∧ l.alignedAt + us16 100 ≤ s.clock then
    let s := s.modLink c fun l => { l with state := .locked, queue := l.queue.filter fun m => m.kind != 0x20 }
    let s := (s.slFlush c).slQueue c 0x20 []
    let s := l.warns.foldl (fun s w => s.slWarn c w.1 w.2.1) s
    if l.loopEnd ≠ 0 then (s.modLink c fun l => { l with loopEnd := 0 }).slLoopDone c stOk else s
  else s

/-- One received character (R65): the score rises at a code error and falls after 4 good characters in a row; 100 µs of
score 0 begin when it is back at 0. At 2 an aligned link drops its alignment, at 4 a locked one (Table 03-8). In a far-end
loop what does not match the sequence sent counts in CODE (R70). -/
def State.slChar (s : State) (c : Nat) (good : Bool) : State :=
  let l := s.link c
  let counted (l : ShelfLink) : ShelfLink := { l with codeErr := satAdd 16 l.codeErr 1 }
  match l.state with
  | .off | .search => s
  | .loop => if good then s else s.modLink c counted
  | st =>
    if good then
      if l.goodRun < 3 then s.modLink c fun l => { l with goodRun := l.goodRun + 1 }
      else s.modLink c fun l => { l with goodRun := 0, score := l.score - 1, alignedAt := if l.score = 1 then s.clock else l.alignedAt }
    else
      let s := s.modLink c fun l => { counted l with goodRun := 0, score := l.score + 1 }
      if st = .aligned then if 2 ≤ l.score + 1 then s.slSearch c else s
      else if 4 ≤ l.score + 1 then
        let s := (s.modLink c fun l => { l with lockLost := true, t1 := none, lastTime := 0 }).slDelayDone c stTimeout 0
        (s.slSearch c).record 0x48 c s.now64 [(1, st.code), (1, min 255 (l.score + 1))]
      else s
/-- SL_ALIGNMENT_LOST: the characters received, good or in error. -/
def State.slChars (s : State) (c : Nat) (chars : List Bool) : State := chars.foldl (fun s g => s.slChar c g) s

/-- SL_POLARITY_SEARCH (R65). -/
def State.slPolarity (s : State) (c : Nat) : State :=
  if (s.link c).state = .search ∧ (s.link c).pol = 0 then s.modLink c fun l => { l with inverted := !l.inverted } else s

/-- Send DELAY_REQ and note its instant (R69). -/
def State.slDelayReq (s : State) (c : Nat) : State :=
  let n := (s.link c).txSeq
  (s.modLink c fun l => { l with t1 := some (n, s.clock), lastReq := s.clock }).slSend c 0x11 []

/-- A removal that is replaced or cancelled ends its command ABORTED (R397). -/
def State.dropRemoval (s : State) (c : Nat) : State :=
  match (s.feed c).removal with
  | none => s
  | some r =>
    let s := (s.modFeed c fun f => { f with removal := none }).slWarnClear c 2
    match r.ticket with
    | some tk => s.complete tk stAborted 0
    | none => s

/-- Schedule a feed removal, with level-2 warnings that carry its instant (R397). -/
def State.scheduleRemoval (s : State) (c : Nat) (r : Removal) : State :=
  ((s.dropRemoval c).modFeed c fun f => { f with removal := some r }).slWarnSet c 2 (t64Of r.at16)

/-- A scheduled removal completes its command when the gate goes off (R397). -/
def State.removalDone (s : State) (c : Nat) : State :=
  match (s.feed c).removal with
  | none => s
  | some r =>
    let s := (s.modFeed c fun f => { f with removal := none }).slWarnClear c 2
    match r.ticket with
    | some tk => s.complete tk (if r.timedOut then stTimeout else stOk) (if r.timedOut then 0 else r.result)
    | none => s

/-- FEED_STATE (Table 15-7): a channel changes state. -/
def State.feedTo (s : State) (c : Nat) (st : FeedState) (trip : Nat) : State :=
  if (s.feed c).state = st then s
  else
    let code := match st with | .off => 0 | .wait => 1 | .ramp => 2 | .on => 3 | .cooldown => 4 | .latched => 5
    (s.modFeed c fun f => { f with state := st, readyAt := none }).event 0x90 92 s.now64 [(1, c), (1, code), (1, trip)]

/-- The gate goes off and the channel takes state `st` (R385): the shelf link follows the feed (R389),
what waits on the shelf ends, and a scheduled removal is complete. -/
def State.gateOff (s : State) (c : Nat) (st : FeedState) (trip : Nat) : State :=
  let s := (s.feedTo c st trip).modFeed c fun f => { f with inLimit := false, limSince := none, outSince := none }
  let s := ((s.emit (.gate (Fin.ofNat 64 c) false)).slOff c).removalDone c
  let s := (s.feed c).wake.foldl (fun s w => s.complete w.1 stAborted 0) (s.modFeed c fun f => { f with wake := [] })
  let s := (s.feed c).sleep.foldl (fun s w => s.complete w.1 stAborted 0) (s.modFeed c fun f => { f with sleep := [] })
  s.modLink c fun l => { l with queue := [], warns := [] }

/-- ON_REQ is cleared: a driven gate goes off, a waiting channel leaves WAIT (R385). -/
def State.feedOff (s : State) (c : Nat) : State :=
  let s := s.modFeed c fun f => { f with onReq := false }
  match (s.feed c).state with
  | .ramp | .on => s.gateOff c .off 0
  | .wait => (s.feedTo c .off 0).removalDone c
  | _ => s.removalDone c

/-- The SLEEP frame with SEQ `n` is over, acknowledged or not: the removal that its command asked for
follows (R397). -/
def State.sleepOver (s : State) (c n : Nat) (acked : Bool) : State :=
  match (s.feed c).sleep.find? fun w => w.2.2.2 == n with
  | none => s
  | some (tk, remove, lead, _) =>
    if remove then
      let s := s.modFeed c fun f => { f with sleep := f.sleep.filter fun w => w.2.2.2 != n }
      let r : Removal := { at16 := s.clock + ms16 lead, ticket := some tk, timedOut := !acked }
      if lead = 0 then ((s.dropRemoval c).modFeed c fun f => { f with removal := some r }).feedOff c
      else s.scheduleRemoval c r
    else s.sleepDone c n (if acked then stOk else stTimeout)

/-- SL_ACK: the message is done (R67, R70, R396, R397). -/
def State.slAck (s : State) (c seq kind : Nat) : State :=
  let l := s.link c
  if l.up && (l.queue.any fun m => m.seq == seq && m.kind == kind && decide (0 < m.sent)) && kind != 0x20 then
    let s := s.modLink c fun l => { l with queue := l.queue.filter fun m => m.seq != seq }
    match kind with
    | 0x30 => s.wakeDone c seq stOk fun b => (s.clock - b) / ms16 1
    | 0x31 => s.sleepOver c seq true
    | 0x50 =>
      ((s.modLink c fun l => { l with state := .loop, loopEnd := s.clock + ms16 l.loopMs, t1 := none }).slDelayDone c stTimeout 0).emit
        (.slPrbs (Fin.ofNat 64 c))
    | _ => s
  else s

/-- A message gives up: NO_RESPONSE (R67, R396, R397). -/
def State.slGiveUp (s : State) (c : Nat) (m : SlMsg) : State :=
  let s := s.modLink c fun l => { l with noResponse := true, queue := l.queue.filter fun x => x.seq != m.seq }
  let s := s.record 0x49 c s.now64 [(1, m.kind), (1, m.seq)]
  match m.kind with
  | 0x30 => s.wakeDone c m.seq stTimeout fun _ => 0
  | 0x31 => s.sleepOver c m.seq false
  | 0x50 => s.slLoopDone c stTimeout
  | _ => s

/-- SL_RETRANSMIT: every message without an answer for 20 µs (R67). -/
def State.slRetransmit (s : State) (c : Nat) : State :=
  if (s.link c).up then
    ((s.link c).queue.filter fun m => decide (0 < m.sent) && decide (m.lastAt + us16 20 ≤ s.clock)).foldl
      (fun s m => if m.sent < 16 then s.slSendMsg c m else s.slGiveUp c m) s
  else s

/-- A frame received on a shelf link: R66 discards it, R67 repeats the acknowledgement of one already
accepted, and `act` is what a new one does. -/
def State.slReceive (s : State) (c kind : Nat) (f : SlFrame) (payload : List Byte) (ack : Bool) (act : State → State) : State :=
  let q := f.seq.toNat
  if !(s.link c).up then s
  else if !frameGood f kind payload then s.modLink c fun l => { l with crcErr := true, crcCount := satAdd 16 l.crcCount 1 }
  else if ack && tget none (s.link c).lastRx kind == some q then s.slAcknowledge c q kind
  else
    let s := s.modLink c fun l => { l with lastRx := tset none l.lastRx kind (some q) }
    act (if ack then s.slAcknowledge c q kind else s)

/-- PRESENT (R68): identity recorded, the module's request answered, time transfer started. -/
def State.slPresent (s : State) (c kind caps : Nat) (ident : BitVec 128) : State :=
  let s := s.modLink c fun l => { l with kind := kind, caps := caps, ident := ident
                                         queue := l.queue.filter fun m => m.kind != 0x20 }
  if (s.link c).state = .locked then
    (s.modLink c fun l => { l with state := .active, lastTime := 0 }).slDelayReq c
  else s

/-- POWER_STATE (R68): recorded; the gate of the tile's ports opens or shuts (R84, R98). -/
def State.slPower (s : State) (c power current : Nat) : State :=
  let old := (s.link c).power
  let s := s.modLink c fun l => { l with power := power, current := current }
  let s := if power = old then s
    else s.event 0x12 c s.now64 [(1, power), (2, current)]
  if power = 2 ∧ old ≠ 2 then
    (List.range 16).foldl (fun s i =>
      let p := 16 * c + i
      if (s.port p).cfg.shelfGate ∧ (s.port p).state = .detect then
        s.modPort p fun x => { x with shelfHold := false, from16 := s.clock } else s) s
  else if power ≠ 2 ∧ old = 2 then
    (List.range 16).foldl (fun s i =>
      let p := 16 * c + i
      if (s.port p).cfg.shelfGate then
        match (s.port p).state with
        | .up | .training => s.downToDetect p
        | .detect => s.modPort p fun x => { x with shelfHold := true, from16 := 0 }
        | _ => s
      else s) s
  else s

/-- TEMPERATURE (R68). -/
def State.slTemp (s : State) (c temp : Nat) (over_ : Bool) : State :=
  s.modLink c fun l => { l with temp := temp, overLimit := over_ }

/-- A new one-way delay is within 8 ns of the mean of the last four: of those that exist, so the first is always taken
(R69, log entry 84). -/
def delayFits (last : List Nat) (d : Nat) : Bool :=
  let n := last.length
  decide (n * d ≤ last.sum + 128 * n) && decide (last.sum ≤ n * d + 128 * n)

/-- DELAY_RESP (R69): the reply to the open DELAY_REQ gives a new delay. -/
def State.slDelayResp (s : State) (c turnaround answers : Nat) : State :=
  match (s.link c).t1 with
  | none => s
  | some (n, t1) =>
    if n ≠ answers ∨ s.clock < t1 + turnaround then s
    else
      let d := (s.clock - t1 - turnaround) / 2
      let s := s.modLink c fun l => { l with t1 := none }
      if delayFits (s.link c).delays d then
        let s := s.modLink c fun l => { l with delay := d % 2 ^ 24, delays := (d :: l.delays).take 4 }
        s.slDelayDone c stOk d
      else s

/-- SHELF_WARN (R395): level 3 from a shelf. -/
def State.shelfWarn (s : State) (c removal : Nat) : State := s.event 0x94 92 s.now64 [(1, c), (1, 3), (8, removal)]

/-- DELAY_REQ: every 2 ms while ACTIVE. A command whose reply has not come is over (R71). -/
def State.slDelayTick (s : State) (c : Nat) : State :=
  let l := s.link c
  if l.state = .active ∧ l.lastReq + ms16 2 ≤ s.clock then (s.slDelayDone c stTimeout 0).slDelayReq c else s

/-- TIME: every 131,072 ns while ACTIVE (R69, Table 03-10), the first as soon as the link is (log entry 84). -/
def State.slTime (s : State) (c : Nat) : State :=
  let l := s.link c
  if l.state = .active ∧ (l.lastTime = 0 ∨ l.lastTime + ns16 131072 ≤ s.clock) then
    (s.modLink c fun l => { l with lastTime := s.clock }).slSend c 0x10
      (leBytes 8 s.now64 ++ leBytes 4 l.delay ++ leBytes 8 s.ftu.nextBoundary ++ leBytes 1 s.ftu.lenLog2)
  else s

/-- POWER_WARN_REPEAT: every pending level, 20 µs after it was last sent (R395). -/
def State.slWarnRepeat (s : State) (c : Nat) : State :=
  ((s.link c).warns.filter fun w => decide (w.2.2 + us16 20 ≤ s.clock)).foldl (fun s w => s.slWarn c w.1 w.2.1) s

/-- SL_LOOP_END: back to SEARCH (R70). The command that started the loop waits for the relock. -/
def State.slLoopEnd (s : State) (c : Nat) : State :=
  if (s.link c).state = .loop ∧ (s.link c).loopEnd ≤ s.clock then s.slSearch c else s
/-- SL_LOOP_TIMEOUT: 100 ms after the loop's end without a lock (R70). -/
def State.slLoopTimeout (s : State) (c : Nat) : State :=
  let l := s.link c
  if l.state ≠ .loop ∧ l.loopEnd ≠ 0 ∧ l.loopEnd + ms16 100 ≤ s.clock then
    (s.modLink c fun l => { l with loopEnd := 0 }).slLoopDone c stTimeout
  else s

/-! ### Opcodes (Table 03-11) -/

/-- The cage that TARGET names. -/
def targetCage (c : Cmd) : Nat := min 63 c.target
/-- The cage does not exist on this variant (R5). -/
def cageAbsent (c : Cmd) (s : State) : Bool := !s.tileExists (targetCage c)

/-- LNK_EQ_RELOAD. -/
def opLnkEqReload : OpSpec :=
  { code := 0x1B
    body := fun _ _ s =>
      let t := s.loadEq
      if eqFinding s.eeprom = 1 then .bad t stTimeout else .ok t t.badEntries }

/-- LNK_LOOP_SET. PATTERN and RATE mean something in modes 1 to 3 only, so a value out of range in another mode is no clamp
(log entry 83). -/
def opLnkLoopSet : OpSpec :=
  { code := 0x1C, absent := portAbsent
    body := fun _ c s =>
      let p := targetPort c
      let (mode, c0) := c.ranged 16 1 0 4
      let (pat, c1) := c.ranged 17 1 0 2
      let (rate, c2) := c.ranged 18 1 3 6
      let runs := decide (1 ≤ mode) && decide (mode ≤ 3)
      let cl := minClamp (targetClamp c 1023) (minClamp c0 (if runs then minClamp c1 c2 else none))
      let s' := match mode with
        | 0 => s.loopStop p
        | 4 => { s with lnk := { s.lnk with follow := p :: s.lnk.follow.filter (· ≠ p) } }
        | m => s.loopStart p m pat rate
      .ok s' 0 cl }

/-- LNK_LOOP_READ. -/
def opLnkLoopRead : OpSpec :=
  { code := 0x1D, absent := portAbsent
    body := fun _ c s =>
      .ok s (((s.portLanes (targetPort c)).map fun l => (s.laneNow l).loopErr).foldl max 0) (targetClamp c 1023) }

/-- LNK_SL_LOOP (R70). On a link that is OFF it ends ABORTED, and a second one BUSY (log entry 84). -/
def opLnkSlLoop : OpSpec :=
  { code := 0x1E, absent := cageAbsent
    body := fun tk c s =>
      let g := targetCage c
      let (ms, c0) := c.ranged 16 2 1 60000
      let cl := minClamp (targetClamp c 63) c0
      let l := s.link g
      if l.loopCmd.isSome || l.state == .loop || l.warns != [] || (l.queue.any fun m => m.kind == 0x30 || m.kind == 0x31) then
        .bad s stBusy cl
      else if l.state = .off then .bad s stAborted cl
      else
        let s := s.modLink g fun l => { l with loopMs := ms, loopEnd := 0, loopCmd := some { tk with clamp := minClamp tk.clamp cl } }
        .later (s.slQueue g 0x50 (leBytes 2 ms)) }

/-- LNK_SL_DELAY (R69). A second one ends BUSY (log entry 84). -/
def opLnkSlDelay : OpSpec :=
  { code := 0x1F, absent := cageAbsent
    body := fun tk c s =>
      let g := targetCage c
      let cl := targetClamp c 63
      if (s.link g).state ≠ .active then .bad s stTimeout cl
      else if (s.link g).delayCmd.isSome then .bad s stBusy cl
      else .later ((s.modLink g fun l => { l with delayCmd := some { tk with clamp := minClamp tk.clamp cl } }).slDelayReq g) }

/-! ### The LNK sub-window (Tables 03-12, 03-13) -/

/-- A value of `w` bits in two's complement, of a natural number. -/
def low (w v : Nat) : Nat := v % 2 ^ w

/-- A read of lane `l`'s block at offset `o`. -/
def State.laneRead (s : State) (l o : Nat) : Nat :=
  let x := s.laneNow l
  match o with
  | 0x00 => x.rate + 16 * bit x.idle + 32 * bit x.polInv + 64 * bit x.reversed + 128 * bit x.miswired
      + 256 * bit x.cdrLock + 512 * x.loop
  | 0x04 => x.txPreset + 16 * bit x.txCustom + 32 * x.txCm1 + 2 ^ 11 * x.txCp1 + 2 ^ 17 * x.txCm2
  | 0x08 => x.reqPreset + 16 * x.partner
  | 0x0C => bit x.ovrEn + 2 * x.ovrRate + 16 * x.ovrTx + 256 * x.ovrReq
  | 0x10 => x.ctle + 16 * low 8 x.dfe + 2 ^ 16 * x.adapts
  | 0x14 => x.eye.toNat
  | 0x20 => x.loopErr
  | 0x24 => low 32 x.loopBits
  | 0x28 => low 32 (x.loopBits / 2 ^ 32)
  | _ => 0

/-- LNK_SL_STATUS. -/
def ShelfLink.status (l : ShelfLink) : Nat :=
  l.state.code + 8 * bit (l.inverted && l.state != .off && l.state != .search) + 256 * bit l.lockLost
    + 512 * bit l.noResponse + 1024 * bit l.crcErr

/-- A read of tile `t`'s LNK sub-window. -/
def State.lnkRead (s : State) (t o : Nat) : Nat :=
  let x := s.tileLnk t
  let l := s.link t
  if 0x100 ≤ o ∧ o < 0x500 then s.laneRead (16 * t + (o - 0x100) / 0x40) ((o - 0x100) % 0x40)
  else match o with
    | 0x000 => bit x.forceOff
    | 0x004 => bit x.powered + 2 * bit x.pllLock
    | 0x008 => bit x.src + 256 * x.badEntries
    | 0x800 => bit l.en + 2 * l.pol
    | 0x804 => l.status
    | 0x808 => l.delay
    | 0x80C => l.power + 2 ^ 16 * l.current
    | 0x810 => l.temp + 2 ^ 16 * bit l.overLimit
    | 0x814 => l.codeErr + 2 ^ 16 * l.crcCount
    | 0x818 => bitsOf l.ident.toNat 31 0
    | 0x81C => bitsOf l.ident.toNat 63 32
    | 0x820 => bitsOf l.ident.toNat 95 64
    | 0x824 => bitsOf l.ident.toNat 127 96
    | _ => 0

/-- A write to tile `t`'s LNK sub-window. -/
def State.lnkWrite (s : State) (t o v : Nat) : State :=
  if 0x100 ≤ o ∧ o < 0x500 then
    let n := 16 * t + (o - 0x100) / 0x40
    match (o - 0x100) % 0x40 with
    | 0x00 => s.modLane n fun x => { x with miswired := x.miswired && !bitOf v 7 }
    | 0x0C =>
      (s.modLane n fun x => { x with ovrEn := bitOf v 0, ovrRate := bitsOf v 2 1, ovrTx := min 10 (bitsOf v 7 4)
                                     ovrReq := min 10 (bitsOf v 11 8) }).regClampIf
        (decide (10 < bitsOf v 7 4) || decide (10 < bitsOf v 11 8))
    | _ => s
  else match o with
    | 0x000 => s.forceOff t (bitOf v 0)
    | 0x800 =>
      let s := s.regClampIf (bitsOf v 2 1 == 3)
      (s.modLink t fun l => { l with pol := min 2 (bitsOf v 2 1) }).slSetEn t (bitOf v 0)
    | 0x804 => s.modLink t fun l => { l with lockLost := l.lockLost && !bitOf v 8
                                             noResponse := l.noResponse && !bitOf v 9, crcErr := l.crcErr && !bitOf v 10 }
    | _ => s

/-! ### The commands -/

/-- A register write to a present tile's LNK sub-window, once EQ_LOADED has set (R343, R344). -/
def State.lnkGate (s : State) (t : Nat) (f : State → State) : State :=
  if s.tileExists t then s.gated s.glb.eqLoaded f else s

/-- LNK_EQ_RELOAD (R58). -/
def execLnkEqReload (c : Cmd) (s : State) : Answer := act s (opLnkEqReload.submit c)
/-- LNK_LOOP_SET (R60, R61). -/
def execLnkLoopSet (c : Cmd) (s : State) : Answer := act s (opLnkLoopSet.submit c)
/-- LNK_LOOP_READ (R71). -/
def execLnkLoopRead (c : Cmd) (s : State) : Answer := act s (opLnkLoopRead.submit c)
/-- LNK_SL_LOOP (R70). -/
def execLnkSlLoop (c : Cmd) (s : State) : Answer := act s (opLnkSlLoop.submit c)
/-- LNK_SL_DELAY (R69). -/
def execLnkSlDelay (c : Cmd) (s : State) : Answer := act s (opLnkSlDelay.submit c)
/-- SL_ENABLE (R65). -/
def execSlEnable (cage : Cage) (s : State) : Answer := actFmp s fun s => s.lnkGate cage fun s => s.slSetEn cage true
/-- SL_DISABLE (R65). -/
def execSlDisable (cage : Cage) (s : State) : Answer := actFmp s fun s => s.lnkGate cage fun s => s.slSetEn cage false
/-- FORCE_OFF (R53). -/
def execForceOff (tile : Tile) (off : Bool) (s : State) : Answer :=
  actFmp s fun s => s.lnkGate tile fun s => s.forceOff tile off
/-- BANK_PLL_LOCK (R53). -/
def execBankPllLock (tile : Tile) (s : State) : Answer := act s fun s => s.bankPllLock tile
/-- SL_COMMA_ALIGN (R65). -/
def execSlCommaAlign (cage : Cage) (s : State) : Answer := act s fun s => s.slCommaAlign cage
/-- SL_ALIGNED_TIMER (R65). -/
def execSlAlignedTimer (cage : Cage) (s : State) : Answer := act s fun s => s.slLock cage
/-- SL_ALIGNMENT_LOST (R65). -/
def execSlAlignmentLost (cage : Cage) (chars : List Bool) (s : State) : Answer := act s fun s => s.slChars cage chars
/-- SL_POLARITY_SEARCH (R65). -/
def execSlPolaritySearch (cage : Cage) (s : State) : Answer := act s fun s => s.slPolarity cage
/-- SL_ACK (R67). -/
def execSlAck (cage : Cage) (f : SlFrame) (acked : SlAcked) (s : State) : Answer :=
  act s fun s => s.slReceive cage 0x01 f (ackPay acked) false fun s => s.slAck cage acked.seq.toNat acked.kind.toNat
/-- PRESENT (R68). -/
def execShelfPresent (cage : Cage) (f : SlFrame) (kind caps : Byte) (ident : BitVec 128) (s : State) : Answer :=
  act s fun s => s.slReceive cage 0x20 f (presentPay kind caps ident) true fun s => s.slPresent cage kind.toNat caps.toNat ident
/-- POWER_STATE (R68). -/
def execShelfPowerState (cage : Cage) (f : SlFrame) (power : Byte) (current : BitVec 16) (s : State) : Answer :=
  act s fun s => s.slReceive cage 0x21 f (powerPay power current) true fun s => s.slPower cage power.toNat current.toNat
/-- TEMPERATURE (R68). -/
def execShelfTemperature (cage : Cage) (f : SlFrame) (temp : BitVec 16) (limit : Byte) (s : State) : Answer :=
  act s fun s => s.slReceive cage 0x22 f (tempPay temp limit) false fun s => s.slTemp cage temp.toNat (limit.getLsbD 0)
/-- DELAY_RESP (R69). -/
def execDelayResp (cage : Cage) (f : SlFrame) (turnaround : Word) (answers : Byte) (s : State) : Answer :=
  act s fun s => s.slReceive cage 0x12 f (delayPay turnaround answers) false fun s => s.slDelayResp cage turnaround.toNat answers.toNat
/-- SHELF_WARN (R395). -/
def execShelfWarn (cage : Cage) (f : SlFrame) (removal : BitVec 64) (s : State) : Answer :=
  act s fun s => s.slReceive cage 0x40 f (warnPay removal) false fun s => s.shelfWarn cage removal.toNat
/-- SL_RETRANSMIT (R67). -/
def execSlRetransmit (cage : Cage) (s : State) : Answer := act s fun s => s.slRetransmit cage
/-- DELAY_REQ (R69). -/
def execDelayReq (cage : Cage) (s : State) : Answer := act s fun s => s.slDelayTick cage
/-- TIME (R69). -/
def execTimeFrame (cage : Cage) (s : State) : Answer := act s fun s => s.slTime cage
/-- POWER_WARN_REPEAT (R395). -/
def execPowerWarnRepeat (cage : Cage) (s : State) : Answer := act s fun s => s.slWarnRepeat cage
/-- SL_LOOP_END (R70). -/
def execSlLoopEnd (cage : Cage) (s : State) : Answer := act s fun s => s.slLoopEnd cage
/-- SL_LOOP_TIMEOUT (R70). -/
def execSlLoopTimeout (cage : Cage) (s : State) : Answer := act s fun s => s.slLoopTimeout cage

end Sys2Proof.Machine
end

