-- ==== Sys2Proof/Machine/Image.lean ====
section
/-!
DEFINITION. Firmware images in NOR (R410 to R412): the slots, the header of Table 16-4, and the checks
of Table 16-5.
-/

namespace Sys2Proof.Machine

/-- Bytes of a slot (R410). -/
abbrev slotSize : Nat := 7864320
/-- An erased byte of NOR. -/
abbrev erasedByte : Byte := 0xFF

/-- The slot A (false) or B (true). -/
def Nor.slot (n : Nor) (b : Bool) : Tbl Byte := if b then n.slotB else n.slotA
/-- Replace a slot's bytes. -/
def Nor.setSlot (n : Nor) (b : Bool) (t : Tbl Byte) : Nor := if b then { n with slotB := t } else { n with slotA := t }
/-- `n` bytes of a slot from `off`. -/
def slotBytes (t : Tbl Byte) (off n : Nat) : List Byte := (List.range n).map fun i => tget erasedByte t (off + i)
/-- A little-endian field of a slot. -/
def slotField (t : Tbl Byte) (off n : Nat) : Nat := leNat (slotBytes t off n)

/-- The version field of an image header. -/
def imgVersion (t : Tbl Byte) : Nat := slotField t 8 4
/-- The security version number of an image header. -/
def imgSvn (t : Tbl Byte) : Nat := slotField t 12 2
/-- The payload length of an image header. -/
def imgLength (t : Tbl Byte) : Nat := slotField t 16 4
/-- The payload digest of an image header. -/
def imgDigest (t : Tbl Byte) : List Byte := slotBytes t 32 32
/-- Recorder clear key `i` of an image header (R374). -/
def imgClearKey (t : Tbl Byte) (i : Nat) : List Byte := slotBytes t (1376 + 1312 * i) 1312

/-- The reserved fields of a header are 0. -/
def imgReserved (t : Tbl Byte) : Bool :=
  slotField t 14 2 == 0 && slotField t 20 12 == 0 && slotField t 9044 3244 == 0

/-- The first failing check of Table 16-5 in its order; 0 for a valid image. -/
def imgReason (t : Tbl Byte) (floor : Nat) : Nat :=
  if slotField t 0 4 ≠ 0x4957464B ∨ slotField t 4 2 ≠ 1 then 1
  else if 64 < imgSvn t ∨ 7852032 < imgLength t ∨ imgReserved t = false then 2
  else if 3 < slotField t 6 2 ∨ Config.sha3 (slotBytes t 64 1312) ≠ Config.signerDigest (slotField t 6 2) then 3
  else if Config.mldsaVerify (slotBytes t 64 1312) (Config.sha3 (slotBytes t 0 6624)) (slotBytes t 6624 2420) = false then 4
  else if Config.sha3 (slotBytes t 12288 (imgLength t)) ≠ imgDigest t then 5
  else if imgSvn t < floor then 6
  else 0

/-- The slot of the running image. -/
def State.runSlot (s : State) : Tbl Byte := s.msc.nor.slot s.msc.runB

end Sys2Proof.Machine
end

