-- ==== Sys2Proof/Machine/Recorder.lean ====
section
/-!
DEFINITION. The Event Recorder (chapter 14): samples, banks and swaps, records in NOR, time entries,
the journal, clearing, and the EVR window.
-/

namespace Sys2Proof.Machine

/-! ### Banks (R361, R362, R364) -/

/-- Operating seconds (R363). -/
def State.opSeconds (s : State) : Nat := s.evr.s0 + s.ft / 10 ^ 9

/-- The active bank. -/
def Evr.active (e : Evr) : Bank := if e.second then e.bank1 else e.bank0
/-- The inactive bank. -/
def Evr.inactive (e : Evr) : Bank := if e.second then e.bank0 else e.bank1
/-- Replace the active bank. -/
def Evr.setActive (e : Evr) (b : Bank) : Evr := if e.second then { e with bank1 := b } else { e with bank0 := b }
/-- Replace the inactive bank. -/
def Evr.setInactive (e : Evr) (b : Bank) : Evr := if e.second then { e with bank0 := b } else { e with bank1 := b }
/-- Change the active bank. -/
def State.modActive (s : State) (f : Bank → Bank) : State := { s with evr := s.evr.setActive (f s.evr.active) }

/-- The bin of a sample: clamp(floor(v), 0, 255) of an already scaled value. -/
def binOf (v : Int) : Nat := clampNat 0 255 v.toNat

/-- Add 1 to a bin of histogram `h` in the active bank. -/
def State.histAdd (s : State) (h bin : Nat) : State :=
  s.modActive fun b => { b with bins := tset 0 b.bins (256 * h + bin) (satAdd 32 (tget 0 b.bins (256 * h + bin)) 1) }

/-- The higher (or lower) of two extremes; the earlier one stays on a tie. -/
def pickExtreme (highest : Bool) (a b : Option Extreme) : Option Extreme :=
  match a, b with
  | none, b => b
  | a, none => a
  | some x, some y => if (if highest then x.value < y.value else y.value < x.value) then some y else some x

/-- Merge a sample of quantity `q` into the extremes of the active bank (R362). -/
def State.extremeAdd (s : State) (q : Nat) (v : Int) : State :=
  let e : Option Extreme := some { value := v, secs := s.opSeconds, cycles := s.evr.cycles }
  let put (b : Bank) (i : Nat) (hi : Bool) : Bank :=
    { b with extremes := tset none b.extremes i (pickExtreme hi (tget none b.extremes i) e) }
  s.modActive fun b => put (put b (2 * q) true) (2 * q + 1) false

/-- The largest swing of an hour, in 1/16 degrees. -/
def hourSwing : Option (Int × Int × Int × Int) → Nat
  | none => 0
  | some (lo0, hi0, lo1, hi1) => (max (hi0 - lo0) (hi1 - lo1)).toNat

/-- RECORDER_SAMPLE at a whole second of FT (R361, R362). -/
def State.recorderSample (s : State) (r : Readings) : State :=
  if s.ft / 10 ^ 9 ≤ s.evr.lastSecond then s
  else
    let s := { s with evr := { s.evr with lastSecond := s.ft / 10 ^ 9 } }
    let newHour := decide (s.evr.lastHour < s.opSeconds / 3600)
    let s := if newHour then
        let s := s.histAdd 7 (min 255 (hourSwing s.evr.hour / 16))
        { s with evr := { s.evr with hour := none, lastHour := s.opSeconds / 3600 } }
      else s
    let s := s.histAdd 0 (binOf (r.die0 / 16 + 64))
    let s := s.histAdd 1 (binOf (r.die1 / 16 + 64))
    let s := s.histAdd 2 (binOf (r.memory / 16 + 64))
    let s := s.histAdd 3 (binOf (r.volts / 4))
    let s := s.histAdd 4 (binOf (r.watts / 64))
    let s := s.histAdd 5 (min 255 (r.lanes / 4))
    let s := ((((s.extremeAdd 0 r.die0).extremeAdd 1 r.die1).extremeAdd 2 r.memory).extremeAdd 3 r.volts).extremeAdd 4 r.watts
    let h := match s.evr.hour with
      | none => (r.die0, r.die0, r.die1, r.die1)
      | some (a, b, c, d) => (min a r.die0, max b r.die0, min c r.die1, max d r.die1)
    { s with evr := { s.evr with hour := some h } }

/-! ### Records (R365 to R369) -/

/-- Add a table of amounts at saturation `2^w - 1`. -/
def addAmounts (w : Nat) (a b : Tbl Nat) : Tbl Nat :=
  b.foldl (fun t x => tset 0 t x.1 (satAdd w (tget 0 t x.1) x.2)) a
/-- Keys at which the sum saturates. -/
def saturating (w : Nat) (a b : Tbl Nat) : List Nat :=
  (b.filter fun x => decide (2 ^ w ≤ tget 0 a x.1 + x.2)).map (·.1)

/-- An image with a bank added and its extremes merged (R365). -/
def Bank.merge (a b : Bank) : Bank :=
  { bins := addAmounts 32 a.bins b.bins
    extremes := b.extremes.foldl (fun t x => tset none t x.1 (pickExtreme (x.1 % 2 == 0) (tget none t x.1) x.2)) a.extremes
    tallies := addAmounts 64 a.tallies b.tallies }

/-- Flags of the histograms and tallies that saturate in a merge: [7:0] and [8]. -/
def satFlags (a b : Bank) : Nat :=
  let hs := (saturating 32 a.bins b.bins).map (· / 256)
  ((List.range 8).filter fun h => hs.contains h).foldl (fun n h => n + 2 ^ h) 0
    + 2 ^ 8 * bit ((saturating 64 a.tallies b.tallies) != [])
/-- Saturations of a merge (tally 23). -/
def satCount (a b : Bank) : Nat := (saturating 32 a.bins b.bins).length + (saturating 64 a.tallies b.tallies).length

/-- Histograms with a saturated lifetime bin, and [8] a saturated tally (EVR_SAT). -/
def Bank.saturated (b : Bank) : Nat :=
  ((List.range 8).filter fun h => b.bins.any fun x => x.1 / 256 == h && x.2 == 2 ^ 32 - 1).foldl (fun n h => n + 2 ^ h) 0
    + 2 ^ 8 * bit (b.tallies.any fun x => x.2 == 2 ^ 64 - 1)

/-- An extreme's 16 bytes. -/
def extremeBytes : Option Extreme → List Byte
  | none => List.replicate 16 0
  | some e => leBytes 4 (e.value % 2 ^ 32).toNat ++ leBytes 4 e.secs ++ leBytes 4 e.cycles ++ [0, 0, 0, 0]

/-- The 16 KiB of a record (Table 14-7). -/
def State.recordImage (s : State) (r : Record) : List Byte :=
  let head := leBytes 4 0x43525645 ++ leBytes 2 1 ++ leBytes 2 r.kind ++ leBytes 4 r.seq ++ leBytes 4 r.cycles
    ++ leBytes 4 r.secs ++ leBytes 4 r.flags ++ leBytes 8 r.t64 ++ leBytes 8 Config.serial.toNat ++ leBytes 4 s.fwRunning
  let body := fitTo 64 head ++ (List.range 2048).flatMap (fun i => leBytes 4 (tget 0 r.image.bins i))
    ++ (List.range 10).flatMap (fun i => extremeBytes (tget none r.image.extremes i))
    ++ (List.range 64).flatMap (fun i => leBytes 8 (tget 0 r.image.tallies i)) ++ fitTo 64 r.clearInfo
  let body := fitTo 16352 body
  body ++ fitTo 32 (Config.sha3 body)

/-- What a waiting swap carries into its record's kind: a clear before a start-up before a request. -/
def swapKind (ds : List SwapDue) : Nat :=
  if ds.any (·.kind == 3) then 3 else if ds.any (·.kind == 4) then 4 else if ds.any (·.kind == 2) then 2 else 1

/-- The dues that one record takes: all of them, but one clear at most (R366). -/
def takeDues : List SwapDue → Bool → List SwapDue × List SwapDue
  | [], _ => ([], [])
  | d :: ds, cleared =>
    if d.kind = 3 ∧ cleared then
      let (a, b) := takeDues ds cleared
      (a, d :: b)
    else
      let (a, b) := takeDues ds (cleared || d.kind == 3)
      (d :: a, b)

/-- A periodic swap has fallen due (R366). -/
def State.notePeriodic (s : State) : State :=
  let p := s.evr.period * 60000000000
  if s.evr.nextPeriodic ≤ s.ft then
    { s with evr := { s.evr with nextPeriodic := (s.ft / p + 1) * p, due := s.evr.due ++ [{ kind := 1 }] } }
  else s

/-- The clear-record block of Table 14-7. -/
def State.clearBlock (s : State) (ds : List SwapDue) : List Byte :=
  match ds.find? (·.kind == 3) with
  | none => []
  | some d => leBytes 4 d.scope ++ leBytes 4 (s.evr.clears + 1) ++ leBytes 4 d.key ++ fitTo 16 d.challenge
      ++ Config.sha3 (imgClearKey s.runSlot d.key)

/-- RECORD_SWAP (R365, R366). Where the inactive bank still holds an interval whose record failed, that
interval is written again and the banks stay as they are (R368). -/
def State.recordSwap (s : State) : State :=
  let s := s.notePeriodic
  let e := s.evr
  let spaced := match e.lastSwap with | none => true | some t => decide (t + ms16 10000 ≤ s.clock)
  if !s.glb.evrRun || e.due.isEmpty || e.writing.isSome || !spaced then s
  else
    let (now, later) := takeDues (e.carried ++ e.due) false
    let fresh := e.inactive == {}
    let e := { e with second := if fresh then !e.second else e.second, due := later, carried := [], lastSwap := some s.clock, recFt := s.ft }
    let bank := e.inactive
    let image := e.life.merge bank
    let sat := satFlags e.life bank
    let kind := swapKind now
    let r : Record := { kind := kind, seq := (e.recSeq + 1) % 2 ^ 32, cycles := e.cycles, secs := s.opSeconds
                        flags := sat + 2 ^ 9 * bit e.binLost + 2 ^ 10 * bit (kind == 4 && e.timeMerged)
                        t64 := s.now64, image := image, clearInfo := s.clearBlock now }
    let n := satCount e.life bank
    let s := { s with evr := { e with writing := some (r, 1, now), binLost := false, err := if sat = 0 then e.err else e.err ||| 8 } }
    if n = 0 then s else s.tally 23 n

/-- Clear the scoped parts of an image (R375). -/
def Bank.cleared (b : Bank) (scope : Nat) : Bank :=
  { bins := b.bins.filter fun x => !bitOf scope (x.1 / 256)
    extremes := if bitOf scope 8 then [] else b.extremes
    tallies := b.tallies.filter fun x => !(bitOf scope 9 && (within 1 19 x.1 || x.1 == 23)) }

/-- Write slot `n` of a log whose sectors hold 4 slots: the first slot of a sector erases it (R368). -/
def putSlot (t : Tbl (Option Record)) (n : Nat) (r : Record) : Tbl (Option Record) :=
  let t := if n % 4 = 0 then t.filter fun x => x.1 / 4 != n / 4 else t
  tset none t n (some r)

/-- What a verified record does for one due that it carries (R366, R375). -/
def State.dueDone (s : State) (r : Record) (d : SwapDue) : State :=
  if d.kind = 3 then
    let e := s.evr
    let s := { s with evr := { e with archive := putSlot e.archive (e.clears % 16) r, life := e.life.cleared d.scope
                                      clears := satAdd 32 e.clears 1 } }
    let s := (s.tally 20).event 0x82 93 r.t64 [(2, d.scope), (4, s.evr.clears)]
    match d.ticket with
    | some tk => s.complete tk stOk s.evr.clears
    | none => s
  else match d.ticket with
    | some tk => s.complete tk stOk r.seq
    | none => s

/-- RECORD_WRITE_DONE (R365, R368). -/
def State.recordWriteDone (s : State) (ok : Bool) : State :=
  match s.evr.writing with
  | none => s
  | some (r, tries, ds) =>
    let e := s.evr
    let slot := (e.recSlot + tries) % 992
    if ok then
      let e := { e with log := putSlot e.log slot r, recSlot := slot, recSeq := r.seq, life := r.image, writing := none }
      let s := { s with evr := e.setInactive {} }
      let s := (s.tally 21).event 0x81 93 r.t64 [(4, r.seq), (1, r.kind), (2, slot)]
      ds.foldl (fun s d => s.dueDone r d) s
    else
      let e := { e with log := putSlot e.log slot { r with valid := false } }
      if tries < 3 then { s with evr := { e with writing := some (r, tries + 1, ds) } }
      else
        let e := { e with writing := none, carried := ds ++ e.carried, err := e.err ||| 1 }
        ({ s with evr := e }).record 0x90 93 s.now64 [(4, r.seq), (1, 3)]

/-! ### Time entries (R370) -/

/-- TIME_ENTRY. -/
def State.timeEntry (s : State) (cause : TimeCause) : State :=
  let put (s : State) (code : Nat) : State :=
    let n := match s.evr.times.getLast? with | some t => (t.seq + 1) % 2 ^ 32 | none => 0
    let t : TimeRec := { seq := n, cycles := s.evr.cycles, secs := s.opSeconds, cause := code, recSeq := s.evr.recSeq }
    let all := s.evr.times ++ [t]
    -- of the 4 sectors of 256 pages, the one after the sector in use is kept erased
    ({ s with evr := { s.evr with times := all.drop (all.length - (513 + n % 256)) } }).tally 22
  match cause with
  | .periodic =>
    if s.evr.nextTime ≤ s.opSeconds then
      put { s with evr := { s.evr with nextTime := (s.opSeconds / 600 + 1) * 600 } } 1
    else s
  | .holdUp => if s.ppu.warning then put s 2 else s
  | .thermal => put s 3

/-! ### Start-up (R371) -/

/-- The entry with the highest power-cycle count and then the highest operating seconds; among equals
the later one. -/
def newest {α : Type} (cyc secs : α → Nat) : List α → Option α
  | [] => none
  | a :: as => match newest cyc secs as with
    | none => some a
    | some b => if cyc b < cyc a ∨ (cyc b = cyc a ∧ secs b < secs a) then some a else some b

/-- EVR_RUN: the image loads, the power cycle is counted and a start-up swap falls due. -/
def State.evrLoad (s : State) : State :=
  if s.glb.evrRun || !s.glb.ftuRun then s
  else
    let e := s.evr
    let slots := e.log.filterMap fun x => x.2.map fun r => (x.1, r)
    let bad := (slots.filter fun x => !x.2.valid).length
    let rec' := newest (fun x : Nat × Record => x.2.cycles) (fun x => x.2.secs) (slots.filter fun x => x.2.valid)
    let time := newest TimeRec.cycles TimeRec.secs e.times
    let rSecs := match rec' with | some x => x.2.secs | none => 0
    let tSecs := match time with | some t => t.secs | none => 0
    let rCyc := match rec' with | some x => x.2.cycles | none => 0
    let tCyc := match time with | some t => t.cycles | none => 0
    let cause := s.glb.causeModule
    let powered := cause == 1 || cause == 5
    let e := { e with
      s0 := max rSecs tSecs, cycles := max rCyc tCyc + bit powered, timeMerged := decide (rSecs < tSecs)
      life := match rec' with | some x => x.2.image | none => {}
      recSeq := match rec' with | some x => x.2.seq | none => 0
      recSlot := match rec' with | some x => x.1 | none => e.recSlot
      clears := match rec' with | some x => min (2 ^ 32 - 1) (tget 0 x.2.image.tallies 20) | none => 0
      emptyLoad := rec'.isNone, due := e.due ++ [{ kind := 4 }], nextPeriodic := e.period * 60000000000
      nextTime := (max rSecs tSecs / 600 + 1) * 600, lastHour := max rSecs tSecs / 3600 }
    let s := { s with evr := e, glb := { s.glb with evrRun := true } }
    let s := if rec'.isNone then s.record 0x91 93 s.now64 [(1, 1), (2, bad)] else s
    let s := if time.isNone then s.record 0x91 93 s.now64 [(1, 2), (2, 0)] else s
    let s := if powered then s.tally 0 else s
    let s := match cause with
      | 2 => s.tally 1
      | 3 => s.tally 2
      | 4 => s.tally 3
      | 5 => s.tally 4
      | _ => s
    s.noteReady

/-! ### Lost words (R367) -/

/-- An uncorrectable word in a bank: which one the manual's event does not say, so it is left open. -/
def State.evrBinLost (s : State) : State :=
  let v := s.freeValue
  let s := s.useFree
  let act := v % 2 == 0
  let cat := v / 2 % 10
  let w := v / 20
  let drop (b : Bank) : Bank :=
    if cat < 8 then { b with bins := tset 0 b.bins (256 * cat + w % 256) 0 }
    else if cat = 8 then { b with extremes := tset none b.extremes (w % 10) none }
    else { b with tallies := tset 0 b.tallies (w % 24) 0 }
  let s := { s with evr := if act then s.evr.setActive (drop s.evr.active) else s.evr.setInactive (drop s.evr.inactive) }
  let s := { s with evr := { s.evr with binLost := true, err := s.evr.err ||| 2 } }
  let word := if cat < 8 then w % 256 else if cat = 8 then w % 10 else w % 24
  s.record 0x92 93 s.now64 [(1, bit (!act)), (1, cat), (1, word)]

/-! ### Opcodes (Table 14-8) -/

/-- EVR_STATUS. -/
def State.evrStatus (s : State) : Nat :=
  bit s.glb.evrRun + 2 * bit s.evr.writing.isSome + 4 * bit (s.evr.inactive != {}) + 8 * bit s.evr.challenge.isSome
    + 16 * bit s.evr.emptyLoad

/-- EVR_QUERY. -/
def opEvrQuery : OpSpec :=
  { code := 0x90
    body := fun _ c s =>
      let (k, cl) := c.ranged 16 1 0 6
      .ok s (match k with
        | 0 => s.opSeconds | 1 => s.evr.cycles | 2 => s.evr.recSeq | 3 => s.evr.clears
        | 4 => s.evr.journalNext % 2 ^ 32 | 5 => s.evr.recSlot | _ => s.evrStatus) cl }

/-- The composed image: lifetime plus both banks, as a kind-0 record. -/
def State.composed (s : State) : Record :=
  { kind := 0, seq := s.evr.recSeq, cycles := s.evr.cycles, secs := s.opSeconds, flags := 0, t64 := s.now64
    image := (s.evr.life.merge s.evr.inactive).merge s.evr.active }

/-- The bytes of a slot and whether its digest matches. -/
def State.slotImage (s : State) (r : Option Record) : List Byte × Bool :=
  match r with
  | none => (List.replicate 16384 0xFF, false)
  | some r => if r.valid then (s.recordImage r, true) else ((s.recordImage r).take 16352 ++ List.replicate 32 0xFF, false)

/-- A journal entry's full number from its low 32 bits: the newest that matches. -/
def journalNumber (next low : Nat) : Nat :=
  let base := next - next % 2 ^ 32 + low
  if base ≤ next then base else base - 2 ^ 32

/-- EVR_READ. -/
def opEvrRead : OpSpec :=
  { code := 0x91, needsMem := fun c => decide (4 ≤ c.byte 16)
    body := fun _ c s =>
      let (k, c0) := c.ranged 16 1 0 4
      let dest := c.le 32 8
      let give (r : Option Record) (cl : Option Nat) : Reply :=
        let (bs, ok) := s.slotImage r
        .ok (s.mgrWrite dest bs) (if ok then bs.length else 0) cl
      match k with
      | 0 => .ok (s.mgrWrite dest (s.recordImage s.composed)) 16384 c0
      | 1 => give (tget none s.evr.log s.evr.recSlot) c0
      | 2 => let (n, c1) := c.ranged 18 2 0 991
             give (tget none s.evr.log n) (minClamp c0 c1)
      | 3 => let (n, c1) := c.ranged 18 2 0 15
             give (tget none s.evr.archive n) (minClamp c0 c1)
      | _ =>
        let (n, c1) := c.ranged 24 4 1 65536
        let next := s.evr.journalNext
        let want := journalNumber next (c.le 20 4)
        let first := max want (next - 983040)
        let m := min n (next - first)
        let bs := (List.range m).flatMap fun i => fitTo 64 (tget [] s.evr.journal ((first + i) % 983040))
        .ok (s.mgrWrite dest bs) bs.length (minClamp c0 (minClamp (if first ≠ want then some 20 else none) c1)) }

/-- EVR_WRITE_NOW. -/
def opEvrWriteNow : OpSpec :=
  { code := 0x92
    body := fun tk _ s => .later { s with evr := { s.evr with due := s.evr.due ++ [{ kind := 2, ticket := some tk }] } } }

/-- Refuse a clear (R374). -/
def State.clearDenied (s : State) (key reason : Nat) : State :=
  ({ s with evr := { s.evr with challenge := none, err := s.evr.err ||| 4 } }).record 0x93 93 s.now64 [(1, key), (1, reason)]

/-- What a clear signs (R374). -/
def clearDigest (challenge : List Byte) (scope : Nat) : List Byte :=
  Config.sha3 ([0x45, 0x56, 0x52, 0x2D, 0x43, 0x4C, 0x45, 0x41, 0x52] ++ leBytes 8 Config.serial.toNat ++ challenge
    ++ leBytes 4 scope)

/-- EVR_CLEAR (R374, R375). -/
def opEvrClear : OpSpec :=
  { code := 0x93
    body := fun tk c s =>
      let (m, c0) := c.ranged 16 1 0 1
      if m = 0 then
        let ch := leBytes 16 s.freeValue
        let s := s.useFree
        .ok (({ s with evr := { s.evr with challenge := some (ch, s.clock + ms16 60000), challengeN := s.evr.challengeN + 1 } }).mgrWrite
          (c.le 32 8) ch) 0 c0
      else
        let (key, c1) := c.ranged 24 1 0 3
        let scope := c.le 20 4 % 2 ^ 10
        let cl := minClamp c0 c1
        match s.evr.challenge with
        | none => .bad (s.clearDenied key 1) stDenied cl
        | some (ch, exp) =>
          if exp ≤ s.clock then .bad (s.clearDenied key 1) stDenied cl
          else if Config.mldsaVerify (imgClearKey s.runSlot key) (clearDigest ch (c.le 20 4)) (s.mgrRead (c.le 32 8) 2420) then
            let d : SwapDue := { kind := 3, ticket := some { tk with clamp := minClamp tk.clamp cl }, scope := scope, key := key, challenge := ch }
            .later { s with evr := { s.evr with challenge := none, due := s.evr.due ++ [d] } }
          else .bad (s.clearDenied key 2) stDenied cl }

/-- EVR_CFG. -/
def opEvrCfg : OpSpec :=
  { code := 0x94
    body := fun _ c s =>
      let (p, cl) := c.ranged 16 2 10 1440
      let n := p * 60000000000
      let s := { s with evr := { s.evr with period := p, nextPeriodic := (s.ft / n + 1) * n } }
      .ok s p cl }

/-- CHALLENGE_EXPIRY (R374). -/
def State.challengeExpiry (s : State) : State :=
  match s.evr.challenge with
  | some (_, exp) => if exp ≤ s.clock then { s with evr := { s.evr with challenge := none } } else s
  | none => s

/-! ### The EVR window -/

/-- A read of the EVR window at offset `o`. -/
def State.evrRead (s : State) (o : Nat) : Nat :=
  match o with
  | 0x00 => s.evrStatus
  | 0x04 => s.evr.period
  | 0x08 => s.opSeconds % 2 ^ 32
  | 0x0C => s.evr.cycles
  | 0x10 => s.evr.recSeq
  | 0x14 => s.evr.recSlot
  | 0x18 => s.evr.recFt % 2 ^ 32
  | 0x1C => s.evr.recFt / 2 ^ 32
  | 0x20 => s.evr.err.toNat
  | 0x24 => s.evr.clears
  | 0x28 => s.evr.journalNext % 2 ^ 32
  | 0x2C => s.evr.life.saturated
  | _ => 0

/-- A write to the EVR window at offset `o`. -/
def State.evrWrite (s : State) (o v : Nat) : State :=
  match o with
  | 0x04 => s.sidePush 0x94 (sideCmd 0 0 [(16, 2, v % 2 ^ 11)])
  | 0x20 => { s with evr := { s.evr with err := s.evr.err &&& ~~~ BitVec.ofNat 4 v } }
  | _ => s

/-- EVR_QUERY (R376). -/
def execEvrQuery (c : Cmd) (s : State) : Answer := act s (opEvrQuery.submit c)
/-- EVR_READ (R376). -/
def execEvrRead (c : Cmd) (s : State) : Answer := act s (opEvrRead.submit c)
/-- EVR_WRITE_NOW (R366). -/
def execEvrWriteNow (c : Cmd) (s : State) : Answer := act s (opEvrWriteNow.submit c)
/-- EVR_CLEAR (R374). -/
def execEvrClear (c : Cmd) (s : State) : Answer := act s (opEvrClear.submit c)
/-- EVR_CFG (R376). -/
def execEvrCfg (c : Cmd) (s : State) : Answer := act s (opEvrCfg.submit c)
/-- RECORDER_SAMPLE (R361). -/
def execRecorderSample (r : Readings) (s : State) : Answer := act s fun s => s.recorderSample r
/-- RECORD_SWAP (R365). -/
def execRecordSwap (s : State) : Answer := act s State.recordSwap
/-- RECORD_WRITE_DONE (R368). -/
def execRecordWriteDone (ok : Bool) (s : State) : Answer := act s fun s => s.recordWriteDone ok
/-- TIME_ENTRY (R370). -/
def execTimeEntry (cause : TimeCause) (s : State) : Answer := act s fun s => s.timeEntry cause
/-- CHALLENGE_EXPIRY (R374). -/
def execChallengeExpiry (s : State) : Answer := act s State.challengeExpiry
/-- EVR_RUN (R371). -/
def execEvrRun (s : State) : Answer := act s State.evrLoad

end Sys2Proof.Machine
end

