-- ==== Sys2Proof/Machine/Power.lean ====
section
/-!
DEFINITION. The Power and Protection Unit (chapter 15): the feed channels with their trips, cooldowns
and latches, presence, sense faults, the early warning, shelf wake and sleep, and the PPU window.
-/

namespace Sys2Proof.Machine

/-! ### Images (Table 15-11) -/

/-- PPU_FEED_STATUS.STATE. -/
def FeedState.code : FeedState → Nat
  | .off => 0 | .wait => 1 | .ramp => 2 | .on => 3 | .cooldown => 4 | .latched => 5
/-- Channels in RAMP. -/
def State.ramps (s : State) : Nat := (s.ppu.feeds.filter fun x => x.2.state == .ramp).length

/-- The gate is driven. -/
def Feed.driven (f : Feed) : Bool := f.state == .ramp || f.state == .on
/-- The sense check of R386. -/
def Feed.senseOk (f : Feed) : Bool :=
  decide (f.senp ≤ f.senn + 5) && decide (f.senn ≤ f.senp + 5) && decide (f.senp < 15000)

/-- The first of conditions 1 to 5 of R386 that a channel does not meet; 0 where it meets all. -/
def State.unmet (s : State) (c : Nat) : Nat :=
  let f := s.feed c
  if !f.present then 1
  else if s.clock < f.coolUntil then 2
  else if s.ppu.warning then 3
  else if f.senp < 10800 then 4
  else if !f.senseOk then 5
  else 0
/-- WAIT_REASON: of a channel that waits to come on, in WAIT or during its cooldown. -/
def State.waitReason (s : State) (c : Nat) : Nat :=
  let f := s.feed c
  if f.state = .wait ∨ (f.state = .cooldown ∧ f.onReq) then
    if s.unmet c = 0 then (if f.state = .wait then 6 else 0) else s.unmet c
  else 0

/-- PPU_FEED_STATUS. -/
def State.feedStatus (s : State) (c : Nat) : Nat :=
  let f := s.feed c
  f.state.code + 2 ^ 3 * bit f.present + 2 ^ 4 * bit f.debouncing + 2 ^ 5 * bit f.inLimit + 2 ^ 6 * f.trips
    + 2 ^ 10 * f.lastTrip + 2 ^ 13 * bit f.voutOpen + 2 ^ 14 * bit f.supplyLow + 2 ^ 15 * bit f.fetShort
    + 2 ^ 16 * f.latchCause + 2 ^ 18 * bit f.removal.isSome + 2 ^ 19 * s.waitReason c
/-- PPU_FEED_CFG. -/
def Feed.cfgImage (f : Feed) : Nat :=
  f.ilim + 2 ^ 9 * f.rampMs + 2 ^ 16 * f.tstart + 2 ^ 23 * bit f.auto + 2 ^ 24 * f.tripMax
/-- PPU_INPUT_CFG. -/
def Ppu.inputImage (p : Ppu) : Nat := p.warn + 2 ^ 8 * bit p.pfailInEn + 2 ^ 16 * p.maxRamps
/-- Cooldown left in ms. -/
def State.coolLeft (s : State) (c : Nat) : Nat := ceilDiv ((s.feed c).coolUntil - s.clock) (ms16 1)
/-- The hold-up H in ns that the carrier guarantees from WARN (R393). -/
def holdUpNs (warn : Nat) : Nat := 2000000 * (warn * warn - 16384) / 6720

/-! ### Readings of the module's input (Table 15-10) -/

/-- PPU_INPUT_V in mV: at the instant of an early warning, the reading that decided it. -/
def State.inputV (s : State) : Nat :=
  if s.ppu.warning ∧ s.ppu.warnAt = s.clock then s.ppu.inputMv % 2 ^ 16 else Config.inputReading 0 s.clock % 2 ^ 16
/-- PPU_INPUT_I in 10 mA. -/
def State.inputI (s : State) : Nat := Config.inputReading 1 s.clock % 2 ^ 16
/-- PPU_INPUT_P in 0.1 W. -/
def State.inputP (s : State) : Nat := Config.inputReading 2 s.clock % 2 ^ 16
/-- Temperature of the hot-swap FET. -/
def State.hotSwapTemp (s : State) : BitVec 8 := BitVec.ofNat 8 (Config.inputReading 3 s.clock)
/-- Temperature of the lid, updated every 16 ms (R432). -/
def State.lidTemp (s : State) : BitVec 8 := BitVec.ofNat 8 (Config.inputReading 4 (s.clock / ms16 16))

/-! ### Changes of a channel -/

/-- Note since when a waiting channel meets conditions 1 to 5 of R386. -/
def State.noteWait (s : State) (c : Nat) : State :=
  let f := s.feed c
  if f.state = .wait ∧ s.unmet c = 0 then
    match f.readyAt with
    | some _ => s
    | none => s.setFeed c { f with readyAt := some s.clock }
  else if f.readyAt = none then s else s.setFeed c { f with readyAt := none }

/-- Where a channel goes that no longer has a reason to stay off: WAIT or OFF as ON_REQ says. -/
def Feed.rest (f : Feed) : FeedState := if f.onReq then .wait else .off

/-- ON_REQ is set (R385). -/
def State.feedRequest (s : State) (c : Nat) : State :=
  let s := (s.dropRemoval c).modFeed c fun f => { f with onReq := true }
  (if (s.feed c).state = .off then s.feedTo c .wait 0 else s).noteWait c

/-- Time in limit up to now (R387). -/
def Feed.limitTime (f : Feed) (now : Nat) : Nat := f.limTime + (match f.limSince with | some t => now - t | none => 0)
/-- The run fault timer (Table 15-3). -/
def Feed.runTimer (f : Feed) (now : Nat) : Nat := f.runTime + (match f.limSince with | some t => now - t | none => 0)

/-- The cooldown after a trip, in ms: min(60,000, max(1,000, 50 × t_lim)) (R387). -/
def cooldownMs (limTime : Nat) : Nat := min 60000 (max 1000 (50 * limTime / ms16 1))
/-- The same in phase units. -/
def cooldown16 (limTime : Nat) : Nat := min (ms16 60000) (max (ms16 1000) (50 * limTime))

/-- A latched channel is recorded (FEED_LATCH). -/
def State.latchRecord (s : State) (c cause : Nat) : State :=
  let s := s.modFeed c fun f => { f with latchCause := cause }
  let s := ({ s with ppu := { s.ppu with err := s.ppu.err ||| 2 } }).tally 9
  s.record 0x81 92 s.now64 [(1, c), (1, cause), (1, (s.feed c).trips)]

/-- A trip of `kind` with the gate driven (R387). -/
def State.feedTrip (s : State) (c kind milliamps : Nat) : State :=
  let f := s.feed c
  if !f.driven then s
  else
    let lim := f.limitTime s.clock
    let trips := f.trips + 1
    let latched := decide (f.tripMax ≤ trips)
    let s := s.setFeed c { f with trips := min 15 trips, lastTrip := kind, tripsTotal := satAdd 32 f.tripsTotal 1
                                  coolUntil := s.clock + cooldown16 lim, limTime := lim }
    let s := ({ s with ppu := { s.ppu with err := s.ppu.err ||| 1 } }).tally 8
    let s := s.cntPpu 0xE1
    let s := s.record 0x80 92 s.now64 [(1, c), (1, kind), (2, milliamps), (1, trips), (2, cooldownMs lim)]
    let s := s.gateOff c (if latched then .latched else .cooldown) kind
    if latched then s.latchRecord c 1 else s

/-- An episode ends (R388). -/
def State.episodeOver (s : State) (c : Nat) : State := s.modFeed c fun f => { f with trips := 0 }

/-- A latch is cleared: COOLDOWN while cooldown remains, else WAIT or OFF (Table 15-4). -/
def State.unlatch (s : State) (c : Nat) : State :=
  let s := s.modFeed c fun f => { f with latchCause := 0, fetShort := false }
  let f := s.feed c
  (s.feedTo c (if s.clock < f.coolUntil then .cooldown else f.rest) 0).noteWait c

/-! ### Events of a channel -/

/-- FEED_SAMPLE (R383, R384): readings, IN_LIMIT and the fault timers. -/
def State.feedSample (s : State) (c : Nat) (m : FeedMeasure) : State :=
  let f := s.feed c
  let lim := f.driven && decide ((10 * f.ilim : Int) ≤ m.milliamps)
  let f := { f with milliamps := m.milliamps, vout := m.vout, senp := m.senp, senn := m.senn, joules := min (2 ^ 32 - 1) m.joules,
                    voutOpen := f.voutOpen && !(decide (m.vout ≤ m.senn + 2000) && decide (m.senn ≤ m.vout + 2000)),
                    supplyLow := f.supplyLow && decide (m.senp < 10800) }
  let f := match f.inLimit, lim with
    | false, true =>
      let rested := match f.outSince with | some t => decide (t + ms16 10 ≤ s.clock) | none => false
      { f with inLimit := true, limSince := some s.clock, outSince := none, runTime := if rested then 0 else f.runTime }
    | true, false =>
      { f with inLimit := false, limTime := f.limitTime s.clock, limSince := none, outSince := some s.clock
               runTime := if f.state = .on then f.runTimer s.clock else f.runTime }
    | _, _ => f
  (s.setFeed c f).noteWait c

/-- Another waiting channel comes first for a ramp slot (R386, R46). -/
def State.rampBefore (s : State) (c : Nat) : Bool :=
  match (s.feed c).readyAt with
  | none => true
  | some t => s.ppu.feeds.any fun x => x.1 != c && x.2.state == .wait && (match x.2.readyAt with
    | some u => decide (u < t) || (u == t && decide (tieKey x.1 s.slot 64 < tieKey c s.slot 64))
    | none => false)

/-- FEED_RAMP_START (R386). -/
def State.rampStart (s : State) (c : Nat) : State :=
  let s := s.noteWait c
  let f := s.feed c
  if f.state = .wait ∧ s.unmet c = 0 ∧ s.ramps < s.ppu.maxRamps ∧ s.rampBefore c = false then
    let s := (s.feedTo c .ramp 0).modFeed c fun f => { f with rampAt := s.clock, limTime := 0, limSince := none, runTime := 0,
                                                                outSince := none, inLimit := false, voutOpen := false }
    let s := if f.trips = 0 then s else s.cntPpu 0xE3
    (s.emit (.gate (Fin.ofNat 64 c) true)).slStart c
  else s

/-- The last sample shows the output within 0.3 V of the supply (Table 15-3). -/
def Feed.reachedGood (f : Feed) : Bool := decide (f.senp ≤ f.vout + 300)
/-- The last sample shows an open Kelvin line (R390). -/
def Feed.kelvinOpen (f : Feed) : Bool :=
  decide (15000 < f.senp) || decide (15000 < f.senn) || decide (f.senn + 150 < f.senp) || decide (f.senp + 20 < f.senn)
/-- The last sample shows an open FEED_VOUT line, the gate being at full drive (R390). -/
def Feed.voutLost (f : Feed) : Bool :=
  f.driven && !f.voutOpen && decide (f.milliamps * 2 < 10 * f.ilim) && decide (f.vout + 2000 < f.senn)

/-- RAMP ends with the output good, or treated as good (Table 15-4, R390). -/
def State.rampOver (s : State) (c : Nat) : State :=
  let f := s.feed c
  if f.state = .ramp then
    let s := s.feedTo c .on 0
    let s := s.modFeed c fun f => { f with onAt := s.clock, runTime := 0, limTime := f.limitTime s.clock
                                           limSince := if f.inLimit then some s.clock else none }
    (s.cntPpu 0xE0).tally 7
  else s

/-- OUTPUT_GOOD (R385), where the last sample shows it. -/
def State.outputGood (s : State) (c : Nat) : State := if (s.feed c).reachedGood then s.rampOver c else s

/-- FAST_COMPARATOR at 2 × ILIM: trip kind 1 (R383, R387). -/
def State.fastComparator (s : State) (c milliamps : Nat) : State :=
  let f := s.feed c
  if f.driven ∧ 20 * f.ilim ≤ milliamps then (s.cntPpu 0xE2).feedTrip c 1 milliamps else s

/-- TSTART has run out during RAMP (R384). -/
def State.tstartOut (s : State) (c : Nat) : Bool :=
  let f := s.feed c
  f.state == .ramp && decide (ms16 f.tstart ≤ f.limitTime s.clock)
/-- TRUN has run out during ON (R384). -/
def State.trunOut (s : State) (c : Nat) : Bool :=
  let f := s.feed c
  f.state == .on && decide (us16 (100 * f.trun) ≤ f.runTimer s.clock)

/-- TSTART_EXPIRY: trip kind 2. -/
def State.tstartExpiry (s : State) (c : Nat) : State :=
  if s.tstartOut c then s.feedTrip c 2 (s.feed c).milliamps.toNat else s
/-- TRUN_EXPIRY: trip kind 3. -/
def State.trunExpiry (s : State) (c : Nat) : State :=
  if s.trunOut c then s.feedTrip c 3 (s.feed c).milliamps.toNat else s
/-- OUTPUT_LOW: trip kind 4, or the lower kind met by the same sample (R387). -/
def State.outputLow (s : State) (c : Nat) : State :=
  let f := s.feed c
  if f.state = .on ∧ f.voutOpen = false ∧ f.vout < 10000 ∧ 10800 ≤ f.senp then
    s.feedTrip c (if s.trunOut c then 3 else 4) f.milliamps.toNat
  else s
/-- RAMP_TIMEOUT: trip kind 5, or the lower kind met by the same sample (R387). -/
def State.rampTimeout (s : State) (c : Nat) : State :=
  let f := s.feed c
  if f.state = .ramp ∧ f.rampAt + ms16 (4 * f.rampMs + f.tstart) ≤ s.clock then
    s.feedTrip c (if s.tstartOut c then 2 else 5) f.milliamps.toNat
  else s

/-- COOLDOWN_EXPIRY. -/
def State.cooldownExpiry (s : State) (c : Nat) : State :=
  let f := s.feed c
  if f.state = .cooldown ∧ f.coolUntil ≤ s.clock then (s.feedTo c f.rest 0).noteWait c else s

/-- EPISODE_END: 10 s in ON without a trip. -/
def State.episodeEnd (s : State) (c : Nat) : State :=
  if (s.feed c).state = .on ∧ (s.feed c).onAt + ms16 10000 ≤ s.clock then s.episodeOver c else s

/-- A SENSE_FAULT record: finding 1 open sense, 2 VOUT open. -/
def State.senseFault (s : State) (c finding : Nat) : State :=
  let f := s.feed c
  let s := { s with ppu := { s.ppu with err := s.ppu.err ||| 4 } }
  s.record 0x82 92 s.now64 [(1, c), (1, finding), (2, f.senp), (2, f.senn)]

/-- OPEN_SENSE (R390), where the last sample shows it: a driven channel latches; in WAIT the finding only prevents the ramp. -/
def State.openSense (s : State) (c : Nat) : State :=
  let f := s.feed c
  if f.kelvinOpen = false then s
  else if f.driven then
    let s := (s.senseFault c 1).gateOff c .latched 0
    s.latchRecord c 2
  else if f.state = .wait then s.senseFault c 1
  else s

/-- VOUT_OPEN (R390), where the last sample shows it: the channel stays on and treats its output as good. -/
def State.voutOpenFound (s : State) (c : Nat) : State :=
  let f := s.feed c
  if f.voutLost then ((s.modFeed c fun f => { f with voutOpen := true }).senseFault c 2).rampOver c
  else s

/-- FET_SHORT (R391): current with the gate off. -/
def State.fetShortFound (s : State) (c : Nat) : State :=
  let f := s.feed c
  if f.driven ∨ f.fetShort ∨ f.milliamps < 50 then s
  else
    let s := (s.modFeed c fun f => { f with fetShort := true }).feedTo c .latched 0
    let s := { s with ppu := { s.ppu with err := s.ppu.err ||| 8 } }
    (s.record 0x83 92 s.now64 [(1, c), (2, f.milliamps.toNat)]).latchRecord c 3

/-- SUPPLY_LOW (R391): once per episode of low supply, and the channel stays on. -/
def State.supplyLowFound (s : State) (c : Nat) : State :=
  let f := s.feed c
  if f.state = .on ∧ f.senp < 10800 ∧ f.supplyLow = false then
    let s := s.modFeed c fun f => { f with supplyLow := true }
    let s := { s with ppu := { s.ppu with err := s.ppu.err ||| 16 } }
    s.record 0x84 92 s.now64 [(1, c), (2, f.senp)]
  else s

/-- SCHEDULED_REMOVAL (R397). -/
def State.scheduledRemoval (s : State) (c : Nat) : State :=
  match (s.feed c).removal with
  | some r => if r.at16 ≤ s.clock then s.feedOff c else s
  | none => s

/-- PRESENCE_INSERTION (R389, R90). -/
def State.inserted (s : State) (c : Nat) : State :=
  if (s.feed c).present then s
  else
    let s := s.modFeed c fun f => { f with present := true, debouncing := false }
    let s := (s.event 0x91 92 s.now64 [(1, c), (1, 1)]).cntPpu 0xE4
    let s := (List.range 16).foldl (fun s i =>
      let p := 16 * c + i
      let s := if (s.port p).cfg.en then s.slotNote p false true else s
      if (s.port p).cfg.dpcAuto then s.dpcRelease p else s) s
    s.noteWait c

/-- PRESENCE_REMOVAL (R389, R90, Table 15-4). -/
def State.removed (s : State) (c : Nat) : State :=
  if !(s.feed c).present then s
  else
    let s := s.modFeed c fun f => { f with present := false, debouncing := false, trips := 0 }
    let s := match (s.feed c).state with
      | .ramp | .on => s.gateOff c (s.feed c).rest 0
      | .latched => s.unlatch c
      | _ => s
    let s := (s.feed c).wake.foldl (fun s w => s.complete w.1 stAborted 0) (s.modFeed c fun f => { f with wake := [], readyAt := none })
    let s := (s.event 0x91 92 s.now64 [(1, c), (1, 0)]).cntPpu 0xE4
    (List.range 16).foldl (fun s i =>
      let p := 16 * c + i
      let s := if (s.port p).cfg.en then s.slotNote p false false else s
      if (s.port p).state = .up then s.linkDownEvent p true else s) s

/-- SHELF_WAKE_TIMEOUT (R396): the feed is left on. -/
def State.wakeTimeout (s : State) (c : Nat) : State :=
  let (old, new) := (s.feed c).wake.partition fun w => decide (w.2.1 + ms16 2000 ≤ s.clock)
  old.foldl (fun s w => s.complete w.1 stTimeout 0) (s.modFeed c fun f => { f with wake := new })

/-! ### The early warning (R392 to R394) -/

/-- Every waiting channel is looked at again. -/
def State.noteWaits (s : State) : State := s.ppu.feeds.foldl (fun s x => s.noteWait x.1) s

/-- EARLY_WARNING (Table 15-5). -/
def State.earlyWarning (s : State) (external : Bool) (mv : Nat) : State :=
  let p := s.ppu
  if p.warning || (external && (!p.pfailInEn || p.pfailDriven)) || (!external && decide (250 * p.warn ≤ mv)) then s
  else
    let s := { s with ppu := { p with warning := true, warnExt := external, warnAt := s.clock, warnCount := satAdd 32 p.warnCount 1
                                      inputMv := mv, pfailDriven := !external, err := p.err ||| 32 } }
    let s := if external then s else s.emit (.pfail true)
    let t := if external then 0 else t64Of (s.clock + ns16 (holdUpNs p.warn))
    let s := (List.range s.tileCount).foldl (fun s c => if (s.link c).state = .off then s else s.slWarnSet c 1 t) s
    ((s.event 0x92 92 s.now64 [(1, if external then 2 else 1), (2, mv)]).cntPpu 0xE5).noteWaits

/-- INPUT_CLEAR (R394). -/
def State.inputClear (s : State) : State :=
  let p := s.ppu
  if !p.warning then s
  else
    let us := (s.clock - p.warnAt) / 16000
    let s := if p.pfailDriven then s.emit (.pfail false) else s
    let s := { s with ppu := { p with warning := false, warnExt := false, pfailDriven := false, warnLast := min (2 ^ 32 - 1) us } }
    let s := (List.range s.tileCount).foldl (fun s c => s.slWarnClear c 1) s
    ((s.histAdd 6 (min 255 (us / 100))).event 0x93 92 s.now64 [(4, min (2 ^ 32 - 1) us)]).noteWaits

/-! ### Opcodes (Table 15-9) -/

/-- FEED_SET (R397). -/
def opFeedSet : OpSpec :=
  { code := 0xA0, absent := cageAbsent
    body := fun tk c s =>
      let g := targetCage c
      let (v, c0) := c.ranged 16 1 0 1
      let (lead, c1) := c.ranged 18 2 0 60000
      let cl := minClamp (targetClamp c 63) (minClamp c0 c1)
      if v = 1 then
        let s := s.feedRequest g
        .ok s (s.feedStatus g) cl
      else if lead = 0 then
        let s := s.feedOff g
        .ok s (s.feedStatus g) cl
      else
        let tk := { tk with clamp := minClamp tk.clamp cl }
        .later (s.scheduleRemoval g { at16 := s.clock + ms16 lead, ticket := some tk, result := s.feedStatus g + 2 ^ 18 * bit (s.feed g).removal.isNone }) }

/-- FEED_CFG (R388, R398). -/
def opFeedCfg : OpSpec :=
  { code := 0xA1, absent := cageAbsent
    body := fun _ c s =>
      let g := targetCage c
      let (ilim, c0) := c.ranged 16 2 50 350
      let (ramp, c1) := c.ranged 18 1 1 20
      let (ts, c2) := c.ranged 19 1 1 100
      let (tr, c3) := c.ranged 20 2 1 200
      let (tm, c4) := c.ranged 22 1 1 15
      let a := partSet c 0
      let b := partSet c 1
      let cl := minClamp (targetClamp c 63) (minClamp (if a then minClamp (minClamp c0 c1) (minClamp c2 c4) else none) (if b then c3 else none))
      let s := s.modFeed g fun f => if a then { f with ilim := ilim, rampMs := ramp, tstart := ts, tripMax := tm, auto := bitOf (c.byte 23) 0 } else f
      let s := s.modFeed g fun f => if b then { f with trun := tr } else f
      .ok (s.markDirty 1) (s.feed g).cfgImage cl }

/-- FEED_CLEAR (R385, R388, R391). -/
def opFeedClear : OpSpec :=
  { code := 0xA2, absent := cageAbsent
    body := fun _ c s =>
      let g := targetCage c
      let s := s.episodeOver g
      let f := s.feed g
      if f.state ≠ .latched ∨ (f.fetShort ∧ 50 ≤ f.milliamps) then .ok s 1 (targetClamp c 63)
      else .ok (s.unlatch g) 0 (targetClamp c 63) }

/-- SHELF_WAKE (R396). -/
def opShelfWake : OpSpec :=
  { code := 0xA3, aligned := true, absent := cageAbsent
    body := fun tk c s =>
      let g := targetCage c
      let cl := targetClamp c 63
      if (s.feed g).faulted then .bad s stBusy cl
      else if !(s.feed g).present then .bad s stDenied cl
      else
        let s := s.feedRequest g
        let n := (s.link g).txSeq
        let s := s.modFeed g fun f => { f with wake := f.wake ++ [({ tk with clamp := minClamp tk.clamp cl }, 16 * tk.ft, n)] }
        .later (s.slQueue g 0x30 []) }

/-- SHELF_SLEEP (R397). -/
def opShelfSleep : OpSpec :=
  { code := 0xA4, absent := cageAbsent
    body := fun tk c s =>
      let g := targetCage c
      let cl := targetClamp c 63
      if (s.link g).state = .off then .bad s stAborted cl
      else
        let n := (s.link g).txSeq
        let tk := { tk with clamp := minClamp tk.clamp cl }
        let s := s.modFeed g fun f => { f with sleep := f.sleep ++ [(tk, bitOf (c.byte 16) 0, c.le 18 2, n)] }
        .later (s.slQueue g 0x31 []) }

/-- FEED_QUERY. -/
def opFeedQuery : OpSpec :=
  { code := 0xA5, absent := cageAbsent
    body := fun _ c s =>
      let g := targetCage c
      let f := s.feed g
      let (k, cl) := c.ranged 16 1 0 6
      .ok s (match k with
        | 0 => s.feedStatus g | 1 => (f.milliamps % 2 ^ 32).toNat | 2 => f.vout | 3 => f.senp
        | 4 => s.coolLeft g | 5 => f.trips | _ => f.joules) (minClamp (targetClamp c 63) cl) }

/-- PPU_INPUT_CFG (R392). -/
def opPpuInputCfg : OpSpec :=
  { code := 0xA6
    body := fun _ c s =>
      let (w, c0) := c.ranged 16 1 144 156
      let (m, c1) := c.ranged 18 1 1 64
      let s := { s with ppu := { s.ppu with warn := w, pfailInEn := bitOf (c.byte 17) 0, maxRamps := m } }
      .ok s s.ppu.inputImage (minClamp c0 c1) }

/-- PPU_QUERY. -/
def opPpuQuery : OpSpec :=
  { code := 0xA7
    body := fun _ c s =>
      let p := s.ppu
      let (k, cl) := c.ranged 16 1 0 7
      .ok s (match k with
        | 0 => s.inputV | 1 => s.inputI | 2 => s.inputP | 3 => (s.hotSwapTemp.signExtend 32).toNat | 4 => p.warnCount
        | 5 => p.warnLast | 6 => (s.lidTemp.signExtend 32).toNat | _ => holdUpNs p.warn / 1000) cl }

/-! ### The PPU window (Table 15-10) -/

/-- Channels `lo` to `lo + 31` that satisfy a test, as bits. -/
def State.feedBits (s : State) (lo : Nat) (f : Feed → Bool) : Nat :=
  (List.range 32).foldl (fun n i => n + 2 ^ i * bit (s.tileExists (lo + i) && f (s.feed (lo + i)))) 0

/-- A read of the PPU window at offset `o`. -/
def State.ppuRead (s : State) (o : Nat) : Nat :=
  let p := s.ppu
  if 0x1000 ≤ o ∧ o < 0x2000 then
    let c := (o - 0x1000) / 0x40
    let f := s.feed c
    if !s.tileExists c then 0
    else match (o - 0x1000) % 0x40 with
      | 0x00 => bit f.onReq
      | 0x04 => f.cfgImage
      | 0x08 => f.trun
      | 0x0C => s.feedStatus c
      | 0x10 => (f.milliamps % 2 ^ 16).toNat
      | 0x14 => f.vout % 2 ^ 16 + 2 ^ 16 * (f.senp % 2 ^ 16)
      | 0x18 => s.coolLeft c
      | 0x1C => f.tripsTotal
      | 0x20 => f.joules
      | _ => 0
  else match o with
    | 0x00 => bit s.glb.ppuRun + 2 * bit p.warning + 4 * bit p.warnExt + 8 * bit p.pfailDriven + 2 ^ 8 * s.ramps
    | 0x04 => p.inputImage
    | 0x08 => s.inputV
    | 0x0C => s.inputI
    | 0x10 => s.inputP
    | 0x14 => p.err.toNat
    | 0x18 => p.warnCount
    | 0x1C => p.warnLast
    | 0x20 => s.feedBits 0 (·.present)
    | 0x24 => s.feedBits 32 (·.present)
    | 0x28 => s.feedBits 0 Feed.driven
    | 0x2C => s.feedBits 32 Feed.driven
    | 0x30 => s.feedBits 0 Feed.faulted
    | 0x34 => s.feedBits 32 Feed.faulted
    | 0x38 => s.hotSwapTemp.toNat + 2 ^ 8 * bit p.rampDone
    | 0x3C => s.lidTemp.toNat
    | _ => 0

/-- A write to the PPU window at offset `o` (R402). -/
def State.ppuWrite (s : State) (o v : Nat) : State :=
  if 0x1000 ≤ o ∧ o < 0x2000 then
    let c := (o - 0x1000) / 0x40
    if !s.tileExists c then s
    else match (o - 0x1000) % 0x40 with
      | 0x00 => s.sidePush 0xA0 (sideCmd c 0 [(16, 1, v % 2)])
      | 0x04 => s.sidePush 0xA1 (sideCmd c 1 [(16, 2, bitsOf v 8 0), (18, 1, bitsOf v 13 9), (19, 1, bitsOf v 22 16),
          (22, 1, bitsOf v 27 24), (23, 1, bitsOf v 23 23)])
      | 0x08 => s.sidePush 0xA1 (sideCmd c 2 [(20, 2, v % 256)])
      | _ => s
  else match o with
    | 0x04 => s.sidePush 0xA6 (sideCmd 0 0 [(16, 1, v % 256), (17, 1, bitsOf v 8 8), (18, 1, bitsOf v 22 16)])
    | 0x14 => { s with ppu := { s.ppu with err := s.ppu.err &&& ~~~ BitVec.ofNat 6 v } }
    | _ => s

/-! ### The commands -/

/-- FEED_SET (R397). -/
def execFeedSet (c : Cmd) (s : State) : Answer := act s (opFeedSet.submit c)
/-- FEED_CFG (R388). -/
def execFeedCfg (c : Cmd) (s : State) : Answer := act s (opFeedCfg.submit c)
/-- FEED_CLEAR (R385). -/
def execFeedClear (c : Cmd) (s : State) : Answer := act s (opFeedClear.submit c)
/-- SHELF_WAKE (R396). -/
def execShelfWake (c : Cmd) (s : State) : Answer := act s (opShelfWake.submit c)
/-- SHELF_SLEEP (R397). -/
def execShelfSleep (c : Cmd) (s : State) : Answer := act s (opShelfSleep.submit c)
/-- FEED_QUERY (R401). -/
def execFeedQuery (c : Cmd) (s : State) : Answer := act s (opFeedQuery.submit c)
/-- PPU_INPUT_CFG (R392). -/
def execPpuInputCfg (c : Cmd) (s : State) : Answer := act s (opPpuInputCfg.submit c)
/-- PPU_QUERY (R401). -/
def execPpuQuery (c : Cmd) (s : State) : Answer := act s (opPpuQuery.submit c)
/-- EARLY_WARNING (R392). -/
def execEarlyWarning (external : Bool) (millivolts : BitVec 16) (s : State) : Answer :=
  act s fun s => s.earlyWarning external millivolts.toNat
/-- INPUT_CLEAR (R394). -/
def execInputClear (s : State) : Answer := act s State.inputClear
/-- PRESENCE_INSERTION (R389). -/
def execPresenceInsertion (cage : Cage) (s : State) : Answer := act s fun s => s.inserted cage
/-- PRESENCE_REMOVAL (R389). -/
def execPresenceRemoval (cage : Cage) (s : State) : Answer := act s fun s => s.removed cage
/-- FEED_SAMPLE (R383). -/
def execFeedSample (cage : Cage) (m : FeedMeasure) (s : State) : Answer := act s fun s => s.feedSample cage m
/-- FEED_RAMP_START (R386). -/
def execFeedRampStart (cage : Cage) (s : State) : Answer := act s fun s => s.rampStart cage
/-- OUTPUT_GOOD (R385). -/
def execOutputGood (cage : Cage) (s : State) : Answer := act s fun s => s.outputGood cage
/-- FAST_COMPARATOR (R383). -/
def execFastComparator (cage : Cage) (milliamps : Nat) (s : State) : Answer := act s fun s => s.fastComparator cage milliamps
/-- TSTART_EXPIRY (R387). -/
def execTstartExpiry (cage : Cage) (s : State) : Answer := act s fun s => s.tstartExpiry cage
/-- TRUN_EXPIRY (R387). -/
def execTrunExpiry (cage : Cage) (s : State) : Answer := act s fun s => s.trunExpiry cage
/-- OUTPUT_LOW (R387). -/
def execOutputLow (cage : Cage) (s : State) : Answer := act s fun s => s.outputLow cage
/-- RAMP_TIMEOUT (R387). -/
def execRampTimeout (cage : Cage) (s : State) : Answer := act s fun s => s.rampTimeout cage
/-- COOLDOWN_EXPIRY (R387). -/
def execCooldownExpiry (cage : Cage) (s : State) : Answer := act s fun s => s.cooldownExpiry cage
/-- EPISODE_END (R388). -/
def execEpisodeEnd (cage : Cage) (s : State) : Answer := act s fun s => s.episodeEnd cage
/-- OPEN_SENSE (R390). -/
def execOpenSense (cage : Cage) (s : State) : Answer := act s fun s => s.openSense cage
/-- VOUT_OPEN (R390). -/
def execVoutOpen (cage : Cage) (s : State) : Answer := act s fun s => s.voutOpenFound cage
/-- FET_SHORT (R391). -/
def execFetShort (cage : Cage) (s : State) : Answer := act s fun s => s.fetShortFound cage
/-- SUPPLY_LOW (R391). -/
def execSupplyLow (cage : Cage) (s : State) : Answer := act s fun s => s.supplyLowFound cage
/-- SCHEDULED_REMOVAL (R397). -/
def execScheduledRemoval (cage : Cage) (s : State) : Answer := act s fun s => s.scheduledRemoval cage
/-- SHELF_WAKE_TIMEOUT (R396). -/
def execShelfWakeTimeout (cage : Cage) (s : State) : Answer := act s fun s => s.wakeTimeout cage

end Sys2Proof.Machine
end

