-- ==== Sys2Proof/Machine/Startup.lean ====
section
/-!
DEFINITION. Start-up, resets and the Management and Security Controller (chapter 16): module reset and
its holds, the module's input stage, the start-up steps, booting from NOR, the MSC's opcodes, and the
MSC window.
-/

namespace Sys2Proof.Machine

/-! ### Module reset (R404, R405, R380, R381) -/

/-- GLB_RESET_CAUSE.MODULE of a supply loss: 5 where an early warning was in effect (R381). -/
def State.supplyCause (s : State) : Nat := if s.ppu.warning then 5 else 1

/-- Ports after a module reset: PRT_LINK_GEN stays while the Port Logic keeps its power, and counts the
links that go down (R85, R404). -/
def keepGens (ports : Tbl PortSt) : Tbl PortSt :=
  tmap {} (fun _ p => { ({} : PortSt) with gen := if p.state = .up then (p.gen + 1) % 2 ^ 32 else p.gen }) ports

/-- Every island in module reset: what is not NOR, fuses, the outside world or the link generations
returns to its reset value (R404). A trial in progress has failed (R413). -/
def State.moduleReset (s : State) (cause : Nat) (h : Hold) : State :=
  let r : State := {}
  let e := s.evr
  let trial := s.msc.onTrial
  { r with
    variant := s.variant, held := some h, eeprom := s.eeprom, mgr := s.mgr, out := s.out, free := s.free, pending := s.pending,
    glb := { r.glb with causeModule := cause },
    evr := { r.evr with log := e.log, archive := e.archive, times := e.times },
    prt := if h = .supply then r.prt else { r.prt with ports := keepGens s.prt.ports },
    ppu := { r.ppu with rampDone := decide (h ≠ .supply), failedRamps := s.ppu.failedRamps },
    msc := { r.msc with nor := if trial then { s.msc.nor with trial := none } else s.msc.nor,
                        revert := if trial then some (s.msc.runB, 2) else s.msc.revert } }

/-- Every driven gate goes off with the reset (R380, R382). -/
def State.gatesOff (s : State) : State :=
  s.ppu.feeds.foldl (fun s x => if x.2.driven then s.emit (.gate (Fin.ofNat 64 x.1) false) else s) s

/-- A supply loss: stage off, or brown-out (Table 15-1). -/
def State.supplyLoss (s : State) : State := s.gatesOff.moduleReset s.supplyCause .supply

/-- RESET_N held low: a module already held by its supply or by heat stays so. -/
def State.resetPin (s : State) : State :=
  match s.held with
  | some .supply => s
  | some .thermal => s
  | _ => s.gatesOff.moduleReset 2 .resetPin

/-- A KIND 2 request has fallen due (R349). -/
def State.kind2Due (s : State) : Bool :=
  match s.glb.resetDue with
  | some (2, t) => decide (t ≤ s.clock)
  | _ => false

/-- MODULE_RESET by its cause. -/
def State.takeReset (s : State) : ResetCause → State
  | .inputPower => s.supplyLoss
  | .inputFailure => s.supplyLoss
  | .resetPin => s.resetPin
  | .resetCtrl => if s.held.isNone && s.kind2Due then s.gatesOff.moduleReset 3 .resetCtrl else s
  | .thermal => if s.held = some .supply then s else s.gatesOff.moduleReset 4 .thermal

/-- THERMAL_SHUTDOWN (R405): the time entry first, then the hold. -/
def State.thermalShutdown (s : State) : State :=
  match s.held with
  | some _ => s
  | none => (s.timeEntry .thermal).gatesOff.moduleReset 4 .thermal

/-- STARTUP (R407): RESET_N is high and the input stage has completed its ramp. The thermal hold ends by
THERMAL_RECOVERY alone. -/
def State.startUp (s : State) : State :=
  match s.held with
  | some .thermal => s
  | some _ => if s.ppu.rampDone then { s with held := none } else s
  | none => s

/-- INPUT_TURN_ON (R380). -/
def State.inputTurnOn (s : State) : State :=
  if s.ppu.rampDone = false ∧ s.ppu.failedRamps < 3 then { s with ppu := { s.ppu with rampDone := true, failedRamps := 0 } } else s
/-- INRUSH_FAULT (R380). -/
def State.inrushFault (s : State) : State :=
  if s.ppu.rampDone = false then { s with ppu := { s.ppu with failedRamps := min 3 (s.ppu.failedRamps + 1) } } else s

/-! ### Booting (R412, R413, R416) -/

/-- FW_SLOT_BAD. -/
def State.slotBad (s : State) (b : Bool) (reason : Nat) : State :=
  ({ s with msc := { s.msc with err := s.msc.err ||| 1 } }).record 0xA0 91 s.now64 [(1, bit b), (1, reason)]
/-- FW_REVERT: cause 1 boot failure, 2 module reset, 3 watchdog. -/
def State.fwRevert (s : State) (b : Bool) (cause : Nat) : State :=
  ({ s with msc := { s.msc with err := s.msc.err ||| 2 } }).record 0xA1 91 s.now64 [(1, bit b), (1, cause)]

/-- The reason for which a slot does not boot; 0 where it boots. -/
def State.slotReason (s : State) (b : Bool) : Nat := imgReason (s.msc.nor.slot b) s.msc.nor.svnFloor

/-- Run the image of slot `b`. -/
def State.runImage (s : State) (b trial : Bool) : State :=
  let t := s.msc.nor.slot b
  let nor := if trial then s.msc.nor else { s.msc.nor with confirmedB := b }
  ({ s with msc := { s.msc with state := .running, runB := b, onTrial := trial, runDigest := imgDigest t,
                                runVersion := imgVersion t, runSvn := imgSvn t, nor := nor },
            glb := { s.glb with fwVerified := true } }).noteReady

/-- Boot CONFIRMED, else the other slot, else enter recovery. `tried`: the other slot has failed already. -/
def State.bootConfirmed (s : State) (tried : Bool) : State :=
  let a := s.msc.nor.confirmedB
  if s.slotReason a = 0 then s.runImage a false
  else
    let s := s.slotBad a (s.slotReason a)
    if !tried && s.slotReason (!a) == 0 then s.runImage (!a) false
    else
      let s := if tried then s else s.slotBad (!a) (s.slotReason (!a))
      { s with msc := { s.msc with state := .recovery, onTrial := false } }

/-- The boot ROM picks a slot (R412). -/
def State.boot (s : State) : State :=
  let s := match s.msc.revert with
    | some (b, c) => ({ s with msc := { s.msc with revert := none } }).fwRevert b c
    | none => s
  match s.msc.nor.trial with
  | some b =>
    if s.slotReason b = 0 then s.runImage b true
    else
      let s := (s.slotBad b (s.slotReason b)).fwRevert b 1
      ({ s with msc := { s.msc with nor := { s.msc.nor with trial := none } } }).bootConfirmed (b != s.msc.nor.confirmedB)
  | none => s.bootConfirmed false

/-! ### The persistent store (R398, R410, R248) -/

/-- The stored part of a channel's configuration. -/
def Feed.store (f : Feed) : FeedCfg :=
  { ilim := f.ilim, rampMs := f.rampMs, tstart := f.tstart, trun := f.trun, tripMax := f.tripMax, auto := f.auto }
/-- A channel with a stored configuration. -/
def FeedCfg.load (c : FeedCfg) (f : Feed) : Feed :=
  { f with ilim := c.ilim, rampMs := c.rampMs, tstart := c.tstart, trun := c.trun, tripMax := c.tripMax, auto := c.auto }

/-- Write one changed section to NOR. -/
def State.storeSection (s : State) (sec : Nat) : State :=
  let n := s.msc.nor
  let n := match sec with
    | 0 =>
      let keep (_ : Nat) (e : Retire) : Retire :=
        if e.valid then { e with hold := false, releasing := false, ticket := none } else {}
      { n with retire := tmap {} keep s.mem.retire }
    | 1 => { n with feeds := s.ppu.feeds.foldl (fun t x => tset {} t x.1 x.2.store) [] }
    | _ => { n with pbrDev := s.prt.pbrDev }
  { s with msc := { s.msc with nor := n, dirty := s.msc.dirty.filter fun x => x.1 != sec } }
/-- PERSISTENT_STORE_WRITE: every changed section. -/
def State.storeWrite (s : State) : State := s.msc.dirty.foldl (fun s x => s.storeSection x.1) s

/-- STORE_BAD (R421). -/
def State.storeBad (s : State) (sec : Nat) : State :=
  ({ s with msc := { s.msc with err := s.msc.err ||| 8 } }).record 0xA3 91 s.now64 [(1, sec)]

/-! ### The start-up steps (Table 16-2) -/

/-- A step of start-up acts once, when what comes before it has happened. -/
def State.stepOnce (s : State) (before done : Bool) (f : State → State) : State :=
  if before && !done then (f s).noteReady else s

/-- FTU_RUN. -/
def State.startFtu (s : State) : State :=
  s.stepOnce true s.glb.ftuRun fun s =>
    { s with glb := { s.glb with ftuRun := true, mseRun := s.glb.mseRun || !s.isF } }
/-- SRAM_SWEPT, CORE_RUN and HOME_RUN (R240). -/
def State.startSram (s : State) : State :=
  s.stepOnce s.glb.ftuRun s.glb.sramSwept fun s =>
    let s := (List.range 16).foldl (fun s k => s.modSlice k fun x => { x with running := true }) s
    { s with glb := { s.glb with sramSwept := true, coreRun := true, homeRun := true } }
/-- MEM_TRAINED (R227). -/
def State.startTrained (s : State) : State :=
  s.stepOnce s.glb.ftuRun s.glb.memTrained fun s =>
    let s := (List.range 32).foldl (fun s k => s.modChan k fun x => { x with trained := true }) s
    { s with glb := { s.glb with memTrained := true }, mem := { s.mem with trained := true } }
/-- FW_VERIFIED, or recovery (R412, R416). -/
def State.startFw (s : State) : State :=
  if s.glb.ftuRun && s.msc.state == .rom then s.boot else s
/-- FMP_READY (R398, R409): the persistent store is loaded. -/
def State.startFmp (s : State) (c : StoreCheck) : State :=
  s.stepOnce (s.msc.state == .running || s.msc.state == .recovery) s.glb.fmpReady fun s =>
    let n := s.msc.nor
    let s := if c.listBad then s.storeBad 1 else { s with mem := { s.mem with retire := n.retire } }
    let s := if c.feedBad then s.storeBad 2 else n.feeds.foldl (fun s x => s.modFeed x.1 x.2.load) s
    let s := if c.pbrBad then s.storeBad 3 else { s with prt := { s.prt with pbrDev := n.pbrDev } }
    let s := if c.certBad then s.storeBad 4 else s
    { s with glb := { s.glb with fmpReady := true }, mem := { s.mem with listLoaded := true } }
/-- EQ_LOADED (R54, R56). -/
def State.startEq (s : State) : State :=
  s.stepOnce s.glb.fmpReady s.glb.eqLoaded fun s =>
    let s := s.loadEq
    let s := { s with glb := { s.glb with eqLoaded := true }, msc := { s.msc with eqDigest := Config.sha3 s.eeprom } }
    (List.range s.tileCount).foldl (fun s t => s.repower t) s
/-- PPU_RUN: AUTO channels start (R398). -/
def State.startPpu (s : State) : State :=
  s.stepOnce s.glb.fmpReady s.glb.ppuRun fun s =>
    let s := { s with glb := { s.glb with ppuRun := true } }
    s.ppu.feeds.foldl (fun s x => if x.2.auto then s.feedRequest x.1 else s) s
/-- MEM_SWEPT (R238): the memory is zero, and the engines run. -/
def State.startSwept (s : State) : State :=
  s.stepOnce (s.glb.fmpReady && s.glb.memTrained && !s.mem.retire.any fun x => x.2.valid && x.2.hard != []) s.glb.memSwept fun s =>
    let s := (List.range 32).foldl (fun s k => s.modChan k fun x => { x with lapStart := s.clock, lastScrub := s.clock }) s
    let s := if s.isF then (List.range 4).foldl (fun s k => s.modEngine k fun x => { x with running := true }) s else s
    { s with glb := { s.glb with memSwept := true, mseRun := s.glb.mseRun || s.isF }, mem := { s.mem with swept := true, lines := [], fills := [] } }

/-! ### MSC firmware restart (R406, R415) -/

/-- Start a restart: pending store writes are flushed first (Table 16-7). -/
def State.mscRestart (s : State) (cause : Nat) (tk : Option Ticket) : State :=
  let s := s.storeWrite
  let g := s.glb
  ({ s with msc := { s.msc with state := .restarting, restart := some (s.clock, tk), sessions := [], stagedValid := s.msc.stagedValid },
            glb := { g with causeMsc := cause, mscCount := satAdd 16 g.mscCount 1 } }).tally 5

/-- FW_ACTIVATED: the slot and the version that now run (R421). -/
def State.fwActivated (s : State) : State :=
  (s.event 0xA0 91 s.now64 [(1, bit s.msc.runB), (4, s.msc.runVersion)]).tally 6

/-- The end of a restart: the ROM boots, MSC_RETURNED is posted and the command that waited completes
(R413, R415). -/
def State.mscReturn (s : State) : State :=
  match s.msc.state, s.msc.restart with
  | .restarting, some (_, tk) =>
    let s := ({ s with msc := { s.msc with restart := none } }).boot
    let s := s.event 0xA1 91 s.now64 [(1, s.glb.causeMsc)]
    match tk with
    | none => s
    | some tk =>
      if tk.op = 0xB2 then
        if s.msc.onTrial then
          let s := s.fwActivated
          s.complete tk stOk s.fwRunning
        else s.complete tk stAborted 0
      else s.complete tk stOk 0
  | _, _ => s

/-- MSC_WATCHDOG (R406, R413). -/
def State.mscWatchdog (s : State) : State :=
  if s.msc.state = .running then
    let s := ({ s with msc := { s.msc with err := s.msc.err ||| 4 } }).record 0xA2 91 s.now64 []
    let s := if s.msc.onTrial then
        { s with msc := { s.msc with nor := { s.msc.nor with trial := none }, revert := some (s.msc.runB, 3), onTrial := false } }
      else s
    s.mscRestart 5 none
  else s

/-- A KIND 1 request that has fallen due starts a restart, unless one is in progress (R349). -/
def State.fireKind1 (s : State) : State :=
  match s.glb.resetDue with
  | some (1, t) =>
    if t ≤ s.clock then
      let s := { s with glb := { s.glb with resetDue := none } }
      if s.msc.state = .running ∨ s.msc.state = .recovery then s.mscRestart 2 none else s
    else s
  | _ => s

/-- What the passage of one phase unit does: fabric time counts, and a KIND 1 request falls due. -/
def State.pass (s : State) : State := s.advance.fireKind1

/-! ### Opcodes (Table 16-6) -/

/-- The slot that is neither CONFIRMED nor running; none during a trial (R413). -/
def State.inactiveSlot (s : State) : Option Bool :=
  let a := s.msc.nor.confirmedB
  match s.msc.state with
  | .recovery => some (!a)
  | _ => if s.msc.onTrial || s.msc.runB != a then none else some (!a)

/-- Put bytes into a slot. -/
def putBytes : Tbl Byte → Nat → List Byte → Tbl Byte
  | t, _, [] => t
  | t, a, b :: bs => putBytes (tset erasedByte t a b) (a + 1) bs

/-- FW_STAGE. -/
def opFwStage : OpSpec :=
  { code := 0xB0
    body := fun _ c s =>
      match s.inactiveSlot with
      | none => .bad s stBusy
      | some b =>
        let (off, c0) := c.ranged 24 4 0 (slotSize - 1)
        let (n, c1) := c.ranged 28 4 1 1048576
        let m := min n (slotSize - off)
        let secs := (List.range ((off + m - 1) / 65536 + 1 - off / 65536)).map (off / 65536 + ·)
        let fresh := secs.filter fun x => !s.msc.erased.contains x
        let t := (s.msc.nor.slot b).filter fun x => !fresh.contains (x.1 / 65536)
        let t := putBytes t off (s.mgrRead (c.le 16 8) m)
        .ok { s with msc := { s.msc with nor := s.msc.nor.setSlot b t, stagedValid := false, erased := s.msc.erased ++ fresh } } m
          (minClamp c0 (if m < n then some 28 else c1)) }

/-- FW_VERIFY. -/
def opFwVerify : OpSpec :=
  { code := 0xB1
    body := fun _ _ s =>
      match s.inactiveSlot with
      | none => .bad s stBusy
      | some b =>
        let r := s.slotReason b
        let s := { s with msc := { s.msc with lastReason := r, stagedValid := decide (r = 0), erased := [] } }
        if r = 0 then .ok s (imgSvn (s.msc.nor.slot b)) else { st := s, done := some (stDenied, r) } }

/-- FW_ACTIVATE: mode 0 puts a valid slot on trial by a restart, or boots it directly from recovery (R413, R416). -/
def opFwActivate : OpSpec :=
  { code := 0xB2
    body := fun tk c s =>
      let (m, cl) := c.ranged 16 1 0 1
      if m = 1 then
        if s.msc.onTrial then
          let s := { s with msc := { s.msc with nor := { s.msc.nor with confirmedB := s.msc.runB, trial := none }, onTrial := false,
                                                stagedValid := false, erased := [] } }
          .ok s s.fwRunning cl
        else .bad s stDenied cl
      else match s.inactiveSlot with
        | none => .bad s stBusy cl
        | some b =>
          let r := s.slotReason b
          if r ≠ 0 then
            { st := { s with msc := { s.msc with lastReason := r, stagedValid := false } }, done := some (stDenied, r), clamp := cl }
          else if s.msc.state = .recovery then
            let s := (({ s with msc := { s.msc with lastReason := 0, erased := [] } }).runImage b false).fwActivated
            .ok s s.fwRunning cl
          else
            let s := { s with msc := { s.msc with nor := { s.msc.nor with trial := some b }, lastReason := 0, erased := [] } }
            .later (s.mscRestart 4 (some { tk with clamp := minClamp tk.clamp cl })) }

/-- FW_QUERY. -/
def opFwQuery : OpSpec :=
  { code := 0xB3
    body := fun _ c s =>
      let (k, cl) := c.ranged 16 1 0 4
      let n := s.msc.nor
      .ok s (match k with
        | 0 => Config.bootWord n.confirmedB n.trial % 2 ^ 32
        | 1 => match s.inactiveSlot with | some b => imgVersion (n.slot b) | none => 0
        | 2 => match s.inactiveSlot with | some b => imgSvn (n.slot b) | none => 0
        | 3 => n.svnFloor
        | _ => s.msc.lastReason) cl }

/-- FW_ROLLBACK_ADVANCE (R414). -/
def opFwRollbackAdvance : OpSpec :=
  { code := 0xB4
    body := fun _ _ s =>
      if s.msc.onTrial ∨ s.msc.runSvn ≤ s.msc.nor.svnFloor then .bad s stDenied
      else .ok { s with msc := { s.msc with nor := { s.msc.nor with svnFloor := s.msc.runSvn } } } s.msc.runSvn }

/-- ID_CERT_READ (R419). -/
def opIdCertRead : OpSpec :=
  { code := 0xB5
    body := fun _ c s =>
      let (k, cl) := c.ranged 16 1 0 2
      let bs := Config.certificate k
      if c.le 32 4 < bs.length then .bad s stNoResource cl
      else .ok (s.mgrWrite (c.le 24 8) bs) bs.length cl }

/-- Measurement blocks 1 to 5 (R418). -/
def State.measurements (s : State) : List Byte :=
  Config.romDigest ++ s.msc.runDigest ++ Config.measurement 3 [s.msc.runVersion, s.msc.runSvn]
    ++ Config.measurement 4 [s.msc.nor.svnFloor] ++ s.msc.eqDigest

/-- ATTEST_SIGN (R419). -/
def opAttestSign : OpSpec :=
  { code := 0xB6
    body := fun _ c s =>
      let m := s.measurements
      let d := Config.sha3 ([0x4B, 0x52, 0x59, 0x2D, 0x41, 0x54, 0x54, 0x45, 0x53, 0x54] ++ s.mgrRead (c.le 16 8) 32 ++ m)
      let bs := m ++ fitTo 2420 (Config.aliasSign d)
      .ok (s.mgrWrite (c.le 24 8) bs) bs.length }

/-- MSC_RESTART. -/
def opMscRestart : OpSpec :=
  { code := 0xB7, body := fun tk _ s => .later (s.mscRestart 1 (some tk)) }

/-! ### The MSC window (Tables 16-8, 16-9) -/

/-- MSC_STATUS.STATE. -/
def MscState.code : MscState → Nat
  | .rom => 0 | .running => 1 | .restarting => 2 | .recovery => 3

/-- A read of the MSC window at offset `o`. -/
def State.mscRead (s : State) (o : Nat) : Nat :=
  let m := s.msc
  let inact := match s.inactiveSlot with | some b => some (m.nor.slot b) | none => none
  if 0x20 ≤ o ∧ o < 0x40 then leNat ((m.runDigest.drop (o - 0x20)).take 4)
  else if 0x40 ≤ o ∧ o < 0x60 then leNat ((Config.romDigest.drop (o - 0x40)).take 4)
  else match o with
    | 0x00 => m.state.code + 4 * bit m.nor.confirmedB + 8 * bit m.onTrial + 16 * bit m.stagedValid
    | 0x04 => m.runSvn + 2 ^ 8 * m.nor.svnFloor + 2 ^ 16 * (match inact with | some t => imgSvn t % 256 | none => 0)
    | 0x08 => match inact with | some t => imgVersion t % 2 ^ 24 | none => 0
    | 0x0C => m.err.toNat
    | _ => 0

/-- A write to the MSC window at offset `o`. -/
def State.mscWrite (s : State) (o v : Nat) : State :=
  if o = 0x0C then { s with msc := { s.msc with err := s.msc.err &&& ~~~ BitVec.ofNat 4 v } } else s

/-! ### The commands -/

/-- INPUT_TURN_ON (R380). -/
def execInputTurnOn (s : State) : Answer := .next s.inputTurnOn
/-- INRUSH_FAULT (R380). -/
def execInrushFault (s : State) : Answer := .next s.inrushFault
/-- RUNNING_OVERCURRENT (R380). -/
def execRunningOvercurrent (s : State) : Answer := .next s.supplyLoss
/-- FAST_OVERCURRENT (R380). -/
def execFastOvercurrent (s : State) : Answer := .next s.supplyLoss
/-- OVERVOLTAGE (R380). -/
def execOvervoltage (s : State) : Answer := .next s.supplyLoss
/-- BROWN_OUT (R380). -/
def execBrownOut (s : State) : Answer := .next s.supplyLoss
/-- RESET_N (R404). -/
def execResetN (s : State) : Answer := .next s.resetPin
/-- MODULE_RESET (R404). -/
def execModuleReset (cause : ResetCause) (s : State) : Answer := .next (s.takeReset cause)
/-- THERMAL_SHUTDOWN (R405). -/
def execThermalShutdown (s : State) : Answer := .next s.thermalShutdown
/-- THERMAL_RECOVERY (R405). -/
def execThermalRecovery (s : State) : Answer :=
  .next (if s.held = some .thermal then { s with held := none } else s)
/-- STARTUP (R407). -/
def execStartUp (s : State) : Answer := .next s.startUp
/-- FTU_RUN (R407). -/
def execFtuRun (s : State) : Answer := act s State.startFtu
/-- SRAM_SWEPT (R240). -/
def execSramSwept (s : State) : Answer := act s State.startSram
/-- MEM_TRAINED (R227). -/
def execMemTrained (s : State) : Answer := act s State.startTrained
/-- FW_VERIFIED (R412). -/
def execFwVerified (s : State) : Answer := act s State.startFw
/-- FMP_READY (R409). -/
def execFmpReady (stores : StoreCheck) (s : State) : Answer := act s fun s => s.startFmp stores
/-- EQ_LOADED (R56). -/
def execEqLoaded (s : State) : Answer := act s State.startEq
/-- PPU_RUN (R398). -/
def execPpuRun (s : State) : Answer := act s State.startPpu
/-- MEM_SWEPT (R238). -/
def execMemSwept (s : State) : Answer := act s State.startSwept
/-- PERSISTENT_STORE_WRITE (R398). -/
def execPersistentStoreWrite (s : State) : Answer := act s State.storeWrite
/-- MSC_WATCHDOG (R406). -/
def execMscWatchdog (s : State) : Answer := act s State.mscWatchdog
/-- FW_STAGE (R413). -/
def execFwStage (c : Cmd) (s : State) : Answer := act s (opFwStage.submit c)
/-- FW_VERIFY (R413). -/
def execFwVerify (c : Cmd) (s : State) : Answer := act s (opFwVerify.submit c)
/-- FW_ACTIVATE (R413). -/
def execFwActivate (c : Cmd) (s : State) : Answer := act s (opFwActivate.submit c)
/-- FW_QUERY (R420). -/
def execFwQuery (c : Cmd) (s : State) : Answer := act s (opFwQuery.submit c)
/-- FW_ROLLBACK_ADVANCE (R414). -/
def execFwRollbackAdvance (c : Cmd) (s : State) : Answer := act s (opFwRollbackAdvance.submit c)
/-- ID_CERT_READ (R419). -/
def execIdCertRead (c : Cmd) (s : State) : Answer := act s (opIdCertRead.submit c)
/-- ATTEST_SIGN (R419). -/
def execAttestSign (c : Cmd) (s : State) : Answer := act s (opAttestSign.submit c)
/-- MSC_RESTART (R415). -/
def execMscRestart (c : Cmd) (s : State) : Answer := act s (opMscRestart.submit c)

end Sys2Proof.Machine
end

