-- ==== Sys2Proof/Machine/Vfi.lean ====
section
/-!
DEFINITION. Virtual Fabric Instances (chapter 11): bindings, windows and dynamic capacity, quotas and
weights, colours, mailboxes, tenant counters, instance resets, the VFI opcodes and pages.
-/

namespace Sys2Proof.Machine

/-- The instance that a descriptor names (R306). -/
def vfiOf (c : Cmd) : Nat := min 255 c.target
/-- The clamp of the instance. -/
def vfiClamp (c : Cmd) : Option Nat := if 255 < c.target then some 4 else none

/-! ### Bindings (R285, R296) -/

/-- The bindings of a block: of the whole port and of its LDs, with their keys. -/
def State.blockBindings (s : State) (p : Nat) : List (Nat × Binding) :=
  (List.range 17).filterMap fun i => (s.binding (17 * p + i)).map fun b => (17 * p + i, b)
/-- The port's bindings may be active: it is an enabled port with the ROLE they were made under. -/
def State.bindable (s : State) (p : Nat) : Bool :=
  (s.port p).cfg.en && (s.blockBindings p).any fun x => x.2.role == (s.port p).cfg.role
/-- Bring `active` of a port up to date, with its egress stops (R285, Table 05-4). -/
def State.setActive (s : State) (p : Nat) (on : Bool) : State :=
  if (s.port p).active = on then s else (s.modPort p fun x => { x with active := on }).restop (p / 16) (p % 16)
/-- At a boundary the bindings of every port that is UP become active (R285). -/
def State.activate (s : State) : State :=
  s.prt.ports.foldl (fun s x => if x.2.state = .up ∧ s.bindable x.1 = true then s.setActive x.1 true else s) s
/-- A binding as VFI_BIND returns it. -/
def bindImage (v : Nat) (b : Option Binding) : Nat :=
  match b with | some b => b.vfi + 2 ^ 8 + 2 ^ 9 * b.vppb | none => v
/-- vPPBs in use in the virtual switch of an upstream port. -/
def State.vppbs (s : State) (owner : Nat) (except : Nat) : List Nat :=
  s.vfi.bind.filterMap fun x => match x.2 with
    | some b => if b.role = 0 ∧ b.owner = owner ∧ x.1 ≠ except then some b.vppb else none
    | none => none
/-- The requests to an LD that are open when it leaves its instance are answered as for a lost port. -/
def State.ldUnbound (s : State) (p ld v : Nat) : State :=
  ((s.trackers (p / 16)).filter fun e => e.port == p && e.ld == ld && e.vfi == v).foldl (fun s e => s.forceAnswer (p / 16) e) s
/-- Store a binding; an UP port's is active from this boundary (R285). -/
def State.bindNow (s : State) (key : Nat) (b : Binding) : State :=
  let p := key / 17
  let s := match s.binding key with
    | some o => if key % 17 < 16 ∧ o.vfi ≠ b.vfi then s.ldUnbound p (key % 17) o.vfi else s
    | none => s
  let s := s.setBinding key (some b)
  if (s.port p).state = .up ∧ s.bindable p = true then s.setActive p true else s
/-- Remove a binding. -/
def State.unbindNow (s : State) (key : Nat) : State :=
  let p := key / 17
  let s := match s.binding key with
    | some o => if key % 17 < 16 then s.ldUnbound p (key % 17) o.vfi else s
    | none => s
  let s := s.setBinding key none
  if s.bindable p then s else s.setActive p false

/-- VFI_BIND. -/
def opVfiBind : OpSpec :=
  { code := 0x70, aligned := true
    absent := fun c s =>
      let owner := c.le 20 2
      !s.portExists (portAt c 16) || (c.byte 19 != 0 && (s.port (portAt c 16)).cfg.role == 0 && decide (owner < 1024) && !s.portExists owner)
    body := fun _ c s =>
      let v := vfiOf c
      let (p, c1) := c.ranged 16 2 0 1023
      let raw := c.byte 18
      let ld := if raw = 0xFF then 16 else min 15 raw
      let c2 := if raw ≠ 0xFF ∧ 15 < raw then some 18 else none
      let (on, c3) := c.ranged 19 1 0 1
      let owner := c.le 20 2
      let w := c.byte 22
      let cl := minClamp (vfiClamp c) (minClamp c1 (minClamp c2 c3))
      let key := 17 * p + ld
      let x := s.port p
      let role := x.cfg.role
      let held := s.binding key
      let near := if ld = 16 then (s.blockBindings p).filter (·.1 != key)
        else (s.blockBindings p).filter fun y => y.1 == 17 * p + 16
      let say (st : Nat) (b : Option Binding) (s : State) : Reply := { st := s, done := some (st, bindImage v b), clamp := cl }
      -- an LD of an UP multi-logical device changes at a boundary; an UP port does not (Table 11-4)
      let fixed := x.state == .up && !(ld != 16 && x.mld)
      let other := (held.toList ++ near.map (·.2)).find? fun b => b.vfi != v
      if on = 0 then
        match other, held with
        | some b, _ => say stDenied (some b) s
        | none, none => say stOk (near.head?.map (·.2)) s
        | none, some b => if fixed then say stBusy (some b) s else say stOk none (s.unbindNow key)
      else if ld ≠ 16 ∧ role ≠ 0 then .bad s stDenied cl
      else match other, held, near with
        | some b, _, _ => say stBusy (some b) s
        | none, none, y :: _ => say stOk (some y.2) s
        | none, _, _ =>
          let same := match held with
            | some b => role ≠ 0 || (b.owner == owner && (w == 0 || b.vppb == w))
            | none => false
          if same then say stOk held s
          else if held.isSome && fixed then say stBusy held s
          else if role ≠ 0 then
            let b : Binding := { vfi := v, owner := p, vppb := 0, role := role }
            say stOk (some b) (s.bindNow key b)
          else
            let up := decide (owner < 1024 ∧ w < 64) && (s.port owner).cfg.role == 1 && (match s.binding (17 * owner + 16) with | some b => b.vfi == v | none => false)
            let used := s.vppbs owner key
            let pick := if w ≠ 0 then (if used.contains w then none else some w)
              else ((List.range 63).map (· + 1)).find? fun n => !used.contains n
            if !up then .bad s stDenied cl
            else match pick with
              | none => .bad s stNoResource cl
              | some n =>
                let b : Binding := { vfi := v, owner := owner, vppb := n, role := 0 }
                say stOk (some b) (s.bindNow key b) }

/-- The instance whose virtual switch an upstream port presents now (R283). -/
def State.vcsOf (s : State) (p : Nat) : Option Nat :=
  match s.binding (17 * p + 16) with
  | some b => if b.role = 1 ∧ (s.port p).state = .up ∧ (s.port p).active = true then some b.vfi else none
  | none => none
/-- The upstream ports bound to an instance that are UP with active bindings. -/
def State.hostsOfVfi (s : State) (v : Nat) : List Nat :=
  (s.prt.ports.filter fun x => s.vcsOf x.1 == some v).map (·.1)

/-! ### Memory windows (R287 to R289) -/

/-- The window that bytes 32 to 63 give, each field at its nearest legal value (R288, R228). -/
def State.winLegal (s : State) (v : Nat) : Win :=
  let w := Win.of v
  let n := clampNat 28 40 w.log2
  let k := if w.kind = 0 then 1 else w.kind
  { w with
    log2 := n, kind := k, port := min 1023 w.port, dpa := alignDown n w.dpa, fma := alignDown n (min w.fma (2 ^ 56 - 2 ^ n))
    target := if k = 3 then s.areaBase n (2 ^ n) w.target else w.target }
/-- The lowest descriptor byte that `winLegal` changed. -/
def winClamp (v : Nat) (w : Win) : Option Nat :=
  let x := Win.of v
  if w.kind ≠ x.kind then some 33 else if w.log2 ≠ x.log2 then some 34 else if w.port ≠ x.port then some 36
  else if w.dpa ≠ x.dpa then some 40 else if w.fma ≠ x.fma then some 48 else if w.target ≠ x.target then some 56 else none
/-- Two ranges of sizes 2^m and 2^n overlap. -/
def rangesMeet (a m b n : Nat) : Bool := decide (a < b + 2 ^ n) && decide (b < a + 2 ^ m)
/-- Window `w` would overlap another valid window of its instance. -/
def State.winOverlap (s : State) (v i : Nat) (w : Win) : Bool :=
  (s.wins v).any fun x => x.1 != i && (rangesMeet w.dpa w.log2 x.2.dpa x.2.log2 || rangesMeet w.fma w.log2 x.2.fma x.2.log2)
/-- A KIND 2 target is a downstream port with the LD bound to the instance (R288). -/
def State.winTarget (s : State) (v : Nat) (w : Win) : Bool :=
  let mine (b : Option Binding) : Bool := match b with | some b => b.vfi == v && b.role == 0 | none => false
  (s.port w.port).cfg.role == 0 && (mine (s.binding (17 * w.port + w.ld)) || mine (s.binding (17 * w.port + 16)))
/-- Window `i` is the window of bits `v`; none of its extents is accepted. -/
def State.putWindow (s : State) (v i bits : Nat) : State :=
  s.modInst v fun x => { x with windows := tset 0 x.windows i (BitVec.ofNat 256 bits), accepted := x.accepted.filter (·.1 != i) }
/-- Window `i` of an instance as it stands. -/
def State.winNow (s : State) (v i : Nat) : Win := Win.of (tget 0 (s.inst v).windows i).toNat
/-- A host may be offered a window: HDM-DB capacity needs 256-byte flits (R79). -/
def State.offered (s : State) (w : Win) (p : Nat) : Bool := w.kind != 1 || decide (2 ≤ (s.port p).mode)
/-- Offer a dynamic-capacity window to the instance's hosts, or ask those that accepted it to release it (R289). -/
def State.offer (s : State) (v i : Nat) (add : Bool) : State :=
  s.emit (.capacity v i add (if add then (s.hostsOfVfi v).filter (s.offered (s.winNow v i))
    else ((s.inst v).accepted.filter (·.1 == i)).map (·.2)))
/-- Remove a window; a dynamic-capacity extent that hosts accepted is released first (R289). -/
def State.winRemove (s : State) (v i : Nat) (tk : Ticket) : Reply :=
  let x := s.inst v
  if (s.winNow v i).dc && (s.winNow v i).valid && x.accepted.any (·.1 == i) then
    let s := s.offer v i false
    .later (s.modInst v fun x => { x with releasing := x.releasing ++ [(i, s.clock + ms16 10000, tk)] })
  else .ok (s.putWindow v i 0) i

/-- VFI_WINDOW_SET. -/
def opVfiWindowSet : OpSpec :=
  { code := 0x71, aligned := true
    absent := fun c s =>
      let w := Win.of (c.le 32 32)
      w.valid && ((w.kind == 3 && !s.isF) || (w.kind == 2 && !s.portExists (min 1023 w.port)))
    body := fun tk c s =>
      let v := vfiOf c
      let (i, c1) := c.ranged 16 1 0 31
      let cl := minClamp (vfiClamp c) c1
      let w := s.winLegal (c.le 32 32)
      if (s.inst v).releasing.any (·.1 == i) then .bad s stBusy cl
      else if !w.valid then
        let r := s.winRemove v i { tk with clamp := minClamp tk.clamp cl }
        { r with clamp := cl }
      else
        let cl := minClamp cl (winClamp (c.le 32 32) w)
        if w.kind = 2 ∧ s.winTarget v w = false then .bad s stDenied cl
        else if s.winOverlap v i w then .bad s stNoResource cl
        else
          let old := s.winNow v i
          let s := if old.valid && old.dc && (s.inst v).accepted.any (·.1 == i) then s.offer v i false else s
          let s := s.putWindow v i w.image
          .ok (if w.dc then s.offer v i true else s) i cl }

/-- DC_EXTENT_ACCEPTED. -/
def State.extentAccepted (s : State) (v i p : Nat) : State :=
  let w := s.winNow v i
  if w.valid && w.dc && s.vcsOf p == some v && s.offered w p && !(s.inst v).releasing.any (·.1 == i) && !(s.inst v).accepted.contains (i, p) then
    s.modInst v fun x => { x with accepted := x.accepted ++ [(i, p)] }
  else s
/-- A release ends: the window goes and its command completes. -/
def State.releaseEnd (s : State) (v i status : Nat) : State :=
  match (s.inst v).releasing.find? (·.1 == i) with
  | none => s
  | some r =>
    let s := (s.putWindow v i 0).modInst v fun x => { x with releasing := x.releasing.erase r }
    s.complete r.2.2 status (if status = stOk then i else 0)
/-- DC_EXTENT_RELEASED. -/
def State.extentReleased (s : State) (v i p : Nat) : State :=
  let s := s.modInst v fun x => { x with accepted := x.accepted.erase (i, p) }
  if (s.inst v).accepted.any (·.1 == i) then s else s.releaseEnd v i stOk
/-- DC_RELEASE_TIMEOUT: 10 s after the boundary. -/
def State.releaseTimeout (s : State) (v i : Nat) : State :=
  match (s.inst v).releasing.find? (·.1 == i) with
  | some r => if r.2.1 ≤ s.clock then s.releaseEnd v i stTimeout else s
  | none => s

/-! ### Quotas, weights, colours, counter windows (R290 to R294, R301) -/

/-- VFI_QUOTA_SET. -/
def opVfiQuotaSet : OpSpec :=
  { code := 0x72, aligned := true
    body := fun _ c s =>
      let v := vfiOf c
      let m := c.byte 16
      let (a, c1) := c.ranged 18 2 0 984
      let q := c.le 20 4
      let (n, c2) := c.ranged 24 2 0 4096
      let (r, c3) := c.ranged 28 4 0 262143
      let on (i : Nat) (cl : Option Nat) : Option Nat := if bitOf m i then cl else none
      let s := s.modInst v fun x => { x with
        bufQuota := if bitOf m 0 then a else x.bufQuota, dirQuota := if bitOf m 1 then q else x.dirQuota
        streamsMax := if bitOf m 2 then n else x.streamsMax, rateMax := if bitOf m 3 then r else x.rateMax }
      let s := s.swc.tiles.foldl (fun s x => s.noteQuota x.1 v) s
      .ok s 0 (minClamp (vfiClamp c) (minClamp (on 0 c1) (minClamp (on 2 c2) (on 3 c3)))) }

/-- VFI_WEIGHT_SET. -/
def opVfiWeightSet : OpSpec :=
  { code := 0x73, aligned := true
    absent := fun c s => c.le 16 2 != 0xFFFF && !s.portExists (portAt c 16)
    body := fun _ c s =>
      let v := vfiOf c
      let x := s.inst v
      let w := c.byte 18
      if c.le 16 2 = 0xFFFF then
        let n := max 1 w
        .ok (s.setInst v { x with weight := n }) n (minClamp (vfiClamp c) (if w = 0 then some 18 else none))
      else
        let (p, c1) := c.ranged 16 2 0 1023
        let cl := minClamp (vfiClamp c) c1
        let has := x.overrides.any (·.1 == p)
        if w = 0 then .ok (s.setInst v { x with overrides := x.overrides.filter (·.1 != p) }) x.weight cl
        else if has then
          .ok (s.setInst v { x with overrides := x.overrides.map fun o => if o.1 = p then (p, w) else o }) w cl
        else if 16 ≤ x.overrides.length then .bad s stNoResource cl
        else .ok (s.setInst v { x with overrides := x.overrides ++ [(p, w)] }) w cl }

/-- VFI_COLOUR_SET: a staging write; bit 0 stays 0 (R294). -/
def opVfiColourSet : OpSpec :=
  { code := 0x74, refuse := fun c s => stagingBusy c s
    body := fun _ c s =>
      let m := BitVec.ofNat 256 (c.le 24 32 / 2 * 2)
      .ok (s.stage fun b => { b with colours := tset (BitVec.allOnes 256 <<< 1) b.colours (vfiOf c) m }) 0 (vfiClamp c) }

/-- VFI_CNT_MAP. -/
def opVfiCntMap : OpSpec :=
  { code := 0x75, aligned := true
    body := fun _ c s =>
      let (k, c1) := c.ranged 16 1 0 31
      let raw := c.le 18 2
      let i := if raw = 0xFFFF then raw else min (pcnCount - 1) raw
      let s := s.modInst (vfiOf c) fun x =>
        { x with cntMap := tset none x.cntMap k (if raw = 0xFFFF then none else some i) }
      .ok s i (minClamp (vfiClamp c) (minClamp c1 (if i = raw then none else some 18))) }

/-! ### The mailbox (R297 to R300) -/

/-- A message (Table 11-5). -/
def mailBytes (seq port stamp : Nat) (body : List Byte) : List Byte :=
  leBytes 2 body.length ++ leBytes 2 seq ++ leBytes 2 port ++ [0, 0] ++ leBytes 8 stamp ++ body

/-- VFI_MAIL_SEND. -/
def opVfiMailSend : OpSpec :=
  { code := 0x76, absent := fun c s => c.le 24 2 != 0xFFFF && !s.portExists (min 1023 (c.le 24 2))
    body := fun _ c s =>
      let v := vfiOf c
      let x := s.inst v
      let raw := c.le 24 2
      let p := if raw = 0xFFFF then raw else min 1023 raw
      let cl := minClamp (vfiClamp c) (if p = raw then none else some 24)
      if x.outPending then .bad s stBusy cl
      else
        let at' := c.le 16 8
        let body := s.mgrRead (at' + 16) (min 1008 (leNat (s.mgrRead at' 2)))
        let seq := (x.outSeq + 1) % 65536
        let who := (s.hostsOfVfi v).filter fun q => p == 0xFFFF || q == p
        let s := s.setInst v { x with mailOut := mailBytes seq p s.now64 body, outSeq := seq, outPending := who != [], outWait := who }
        let s := who.foldl (fun s q => s.emit (.mailIrq v q)) s
        let s := if who = [] then s.event 0x71 90 s.now64 [(1, v), (2, seq)] else s
        .ok s seq cl }

/-- VFI_MAIL_READ. -/
def opVfiMailRead : OpSpec :=
  { code := 0x77
    body := fun _ c s =>
      let v := vfiOf c
      let x := s.inst v
      if !x.inFull then .ok s 0 (vfiClamp c)
      else .ok ((s.mgrWrite (c.le 16 8) (fitTo 1024 x.mailIn)).setInst v { x with inFull := false }) (leNat (x.mailIn.take 2)) (vfiClamp c) }

/-- VFI_MAIL_CFG. -/
def opVfiMailCfg : OpSpec :=
  { code := 0x7A
    body := fun _ c s =>
      .ok (s.modInst (vfiOf c) fun x => { x with vec := c.byte 16, irqEn := bitOf (c.byte 17) 0, tenantEn := bitOf (c.byte 17) 1 }) 0
        (vfiClamp c) }

/-- The answer to a tenant's CCI command, or what refuses it (R298). -/
def State.tenant (s : State) (p op : Nat) (f : Nat → VfiSt → State) : State :=
  let reply (ret : CciRet) : State := s.emit (.cciReply (Fin.ofNat 1024 p) op ret [])
  match s.vcsOf p with
  | none => s
  | some v =>
    let x := s.inst v
    if !x.tenantEn then reply .unsupported else if x.resetting then reply .busy else f v x

/-- TENANT_MESSAGE_SEND. -/
def State.tenantSend (s : State) (p : Nat) (body : List Byte) : State :=
  s.tenant p 0xC100 fun v x =>
    if x.inFull then s.emit (.cciReply (Fin.ofNat 1024 p) 0xC100 .busy [])
    else
      let seq := (x.inSeq + 1) % 65536
      let s := s.setInst v { x with mailIn := mailBytes seq p s.now64 (body.take 1008), inFull := true, inSeq := seq }
      let s := s.event 0x70 90 s.now64 [(1, v), (2, seq)]
      let s := if x.irqEn then s.sendVector x.vec else s
      s.emit (.cciReply (Fin.ofNat 1024 p) 0xC100 .success (leBytes 2 seq))
/-- TENANT_MESSAGE_GET. -/
def State.tenantGet (s : State) (p : Nat) : State :=
  s.tenant p 0xC101 fun v x =>
    if x.outPending && x.outWait.contains p then
      let w := x.outWait.erase p
      let s := s.setInst v { x with outWait := w, outPending := w != [] }
      let s := if w = [] then s.event 0x71 90 s.now64 [(1, v), (2, x.outSeq)] else s
      s.emit (.cciReply (Fin.ofNat 1024 p) 0xC101 .success x.mailOut)
    else s.emit (.cciReply (Fin.ofNat 1024 p) 0xC101 .success (mailBytes 0 0 0 []))
/-- What Tenant Counter Read returns: value, T64, flags (R301, R360). -/
def State.tenantValue (s : State) (v : Nat) (i : Option Nat) : Nat × Nat × Nat :=
  match i with
  | none => (0, s.now64, 1)
  | some i =>
    let x := s.counter i
    if s.counterHere i && x.vfiEn && x.vfi == v then
      if s.pcn.frozen then (x.image, t64Ns s.pcn.freezeFt, 0) else (x.value, s.now64, 0)
    else (0, s.now64, 2)
/-- TENANT_COUNTER_READ. -/
def State.tenantCounter (s : State) (p k : Nat) : State :=
  s.tenant p 0xC102 fun v x =>
    let (n, t, f) := s.tenantValue v (tget none x.cntMap k)
    s.emit (.cciReply (Fin.ofNat 1024 p) 0xC102 .success (leBytes 8 n ++ leBytes 8 t ++ leBytes 1 f))

/-! ### Instance reset (R302 to R305) -/

/-- VFI_RESET. -/
def State.vfiReset (s : State) (v : Nat) (hot : Bool) (tk : Ticket) : State :=
  let s := s.modInst v fun x => { x with
    gen := (x.gen + 1) % 256, resetting := true, hot := hot, stale := false, resetAt := s.clock, resetTicket := some tk
    resetForced := 0, resetZero := false, forcedDone := false, mailIn := [], inFull := false, mailOut := []
    outPending := false, outWait := [] }
  let s := s.abortStreams v
  let s := s.home.places.foldl (fun s x => match s.place x.1 with
    | some p => if p.moving && p.moveVfi == v && p.stopping.isNone then
        (s.setPlace x.1 (some { p with stopping := some stAborted })).settleMove x.1 else s
    | none => s) s
  if hot then
    let hosts := (s.prt.ports.filter fun x => x.2.state == .up && x.2.cfg.role == 1
      && (match s.binding (17 * x.1 + 16) with | some b => b.vfi == v | none => false)).map (·.1)
    hosts.foldl (fun s p => (s.emit (.hotReset (Fin.ofNat 1024 p))).downToDetect p) s
  else s
/-- VFI_RESET, the opcode. -/
def opVfiReset : OpSpec :=
  { code := 0x78
    body := fun tk c s =>
      let v := vfiOf c
      if (s.inst v).resetting then .bad s stBusy (vfiClamp c)
      else .later (s.vfiReset v (bitOf (c.byte 16) 0) { tk with clamp := minClamp tk.clamp (vfiClamp c) }) }

/-- An instance at a boundary: a reset whose zero sum was latched at an earlier one completes; the open
work is latched (R304, R305). -/
def State.vfiBoundary (s : State) (v : Nat) : State :=
  let x := s.inst v
  let n := s.openWork v
  if x.resetting && x.resetZero then
    let s := s.setInst v { x with resetting := false, hot := false, resetTicket := none, outstanding := n }
    match x.resetTicket with | some tk => s.complete tk stOk x.resetForced | none => s
  else s.setInst v { x with outstanding := n, resetZero := x.resetting && n == 0 }

/-! ### Query and pages (Tables 11-8 to 11-10) -/

/-- Ports bound to an instance. -/
def State.portsBound (s : State) (v : Nat) : Nat :=
  ((s.vfi.bind.filterMap fun x => match x.2 with | some b => if b.vfi = v then some (x.1 / 17) else none | none => none).dedup).length
/-- Service regions of an instance in the active bank (R294). -/
def State.regionsOwned (s : State) (v : Nat) : Nat :=
  (s.acu.active.regions.filter fun x => bitOf x.2.toNat 0 && !bitOf x.2.toNat 4 && bitsOf x.2.toNat 15 8 == v).length
/-- VFI_STATUS. -/
def State.vfiStatus (s : State) (v : Nat) : Nat :=
  let x := s.inst v
  bit x.resetting + 2 * bit x.hot + 4 * s.portsBound v + 2 ^ 16 * min 2047 (s.regionsOwned v) + 2 ^ 28 * bit x.stale
/-- Directory entries charged to an instance. -/
def State.dirCharged (s : State) (v : Nat) : Nat := s.home.slices.foldl (fun n x => n + tget 0 x.2.charges v) 0
/-- VFI_QUERY. -/
def opVfiQuery : OpSpec :=
  { code := 0x79
    absent := fun c s => match min 4 (c.byte 16) with
      | 1 => !s.portExists (portAt c 18)
      | 2 => !s.tileExists (min 63 (c.le 18 2))
      | _ => false
    body := fun _ c s =>
      let v := vfiOf c
      let (k, c1) := c.ranged 16 1 0 4
      let top := if k = 2 then 63 else 1023
      let i := min top (c.le 18 2)
      let cl := minClamp (vfiClamp c) (minClamp c1 (if (k = 1 ∨ k = 2) ∧ i ≠ c.le 18 2 then some 18 else none))
      .ok s (match k with
        | 0 => s.vfiStatus v
        | 1 => match s.binding (17 * i + 16) with | some b => bindImage v (some b) | none => 0
        | 2 => (s.swcTile i).charged v
        | 3 => min (2 ^ 32 - 1) (s.dirCharged v)
        | _ => min (2 ^ 32 - 1) (s.inst v).outstanding) cl }

/-- Word `k` of a byte list. -/
def wordOf (b : List Byte) (k : Nat) : Nat := leNat ((b.drop (4 * k)).take 4)
/-- A read of instance `v`'s page. -/
def State.vfiRead (s : State) (v o : Nat) : Nat :=
  let x := s.inst v
  if 0xC00 ≤ o then wordOf x.mailOut ((o - 0xC00) / 4)
  else if 0x800 ≤ o then wordOf x.mailIn ((o - 0x800) / 4)
  else if 0x400 ≤ o then bitsOf (tget 0 x.windows ((o - 0x400) / 0x20)).toNat (32 * (o % 0x20 / 4) + 31) (32 * (o % 0x20 / 4))
  else if 0x180 ≤ o ∧ o < 0x1C0 then
    match x.overrides[(o - 0x180) / 4]? with | some y => y.1 + 2 ^ 16 * y.2 + 2 ^ 31 | none => 0
  else if 0x100 ≤ o ∧ o < 0x180 then
    match tget none x.cntMap ((o - 0x100) / 4) with | some i => i + 2 ^ 15 | none => 0
  else if 0x40 ≤ o ∧ o < 0x60 then word256 (s.acu.active.colourMask v) ((o - 0x40) / 4)
  else match o with
    | 0x000 => s.vfiStatus v
    | 0x004 => x.gen
    | 0x008 => x.outstanding
    | 0x00C => x.bufQuota
    | 0x010 => x.dirQuota
    | 0x014 => x.streamsMax
    | 0x018 => x.rateMax
    | 0x01C => s.streamsOf v
    | 0x020 => s.rateSum 4096 (·.vfi == v)
    | 0x024 => x.weight
    | 0x028 => x.vec + 2 ^ 8 * bit x.irqEn + 2 ^ 9 * bit x.tenantEn
    | 0x02C => bit x.inFull + 2 * bit x.outPending + 2 ^ 16 * x.inSeq
    | _ => 0
/-- A write to instance `v`'s page. -/
def State.vfiWrite (s : State) (v o w : Nat) : State :=
  if o = 0x028 then s.sidePush 0x7A (sideCmd v 0 [(16, 1, w % 256), (17, 1, bitsOf w 9 8)]) else s

/-! ### The commands -/

/-- VFI_BIND (R296). -/
def execVfiBind (c : Cmd) (s : State) : Answer := act s (opVfiBind.submit c)
/-- VFI_WINDOW_SET (R288). -/
def execVfiWindowSet (c : Cmd) (s : State) : Answer := act s (opVfiWindowSet.submit c)
/-- VFI_QUOTA_SET (R282). -/
def execVfiQuotaSet (c : Cmd) (s : State) : Answer := act s (opVfiQuotaSet.submit c)
/-- VFI_WEIGHT_SET (R293). -/
def execVfiWeightSet (c : Cmd) (s : State) : Answer := act s (opVfiWeightSet.submit c)
/-- VFI_COLOUR_SET (R294). -/
def execVfiColourSet (c : Cmd) (s : State) : Answer := act s (opVfiColourSet.submit c)
/-- VFI_CNT_MAP (R301). -/
def execVfiCntMap (c : Cmd) (s : State) : Answer := act s (opVfiCntMap.submit c)
/-- VFI_MAIL_SEND (R299). -/
def execVfiMailSend (c : Cmd) (s : State) : Answer := act s (opVfiMailSend.submit c)
/-- VFI_MAIL_READ (R299). -/
def execVfiMailRead (c : Cmd) (s : State) : Answer := act s (opVfiMailRead.submit c)
/-- VFI_RESET (R302). -/
def execVfiReset (c : Cmd) (s : State) : Answer := act s (opVfiReset.submit c)
/-- VFI_QUERY (R306). -/
def execVfiQuery (c : Cmd) (s : State) : Answer := act s (opVfiQuery.submit c)
/-- VFI_MAIL_CFG (R306). -/
def execVfiMailCfg (c : Cmd) (s : State) : Answer := act s (opVfiMailCfg.submit c)
/-- DC_EXTENT_ACCEPTED (R289). -/
def execDcExtentAccepted (vfi : Vfi) (window : Fin 32) (port : Port) (s : State) : Answer :=
  act s fun s => s.extentAccepted vfi window port
/-- DC_EXTENT_RELEASED (R289). -/
def execDcExtentReleased (vfi : Vfi) (window : Fin 32) (port : Port) (s : State) : Answer :=
  act s fun s => s.extentReleased vfi window port
/-- DC_RELEASE_TIMEOUT (R289). -/
def execDcReleaseTimeout (vfi : Vfi) (window : Fin 32) (s : State) : Answer := act s fun s => s.releaseTimeout vfi window
/-- TENANT_MESSAGE_SEND (R298). -/
def execTenantMessageSend (port : Port) (body : List Byte) (s : State) : Answer := act s fun s => s.tenantSend port body
/-- TENANT_MESSAGE_GET (R299). -/
def execTenantMessageGet (port : Port) (s : State) : Answer := act s fun s => s.tenantGet port
/-- TENANT_COUNTER_READ (R301). -/
def execTenantCounterRead (port : Port) (slot : Fin 32) (s : State) : Answer := act s fun s => s.tenantCounter port slot

end Sys2Proof.Machine
end

