-- ==== Sys2Proof/Machine/Mctp.lean ====
section
/-!
DEFINITION. Requests that the module answers as a CXL and SPDM responder: the FM API over MCTP (R334, R335),
the switch mailbox of each virtual switch (R336), SPDM (R418), and what an MSC firmware restart does
to them (R415).
-/

namespace Sys2Proof.Machine

/-! ### Who serves a request, and when (R334, R415) -/

/-- The DOE mailbox that a request came through; none: over MCTP. -/
def MscReq.doe : MscReq → Option Port
  | .spdm (.doe p) _ _ => some p
  | _ => none
/-- Put a request aside until the MSC returns. -/
def State.holdReq (s : State) (q : MscReq) : State := { s with fmp := { s.fmp with heldReqs := s.fmp.heldReqs ++ [q] } }
/-- MCTP requests held; those in DOE mailboxes are not counted. -/
def State.mctpHeld (s : State) : Nat := (s.fmp.heldReqs.filter fun q => q.doe.isNone).length
/-- The transport of a request is there: the FMP answers, or the upstream port is UP. -/
def State.reachable (s : State) (q : MscReq) : Bool :=
  match q.doe with
  | none => s.fmpAlive
  | some p => (s.port p).cfg.role == 1 && (s.port p).state == .up
/-- A request that arrives during a restart has a place: 8 over MCTP, one in each DOE mailbox. -/
def State.canHold (s : State) (q : MscReq) : Bool :=
  match q.doe with
  | none => decide (s.mctpHeld < 8)
  | some p => !s.fmp.heldReqs.any fun r => r.doe == some p

/-! ### FM API over MCTP (Table 12-15) -/

/-- An answer to the FM. -/
def State.fmSay (s : State) (op : Nat) (ret : CciRet) (body : List Byte) : State := s.emit (.fmReply op ret body)
/-- FT + FTU_EPOCH (R23). -/
def State.timestamp (s : State) : Nat := (s.ft + s.ftu.epochLo.toNat + s.ftu.epochHi.toNat * 2 ^ 32) % 2 ^ 64
/-- Identity from the GLB window: vendor, part, capabilities, serial number (R346). -/
def State.identityBody (s : State) : List Byte :=
  Config.cciBody 0x0001 [s.glbRead 0x0, s.glbRead 0x4, s.glbRead 0x10, s.glbRead 0x18, s.glbRead 0x1C]
/-- The module port of an FM API port ID (R335). -/
def State.fmPort (s : State) (p : Byte) : Nat := 256 * s.fmp.portPage + p.toNat
/-- Bit masks of the current page: the ports present and those enabled. -/
def State.pageMasks (s : State) : Nat × Nat :=
  (List.range 256).foldl (fun m i =>
    let p := 256 * s.fmp.portPage + i
    if s.portExists p then (m.1 + 2 ^ i, m.2 + 2 ^ i * bit (s.port p).cfg.en) else m) (0, 0)
/-- Set Timestamp: FTU_EPOCH := value − FT (R23). -/
def State.setStamp (s : State) (v : BitVec 64) : State :=
  let e := v - BitVec.ofNat 64 s.ft
  { s with ftu := { s.ftu with epochLo := BitVec.ofNat 32 e.toNat, epochHi := BitVec.ofNat 32 (e.toNat / 2 ^ 32) } }
/-- Get Physical Port State. -/
def State.portStateReply (s : State) (fp : Byte) : State :=
  let p := s.fmPort fp
  if s.portExists p then
    s.fmSay 0x5101 .success (Config.cciBody 0x5101 [p, (s.port p).status, (s.port p).cfg.image])
  else s.fmSay 0x5101 .invalidInput []
/-- An action requested over MCTP enters the side entry (R317). -/
def State.mctpPush (s : State) (op : Nat) (c : Cmd) (data : List Byte) : State :=
  { s with cmd := { s.cmd with side := s.cmd.side ++ [{ op := op, cmd := c, mctp := true, data := data }] } }
/-- Physical Port Control: Reset PPB acts on a downstream port; PERST has no pin here. -/
def State.portControl (s : State) (fp : Byte) (a : PpbAction) : State :=
  let p := s.fmPort fp
  match a with
  | .resetPpb =>
    if s.portExists p && (s.port p).cfg.en && (s.port p).cfg.role == 0 then
      (s.mctpPush 0x19 (sideCmd p 0 []) []).fmSay 0x5102 .success []
    else s.fmSay 0x5102 .invalidInput []
  | _ => s.fmSay 0x5102 .unsupported []
/-- Port Page Select: pages 2 and 3 exist with the upper tiles only. -/
def State.pageSelect (s : State) (page : Byte) : State :=
  if 3 < page.toNat ∨ s.portExists (256 * page.toNat) = false then s.fmSay 0xC110 .invalidInput []
  else ({ s with fmp := { s.fmp with portPage := page.toNat } }).fmSay 0xC110 .success []
/-- An MCTP control message: one that assigns the EID resets the port page (R335). -/
def State.mctpControl (s : State) (eid : Option Byte) : State :=
  match eid with
  | some e => { s with fmp := { s.fmp with eid := some e, portPage := 0 } }
  | none => s
/-- The tunnelled request of the FM, when the side entry is served (R93, R335). -/
def State.fmTunnel (s : State) (x : SideCmd) : State :=
  let p := x.cmd.target
  let tk := x.cmd.ticket 0x16 s.ft
  if !s.portExists p || !(s.port p).cfg.en then s.fmSay 0x5300 .invalidInput []
  else if !s.glb.eqLoaded then s.fmSay 0x5300 .retry []
  else if (s.port p).tunnel.isSome then s.fmSay 0x5300 .busy []
  else s.openTunnel p tk true (x.cmd.le 40 2) 0 4096 x.data

/-! ### The switch mailbox (Table 12-16) -/

/-- An answer on the mailbox of the virtual switch that port `p` presents. -/
def State.vcsSay (s : State) (p : Port) (op : Nat) (body : State → Vfi → List Byte) : State :=
  match s.vcsOf p with
  | some v => s.emit (.cciReply p op .success (body s (Fin.ofNat 256 v)))
  | none => s
/-- The bindings of an upstream port's virtual switch: key and vPPB. -/
def State.vcsBindings (s : State) (p : Nat) : List (Nat × Nat) :=
  s.vfi.bind.filterMap fun x => match x.2 with
    | some b => if b.role = 0 ∧ b.owner = p then some (x.1, b.vppb) else none
    | none => none
/-- What Identify Switch Device and Get Virtual CXL Switch Info report: the upstream port, then each vPPB. -/
def State.vcsFields (s : State) (p : Nat) : List Nat := p :: (s.vcsBindings p).flatMap fun x => [x.1, x.2]

/-! ### SPDM (R418) -/

/-- SPDM response codes of the standard (PRESUMED). -/
abbrev spVersion : Nat := 0x04
abbrev spCapabilities : Nat := 0x61
abbrev spAlgorithms : Nat := 0x63
abbrev spDigests : Nat := 0x01
abbrev spCertificate : Nat := 0x02
abbrev spChallengeAuth : Nat := 0x03
abbrev spMeasurements : Nat := 0x60
abbrev spKeyExchangeRsp : Nat := 0x64
abbrev spFinishRsp : Nat := 0x65
abbrev spEndSessionAck : Nat := 0x6C

/-- An SPDM response whose bytes the standard gives. -/
def State.spdmSay (s : State) (via : SpdmVia) (code : Nat) (request : List Byte) : State :=
  s.emit (.spdm via code (Config.spdmBody code request))
/-- A signed response: the Alias key signs it (R417, R418). -/
def State.spdmSigned (s : State) (via : SpdmVia) (code : Nat) (request more : List Byte) : State :=
  let body := Config.spdmBody code request ++ more
  s.emit (.spdm via code (body ++ Config.aliasSign (Config.sha3 body)))
/-- The digest of the certificate chain in slot 0. -/
def chainDigest : List Byte := Config.sha3 (Config.certificate 0)
/-- KEY_EXCHANGE opens a session on K1024-F. -/
def State.keyExchange (s : State) (via : SpdmVia) (request : List Byte) : State :=
  if s.isF then
    ({ s with msc := { s.msc with sessions := via :: s.msc.sessions.erase via } }).spdmSigned via spKeyExchangeRsp request []
  else s.emit (.spdmError via)
/-- FINISH needs an open session. -/
def State.finishSession (s : State) (via : SpdmVia) (request : List Byte) : State :=
  if s.isF && s.msc.sessions.contains via then s.spdmSay via spFinishRsp request else s.emit (.spdmError via)
/-- END_SESSION closes one. -/
def State.endSession (s : State) (via : SpdmVia) (request : List Byte) : State :=
  if s.isF && s.msc.sessions.contains via then
    ({ s with msc := { s.msc with sessions := s.msc.sessions.erase via } }).spdmSay via spEndSessionAck request
  else s.emit (.spdmError via)

/-! ### Serving a request -/

/-- What the MSC does with an SPDM request that it serves (R418). -/
def State.serveSpdm (s : State) (v : SpdmVia) (k : SpdmReq) (r : List Byte) : State :=
  match k with
  | .version => s.spdmSay v spVersion r
  | .capabilities => s.spdmSay v spCapabilities r
  | .algorithms => s.spdmSay v spAlgorithms r
  | .digests => s.emit (.spdm v spDigests (Config.spdmBody spDigests r ++ chainDigest))
  | .certificate => s.emit (.spdm v spCertificate (Config.spdmBody spCertificate (r ++ Config.certificate 0)))
  | .challenge => s.spdmSigned v spChallengeAuth r (chainDigest ++ s.measurements)
  | .measurements => s.spdmSigned v spMeasurements r s.measurements
  | .keyExchange => s.keyExchange v r
  | .finish => s.finishSession v r
  | .endSession => s.endSession v r

/-- What the MSC does with a request that it serves (Table 12-15). -/
def State.serve (s : State) : MscReq → State
  | .identify => s.fmSay 0x0001 .success s.identityBody
  | .backgroundStatus => s.fmSay 0x0002 .success (Config.cciBody 0x0002 [0])
  | .getLimit => s.fmSay 0x0003 .success (Config.cciBody 0x0003 [s.fmp.msgLimit])
  | .setLimit n =>
    let m := clampNat 256 4096 n
    ({ s with fmp := { s.fmp with msgLimit := m } }).fmSay 0x0004 .success (Config.cciBody 0x0004 [m])
  | .getTimestamp => s.fmSay 0x0300 .success (Config.cciBody 0x0300 [s.timestamp])
  | .setTimestamp v => (s.setStamp v).fmSay 0x0301 .success []
  | .switchDevice =>
    s.fmSay 0x5100 .success (Config.cciBody 0x5100 [s.fmp.portPage, s.pageMasks.1, s.pageMasks.2, 0])
  | .portState p => s.portStateReply p
  | .portControl p a => s.portControl p a
  | .tunnel p ld req => s.mctpPush 0x16 (sideCmd (s.fmPort p) 0 [(40, 2, ld.toNat)]) req
  | .page n => s.pageSelect n
  | .control e => s.mctpControl e
  | .spdm v k r => s.serveSpdm v k r

/-- A request arrives: served while the MSC runs, held during its restart if it has a place (R334,
R415), and otherwise discarded. -/
def State.request (s : State) (q : MscReq) : State :=
  if !s.reachable q then s
  else match s.msc.state with
    | .running => s.serve q
    | .restarting => if s.canHold q then s.holdReq q else s
    | _ => s

/-- MSC_RETURNED: the restart ends; the requests that waited are answered in order, if firmware runs
(R334, R415). -/
def State.mscReturned (s : State) : State :=
  if s.msc.state ≠ .restarting then s
  else
    let s := s.mscReturn
    let q := s.fmp.heldReqs
    q.foldl (fun s q => s.request q) { s with fmp := { s.fmp with heldReqs := [] } }

/-! ### The commands -/

/-- FM_IDENTIFY (R335). -/
def execFmIdentify (s : State) : Answer := act s fun s => s.request .identify
/-- FM_BACKGROUND_OPERATION_STATUS (R335). -/
def execFmBackgroundOperationStatus (s : State) : Answer := act s fun s => s.request .backgroundStatus
/-- GET_RESPONSE_MESSAGE_LIMIT (R335). -/
def execGetResponseMessageLimit (s : State) : Answer := act s fun s => s.request .getLimit
/-- SET_RESPONSE_MESSAGE_LIMIT (R335). -/
def execSetResponseMessageLimit (bytes : Nat) (s : State) : Answer := act s fun s => s.request (.setLimit bytes)
/-- GET_TIMESTAMP (R335). -/
def execGetTimestamp (s : State) : Answer := act s fun s => s.request .getTimestamp
/-- SET_TIMESTAMP (R23, R335). -/
def execSetTimestamp (value : BitVec 64) (s : State) : Answer := act s fun s => s.request (.setTimestamp value)
/-- IDENTIFY_SWITCH_DEVICE (R335). -/
def execIdentifySwitchDevice (s : State) : Answer := act s fun s => s.request .switchDevice
/-- GET_PHYSICAL_PORT_STATE (R335). -/
def execGetPhysicalPortState (fmPort : Byte) (s : State) : Answer := act s fun s => s.request (.portState fmPort)
/-- PHYSICAL_PORT_CONTROL (R335). -/
def execPhysicalPortControl (fmPort : Byte) (action : PpbAction) (s : State) : Answer := act s fun s => s.request (.portControl fmPort action)
/-- TUNNEL_MANAGEMENT_COMMAND (R335). -/
def execTunnelManagementCommand (fmPort : Byte) (ld : BitVec 16) (request : List Byte) (s : State) : Answer := act s fun s => s.request (.tunnel fmPort ld request)
/-- PORT_PAGE_SELECT (R335). -/
def execPortPageSelect (page : Byte) (s : State) : Answer := act s fun s => s.request (.page page)
/-- MCTP_CONTROL_MESSAGE (R334). -/
def execMctpControlMessage (eid : Option Byte) (s : State) : Answer := act s fun s => s.request (.control eid)
/-- MSC_RETURNED (R415). -/
def execMscReturned (s : State) : Answer := act s State.mscReturned

/-- CCI_IDENTIFY (R336). -/
def execCciIdentify (port : Port) (s : State) : Answer := act s fun s => s.vcsSay port 0x0001 fun s _ => s.identityBody
/-- CCI_BACKGROUND_OPERATION_STATUS (R336). -/
def execCciBackgroundOperationStatus (port : Port) (s : State) : Answer :=
  act s fun s => s.vcsSay port 0x0002 fun _ _ => Config.cciBody 0x0002 [0]
/-- CCI_GET_RESPONSE_MESSAGE_LIMIT (R336): 1,024 bytes. -/
def execCciGetResponseMessageLimit (port : Port) (s : State) : Answer :=
  act s fun s => s.vcsSay port 0x0003 fun _ _ => Config.cciBody 0x0003 [1024]
/-- CCI_GET_TIMESTAMP (R336). -/
def execCciGetTimestamp (port : Port) (s : State) : Answer :=
  act s fun s => s.vcsSay port 0x0300 fun s _ => Config.cciBody 0x0300 [s.timestamp]
/-- CCI_IDENTIFY_SWITCH_DEVICE (R336). -/
def execCciIdentifySwitchDevice (port : Port) (s : State) : Answer :=
  act s fun s => s.vcsSay port 0x5100 fun s _ => Config.cciBody 0x5100 (s.vcsFields port)
/-- GET_VIRTUAL_CXL_SWITCH_INFO (R336). -/
def execGetVirtualCxlSwitchInfo (port : Port) (s : State) : Answer :=
  act s fun s => s.vcsSay port 0x5200 fun s _ => Config.cciBody 0x5200 (s.vcsFields port)

/-- GET_VERSION (R418). -/
def execGetVersion (via : SpdmVia) (request : List Byte) (s : State) : Answer :=
  act s fun s => s.request (.spdm via .version request)
/-- GET_CAPABILITIES (R418). -/
def execGetCapabilities (via : SpdmVia) (request : List Byte) (s : State) : Answer :=
  act s fun s => s.request (.spdm via .capabilities request)
/-- NEGOTIATE_ALGORITHMS (R418). -/
def execNegotiateAlgorithms (via : SpdmVia) (request : List Byte) (s : State) : Answer :=
  act s fun s => s.request (.spdm via .algorithms request)
/-- GET_DIGESTS (R418). -/
def execGetDigests (via : SpdmVia) (request : List Byte) (s : State) : Answer :=
  act s fun s => s.request (.spdm via .digests request)
/-- GET_CERTIFICATE (R418). -/
def execGetCertificate (via : SpdmVia) (request : List Byte) (s : State) : Answer :=
  act s fun s => s.request (.spdm via .certificate request)
/-- CHALLENGE (R418). -/
def execSpdmChallenge (via : SpdmVia) (request : List Byte) (s : State) : Answer :=
  act s fun s => s.request (.spdm via .challenge request)
/-- GET_MEASUREMENTS (R418). -/
def execGetMeasurements (via : SpdmVia) (request : List Byte) (s : State) : Answer :=
  act s fun s => s.request (.spdm via .measurements request)
/-- KEY_EXCHANGE (R418). -/
def execKeyExchange (via : SpdmVia) (request : List Byte) (s : State) : Answer :=
  act s fun s => s.request (.spdm via .keyExchange request)
/-- FINISH (R418). -/
def execSpdmFinish (via : SpdmVia) (request : List Byte) (s : State) : Answer :=
  act s fun s => s.request (.spdm via .finish request)
/-- END_SESSION (R418). -/
def execEndSession (via : SpdmVia) (request : List Byte) (s : State) : Answer :=
  act s fun s => s.request (.spdm via .endSession request)

end Sys2Proof.Machine
end

