-- ==== Sys2Proof/Machine/Boundary.lean ====
section
/-!
DEFINITION. What a course boundary brings (R30): the ending course's records and the work that every unit
does once a course. The boundary itself, with the course-aligned actions that fall due at it, is in
Machine/Opcodes.lean.
-/

namespace Sys2Proof.Machine

/-- The announced boundary has been reached (R30). -/
def State.boundaryDue (s : State) : Bool := s.glb.ftuRun && decide (16 * s.ftu.nextBoundary ≤ s.clock)

/-- What the ending course leaves: second violation records (R221), aged cells (R120), the latch of each epoch's
counts, and drained commits (R217, R219). -/
def State.courseEnd (s : State) : State :=
  let s := s.swc.tiles.foldl (fun s x => s.flushAged x.1) s.flushViolations
  (List.range 4).foldl (fun s i => s.drainSlot i) s

/-- Egress quotas are refilled, and what was not used lapses (R125). -/
def State.refill (s : State) : State :=
  let f (_ : Nat) (x : TileSwc) : TileSwc := { x with caps := tmap {} (fun _ c => { c with used := 0 }) x.caps }
  { s with swc := { s.swc with tiles := tmap {} f s.swc.tiles } }

/-- What every unit does as a course starts, with the values in effect for it (R29, R30): quotas are refilled
(R125), channels start their counts anew (R231), bindings of ports that have come UP become active (R88),
streams pace, advise and issue their reads (R266, R268), and instances latch their open work (R304, R305). -/
def State.courseStart (s : State) : State :=
  let s := s.refill.memBoundary.activate.streamsCourse
  (List.range 256).foldl (fun s v => s.vfiBoundary v) s

/-- The FTU fixes and announces the next boundary, with the values in effect (R29, R30). -/
def State.announceNext (s : State) : State :=
  let s := { s with ftu := s.ftu.announce }
  s.emit (.islandAnnounce s.ftu.nextBoundary)

end Sys2Proof.Machine
end

