-- ==== Sys2Proof/Machine/Registers.lean ====
section
/-!
DEFINITION. The FMP's BAR0 (chapter 13): the map of its windows, which writes wait for a readiness bit,
register writes of any size, and register reads with the capture of high halves.
-/

namespace Sys2Proof.Machine

/-- The windows of BAR0 (Tables 13-1, 13-2), with the instance that an offset falls in. -/
inductive Window where
  | glb | cmd | ftu | ppu | msc | evr | pcn | acu
  | chm (slice : Nat)
  | mem
  | mse (engine : Nat)
  | vfi (inst : Nat)
  | lnk (tile : Nat)
  | prt (tile : Nat)
  | swc (tile : Nat)
  | reserved
  deriving DecidableEq, Repr

/-- The window at a BAR0 offset, and the offset in it (R339, R345). -/
def windowAt (a : Nat) : Window × Nat :=
  if a < 0x10000 then (.glb, a)
  else if a < 0x20000 then (.cmd, a % 0x10000)
  else if a < 0x30000 then (.ftu, a % 0x10000)
  else if a < 0x40000 then (.ppu, a % 0x10000)
  else if a < 0x50000 then (.msc, a % 0x10000)
  else if a < 0x60000 then (.evr, a % 0x10000)
  else if a < 0x70000 then (.pcn, a % 0x10000)
  else if a < 0x100000 then (.reserved, a)
  else if a < 0x200000 then (.acu, a % 0x100000)
  else if a < 0x300000 then (.chm (a % 0x100000 / 0x10000), a % 0x10000)
  else if a < 0x400000 then (.mem, a % 0x100000)
  else if a < 0x500000 then (.mse (a % 0x100000 / 0x40000), a % 0x40000)
  else if a < 0x600000 then (.vfi (a % 0x100000 / 0x1000), a % 0x1000)
  else if a < 0x1000000 then (.reserved, a)
  else
    let t := (a - 0x1000000) / 0x40000
    let o := a % 0x40000
    if o < 0x10000 then (.lnk t, o)
    else if o < 0x20000 then (.prt t, o - 0x10000)
    else if o < 0x30000 then (.swc t, o - 0x20000)
    else (.reserved, a)

/-- The window, or the block of it at offset `o`, belongs to an absent unit (R343). -/
def State.windowAbsent (s : State) (o : Nat) : Window → Bool
  | .mse _ => !s.isF
  | .lnk t => !s.tileExists t
  | .prt t => !s.tileExists t || (!s.isF && decide (0x8000 ≤ o))
  | .swc t => !s.tileExists t
  | .ppu => decide (0x1000 ≤ o ∧ o < 0x2000) && !s.tileExists ((o - 0x1000) / 0x40)
  | _ => false

/-- The readiness bit that a write at offset `o` of a window waits for (Table 13-6): the offsets of RW
registers and of registers that act as commands. RW1C registers act on the live state. -/
def State.writeGate (s : State) (o : Nat) : Window → Option Bool
  | .ftu => if o ∈ [0x10, 0x2C, 0x30, 0x34, 0x38, 0x48, 0x4C, 0x68, 0x6C] then some s.glb.ftuRun else none
  | .ppu =>
    if o = 0x04 ∨ (0x1000 ≤ o ∧ o < 0x2000 ∧ o % 0x40 ∈ [0, 4, 8]) then some s.glb.ppuRun else none
  | .evr => if o = 0x04 then some s.glb.evrRun else none
  | .pcn => if 0x1000 ≤ o ∧ o < 0x1000 + 4 * pcnCount ∧ s.counterHere ((o - 0x1000) / 4) = true then some s.glb.sramSwept else none
  | .acu => if o ∈ [0x4, 0xC] then some s.glb.sramSwept else none
  | .chm _ => if o ∈ [0x04, 0x08, 0x10] then some s.glb.homeRun else none
  | .mem => if o = 0x04 then some s.glb.memTrained else if o = 0x08 then some s.glb.memSwept else none
  | .vfi _ => if o = 0x28 then some s.glb.sramSwept else none
  | .lnk _ =>
    if o ∈ [0x000, 0x800] ∨ (0x100 ≤ o ∧ o < 0x500 ∧ (o - 0x100) % 0x40 = 0x0C) then some s.glb.eqLoaded else none
  | .prt _ =>
    if (0x1000 ≤ o ∧ o < 0x5000 ∧ (o - 0x1000) % 0x400 = 0) ∨ (0x8000 ≤ o ∧ o < 0x9000 ∧ o % 0x100 = 0) then
      some s.glb.eqLoaded else none
  | .swc _ => if o ∈ [0x04, 0x08] ∨ (0x100 ≤ o ∧ o < 0x210 ∧ o % 16 = 0) then some s.glb.coreRun else none
  | _ => none

/-- A 32-bit write that reaches its unit. -/
def State.windowWrite (s : State) (o v : Nat) : Window → State
  | .glb => s.glbWrite o v
  | .cmd => s.cmdWrite o v
  | .ftu => s.ftuWrite o v
  | .ppu => s.ppuWrite o v
  | .msc => s.mscWrite o v
  | .evr => s.evrWrite o v
  | .pcn => s.pcnWrite o v
  | .acu => s.acuWrite o v
  | .chm k => s.chmWrite k o v
  | .mem => s.memWrite o v
  | .mse e => s.mseWrite e o v
  | .vfi n => s.vfiWrite n o v
  | .lnk t => s.lnkWrite t o v
  | .prt t => s.prtWrite t o v
  | .swc t => s.swcWrite t o v
  | .reserved => s

/-- A 32-bit write to BAR0 offset `a` (R343, R344). -/
def State.writeBar0 (s : State) (a v : Nat) : State :=
  let (w, o) := windowAt a
  if s.windowAbsent o w then s
  else match s.writeGate o w with
    | some ready => s.gated ready fun s => s.windowWrite o v w
    | none => s.windowWrite o v w

/-- A register write as the FMP delivers it: 8 bytes are two 32-bit writes in ascending order (R341),
and a write shorter than a register has no effect (R7). -/
def State.busWrite (s : State) (a size : Nat) (v : BitVec 64) : State :=
  if size = 4 then s.writeBar0 a (v.toNat % 2 ^ 32)
  else if size = 8 then (s.writeBar0 a (v.toNat % 2 ^ 32)).writeBar0 (a + 4) (v.toNat / 2 ^ 32)
  else s

/-- What the 32-bit register at BAR0 offset `a` reads; an absent or reserved one reads 0 (R339, R343). -/
def State.readBar0 (s : State) (a : Nat) : Nat :=
  let (w, o) := windowAt a
  if s.windowAbsent o w then 0
  else match w with
    | .glb => s.glbRead o
    | .cmd => s.cmdRead o
    | .ftu => s.ftuRead o
    | .ppu => s.ppuRead o
    | .msc => s.mscRead o
    | .evr => s.evrRead o
    | .pcn => s.pcnRead o
    | .acu => s.acuRead o
    | .chm k => s.chmRead k o
    | .mem => s.memRead o
    | .mse e => s.mseRead e o
    | .vfi n => s.vfiRead n o
    | .lnk t => s.lnkRead t o
    | .prt t => s.prtRead t o
    | .swc t => s.swcRead t o
    | .reserved => 0

/-- The register at offset `o` is the _LO half of a pair, whose _HI half follows it (R8). -/
def isLo (o : Nat) : Window → Bool
  | .glb => decide (o ∈ [0x18, 0x104, 0x308])
  | .cmd => decide ((0x100 ≤ o ∧ o < 0x1C0 ∧ o % 0x40 = 0) ∨ (0x1000 ≤ o ∧ o < 0x2000 ∧ o % 0x40 ∈ [0, 8]))
  | .ftu => decide (o ∈ [0x00, 0x14, 0x1C, 0x24, 0x68])
  | .ppu => decide (o ∈ [0x20, 0x28, 0x30])
  | .evr => o == 0x18
  | .pcn => decide (o = 0x08 ∨ (0x4000 ≤ o ∧ o < 0x4000 + 8 * pcnCount ∧ o % 8 = 0))
  | .mse _ => decide (o ∈ [0x10, 0x18] ∨ (0x10000 ≤ o ∧ o % 0x40 ∈ [0x08, 0x10, 0x20]))
  | .lnk _ => decide (0x100 ≤ o ∧ o < 0x500 ∧ (o - 0x100) % 0x40 = 0x24)
  | _ => false

/-- A 32-bit read from the FMP: a _LO register captures its _HI half (for FTU_TIME_LO the phase too), and
the next read of that _HI register returns what was captured (R8, R341). One holding register serves all pairs
(log entry 83, DESIGN CHOICE), so that a read of another _LO register replaces what it holds. No row of the table is a read;
this says what the captured halves in the state are for. -/
def State.busRead (s : State) (a : Nat) : Nat × State :=
  let (w, o) := windowAt a
  if isLo o w && !s.windowAbsent o w then
    let s' := { s with fmp := { s.fmp with
      holdHi := some (a + 4, BitVec.ofNat 32 (s.readBar0 (a + 4)))
      holdPhase := if w = .ftu ∧ o = 0 then s.clock % 16 else s.fmp.holdPhase } }
    (s.readBar0 a, s')
  else match s.fmp.holdHi with
    | some (h, v) =>
      if h = a then (v.toNat, { s with fmp := { s.fmp with holdHi := none } }) else (s.readBar0 a, s)
    | none => (s.readBar0 a, s)

/-- A read of `size` bytes from the FMP (R7): 8 bytes are two reads of 32 bits, lower address first, and 1 or 2
bytes are the addressed bytes of the register that contains them. -/
def State.busReadSized (s : State) (a size : Nat) : Nat × State :=
  if size = 8 then
    let (lo, s) := s.busRead a
    let (hi, s) := s.busRead (a + 4)
    (lo + 2 ^ 32 * hi, s)
  else
    let (v, s) := s.busRead (alignDown 2 a)
    (v / 2 ^ (8 * (a % 4)) % 2 ^ (8 * size), s)

/-- REGISTER_WRITE (R9, R339, R341). -/
def execRegisterWrite (addr : BitVec 25) (size : Nat) (value : BitVec 64) (s : State) : Answer :=
  actFmp s fun s => s.busWrite addr.toNat size value

end Sys2Proof.Machine
end

