-- ==== Sys2Proof/Machine/Opcodes.lean ====
section
/-!
DEFINITION. The command pipeline (R316 to R319): which opcode is which unit's command (Table 12-13), the
take of a ring descriptor, the take of a side-entry command, and the execution of a launched action.
-/

namespace Sys2Proof.Machine

/-- The opcodes of Table 12-13; a reserved one has none. -/
def opOf : Nat → Option OpSpec
  | 0x00 => some opNop | 0x01 => some opGlbIdentify | 0x02 => some opRingClampRead | 0x03 => some opEventFilterSet
  | 0x10 => some opPortConfig | 0x11 => some opPortDisable | 0x12 => some opPortRetrain | 0x13 => some opPortStatus
  | 0x14 => some opPortDpcRelease | 0x15 => some opPortLdQuery | 0x16 => some opPortCciTunnel | 0x17 => some opPortPbrSet
  | 0x18 => some opPortIdeCtrl | 0x19 => some opPortHotReset | 0x1A => some opPortErrClear | 0x1B => some opLnkEqReload
  | 0x1C => some opLnkLoopSet | 0x1D => some opLnkLoopRead | 0x1E => some opLnkSlLoop | 0x1F => some opLnkSlDelay
  | 0x20 => some opTimeCourseSet | 0x21 => some opTimeSyncSet | 0x22 => some opTimeSyncOutSet | 0x23 => some opTimeMark
  | 0x24 => some opTimeLaunchCancel | 0x25 => some opTimeLaunchQuery | 0x26 => some opTimeIslandCheck
  | 0x30 => some opAcuRegionSet | 0x31 => some opAcuPlinthSet | 0x32 => some opAcuWindowSet | 0x33 => some opAcuTagSet
  | 0x34 => some opAcuReqSet | 0x35 => some opAcuKeysSet | 0x36 => some opAcuPortMapSet | 0x37 => some opAcuCommit
  | 0x38 => some opAcuDiscard | 0x39 => some opAcuQuery | 0x3A => some opAcuTagQuery | 0x3B => some opAcuDrainQuery
  | 0x40 => some opHomeHostSet | 0x41 => some opHomeHostLost | 0x42 => some opHomeAllowSet | 0x43 => some opHomeTimeoutSet
  | 0x44 => some opHomeLineQuery | 0x45 => some opHomeSweepQuery | 0x48 => some opDirStoreSet | 0x49 => some opDirPlaceSet
  | 0x4A => some opDirMove | 0x4B => some opDirMoveQuery | 0x4C => some opDirZeroSet | 0x4D => some opDirZeroQuery
  | 0x4E => some opDirStatus
  | 0x50 => some opMemScrubSet | 0x51 => some opMemRetire | 0x52 => some opMemRepair | 0x53 => some opMemRawWrite
  | 0x54 => some opMemRawRead | 0x55 => some opMemLineQuery | 0x56 => some opMemCeLog | 0x57 => some opMemRsvQuery
  | 0x58 => some opMemErrClear
  | 0x60 => some opStreamOpen | 0x61 => some opStreamChange | 0x62 => some opStreamClose | 0x63 => some opStreamMove
  | 0x64 => some opStreamResume | 0x65 => some opStreamQuery | 0x66 => some opMseSetup
  | 0x70 => some opVfiBind | 0x71 => some opVfiWindowSet | 0x72 => some opVfiQuotaSet | 0x73 => some opVfiWeightSet
  | 0x74 => some opVfiColourSet | 0x75 => some opVfiCntMap | 0x76 => some opVfiMailSend | 0x77 => some opVfiMailRead
  | 0x78 => some opVfiReset | 0x79 => some opVfiQuery | 0x7A => some opVfiMailCfg
  | 0x80 => some opPcnSelect | 0x81 => some opPcnFreeze | 0x82 => some opPcnRelease | 0x83 => some opPcnSnapshot
  | 0x84 => some opPcnRead | 0x85 => some opPcnClear
  | 0x90 => some opEvrQuery | 0x91 => some opEvrRead | 0x92 => some opEvrWriteNow | 0x93 => some opEvrClear
  | 0x94 => some opEvrCfg
  | 0xA0 => some opFeedSet | 0xA1 => some opFeedCfg | 0xA2 => some opFeedClear | 0xA3 => some opShelfWake
  | 0xA4 => some opShelfSleep | 0xA5 => some opFeedQuery | 0xA6 => some opPpuInputCfg | 0xA7 => some opPpuQuery
  | 0xB0 => some opFwStage | 0xB1 => some opFwVerify | 0xB2 => some opFwActivate | 0xB3 => some opFwQuery
  | 0xB4 => some opFwRollbackAdvance | 0xB5 => some opIdCertRead | 0xB6 => some opAttestSign | 0xB7 => some opMscRestart
  | _ => none

/-! ### Taking a command (R316, R317, R319) -/

/-- The head descriptor of a pair may be taken: a fenced one waits for every earlier command of its pair,
those in the launch queue included (R319). -/
def RingPair.takeable (r : RingPair) (p : Nat) : Option WaitDesc :=
  match r.waiting with
  | [] => none
  | d :: _ =>
    if ({ src := .ring (Fin.ofNat 64 p), desc := d.desc } : Cmd).fence && decide (r.waiting.length < r.inflight) then none
    else some d

/-- The pair whose head descriptor is taken next: the earliest stamp, then the rotating key (R46, R316). -/
def pickTake (slot : Nat) : Tbl RingPair → Option (Nat × WaitDesc)
  | [] => none
  | (p, r) :: t =>
    match r.takeable p, pickTake slot t with
    | none, x => x
    | some d, none => some (p, d)
    | some d, some (q, e) =>
      if d.stamp < e.stamp ∨ (d.stamp = e.stamp ∧ tieKey p slot 64 < tieKey q slot 64) then some (p, d) else some (q, e)

/-- This cycle of the pipeline takes no ring descriptor: every eighth serves the side entry (R317). -/
def State.sideCycle (s : State) : Bool := s.cmd.cycle % 8 == 7
/-- The pipeline goes on to its next cycle. -/
def State.nextCycle (s : State) : State := { s with cmd := { s.cmd with cycle := (s.cmd.cycle + 1) % 8 } }

/-- Pass a ring command to the launch queue or its unit; a reserved opcode completes BAD_OPCODE. -/
def State.passOn (s : State) (c : Cmd) (stamp : Nat) : State :=
  match opOf c.opcode with
  | some o => o.issue c stamp s
  | none => s.badOpcode c

/-- DESCRIPTOR_TAKE: one cycle of the pipeline in which a ring descriptor may be taken. -/
def State.descriptorTake (s : State) : State :=
  if s.sideCycle then s.nextCycle
  else match pickTake s.slot s.cmd.pairs with
    | none => s.nextCycle
    | some (p, d) =>
      let s := (s.modPair p fun r => { r with waiting := r.waiting.drop 1 }).nextCycle
      s.passOn { src := .ring (Fin.ofNat 64 p), desc := d.desc } d.stamp

/-- A side-entry command reaches its unit: a tunnelled FM request keeps its own answer (R93, R335). -/
def State.sidePass (s : State) (x : SideCmd) : State :=
  let s := s.accept x.cmd
  if x.mctp && x.op == 0x16 then s.fmTunnel x
  else match opOf x.op with
    | some o => o.issue x.cmd s.clock s
    | none => s

/-- SIDE_ENTRY_TAKE: in every eighth cycle, and in any cycle in which no ring descriptor waits, the side
entry is served, in arrival order. -/
def State.sideTake (s : State) : State :=
  match s.cmd.side with
  | [] => s.nextCycle
  | x :: xs =>
    if s.sideCycle || (pickTake s.slot s.cmd.pairs).isNone then
      (({ s with cmd := { s.cmd with side := xs } }).nextCycle).sidePass x
    else s

/-! ### Commands held behind another (R318) -/

/-- A held command executes, or is held on. -/
def State.tryBehind (s : State) (b : Behind) : State :=
  match opOf b.op with
  | some o => o.enter b.data b.cmd s
  | none => s

/-- Every command whose turn has come executes, in ring order. -/
def State.runBehind (s : State) : State :=
  s.cmd.behind.foldl (fun s b => s.tryBehind b) { s with cmd := { s.cmd with behind := [] } }

/-- What the passage of time brings to the staging writes: the tag writes that end (R213), one after
another, and the commands behind each. -/
def State.stagingTime (s : State) : State :=
  (List.range s.acu.writes.length).foldl (fun s _ => s.tagsWritten.runBehind) s

/-- One phase unit passes: fabric time counts, a KIND 1 request falls due, staging writes end. -/
def State.elapse (s : State) : State := s.pass.stagingTime

/-- BEACON (R25): commands behind an island check execute after it (R318). -/
def execBeacon (offsets : List (Island × Int)) (s : State) : Answer :=
  act s fun s => (s.beacon offsets).runBehind

/-! ### Launched actions (R41 to R45) -/

/-- A due action executes. -/
def State.launch (s : State) (l : Launch) : State :=
  match opOf l.op with
  | some o => o.launchNow l s
  | none => s

/-- The first due action of `q` in the order of R45 executes. -/
def State.launchFirst (s : State) (q : List Launch) : State :=
  match pickLaunch s q with
  | none => s
  | some l => s.launch l

/-- LAUNCH_EXECUTE: the first due action in the order of R45 executes. -/
def State.launchExecute (s : State) : State := s.launchFirst s.ftu.launches

/-- Every due course-aligned action that satisfies `f` executes, one after another in the order of R45. -/
def State.launchAligned (s : State) (f : Launch → Bool) : State :=
  s.ftu.launches.foldl (fun s _ => s.launchFirst (s.ftu.launches.filter fun l => l.aligned && f l)) s

/-- A capture of the counters: it counts exactly the events stamped before its boundary (R357). -/
def Launch.captures (l : Launch) : Bool := l.op == 0x81 || l.op == 0x83

/-- COURSE_BOUNDARY: it acts once the announced boundary is reached. The captures of the counters come first,
then what the ending course leaves, then the other actions that fall due at the boundary; with the values that
these leave the next boundary is announced and every unit starts the new course (R29, R30, R45). -/
def State.courseBoundary (s : State) : State :=
  if s.boundaryDue then
    let s := { s with ftu := s.ftu.pass }
    let s := (s.freezeBoundary s.ftu.boundary).launchAligned Launch.captures
    let s := (s.courseEnd.launchAligned fun l => !l.captures).cntFtu 0xD8
    s.announceNext.courseStart
  else s

/-- COURSE_BOUNDARY (R30). -/
def execCourseBoundary (s : State) : Answer := act s State.courseBoundary
/-- DESCRIPTOR_TAKE (R316). -/
def execDescriptorTake (s : State) : Answer := act s State.descriptorTake
/-- SIDE_ENTRY_TAKE (R317). -/
def execSideEntryTake (s : State) : Answer := act s State.sideTake
/-- LAUNCH_EXECUTE (R41). -/
def execLaunchExecute (s : State) : Answer := act s State.launchExecute

end Sys2Proof.Machine
end

