-- ==== Sys2Proof/Machine/Sram.lean ====
section
/-!
DEFINITION. Errors in the on-chip arrays (Table 09-5): what the background pass finds in a word of a
long-lived array (R241), and what a read finds in one of the others. Which word it is the event does
not say, so an uncorrectable word falls on an entry left open (log entry 3).
-/

namespace Sys2Proof.Machine

/-- An entry of a list, picked by an open value. -/
def pickFrom {α : Type} (xs : List α) (n : Nat) : Option α := xs[n % xs.length]?

/-- The directory ways that a slice holds. -/
def SliceSt.held (x : SliceSt) : List Way := x.ways.filterMap (·.2)
/-- ENTRY_UNCORR, and the recovery of the line (R163). -/
def State.entryUncorr (s : State) (k line : Nat) : State :=
  let s := s.modSlice k fun x => { x with err := x.err ||| 64 }
  let s := s.record 0x09 (sliceIsland k) s.now64 [(8, line * 64), (2, s.validHosts.length)]
  s.startJob k line .recovery 0

/-- An uncorrectable directory entry of slice `k` (R163). -/
def State.dirUncorr (s : State) (k n : Nat) : State :=
  let s := s.modSlice k fun x => { x with eccU := satAdd 16 x.eccU 1 }
  match pickFrom (s.slice k).held n with
  | some w => s.entryUncorr k w.line
  | none => s
/-- An uncorrectable write-buffer entry: its backing write carries poison (R156). -/
def State.wbufUncorr (s : State) (k n : Nat) : State :=
  match pickFrom ((s.slice k).wbuf.filterMap fun x => x.2.map fun e => (x.1, e)) n with
  | some (line, e) => s.poisonLine k line none (some (e.tgt, e.gen)) (match s.heldEntry k line with | some x => if x.live then x.charge else e.vfi | none => e.vfi)
  | none => s
/-- An uncorrectable transaction-table entry: poisoned data or Cmp, and the line is recovered. -/
def State.txnUncorr (s : State) (k n : Nat) : State :=
  match pickFrom (s.slice k).txns n with
  | some t =>
    let s := s.modSlice k fun x => { x with txns := x.txns.map fun u => if u.id = t.id then { u with forcedPoison := true } else u }
    s.entryUncorr k t.line
  | none => s
/-- Discard a line that a station caches; it is fetched again (R212). -/
def State.dropCached (s : State) (island n : Nat) : State :=
  match pickFrom (tget [] s.acu.cached island) n with
  | some l => { s with acu := { s.acu with cached := tset [] s.acu.cached island ((tget [] s.acu.cached island).erase l) } }
  | none => s
/-- Entries of each table of the central bank (Table 12-9): Service and Plinth regions, windows, colour
tags, requester entries. -/
def acuEntries : Nat → Nat
  | 1 => 2048 | 2 => 64 | 3 => 64 | 4 => 1048576 | _ => 4096
/-- An uncorrectable entry of the ACU's tables: an entry of the central table fails closed, a station's
copy is discarded (R212). -/
def State.acuUncorr (s : State) (island n : Nat) : State :=
  if island = 88 then s.entryBad (n % 5 + 1) (n / 5 % acuEntries (n % 5 + 1))
  else
    let s := { s with acu := { s.acu with eccU := tset 0 s.acu.eccU island (satAdd 16 (tget 0 s.acu.eccU island) 1) } }
    (s.sramError island 5 true).dropCached island (n / 5)
/-- An uncorrectable port tracker: the request is answered as for a lost port (Table 04-4). -/
def State.trackerUncorr (s : State) (t n : Nat) : State :=
  match pickFrom (s.trackers t) n with
  | some e => s.forceAnswer t e
  | none => s
/-- The 8 bytes at offset `k` of what the chunk buffer holds of a stream. -/
def Stream.wordAt (d : Stream) (k : Nat) : Nat × Nat :=
  match (d.inBuffer.flatMap fun w => (List.range ((w.2 + 7) / 8)).map fun i => (w.1 + 8 * i, min 8 (w.2 - 8 * i)))[k]? with
  | some w => w
  | none => (0, 0)
/-- An uncorrectable word of an engine's chunk buffer: the bytes it holds are poisoned (R256, R278). -/
def State.chunkUncorr (s : State) (e n : Nat) : State :=
  let held := s.streamList.filter fun x => x.2.engine == e && decide (0 < x.2.buffered)
  match pickFrom held n with
  | some (h, d) =>
    let w := d.wordAt (n / held.length % ((d.buffered + 7) / 8))
    let s := s.modS h fun d => { d with poisoned := d.poisoned ++ [w] }
    s.streamRecord h 0x34 s.now64 [(8, w.1), (4, w.2), (1, 2)] 8
  | none => s

/-- The action of Table 09-5 on an uncorrectable word of an array of an island. -/
def State.sramAction (s : State) (island array n : Nat) : State :=
  match array with
  | 2 => s.dirUncorr (island - 64) n
  | 3 => s.wbufUncorr (island - 64) n
  | 4 => s.txnUncorr (island - 64) n
  | 6 => s.trackerUncorr island n
  | 8 => s.chunkUncorr (island - 84) n
  | 9 => if s.msc.state = .running then s.mscRestart 3 none else s
  | _ => s

/-- The island holds the array (Tables 02-1, 09-5). -/
def State.arrayAt (s : State) (island array : Nat) : Bool :=
  match array with
  | 0 | 1 | 6 | 7 => s.tileExists island
  | 2 | 3 | 4 => decide (64 ≤ island ∧ island < 80)
  | 5 => s.tileExists island || decide (64 ≤ island ∧ island < 80) || (s.isF && decide (84 ≤ island ∧ island < 88)) || island == 88
  | 8 => s.isF && decide (84 ≤ island ∧ island < 88)
  | 9 => island == 91
  | _ => island == 93

/-- SRAM_BACKGROUND_PASS: a corrected word is rewritten and counted; an uncorrectable one is counted,
recorded, and acted on (R240, R241). The routes' other copy rewrites a failing one, and cells are
handled where they arrive. -/
def State.sramPass (s : State) (island array : Nat) (w : SramWord) : State :=
  if !s.arrayAt island array || !s.glb.sramSwept then s
  else match w with
    | .clean => s
    | .corrected =>
      let s := s.sramError island array false
      match array with
      | 2 => s.modSlice (island - 64) fun x => { x with eccC := satAdd 16 x.eccC 1 }
      | 5 =>
        if island = 88 then s.cntAcu 0xA8
        else ({ s with acu := { s.acu with
          eccC := tset 0 s.acu.eccC island (satAdd 16 (tget 0 s.acu.eccC island) 1) } }).cntStn island 0xA8
      | _ => s
    | .uncorrectable =>
      let n := s.freeValue
      let s := s.useFree
      if array = 5 then s.acuUncorr island n
      else
        let s := s.sramError island array true
        if array = 10 then s.evrBinLost else s.sramAction island array n

/-- SRAM_BACKGROUND_PASS (R241). -/
def execSramBackgroundPass (island : Island) (array : Fin 11) (word : SramWord) (s : State) : Answer :=
  act s fun s => s.sramPass island array word

end Sys2Proof.Machine
end

