-- ==== Sys2Proof/Machine/Dispatch.lean ====
section
/-!
DEFINITION. The dispatch: one arm per command, each one call of its meaning.
-/

namespace Sys2Proof.Machine

/-- The effect of a command on everything but the queue. -/
def exec (i : Instr) (s : State) : Host.Outcome State Fault Refusal :=
  match i with
  | .nop c => Sys2Proof.Machine.execNop c s
  | .glbIdentify c => Sys2Proof.Machine.execGlbIdentify c s
  | .ringClampRead c => Sys2Proof.Machine.execRingClampRead c s
  | .eventFilterSet c => Sys2Proof.Machine.execEventFilterSet c s
  | .reservedOpcode c => Sys2Proof.Machine.execReservedOpcode c s
  | .portConfig c => Sys2Proof.Machine.execPortConfig c s
  | .portDisable c => Sys2Proof.Machine.execPortDisable c s
  | .portRetrain c => Sys2Proof.Machine.execPortRetrain c s
  | .portStatus c => Sys2Proof.Machine.execPortStatus c s
  | .portDpcRelease c => Sys2Proof.Machine.execPortDpcRelease c s
  | .portLdQuery c => Sys2Proof.Machine.execPortLdQuery c s
  | .portCciTunnel c => Sys2Proof.Machine.execPortCciTunnel c s
  | .portPbrSet c => Sys2Proof.Machine.execPortPbrSet c s
  | .portIdeCtrl c => Sys2Proof.Machine.execPortIdeCtrl c s
  | .portHotReset c => Sys2Proof.Machine.execPortHotReset c s
  | .portErrClear c => Sys2Proof.Machine.execPortErrClear c s
  | .lnkEqReload c => Sys2Proof.Machine.execLnkEqReload c s
  | .lnkLoopSet c => Sys2Proof.Machine.execLnkLoopSet c s
  | .lnkLoopRead c => Sys2Proof.Machine.execLnkLoopRead c s
  | .lnkSlLoop c => Sys2Proof.Machine.execLnkSlLoop c s
  | .lnkSlDelay c => Sys2Proof.Machine.execLnkSlDelay c s
  | .timeCourseSet c => Sys2Proof.Machine.execTimeCourseSet c s
  | .timeSyncSet c => Sys2Proof.Machine.execTimeSyncSet c s
  | .timeSyncOutSet c => Sys2Proof.Machine.execTimeSyncOutSet c s
  | .timeMark c => Sys2Proof.Machine.execTimeMark c s
  | .timeLaunchCancel c => Sys2Proof.Machine.execTimeLaunchCancel c s
  | .timeLaunchQuery c => Sys2Proof.Machine.execTimeLaunchQuery c s
  | .timeIslandCheck c => Sys2Proof.Machine.execTimeIslandCheck c s
  | .acuRegionSet c => Sys2Proof.Machine.execAcuRegionSet c s
  | .acuPlinthSet c => Sys2Proof.Machine.execAcuPlinthSet c s
  | .acuWindowSet c => Sys2Proof.Machine.execAcuWindowSet c s
  | .acuTagSet c => Sys2Proof.Machine.execAcuTagSet c s
  | .acuReqSet c => Sys2Proof.Machine.execAcuReqSet c s
  | .acuKeysSet c => Sys2Proof.Machine.execAcuKeysSet c s
  | .acuPortMapSet c => Sys2Proof.Machine.execAcuPortMapSet c s
  | .acuCommit c => Sys2Proof.Machine.execAcuCommit c s
  | .acuDiscard c => Sys2Proof.Machine.execAcuDiscard c s
  | .acuQuery c => Sys2Proof.Machine.execAcuQuery c s
  | .acuTagQuery c => Sys2Proof.Machine.execAcuTagQuery c s
  | .acuDrainQuery c => Sys2Proof.Machine.execAcuDrainQuery c s
  | .homeHostSet c => Sys2Proof.Machine.execHomeHostSet c s
  | .homeHostLost c => Sys2Proof.Machine.execHomeHostLost c s
  | .homeAllowSet c => Sys2Proof.Machine.execHomeAllowSet c s
  | .homeTimeoutSet c => Sys2Proof.Machine.execHomeTimeoutSet c s
  | .homeLineQuery c => Sys2Proof.Machine.execHomeLineQuery c s
  | .homeSweepQuery c => Sys2Proof.Machine.execHomeSweepQuery c s
  | .dirStoreSet c => Sys2Proof.Machine.execDirStoreSet c s
  | .dirPlaceSet c => Sys2Proof.Machine.execDirPlaceSet c s
  | .dirMove c => Sys2Proof.Machine.execDirMove c s
  | .dirMoveQuery c => Sys2Proof.Machine.execDirMoveQuery c s
  | .dirZeroSet c => Sys2Proof.Machine.execDirZeroSet c s
  | .dirZeroQuery c => Sys2Proof.Machine.execDirZeroQuery c s
  | .dirStatus c => Sys2Proof.Machine.execDirStatus c s
  | .memScrubSet c => Sys2Proof.Machine.execMemScrubSet c s
  | .memRetire c => Sys2Proof.Machine.execMemRetire c s
  | .memRepair c => Sys2Proof.Machine.execMemRepair c s
  | .memRawWrite c => Sys2Proof.Machine.execMemRawWrite c s
  | .memRawRead c => Sys2Proof.Machine.execMemRawRead c s
  | .memLineQuery c => Sys2Proof.Machine.execMemLineQuery c s
  | .memCeLog c => Sys2Proof.Machine.execMemCeLog c s
  | .memRsvQuery c => Sys2Proof.Machine.execMemRsvQuery c s
  | .memErrClear c => Sys2Proof.Machine.execMemErrClear c s
  | .streamOpen c => Sys2Proof.Machine.execStreamOpen c s
  | .streamChange c => Sys2Proof.Machine.execStreamChange c s
  | .streamClose c => Sys2Proof.Machine.execStreamClose c s
  | .streamMove c => Sys2Proof.Machine.execStreamMove c s
  | .streamResume c => Sys2Proof.Machine.execStreamResume c s
  | .streamQuery c => Sys2Proof.Machine.execStreamQuery c s
  | .mseSetup c => Sys2Proof.Machine.execMseSetup c s
  | .vfiBind c => Sys2Proof.Machine.execVfiBind c s
  | .vfiWindowSet c => Sys2Proof.Machine.execVfiWindowSet c s
  | .vfiQuotaSet c => Sys2Proof.Machine.execVfiQuotaSet c s
  | .vfiWeightSet c => Sys2Proof.Machine.execVfiWeightSet c s
  | .vfiColourSet c => Sys2Proof.Machine.execVfiColourSet c s
  | .vfiCntMap c => Sys2Proof.Machine.execVfiCntMap c s
  | .vfiMailSend c => Sys2Proof.Machine.execVfiMailSend c s
  | .vfiMailRead c => Sys2Proof.Machine.execVfiMailRead c s
  | .vfiReset c => Sys2Proof.Machine.execVfiReset c s
  | .vfiQuery c => Sys2Proof.Machine.execVfiQuery c s
  | .vfiMailCfg c => Sys2Proof.Machine.execVfiMailCfg c s
  | .pcnSelect c => Sys2Proof.Machine.execPcnSelect c s
  | .pcnFreeze c => Sys2Proof.Machine.execPcnFreeze c s
  | .pcnRelease c => Sys2Proof.Machine.execPcnRelease c s
  | .pcnSnapshot c => Sys2Proof.Machine.execPcnSnapshot c s
  | .pcnRead c => Sys2Proof.Machine.execPcnRead c s
  | .pcnClear c => Sys2Proof.Machine.execPcnClear c s
  | .evrQuery c => Sys2Proof.Machine.execEvrQuery c s
  | .evrRead c => Sys2Proof.Machine.execEvrRead c s
  | .evrWriteNow c => Sys2Proof.Machine.execEvrWriteNow c s
  | .evrClear c => Sys2Proof.Machine.execEvrClear c s
  | .evrCfg c => Sys2Proof.Machine.execEvrCfg c s
  | .feedSet c => Sys2Proof.Machine.execFeedSet c s
  | .feedCfg c => Sys2Proof.Machine.execFeedCfg c s
  | .feedClear c => Sys2Proof.Machine.execFeedClear c s
  | .shelfWake c => Sys2Proof.Machine.execShelfWake c s
  | .shelfSleep c => Sys2Proof.Machine.execShelfSleep c s
  | .feedQuery c => Sys2Proof.Machine.execFeedQuery c s
  | .ppuInputCfg c => Sys2Proof.Machine.execPpuInputCfg c s
  | .ppuQuery c => Sys2Proof.Machine.execPpuQuery c s
  | .fwStage c => Sys2Proof.Machine.execFwStage c s
  | .fwVerify c => Sys2Proof.Machine.execFwVerify c s
  | .fwActivate c => Sys2Proof.Machine.execFwActivate c s
  | .fwQuery c => Sys2Proof.Machine.execFwQuery c s
  | .fwRollbackAdvance c => Sys2Proof.Machine.execFwRollbackAdvance c s
  | .idCertRead c => Sys2Proof.Machine.execIdCertRead c s
  | .attestSign c => Sys2Proof.Machine.execAttestSign c s
  | .mscRestart c => Sys2Proof.Machine.execMscRestart c s
  | .sqTailDoorbell ring value => Sys2Proof.Machine.execSqTailDoorbell ring value s
  | .cqHeadDoorbell ring value => Sys2Proof.Machine.execCqHeadDoorbell ring value s
  | .ringEnable ring value => Sys2Proof.Machine.execRingEnable ring value s
  | .ringDisable ring value => Sys2Proof.Machine.execRingDisable ring value s
  | .ringResume ring value => Sys2Proof.Machine.execRingResume ring value s
  | .deviceRingEnable d value => Sys2Proof.Machine.execDeviceRingEnable d value s
  | .deviceRingDisable d value => Sys2Proof.Machine.execDeviceRingDisable d value s
  | .deviceRingResume d value => Sys2Proof.Machine.execDeviceRingResume d value s
  | .cmdDrHead d value => Sys2Proof.Machine.execCmdDrHead d value s
  | .moduleResetRequest value => Sys2Proof.Machine.execModuleResetRequest value s
  | .msixVectorUnmask vector => Sys2Proof.Machine.execMsixVectorUnmask vector s
  | .busMasterEnable => Sys2Proof.Machine.execBusMasterEnable s
  | .slEnable cage => Sys2Proof.Machine.execSlEnable cage s
  | .slDisable cage => Sys2Proof.Machine.execSlDisable cage s
  | .forceOff tile off => Sys2Proof.Machine.execForceOff tile off s
  | .registerWrite addr size value => Sys2Proof.Machine.execRegisterWrite addr size value s
  | .inputTurnOn => Sys2Proof.Machine.execInputTurnOn s
  | .inrushFault => Sys2Proof.Machine.execInrushFault s
  | .runningOvercurrent => Sys2Proof.Machine.execRunningOvercurrent s
  | .fastOvercurrent => Sys2Proof.Machine.execFastOvercurrent s
  | .overvoltage => Sys2Proof.Machine.execOvervoltage s
  | .earlyWarning external millivolts => Sys2Proof.Machine.execEarlyWarning external millivolts s
  | .inputClear => Sys2Proof.Machine.execInputClear s
  | .brownOut => Sys2Proof.Machine.execBrownOut s
  | .resetN => Sys2Proof.Machine.execResetN s
  | .moduleReset cause => Sys2Proof.Machine.execModuleReset cause s
  | .thermalShutdown => Sys2Proof.Machine.execThermalShutdown s
  | .thermalRecovery => Sys2Proof.Machine.execThermalRecovery s
  | .mscWatchdog => Sys2Proof.Machine.execMscWatchdog s
  | .refLost => Sys2Proof.Machine.execRefLost s
  | .refReturn => Sys2Proof.Machine.execRefReturn s
  | .presenceInsertion cage => Sys2Proof.Machine.execPresenceInsertion cage s
  | .presenceRemoval cage => Sys2Proof.Machine.execPresenceRemoval cage s
  | .fmpReset => Sys2Proof.Machine.execFmpReset s
  | .syncEdge edge => Sys2Proof.Machine.execSyncEdge edge s
  | .syncAbsent => Sys2Proof.Machine.execSyncAbsent s
  | .beacon offsets => Sys2Proof.Machine.execBeacon offsets s
  | .courseBoundary => Sys2Proof.Machine.execCourseBoundary s
  | .syncOutEdge => Sys2Proof.Machine.execSyncOutEdge s
  | .launchExecute => Sys2Proof.Machine.execLaunchExecute s
  | .messageIngress src msg => Sys2Proof.Machine.execMessageIngress src msg s
  | .acuFetchResponse island want uncorrectable => Sys2Proof.Machine.execAcuFetchResponse island want uncorrectable s
  | .flitReceive port flit => Sys2Proof.Machine.execFlitReceive port flit s
  | .coreSlot tile => Sys2Proof.Machine.execCoreSlot tile s
  | .cellArrival stage2 src dst fault => Sys2Proof.Machine.execCellArrival stage2 src dst fault s
  | .reseqLost dst src => Sys2Proof.Machine.execReseqLost dst src s
  | .headCheck tile queue => Sys2Proof.Machine.execHeadCheck tile queue s
  | .auditStep tile => Sys2Proof.Machine.execAuditStep tile s
  | .egressSend tile off credits => Sys2Proof.Machine.execEgressSend tile off credits s
  | .portStateLearned tile port => Sys2Proof.Machine.execPortStateLearned tile port s
  | .trackerFree tile port tag => Sys2Proof.Machine.execTrackerFree tile port tag s
  | .receiverDetected port => Sys2Proof.Machine.execReceiverDetected port s
  | .linkUp port t => Sys2Proof.Machine.execLinkUp port t s
  | .linkDown port surprise => Sys2Proof.Machine.execLinkDown port surprise s
  | .errFatal port => Sys2Proof.Machine.execErrFatal port s
  | .idleExit lane => Sys2Proof.Machine.execIdleExit lane s
  | .bankPllLock tile => Sys2Proof.Machine.execBankPllLock tile s
  | .cciTunnelResponse port body => Sys2Proof.Machine.execCciTunnelResponse port body s
  | .cciTunnelTimeout port => Sys2Proof.Machine.execCciTunnelTimeout port s
  | .slCommaAlign cage => Sys2Proof.Machine.execSlCommaAlign cage s
  | .slAlignedTimer cage => Sys2Proof.Machine.execSlAlignedTimer cage s
  | .slAlignmentLost cage chars => Sys2Proof.Machine.execSlAlignmentLost cage chars s
  | .slPolaritySearch cage => Sys2Proof.Machine.execSlPolaritySearch cage s
  | .slAck cage f acked => Sys2Proof.Machine.execSlAck cage f acked s
  | .shelfPresent cage f kind caps ident => Sys2Proof.Machine.execShelfPresent cage f kind caps ident s
  | .shelfPowerState cage f power current => Sys2Proof.Machine.execShelfPowerState cage f power current s
  | .shelfTemperature cage f temp limit => Sys2Proof.Machine.execShelfTemperature cage f temp limit s
  | .delayResp cage f turnaround answers => Sys2Proof.Machine.execDelayResp cage f turnaround answers s
  | .shelfWarn cage f removal => Sys2Proof.Machine.execShelfWarn cage f removal s
  | .slRetransmit cage => Sys2Proof.Machine.execSlRetransmit cage s
  | .delayReq cage => Sys2Proof.Machine.execDelayReq cage s
  | .timeFrame cage => Sys2Proof.Machine.execTimeFrame cage s
  | .powerWarnRepeat cage => Sys2Proof.Machine.execPowerWarnRepeat cage s
  | .slLoopEnd cage => Sys2Proof.Machine.execSlLoopEnd cage s
  | .slLoopTimeout cage => Sys2Proof.Machine.execSlLoopTimeout cage s
  | .homeRequest slice msg => Sys2Proof.Machine.execHomeRequest slice msg s
  | .homeRwd slice msg => Sys2Proof.Machine.execHomeRwd slice msg s
  | .birsp slice msg => Sys2Proof.Machine.execBirsp slice msg s
  | .biconflict slice msg => Sys2Proof.Machine.execBiconflict slice msg s
  | .backingReadResponse slice txn data poison => Sys2Proof.Machine.execBackingReadResponse slice txn data poison s
  | .backingWriteAck slice line => Sys2Proof.Machine.execBackingWriteAck slice line s
  | .waitListTake slice line => Sys2Proof.Machine.execWaitListTake slice line s
  | .retryQueueGrant slice => Sys2Proof.Machine.execRetryQueueGrant slice s
  | .snoopTimeout slice txn => Sys2Proof.Machine.execSnoopTimeout slice txn s
  | .wbTimeout slice txn => Sys2Proof.Machine.execWbTimeout slice txn s
  | .memReadTimeout slice txn => Sys2Proof.Machine.execMemReadTimeout slice txn s
  | .memWriteTimeout slice line => Sys2Proof.Machine.execMemWriteTimeout slice line s
  | .lateWbFilterExpiry slice => Sys2Proof.Machine.execLateWbFilterExpiry slice s
  | .hostLoss chn => Sys2Proof.Machine.execHostLoss chn s
  | .sweepStep slice => Sys2Proof.Machine.execSweepStep slice s
  | .allowanceRelease port slice => Sys2Proof.Machine.execAllowanceRelease port slice s
  | .storeBucketRead slice txn uncorrectable => Sys2Proof.Machine.execStoreBucketRead slice txn uncorrectable s
  | .victimWrite slice uncorrectable => Sys2Proof.Machine.execVictimWrite slice uncorrectable s
  | .trimStep slice vfi => Sys2Proof.Machine.execTrimStep slice vfi s
  | .moveLineStart slice place => Sys2Proof.Machine.execMoveLineStart slice place s
  | .zeroP slice page vfi => Sys2Proof.Machine.execZeroP slice page vfi s
  | .zeroAnswer slice answering page => Sys2Proof.Machine.execZeroAnswer slice answering page s
  | .doneP slice page => Sys2Proof.Machine.execDoneP slice page s
  | .acuForcedSettlement => Sys2Proof.Machine.execAcuForcedSettlement s
  | .channelSlot ch => Sys2Proof.Machine.execChannelSlot ch s
  | .memReadDone ch stored => Sys2Proof.Machine.execMemReadDone ch stored s
  | .scrubRead ch stored => Sys2Proof.Machine.execScrubRead ch stored s
  | .scrubLate ch => Sys2Proof.Machine.execScrubLate ch s
  | .memTemperatureRead ch temp refreshRate => Sys2Proof.Machine.execMemTemperatureRead ch temp refreshRate s
  | .memRetrain ch => Sys2Proof.Machine.execMemRetrain ch s
  | .retirementComplete spare => Sys2Proof.Machine.execRetirementComplete spare s
  | .repairDone ch refused => Sys2Proof.Machine.execRepairDone ch refused s
  | .persistentStoreWrite => Sys2Proof.Machine.execPersistentStoreWrite s
  | .hardRepair ch row refused => Sys2Proof.Machine.execHardRepair ch row refused s
  | .sramBackgroundPass island array word => Sys2Proof.Machine.execSramBackgroundPass island array word s
  | .driveStatusRead handle st => Sys2Proof.Machine.execDriveStatusRead handle st s
  | .driveSilent handle => Sys2Proof.Machine.execDriveSilent handle s
  | .ctrlRead handle pos => Sys2Proof.Machine.execCtrlRead handle pos s
  | .stagingReadResponse handle bytes poison => Sys2Proof.Machine.execStagingReadResponse handle bytes poison s
  | .streamTlpIssue handle => Sys2Proof.Machine.execStreamTlpIssue handle s
  | .inletWrite handle offset bytes poison noSlot => Sys2Proof.Machine.execInletWrite handle offset bytes poison noSlot s
  | .deliveryWriteComplete handle => Sys2Proof.Machine.execDeliveryWriteComplete handle s
  | .siltDrain handle poison => Sys2Proof.Machine.execSiltDrain handle poison s
  | .streamHandover handle => Sys2Proof.Machine.execStreamHandover handle s
  | .dcExtentAccepted vfi window port => Sys2Proof.Machine.execDcExtentAccepted vfi window port s
  | .dcExtentReleased vfi window port => Sys2Proof.Machine.execDcExtentReleased vfi window port s
  | .dcReleaseTimeout vfi window => Sys2Proof.Machine.execDcReleaseTimeout vfi window s
  | .vfiForcedSettlement vfi => Sys2Proof.Machine.execVfiForcedSettlement vfi s
  | .tenantMessageSend port body => Sys2Proof.Machine.execTenantMessageSend port body s
  | .tenantMessageGet port => Sys2Proof.Machine.execTenantMessageGet port s
  | .tenantCounterRead port slot => Sys2Proof.Machine.execTenantCounterRead port slot s
  | .cciIdentify port => Sys2Proof.Machine.execCciIdentify port s
  | .cciBackgroundOperationStatus port => Sys2Proof.Machine.execCciBackgroundOperationStatus port s
  | .cciGetResponseMessageLimit port => Sys2Proof.Machine.execCciGetResponseMessageLimit port s
  | .cciGetTimestamp port => Sys2Proof.Machine.execCciGetTimestamp port s
  | .cciIdentifySwitchDevice port => Sys2Proof.Machine.execCciIdentifySwitchDevice port s
  | .getVirtualCxlSwitchInfo port => Sys2Proof.Machine.execGetVirtualCxlSwitchInfo port s
  | .fmIdentify => Sys2Proof.Machine.execFmIdentify s
  | .fmBackgroundOperationStatus => Sys2Proof.Machine.execFmBackgroundOperationStatus s
  | .getResponseMessageLimit => Sys2Proof.Machine.execGetResponseMessageLimit s
  | .setResponseMessageLimit bytes => Sys2Proof.Machine.execSetResponseMessageLimit bytes s
  | .getTimestamp => Sys2Proof.Machine.execGetTimestamp s
  | .setTimestamp value => Sys2Proof.Machine.execSetTimestamp value s
  | .identifySwitchDevice => Sys2Proof.Machine.execIdentifySwitchDevice s
  | .getPhysicalPortState fmPort => Sys2Proof.Machine.execGetPhysicalPortState fmPort s
  | .physicalPortControl fmPort action => Sys2Proof.Machine.execPhysicalPortControl fmPort action s
  | .tunnelManagementCommand fmPort ld request => Sys2Proof.Machine.execTunnelManagementCommand fmPort ld request s
  | .portPageSelect page => Sys2Proof.Machine.execPortPageSelect page s
  | .getVersion via request => Sys2Proof.Machine.execGetVersion via request s
  | .getCapabilities via request => Sys2Proof.Machine.execGetCapabilities via request s
  | .negotiateAlgorithms via request => Sys2Proof.Machine.execNegotiateAlgorithms via request s
  | .getDigests via request => Sys2Proof.Machine.execGetDigests via request s
  | .getCertificate via request => Sys2Proof.Machine.execGetCertificate via request s
  | .spdmChallenge via request => Sys2Proof.Machine.execSpdmChallenge via request s
  | .getMeasurements via request => Sys2Proof.Machine.execGetMeasurements via request s
  | .keyExchange via request => Sys2Proof.Machine.execKeyExchange via request s
  | .spdmFinish via request => Sys2Proof.Machine.execSpdmFinish via request s
  | .endSession via request => Sys2Proof.Machine.execEndSession via request s
  | .descriptorFetchIssue => Sys2Proof.Machine.execDescriptorFetchIssue s
  | .descriptorFetchComplete ring result => Sys2Proof.Machine.execDescriptorFetchComplete ring result s
  | .fetchTimeout ring => Sys2Proof.Machine.execFetchTimeout ring s
  | .descriptorTake => Sys2Proof.Machine.execDescriptorTake s
  | .sideEntryTake => Sys2Proof.Machine.execSideEntryTake s
  | .completionIrqDelay ring => Sys2Proof.Machine.execCompletionIrqDelay ring s
  | .imageGathered => Sys2Proof.Machine.execImageGathered s
  | .recorderSample r => Sys2Proof.Machine.execRecorderSample r s
  | .recordSwap => Sys2Proof.Machine.execRecordSwap s
  | .recordWriteDone ok => Sys2Proof.Machine.execRecordWriteDone ok s
  | .timeEntry cause => Sys2Proof.Machine.execTimeEntry cause s
  | .challengeExpiry => Sys2Proof.Machine.execChallengeExpiry s
  | .feedSample cage m => Sys2Proof.Machine.execFeedSample cage m s
  | .feedRampStart cage => Sys2Proof.Machine.execFeedRampStart cage s
  | .outputGood cage => Sys2Proof.Machine.execOutputGood cage s
  | .fastComparator cage milliamps => Sys2Proof.Machine.execFastComparator cage milliamps s
  | .tstartExpiry cage => Sys2Proof.Machine.execTstartExpiry cage s
  | .trunExpiry cage => Sys2Proof.Machine.execTrunExpiry cage s
  | .outputLow cage => Sys2Proof.Machine.execOutputLow cage s
  | .rampTimeout cage => Sys2Proof.Machine.execRampTimeout cage s
  | .cooldownExpiry cage => Sys2Proof.Machine.execCooldownExpiry cage s
  | .episodeEnd cage => Sys2Proof.Machine.execEpisodeEnd cage s
  | .openSense cage => Sys2Proof.Machine.execOpenSense cage s
  | .voutOpen cage => Sys2Proof.Machine.execVoutOpen cage s
  | .fetShort cage => Sys2Proof.Machine.execFetShort cage s
  | .supplyLow cage => Sys2Proof.Machine.execSupplyLow cage s
  | .scheduledRemoval cage => Sys2Proof.Machine.execScheduledRemoval cage s
  | .shelfWakeTimeout cage => Sys2Proof.Machine.execShelfWakeTimeout cage s
  | .startUp => Sys2Proof.Machine.execStartUp s
  | .ftuRun => Sys2Proof.Machine.execFtuRun s
  | .sramSwept => Sys2Proof.Machine.execSramSwept s
  | .memTrained => Sys2Proof.Machine.execMemTrained s
  | .fwVerified => Sys2Proof.Machine.execFwVerified s
  | .fmpReady stores => Sys2Proof.Machine.execFmpReady stores s
  | .evrRun => Sys2Proof.Machine.execEvrRun s
  | .eqLoaded => Sys2Proof.Machine.execEqLoaded s
  | .ppuRun => Sys2Proof.Machine.execPpuRun s
  | .memSwept => Sys2Proof.Machine.execMemSwept s
  | .mscReturned => Sys2Proof.Machine.execMscReturned s
  | .electricalIdleEntry port lanes => Sys2Proof.Machine.execElectricalIdleEntry port lanes s
  | .ideKmMessage port event => Sys2Proof.Machine.execIdeKmMessage port event s
  | .fmpLinkUp => Sys2Proof.Machine.execFmpLinkUp s
  | .memRefresh ch bank => Sys2Proof.Machine.execMemRefresh ch bank s
  | .refreshManagement ch bank => Sys2Proof.Machine.execRefreshManagement ch bank s
  | .mctpControlMessage eid => Sys2Proof.Machine.execMctpControlMessage eid s

end Sys2Proof.Machine
end

