-- ==== Sys2Proof/Machine/Step.lean ====
section
/-!
DEFINITION. One step: take the command at the front of the queue and run it on the state with the
queue's rest. With an empty queue, fabric time runs on (log entry 5).
-/

namespace Sys2Proof.Machine

/-- Fabric time advances by one phase unit unless the module is held in reset (R23, R404); a KIND 1
request that falls due then acts (R349). -/
def State.tick (s : State) : State :=
  match s.held with
  | none => s.framed s.elapse
  | some _ => s

/-- One step of the block. -/
def step (s : State) : Host.Outcome State Fault Refusal :=
  match s.pending with
  | [] => .next s.tick
  | i :: rest => exec i { s with pending := rest }

/-- The state with the command that a word spells at the front of its queue. -/
def State.withFetchWord (s : State) (nbits w : Nat) : State :=
  match decodeTableWord nbits w with
  | some i => { s with pending := i :: s.pending }
  | none => s

end Sys2Proof.Machine
end

