-- ==== Sys2Proof/Safety.lean ====
section
/-!
DEFINITION. The vocabulary of the claims: when a command reaches its unit, what a completed command
leaves, the invariants of a run, and which parts of the state a step leaves alone.
-/

namespace Sys2Proof.Machine

/-! ### When a command acts -/

/-- The module is not held in module reset (R404). -/
abbrev State.Running (s : State) : Prop := s.held = none

/-- The FMP answers register accesses, and the module runs (R309, R344). -/
abbrev State.Alive (s : State) : Prop := s.held = none ∧ s.fmpAlive = true

/-- What every opcode needs to be taken by its unit: the module runs, the unit is present and ready
(R4, R344), no restart holds it up (R348), and the take does not refuse it (R214). -/
structure Takes (o : OpSpec) (c : Cmd) (s : State) : Prop where
  running : s.held = none
  here : o.absent c (s.accept c) = false
  ready : s.opReady o.code = true
  swept : o.needsMem c = true → s.glb.memSwept = true
  free : s.mscBusy o.code = false
  granted : o.refuse c (s.accept c) = none

/-- An instant command that executes at once: taken, without a launch time, and behind no command of
its pair, range and TARGET that has yet to execute (R318). -/
structure Instant (o : OpSpec) (c : Cmd) (s : State) : Prop extends Takes o c s where
  kind : o.aligned = false
  now : c.launch = 0
  turn : (o.taken c (s.accept c)).ahead (c.ticket o.code s.ft).order = false

/-- A course-aligned command, or one with a launch time, that finds a place in the queue (R44). -/
structure Queues (o : OpSpec) (c : Cmd) (s : State) : Prop extends Takes o c s where
  kind : o.aligned = true ∨ c.launch ≠ 0
  room : s.ftu.launches.length < 4096

/-- The launched action `l` of opcode specification `o` is the next due (R45), with no restart in its way. -/
structure Due (o : OpSpec) (l : Launch) (s : State) : Prop where
  running : s.held = none
  next : pickLaunch s s.ftu.launches = some l
  code : l.op = o.code
  free : s.mscBusy o.code = false

/-! ### What a command leaves -/

/-- Command `c` of opcode `op` answers `i` at `s` with status OK and RESULT `res`: the next state is what
`f` makes of the accepted command's state, with the completion (R320), and nothing else. -/
def Completes (i : Instr) (op : Nat) (c : Cmd) (s : State) (f : State → State) (res : Nat)
    (clamp : Option Nat := none) : Prop :=
  exec i s = .next (s.framed ((f (s.accept c)).complete { c.ticket op s.ft with clamp := clamp } stOk res))

/-- Command `c` ends with status `st` and RESULT `res`, and leaves what `f` makes of the state. -/
def Answers (i : Instr) (op : Nat) (c : Cmd) (s : State) (f : State → State) (st res : Nat)
    (clamp : Option Nat := none) : Prop :=
  exec i s = .next (s.framed ((f (s.accept c)).complete { c.ticket op s.ft with clamp := clamp } st res))

/-- Command `c` ends with status `st` and no RESULT, and has no effect but its completion (R321). -/
def EndsWith (i : Instr) (op : Nat) (c : Cmd) (s : State) (st : Nat) (clamp : Option Nat := none) : Prop :=
  exec i s = .next (s.framed ((s.accept c).complete { c.ticket op s.ft with clamp := clamp } st 0))

/-- The command is taken and its unit keeps the ticket; `f` is what the unit does. -/
def Holds (i : Instr) (op : Nat) (c : Cmd) (s : State) (f : Ticket → State → State) : Prop :=
  exec i s = .next (s.framed (f (c.ticket op s.ft) (s.accept c)))

/-- The command takes a place at the end of the launch queue, and nothing else changes but what the take
itself does (R41). -/
def TakesPlace (i : Instr) (o : OpSpec) (c : Cmd) (s : State) : Prop :=
  exec i s = .next (s.framed
    { o.taken c (s.accept c) with ftu := { (o.taken c (s.accept c)).ftu with
        launches := s.ftu.launches ++ [o.entry c s.clock (o.accTime (o.taken c (s.accept c))) c.launch
          (o.reads c (o.taken c (s.accept c)))] } })

/-- What the FTU notes of the action `l` of specification `o` that has executed and left `t`: its count, and its record if it
is late (R42). One that its boundary puts off is noted when it executes. -/
def OpSpec.noted (o : OpSpec) (l : Launch) (s t : State) : State :=
  if o.defers (s.unqueue l) (l.at' (s.unqueue l)) then t
  else t.noteLaunched l.cmd (l.at' (s.unqueue l)) (o.lag l (s.unqueue l))

/-- LAUNCH_EXECUTE executes the due action `l` with the effect `f` and completes it OK with RESULT `res`. -/
def Launches (o : OpSpec) (l : Launch) (s : State) (f : State → State) (res : Nat) (clamp : Option Nat := none) : Prop :=
  exec .launchExecute s = .next (s.framed (o.noted l s ((f (s.unqueue l)).complete
    { o.launchTicket l (s.unqueue l) with clamp := minClamp (o.launchTicket l (s.unqueue l)).clamp clamp } stOk res)))

/-- LAUNCH_EXECUTE executes the due action `l`, which ends with status `st` and no effect but its completion. -/
def LaunchEnds (o : OpSpec) (l : Launch) (s : State) (st : Nat) (clamp : Option Nat := none) : Prop :=
  exec .launchExecute s = .next (s.framed (o.noted l s ((s.unqueue l).complete
    { o.launchTicket l (s.unqueue l) with clamp := minClamp (o.launchTicket l (s.unqueue l)).clamp clamp } st 0)))

/-- LAUNCH_EXECUTE executes the due action `l`, whose unit keeps the ticket; `f` is what the unit does. -/
def LaunchHolds (o : OpSpec) (l : Launch) (s : State) (f : Ticket → State → State) : Prop :=
  exec .launchExecute s = .next (s.framed (o.noted l s (f (o.launchTicket l (s.unqueue l)) (s.unqueue l))))

/-- A row of the table acts: the next state is what `f` makes of `s`, and nothing else. -/
def Acts (i : Instr) (s : State) (f : State → State) : Prop := exec i s = .next (s.framed (f s))

/-! ### Invariants -/

/-- The manager's memory and the LPDDR6 lines are in their canonical form: addresses strictly rising, and
no entry equal to what an unlisted address reads as. -/
def Memory.wf (s : State) : Bool :=
  twf 0 s.mgr && twf none s.mem.lines && s.mem.lines.all fun x => decide (x.2 ≠ some (s.mem.unlisted x.1))

/-- Every island but the NOR, the outside world, the input stage and the link generations stands at its reset
value, and fabric time at 0 (R404). -/
structure State.AtRest (s : State) : Prop where
  clock : s.clock = 0
  glb : s.glb = { causeModule := s.glb.causeModule }
  fmp : s.fmp = {}
  cmd : s.cmd = {}
  ftu : s.ftu = {}
  lnk : s.lnk = {}
  swc : s.swc = {}
  acu : s.acu = {}
  home : s.home = {}
  mem : s.mem = {}
  mse : s.mse = {}
  vfi : s.vfi = {}
  pcn : s.pcn = {}
  evr : s.evr = { log := s.evr.log, archive := s.evr.archive, times := s.evr.times }
  ppu : s.ppu = { rampDone := s.ppu.rampDone, failedRamps := s.ppu.failedRamps }
  msc : s.msc = { nor := s.msc.nor, revert := s.msc.revert }

/-- A module held in module reset stands at rest. -/
def State.HeldRests (s : State) : Prop := s.held ≠ none → s.AtRest

/-- The last value of GLB_ERR_SUMMARY that the interrupt rule saw is the present one, so that no change of a
bit from 0 to 1 is missed (R350). -/
def State.SummarySeen (s : State) : Prop := s.glb.lastSummary = s.errSummary

end Sys2Proof.Machine
end

