-- ==== Sys2Proof/Certificates/Slice0/Obligations.lean ====
section
/-!
DEFINITION. The statements about the K1024: what its commands do, what they leave alone, and the
invariants that every step keeps.
-/

open Sys2Proof Sys2Proof.Machine


/-! ### The step and its frame -/

/-- A step takes the command at the front of the queue and runs it on the state with the queue's rest; on an
empty queue fabric time runs on, and a module held in reset stands still (the model's choice: log entry 5). -/
def Obligations.StepRunsFrontCommand : Prop :=
  (∀ (i : Instr) (rest : List Instr) (s : State), s.pending = i :: rest →
    step s = exec i { s with pending := rest }) ∧
  (∀ s : State, s.pending = [] → s.held ≠ none → step s = .next s)

/-- On an empty queue, in a module that runs with no staging write in progress, a step leaves the queue empty and the
manager's memory as it is, and the central time is one phase unit later (log entry 5). -/
def Sys2Proof.Claims.IdleStepAddsOnePhaseUnit : Prop :=
  ∀ s : State, s.pending = [] → s.held = none → s.acu.writes = [] →
    ∃ t, step s = .next t ∧ t.clock = s.clock + 1 ∧ t.pending = [] ∧ t.mgr = s.mgr ∧ t.ft = (s.clock + 1) / 16

/-- No command changes the part, and none touches the queue; every command answers a next state. -/
def Sys2Proof.Claims.CommandsKeepPartAndQueue : Prop :=
  ∀ (i : Instr) (s : State), ∃ t, exec i s = .next t ∧ t.variant = s.variant ∧ t.pending = s.pending

/-- The wrapper of a command's effect leaves what the effect left, but for what the summary interrupt and the journal change:
GLB holds the present error summary as the last one seen, the FMP's pending and waiting vectors, its list of vectors sent in the cycle, which is over, the counters, the queues
of the memory channels, which take the journal's writes, and the outputs may differ, the outputs by the summary vector at most; the part, the carrier's EEPROM and the queue are those
of the state the command found, and a module that runs goes on running. -/
def Sys2Proof.Claims.FrameAddsOnlyTheSummaryInterrupt : Prop :=
  ∀ (s u : State), let v := s.framed u
    v = { u with held := none, variant := s.variant, eeprom := s.eeprom, pending := s.pending,
                 glb := { u.glb with lastSummary := u.errSummary },
                 fmp := { u.fmp with pend := v.fmp.pend, waiting := v.fmp.waiting, sent := [] },
                 mem := { u.mem with chans := v.mem.chans }, pcn := v.pcn, out := v.out } ∧
    (v.out = u.out ∨ v.out = u.out ++ [.msix u.glb.irqVec])

/-- A module held in module reset stays as it is under a ring command, a doorbell, a message at a lane port, a
request at a home slice, a course boundary, a descriptor's take and a launch (R404). Shown for one command of each of
these kinds. -/
def Sys2Proof.Claims.HeldModuleIgnoresCommands : Prop :=
  ∀ (s : State) (c : Cmd) (r : Ring) (w : Word) (p : Port) (m : Msg) (k : Slice), s.held ≠ none →
    exec (.nop c) s = .next s ∧ exec (.acuCommit c) s = .next s ∧ exec (.sqTailDoorbell r w) s = .next s ∧
    exec (.messageIngress (.lanePort p) m) s = .next s ∧ exec (.homeRequest k m) s = .next s ∧
    exec .courseBoundary s = .next s ∧ exec .descriptorTake s = .next s ∧ exec .launchExecute s = .next s

/-! ### Global opcodes and completions -/

/-- A global opcode that its unit takes and executes at once completes OK: NOP with RESULT 0 and no other effect;
GLB_IDENTIFY writes the image of the GLB window at the address in bytes 16 to 23 and returns GLB_CAP; RING_CLAMP_READ
returns the clamp count of the pair in byte 16, at most 63, and with bit 0 of byte 17 zeroes that pair's count and last
clamp; EVENT_FILTER_SET stores bytes 24 to 55. A reserved opcode of a module that runs completes BAD_OPCODE with no
other effect. -/
def Obligations.GlobalOpcodesComplete : Prop :=
  ∀ (c : Cmd) (s : State),
    (Instant opNop c s → Completes (.nop c) 0x00 c s id 0) ∧
    (Instant opGlbIdentify c s →
      Completes (.glbIdentify c) 0x01 c s (fun t => t.mgrWrite (c.le 16 8) t.glbImage) (capOf s.variant).toNat) ∧
    (Instant opRingClampRead c s → Completes (.ringClampRead c) 0x02 c s
      (fun t => if bitOf (c.byte 17) 0 then
          t.modPair (min 63 (c.byte 16)) fun r => { r with clamps := 0, lastClamp := 0 }
        else t)
      ((s.accept c).pair (min 63 (c.byte 16))).clamps (if c.byte 16 ≤ 63 then none else some 16)) ∧
    (Instant opEventFilterSet c s → Completes (.eventFilterSet c) 0x03 c s
      (fun t => { t with cmd := { t.cmd with evtFilter := BitVec.ofNat 256 (c.le 24 32) } }) 0) ∧
    (s.held = none → exec (.reservedOpcode c) s =
      .next (s.framed ((s.accept c).complete (c.ticket c.opcode s.ft) stBadOpcode 0)))

/-- The completion of a command without a clamp, on a pair that runs, holds no completion and has its interrupt off:
the 16 bytes of Table 12-4 stand at the CQ tail, the tail advances and PHASE inverts as it wraps, the command no longer
counts as in flight, the pair's clamp count stays, and no other byte of the manager's memory and no other pair changes. -/
def Obligations.CompletionIsWrittenAtTheCqTail : Prop :=
  ∀ (s : State) (tk : Ticket) (p : Ring) (st res : Nat),
    tk.src = .ring p → tk.clamp = none → (s.pair p).state = .running → (s.pair p).held = [] →
    (s.pair p).irqEn = false →
    let t := s.complete tk st res
    let r := s.pair p
    let a := r.cqBase + r.cqTail * 16
    t.mgrRead a 16 = leBytes 2 tk.tag ++ leBytes 1 st ++ [BitVec.ofNat 8 (bit r.phase + 4 * bit tk.late)] ++
      leBytes 6 tk.ft ++ leBytes 2 r.sqHead ++ leBytes 4 res ∧
    (∀ b, b < 2 ^ 64 → (∀ k < 16, b ≠ (a + k) % 2 ^ 64) → tget 0 t.mgr b = tget 0 s.mgr b) ∧
    (t.pair p).cqTail = (r.cqTail + 1) % 2 ^ r.log2 ∧
    (t.pair p).phase = (if (r.cqTail + 1) % 2 ^ r.log2 = 0 then !r.phase else r.phase) ∧
    (t.pair p).inflight = r.inflight - 1 ∧ (t.pair p).clamps = r.clamps ∧
    (∀ q, q ≠ p.val → t.pair q = s.pair q)

/-- The completion of a ring's clamped command adds one to its pair's clamp count and leaves the opcode, the clamped byte
offset and the TAG in CMD_RING_LAST_CLAMP, with CMD_REG_CLAMP as it was; that of a clamped register write adds one to
CMD_REG_CLAMP and does nothing else (R322). -/
def Sys2Proof.Claims.ClampIsCountedOnItsRing : Prop :=
  (∀ (s : State) (tk : Ticket) (p : Ring) (off st res : Nat), tk.src = .ring p → tk.clamp = some off →
    ((s.complete tk st res).pair p).clamps = satAdd 32 (s.pair p).clamps 1 ∧
    ((s.complete tk st res).pair p).lastClamp = tk.op + off * 2 ^ 8 + tk.tag * 2 ^ 16 ∧
    (s.complete tk st res).cmd.regClamp = s.cmd.regClamp) ∧
  (∀ (s : State) (tk : Ticket) (off st res : Nat), tk.src = .side → tk.clamp = some off →
    s.complete tk st res = { s with cmd := { s.cmd with regClamp := satAdd 32 s.cmd.regClamp 1 } })

/-- A submitted command whose unit is absent completes UNIT_ABSENT, whatever the readiness bits read; one whose unit is
present and whose readiness bit is 0, or that needs LPDDR6 lines before they are swept, completes NOT_READY. Nothing
follows but that completion (R4, R344). -/
def Sys2Proof.Claims.AbsentOrNotReadyHasNoEffect : Prop :=
  ∀ (o : OpSpec) (c : Cmd) (s : State),
    (o.absent c (s.accept c) = true → o.submit c s = (s.accept c).complete (c.ticket o.code s.ft) stAbsent 0) ∧
    (o.absent c (s.accept c) = false → s.opReady o.code = false →
      o.submit c s = (s.accept c).complete (c.ticket o.code s.ft) stNotReady 0) ∧
    (o.absent c (s.accept c) = false → s.opReady o.code = true → o.needsMem c = true → s.glb.memSwept = false →
      o.submit c s = (s.accept c).complete (c.ticket o.code s.ft) stNotReady 0)

/-! ### Fabric time -/

/-- TIME_COURSE_SET, TIME_SYNC_SET and TIME_SYNC_OUT_SET take a place in the launch queue, with a launch time or
without. Once due, TIME_COURSE_SET sets LEN_LOG2 from byte 16, clamped to 10 to 17; TIME_SYNC_SET, of a descriptor whose
POL, M and P lie in their ranges, sets IN_EN, POL, STANDBY, P, M and IN_DELAY; and TIME_SYNC_OUT_SET, of a descriptor,
sets OUT_EN, ADV (at most 512) and DIV (clamped to 1 to 4,096), and notes the instant at which the output was enabled.
Each completes OK, with the clamped byte offset. -/
def Sys2Proof.Claims.AlignedTimeOpcodesWaitThenAct : Prop :=
  ∀ (c : Cmd) (l : Launch) (s : State),
    (Queues opTimeCourseSet c s → TakesPlace (.timeCourseSet c) opTimeCourseSet c s) ∧
    (Queues opTimeSyncSet c s → TakesPlace (.timeSyncSet c) opTimeSyncSet c s) ∧
    (Queues opTimeSyncOutSet c s → TakesPlace (.timeSyncOutSet c) opTimeSyncOutSet c s) ∧
    (Due opTimeCourseSet l s → Launches opTimeCourseSet l s
      (fun t => State.streamsRelength { t with ftu := t.ftu.setLen (clampNat 10 17 (l.cmd.byte 16)) t.clock }) 0
      (if 10 ≤ l.cmd.byte 16 ∧ l.cmd.byte 16 ≤ 17 then none else some 16)) ∧
    (Due opTimeSyncSet l s → (∀ i, partSet l.cmd i = true) → bitsOf (l.cmd.le 16 4) 2 1 ≠ 3 →
      1 ≤ l.cmd.le 24 2 → l.cmd.le 24 2 ≤ 4096 →
      (syncRange (l.cmd.le 24 2) s.ftu.len).1 ≤ l.cmd.le 20 4 →
      l.cmd.le 20 4 ≤ (syncRange (l.cmd.le 24 2) s.ftu.len).2 →
      Launches opTimeSyncSet l s
        (fun t =>
          let f := t.ftu.setSync (bitOf (l.cmd.le 16 4) 0) (bitsOf (l.cmd.le 16 4) 2 1)
            (bitOf (l.cmd.le 16 4) 3) (l.cmd.le 20 4) (l.cmd.le 24 2) (l.cmd.le 26 2) (Launch.at' l t) t.clock
          { t with ftu := f }) 0) ∧
    (Due opTimeSyncOutSet l s → (∀ i, partSet l.cmd i = true) → Launches opTimeSyncOutSet l s
      (fun t => { t with ftu := { t.ftu with
          outEn := bitOf (l.cmd.le 16 4) 0,
          outFrom := if bitOf (l.cmd.le 16 4) 0 && !t.ftu.outEn then Launch.at' l t else t.ftu.outFrom,
          adv := min 512 (bitsOf (l.cmd.le 16 4) 25 16),
          outDiv := clampNat 1 4096 (l.cmd.le 20 2) } }) 0
      (minClamp (if 512 < bitsOf (l.cmd.le 16 4) 25 16 then some 16 else none)
        (if 1 ≤ l.cmd.le 20 2 ∧ l.cmd.le 20 2 ≤ 4096 then none else some 20)))

/-- The instant time opcodes: TIME_MARK completes at once with RESULT 0 and no other effect; TIME_LAUNCH_QUERY returns
the number of queued actions; TIME_ISLAND_CHECK is kept until a beacon; TIME_LAUNCH_CANCEL takes every queued action of
the ring in byte 16 (at most 63) and the tag in bytes 18 and 19 that is not yet fixed out of the queue and completes it
ABORTED, and returns their number in bits 15 to 0 and, from bit 16, the matching actions that are fixed or executing. -/
def Sys2Proof.Claims.InstantTimeOpcodes : Prop :=
  ∀ (c : Cmd) (s : State),
    (Instant opTimeMark c s → Completes (.timeMark c) 0x23 c s id 0) ∧
    (Instant opTimeLaunchQuery c s → Completes (.timeLaunchQuery c) 0x25 c s id s.ftu.launches.length) ∧
    (Instant opTimeIslandCheck c s → Holds (.timeIslandCheck c) 0x26 c s fun tk t =>
      { t with ftu := { t.ftu with checks := t.ftu.checks ++ [tk] } }) ∧
    (Instant opTimeLaunchCancel c s →
      let mine := fun (l : Launch) => l.matches (min 63 (c.byte 16)) (c.le 18 2)
      let gone := s.ftu.launches.filter fun l => mine l && !l.fixed s
      let kept := s.ftu.launches.filter fun l => !(mine l && !l.fixed s)
      let stays := s.ftu.launches.filter fun l => mine l && l.fixed s
      let begun := s.openTickets.filter fun tk => tk.launched && tk.isOf (min 63 (c.byte 16)) (c.le 18 2)
      Completes (.timeLaunchCancel c) 0x24 c s
        (fun t => gone.foldl State.abortLaunch { t with ftu := { t.ftu with launches := kept } })
        (gone.length + 2 ^ 16 * (stays.length + begun.length)) (if c.byte 16 ≤ 63 then none else some 16))

/-- The FTU's inputs, in a module that runs. REF_LOST, when it has not been seen, sets REF_LOST and makes an event-ring
entry; REF_RETURN clears it. An edge of SYNC_IN is captured; with IN_EN = 0 nothing else happens, and the first timing
edge is the reference of the next interval. Three periods without a valid edge, outside standby, begin holdover and clear
PRESENT and LOCKED, with P and the announced boundary as they were. A beacon that finds every island within 1 ns, with no
command waiting for it, only notes its FT. SYNC_OUT, when its edge is due, drives it ADV ns before the boundary, high for
a quarter of the output period. -/
def Sys2Proof.Claims.FabricTimeEvents : Prop :=
  ∀ (e : SyncEdge) (offs : List (Island × Int)) (s : State), s.held = none →
    (s.ftu.refLost = false → ∃ t, exec .refLost s = .next t ∧ t.ftu = { s.ftu with refLost := true } ∧
      (t.devRing 1).seq = ((s.devRing 1).seq + 1) % 2 ^ 32) ∧
    Acts .refReturn s (fun s => { s with ftu := { s.ftu with refLost := false } }) ∧
    (e.second = false → s.ftu.inEn = false →
      Acts (.syncEdge e) s fun s => { s with ftu := s.ftu.sense e s.clock }) ∧
    (e.second = false → s.ftu.inEn = true → (s.ftu.sense e s.clock).timing e = true → s.ftu.refEdge = none →
      Acts (.syncEdge e) s fun s =>
        { s with ftu := { s.ftu.sense e s.clock with refEdge := some (s.clock - 16 * s.ftu.inDelay) } }) ∧
    (s.ftu.inEn = true → s.ftu.holdover = false → s.ftu.standby = false → s.ftu.source = false → s.ftu.present = true →
      s.ftu.lastValid.getD s.ftu.enabledAt + 48 * s.ftu.period ≤ s.clock →
      ∃ t, exec .syncAbsent s = .next t ∧ t.ftu.present = false ∧ t.ftu.holdover = true ∧ t.ftu.locked = false ∧
        t.ftu.period = s.ftu.period ∧ t.ftu.nextBoundary = s.ftu.nextBoundary) ∧
    ((∀ x ∈ offs, x.2.natAbs ≤ 16) → s.ftu.checks = [] → s.cmd.behind = [] → s.ftu.lastBeacon + 1024 ≤ s.ft →
      Acts (.beacon offs) s fun s => { s with ftu := { s.ftu with lastBeacon := s.ft / 1024 * 1024 } }) ∧
    (s.ftu.outEn = true → s.ftu.standby = false → s.outDue s.ftu.courseNum s.ftu.boundary = true →
      Acts .syncOutEdge s fun s => { s with
        ftu := { s.ftu with outDone := some s.ftu.courseNum }
        out := s.out ++ [.syncOut (s.ftu.boundary - s.ftu.adv) (s.ftu.outHigh s.ftu.courseNum s.ftu.boundary)] })

/-- COURSE_BOUNDARY in a module that runs. Before the announced boundary it does nothing. At it, with no launched
action, the course number counts one, the boundary is the announced FT, and the next one is announced from it; with
SYNC_IN unused that lies one course length later. A TIME_COURSE_SET that is the one launched action and falls due at the
boundary already governs the course that begins: the next boundary lies the new length later. -/
def Sys2Proof.Claims.CourseBoundaryPasses : Prop :=
  ∀ s : State, s.held = none →
    (s.boundaryDue = false → Acts .courseBoundary s id) ∧
    (s.boundaryDue = true → s.ftu.launches = [] →
      ∃ t, exec .courseBoundary s = .next t ∧ t.clock = s.clock ∧ t.ftu.courseNum = s.ftu.courseNum + 1 ∧
        t.ftu.boundary = s.ftu.nextBoundary ∧
        t.ftu = { s.ftu.pass.announce with lateCount := t.ftu.lateCount } ∧
        (s.ftu.inEn = false → t.ftu.nextBoundary = s.ftu.nextBoundary + 2 ^ s.ftu.lenLog2)) ∧
    (∀ l : Launch, s.boundaryDue = true → s.ftu.launches = [l] → l.op = opTimeCourseSet.code → l.aligned = true →
      l.e ≤ s.ftu.nextBoundary → s.ftu.inEn = false →
      ∃ t, exec .courseBoundary s = .next t ∧ t.ftu.launches = [] ∧ t.ftu.courseNum = s.ftu.courseNum + 1 ∧
        t.ftu.boundary = s.ftu.nextBoundary ∧
        t.ftu.nextBoundary = s.ftu.nextBoundary + 2 ^ clampNat 10 17 (l.cmd.byte 16))

/-! ### The launch queue -/

/-- The queue entry of a command accepted at `a` with launch time `t`: its launch time is at most 2^46 ns after the
acceptance, its effective time is the later of that and 256 ns after the acceptance, it is marked clamped when the launch
time was reduced, and it waits for a boundary when its opcode is course-aligned or it comes too late for its instant. -/
def Sys2Proof.Claims.LaunchEntryFollowsTheLead : Prop :=
  ∀ (o : OpSpec) (c : Cmd) (stamp a t : Nat) (data : List Byte),
    let l := o.entry c stamp a t data
    l.e = max (min t (a + 2 ^ 46)) (a + 256) ∧ l.launch = min t (a + 2 ^ 46) ∧
    (l.clamped = true ↔ a + 2 ^ 46 < t) ∧ (o.aligned = true → l.aligned = true) ∧
    (o.aligned = false → (l.aligned = true ↔ t < a + 256)) ∧ a + 256 ≤ l.e

/-- Of the due actions the first in the order of launch time, acceptance stamp and rotating key executes: the action
picked is due and in the queue, and no due action of the queue lies before it. -/
def Sys2Proof.Claims.DueActionsExecuteInOrder : Prop :=
  ∀ (s : State) (q : List Launch) (l : Launch), pickLaunch s q = some l →
    l ∈ q ∧ l.due s = true ∧ ∀ m ∈ q, m.due s = true → keyLt (m.key s.slot) (l.key s.slot) = false

/-- The rotating key puts every source first once in every S slots: distinct sources have distinct keys in every
slot, and for each source there is a slot in which it has key 0. -/
def Sys2Proof.Claims.RotatingKeyIsFair : Prop :=
  ∀ (size : Nat), 0 < size →
    (∀ p q slot, p < size → q < size → p ≠ q → tieKey p slot size ≠ tieKey q slot size) ∧
    (∀ p k, p < size → ∃ slot, k ≤ slot ∧ slot < k + size ∧ tieKey p slot size = 0)

/-- The descriptor taken next is at the head of a pair and may be taken; no head that may be taken has an earlier stamp,
and none of the same stamp a lower rotating key. -/
def Sys2Proof.Claims.EarliestDescriptorIsTaken : Prop :=
  ∀ (slot : Nat) (t : Tbl RingPair) (p : Nat) (d : WaitDesc), pickTake slot t = some (p, d) →
    (∃ r, (p, r) ∈ t ∧ r.takeable p = some d) ∧
    ∀ q r e, (q, r) ∈ t → r.takeable q = some e →
      d.stamp < e.stamp ∨ (d.stamp = e.stamp ∧ tieKey p slot 64 ≤ tieKey q slot 64)

/-! ### Access control -/

/-- A staging write that is taken and executes at once puts its entry, each field at its nearest legal value, into the
staged bank, and nothing else changes but its count: regions, Plinth regions, colour windows that overlap no other
enabled one, requesters, keys and port maps, each with its index or extent as RESULT and its clamped byte offset.
ACU_TAG_SET within its range and with its tag in the descriptor is kept until its last tag is written, 2.048 tags a ns
after the tag write before it. -/
def Sys2Proof.Claims.StagingWritesGoToTheStagedBank : Prop :=
  ∀ (c : Cmd) (s : State),
    (Instant opAcuRegionSet c s →
      let i := min 2047 (c.le 16 2)
      Completes (.acuRegionSet c) 0x30 c s
        (fun t => t.stage fun b => { b with regions := tset 0 b.regions i (BitVec.ofNat 128 (regionLegal (c.le 24 16))) })
        i (minClamp (if c.le 16 2 ≤ 2047 then none else some 16) (regionClamp 6 (c.le 24 16)))) ∧
    (Instant opAcuPlinthSet c s →
      let i := min 63 (c.byte 16)
      Completes (.acuPlinthSet c) 0x31 c s
        (fun t => t.stage fun b => { b with plinth := tset 0 b.plinth i (BitVec.ofNat 128 (plinthLegal (c.le 24 16))) })
        i (minClamp (if c.byte 16 ≤ 63 then none else some 16) (regionClamp 9 (c.le 24 16)))) ∧
    (Instant opAcuWindowSet c s →
      let i := min 63 (c.byte 16)
      let w := (CWin.of (c.le 24 16)).legal
      (∀ x ∈ s.acu.staged.windows, x.1 ≠ i → (CWin.of x.2.toNat).en = true → w.overlaps (CWin.of x.2.toNat) = false) →
      Completes (.acuWindowSet c) 0x32 c s
        (fun t => t.stage fun b => { b with windows := tset 0 b.windows i (BitVec.ofNat 128 w.image) })
        (if w.en then w.count else 0)
        (minClamp (if c.byte 16 ≤ 63 then none else some 16) (CWin.of (c.le 24 16)).clamp)) ∧
    (Instant opAcuReqSet c s →
      let r := min 4095 (c.le 16 2)
      Completes (.acuReqSet c) 0x34 c s
        (fun t => t.stage fun b =>
          let e := { tget {} b.req r with valid := bitOf (c.byte 18) 0, hostDma := bitOf (c.byte 18) 1, vfi := c.byte 19 }
          { b with req := tset {} b.req r e })
        r (if c.le 16 2 ≤ 4095 then none else some 16)) ∧
    (Instant opAcuKeysSet c s →
      let r := min 4095 (c.le 16 2)
      let mask := BitVec.ofNat 256 (c.le 24 32 / 2 * 2)
      let e := tget {} s.acu.staged.req r
      Completes (.acuKeysSet c) 0x35 c s
        (fun t => t.stage fun b =>
          let e := { e with rd := if min 2 (c.byte 18) = 1 then e.rd else mask,
                            wr := if min 2 (c.byte 18) = 0 then e.wr else mask }
          { b with req := tset {} b.req r e })
        r (minClamp (if c.le 16 2 ≤ 4095 then none else some 16) (if c.byte 18 ≤ 2 then none else some 18))) ∧
    (Instant opAcuPortMapSet c s →
      let p := min 1023 (c.le 16 2)
      let n := min 16 (c.byte 20)
      let base := min (c.le 18 2) (3836 - n)
      Completes (.acuPortMapSet c) 0x36 c s
        (fun t => t.stage fun b => { b with portMap := tset (0, 0) b.portMap p (base, n) }) (base + 2 ^ 16 * n)
        (minClamp (if c.le 16 2 ≤ 1023 then none else some 16)
          (minClamp (if base ≠ c.le 18 2 then some 18 else none) (if c.byte 20 ≤ 16 then none else some 20)))) ∧
    (Instant opAcuTagSet c s → c.le 16 4 ≤ 1048575 → 1 ≤ c.le 20 4 → c.le 16 4 + c.le 20 4 ≤ 1048576 → c.byte 25 = 0 →
      Holds (.acuTagSet c) 0x33 c s fun tk t =>
        let stop' := max t.acu.stagedAt s.ft + ceilDiv (c.le 20 4 * 1000) 2048
        let w : TagWrite := { ticket := { tk with ft := stop' }, first := c.le 16 4,
                              tags := List.replicate (c.le 20 4) (BitVec.ofNat 8 (c.byte 24)), at' := stop' }
        { t with acu := { t.acu with stagedAt := stop', writes := t.acu.writes ++ [w] } })

/-- The first tag write in progress does nothing before the FT of its last tag; at that FT its tags stand in the staged
bank, one for each index from the first on, with every other tag as it was, and ACU_TAG_SET completes with their number. -/
def Sys2Proof.Claims.TagWriteEndsWithItsLastTag : Prop :=
  ∀ (s : State) (w : TagWrite) (ws : List TagWrite), s.acu.writes = w :: ws →
    (s.ft < w.at' → s.tagsWritten = s) ∧
    (w.at' ≤ s.ft → s.tagsWritten =
      ((({ s with acu := { s.acu with writes := ws } } : State).stage
        fun b => { b with tags := setTags w.tags b.tags w.first }).complete w.ticket stOk w.tags.length)) ∧
    (∀ k, tget 0 (setTags w.tags s.acu.staged.tags w.first) k =
      if w.first ≤ k ∧ k < w.first + w.tags.length then w.tags.getD (k - w.first) 0 else tget 0 s.acu.staged.tags k)

/-- While a commit is pending, every staging opcode of a present unit and every further commit completes BUSY with no
other effect; so does a commit while three epochs drain. -/
def Sys2Proof.Claims.StagingIsBusyDuringACommit : Prop :=
  ∀ (c : Cmd) (s : State),
    (∀ o ∈ [opAcuRegionSet, opAcuPlinthSet, opAcuWindowSet, opAcuTagSet, opAcuReqSet, opAcuKeysSet, opAcuPortMapSet,
        opVfiColourSet, opAcuDiscard, opAcuCommit],
      o.absent c (s.accept c) = false → s.glb.sramSwept = true → s.acu.commitPending = true →
      o.submit c s = (s.accept c).complete (c.ticket o.code s.ft) stBusy 0) ∧
    (s.glb.sramSwept = true → 3 ≤ s.draining →
      opAcuCommit.submit c s = (s.accept c).complete (c.ticket 0x37 s.ft) stBusy 0)

/-- ACU_COMMIT takes a place in the launch queue, with the acceptance time of R214 and the commit marked pending. Once
due, the active bank is the staged one, the staged one stays, the epoch counts one, the commit is no longer pending, the
mode is the one in byte 16 (at most 2), and the old epoch's slot ends at the action's instant and holds the ticket. -/
def Sys2Proof.Claims.CommitMakesTheStagedBankActive : Prop :=
  ∀ (c : Cmd) (l : Launch) (s : State),
    (Queues opAcuCommit c s → TakesPlace (.acuCommit c) opAcuCommit c s) ∧
    (Due opAcuCommit l s → ∃ t, exec .launchExecute s = .next t ∧ t.acu.active = s.acu.staged ∧
      t.acu.staged = s.acu.staged ∧ t.acu.epoch = (s.acu.epoch + 1) % 2 ^ 32 ∧ t.acu.commitPending = false ∧
      t.acu.service = commitService s.acu.service (min 2 (l.cmd.byte 16)) ∧
      (t.acu.slotAt s.acu.epoch).endedAt = some (l.at' s) ∧
      (t.acu.slotAt s.acu.epoch).ticket.isSome = true)

/-- ACU_DISCARD makes the staged bank a copy of the active one. ACU_QUERY within its ranges answers what a check of the
active bank decides, or of the staged bank in the mode the pending commit brings; ACU_TAG_QUERY of an address below 2^56
answers the colour and the window of both banks; ACU_DRAIN_QUERY answers the sum latched for the draining epoch that
ended first. The queries have no other effect. -/
def Sys2Proof.Claims.AccessQueriesAnswerTheDecision : Prop :=
  ∀ (c : Cmd) (s : State),
    (Instant opAcuDiscard c s → Completes (.acuDiscard c) 0x38 c s
      (fun t => { t with acu := { t.acu with staged := t.acu.active } }) 0) ∧
    (Instant opAcuQuery c s → c.le 16 8 < 2 ^ 56 → 1 ≤ c.le 24 2 → c.le 24 2 ≤ 4096 →
      (c.le 26 2 ≤ 4095 ∨ c.le 26 2 = 0xFFFF) → c.byte 28 ≤ 3 → c.byte 29 ≤ 1 →
      let rid := if c.le 26 2 = 0xFFFF then none else some (c.le 26 2)
      let service := if s.acu.commitPending then commitService s.acu.service s.acu.commitMode else s.acu.service
      let r := if c.byte 29 = 0 then s.check rid (c.byte 28) (c.le 16 8) (c.le 24 2)
        else decideAccess service s.acu.plinthDma s.acu.staged [] rid (c.byte 28) (c.le 16 8) (c.le 24 2)
      Completes (.acuQuery c) 0x39 c s id (if r.1 = 0 then 0 else r.2 % 4096 + 2 ^ 16 * r.1)) ∧
    (Instant opAcuTagQuery c s → c.le 16 8 < 2 ^ 56 →
      let win (b : AcuBank) : Nat := match b.window (c.le 16 8) with | some x => x.1 | none => 0x3F
      let a := s.acu.active.closed s.acu.bad
      Completes (.acuTagQuery c) 0x3A c s id
        (a.colour (c.le 16 8) + 2 ^ 8 * s.acu.staged.colour (c.le 16 8) + 2 ^ 16 * win a + 2 ^ 24 * win s.acu.staged)) ∧
    (Instant opAcuDrainQuery c s → Completes (.acuDrainQuery c) 0x3B c s id
      (match s.oldestDrain with | some x => (x.latched % 2 ^ 32).toNat | none => 0))

/-- What a check of a read, a write or both decides: the access is permitted exactly when each of its 64-byte lines is;
otherwise it is rejected with the reason of its first line that is not permitted, at that line's first byte within the
access. -/
def Obligations.AccessIsGrantedWholeOrRejected : Prop :=
  ∀ (s : State) (rid : Option Nat) (kind fma len : Nat), kind < 3 → 1 ≤ len →
    let verdict := fun k => verdictAt s.acu.service s.acu.active s.acu.bad rid kind (64 * k)
    ((s.check rid kind fma len).1 = 0 ↔ ∀ k, fma / 64 ≤ k → k ≤ (fma + len - 1) / 64 → verdict k = 0) ∧
    ((s.check rid kind fma len).1 ≠ 0 → ∃ k, fma / 64 ≤ k ∧ k ≤ (fma + len - 1) / 64 ∧
      verdict k = (s.check rid kind fma len).1 ∧ (s.check rid kind fma len).2 = max fma (64 * k) - fma ∧
      ∀ j, fma / 64 ≤ j → j < k → verdict j = 0)

/-- A colour grants nothing where it is 0, and where it is not, exactly when the requester's keys and the instance's
colour mask both hold it; a byte outside every window has colour 0. -/
def Sys2Proof.Claims.ColourMatchDecides : Prop :=
  ∀ (b : AcuBank) (e : ReqEntry) (p fma : Nat),
    (b.window fma = none → b.colour fma = 0) ∧
    ((∃ x ∈ b.regions, regionGrants x.2.toNat e.vfi p fma = true) →
      (∀ x ∈ b.regions, regionGrants x.2.toNat e.vfi p fma = true → bitOf x.2.toNat 3 = true) →
      servicePerm b e p fma =
        if b.colour fma = 0 then rUnassigned
        else if ((if p = 1 then e.rd else e.wr) &&& b.colourMask e.vfi).getLsbD (b.colour fma) = true then rPermitted
        else rColourKey) ∧
    ((∀ x ∈ b.regions, regionGrants x.2.toNat e.vfi p fma = false) → servicePerm b e p fma = rNoRegion)

/-- The drain of an epoch that ended at boundary `b`: where its sum was zero at an earlier boundary, its ticket completes OK
with the new epoch in bits 31 to 16 and the forced settlements, at most 65,535, in bits 15 to 0, and the slot is free;
otherwise its sum is latched, the ticket stays, and a zero sum at a boundary after `b` is noted. -/
def Sys2Proof.Claims.CommitCompletesAfterAZeroSum : Prop :=
  ∀ (s : State) (i b : Nat) (tk : Ticket), i < 4 → (s.acu.slotAt i).endedAt = some b → (s.acu.slotAt i).ticket = some tk →
    ((s.acu.slotAt i).zeroSeen = true →
      s.drainSlot i = ({ s with acu := s.acu.setSlot i {} } : State).complete tk stOk
        ((s.acu.slotAt i).newEpoch % 65536 * 65536 + min 65535 (s.acu.slotAt i).forced)) ∧
    ((s.acu.slotAt i).zeroSeen = false →
      (((s.drainSlot i).acu.slotAt i).zeroSeen = true ↔ (s.acu.slotAt i).total = 0 ∧ b < s.ftu.boundary) ∧
      ((s.drainSlot i).acu.slotAt i).latched = (s.acu.slotAt i).total ∧
      ((s.drainSlot i).acu.slotAt i).ticket = some tk)

/-- ACU_FETCH_RESPONSE, with at most two fetches open, brings the line of 64 tags into the station's cache and leaves both
banks as they are; an uncorrectable entry is marked bad; a requester's entry without an error changes nothing.
ACU_FORCED_SETTLEMENT settles each of the four slots, and one whose completion timeout has passed then has no open access
and is settled once. -/
def Sys2Proof.Claims.AccessEvents : Prop :=
  ∀ (isl : Island) (i : Fin 1048576) (s : State), s.held = none →
    (s.acu.fetches.length ≤ 2 → ∃ t, exec (.acuFetchResponse isl (.tag i) false) s = .next t ∧
      i.val / 64 ∈ tget [] t.acu.cached isl ∧ t.acu.active = s.acu.active ∧ t.acu.staged = s.acu.staged) ∧
    (∃ t, exec (.acuFetchResponse isl (.tag i) true) s = .next t ∧ (4, i.val) ∈ t.acu.bad ∧
      t.acu.active = s.acu.active ∧ t.acu.staged = s.acu.staged) ∧
    (∀ r, Acts (.acuFetchResponse isl (.requester r) false) s id) ∧
    Acts .acuForcedSettlement s (fun s => [0, 1, 2, 3].foldl State.cutSlot s) ∧
    (∀ (u : State) (k e : Nat), u.cutDue k = some e →
      ((u.cutSlot k).acu.slotAt k).cutDone = true ∧ ((u.cutSlot k).acu.slotAt k).total = 0)

/-! ### Ports -/

/-- The port opcodes that change a port's state, for a port in range. PORT_CONFIG applies the settings and returns those
that resulted, or completes NO_RESOURCE with no effect where an upstream port too many would be enabled; PORT_DISABLE
clears EN and returns the link generation; PORT_RETRAIN asks an UP port for Recovery (mode 0), or takes the link down to
DETECT (mode 1), and answers 0xFFFFFFFF for a port that is not enabled; PORT_DPC_RELEASE takes a contained port to DETECT
and returns 1 for any other; PORT_HOT_RESET resets an enabled downstream port's link, is DENIED for another role, and
answers 0xFFFFFFFF for a port that is not enabled. -/
def Sys2Proof.Claims.PortStateOpcodes : Prop :=
  ∀ (c : Cmd) (s : State), c.target ≤ 1023 →
    let p := c.target
    (∀ t, Instant opPortConfig c s → (s.accept c).configure p (PortCfg.of (c.le 16 4)) = some t →
      Completes (.portConfig c) 0x10 c s (fun _ => t) (t.port p).cfg.image
        (if (t.port p).cfg.image ≠ c.le 16 4 % 2 ^ 15 then some 16 else none)) ∧
    (Instant opPortConfig c s → (s.accept c).configure p (PortCfg.of (c.le 16 4)) = none →
      EndsWith (.portConfig c) 0x10 c s stNoResource
        (if (PortCfg.of (c.le 16 4)).image ≠ c.le 16 4 % 2 ^ 15 then some 16 else none)) ∧
    (∀ t, Instant opPortDisable c s → (s.accept c).configure p { (s.port p).cfg with en := false } = some t →
      Completes (.portDisable c) 0x11 c s (fun _ => t) (t.port p).gen) ∧
    (Instant opPortRetrain c s → c.byte 16 ≤ 1 → (s.port p).cfg.en = false →
      Completes (.portRetrain c) 0x12 c s id noPort) ∧
    (Instant opPortRetrain c s → c.byte 16 = 0 → (s.port p).cfg.en = true → (s.port p).state = .up →
      Completes (.portRetrain c) 0x12 c s (fun t => t.emit (.retrain (Fin.ofNat 1024 p))) 0) ∧
    (Instant opPortRetrain c s → c.byte 16 = 0 → (s.port p).cfg.en = true → (s.port p).state ≠ .up →
      Completes (.portRetrain c) 0x12 c s id 0) ∧
    (Instant opPortRetrain c s → c.byte 16 = 1 → (s.port p).cfg.en = true → (s.port p).state = .up →
      Completes (.portRetrain c) 0x12 c s (fun t => (t.linkDown p).toDetect p) 0) ∧
    (Instant opPortRetrain c s → c.byte 16 = 1 → (s.port p).cfg.en = true → (s.port p).state = .training →
      Completes (.portRetrain c) 0x12 c s (fun t => (t.quiet p).toDetect p) 0) ∧
    (Instant opPortRetrain c s → c.byte 16 = 1 → (s.port p).cfg.en = true → (s.port p).state ≠ .up →
      (s.port p).state ≠ .training → Completes (.portRetrain c) 0x12 c s id 0) ∧
    (Instant opPortDpcRelease c s → (s.port p).state = .contained →
      Completes (.portDpcRelease c) 0x14 c s (fun t => t.toDetect p) 0) ∧
    (Instant opPortDpcRelease c s → (s.port p).state ≠ .contained → Completes (.portDpcRelease c) 0x14 c s id 1) ∧
    (Instant opPortHotReset c s → (s.port p).cfg.en = false → Completes (.portHotReset c) 0x19 c s id noPort) ∧
    (Instant opPortHotReset c s → (s.port p).cfg.en = true → (s.port p).cfg.role ≠ 0 →
      EndsWith (.portHotReset c) 0x19 c s stDenied) ∧
    (Instant opPortHotReset c s → (s.port p).cfg.en = true → (s.port p).cfg.role = 0 → (s.port p).state = .up →
      Completes (.portHotReset c) 0x19 c s
        (fun t => ((t.emit (.hotReset (Fin.ofNat 1024 p))).linkDown p).toDetect p) 0) ∧
    (Instant opPortHotReset c s → (s.port p).cfg.en = true → (s.port p).cfg.role = 0 → (s.port p).state ≠ .up →
      (s.port p).state ≠ .training →
      Completes (.portHotReset c) 0x19 c s (fun t => t.emit (.hotReset (Fin.ofNat 1024 p))) 0)

/-- The port opcodes that read or set a port's registers, for a port and fields in range. PORT_STATUS returns the status,
PORT_LD_QUERY the LD map and its count, PORT_ERR_CLEAR zeroes the error flags and counters; PORT_CCI_TUNNEL sends its
request and keeps its ticket, is BUSY where one is open, and answers 0xFFFFFFFF for a port that is not enabled;
PORT_PBR_SET sets this device's number, the port's edge index (taking it from any other port) or no index, a route, a
trunk group (NO_RESOURCE beyond eight members) or none; PORT_IDE_CTRL sets REQUIRED and ends, starts or refreshes the
session, and returns the IDE status. -/
def Sys2Proof.Claims.PortSettingOpcodes : Prop :=
  ∀ (c : Cmd) (s : State), c.target ≤ 1023 →
    let p := c.target
    (Instant opPortStatus c s → Completes (.portStatus c) 0x13 c s id (s.port p).status) ∧
    (Instant opPortLdQuery c s → Completes (.portLdQuery c) 0x15 c s id
      ((s.port p).ldMap + 2 ^ 16 * popCount16 (s.port p).ldMap)) ∧
    (Instant opPortErrClear c s → Completes (.portErrClear c) 0x1A c s
      (fun t => t.modPort p fun x =>
        { x with err := 0, replay := 0, fec := 0, poisonOut := 0, npSynth := 0, ideFail := 0 }) 0) ∧
    (Instant opPortCciTunnel c s → (s.port p).cfg.en = true → (s.port p).tunnel = none → 4 ≤ c.le 24 4 →
      c.le 24 4 ≤ 4096 → (c.le 40 2 ≤ 15 ∨ c.le 40 2 = 0xFFFF) →
      Holds (.portCciTunnel c) 0x16 c s fun tk t =>
        t.openTunnel p tk false (c.le 40 2) (c.le 28 8) (c.le 36 4) (s.mgrRead (c.le 16 8) (c.le 24 4))) ∧
    (Instant opPortCciTunnel c s → (s.port p).cfg.en = true → (s.port p).tunnel.isSome = true → 4 ≤ c.le 24 4 →
      c.le 24 4 ≤ 4096 → (c.le 40 2 ≤ 15 ∨ c.le 40 2 = 0xFFFF) → EndsWith (.portCciTunnel c) 0x16 c s stBusy) ∧
    (Instant opPortCciTunnel c s → (s.port p).cfg.en = false → 4 ≤ c.le 24 4 → c.le 24 4 ≤ 4096 →
      (c.le 40 2 ≤ 15 ∨ c.le 40 2 = 0xFFFF) → Completes (.portCciTunnel c) 0x16 c s id noPort) ∧
    (Instant opPortPbrSet c s → c.byte 16 = 0 → c.byte 17 ≤ 7 → Completes (.portPbrSet c) 0x17 c s
      (fun t => State.markDirty { t with prt := { t.prt with pbrDev := some (c.byte 17) } } 2) 0) ∧
    (Instant opPortPbrSet c s → c.byte 16 = 1 → c.le 18 2 ≤ 511 → Completes (.portPbrSet c) 0x17 c s
      (fun t => (t.dropEdge (c.le 18 2)).modPort p fun x => { x with edge := some (c.le 18 2) }) 0) ∧
    (Instant opPortPbrSet c s → c.byte 16 = 1 → c.le 18 2 = 0xFFFF → Completes (.portPbrSet c) 0x17 c s
      (fun t => t.modPort p fun x => { x with edge := none }) 0) ∧
    (Instant opPortPbrSet c s → c.byte 16 = 2 → c.byte 17 ≤ 7 → c.byte 18 ≤ 7 → Completes (.portPbrSet c) 0x17 c s
      (fun t => { t with prt := { t.prt with routes := tset none t.prt.routes (c.byte 17) (some (c.byte 18)) } }) 0) ∧
    (Instant opPortPbrSet c s → c.byte 16 = 3 → c.byte 18 ≤ 7 → (s.port p).group ≠ some (c.byte 18) →
      (s.prt.ports.filter fun x => x.2.group == some (c.byte 18)).length < 8 → Completes (.portPbrSet c) 0x17 c s
      (fun t => t.modPort p fun x => { x with group := some (c.byte 18) }) 0) ∧
    (Instant opPortPbrSet c s → c.byte 16 = 3 → c.byte 18 ≤ 7 → (s.port p).group ≠ some (c.byte 18) →
      8 ≤ (s.prt.ports.filter fun x => x.2.group == some (c.byte 18)).length →
      EndsWith (.portPbrSet c) 0x17 c s stNoResource) ∧
    (Instant opPortPbrSet c s → c.byte 16 = 4 → Completes (.portPbrSet c) 0x17 c s
      (fun t => t.modPort p fun x => { x with group := none }) 0) ∧
    (Instant opPortIdeCtrl c s → c.byte 16 = 0 → c.byte 17 ≤ 1 → Completes (.portIdeCtrl c) 0x18 c s
      (fun t => (t.modPort p fun x => { x with ideRequired := c.byte 17 == 1, ideState := 0 }).emit
        (.ideKm (Fin.ofNat 1024 p) false)) (2 ^ 8 * (s.port p).keySet)) ∧
    (Instant opPortIdeCtrl c s → c.byte 16 = 1 → c.byte 17 ≤ 1 → Completes (.portIdeCtrl c) 0x18 c s
      (fun t => (t.modPort p fun x => { x with ideRequired := c.byte 17 == 1, ideState := 1 }).emit
        (.ideKm (Fin.ofNat 1024 p) true)) (1 + 2 ^ 8 * (s.port p).keySet)) ∧
    (Instant opPortIdeCtrl c s → c.byte 16 = 2 → c.byte 17 ≤ 1 → Completes (.portIdeCtrl c) 0x18 c s
      (fun t => (t.modPort p fun x => { x with ideRequired := c.byte 17 == 1 }).emit (.ideKm (Fin.ofNat 1024 p) true))
      ((s.port p).ideStatus))

/-- The resolved layout of a tile: it has the blocks asked for, the enabled ones do not overlap, each stands at an offset
its width divides, none is wider than asked or enabled without having been asked for, and its other settings are those
asked for (R75, R76). -/
def Obligations.ResolvedLayoutIsLegal : Prop :=
  ∀ (blocks : List (Nat × PortCfg)), (blocks.map (·.1)).Pairwise (· < ·) →
    let r := resolveLayout [] blocks
    r.map (·.1) = blocks.map (·.1) ∧
    (r.filter (·.2.en)).Pairwise (fun x y => x.1 + 2 ^ x.2.width ≤ y.1) ∧
    (∀ x ∈ r, x.1 % 2 ^ x.2.width = 0) ∧
    (∀ x ∈ r, ∃ y ∈ blocks, y.1 = x.1 ∧ x.2.width ≤ y.2.width ∧ (x.2.en = true → y.2.en = true) ∧
      x.2 = { y.2 with width := x.2.width, en := x.2.en })

/-- New settings of a block: the same settings change nothing; a block disabled while not UP takes them and is DISABLED;
one enabled from DISABLED takes them and enters DETECT; no other port of the state changes, unless the block's own port
was UP (R77). -/
def Sys2Proof.Claims.BlockChangeDisturbsOnlyItsPort : Prop :=
  ∀ (s : State) (p : Nat) (c : PortCfg),
    ((s.port p).cfg = c → s.applyBlock p c = s) ∧
    ((s.port p).cfg ≠ c → c.en = false → (s.port p).state ≠ .up →
      ((s.applyBlock p c).port p).cfg = c ∧ ((s.applyBlock p c).port p).state = .disabled) ∧
    ((s.port p).cfg ≠ c → c.en = true → (s.port p).state = .disabled →
      ((s.applyBlock p c).port p).cfg = c ∧ ((s.applyBlock p c).port p).state = .detect) ∧
    (∀ q, q ≠ p → (s.port p).state ≠ .up → (s.applyBlock p c).port q = s.port q)

/-- The events of a port's link. A receiver detected on an existing enabled port in DETECT, with its bank powered and
locked, its gate open, its quiet time over and its first lane wired, starts training at the first rate and the clock of
the link-up time; on a port in another state nothing happens. A link that goes down from UP runs the link-down actions and
enters DETECT, from training it passes Detect.Quiet, and from another state nothing happens. A surprise link-down of an UP
port is flagged, and with DPC enabled the port is contained. A fatal error contains an UP port that is not upstream; on an
upstream port it is only logged (R84, R86, R90). -/
def Sys2Proof.Claims.PortLinkEvents : Prop :=
  ∀ (p : Port) (s : State), s.held = none →
    (s.portExists p = true → (s.port p).cfg.en = true → (s.port p).state = .detect → (s.tileLnk (p.val / 16)).powered = true →
      (s.tileLnk (p.val / 16)).pllLock = true → s.gateShut p = false → (s.port p).quietUntil ≤ s.clock →
      (s.eqLane p).unused = false →
      Acts (.receiverDetected p) s fun s =>
        ((s.modPort p fun x => { x with
            shelfHold := false
            from16 := if x.cfg.shelfGate ∧ x.from16 ≠ 0 then x.from16 else s.clock }).modLanes p fun x =>
          { x with rate := 1, idle := false }).portTo p .training) ∧
    ((s.port p).state ≠ .detect → Acts (.receiverDetected p) s id) ∧
    ((s.port p).state = .up → Acts (.linkDown p false) s fun s => (s.linkDown p).toDetect p) ∧
    ((s.port p).state = .training → Acts (.linkDown p false) s fun s => (s.quiet p).toDetect p) ∧
    ((s.port p).state ≠ .up → (s.port p).state ≠ .training → Acts (.linkDown p false) s id) ∧
    ((s.port p).state = .up → (s.port p).cfg.dpcEn = true → Acts (.linkDown p true) s fun s =>
      (((s.modPort p fun x => { x with err := x.err ||| 1 }).linkDown p).modPort p fun x =>
        { x with err := x.err ||| 16 }).portTo p .contained) ∧
    ((s.port p).state = .up → (s.port p).cfg.dpcEn = false → Acts (.linkDown p true) s fun s =>
      ((s.modPort p fun x => { x with err := x.err ||| 1 }).linkDown p).toDetect p) ∧
    ((s.port p).state = .up → (s.port p).cfg.role ≠ 1 → Acts (.errFatal p) s fun s =>
      ((s.linkDown p).modPort p fun x => { x with err := x.err ||| 16 }).portTo p .contained) ∧
    ((s.port p).cfg.role = 1 → Acts (.errFatal p) s fun s => s.modPort p fun x => { x with aer := true })

/-- LINK_UP of a training port whose partner asks for no loop and trains at 8 GT/s or more in 256-byte flits, within 20 ms:
the port is UP at the lower of the two rates, at the widest usable width, with the link's kind and its LD map, its
training time in PRT_LINKUP_TIME and REDUCED where the width falls short; other ports and the trackers keep their state. -/
def Sys2Proof.Claims.TrainedLinkComesUp : Prop :=
  ∀ (p : Port) (t : TrainResult) (s : State), s.held = none → (s.port p).state = .training → 3 ≤ t.rate.val →
    3 ≤ (s.port p).cfg.maxRate → t.loopback = false → t.mode.val = 2 → s.clock - (s.port p).from16 ≤ ms16 20 →
    ∃ u, exec (.linkUp p t) s = .next u ∧ (u.port p).state = .up ∧
      (u.port p).rate = min t.rate.val (s.port p).cfg.maxRate ∧ (u.port p).mode = 2 ∧
      (u.port p).width = min t.width.val (s.usableWidth p t.laneOrder (s.port p).cfg.width) ∧
      (u.port p).cxl = t.cxl ∧ (u.port p).mld = t.mld ∧ (u.port p).dcd = t.dcd ∧ (u.port p).ldMap = t.ldMap.toNat ∧
      (u.port p).linkupTime = (s.clock - (s.port p).from16) / 16000 ∧ (u.port p).gen = (s.port p).gen ∧
      (u.port p).err = (s.port p).err |||
        (if (u.port p).width < (s.port p).cfg.width then 32 else 0) ∧
      (∀ q, q ≠ p.val → u.port q = s.port q) ∧ u.prt.trackers = s.prt.trackers ∧ u.clock = s.clock

/-- A good flit on an UP port counts, brings the rest of an open message and leaves none open; a CRC failure counts a
replay; an ECC error in the receive buffer poisons the open message; a port that is not UP takes no flit. A tracker's
release frees its entry and settles its access where that is still open. A tunnelled response is written to the manager's
memory and completes its command OK; the tunnel's timeout completes it TIMEOUT when its deadline has passed and does
nothing before. A key-management session becomes Secure with its key set on the part that has IDE, and does nothing on
another. An idle entry puts the named lanes of an UP port into idle, and changes no port and none of the manager's memory. -/
def Sys2Proof.Claims.PortTrafficEvents : Prop :=
  ∀ (p : Port) (f : FlitResult) (body : List Byte) (s : State), s.held = none →
    ((s.port p).state = .up → f.outcome = .good → f.slotsLeft = 0 → (s.port p).openMsg = none →
      Acts (.flitReceive p f) s fun s =>
        (s.cntTile (p / 16) 0x10 none (some (p % 16))).modPort p fun x => { x with openMsg := none }) ∧
    (∀ o, (s.port p).state = .up → f.outcome = .good → f.slotsLeft = 0 → (s.port p).openMsg = some o →
      Acts (.flitReceive p f) s fun s =>
        ((s.cntTile (p / 16) 0x10 none (some (p % 16))).slotsArrive p o.slots false).modPort p fun x =>
          { x with openMsg := none }) ∧
    ((s.port p).state = .up → f.outcome = .crcFail → Acts (.flitReceive p f) s fun s =>
      (s.modPort p fun x => { x with replay := satAdd 16 x.replay 1 }).cntTile (p / 16) 0x12 none (some (p % 16))) ∧
    ((s.port p).state = .up → f.outcome = .bufferEcc → Acts (.flitReceive p f) s fun s =>
      (s.cntTile (p / 16) 0x10 none (some (p % 16))).poisonOpen p 3) ∧
    ((s.port p).state ≠ .up → Acts (.flitReceive p f) s id) ∧
    (∀ (t : Tile) (tag : BitVec 16) (e : Tracker),
      (s.trackers t).find? (fun e => e.port == p.val && e.tag == tag.toNat) = some e →
      (e.settled = true → Acts (.trackerFree t p tag) s fun s => s.modTrackers t fun l => l.erase e) ∧
      (e.settled = false → Acts (.trackerFree t p tag) s fun s =>
        (s.modTrackers t fun l => l.erase e).settle t e.epoch)) ∧
    (∀ u, (s.port p).tunnel = some u → u.fm = false →
      Acts (.cciTunnelResponse p body) s fun s =>
        ((s.modPort p fun x => { x with tunnel := none }).mgrWrite u.respAddr (body.take u.capacity)).complete
          u.ticket stOk body.length) ∧
    (∀ u, (s.port p).tunnel = some u → u.fm = false → u.deadline ≤ s.clock →
      Acts (.cciTunnelTimeout p) s fun s => (s.modPort p fun x => { x with tunnel := none }).complete u.ticket stTimeout 0) ∧
    (∀ u, (s.port p).tunnel = some u → s.clock < u.deadline → Acts (.cciTunnelTimeout p) s id) ∧
    (s.isF = true → (s.port p).state = .up → (s.port p).ideState = 1 → ∀ k : Byte,
      Acts (.ideKmMessage p (.secure k)) s fun s => s.modPort p fun x => { x with ideState := 2, keySet := k.toNat }) ∧
    (s.isF = false → ∀ e, Acts (.ideKmMessage p e) s id) ∧
    (∀ lanes : BitVec 16, (s.port p).state = .up →
      ∃ t, exec (.electricalIdleEntry p lanes) s = .next t ∧
        ∀ l, (t.lane l).idle = ((s.lane l).idle || (s.portLanes p).contains l && lanes.getLsbD (l - p.val)) ∧
          t.prt = s.prt ∧ t.mgr = s.mgr)

/-! ### Lanes and shelf links -/

/-- The lane opcodes. LNK_EQ_RELOAD takes the board table over and returns its bad entries, or ends TIMEOUT with the table
given up where the EEPROM does not answer; a table that fails a check leaves no entry. LNK_LOOP_SET, for a port and fields
in range, starts a loop, ends it, or makes the port a follower; LNK_LOOP_READ returns the highest error count of the port's
lanes. A loop started on a port that is neither disabled nor UP puts it in LOOP, and with its bank locked each of its wired
lanes loops with no error counted. -/
def Sys2Proof.Claims.LaneOpcodes : Prop :=
  ∀ (c : Cmd) (s : State),
    (Instant opLnkEqReload c s → eqFinding s.eeprom ≠ 1 →
      Completes (.lnkEqReload c) 0x1B c s State.loadEq (s.accept c).loadEq.badEntries) ∧
    (Instant opLnkEqReload c s → eqFinding s.eeprom = 1 →
      Answers (.lnkEqReload c) 0x1B c s State.loadEq stTimeout 0) ∧
    (Instant opLnkLoopSet c s → c.target ≤ 1023 → 1 ≤ c.byte 16 → c.byte 16 ≤ 3 → c.byte 17 ≤ 2 → 3 ≤ c.byte 18 →
      c.byte 18 ≤ 6 → Completes (.lnkLoopSet c) 0x1C c s
        (fun t => t.loopStart c.target (c.byte 16) (c.byte 17) (c.byte 18)) 0) ∧
    (Instant opLnkLoopSet c s → c.target ≤ 1023 → c.byte 16 = 0 →
      Completes (.lnkLoopSet c) 0x1C c s (fun t => t.loopStop c.target) 0) ∧
    (Instant opLnkLoopSet c s → c.target ≤ 1023 → c.byte 16 = 4 → Completes (.lnkLoopSet c) 0x1C c s
      (fun t => { t with lnk := { t.lnk with follow := c.target :: t.lnk.follow.filter (· ≠ c.target) } }) 0) ∧
    (Instant opLnkLoopRead c s → c.target ≤ 1023 → Completes (.lnkLoopRead c) 0x1D c s id
      (((s.portLanes c.target).map fun l => (s.laneNow l).loopErr).foldl max 0)) ∧
    (eqFinding s.eeprom ≠ 0 → (s.loadEq).lnk.eq = [] ∧ (s.loadEq).lnk.slEq = []) ∧
    (∀ p mode pat rate, (s.port p).state ≠ .disabled → (s.port p).state ≠ .up →
      ((s.loopStart p mode pat rate).port p).state = .loop ∧
      ((s.tileLnk (p / 16)).pllLock = true → ∀ l ∈ s.portLanes p, (s.eqLane l).unused = false →
        ((s.loopStart p mode pat rate).lane l).loop = mode ∧ ((s.loopStart p mode pat rate).lane l).loopErr = 0))

/-- LNK_SL_LOOP, for a cage and a duration in range, queues the LOOP message and keeps its ticket; it is BUSY where a loop, a
warning or a wake or sleep message stands in its way, and ABORTED on an OFF link. LNK_SL_DELAY sends DELAY_REQ on an ACTIVE
link and keeps its ticket, is BUSY where one waits, and TIMEOUT on a link that is not ACTIVE. (The BUSY of a second command
and the ABORTED of an OFF link are the model's choice: log entry 84.) -/
def Sys2Proof.Claims.ShelfOpcodes : Prop :=
  ∀ (c : Cmd) (s : State), c.target ≤ 63 →
    let g := c.target
    let inWay := (s.link g).loopCmd.isSome || (s.link g).state == .loop || (s.link g).warns != [] ||
      (s.link g).queue.any fun m => m.kind == 0x30 || m.kind == 0x31
    (Instant opLnkSlLoop c s → 1 ≤ c.le 16 2 → c.le 16 2 ≤ 60000 → inWay = false → (s.link g).state ≠ .off →
      Holds (.lnkSlLoop c) 0x1E c s fun tk t =>
        (t.modLink g fun l => { l with loopMs := c.le 16 2, loopEnd := 0, loopCmd := some tk }).slQueue g 0x50
          (leBytes 2 (c.le 16 2))) ∧
    (Instant opLnkSlLoop c s → 1 ≤ c.le 16 2 → c.le 16 2 ≤ 60000 → inWay = true →
      EndsWith (.lnkSlLoop c) 0x1E c s stBusy) ∧
    (Instant opLnkSlLoop c s → 1 ≤ c.le 16 2 → c.le 16 2 ≤ 60000 → inWay = false → (s.link g).state = .off →
      EndsWith (.lnkSlLoop c) 0x1E c s stAborted) ∧
    (Instant opLnkSlDelay c s → (s.link g).state = .active → (s.link g).delayCmd = none →
      Holds (.lnkSlDelay c) 0x1F c s fun tk t =>
        (t.modLink g fun l => { l with delayCmd := some tk }).slDelayReq g) ∧
    (Instant opLnkSlDelay c s → (s.link g).state = .active → (s.link g).delayCmd.isSome = true →
      EndsWith (.lnkSlDelay c) 0x1F c s stBusy) ∧
    (Instant opLnkSlDelay c s → (s.link g).state ≠ .active → EndsWith (.lnkSlDelay c) 0x1F c s stTimeout)

/-- FORCE_OFF takes every link of an existing tile's bank down and its power off; taken back, the bank is powered while it
has an enabled port, and no other tile and no port changes; before EQ_LOADED the write is ignored and counted.
BANK_PLL_LOCK, 50 µs after a bank that is not locked was powered, locks it and runs the lane loops that waited; before that
it does nothing. A lane in idle at a rate leaves idle with its CDR locked. -/
def Sys2Proof.Claims.BankAndIdleEvents : Prop :=
  ∀ (t : Tile) (l : Lane) (s : State),
    (s.Alive → s.tileExists t = true → s.glb.eqLoaded = true → Acts (.forceOff t true) s fun s =>
      (((List.range 16).foldl (fun s i => s.downToDetect (16 * t + i)) s).modTileLnk t fun x =>
        { x with forceOff := true }).repower t) ∧
    (s.Alive → s.tileExists t = true → s.glb.eqLoaded = true →
      ∃ u, exec (.forceOff t false) s = .next u ∧ (u.tileLnk t).forceOff = false ∧
        (u.tileLnk t).powered = ((List.range 16).any fun i => (s.port (16 * t + i)).cfg.en) ∧
        (∀ k, k ≠ t.val → u.tileLnk k = s.tileLnk k) ∧ u.prt = s.prt ∧ u.mgr = s.mgr) ∧
    (s.Alive → s.tileExists t = true → s.glb.eqLoaded = false → Acts (.forceOff t true) s fun s =>
      { s with glb := { s.glb with notReadyWr := satAdd 32 s.glb.notReadyWr 1 } }) ∧
    (s.held = none → (s.tileLnk t).powered = true → (s.tileLnk t).pllLock = false →
      (s.tileLnk t).poweredAt + us16 50 ≤ s.clock → Acts (.bankPllLock t) s fun s =>
        (List.range 16).foldl (fun s i => s.loopRun (16 * t + i)) (s.modTileLnk t fun x => { x with pllLock := true })) ∧
    (s.held = none → s.clock < (s.tileLnk t).poweredAt + us16 50 → Acts (.bankPllLock t) s id) ∧
    (s.held = none → (s.lane l).idle = true → (s.lane l).rate ≠ 0 →
      Acts (.idleExit l) s fun s => s.turnLane l fun x => { x with idle := false, cdrLock := true })

/-- The state machine of a shelf link. SL_ENABLE starts the search of an OFF link whose feed is on; SL_DISABLE takes a
link with nothing waiting to OFF. A comma aligns a searching link; with POL 0 the search tries the other polarity. After
100 µs at score 0, with no warning and no loop, an aligned link locks, sends its queue and asks for PRESENT. Each received
character acts on its own: a fourth good one lowers the score, and a code error counts and raises it; at 2 an aligned link
searches again, at 4 a locked or active one does, with LOCK_LOST, its open DELAY_REQ forgotten and a waiting delay command
ended TIMEOUT. A far-end loop ends in SEARCH at its time and not before; 100 ms later without a lock its command ends
TIMEOUT. -/
def Sys2Proof.Claims.ShelfLinkStates : Prop :=
  ∀ (c : Cage) (chars : List Bool) (s : State),
    (s.Alive → s.tileExists c = true → s.glb.eqLoaded = true → s.feedOn c = true → (s.link c).state = .off →
      ∃ t, exec (.slEnable c) s = .next t ∧ (t.link c).en = true ∧ (t.link c).state = .search ∧ (t.link c).score = 0 ∧
        (t.link c).inverted = ((s.link c).pol == 2) ∧
        t.out.take (s.out.length + 1) = s.out ++ [.slIdle c (idlePair false)]) ∧
    (s.Alive → s.tileExists c = true → s.glb.eqLoaded = true → (s.link c).state = .off →
      Acts (.slDisable c) s fun s => s.modLink c fun l => { l with en := false }) ∧
    (s.Alive → s.tileExists c = true → s.glb.eqLoaded = true → (s.link c).state = .locked → (s.link c).queue = [] →
      (s.link c).loopCmd = none → (s.link c).delayCmd = none → Acts (.slDisable c) s fun s => s.modLink c fun l =>
        { l with en := false, state := .off, queue := [], lastRx := [], t1 := none, lastTime := 0, delays := [],
                 score := 0 }) ∧
    (s.held = none → (s.link c).state = .search → Acts (.slCommaAlign c) s fun s => s.modLink c fun l =>
      { l with state := .aligned, alignedAt := s.clock, score := 0, goodRun := 0 }) ∧
    (s.held = none → (s.link c).state = .search → (s.link c).pol = 0 → Acts (.slPolaritySearch c) s fun s =>
      s.modLink c fun l => { l with inverted := !l.inverted }) ∧
    (s.held = none → (s.link c).state = .aligned → (s.link c).score = 0 → (s.link c).alignedAt + us16 100 ≤ s.clock →
      (s.link c).warns = [] → (s.link c).loopEnd = 0 → Acts (.slAlignedTimer c) s fun s =>
        let s := s.modLink c fun l => { l with state := .locked, queue := l.queue.filter fun m => m.kind != 0x20 }
        (s.slFlush c).slQueue c 0x20 []) ∧
    (s.held = none → Acts (.slAlignmentLost c chars) s fun s => chars.foldl (fun s g => s.slChar c g) s) ∧
    ((s.link c).up = true ∨ (s.link c).state = .aligned →
      ((s.link c).goodRun < 3 → s.slChar c true = s.modLink c fun l => { l with goodRun := l.goodRun + 1 }) ∧
      (3 ≤ (s.link c).goodRun → s.slChar c true = s.modLink c fun l =>
        { l with goodRun := 0, score := l.score - 1, alignedAt := if l.score = 1 then s.clock else l.alignedAt }) ∧
      ((s.link c).score + 1 < (if (s.link c).up then 4 else 2) → s.slChar c false = s.modLink c fun l =>
        { l with codeErr := satAdd 16 l.codeErr 1, goodRun := 0, score := l.score + 1 }) ∧
      ((if (s.link c).up then 4 else 2) ≤ (s.link c).score + 1 →
        ((s.slChar c false).link c).state = .search ∧ ((s.slChar c false).link c).score = 0)) ∧
    ((s.link c).up = true → 3 ≤ (s.link c).score →
      ((s.slChar c false).link c).lockLost = true ∧ ((s.slChar c false).link c).t1 = none ∧
      ((s.slChar c false).link c).delayCmd = none ∧
      ((s.slChar c false).devRing 1).seq = ((s.devRing 1).seq + 1) % 2 ^ 32) ∧
    (s.held = none → (s.link c).state = .loop → (s.link c).loopEnd ≤ s.clock → Acts (.slLoopEnd c) s fun s => s.slSearch c) ∧
    (s.held = none → s.clock < (s.link c).loopEnd → Acts (.slLoopEnd c) s id) ∧
    (∀ tk, s.held = none → (s.link c).state = .search → (s.link c).loopEnd ≠ 0 → (s.link c).loopEnd + ms16 100 ≤ s.clock →
      (s.link c).loopCmd = some tk → Acts (.slLoopTimeout c) s fun s =>
        (s.modLink c fun l => { l with loopEnd := 0, loopCmd := none }).complete tk stTimeout 0)

/-- A frame as the sender forms it, with up to 32 payload bytes, passes the receiver's checks; one with another LENGTH or CRC, or
a code error, does not. On an ACTIVE link a frame that fails a check is discarded, flagged and counted, whatever its type. A
good one acts: TEMPERATURE, PRESENT, POWER_STATE and DELAY_RESP are recorded, PRESENT and POWER_STATE are
acknowledged, a repeated POWER_STATE is acknowledged and not acted on again, and a POWER_WARN of level 3 posts its event. -/
def Sys2Proof.Claims.ShelfFramesAct : Prop :=
  (∀ (kind seq : Nat) (payload : List Byte), kind < 256 → seq < 256 → payload.length ≤ 32 →
    let f := frameOf kind seq payload
    frameGood f kind payload = true ∧ (∀ n, n ≠ f.length → frameGood { f with length := n } kind payload = false) ∧
      (∀ r, r ≠ f.crc → frameGood { f with crc := r } kind payload = false) ∧
      frameGood { f with codeError := true } kind payload = false) ∧
  ∀ (c : Cage) (f : SlFrame) (a : SlAcked) (k caps lim power ans : Byte) (id' : BitVec 128) (temp cur : BitVec 16) (ta : Word)
    (w : BitVec 64) (s : State), s.held = none → (s.link c).state = .active →
    let q := f.seq.toNat
    let new := fun (kind : Nat) => tget none (s.link c).lastRx kind ≠ some q
    let took := fun (kind : Nat) (s : State) => s.modLink c fun l => { l with lastRx := tset none l.lastRx kind (some q) }
    let bad := fun (s : State) => s.modLink c fun l => { l with crcErr := true, crcCount := satAdd 16 l.crcCount 1 }
    let temperature := frameGood f 0x22 (tempPay temp lim)
    let present := frameGood f 0x20 (presentPay k caps id')
    let state := frameGood f 0x21 (powerPay power cur)
    let resp := frameGood f 0x12 (delayPay ta ans)
    let warn := frameGood f 0x40 (warnPay w)
    (frameGood f 0x01 (ackPay a) = false → Acts (.slAck c f a) s bad) ∧
    (temperature = false → Acts (.shelfTemperature c f temp lim) s bad) ∧
    (present = false → Acts (.shelfPresent c f k caps id') s bad) ∧
    (state = false → Acts (.shelfPowerState c f power cur) s bad) ∧
    (resp = false → Acts (.delayResp c f ta ans) s bad) ∧
    (warn = false → Acts (.shelfWarn c f w) s bad) ∧
    (temperature = true → Acts (.shelfTemperature c f temp lim) s fun s =>
      (took 0x22 s).modLink c fun l => { l with temp := temp.toNat, overLimit := lim.getLsbD 0 }) ∧
    (present = true → new 0x20 → Acts (.shelfPresent c f k caps id') s fun s =>
      ((took 0x20 s).slAcknowledge c q 0x20).modLink c fun l =>
        { l with kind := k.toNat, caps := caps.toNat, ident := id', queue := l.queue.filter fun m => m.kind != 0x20 }) ∧
    (state = true → new 0x21 → power.toNat = (s.link c).power → Acts (.shelfPowerState c f power cur) s fun s =>
      ((took 0x21 s).slAcknowledge c q 0x21).modLink c fun l => { l with power := power.toNat, current := cur.toNat }) ∧
    (state = true → new 0x21 → ∃ t, exec (.shelfPowerState c f power cur) s = .next t ∧ (t.link c).power = power.toNat ∧
      (t.link c).current = cur.toNat) ∧
    (state = true → tget none (s.link c).lastRx 0x21 = some q → Acts (.shelfPowerState c f power cur) s fun s =>
      s.slAcknowledge c q 0x21) ∧
    (∀ t1 : Nat, resp = true → (s.link c).t1 = some (ans.toNat, t1) → t1 + ta.toNat ≤ s.clock → (s.link c).delayCmd = none →
      delayFits (s.link c).delays ((s.clock - t1 - ta.toNat) / 2) = true →
      ∃ t, exec (.delayResp c f ta ans) s = .next t ∧ (t.link c).delay = (s.clock - t1 - ta.toNat) / 2 % 2 ^ 24 ∧
        (t.link c).delays = ((s.clock - t1 - ta.toNat) / 2 :: (s.link c).delays).take 4 ∧ (t.link c).t1 = none ∧
        t.mgr = s.mgr) ∧
    (warn = true → Acts (.shelfWarn c f w) s fun s => (took 0x40 s).event 0x94 92 s.now64 [(1, c), (1, 3), (8, w.toNat)])

/-- Messages to a shelf, on an ACTIVE link. The ACK of a LOOP message that was sent starts the far-end loop, and one that
answers no message changes nothing but the last frame taken; the one queued message goes again 20 µs after it was sent, up
to 16 times, and a PRESENT then gives up with NO_RESPONSE and a record. DELAY_REQ goes 2 ms after the last and not before,
and ends a delay command that waits TIMEOUT; TIME goes when none has gone yet or 131,072 ns after the last; the one pending
warning repeats after 20 µs (R67, R69, R395). -/
def Sys2Proof.Claims.ShelfMessagesGoOut : Prop :=
  ∀ (c : Cage) (f : SlFrame) (a : SlAcked) (s : State), s.held = none → (s.link c).state = .active →
    let seq := a.seq.toNat
    let took := fun (s : State) => s.modLink c fun l =>
      { l with lastRx := tset none l.lastRx 0x01 (some f.seq.toNat) }
    (frameGood f 0x01 (ackPay a) = true → a.kind = 0x50 →
      (∃ m ∈ (s.link c).queue, m.seq = seq ∧ m.kind = 0x50 ∧ 0 < m.sent) → (s.link c).delayCmd = none →
      Acts (.slAck c f a) s fun s => ((took s).modLink c fun l =>
        { l with queue := l.queue.filter fun m => m.seq != seq, state := .loop,
                 loopEnd := s.clock + ms16 l.loopMs, t1 := none }).emit (.slPrbs c)) ∧
    (frameGood f 0x01 (ackPay a) = true → (∀ m ∈ (s.link c).queue, m.seq ≠ seq) → Acts (.slAck c f a) s took) ∧
    (∀ m : SlMsg, (s.link c).queue = [m] → 0 < m.sent → m.sent < 16 → m.lastAt + us16 20 ≤ s.clock →
      Acts (.slRetransmit c) s fun s => s.slSendMsg c m) ∧
    (∀ m : SlMsg, (s.link c).queue = [m] → m.sent = 16 → m.kind = 0x20 → m.lastAt + us16 20 ≤ s.clock →
      ∃ t, exec (.slRetransmit c) s = .next t ∧ (t.link c).noResponse = true ∧ (t.link c).queue = [] ∧
        (t.devRing 1).seq = ((s.devRing 1).seq + 1) % 2 ^ 32) ∧
    ((s.link c).lastReq + ms16 2 ≤ s.clock → (s.link c).delayCmd = none →
      Acts (.delayReq c) s fun s => s.slDelayReq c) ∧
    (∀ tk, (s.link c).lastReq + ms16 2 ≤ s.clock → (s.link c).delayCmd = some tk →
      Acts (.delayReq c) s fun s =>
        ((s.modLink c fun l => { l with delayCmd := none }).complete tk stTimeout 0).slDelayReq c) ∧
    (s.clock < (s.link c).lastReq + ms16 2 → Acts (.delayReq c) s id) ∧
    ((s.link c).lastTime = 0 ∨ (s.link c).lastTime + ns16 131072 ≤ s.clock → Acts (.timeFrame c) s fun s =>
      (s.modLink c fun l => { l with lastTime := s.clock }).slSend c 0x10
        (leBytes 8 s.now64 ++ leBytes 4 (s.link c).delay ++ leBytes 8 s.ftu.nextBoundary ++ leBytes 1 s.ftu.lenLog2)) ∧
    (∀ w, (s.link c).warns = [w] → w.2.2 + us16 20 ≤ s.clock → Acts (.powerWarnRepeat c) s fun s => s.slWarn c w.1 w.2.1)

/-! ### Rings, registers and interrupts -/

/-- The doorbells of a pair, on a module whose FMP answers. With EN = 1 the value becomes the SQ tail or the CQ head; one of
2^LOG2 or above takes 2^LOG2 - 1, sets DB_CLAMP and is counted on the ring; an SQ bell is kept with its index and its stamp
behind those not yet served, and a tail equal to the head leaves none. With EN = 0 nothing happens (R313). -/
def Sys2Proof.Claims.DoorbellsMoveTheirIndex : Prop :=
  ∀ (p : Ring) (v : Word) (s : State), s.Alive →
    let r := s.pair p
    let n := v.toNat % 65536
    (r.en = true → n < 2 ^ r.log2 →
      Acts (.sqTailDoorbell p v) s (fun s => s.setPair p { r with
        sqTail := n, bells := if n = r.sqHead then [] else r.bells ++ [(n, s.clock)] }) ∧
      Acts (.cqHeadDoorbell p v) s fun s => s.setPair p { r with cqHead := n }) ∧
    (r.en = true → 2 ^ r.log2 ≤ n →
      Acts (.sqTailDoorbell p v) s (fun s => s.setPair p { r with
        dbClamp := true, clamps := satAdd 32 r.clamps 1, sqTail := 2 ^ r.log2 - 1
        bells := if 2 ^ r.log2 - 1 = r.sqHead then [] else r.bells ++ [(2 ^ r.log2 - 1, s.clock)] }) ∧
      Acts (.cqHeadDoorbell p v) s fun s => s.setPair p { r with
        dbClamp := true, clamps := satAdd 32 r.clamps 1, cqHead := 2 ^ r.log2 - 1 }) ∧
    (r.en = false → Acts (.sqTailDoorbell p v) s id ∧ Acts (.cqHeadDoorbell p v) s id)

/-- The states of a ring pair, on a module whose FMP answers. EN 0 to 1 sets the indices to 0 and PHASE to 1 and runs the
pair; completions held are discarded, counted and recorded, or with HOLD_KEEP written to the CQ. EN 1 to 0 disables the
pair and ends its fetch. RESUME runs a stopped pair, or a suspended one whose held completions are written and whose loss
is then noted; before the FMP is up it sets HOLD_KEEP alone (R312, R330). -/
def Sys2Proof.Claims.RingPairStates : Prop :=
  ∀ (p : Ring) (v : Word) (s : State), s.Alive →
    let r := s.pair p
    let keep := bitOf v.toNat 2
    let fresh : RingPair := { r with
      holdKeep := keep, en := true, sqHead := 0, sqTail := 0, cqHead := 0, cqTail := 0, phase := true, state := .running,
      bells := [], fetch := none }
    (r.en = false → r.held = [] → Acts (.ringEnable p v) s fun s => s.setPair p fresh) ∧
    (r.en = false → r.held ≠ [] → keep = false → ∃ t, exec (.ringEnable p v) s = .next t ∧
      t.pair p = { fresh with held := [], discard := satAdd 32 r.discard r.held.length } ∧
      (t.devRing 1).seq = ((s.devRing 1).seq + 1) % 2 ^ 32) ∧
    (r.en = false → keep = true → ∃ t, exec (.ringEnable p v) s = .next t ∧ (t.pair p).held = [] ∧
      (t.pair p).state = .running ∧ (t.pair p).cqTail = r.held.length % 2 ^ r.log2 ∧ (t.pair p).discard = r.discard) ∧
    (r.en = true → Acts (.ringDisable p v) s fun s => s.setPair p
      { r with holdKeep := keep, en := false, state := .disabled, fetch := none, bells := [] }) ∧
    (r.en = true → r.state = .stopped → s.fmpUp = true → Acts (.ringResume p v) s fun s => s.setPair p
      { r with holdKeep := keep, state := .running, bells := if r.sqTail = r.sqHead then [] else [(r.sqTail, s.clock)] }) ∧
    (r.en = true → r.state = .suspended → s.fmpUp = true → r.held = [] → s.cmd.lossFt = none →
      Acts (.ringResume p v) s fun s => s.setPair p
        { r with holdKeep := keep, state := .running, bells := if r.sqTail = r.sqHead then [] else [(r.sqTail, s.clock)] }) ∧
    (r.en = true → r.state = .suspended → s.fmpUp = true → s.cmd.lossFt.isSome = true →
      ∃ t, exec (.ringResume p v) s = .next t ∧ t.cmd.lossFt = none ∧ (t.pair p).state = .running ∧
        (t.pair p).held = []) ∧
    (r.en = true → s.fmpUp = false → Acts (.ringResume p v) s fun s => s.setPair p { r with holdKeep := keep })

/-- The states of a device-written ring, on a module whose FMP answers. EN 0 to 1 with nothing held sets the indices to 0 and
PHASE to 1 and runs the ring; entries held without HOLD_KEEP are lost and counted. EN 1 to 0 disables it. RESUME runs a
suspended ring that holds nothing once the loss of the FMP has been noted, and before the FMP is up sets the control fields
alone. CMD_DR_HEAD of a ring that holds nothing moves the head; a value at or above the size takes size - 1 and counts in
CMD_REG_CLAMP (R312, R325, R330). -/
def Sys2Proof.Claims.DeviceRingStates : Prop :=
  ∀ (d : Fin 3) (v : Word) (s : State), s.Alive →
    let r := s.devRing d
    let w := v.toNat
    let ctl := fun (r : DevRing) => { r with holdKeep := bitOf w 2, vec := bitsOf w 15 8, irqEn := bitOf w 16 }
    (r.en = false → r.held = [] → Acts (.deviceRingEnable d v) s fun s => s.setDevRing d
      { ctl r with en := true, head := 0, tail := 0, phase := true, state := .running }) ∧
    (r.en = false → bitOf w 2 = false → r.held ≠ [] → ∃ t, exec (.deviceRingEnable d v) s = .next t ∧
      (t.devRing d).held = [] ∧ (t.devRing d).lost = true ∧ (t.devRing d).lostBefore = true ∧
      (t.devRing d).lostCount = satAdd 32 r.lostCount r.held.length ∧ t.mgr = s.mgr) ∧
    (r.en = true → Acts (.deviceRingDisable d v) s fun s => s.setDevRing d { ctl r with en := false, state := .disabled }) ∧
    (r.en = true → r.state = .suspended → s.fmpUp = true → s.cmd.lossFt = none → r.held = [] →
      Acts (.deviceRingResume d v) s fun s => s.setDevRing d { ctl r with state := .running }) ∧
    (r.en = true → s.fmpUp = false → Acts (.deviceRingResume d v) s fun s => s.setDevRing d (ctl r)) ∧
    (w % 65536 < 2 ^ r.log2 → r.held = [] → Acts (.cmdDrHead d v) s fun s => s.setDevRing d { r with head := w % 65536 }) ∧
    (2 ^ r.log2 ≤ w % 65536 → r.held = [] → Acts (.cmdDrHead d v) s fun s =>
      let s := s.setDevRing d { r with head := 2 ^ r.log2 - 1 }
      { s with cmd := { s.cmd with regClamp := satAdd 32 s.cmd.regClamp 1 } })

/-- An entry of a device-written ring takes the next sequence number. While the ring runs with room and nothing held it is
written at the tail, with its flags; otherwise it is held at the end while the hold has room, and lost, flagged and counted
when it has none. No other ring changes (R325). -/
def Obligations.EntriesAreWrittenHeldOrLost : Prop :=
  ∀ (d : Nat) (bs : List Byte) (s : State),
    let r := s.devRing d
    let t := s.devProduce d bs
    (t.devRing d).seq = (r.seq + 1) % 2 ^ 32 ∧
    (r.state = .running → r.full = false → r.held = [] →
      t.mgr = (s.mgrWrite (r.base + r.tail * devEntrySize d) (withFlags bs r.phase r.lostBefore)).mgr ∧
      (t.devRing d).tail = (r.tail + 1) % 2 ^ r.log2 ∧ (t.devRing d).lostBefore = false ∧ (t.devRing d).held = []) ∧
    (¬ (r.state = .running ∧ r.full = false ∧ r.held = []) → r.held.length < devHoldCap d →
      t = s.setDevRing d { r with seq := (r.seq + 1) % 2 ^ 32, held := r.held ++ [bs] }) ∧
    (¬ (r.state = .running ∧ r.full = false ∧ r.held = []) → devHoldCap d ≤ r.held.length →
      (t.devRing d).held = r.held ∧ (t.devRing d).lost = true ∧ (t.devRing d).lostBefore = true ∧
      (t.devRing d).lostCount = satAdd 32 r.lostCount 1 ∧ t.mgr = s.mgr) ∧
    (∀ e, e ≠ d → t.devRing e = s.devRing e)

/-- DESCRIPTOR_FETCH_ISSUE, with fewer than 16 fetches open and the pipeline not full, opens a fetch of the pair picked, from
its SQ head, of as many descriptors as it may read; with no pair to pick it does nothing. A fetch reads at most 16, within
the pair's credit, its unfetched descriptors and its ring's end. The data of a fetch join the pair's waiting descriptors,
stamped, counted in flight and accepted, and no other pair changes; a poisoned completion, or 50 ms of silence, stops a
running pair with FETCH_ERR, the first with a record; before 50 ms nothing happens (R314, R316, R330). -/
def Sys2Proof.Claims.DescriptorFetching : Prop :=
  ∀ (p : Ring) (f : Fetch) (b k q : Nat) (s : State), s.held = none →
    (pickFetch s.slot s.cmd.pairs = some (b, k, q) →
      (s.cmd.pairs.filter fun x => x.2.fetch.isSome).length < 16 → s.inflight + s.fetching < 8192 →
      0 < (s.pair q).fetchable → Acts .descriptorFetchIssue s fun s => s.setPair q { s.pair q with
        fetch := some { first := (s.pair q).sqHead
                        count := min (s.pair q).fetchable (8192 - (s.inflight + s.fetching)), at16 := s.clock } }) ∧
    (pickFetch s.slot s.cmd.pairs = none → Acts .descriptorFetchIssue s id) ∧
    ((s.pair p).fetch = some f → ∃ t, exec (.descriptorFetchComplete p .data) s = .next t ∧
      (t.pair p).waiting = (s.pair p).waiting ++ (List.range f.count).map (fun i =>
        { desc := BitVec.ofNat 512 (leNat (s.mgrRead ((s.pair p).sqBase + (f.first + i) * 64) 64)), stamp := s.clock }) ∧
      (t.pair p).inflight = (s.pair p).inflight + f.count ∧ (t.pair p).fetch = none ∧
      (t.pair p).sqHead = (f.first + f.count) % 2 ^ (s.pair p).log2 ∧ t.mgr = s.mgr ∧
      t.cmd.accepted = satAdd 32 s.cmd.accepted f.count ∧ ∀ j, j ≠ p.val → t.pair j = s.pair j) ∧
    ((s.pair p).fetch = some f → (s.pair p).state = .running →
      ∃ t, exec (.descriptorFetchComplete p .poisoned) s = .next t ∧
        t.pair p = { s.pair p with fetch := none, fetchErr := true, state := .stopped } ∧
        (t.devRing 1).seq = ((s.devRing 1).seq + 1) % 2 ^ 32) ∧
    ((s.pair p).fetch = some f → (s.pair p).state = .running → f.at16 + ms16 50 ≤ s.clock →
      ∃ t, exec (.fetchTimeout p) s = .next t ∧
        t.pair p = { s.pair p with fetch := none, fetchErr := true, state := .stopped }) ∧
    ((s.pair p).fetch = some f → s.clock < f.at16 + ms16 50 → Acts (.fetchTimeout p) s id) ∧
    (∀ r : RingPair, r.fetchable ≤ 16 ∧ r.fetchable ≤ r.credit ∧ r.fetchable ≤ r.unfetched ∧
      r.fetchable ≤ 2 ^ r.log2 - r.sqHead)

/-- The pipeline. In a cycle of its own the descriptor picked is taken and passed to the unit of its opcode with its
acceptance stamp, and one of a reserved opcode completes BAD_OPCODE; in every eighth cycle none is taken. The first
side-entry command is taken in every eighth cycle and where no descriptor waits, and not in a cycle that has one. A fenced
head may be taken only when no other command of its pair is in flight (R316, R317, R319). -/
def Sys2Proof.Claims.PipelineTakesOneCommandPerCycle : Prop :=
  ∀ (p : Nat) (d : WaitDesc) (o : OpSpec) (x : SideCmd) (xs : List SideCmd) (s : State), s.held = none →
    let c : Cmd := { src := .ring (Fin.ofNat 64 p), desc := d.desc }
    let next := fun (s : State) => { s with cmd := { s.cmd with cycle := (s.cmd.cycle + 1) % 8 } }
    (s.cmd.cycle % 8 ≠ 7 → pickTake s.slot s.cmd.pairs = some (p, d) → opOf c.opcode = some o →
      Acts .descriptorTake s fun s =>
        o.issue c d.stamp (next (s.modPair p fun r => { r with waiting := r.waiting.drop 1 }))) ∧
    (s.cmd.cycle % 8 ≠ 7 → pickTake s.slot s.cmd.pairs = some (p, d) → opOf c.opcode = none →
      Acts .descriptorTake s fun s =>
        (next (s.modPair p fun r => { r with waiting := r.waiting.drop 1 })).complete (c.ticket c.opcode s.ft) stBadOpcode 0) ∧
    (s.cmd.cycle % 8 = 7 → Acts .descriptorTake s next) ∧
    (s.cmd.side = x :: xs → s.cmd.cycle % 8 = 7 ∨ pickTake s.slot s.cmd.pairs = none → x.mctp = false →
      opOf x.op = some o → Acts .sideEntryTake s fun s =>
        o.issue x.cmd s.clock ((next { s with cmd := { s.cmd with side := xs } }).accept x.cmd)) ∧
    (s.cmd.side = x :: xs → s.cmd.cycle % 8 ≠ 7 → pickTake s.slot s.cmd.pairs = some (p, d) →
      Acts .sideEntryTake s id) ∧
    (∀ (r : RingPair) (e : WaitDesc) (es : List WaitDesc), r.waiting = e :: es →
      ({ src := .ring (Fin.ofNat 64 p), desc := e.desc } : Cmd).fence = true →
      (r.takeable p = some e ↔ r.inflight ≤ r.waiting.length))

/-- A vector waits while a master enable is 0, pends while it is masked, and is sent otherwise, once in a cycle. Clearing a mask sends a
pending vector and no other; setting the master enables with at most one vector waiting sends that one; a completion ring's
vector is sent DELAY µs after its first entry where IRQ_EN is 1, and not where no entry waits (R329, R350). -/
def Sys2Proof.Claims.VectorsAreSentWaitOrPend : Prop :=
  ∀ (v : Byte) (p : Ring) (s : State), s.held = none →
    (∀ n, (s.fmp.bme && s.fmp.msixEn) = false →
      s.sendVector n = { s with fmp := { s.fmp with waiting := n :: s.fmp.waiting.filter (· ≠ n) } }) ∧
    (∀ n, (s.fmp.bme && s.fmp.msixEn) = true → (tget {} s.fmp.table n).masked = true →
      s.sendVector n = { s with fmp := { s.fmp with pend := n :: s.fmp.pend.filter (· ≠ n) } }) ∧
    (∀ n, (s.fmp.bme && s.fmp.msixEn) = true → (tget {} s.fmp.table n).masked = false → n ∉ s.fmp.sent →
      (s.sendVector n).out = s.out ++ [.msix n] ∧ (s.sendVector n).fmp = { s.fmp with sent := n :: s.fmp.sent }) ∧
    (∀ n, (s.fmp.bme && s.fmp.msixEn) = true → (tget {} s.fmp.table n).masked = false → n ∈ s.fmp.sent →
      s.sendVector n = s) ∧
    (s.fmpAlive = true → s.fmp.pend.contains v.toNat = false → Acts (.msixVectorUnmask v) s fun s =>
      { s with fmp := { s.fmp with
        table := tset {} s.fmp.table v.toNat { tget {} s.fmp.table v.toNat with masked := false }
        pend := s.fmp.pend.filter (· ≠ v.toNat) } }) ∧
    (s.fmpAlive = true → s.fmp.pend.contains v.toNat = true → Acts (.msixVectorUnmask v) s fun s =>
      State.sendVector { s with fmp := { s.fmp with
        table := tset {} s.fmp.table v.toNat { tget {} s.fmp.table v.toNat with masked := false }
        pend := s.fmp.pend.filter (· ≠ v.toNat) } } v.toNat) ∧
    (s.fmpAlive = true → s.fmp.waiting = [] → Acts .busMasterEnable s fun s =>
      { s with fmp := { s.fmp with bme := true, msixEn := true, waiting := [] } }) ∧
    (∀ n, s.fmpAlive = true → s.fmp.waiting = [n] → Acts .busMasterEnable s fun s =>
      State.sendVector { s with fmp := { s.fmp with bme := true, msixEn := true, waiting := [] } } n) ∧
    (∀ t, (s.pair p).irqEn = true → (s.pair p).firstAt = some t → (s.pair p).irqDelay ≠ 0 → t + us16 (s.pair p).irqDelay ≤ s.clock →
      Acts (.completionIrqDelay p) s fun s =>
        (s.setPair p { s.pair p with sinceIrq := 0, firstAt := none }).sendVector (s.pair p).vec) ∧
    ((s.pair p).firstAt = none ∨ (s.pair p).irqEn = false → Acts (.completionIrqDelay p) s id)

/-- An FMP reset takes the link down, clears the master enables, the MSI-X table and the pending bits, notes the instant of
the loss unless one is noted, and leaves no ring running and no pair stopped; held completions, waiting descriptors, fabric
time's unit and the manager's memory stay. FMP_LINK_UP brings the link up and changes nothing else (R309, R310, R330). -/
def Sys2Proof.Claims.FmpLossSuspendsRings : Prop :=
  ∀ s : State, s.held = none →
    (∃ t, exec .fmpReset s = .next t ∧ t.fmp.linkUp = false ∧ t.fmp.bme = false ∧ t.fmp.msixEn = false ∧
      t.fmp.table = [] ∧ t.fmp.pend = [] ∧ t.mgr = s.mgr ∧ t.ftu = s.ftu ∧
      t.cmd.lossFt = some (s.cmd.lossFt.getD s.now64) ∧
      (∀ x ∈ t.cmd.pairs, x.2.state ≠ .running ∧ x.2.state ≠ .stopped) ∧ (∀ x ∈ t.cmd.dev, x.2.state ≠ .running) ∧
      t.cmd.pairs.map (·.2.held) = s.cmd.pairs.map (·.2.held) ∧
      t.cmd.pairs.map (·.2.waiting) = s.cmd.pairs.map (·.2.waiting)) ∧
    Acts .fmpLinkUp s (fun s => { s with fmp := { s.fmp with linkUp := true } })

/-- Register writes, on a module whose FMP answers. 4 bytes write one register, 8 bytes two in ascending order, and 1 or 2
have no effect; GLB_SCRATCH takes its value; an SQ base of a disabled pair takes an aligned 64-bit value; a write of the FTU
window before the FTU runs is discarded and counted, and one of an absent engine's window ignored. A module reset requested
with the GUARD, none being due, falls due 1 µs later; without the GUARD nothing happens (R7, R339, R341, R344, R349). -/
def Obligations.RegisterWritesReachTheirWindow : Prop :=
  ∀ (a : BitVec 25) (v : BitVec 64) (w : Word) (p : Ring) (s : State), s.Alive →
    Acts (.registerWrite a 4 v) s (fun s => s.writeBar0 a.toNat (v.toNat % 2 ^ 32)) ∧
    Acts (.registerWrite a 8 v) s (fun s =>
      (s.writeBar0 a.toNat (v.toNat % 2 ^ 32)).writeBar0 (a.toNat + 4) (v.toNat / 2 ^ 32)) ∧
    Acts (.registerWrite a 2 v) s id ∧ Acts (.registerWrite a 1 v) s id ∧
    Acts (.registerWrite 0x314 4 v) s (fun s => { s with glb := { s.glb with scratch := v.truncate 32 } }) ∧
    ((s.pair p).en = false → s.fmp.stagedLo = [] →
      ∃ t, exec (.registerWrite (BitVec.ofNat 25 (0x11000 + 0x40 * p.val)) 8 v) s = .next t ∧
        (t.pair p).sqBase = alignDown (baseAlign (s.pair p).log2 6) v.toNat ∧ (t.pair p).cqBase = (s.pair p).cqBase) ∧
    (s.glb.ftuRun = false → Acts (.registerWrite 0x20010 4 v) s fun s =>
      { s with glb := { s.glb with notReadyWr := satAdd 32 s.glb.notReadyWr 1 } }) ∧
    (s.isF = false → Acts (.registerWrite 0x400004 4 v) s id) ∧
    (w.toNat / 2 ^ 16 = 0x4B31 → s.glb.resetDue = none → Acts (.moduleResetRequest w) s fun s =>
      { s with glb := { s.glb with resetDue := some (2, s.clock + us16 1) } }) ∧
    (w.toNat / 2 ^ 16 ≠ 0x4B31 → Acts (.moduleResetRequest w) s id)

/-! ### Module reset, start-up, the MSC -/

/-- The input stage's faults, a brown-out and the module resets of the input's power and failure hold the module by its
supply, with every island and the Port Logic at their reset values and the ramp undone; the cause is 5 where an early
warning was in effect, else 1. The event log, its archive and time entries, the EEPROM and the manager's memory stay, and
so does the NOR, but that a trial image's run ends the trial and is noted (R380, R381, R404). -/
def Sys2Proof.Claims.SupplyLossHoldsTheModule : Prop :=
  ∀ (i : Instr) (s : State),
    i ∈ [.runningOvercurrent, .fastOvercurrent, .overvoltage, .brownOut, .moduleReset .inputPower,
      .moduleReset .inputFailure] →
    ∃ t, exec i s = .next t ∧ t.held = some .supply ∧ t.AtRest ∧ t.prt = {} ∧
      t.glb.causeModule = (if s.ppu.warning then 5 else 1) ∧ t.ppu.rampDone = false ∧
      t.evr.log = s.evr.log ∧ t.evr.archive = s.evr.archive ∧ t.evr.times = s.evr.times ∧ t.eeprom = s.eeprom ∧
      t.mgr = s.mgr ∧ (s.msc.onTrial = false → t.msc.nor = s.msc.nor) ∧
      (s.msc.onTrial = true → t.msc.nor = { s.msc.nor with trial := none } ∧ t.msc.revert = some (s.msc.runB, 2))

/-- RESET_N and heat hold a running module, and a KIND 2 request holds it once it has fallen due, with every island at its
reset value and each with its own cause; RESET_N and the KIND 2 request leave the Port Logic nothing but its link
generations, as keepGens has them. A thermal shutdown leaves a time entry of cause 3. Without a request due, a reset by
RESET_CTRL does nothing (R85, R404, R405). -/
def Sys2Proof.Claims.OtherResetsKeepLinkGenerations : Prop :=
  ∀ (s : State), s.held = none →
    (∃ t, exec .resetN s = .next t ∧ t.held = some .resetPin ∧ t.AtRest ∧ t.glb.causeModule = 2 ∧
      t.prt = { ports := keepGens s.prt.ports } ∧ t.ppu.rampDone = true ∧ t.mgr = s.mgr) ∧
    (∃ t, exec (.moduleReset .resetPin) s = .next t ∧ t.held = some .resetPin ∧ t.AtRest ∧ t.glb.causeModule = 2) ∧
    (∀ d, s.glb.resetDue = some (2, d) → d ≤ s.clock →
      ∃ t, exec (.moduleReset .resetCtrl) s = .next t ∧ t.held = some .resetCtrl ∧ t.AtRest ∧ t.glb.causeModule = 3 ∧
        t.prt = { ports := keepGens s.prt.ports }) ∧
    (s.glb.resetDue = none → exec (.moduleReset .resetCtrl) s = .next s) ∧
    (∃ t, exec (.moduleReset .thermal) s = .next t ∧ t.held = some .thermal ∧ t.AtRest ∧ t.glb.causeModule = 4) ∧
    (∃ t, exec .thermalShutdown s = .next t ∧ t.held = some .thermal ∧ t.AtRest ∧ t.glb.causeModule = 4 ∧
      (t.evr.times.getLast?).map (·.cause) = some 3 ∧ t.evr.log = s.evr.log)

/-- A hold that is not thermal ends by STARTUP once the input stage has ramped, and not before; a thermal one ends by
THERMAL_RECOVERY alone. The input stage turns on where it has not ramped and fewer than three ramps failed, and not after
three; an inrush fault before the ramp is done counts one failed ramp, three at most (R380, R405, R407). -/
def Sys2Proof.Claims.HoldsEndAsTheyMust : Prop :=
  ∀ (s : State),
    (∀ h, s.held = some h → h ≠ .thermal → s.ppu.rampDone = true → exec .startUp s = .next { s with held := none }) ∧
    (∀ h, s.held = some h → s.ppu.rampDone = false → exec .startUp s = .next s) ∧
    (s.held = some .thermal → exec .startUp s = .next s) ∧
    (s.held = some .thermal → exec .thermalRecovery s = .next { s with held := none }) ∧
    (s.held ≠ some .thermal → exec .thermalRecovery s = .next s) ∧
    (s.ppu.rampDone = false → s.ppu.failedRamps < 3 →
      exec .inputTurnOn s = .next { s with ppu := { s.ppu with rampDone := true, failedRamps := 0 } }) ∧
    (3 ≤ s.ppu.failedRamps → exec .inputTurnOn s = .next s) ∧
    (s.ppu.rampDone = false →
      exec .inrushFault s = .next { s with ppu := { s.ppu with failedRamps := min 3 (s.ppu.failedRamps + 1) } })

/-- The start-up steps, each where its readiness bit is 0. FTU_RUN sets its bit, and MSE_RUN where there are no engines;
after it, SRAM_SWEPT sets its bit with CORE_RUN and HOME_RUN and runs every slice, and MEM_TRAINED trains every channel.
FMP_READY, of a stored copy that passes its checks, takes the retirement list and the device number over. After it,
EQ_LOADED takes the board table over; PPU_RUN sets its bit where no feed starts by itself; and MEM_SWEPT, once the memory is
trained and with no hard row, empties every line. Before the step it depends on, each does nothing (R407, Table 16-2). -/
def Sys2Proof.Claims.StartUpStepsSetReadiness : Prop :=
  ∀ (st : StoreCheck) (s : State), s.held = none →
    (s.glb.ftuRun = false → Acts .ftuRun s fun s =>
      State.noteReady { s with glb := { s.glb with ftuRun := true, mseRun := s.glb.mseRun || !s.isF } }) ∧
    (s.glb.ftuRun = true → s.glb.sramSwept = false → ∃ t, exec .sramSwept s = .next t ∧ t.glb.sramSwept = true ∧
      t.glb.coreRun = true ∧ t.glb.homeRun = true ∧ (∀ k, k < 16 → (t.slice k).running = true) ∧ t.mgr = s.mgr) ∧
    (s.glb.ftuRun = true → s.glb.memTrained = false → ∃ t, exec .memTrained s = .next t ∧ t.glb.memTrained = true ∧
      t.mem.trained = true ∧ (∀ k, k < 32 → (t.chan k).trained = true) ∧ t.mgr = s.mgr) ∧
    (s.glb.ftuRun = false → Acts .sramSwept s id ∧ Acts .memTrained s id) ∧
    (s.msc.state = .running → s.glb.fmpReady = false → st = {} → ∃ t, exec (.fmpReady st) s = .next t ∧
      t.glb.fmpReady = true ∧ t.mem.retire = s.msc.nor.retire ∧ t.prt.pbrDev = s.msc.nor.pbrDev ∧
      t.mem.listLoaded = true) ∧
    (s.glb.fmpReady = true → s.glb.eqLoaded = false → ∃ t, exec .eqLoaded s = .next t ∧ t.glb.eqLoaded = true ∧
      t.lnk.eq = s.loadEq.lnk.eq ∧ t.msc.eqDigest = Config.sha3 s.eeprom) ∧
    (s.glb.fmpReady = true → s.glb.ppuRun = false → (∀ x ∈ s.ppu.feeds, x.2.auto = false) → Acts .ppuRun s fun s =>
      State.noteReady { s with glb := { s.glb with ppuRun := true } }) ∧
    (s.glb.fmpReady = true → s.glb.memTrained = true → s.glb.memSwept = false →
      (∀ x ∈ s.mem.retire, x.2.valid = true → x.2.hard = []) → ∃ t, exec .memSwept s = .next t ∧
        t.glb.memSwept = true ∧ t.mem.lines = [] ∧ t.mem.fills = [] ∧ (∀ k, t.line k = {}) ∧
        (s.isF = true → t.glb.mseRun = true)) ∧
    (s.glb.fmpReady = false → Acts .eqLoaded s id ∧ Acts .ppuRun s id ∧ Acts .memSwept s id)

/-- FW_VERIFIED, in the ROM after FTU_RUN with no trial to note: a trial image that passes its checks runs on trial; without
a trial the confirmed slot runs where it passes, else the other one, which becomes the confirmed slot with an error flagged;
where neither passes the module is in recovery, FW_VERIFIED stays as it was and the NOR is untouched (R412, R413, R416). -/
def Sys2Proof.Claims.RomBootsAVerifiedSlot : Prop :=
  ∀ (s : State), s.held = none → s.glb.ftuRun = true → s.msc.state = .rom → s.msc.revert = none →
    let a := s.msc.nor.confirmedB
    (∀ b, s.msc.nor.trial = some b → s.slotReason b = 0 → ∃ t, exec .fwVerified s = .next t ∧ t.msc.state = .running ∧
      t.msc.runB = b ∧ t.msc.onTrial = true ∧ t.msc.nor = s.msc.nor ∧ t.glb.fwVerified = true) ∧
    (s.msc.nor.trial = none → s.slotReason a = 0 → ∃ t, exec .fwVerified s = .next t ∧ t.msc.state = .running ∧
      t.msc.runB = a ∧ t.msc.onTrial = false ∧ t.msc.nor = s.msc.nor ∧ t.glb.fwVerified = true ∧
      t.msc.runVersion = imgVersion (s.msc.nor.slot a) ∧ t.msc.runSvn = imgSvn (s.msc.nor.slot a)) ∧
    (s.msc.nor.trial = none → s.slotReason a ≠ 0 → s.slotReason (!a) = 0 → ∃ t, exec .fwVerified s = .next t ∧
      t.msc.state = .running ∧ t.msc.runB = !a ∧ t.msc.nor.confirmedB = !a ∧ t.msc.err.getLsbD 0 = true) ∧
    (s.msc.nor.trial = none → s.slotReason a ≠ 0 → s.slotReason (!a) ≠ 0 → ∃ t, exec .fwVerified s = .next t ∧
      t.msc.state = .recovery ∧ t.msc.onTrial = false ∧ t.glb.fwVerified = s.glb.fwVerified ∧
      t.msc.err.getLsbD 0 = true ∧ t.msc.nor = s.msc.nor)

/-- The firmware opcodes. FW_STAGE within the slot writes the manager's bytes into the slot that is neither confirmed nor
running, touches neither the other slot nor the manager's memory, and returns their number; FW_VERIFY returns that slot's
SVN, or DENIED with its first failing check; both are BUSY where there is no such slot. FW_ACTIVATE puts a slot that passes
on trial by a restart (mode 0), boots it directly from recovery, confirms a running trial (mode 1), and is DENIED where none runs. FW_QUERY returns the SVN
floor, the last reason, or the inactive slot's version; FW_ROLLBACK_ADVANCE raises the floor to the running SVN, and is
DENIED on trial or where the floor is no lower (R413). -/
def Sys2Proof.Claims.FirmwareUpdateOpcodes : Prop :=
  ∀ (c : Cmd) (b : Bool) (s : State),
    (Instant opFwStage c s → s.inactiveSlot = some b → c.le 24 4 + c.le 28 4 ≤ slotSize → 1 ≤ c.le 28 4 →
      c.le 28 4 ≤ 1048576 → ∃ g : State → State, Completes (.fwStage c) 0xB0 c s g (c.le 28 4) ∧
        let t := g (s.accept c)
        (∀ k, k < c.le 28 4 → tget erasedByte (t.msc.nor.slot b) (c.le 24 4 + k) =
          tget 0 s.mgr ((c.le 16 8 + k) % 2 ^ 64)) ∧
        t.msc.nor.slot (!b) = s.msc.nor.slot (!b) ∧ t.msc.stagedValid = false ∧ t.mgr = s.mgr) ∧
    (Instant opFwStage c s → s.inactiveSlot = none → EndsWith (.fwStage c) 0xB0 c s stBusy) ∧
    (Instant opFwVerify c s → s.inactiveSlot = none → EndsWith (.fwVerify c) 0xB1 c s stBusy) ∧
    (Instant opFwVerify c s → s.inactiveSlot = some b → s.slotReason b = 0 → Completes (.fwVerify c) 0xB1 c s
      (fun t => { t with msc := { t.msc with lastReason := 0, stagedValid := true, erased := [] } })
      (imgSvn (s.msc.nor.slot b))) ∧
    (Instant opFwVerify c s → s.inactiveSlot = some b → s.slotReason b ≠ 0 → Answers (.fwVerify c) 0xB1 c s
      (fun t => { t with msc := { t.msc with lastReason := s.slotReason b, stagedValid := false, erased := [] } })
      stDenied (s.slotReason b)) ∧
    (Instant opFwActivate c s → c.byte 16 = 0 → s.msc.state ≠ .recovery → s.inactiveSlot = some b → s.slotReason b = 0 →
      Holds (.fwActivate c) 0xB2 c s fun tk t => State.mscRestart { t with msc := { t.msc with
        nor := { t.msc.nor with trial := some b }, lastReason := 0, erased := [] } } 4 (some tk)) ∧
    (Instant opFwActivate c s → c.byte 16 = 0 → s.msc.state = .recovery → s.slotReason (!s.msc.nor.confirmedB) = 0 →
      ∃ g : State → State, Completes (.fwActivate c) 0xB2 c s g (g (s.accept c)).fwRunning ∧
        let t := g (s.accept c)
        t.msc.state = .running ∧ t.msc.runB = !s.msc.nor.confirmedB ∧ t.msc.onTrial = false ∧ t.glb.fwVerified = true) ∧
    (Instant opFwActivate c s → c.byte 16 = 1 → s.msc.onTrial = true → Completes (.fwActivate c) 0xB2 c s
      (fun t => { t with msc := { t.msc with
        nor := { t.msc.nor with confirmedB := t.msc.runB, trial := none }, onTrial := false, stagedValid := false, erased := [] } })
      s.fwRunning) ∧
    (Instant opFwActivate c s → c.byte 16 = 1 → s.msc.onTrial = false → EndsWith (.fwActivate c) 0xB2 c s stDenied) ∧
    (Instant opFwQuery c s → c.byte 16 = 3 → Completes (.fwQuery c) 0xB3 c s id s.msc.nor.svnFloor) ∧
    (Instant opFwQuery c s → c.byte 16 = 4 → Completes (.fwQuery c) 0xB3 c s id s.msc.lastReason) ∧
    (Instant opFwQuery c s → c.byte 16 = 1 → s.inactiveSlot = some b →
      Completes (.fwQuery c) 0xB3 c s id (imgVersion (s.msc.nor.slot b))) ∧
    (Instant opFwRollbackAdvance c s → s.msc.onTrial = false → s.msc.nor.svnFloor < s.msc.runSvn →
      Completes (.fwRollbackAdvance c) 0xB4 c s
        (fun t => { t with msc := { t.msc with nor := { t.msc.nor with svnFloor := t.msc.runSvn } } }) s.msc.runSvn) ∧
    (Instant opFwRollbackAdvance c s → s.msc.onTrial = true ∨ s.msc.runSvn ≤ s.msc.nor.svnFloor →
      EndsWith (.fwRollbackAdvance c) 0xB4 c s stDenied)

/-- ID_CERT_READ copies a certificate to the manager and returns its length, or ends NO_RESOURCE where the buffer is too
small; ATTEST_SIGN writes the measurements and 2,420 bytes of signature. MSC_RESTART begins a restart and keeps its ticket;
the watchdog restarts a running MSC with its cause counted, its sessions ended and its store written, and ends a trial. When
the MSC returns, with its confirmed slot sound and nothing held, it runs that slot and the MSC_RESTART that waited is no
longer in flight; with no restart nothing happens. The persistent store is written where a section has changed: shown for
the PBR settings, and for no change (R406, R415, R419). -/
def Sys2Proof.Claims.IdentityAndRestart : Prop :=
  ∀ (c : Cmd) (s : State),
    (Instant opIdCertRead c s → c.byte 16 ≤ 2 → (Config.certificate (c.byte 16)).length ≤ c.le 32 4 →
      Completes (.idCertRead c) 0xB5 c s (fun t => t.mgrWrite (c.le 24 8) (Config.certificate (c.byte 16)))
        (Config.certificate (c.byte 16)).length) ∧
    (Instant opIdCertRead c s → c.byte 16 ≤ 2 → c.le 32 4 < (Config.certificate (c.byte 16)).length →
      EndsWith (.idCertRead c) 0xB5 c s stNoResource) ∧
    (Instant opAttestSign c s → ∃ sig : List Byte, sig.length = 2420 ∧ Completes (.attestSign c) 0xB6 c s
      (fun t => t.mgrWrite (c.le 24 8) (s.measurements ++ sig)) (s.measurements.length + 2420)) ∧
    (Instant opMscRestart c s → Holds (.mscRestart c) 0xB7 c s fun tk t => t.mscRestart 1 (some tk)) ∧
    (s.held = none → s.msc.state = .running → s.msc.onTrial = false → ∃ t, exec .mscWatchdog s = .next t ∧
      t.msc.state = .restarting ∧ t.glb.causeMsc = 5 ∧ t.msc.sessions = [] ∧ t.msc.dirty = [] ∧
      t.msc.err.getLsbD 2 = true ∧ t.glb.mscCount = satAdd 16 s.glb.mscCount 1) ∧
    (s.held = none → s.msc.state = .running → s.msc.onTrial = true → ∃ t, exec .mscWatchdog s = .next t ∧
      t.msc.state = .restarting ∧ t.msc.nor.trial = none ∧ t.msc.revert = some (s.msc.runB, 3)) ∧
    (∀ at16 tk, s.held = none → s.msc.state = .restarting → s.msc.restart = some (at16, some tk) → tk.op = 0xB7 →
      s.msc.revert = none → s.msc.nor.trial = none → s.slotReason s.msc.nor.confirmedB = 0 → s.fmp.heldReqs = [] →
      ∃ t, exec .mscReturned s = .next t ∧ t.msc.state = .running ∧ t.msc.restart = none ∧
        t.fmp.heldReqs = [] ∧ t.msc.runB = s.msc.nor.confirmedB ∧
        (∀ p, tk.src = .ring p → (t.pair p).inflight = (s.pair p).inflight - 1)) ∧
    (s.held = none → s.msc.state ≠ .restarting → Acts .mscReturned s id) ∧
    (s.held = none → s.msc.dirty = [] → Acts .persistentStoreWrite s id) ∧
    (s.held = none → s.msc.dirty = [(2, s.clock)] → Acts .persistentStoreWrite s fun s =>
      { s with msc := { s.msc with nor := { s.msc.nor with pbrDev := s.prt.pbrDev }, dirty := [] } })

/-! ### FM API, mailbox and SPDM -/

/-- FM requests that reach a running MSC, on a module whose FMP answers, are answered on the FM's link and have the effect
of their row and no other: identity, background status, the response limit read and set, the timestamp read and set, the
switch's identity, a port's state (invalid input where the port does not exist), a downstream port's hot reset, PERST (not
supported), a tunnelled request, the port page (invalid input above 3), and the EID of an MCTP control message, which also
returns the port page to 0 (R334, R335). -/
def Sys2Proof.Claims.FmRequestsAreAnswered : Prop :=
  ∀ (n : Nat) (v : BitVec 64) (fp page : Byte) (ld : BitVec 16) (req : List Byte) (s : State), s.Alive → s.msc.state = .running →
    Acts .fmIdentify s (fun s => s.emit (.fmReply 0x0001 .success s.identityBody)) ∧
    Acts .fmBackgroundOperationStatus s (fun s => s.emit (.fmReply 0x0002 .success (Config.cciBody 0x0002 [0]))) ∧
    Acts .getResponseMessageLimit s (fun s => s.emit (.fmReply 0x0003 .success (Config.cciBody 0x0003 [s.fmp.msgLimit]))) ∧
    (256 ≤ n → n ≤ 4096 → Acts (.setResponseMessageLimit n) s fun s =>
      State.emit { s with fmp := { s.fmp with msgLimit := n } } (.fmReply 0x0004 .success (Config.cciBody 0x0004 [n]))) ∧
    Acts .getTimestamp s (fun s => s.emit (.fmReply 0x0300 .success (Config.cciBody 0x0300 [s.timestamp]))) ∧
    (∃ t, exec (.setTimestamp v) s = .next t ∧ t.timestamp = v.toNat ∧ t.clock = s.clock ∧ t.mgr = s.mgr) ∧
    Acts .identifySwitchDevice s (fun s => s.emit (.fmReply 0x5100 .success
      (Config.cciBody 0x5100 [s.fmp.portPage, s.pageMasks.1, s.pageMasks.2, 0]))) ∧
    (s.portExists (s.fmPort fp) = true → Acts (.getPhysicalPortState fp) s fun s => s.emit (.fmReply 0x5101 .success
      (Config.cciBody 0x5101 [s.fmPort fp, (s.port (s.fmPort fp)).status, (s.port (s.fmPort fp)).cfg.image]))) ∧
    (s.portExists (s.fmPort fp) = false → Acts (.getPhysicalPortState fp) s fun s =>
      s.emit (.fmReply 0x5101 .invalidInput [])) ∧
    (s.portExists (s.fmPort fp) = true → (s.port (s.fmPort fp)).cfg.en = true → (s.port (s.fmPort fp)).cfg.role = 0 →
      Acts (.physicalPortControl fp .resetPpb) s fun s =>
        (s.mctpPush 0x19 (sideCmd (s.fmPort fp) 0 []) []).emit (.fmReply 0x5102 .success [])) ∧
    Acts (.physicalPortControl fp .assertPerst) s (fun s => s.emit (.fmReply 0x5102 .unsupported [])) ∧
    Acts (.tunnelManagementCommand fp ld req) s (fun s =>
      s.mctpPush 0x16 (sideCmd (s.fmPort fp) 0 [(40, 2, ld.toNat)]) req) ∧
    (page.toNat ≤ 3 → s.portExists (256 * page.toNat) = true → Acts (.portPageSelect page) s fun s =>
      State.emit { s with fmp := { s.fmp with portPage := page.toNat } } (.fmReply 0xC110 .success [])) ∧
    (3 < page.toNat → Acts (.portPageSelect page) s fun s => s.emit (.fmReply 0xC110 .invalidInput [])) ∧
    Acts (.mctpControlMessage (some fp)) s (fun s => { s with fmp := { s.fmp with eid := some fp, portPage := 0 } })

/-- A request over MCTP that reaches the module during an MSC restart waits where fewer than eight do, and is discarded
otherwise; any request is discarded in ROM and in recovery, and served where the MSC runs (R334, R415). -/
def Sys2Proof.Claims.RequestsWaitDuringARestart : Prop :=
  ∀ (q : MscReq) (s : State), s.reachable q = true →
    (s.msc.state = .restarting → q.doe = none → s.mctpHeld < 8 →
      s.request q = { s with fmp := { s.fmp with heldReqs := s.fmp.heldReqs ++ [q] } }) ∧
    (s.msc.state = .restarting → q.doe = none → 8 ≤ s.mctpHeld → s.request q = s) ∧
    (s.msc.state = .rom ∨ s.msc.state = .recovery → s.request q = s) ∧
    (s.msc.state = .running → s.request q = s.serve q)

/-- The switch mailbox of an upstream port that presents a virtual switch answers its six opcodes and changes nothing
(R336). -/
def Sys2Proof.Claims.MailboxAnswersItsSwitch : Prop :=
  ∀ (p : Port) (v : Nat) (s : State), s.held = none → s.vcsOf p = some v →
    Acts (.cciIdentify p) s (fun s => s.emit (.cciReply p 0x0001 .success s.identityBody)) ∧
    Acts (.cciBackgroundOperationStatus p) s (fun s => s.emit (.cciReply p 0x0002 .success (Config.cciBody 0x0002 [0]))) ∧
    Acts (.cciGetResponseMessageLimit p) s (fun s => s.emit (.cciReply p 0x0003 .success (Config.cciBody 0x0003 [1024]))) ∧
    Acts (.cciGetTimestamp p) s (fun s => s.emit (.cciReply p 0x0300 .success (Config.cciBody 0x0300 [s.timestamp]))) ∧
    Acts (.cciIdentifySwitchDevice p) s (fun s =>
      s.emit (.cciReply p 0x5100 .success (Config.cciBody 0x5100 (s.vcsFields p)))) ∧
    Acts (.getVirtualCxlSwitchInfo p) s (fun s =>
      s.emit (.cciReply p 0x5200 .success (Config.cciBody 0x5200 (s.vcsFields p))))

/-- SPDM requests that reach a running MSC are answered each with its response, signed where the standard has it signed;
KEY_EXCHANGE opens a session on K1024-F and is an error on another part; FINISH and END_SESSION are answered in a session,
which END_SESSION ends, and are an error without one (R418). -/
def Sys2Proof.Claims.SpdmRequestsAreAnswered : Prop :=
  ∀ (via : SpdmVia) (req : List Byte) (s : State), s.held = none → s.msc.state = .running →
    (∀ k, s.reachable (.spdm via k req) = true) →
    let signed := fun (code : Nat) (more : List Byte) => Output.spdm via code
      (Config.spdmBody code req ++ more ++ Config.aliasSign (Config.sha3 (Config.spdmBody code req ++ more)))
    Acts (.getVersion via req) s (fun s => s.emit (.spdm via 0x04 (Config.spdmBody 0x04 req))) ∧
    Acts (.getCapabilities via req) s (fun s => s.emit (.spdm via 0x61 (Config.spdmBody 0x61 req))) ∧
    Acts (.negotiateAlgorithms via req) s (fun s => s.emit (.spdm via 0x63 (Config.spdmBody 0x63 req))) ∧
    Acts (.getDigests via req) s (fun s =>
      s.emit (.spdm via 0x01 (Config.spdmBody 0x01 req ++ Config.sha3 (Config.certificate 0)))) ∧
    Acts (.getCertificate via req) s (fun s =>
      s.emit (.spdm via 0x02 (Config.spdmBody 0x02 (req ++ Config.certificate 0)))) ∧
    Acts (.spdmChallenge via req) s (fun s =>
      s.emit (signed 0x03 (Config.sha3 (Config.certificate 0) ++ s.measurements))) ∧
    Acts (.getMeasurements via req) s (fun s => s.emit (signed 0x60 s.measurements)) ∧
    (s.isF = true → Acts (.keyExchange via req) s fun s =>
      State.emit { s with msc := { s.msc with sessions := via :: s.msc.sessions.erase via } } (signed 0x64 [])) ∧
    (s.isF = false → Acts (.keyExchange via req) s fun s => s.emit (.spdmError via)) ∧
    (s.isF = true → s.msc.sessions.contains via = true →
      Acts (.spdmFinish via req) s (fun s => s.emit (.spdm via 0x65 (Config.spdmBody 0x65 req))) ∧
      Acts (.endSession via req) s fun s =>
        State.emit { s with msc := { s.msc with sessions := s.msc.sessions.erase via } }
          (.spdm via 0x6C (Config.spdmBody 0x6C req))) ∧
    (s.msc.sessions.contains via = false →
      Acts (.spdmFinish via req) s (fun s => s.emit (.spdmError via)) ∧
      Acts (.endSession via req) s fun s => s.emit (.spdmError via))

/-! ### Power and protection -/

/-- The feed opcodes, for a cage and fields in range. FEED_SET asks for the feed, takes it off at once, or schedules its
removal and keeps its ticket; FEED_CFG of a descriptor stores the settings and returns their image; FEED_CLEAR ends the
episode, and unlatches a latched channel (RESULT 0) unless its FET is short and still carries 50 mA (RESULT 1); SHELF_WAKE
takes a place in the launch queue and, once due on a present channel without a fault, asks for the feed and waits on its
WAKE frame; SHELF_SLEEP sends its frame and waits, and is ABORTED on an OFF link. FEED_QUERY returns the status, the
cooldown left or the energy; PPU_INPUT_CFG stores the input's settings; PPU_QUERY returns the warnings counted or the
hold-up time. -/
def Obligations.FeedOpcodes : Prop :=
  ∀ (c : Cmd) (l : Launch) (s : State), c.target ≤ 63 →
    let g := c.target
    (Instant opFeedSet c s → c.byte 16 = 1 → c.le 18 2 ≤ 60000 →
      Completes (.feedSet c) 0xA0 c s (fun t => t.feedRequest g) (((s.accept c).feedRequest g).feedStatus g)) ∧
    (Instant opFeedSet c s → c.byte 16 = 0 → c.le 18 2 = 0 →
      Completes (.feedSet c) 0xA0 c s (fun t => t.feedOff g) (((s.accept c).feedOff g).feedStatus g)) ∧
    (Instant opFeedSet c s → c.byte 16 = 0 → 0 < c.le 18 2 → c.le 18 2 ≤ 60000 →
      Holds (.feedSet c) 0xA0 c s fun tk t => t.scheduleRemoval g
        { at16 := s.clock + ms16 (c.le 18 2), ticket := some tk
          result := t.feedStatus g + 2 ^ 18 * bit (s.feed g).removal.isNone }) ∧
    (Instant opFeedCfg c s → (∃ p, c.src = .ring p) → 50 ≤ c.le 16 2 → c.le 16 2 ≤ 350 → 1 ≤ c.byte 18 → c.byte 18 ≤ 20 →
      1 ≤ c.byte 19 → c.byte 19 ≤ 100 → 1 ≤ c.le 20 2 → c.le 20 2 ≤ 200 → 1 ≤ c.byte 22 → c.byte 22 ≤ 15 →
      Completes (.feedCfg c) 0xA1 c s
        (fun t => (t.modFeed g fun f => { f with ilim := c.le 16 2, rampMs := c.byte 18, tstart := c.byte 19,
                                                 tripMax := c.byte 22, auto := bitOf (c.byte 23) 0, trun := c.le 20 2 }).markDirty 1)
        (c.le 16 2 + 2 ^ 9 * c.byte 18 + 2 ^ 16 * c.byte 19 + 2 ^ 23 * bit (bitOf (c.byte 23) 0) + 2 ^ 24 * c.byte 22)) ∧
    (Instant opFeedClear c s → (s.feed g).state ≠ .latched → Completes (.feedClear c) 0xA2 c s
      (fun t => t.modFeed g fun f => { f with trips := 0 }) 1) ∧
    (Instant opFeedClear c s → (s.feed g).state = .latched → (s.feed g).fetShort = false → Completes (.feedClear c) 0xA2 c s
      (fun t => (t.modFeed g fun f => { f with trips := 0 }).unlatch g) 0) ∧
    (Instant opFeedClear c s → (s.feed g).state = .latched → (s.feed g).fetShort = true → 50 ≤ (s.feed g).milliamps →
      Completes (.feedClear c) 0xA2 c s (fun t => t.modFeed g fun f => { f with trips := 0 }) 1) ∧
    (Queues opShelfWake c s → TakesPlace (.shelfWake c) opShelfWake c s) ∧
    (Due opShelfWake l s → l.cmd.target = g → (s.feed g).faulted = false → (s.feed g).present = true →
      ∃ t, exec .launchExecute s = .next t ∧ (t.feed g).onReq = true ∧
        ∃ w ∈ (t.feed g).wake, w.1 = opShelfWake.launchTicket l (s.unqueue l) ∧ w.2.2 = (s.link g).txSeq) ∧
    (Instant opShelfSleep c s → (s.link g).state ≠ .off → Holds (.shelfSleep c) 0xA4 c s fun tk t =>
      (t.modFeed g fun f => { f with sleep := f.sleep ++ [(tk, bitOf (c.byte 16) 0, c.le 18 2, (s.link g).txSeq)] }).slQueue
        g 0x31 []) ∧
    (Instant opShelfSleep c s → (s.link g).state = .off → EndsWith (.shelfSleep c) 0xA4 c s stAborted) ∧
    (Instant opFeedQuery c s → c.byte 16 = 0 → Completes (.feedQuery c) 0xA5 c s id (s.feedStatus g)) ∧
    (Instant opFeedQuery c s → c.byte 16 = 4 → Completes (.feedQuery c) 0xA5 c s id (s.coolLeft g)) ∧
    (Instant opFeedQuery c s → c.byte 16 = 6 → Completes (.feedQuery c) 0xA5 c s id (s.feed g).joules) ∧
    (Instant opPpuInputCfg c s → 144 ≤ c.byte 16 → c.byte 16 ≤ 156 → 1 ≤ c.byte 18 → c.byte 18 ≤ 64 →
      Completes (.ppuInputCfg c) 0xA6 c s
        (fun t => { t with ppu := { t.ppu with warn := c.byte 16, pfailInEn := bitOf (c.byte 17) 0, maxRamps := c.byte 18 } })
        (c.byte 16 + 2 ^ 8 * bit (bitOf (c.byte 17) 0) + 2 ^ 16 * c.byte 18)) ∧
    (Instant opPpuQuery c s → c.byte 16 = 4 → Completes (.ppuQuery c) 0xA7 c s id s.ppu.warnCount) ∧
    (Instant opPpuQuery c s → c.byte 16 = 7 → Completes (.ppuQuery c) 0xA7 c s id (holdUpNs s.ppu.warn / 1000))

/-- The five trips of a running module's feed: the fast comparator at twice the limit of a driven channel, TSTART in limit
during the ramp, TRUN in limit while on, an output below 10 V with a good supply while on, and a ramp that takes too long;
where the condition that names the trip does not hold, nothing happens (below the limit, not in the ramp, not on, the output
at 10 V). The episode of a channel that has been on for 10 s ends (R383, R384, R387). -/
def Sys2Proof.Claims.FeedTripConditions : Prop :=
  ∀ (g : Cage) (ma : Nat) (s : State), s.held = none →
    let f := s.feed g
    (f.driven = true → 20 * f.ilim ≤ ma → Acts (.fastComparator g ma) s fun s => (s.cntPpu 0xE2).feedTrip g 1 ma) ∧
    (ma < 20 * f.ilim → Acts (.fastComparator g ma) s id) ∧
    (f.state = .ramp → ms16 f.tstart ≤ f.limitTime s.clock → Acts (.tstartExpiry g) s fun s =>
      s.feedTrip g 2 f.milliamps.toNat) ∧
    (f.state ≠ .ramp → Acts (.tstartExpiry g) s id) ∧
    (f.state = .on → us16 (100 * f.trun) ≤ f.runTimer s.clock → Acts (.trunExpiry g) s fun s =>
      s.feedTrip g 3 f.milliamps.toNat) ∧
    (f.state ≠ .on → Acts (.trunExpiry g) s id) ∧
    (f.state = .on → f.voutOpen = false → f.vout < 10000 → 10800 ≤ f.senp → f.runTimer s.clock < us16 (100 * f.trun) →
      Acts (.outputLow g) s fun s => s.feedTrip g 4 f.milliamps.toNat) ∧
    (10000 ≤ f.vout → Acts (.outputLow g) s id) ∧
    (f.state = .ramp → f.rampAt + ms16 (4 * f.rampMs + f.tstart) ≤ s.clock → f.limitTime s.clock < ms16 f.tstart →
      Acts (.rampTimeout g) s fun s => s.feedTrip g 5 f.milliamps.toNat) ∧
    (f.state = .on → f.onAt + ms16 10000 ≤ s.clock → Acts (.episodeEnd g) s fun s => s.modFeed g fun f => { f with trips := 0 })

/-- What a trip does to a driven channel on which no command waits and whose link is OFF: the cooldown is 50 times the time
in limit, 1 s at least and 60 s at most; the trip counts in its episode and in all, and its kind is kept; the channel is
LATCHED with cause 1 at TRIP_MAX trips, and in COOLDOWN before; the trip is flagged, and no other channel changes (R387, R388). -/
def Sys2Proof.Claims.TripCoolsDownOrLatches : Prop :=
  ∀ (g : Nat) (kind ma : Nat) (s : State), (s.feed g).driven = true → (s.feed g).removal = none →
    (s.feed g).wake = [] → (s.feed g).sleep = [] → (s.link g).state = .off →
    let f := s.feed g
    let t := s.feedTrip g kind ma
    (t.feed g).coolUntil = s.clock + min (ms16 60000) (max (ms16 1000) (50 * f.limitTime s.clock)) ∧
    (t.feed g).trips = min 15 (f.trips + 1) ∧ (t.feed g).lastTrip = kind ∧
    (t.feed g).tripsTotal = satAdd 32 f.tripsTotal 1 ∧
    (t.feed g).state = (if f.tripMax ≤ f.trips + 1 then .latched else .cooldown) ∧
    (f.tripMax ≤ f.trips + 1 → (t.feed g).latchCause = 1) ∧ t.ppu.err.getLsbD 0 = true ∧
    (∀ h, h ≠ g → t.feed h = s.feed h)

/-- The events of a feed channel. A sample of an OFF channel is recorded. A ramp starts where the channel waits, is ready and
lacks nothing, and no other comes first; the output becomes good, where the last sample shows it within 0.3 V of the supply,
and the channel is on; a cooldown that is over ends in OFF
where the feed is not asked for, and not before its time. An open sense, a Kelvin line above 15 V or the two more than 150 mV or
less than -20 mV apart in the last sample, latches a driven channel; an open output tap, 2 V below the line, ends the ramp of one that carries less than half its limit, a short FET latches one that is not driven, and a low supply is
recorded once while on. A scheduled removal takes the feed off at its time, and a SHELF_WAKE ends TIMEOUT after 2 s (R383 to
R391, R396, R397). -/
def Sys2Proof.Claims.FeedChannelEvents : Prop :=
  ∀ (g : Cage) (m : FeedMeasure) (s : State), s.held = none →
    let f := s.feed g
    (f.driven = false → f.state = .off → f.inLimit = false → f.readyAt = none → ∃ t, exec (.feedSample g m) s = .next t ∧
      (t.feed g).milliamps = m.milliamps ∧ (t.feed g).vout = m.vout ∧ (t.feed g).senp = m.senp ∧
      (t.feed g).senn = m.senn ∧ (t.feed g).state = .off ∧ ∀ h, h ≠ g.val → t.feed h = s.feed h) ∧
    (f.state = .wait → f.readyAt.isSome = true → s.unmet g = 0 → s.ramps < s.ppu.maxRamps → s.rampBefore g = false →
      (s.link g).en = false → f.trips = 0 → ∃ t, exec (.feedRampStart g) s = .next t ∧ (t.feed g).state = .ramp ∧
        (t.feed g).rampAt = s.clock ∧ (t.feed g).limTime = 0 ∧ (t.feed g).runTime = 0) ∧
    (f.state ≠ .wait → f.readyAt = none → Acts (.feedRampStart g) s id) ∧
    (f.state = .ramp → f.senp ≤ f.vout + 300 → ∃ t, exec (.outputGood g) s = .next t ∧ (t.feed g).state = .on ∧ (t.feed g).onAt = s.clock ∧
      (t.feed g).runTime = 0) ∧
    (f.state ≠ .ramp ∨ f.vout + 300 < f.senp → Acts (.outputGood g) s id) ∧
    (f.state = .cooldown → f.coolUntil ≤ s.clock → f.onReq = false → Acts (.cooldownExpiry g) s fun s =>
      (s.feedTo g .off 0).noteWait g) ∧
    (f.state = .cooldown → s.clock < f.coolUntil → Acts (.cooldownExpiry g) s id) ∧
    (f.driven = true → f.kelvinOpen = true → f.removal = none → f.wake = [] → f.sleep = [] → (s.link g).state = .off →
      ∃ t, exec (.openSense g) s = .next t ∧ (t.feed g).state = .latched ∧ (t.feed g).latchCause = 2 ∧
      t.ppu.err.getLsbD 2 = true) ∧
    (f.state = .off ∨ f.kelvinOpen = false → Acts (.openSense g) s id) ∧
    (f.state = .ramp → f.voutOpen = false → f.milliamps * 2 < 10 * f.ilim → f.vout + 2000 < f.senn → ∃ t, exec (.voutOpen g) s = .next t ∧
      (t.feed g).voutOpen = true ∧ (t.feed g).state = .on) ∧
    (f.driven = false → f.fetShort = false → 50 ≤ f.milliamps → ∃ t, exec (.fetShort g) s = .next t ∧
      (t.feed g).fetShort = true ∧ (t.feed g).state = .latched ∧ (t.feed g).latchCause = 3) ∧
    (f.state = .on → f.senp < 10800 → f.supplyLow = false → ∃ t, exec (.supplyLow g) s = .next t ∧
      (t.feed g).supplyLow = true ∧ (t.feed g).state = .on ∧ (t.devRing 1).seq = ((s.devRing 1).seq + 1) % 2 ^ 32) ∧
    (f.supplyLow = true → Acts (.supplyLow g) s id) ∧
    (∀ r, f.removal = some r → r.at16 ≤ s.clock → Acts (.scheduledRemoval g) s fun s => s.feedOff g) ∧
    (f.removal = none → Acts (.scheduledRemoval g) s id) ∧
    (∀ w, f.wake = [w] → w.2.1 + ms16 2000 ≤ s.clock → Acts (.shelfWakeTimeout g) s fun s =>
      (s.modFeed g fun f => { f with wake := [] }).complete w.1 stTimeout 0) ∧
    (f.kelvinOpen = true ↔ 15000 < f.senp ∨ 15000 < f.senn ∨ f.senn + 150 < f.senp ∨ f.senp + 20 < f.senn)

/-- An inserted shelf is recorded, and a removed one ends its episode, with no port UP and no port set to recover by itself
changed. An early warning of a low input, with the shelf links OFF, is noted, counted and timed and drives PFAIL; an input
at the threshold begins none. The end of a warning releases PFAIL and records its length. What already is so does not happen
again (R389, R392 to R394). -/
def Sys2Proof.Claims.PresenceAndEarlyWarning : Prop :=
  ∀ (g : Cage) (mv : BitVec 16) (s : State), s.held = none →
    ((s.feed g).present = false → (∀ i, i < 16 → (s.port (16 * g.val + i)).cfg.dpcAuto = false) → (s.feed g).state = .off →
      (s.feed g).readyAt = none → ∃ t, exec (.presenceInsertion g) s = .next t ∧
        t.feed g = { s.feed g with present := true, debouncing := false } ∧ t.prt = s.prt) ∧
    ((s.feed g).present = true → Acts (.presenceInsertion g) s id) ∧
    ((s.feed g).present = true → (s.feed g).state = .off → (s.feed g).wake = [] →
      (∀ i, i < 16 → (s.port (16 * g.val + i)).state ≠ .up) → ∃ t, exec (.presenceRemoval g) s = .next t ∧
        t.feed g = { s.feed g with present := false, debouncing := false, trips := 0, readyAt := none } ∧ t.prt = s.prt) ∧
    ((s.feed g).present = false → Acts (.presenceRemoval g) s id) ∧
    (s.ppu.warning = false → mv.toNat < 250 * s.ppu.warn → (∀ k, (s.link k).state = .off) → ∃ t, exec (.earlyWarning false mv) s = .next t ∧
      t.ppu.warning = true ∧ t.ppu.warnExt = false ∧ t.ppu.warnAt = s.clock ∧ t.ppu.pfailDriven = true ∧
      t.ppu.warnCount = satAdd 32 s.ppu.warnCount 1 ∧ t.ppu.inputMv = mv.toNat ∧ Output.pfail true ∈ t.out) ∧
    (250 * s.ppu.warn ≤ mv.toNat → Acts (.earlyWarning false mv) s id) ∧
    (s.ppu.warning = true → s.ppu.pfailDriven = true → ∃ t, exec .inputClear s = .next t ∧ t.ppu.warning = false ∧
      t.ppu.pfailDriven = false ∧ t.ppu.warnLast = min (2 ^ 32 - 1) ((s.clock - s.ppu.warnAt) / 16000) ∧
      Output.pfail false ∈ t.out) ∧
    (s.ppu.warning = false → Acts .inputClear s id)

/-! ### Counters -/

/-- The counter opcodes, for a range and fields in range. PCN_SELECT and PCN_CLEAR set or clear the counters of their range
that exist and no other, and return how many; PCN_RELEASE clears the frozen mark and returns whether it was clear; PCN_READ
writes the live value, or 16 zero bytes where no image is valid, and waits while one is gathered. PCN_FREEZE and
PCN_SNAPSHOT take a place in the launch queue; once due, with nothing gathered and no capture at that boundary yet, each
makes one capture at its boundary and gathers it, and while one is gathered a snapshot is put off (R355 to R360, R376). -/
def Sys2Proof.Claims.CounterOpcodes : Prop :=
  ∀ (c : Cmd) (l : Launch) (s : State),
    let here := fun (i : Nat) => decide (c.le 16 2 ≤ i) && decide (i < c.le 16 2 + c.le 18 2) && s.counterHere i
    (Instant opPcnSelect c s → c.le 16 2 ≤ 2783 → 1 ≤ c.le 18 2 → c.le 16 2 + c.le 18 2 ≤ 2784 →
      (∀ i, here i = true → selClamped i (c.le 20 4) = false) → ∃ g : State → State,
        Completes (.pcnSelect c) 0x80 c s g (s.pcnHere (c.le 16 2) (c.le 18 2)).length ∧
        ∀ i, (g (s.accept c)).counter i = (if here i then
          { selected i (c.le 20 4) with image := ((s.accept c).counter i).image, imageWraps := ((s.accept c).counter i).imageWraps }
          else (s.accept c).counter i)) ∧
    (Instant opPcnClear c s → c.le 16 2 ≤ 2783 → 1 ≤ c.le 18 2 → c.le 16 2 + c.le 18 2 ≤ 2784 →
      ∃ g : State → State, Completes (.pcnClear c) 0x85 c s g (s.pcnHere (c.le 16 2) (c.le 18 2)).length ∧
        ∀ i, (g (s.accept c)).counter i = (if here i then { (s.accept c).counter i with value := 0, wraps := 0 }
          else (s.accept c).counter i)) ∧
    (Instant opPcnRelease c s → Completes (.pcnRelease c) 0x82 c s
      (fun t => { t with pcn := { t.pcn with frozen := false } }) (bit (!s.pcn.frozen))) ∧
    (Instant opPcnRead c s → c.le 16 2 ≤ 2783 → c.byte 18 = 0 → Completes (.pcnRead c) 0x84 c s
      (fun t => t.mgrWrite (c.le 24 8)
        (leBytes 6 (t.counter (c.le 16 2)).value ++ leBytes 2 (t.counter (c.le 16 2)).wraps ++ leBytes 8 t.now64))
      (((s.accept c).counter (c.le 16 2)).value % 2 ^ 32)) ∧
    (Instant opPcnRead c s → c.le 16 2 ≤ 2783 → c.byte 18 = 1 → s.pcn.gathering = true → Holds (.pcnRead c) 0x84 c s
      fun tk t => { t with pcn := { t.pcn with reads := t.pcn.reads ++ [(tk, c.le 16 2, c.le 24 8)] } }) ∧
    (Instant opPcnRead c s → c.le 16 2 ≤ 2783 → c.byte 18 = 1 → s.pcn.gathering = false → s.pcn.imageValid = false →
      Completes (.pcnRead c) 0x84 c s (fun t => t.mgrWrite (c.le 24 8) (List.replicate 16 0)) 0) ∧
    (Queues opPcnFreeze c s → TakesPlace (.pcnFreeze c) opPcnFreeze c s) ∧
    (Queues opPcnSnapshot c s → TakesPlace (.pcnSnapshot c) opPcnSnapshot c s) ∧
    (Due opPcnFreeze l s → s.pcn.gathering = false → s.pcn.freezeFt ≠ l.at' s →
      ∃ t, exec .launchExecute s = .next t ∧ t.pcn.freezeNum = (s.pcn.freezeNum + 1) % 2 ^ 32 ∧
        t.pcn.freezeFt = l.at' s ∧ t.pcn.frozen = true ∧ t.pcn.gathering = true) ∧
    (Due opPcnSnapshot l s → s.pcn.gathering = false → s.pcn.freezeFt ≠ l.at' s →
      ∃ t, exec .launchExecute s = .next t ∧ t.pcn.freezeNum = (s.pcn.freezeNum + 1) % 2 ^ 32 ∧
        t.pcn.freezeFt = l.at' s ∧ t.pcn.gathering = true ∧
        t.pcn.snaps.length = s.pcn.snaps.length + 1) ∧
    (Due opPcnSnapshot l s → s.pcn.gathering = true → s.pcn.freezeFt ≠ l.at' s →
      ∃ t, exec .launchExecute s = .next t ∧ t.pcn.freezeNum = s.pcn.freezeNum ∧ t.pcn.freezeLate = true ∧
        t.pcn.deferred.length = s.pcn.deferred.length + 1)

/-- A capture at a boundary that one has been made at changes nothing. At another boundary it gives each counter's image its
value and its wraps, but for those of the rings' own events, which the capture may move; the capture is that boundary's and
the image is frozen (R357). -/
def Sys2Proof.Claims.FreezeCapturesEveryCounter : Prop :=
  ∀ (s : State) (b : Nat) (late : Bool),
    (s.pcn.freezeNum ≠ 0 → s.pcn.freezeFt = b → s.freezeAt b late = s) ∧
    (s.pcn.freezeFt ≠ b →
      (∀ x ∈ (s.freezeAt b late).pcn.counters, x.2.image = x.2.value ∧ x.2.imageWraps = x.2.wraps ∨
        x.2.event = 0xD3 ∨ x.2.event = 0xD4 ∨ x.2.event = 0xD5) ∧
      (s.freezeAt b late).pcn.freezeFt = b ∧ (s.freezeAt b late).pcn.frozen = true)

/-- IMAGE_GATHERED ends the gathering: the image is valid, no snapshot and no read waits, and the number of freezes stays;
with none waiting nothing else changes (R358, R359). -/
def Sys2Proof.Claims.GatheringMakesTheImageValid : Prop :=
  ∀ (s : State), s.held = none → s.pcn.gathering = true →
    (s.pcn.snaps = [] → s.pcn.reads = [] → Acts .imageGathered s fun s =>
      { s with pcn := { s.pcn with gathering := false, imageValid := true, snaps := [], reads := [] } }) ∧
    (∃ t, exec .imageGathered s = .next t ∧ t.pcn.gathering = false ∧ t.pcn.imageValid = true ∧ t.pcn.snaps = [] ∧
      t.pcn.reads = [] ∧ t.pcn.freezeNum = s.pcn.freezeNum)

/-- An event of a code on a block of counters adds its amount to the block's counters that select the code and whose
filters pass, modulo 2^48 with the wraps counted, and changes nothing else (R354). -/
def Sys2Proof.Claims.CountersCountTheirEvents : Prop :=
  ∀ (s : State) (lo n code amount : Nat) (vfi port : Option Nat),
    ((s.countAt lo n code vfi port amount).pcn.counters = tmap {} (fun i c =>
      if lo ≤ i ∧ i < lo + n ∧ c.event = code ∧ c.event ≠ 0 ∧ (c.vfiEn = false ∨ vfi = some c.vfi) ∧
          (c.portEn = false ∨ port = some c.port) then
        { c with value := (c.value + amount) % 2 ^ 48, wraps := satAdd 16 c.wraps ((c.value + amount) / 2 ^ 48) }
      else c) s.pcn.counters) ∧
    s.countAt lo n code vfi port amount =
      { s with pcn := { s.pcn with counters := (s.countAt lo n code vfi port amount).pcn.counters } }

/-! ### The event recorder -/

/-- The recorder's opcodes, for selectors in range. EVR_QUERY returns the operating seconds, the record number or the number of the
journal's next entry; EVR_READ writes the composed record, the newest record, or an erased slot's bytes; EVR_WRITE_NOW and a
verified EVR_CLEAR ask for a record and keep their tickets; EVR_CLEAR mode 0 issues a challenge of open bytes for 60 s, and
mode 1 is DENIED and noted where the challenge is missing or over, or the signature fails; EVR_CFG sets the period (R366,
R374, R376). -/
def Sys2Proof.Claims.RecorderOpcodes : Prop :=
  ∀ (c : Cmd) (s : State),
    (Instant opEvrQuery c s → c.byte 16 = 0 → Completes (.evrQuery c) 0x90 c s id s.opSeconds) ∧
    (Instant opEvrQuery c s → c.byte 16 = 2 → Completes (.evrQuery c) 0x90 c s id s.evr.recSeq) ∧
    (Instant opEvrQuery c s → c.byte 16 = 4 → Completes (.evrQuery c) 0x90 c s id (s.evr.journalNext % 2 ^ 32)) ∧
    (Instant opEvrRead c s → c.byte 16 = 0 → Completes (.evrRead c) 0x91 c s
      (fun t => t.mgrWrite (c.le 32 8) (s.recordImage s.composed)) 16384) ∧
    (∀ r, Instant opEvrRead c s → c.byte 16 = 1 → tget none s.evr.log s.evr.recSlot = some r → r.valid = true →
      Completes (.evrRead c) 0x91 c s (fun t => t.mgrWrite (c.le 32 8) (s.recordImage r)) (s.recordImage r).length) ∧
    (Instant opEvrRead c s → c.byte 16 = 2 → c.le 18 2 ≤ 991 → tget none s.evr.log (c.le 18 2) = none →
      Completes (.evrRead c) 0x91 c s (fun t => t.mgrWrite (c.le 32 8) (List.replicate 16384 0xFF)) 0) ∧
    (Instant opEvrWriteNow c s → Holds (.evrWriteNow c) 0x92 c s fun tk t =>
      { t with evr := { t.evr with due := t.evr.due ++ [{ kind := 2, ticket := some tk }] } }) ∧
    (Instant opEvrClear c s → c.byte 16 = 0 → Completes (.evrClear c) 0x93 c s
      (fun t => State.mgrWrite { t with
          free := t.free + 1
          evr := { t.evr with challenge := some (leBytes 16 (Config.freeNat s.free), s.clock + ms16 60000)
                              challengeN := t.evr.challengeN + 1 } }
        (c.le 32 8) (leBytes 16 (Config.freeNat s.free))) 0) ∧
    (Instant opEvrClear c s → c.byte 16 = 1 → c.byte 24 ≤ 3 → s.evr.challenge = none →
      Answers (.evrClear c) 0x93 c s (fun t => t.clearDenied (c.byte 24) 1) stDenied 0) ∧
    (∀ ch exp, Instant opEvrClear c s → c.byte 16 = 1 → c.byte 24 ≤ 3 → s.evr.challenge = some (ch, exp) →
      exp ≤ s.clock → Answers (.evrClear c) 0x93 c s (fun t => t.clearDenied (c.byte 24) 1) stDenied 0) ∧
    (∀ ch exp, Instant opEvrClear c s → c.byte 16 = 1 → c.byte 24 ≤ 3 → s.evr.challenge = some (ch, exp) → s.clock < exp →
      Config.mldsaVerify (imgClearKey s.runSlot (c.byte 24)) (clearDigest ch (c.le 20 4)) (s.mgrRead (c.le 32 8) 2420) = false →
      Answers (.evrClear c) 0x93 c s (fun t => t.clearDenied (c.byte 24) 2) stDenied 0) ∧
    (∀ ch exp, Instant opEvrClear c s → c.byte 16 = 1 → c.byte 24 ≤ 3 → s.evr.challenge = some (ch, exp) → s.clock < exp →
      Config.mldsaVerify (imgClearKey s.runSlot (c.byte 24)) (clearDigest ch (c.le 20 4)) (s.mgrRead (c.le 32 8) 2420) = true →
      Holds (.evrClear c) 0x93 c s fun tk t => { t with evr := { t.evr with
        challenge := none
        due := t.evr.due ++ [{ kind := 3, ticket := some tk, scope := c.le 20 4 % 2 ^ 10, key := c.byte 24, challenge := ch }] } }) ∧
    (Instant opEvrCfg c s → 10 ≤ c.le 16 2 → c.le 16 2 ≤ 1440 → Completes (.evrCfg c) 0x94 c s
      (fun t => { t with evr := { t.evr with
        period := c.le 16 2
        nextPeriodic := (t.ft / (c.le 16 2 * 60000000000) + 1) * (c.le 16 2 * 60000000000) } }) (c.le 16 2))

/-- The recorder's events. A sample in a new second adds one to a bin of the first histogram and merges the first extreme, in
the active bank alone; in the same second it does nothing. A swap with something due and nothing unrecorded exchanges the
banks and starts a record; while one is written and none is due by time it does nothing. A verified record becomes the
newest; a failed one is tried in the next slot, and after the last try is flagged and recorded, with what it held due again.
Time entries go every 10 minutes and on the hold-up of a warning alone; a challenge ends at its time; EVR_RUN with nothing
stored starts an empty load once (R361, R362, R365, R366, R368). -/
def Obligations.RecorderEvents : Prop :=
  ∀ (r : Readings) (s : State), s.held = none →
    (s.evr.lastSecond < s.ft / 10 ^ 9 → s.opSeconds / 3600 ≤ s.evr.lastHour →
      ∃ t, exec (.recorderSample r) s = .next t ∧ t.evr.lastSecond = s.ft / 10 ^ 9 ∧
        tget 0 t.evr.active.bins (256 * 0 + binOf (r.die0 / 16 + 64)) =
          satAdd 32 (tget 0 s.evr.active.bins (binOf (r.die0 / 16 + 64))) 1 ∧
        tget none t.evr.active.extremes 0 = pickExtreme true (tget none s.evr.active.extremes 0)
          (some { value := r.die0, secs := s.opSeconds, cycles := s.evr.cycles }) ∧
        t.evr.inactive = s.evr.inactive) ∧
    (s.ft / 10 ^ 9 ≤ s.evr.lastSecond → Acts (.recorderSample r) s id) ∧
    (s.glb.evrRun = true → s.ft < s.evr.nextPeriodic → s.evr.due ≠ [] → s.evr.writing = none → s.evr.lastSwap = none →
      s.evr.inactive = {} → ∃ t, exec .recordSwap s = .next t ∧ t.evr.second = !s.evr.second ∧
        t.evr.lastSwap = some s.clock ∧ t.evr.writing.isSome = true ∧ t.evr.log = s.evr.log) ∧
    (s.evr.writing.isSome = true → s.ft < s.evr.nextPeriodic → Acts .recordSwap s id) ∧
    (∀ q n, s.evr.writing = some (q, n, []) → ∃ t, exec (.recordWriteDone true) s = .next t ∧ t.evr.writing = none ∧
      t.evr.recSeq = q.seq ∧ t.evr.recSlot = (s.evr.recSlot + n) % 992 ∧ t.evr.life = q.image ∧
      tget none t.evr.log ((s.evr.recSlot + n) % 992) = some q) ∧
    (∀ q n ds, s.evr.writing = some (q, n, ds) → n < 3 → Acts (.recordWriteDone false) s fun s =>
      { s with evr := { s.evr with
          log := putSlot s.evr.log ((s.evr.recSlot + n) % 992) { q with valid := false }, writing := some (q, n + 1, ds) } }) ∧
    (∀ q ds, s.evr.writing = some (q, 3, ds) → ∃ t, exec (.recordWriteDone false) s = .next t ∧ t.evr.writing = none ∧
      t.evr.carried = ds ++ s.evr.carried ∧ t.evr.due = s.evr.due ∧ t.evr.err.getLsbD 0 = true ∧ t.evr.recSeq = s.evr.recSeq ∧
      (t.devRing 1).seq = ((s.devRing 1).seq + 1) % 2 ^ 32) ∧
    (s.evr.writing = none → Acts (.recordWriteDone true) s id) ∧
    (s.evr.nextTime ≤ s.opSeconds → ∃ t, exec (.timeEntry .periodic) s = .next t ∧
      (t.evr.times.getLast?).map (·.secs) = some s.opSeconds ∧ t.evr.times.length ≤ 1024 ∧
      t.evr.nextTime = (s.opSeconds / 600 + 1) * 600) ∧
    (s.opSeconds < s.evr.nextTime → Acts (.timeEntry .periodic) s id) ∧
    (s.ppu.warning = false → Acts (.timeEntry .holdUp) s id) ∧
    (∀ ch exp, s.evr.challenge = some (ch, exp) → exp ≤ s.clock → Acts .challengeExpiry s fun s =>
      { s with evr := { s.evr with challenge := none } }) ∧
    (s.evr.challenge = none → Acts .challengeExpiry s id) ∧
    (s.glb.evrRun = false → s.glb.ftuRun = true → s.evr.log = [] → s.evr.times = [] →
      ∃ t, exec .evrRun s = .next t ∧ t.glb.evrRun = true ∧ t.evr.emptyLoad = true ∧ t.evr.s0 = 0 ∧ t.evr.life = {} ∧
        t.evr.cycles = bit (s.glb.causeModule == 1 || s.glb.causeModule == 5) ∧
        t.evr.due = s.evr.due ++ [{ kind := 4 }] ∧ (t.devRing 1).seq = ((s.devRing 1).seq + 2) % 2 ^ 32) ∧
    (s.glb.evrRun = true → Acts .evrRun s id)

/-! ### Memory -/

/-- The address maps lose nothing: a local address is recovered from its channel and channel address, and every pair of one
of the 32 channels and a channel address is that of its local address (R229). The 16 lines of an aligned KiB go to different
slices, of which there are 16 (R136); directory sets and store buckets stay in their ranges (R168, R175). -/
def Sys2Proof.Claims.AddressMapsAreExact : Prop :=
  (∀ la, laOf (channelOf la) (caOf la) = la) ∧
  (∀ ch ca, ch < 32 → channelOf (laOf ch ca) = ch ∧ caOf (laOf ch ca) = ca) ∧
  (∀ la, channelOf la < 32) ∧
  (∀ base i j, i < 16 → j < 16 → sliceOf (1024 * base + 64 * i) = sliceOf (1024 * base + 64 * j) → i = j) ∧
  (∀ fma, sliceOf fma < 16) ∧
  (∀ b fma, 0 < b → Sys2Proof.Machine.setOf b fma < b * 4096) ∧
  (∀ fma nb, 0 < nb → storeBucket fma nb < nb)

/-- The memory opcodes, for a line within the capacity and fields in range. MEM_SCRUB_SET sets the rate and the alarm;
MEM_RETIRE takes a free spare and keeps its ticket, returns the spare of a page retired before, begins the release of one, is
DENIED for a spare and BUSY for a page held; MEM_REPAIR of a row with pages to retire, enough entries free and none of its
pages held or spare enters a repair. Raw access to an idle line, with no service mode, writes and reads the 72 stored bytes,
the read with its verdict, and is DENIED in service mode; MEM_LINE_QUERY of an idle clean line returns what Table 09-13
lists; MEM_CE_LOG copies a channel's log, MEM_RSV_QUERY returns the reservation, and MEM_ERR_CLEAR zeroes the flags and the
channels' error counts (R242, R248 to R251). -/
def Obligations.MemoryOpcodes : Prop :=
  ∀ (c : Cmd) (s : State), c.le 16 8 + 64 ≤ s.laCapacity →
    let line := c.le 16 8 / 64
    let page := c.le 16 8 / 64 * 64 / 4096
    let phys := s.physLine line
    let ch := channelOf (phys * 64)
    let idle := s.pageHeld (line / 64) = false ∧ ∀ r ∈ (s.chan ch).queue, r.line ≠ line
    (Instant opMemScrubSet c s → 6 ≤ c.byte 16 → c.byte 16 ≤ 16 → 1 ≤ c.byte 17 → Completes (.memScrubSet c) 0x50 c s
      (fun t => { t with mem := { t.mem with rateLog2 := c.byte 16, lapAlarm := c.byte 17 } }) 0) ∧
    (∀ i, Instant opMemRetire c s → c.byte 24 = 0 → s.isSpare page = false → s.pageHeld page = false →
      s.spareOf page = none → s.freeSpare = some i → Holds (.memRetire c) 0x51 c s fun tk t =>
        t.setRetire i { page := page, hold := true, ue := false, hard := [], ticket := some tk }) ∧
    (∀ i, Instant opMemRetire c s → c.byte 24 = 0 → s.isSpare page = false → s.pageHeld page = false →
      s.spareOf page = some i → Completes (.memRetire c) 0x51 c s id i) ∧
    (∀ i, Instant opMemRetire c s → c.byte 24 = 1 → s.isSpare page = false → s.pageHeld page = false →
      s.spareOf page = some i → Holds (.memRetire c) 0x51 c s fun tk t =>
        t.modRetire i fun e => { e with hold := true, releasing := true, ticket := some tk }) ∧
    (Instant opMemRetire c s → c.byte 24 ≤ 1 → s.isSpare page = true → EndsWith (.memRetire c) 0x51 c s stDenied) ∧
    (Instant opMemRetire c s → c.byte 24 ≤ 1 → s.isSpare page = false → s.pageHeld page = true →
      EndsWith (.memRetire c) 0x51 c s stBusy) ∧
    (Instant opMemRepair c s → c.byte 24 ≤ 1 →
      let pages := rowPages (channelOf (64 * line)) (rowOf (64 * line))
      pages.any s.isSpare = false → pages.any s.pageHeld = false →
      (s.mem.repairs.any fun r => r.ch == channelOf (64 * line)) = false → (∃ p ∈ pages, s.spareOf p = none) →
      8 ≤ ((List.range 1024).filter fun i => s.retire i = {}).length →
      ∃ t, exec (.memRepair c) s = .next t ∧ ∃ r ∈ t.mem.repairs, r.ch = channelOf (64 * line) ∧
        r.row = rowOf (64 * line) ∧ r.hard = (c.byte 24 == 1) ∧ r.waiting ≠ []) ∧
    (Instant opMemRawWrite c s → c.byte 40 = 0 → s.acu.service = false → idle → Completes (.memRawWrite c) 0x53 c s
      (fun t => (t.modChan ch fun x =>
        { x with reading := x.reading.map fun r => if r.phys = phys then { r with stale := true } else r }).setLine phys
          (rawLine (codeAddr (phys * 64)) (s.mgrRead (c.le 24 8) 72))) 0) ∧
    (Instant opMemRawRead c s → s.acu.service = false → idle → Completes (.memRawRead c) 0x54 c s
      (fun t => State.useFree (t.mgrWrite (c.le 24 8) ((s.line phys).raw (codeAddr (phys * 64)))))
      (verdictWord ((s.line phys).read {}).2 s.freeValue)) ∧
    (Instant opMemRawWrite c s → c.byte 40 ≤ 1 → s.acu.service = true → EndsWith (.memRawWrite c) 0x53 c s stDenied) ∧
    (Instant opMemRawRead c s → s.acu.service = true → EndsWith (.memRawRead c) 0x54 c s stDenied) ∧
    (Instant opMemLineQuery c s → idle → ((s.line phys).read {}).2 = .clean → (s.line phys).poison = false →
      Completes (.memLineQuery c) 0x55 c s id
        (2 * bit (s.line phys).written + 4 * bit (s.spareOf (line / 64)).isSome + 2 ^ 8 * ch)) ∧
    (Instant opMemCeLog c s → c.byte 16 ≤ 31 → Completes (.memCeLog c) 0x56 c s
      (fun t => t.mgrWrite (c.le 24 8) ((s.chan (c.byte 16)).log.flatMap CeEntry.bytes)) (s.chan (c.byte 16)).log.length) ∧
    (Instant opMemRsvQuery c s → Completes (.memRsvQuery c) 0x57 c s id (s.granted + 2 ^ 16 * (6976 - s.granted))) ∧
    (Instant opMemErrClear c s → ∃ g : State → State, Completes (.memErrClear c) 0x58 c s g 0 ∧
      (g (s.accept c)).mem.err = 0 ∧ ∀ x ∈ (g (s.accept c)).mem.chans, x.2.ce = 0 ∧ x.2.ue = 0 ∧ x.2.addrErr = 0 ∧
        x.2.poisonRead = 0 ∧ x.2.lanes = 0)

/-- A channel's slot: before the sweep, or blocked with nothing queued, nothing happens, and a blocked channel with requests
counts the slot. With no request of another class in the way, the first servable directory request is served while the
directory has share left, and the first of the streams while they have and the directory has none; where neither has one, the
earliest is served, and a hot channel whose shares are used gives it every second slot (R227, R231). -/
def Sys2Proof.Claims.ChannelSlotsFollowTheShares : Prop :=
  ∀ (ch : Chan) (r : ChReq) (s : State), s.held = none →
    let c := s.chan ch
    let q := s.servable [] c.queue
    (s.glb.memSwept = false → Acts (.channelSlot ch) s id) ∧
    (s.glb.memSwept = true → s.chanBlocked ch = true → c.queue = [] → Acts (.channelSlot ch) s id) ∧
    (s.glb.memSwept = true → s.chanBlocked ch = true → c.queue ≠ [] → Acts (.channelSlot ch) s fun s =>
      s.cntMem (ch / 8) 0xBD) ∧
    (s.glb.memSwept = true → s.chanBlocked ch = false → (∀ x ∈ q, x.cls ≠ 2) → c.dirUsed < s.dirShare →
      q.find? (·.cls == 0) = some r → Acts (.channelSlot ch) s fun s => s.memServe ch r) ∧
    (s.glb.memSwept = true → s.chanBlocked ch = false → (∀ x ∈ q, x.cls ≠ 2) → s.dirShare ≤ c.dirUsed →
      c.mseUsed < s.mseShare → q.find? (·.cls == 1) = some r → Acts (.channelSlot ch) s fun s => s.memServe ch r) ∧
    (s.glb.memSwept = true → s.chanBlocked ch = false → q.find? (·.cls == 0) = none → q.find? (·.cls == 1) = none →
      c.hot = false → s.earliest q = some r → Acts (.channelSlot ch) s fun s =>
        (s.memServe ch r).modChan ch fun x => { x with otherTurn := true }) ∧
    (s.glb.memSwept = true → s.chanBlocked ch = false → c.hot = true → c.otherTurn = true →
      s.dirShare ≤ c.dirUsed → s.mseShare ≤ c.mseUsed → s.earliest q = some r →
      Acts (.channelSlot ch) s fun s => s.modChan ch fun x => { x with otherTurn := false })

/-- A servable request is in the queue, its page is not being copied, and none for its line stands before it; the earliest
request is in the queue, and none there has an earlier stamp (R46, R231). -/
def Sys2Proof.Claims.RequestsOfALineKeepTheirOrder : Prop :=
  ∀ (s : State) (q : List ChReq) (r : ChReq),
    (r ∈ s.servable [] q → r ∈ q ∧ s.pageHeld (r.line / 64) = false ∧
      ∃ a b, q = a ++ r :: b ∧ ∀ x ∈ a, x.line ≠ r.line) ∧
    (s.earliest q = some r → r ∈ q ∧ ∀ x ∈ q, r.stamp ≤ x.stamp)

/-- A served write of a whole line leaves the line as written, without an error, no other line changed, and its user
acknowledged; a served read leaves every line and is on its way with the line as it stood. Both leave their queue, and no
other channel changes (R231, R237, R243). -/
def Sys2Proof.Claims.ServedRequestsReachTheirLine : Prop :=
  ∀ (s : State) (ch : Nat) (r : ChReq),
    let t := s.memServe ch r
    let phys := s.physLine r.line
    (r.write = true → r.mask = BitVec.allOnes 64 →
      t.line phys = { data := r.data, poison := r.poison, written := true } ∧ (∀ k, k ≠ phys → t.line k = s.line k) ∧
      (t.chan ch).queue = (s.chan ch).queue.erase r ∧ (r.user ≠ .other → Output.memAck r.user ∈ t.out)) ∧
    (r.write = false → (∀ k, t.line k = s.line k) ∧ (t.chan ch).queue = (s.chan ch).queue.erase r ∧
      (t.chan ch).reading = (s.chan ch).reading ++ [{ req := r, phys := phys, line := s.line phys }]) ∧
    (∀ d, d ≠ ch → t.chan d = s.chan d)

/-- What the decoder's verdict does to a read and its line: a clean line without poison is delivered and changes nothing; a
corrected one is delivered corrected and counted, and left corrected unless a write overtook it; an uncorrectable one is
delivered as poison, counted in its channel and in all, and left poisoned unless a write overtook it (R235, R236, R243, R245). -/
def Obligations.ReadVerdictsActOnTheLine : Prop :=
  ∀ (s : State) (ch phys cls found : Nat) (l : Line) (e : StoredError) (stale : Bool),
    let r := s.resolveRead ch phys cls found l e stale
    ((l.read e).2 = .clean → (l.read e).1.poison = false → r.st = s ∧ r.data = (l.read e).1.data ∧ r.poison = false) ∧
    (∀ errs, (l.read e).2 = .corrected errs → r.data = ((l.read e).1.fix errs).data ∧
      (stale = false → r.st.line phys = (l.read e).1.fix errs) ∧ (stale = true → r.st.line phys = s.line phys) ∧
      (r.st.chan ch).ce = satAdd 32 (s.chan ch).ce 1) ∧
    ((l.read e).2 = .uncorrectable → r.data = 0 ∧ r.poison = true ∧ r.st.mem.ueTotal = satAdd 32 s.mem.ueTotal 1 ∧
      (stale = false → r.st.line phys = { poison := true, written := true }) ∧
      (r.st.chan ch).ue = satAdd 16 (s.chan ch).ue 1)

/-- The memory's events on a channel. The oldest read on its way, clean and without poison, delivers its data, and with none on
its way nothing happens; an idle channel's scrub read of a clean line, when it is due, goes on to the next line, and one
with requests scrubs nothing; a late lap is flagged once with a record; the temperature and refresh rate are recorded, and
105 degrees or more make the channel hot; a trained channel retrains when it is due, refreshes and manages its rows, and one
that is not trained does none of these (R227, R236, R242, R244). -/
def Sys2Proof.Claims.MemoryChannelEvents : Prop :=
  ∀ (ch : Chan) (e : StoredError) (m : MemRead) (ms : List MemRead) (temp : BitVec 8) (rate bank : BitVec 4) (s : State),
    s.held = none →
    let c := s.chan ch
    let phys := laOf ch (c.scrubPos * 64) / 64
    (c.reading = m :: ms → (m.line.read e).2 = .clean → (m.line.read e).1.poison = false → m.req.user ≠ .other →
      Acts (.memReadDone ch e) s fun s =>
        ((s.modChan ch fun x => { x with reading := ms }).cntMem (ch / 8) 0xBB ((s.clock - m.req.at16) / 16)).emit
          (.memData m.req.user (m.line.read e).1.data false)) ∧
    (c.reading = [] → Acts (.memReadDone ch e) s id) ∧
    (s.glb.memSwept = true → s.chanBlocked ch = false → c.queue = [] → c.lastScrub + ns16 (2 ^ s.mem.rateLog2) ≤ s.clock →
      ((s.line phys).read e).2 = .clean → ((s.line phys).read e).1.poison = false → c.scrubPos + 1 < s.chanLines →
      Acts (.scrubRead ch e) s fun s => (s.setChan ch
        { c with lastScrub := s.clock, scrubPos := c.scrubPos + 1, scrubUsed := c.scrubUsed + 1 }).cntMem (ch / 8) 0xB5) ∧
    (c.queue ≠ [] → Acts (.scrubRead ch e) s id) ∧
    (s.glb.memSwept = true → c.scrubLate = false → c.lapStart + s.mem.lapAlarm * 3600000 * 16000000 < s.clock →
      ∃ t, exec (.scrubLate ch) s = .next t ∧ t.chan ch = { c with scrubLate := true, queue := (t.chan ch).queue } ∧
        (t.devRing 1).seq = ((s.devRing 1).seq + 1) % 2 ^ 32) ∧
    (c.scrubLate = true → Acts (.scrubLate ch) s id) ∧
    (temp.toInt < 105 → Acts (.memTemperatureRead ch temp rate) s fun s =>
      s.setChan ch { c with temp := temp.toNat, refreshRate := rate.toNat, hot := false }) ∧
    (105 ≤ temp.toInt → ∃ t, exec (.memTemperatureRead ch temp rate) s = .next t ∧
      t.chan ch = { c with temp := temp.toNat, refreshRate := rate.toNat, hot := true, queue := (t.chan ch).queue }) ∧
    (c.trained = true → c.lastRetrain + ms16 256 ≤ s.clock → Acts (.memRetrain ch) s fun s =>
      s.setChan ch { c with lastRetrain := s.clock, blockedUntil := s.clock + us16 2 }) ∧
    (c.trained = true → Acts (.memRefresh ch bank) s fun s =>
      (s.modChan ch fun x => { x with refreshes := x.refreshes + 1 }).emit (.refreshed ch bank.toNat false)) ∧
    (c.trained = true → Acts (.refreshManagement ch bank) s fun s =>
      ((s.modChan ch fun x => { x with rfm := x.rfm + 1 }).emit (.refreshed ch bank.toNat true)).cntMem (ch / 8) 0xBE) ∧
    (c.trained = false → Acts (.memRetrain ch) s id ∧ Acts (.memRefresh ch bank) s id ∧
      Acts (.refreshManagement ch bank) s id)

/-- A page copied with no repair open ends with its spare valid and its clean lines in the spare, their reserved bits 0, and
with UE set where a line could not be corrected; no line outside the spare changes; a release ends with the entry free; an entry not held does nothing. The one repair open, soft and with nothing left
to copy, ends with the channel unblocked, counted unless it was refused; with none open nothing happens. A hard repair of
the one entry that asks for it, at start-up, frees the entry and is counted in NOR, and after the sweep does nothing
(R248, R249, R408). -/
def Sys2Proof.Claims.RetirementAndRepairEnd : Prop :=
  ∀ (i : Fin 1024) (ch : Chan) (row : Nat) (s : State), s.held = none →
    let e := s.retire i
    (e.hold = true → e.releasing = false → s.spareOf e.page = none → s.mem.repairs = [] → s.sparePage i ≠ e.page →
      ∃ t, exec (.retirementComplete i) s = .next t ∧
        t.retire i = { e with hold := false, valid := true, ticket := none, ue := (t.retire i).ue } ∧
        (∀ j, j < 64 → ((s.line (64 * e.page + j)).read {}).2 = .uncorrectable → (t.retire i).ue = true) ∧
        ((∀ j, j < 64 → ((s.line (64 * e.page + j)).read {}).2 = .clean) → (t.retire i).ue = e.ue) ∧
        (∀ j, j < 64 → ((s.line (64 * e.page + j)).read {}).2 = .clean → (s.line (64 * e.page + j)).poison = false →
          t.line (64 * s.sparePage i + j) = { s.line (64 * e.page + j) with rsv := 0 }) ∧
        (∀ k, k / 64 ≠ s.sparePage i → t.line k = s.line k)) ∧
    (e.hold = true → e.releasing = true → ∃ t, exec (.retirementComplete i) s = .next t ∧ t.retire i = {}) ∧
    (e.hold = false → Acts (.retirementComplete i) s id) ∧
    (∀ (r : Repair) (refused : Bool), s.mem.repairs = [r] → r.ch = ch.val → r.hard = false → r.waiting = [] → r.fresh = [] →
      ∃ t, exec (.repairDone ch refused) s = .next t ∧ t.mem.repairs = [] ∧ (t.chan ch).blocked = false ∧
        (t.chan ch).softPpr = (if refused then (s.chan ch).softPpr else satAdd 8 (s.chan ch).softPpr 1)) ∧
    (s.mem.repairs = [] → Acts (.repairDone ch false) s id) ∧
    (s.mem.retire = [(i.val, e)] → e.valid = true → e.hard = [ch.val] → rowOf (e.page * 4096) = row →
      s.mem.listLoaded = true → s.glb.memTrained = true → s.glb.memSwept = false →
      ∃ t, exec (.hardRepair ch row false) s = .next t ∧ t.mem.retire = [] ∧
        tget 0 t.msc.nor.hardRepairs ch = satAdd 8 (tget 0 s.msc.nor.hardRepairs ch) 1) ∧
    (s.glb.memSwept = true → Acts (.hardRepair ch row false) s id)

/-- The background pass over the on-chip arrays. An array that the island does not hold, a pass before the sweep and a clean
word change nothing. A corrected word is counted in its island, and one of the directory in its slice as well; an
uncorrectable one of the MSC's array restarts the MSC, and one of array 0 is recorded, each with the data lost an open value
(R240, R241). -/
def Sys2Proof.Claims.BackgroundPassCountsErrors : Prop :=
  ∀ (isl : Island) (a : Fin 11) (w : SramWord) (s : State), s.held = none →
    (s.arrayAt isl a = false → Acts (.sramBackgroundPass isl a w) s id) ∧
    (s.glb.sramSwept = false → Acts (.sramBackgroundPass isl a w) s id) ∧
    (w = .clean → Acts (.sramBackgroundPass isl a w) s id) ∧
    (s.arrayAt isl a = true → s.glb.sramSwept = true → w = .corrected → a.val ≠ 2 → a.val ≠ 5 →
      Acts (.sramBackgroundPass isl a w) s fun s => s.sramError isl a false) ∧
    (s.arrayAt isl a = true → s.glb.sramSwept = true → w = .corrected → a.val = 2 →
      Acts (.sramBackgroundPass isl a w) s fun s => (s.sramError isl 2 false).modSlice (isl.val - 64) fun x =>
        { x with eccC := satAdd 16 x.eccC 1 }) ∧
    (s.arrayAt isl a = true → s.glb.sramSwept = true → w = .uncorrectable → a.val = 9 → s.msc.state = .running →
      Acts (.sramBackgroundPass isl a w) s fun s => (s.useFree.sramError isl 9 true).mscRestart 3 none) ∧
    (s.arrayAt isl a = true → s.glb.sramSwept = true → w = .uncorrectable → a.val = 0 →
      Acts (.sramBackgroundPass isl a w) s fun s => s.useFree.sramError isl 0 true)
/-! ### The Coherence Home -/

/-- The home opcodes. HOME_HOST_SET with a local host (a port to 1,023) or a remote one (a PID to 0xFFF) without a CHN assigns it
a free number, is BUSY on a number in use, and answers a host's own number; kind 0 applies the loss of the number's host and
frees it. HOME_HOST_LOST applies a host's loss and answers its new incarnation; on a free number both do nothing.
HOME_ALLOW_SET waits for its boundary, where the port's allowance becomes the value asked for, cut to 64 and to what leaves the
sum within 3,584. HOME_TIMEOUT_SET from a ring, with fields in range, sets every slice. HOME_SWEEP_QUERY answers the lap count;
HOME_LINE_QUERY without a store what stands of a line that no transaction holds, in a way or nowhere, and of one that a
transaction holds its blocked state (R134, R138, R139, R159, R164, R441). -/
def Sys2Proof.Claims.HomeOpcodes : Prop :=
  ∀ (c : Cmd) (l : Launch) (s : State),
    let n := c.le 16 2
    let p := l.cmd.le 16 2
    let who := c.le 20 2
    let remote : Bool := c.byte 18 == 2
    let host := c.byte 18 = 1 ∧ who ≤ 1023 ∨ c.byte 18 = 2 ∧ who ≤ 0xFFF
    let here := s.home.hosts.find? fun x => x.2.valid && x.2.remote == remote && x.2.who == who
    let allow := min (min 64 (l.cmd.byte 18)) (3584 - s.allowSum p)
    (Instant opHomeHostSet c s → n ≤ 1023 → host → here = none → (s.host n).valid = false →
      Completes (.homeHostSet c) 0x40 c s
        (fun t => t.modHost n fun h => { h with valid := true, remote := remote, who := who }) n) ∧
    (Instant opHomeHostSet c s → n ≤ 1023 → host → here = none → (s.host n).valid = true →
      EndsWith (.homeHostSet c) 0x40 c s stBusy) ∧
    (∀ x, Instant opHomeHostSet c s → n ≤ 1023 → host → here = some x → Completes (.homeHostSet c) 0x40 c s id x.1) ∧
    (Instant opHomeHostSet c s → n ≤ 1023 → c.byte 18 = 0 → (s.host n).valid = false →
      Completes (.homeHostSet c) 0x40 c s id n) ∧
    (Instant opHomeHostSet c s → n ≤ 1023 → c.byte 18 = 0 → (s.host n).valid = true → Completes (.homeHostSet c) 0x40 c s
      (fun t => (t.applyLoss n s.clock).modHost n fun h => { h with valid := false }) n) ∧
    (Instant opHomeHostLost c s → n ≤ 1023 → (s.host n).valid = false →
      Completes (.homeHostLost c) 0x41 c s id (s.host n).inc) ∧
    (Instant opHomeHostLost c s → n ≤ 1023 → (s.host n).valid = true → Completes (.homeHostLost c) 0x41 c s
      (fun t => t.applyLoss n s.clock) (((s.accept c).applyLoss n s.clock).host n).inc) ∧
    (Queues opHomeAllowSet c s → TakesPlace (.homeAllowSet c) opHomeAllowSet c s) ∧
    (Due opHomeAllowSet l s → p ≤ 1023 → Launches opHomeAllowSet l s
      (fun t => (t.modPort p fun x => { x with allow := allow }).admitHeld p) allow
      (if allow = l.cmd.byte 18 then none else some 18)) ∧
    (∀ q, Instant opHomeTimeoutSet c s → c.src = .ring q → 10 ≤ n → 1 ≤ c.le 18 2 → c.le 18 2 ≤ 1000 →
      100 ≤ c.le 20 2 → Completes (.homeTimeoutSet c) 0x43 c s (fun t => (List.range 16).foldl (fun t k =>
        t.modSlice k fun x => { x with snoopTo := n, wbTo := c.le 18 2, memTo := c.le 20 2 }) t) 0) ∧
    (Instant opHomeLineQuery c s → c.le 16 8 < 2 ^ 56 →
      let line := c.le 16 8 / 64
      let x := s.slice (sliceOf (line * 64))
      (∀ key w, x.txns.find? (·.line == line) = none → x.wayOf line = some (key, w) → s.home.storeLog2 = 0 →
        Completes (.homeLineQuery c) 0x44 c s id
          (w.entry.state + 2 ^ 4 * bit w.entry.coarse + 2 ^ 5 + 2 ^ 7 * bit (x.blocked line) + 2 ^ 8 * min 255 (x.pin line)
            + 2 ^ 16 * (if w.entry.coarse then 0xFFF else (w.entry.ptrs.head?).elim 0xFFF (·.1)))) ∧
      (x.txns.find? (·.line == line) = none → x.wayOf line = none → x.victimOf line = none → s.home.storeLog2 = 0 →
        Completes (.homeLineQuery c) 0x44 c s id
          (2 ^ 7 * bit (x.blocked line) + 2 ^ 8 * min 255 (x.pin line) + 2 ^ 16 * 0xFFF)) ∧
      (∀ t, x.txns.find? (·.line == line) = some t →
        ∃ r, Completes (.homeLineQuery c) 0x44 c s id r ∧ r % 16 = t.block % 16)) ∧
    (Instant opHomeSweepQuery c s → c.byte 16 ≤ 15 →
      Completes (.homeSweepQuery c) 0x45 c s id (s.slice (c.byte 16)).sweepLap)

/-- The directory opcodes, with fields in range. DIR_STORE_SET is BUSY while a slice holds a live entry; else it sets the store and
writes its area with zeros, or, with STORE_LOG2 0, ends it. DIR_PLACE_SET toward a bound LD or the pool makes an entry at the
first free index for a range that no other overlaps, gives the entry of the same base and size the new target and generation,
is NO_RESOURCE on an overlap or another size, DENIED on another target; kind 0 removes a base's entry, is BUSY while it moves or
is split, and answers 0xFFFFFFFF where there is none. DIR_MOVE starts a move that target, queue and depth allow, or resumes a
split one to its target; it is BUSY on an entry that moves, NO_RESOURCE beside eight moves. DIR_ZERO_SET modes 1 and 2 write the
bitmap and switch zero-fill on, mode 0 has the first-write procedure run, or ends at once without zero-fill; all are BUSY on an
entry that moves, is split or runs mode 0. The queries answer the cut count, a page's three bits and the eleven counts
(R174, R182, R183, R186, R191 to R194, R442). -/
def Sys2Proof.Claims.DirectoryOpcodes : Prop :=
  ∀ (c : Cmd) (i : Nat) (p : Placement) (s : State),
    let base := c.le 16 8
    let n := c.byte 24
    let tgt : Target := if c.byte 25 = 2 then { pool := true, base := c.le 32 8 }
      else { port := c.le 26 2, ld := c.byte 28, base := c.le 32 8 }
    let target (size : Nat) := c.le 32 8 % 64 = 0 ∧
      (c.byte 25 = 1 ∧ c.le 26 2 ≤ 1023 ∧ c.byte 28 ≤ 15 ∨ c.byte 25 = 2 ∧ c.le 32 8 + size ≤ s.laReserve)
    let range := 30 ≤ n ∧ n ≤ 40 ∧ base % 2 ^ n = 0 ∧ base + 2 ^ n ≤ 2 ^ 56
    let depths := s.moves.foldl (fun n q => n + q.depth) 0
    let still := p.moving = false ∧ p.split = false ∧ p.zeroOff = none
    let cleared (t : State) : State :=
      (List.range 16).foldl (fun t j => t.modSlice j fun x => { x with suspects := 0, storeLive := 0, stored := [] }) t
    (Instant opDirStoreSet c s → (∀ x ∈ s.home.slices, x.2.anyLive = false) → 20 ≤ n → n ≤ 28 → base % 2 ^ (n + 8) = 0 →
      base + 2 ^ (n + 8) ≤ s.laReserve → Completes (.dirStoreSet c) 0x48 c s
        (fun t => State.fillArea { cleared t with home := { (cleared t).home with storeBase := base, storeLog2 := n } }
          base (2 ^ (n + 8)) false) n) ∧
    (Instant opDirStoreSet c s → (∀ x ∈ s.home.slices, x.2.anyLive = false) → n = 0 → Completes (.dirStoreSet c) 0x48 c s
        (fun t => { cleared t with home := { (cleared t).home with storeBase := 0, storeLog2 := 0 } }) 0) ∧
    (Instant opDirStoreSet c s → (∃ x ∈ s.home.slices, x.2.anyLive = true) → n = 0 ∨ 20 ≤ n ∧ n ≤ 28 →
      EndsWith (.dirStoreSet c) 0x48 c s stBusy) ∧
    (Instant opDirPlaceSet c s → target (2 ^ n) → range → s.targetOkay tgt = true → s.placeAtBase base = none →
      (∀ x ∈ s.home.places, ∀ q, x.2 = some q → base + 2 ^ n ≤ q.base ∨ q.base + 2 ^ q.n ≤ base) →
      (List.range 1024).find? (fun j => s.place j = none) = some i → Completes (.dirPlaceSet c) 0x49 c s
        (fun t => t.freshPlace i (some { base := base, n := n, target := tgt })) i) ∧
    (Instant opDirPlaceSet c s → target (2 ^ n) → range → s.targetOkay tgt = true → s.placeAtBase base = none →
      (∃ x ∈ s.home.places, ∃ q, x.2 = some q ∧ base < q.base + 2 ^ q.n ∧ q.base < base + 2 ^ n) →
      EndsWith (.dirPlaceSet c) 0x49 c s stNoResource) ∧
    (Instant opDirPlaceSet c s → target (2 ^ n) → range → s.targetOkay tgt = true → s.placeAtBase base = some (i, p) →
      p.n = n → p.moving = false → p.split = false → Completes (.dirPlaceSet c) 0x49 c s
        (fun t => t.setPlace i (some { p with target := tgt, gen := (p.gen + 1) % 256 })) i) ∧
    (Instant opDirPlaceSet c s → target (2 ^ n) → range → s.targetOkay tgt = true → s.placeAtBase base = some (i, p) →
      p.n ≠ n → EndsWith (.dirPlaceSet c) 0x49 c s stNoResource) ∧
    (Instant opDirPlaceSet c s → target (2 ^ n) → range → s.targetOkay tgt = false →
      EndsWith (.dirPlaceSet c) 0x49 c s stDenied) ∧
    (Instant opDirPlaceSet c s → c.byte 25 = 0 → 30 ≤ n → n ≤ 40 → s.placeAtBase base = some (i, p) → p.moving = false →
      p.split = false → Completes (.dirPlaceSet c) 0x49 c s (fun t => t.freshPlace i none) i) ∧
    (Instant opDirPlaceSet c s → c.byte 25 = 0 → 30 ≤ n → n ≤ 40 → s.placeAtBase base = some (i, p) →
      p.moving = true ∨ p.split = true → EndsWith (.dirPlaceSet c) 0x49 c s stBusy) ∧
    (Instant opDirPlaceSet c s → c.byte 25 = 0 → 30 ≤ n → n ≤ 40 → s.placeAtBase base = none →
      Completes (.dirPlaceSet c) 0x49 c s id 0xFFFFFFFF) ∧
    (Instant opDirMove c s → target (2 ^ p.n) → c.target ≤ 255 → s.placeAtBase base = some (i, p) → s.targetOkay tgt = true →
      1 ≤ c.byte 40 → depths + c.byte 40 ≤ 128 →
      let moved : Placement :=
        { p with moving := true, newTarget := tgt, depth := c.byte 40, copied := 0, moveVfi := c.target, stopping := none }
      (p.moving = false → p.split = false → s.moves.length < 8 → Holds (.dirMove c) 0x4A c s fun tk t =>
        t.freshPlace i (some { moved with ticket := some tk, gen := (p.gen + 1) % 256 })) ∧
      (p.moving = false → p.split = true → p.newTarget = tgt → s.moves.length < 8 → Holds (.dirMove c) 0x4A c s fun tk t =>
        (t.setPlace i (some { moved with ticket := some tk, split := false })).settleMove i) ∧
      (p.moving = true → EndsWith (.dirMove c) 0x4A c s stBusy) ∧
      (p.moving = false → p.split = false → 8 ≤ s.moves.length → EndsWith (.dirMove c) 0x4A c s stNoResource)) ∧
    (Instant opDirMoveQuery c s → n ≤ 15 → s.placeAtBase base = some (i, p) →
      Completes (.dirMoveQuery c) 0x4B c s id (tget 0 (s.slice n).cut i % 2 ^ 32)) ∧
    (Instant opDirZeroSet c s → n = 1 ∨ n = 2 → s.placeAtBase base = some (i, p) → still →
      (p.zeroFill = true ∨ s.zeroCount < 64) → c.le 32 8 % 64 = 0 →
      c.le 32 8 + 2 ^ (p.n - 15) ≤ s.laReserve → Completes (.dirZeroSet c) 0x4C c s
        (fun t =>
          let u := (t.fillArea (c.le 32 8) (2 ^ (p.n - 15)) (n == 2)).setPlace i
            (some { p with zeroFill := true, bitmap := c.le 32 8 })
          let v := if n = 1 then (List.range 16).foldl (fun u k => u.zeroBuffered k p) u else u
          (List.range 16).foldl (fun v k => v.zeroDrop k p) v) 0) ∧
    (Instant opDirZeroSet c s → n = 0 → s.placeAtBase base = some (i, p) → still → p.zeroFill = false →
      Completes (.dirZeroSet c) 0x4C c s id 0) ∧
    (Instant opDirZeroSet c s → n = 0 → s.placeAtBase base = some (i, p) → still → p.zeroFill = true →
      Holds (.dirZeroSet c) 0x4C c s fun tk t =>
        (t.setPlace i (some { p with zeroOff := some 0, zeroTicket := some tk })).zeroStep i) ∧
    (Instant opDirZeroSet c s → n ≤ 2 → s.placeAtBase base = some (i, p) →
      p.moving = true ∨ p.split = true ∨ p.zeroOff ≠ none → EndsWith (.dirZeroSet c) 0x4C c s stBusy) ∧
    (Instant opDirZeroQuery c s → base < 2 ^ 56 → s.placeOf (base / 64) = some (i, p) →
      Completes (.dirZeroQuery c) 0x4D c s id (bit (p.zeroFill && s.bitmapBit p (base / 4096))
        + 2 * bit (s.home.slices.any fun x => x.2.zeroing.any fun z => z.page == base / 4096) + 4 * bit p.zeroFill)) ∧
    (Instant opDirZeroQuery c s → base < 2 ^ 56 → s.placeOf (base / 64) = none →
      Completes (.dirZeroQuery c) 0x4D c s id 0) ∧
    (∀ v, Instant opDirStatus c s → c.byte 16 ≤ 15 →
      let x := s.slice (c.byte 16)
      [x.retry.length, x.retryMax, x.retryCount, x.storeLive, x.fullInval, x.trimCount, x.suspects,
       x.victims.length + 2 ^ 16 * x.victimsMax, x.initiated + 2 ^ 16 * (x.zeroing.length - x.initiated), x.oldDiscard,
       x.poisonCopies][c.byte 17]? = some v → Completes (.dirStatus c) 0x4E c s id v)

/-- Requests and writebacks at a home slice. A slice that does not run takes nothing. A message of a lost host is discarded,
one of a host that is offered nothing is refused. Any other request, and an RwD of an engine, to a private region or of a host
that owns nothing there, joins its line's wait list where the line is blocked or others wait for it, and is decided where not.
A host's RwD that the filter expects is discarded; one of the owner that a line's transaction names merges into it, and one of
the owner that the directory names, toward a line that no decided transaction blocks, is taken at once
(R134, R147 to R150, R153, R157, R159). -/
def Sys2Proof.Claims.HomeTakesRequests : Prop :=
  ∀ (k : Slice) (m : Msg) (s : State), s.held = none →
    let x := s.slice k
    let line := m.addr.toNat / 64
    let counted (t : State) : State := t.cntSlice k 0x80 (some m.vfi.toNat)
    let w : Waiter := { line := line, msg := m, since := s.clock }
    let taken (t : State) : State :=
      if x.blocked line = true ∨ x.queued line = true then (counted t).joinWaits k w else (counted t).decideOrWait k w
    (x.running = false → Acts (.homeRequest k m) s id ∧ Acts (.homeRwd k m) s id) ∧
    (x.running = true → s.fromLost m = true → Acts (.homeRequest k m) s (fun t => (counted t).discardLost k m) ∧
      Acts (.homeRwd k m) s fun t => (counted t).discardLost k m) ∧
    (x.running = true → s.fromLost m = false → s.noHost m = true →
      Acts (.homeRequest k m) s (fun t => (counted t).refuseHost k m) ∧
      Acts (.homeRwd k m) s fun t => (counted t).refuseHost k m) ∧
    (x.running = true → s.fromLost m = false → s.noHost m = false →
      Acts (.homeRequest k m) s taken ∧
      (m.engine = true ∨ m.priv = true → Acts (.homeRwd k m) s taken) ∧
      ∀ c, s.chnOf m = some c → m.engine = false → m.priv = false →
        (∀ f, f ∈ x.filter → f.1 = line → f.2.1 = c → Acts (.homeRwd k m) s fun u => (counted u).lateWriteback k m c) ∧
        ((∀ f ∈ x.filter, f.1 = line → f.2.1 ≠ c) →
          (∀ t, x.txnOn line = some t → t.owner = some c →
            Acts (.homeRwd k m) s fun u => ((counted u).mergeWriteback k t m c).tryClose k t.id) ∧
          (∀ t, x.txnOn line = some t → s.isOwner k t c = false → Acts (.homeRwd k m) s taken) ∧
          (x.txnOn line = none → x.blocked line = true → s.ownsLine k line c = true →
            Acts (.homeRwd k m) s fun u => (counted u).ownWriteback k m c) ∧
          (x.txnOn line = none → x.blocked line = false ∨ s.ownsLine k line c = false → Acts (.homeRwd k m) s taken)))

/-- A MemRdData of a local host for a line that no transaction, way, victim, waiting request or buffered write holds, of a
placement that neither moves nor is split and is without zero-fill, toward a port, with no store and a free way in its set:
the slice opens a transaction decided on I without a snoop, takes the first free way for it with an empty entry, issues the
read to backing memory and leaves the other slices and the memory alone (Table 06-4, R149, R150, R170, R171). -/
def Sys2Proof.Claims.UntrackedLinesAreRead : Prop :=
  ∀ (k : Slice) (m : Msg) (p : Placement) (i q key : Nat) (s : State), s.held = none →
    let x := s.slice k
    let line := m.addr.toNat / 64
    x.running = true → s.fromLost m = false → s.chnOf m = some q → (s.host q).remote = false → m.engine = false →
    m.priv = false → m.kind = .memRdData → s.placeOf line = some (i, p) → p.moving = false → p.split = false →
    p.zeroFill = false → x.blocked line = false → x.queued line = false → x.buffered line = none →
    x.wayOf line = none → (∀ v ∈ x.victims, v.line ≠ line) → s.home.storeLog2 = 0 → s.overage k m.vfi.toNat = false →
    p.target.pool = false → (scanWays (s.dirSet line) 0).find? (fun j => (tget none x.ways j).isNone) = some key →
    (∀ t ∈ x.txns, t.id < x.nextTxn) →
    ∃ t a, exec (.homeRequest k m) s = .next t ∧ (t.slice k).txns = x.txns ++ [a] ∧ a.id = x.nextTxn ∧ a.line = line ∧
      a.msg = m ∧ a.chn = some q ∧ a.before = 0 ∧ a.snoop = .none ∧ a.await = [] ∧ a.reading = true ∧ a.needData = true ∧
      a.block = 8 ∧ a.tgt = p.at' p.target line ∧ a.gen = p.gen ∧
      (t.slice k).ways = tset none x.ways key (some { line := line, entry := {} }) ∧ (t.slice k).wbuf = x.wbuf ∧
      t.out = s.out ++ [.issue (.slice k) (backingMsg (p.at' p.target line) line .memRd x.nextTxn m.vfi.toNat)] ∧
      (∀ j, j ≠ k.val → t.slice j = s.slice j) ∧ t.mem = s.mem

/-- Rows of Table 06-4. A line in I is never snooped, one in S is for the classes that want it alone, one in M not for its
owner, with a data snoop for reads to share and a current-data snoop for reads that keep nothing. After a MemRdData on I its
reader holds the line in M; on S it joins the sharers, and as the fifth makes the entry coarse with every sharer's group bit;
on M of another host the line is in S with the reader and, if the owner answered S, the owner. A MemWr that leaves no copy
leaves an empty entry. -/
def Obligations.HomeDecisionTable : Prop :=
  (∀ c own, planSnoop 0 c own = .none) ∧
  (∀ c, planSnoop 1 c false = .inv ↔ c = .rdA ∨ c = .invA ∨ c = .invI ∨ c = .wr) ∧
  (∀ c, planSnoop 2 c true = .none) ∧
  (∀ c, planSnoop 2 c false = .data ↔ c = .rdS ∨ c = .rdD) ∧
  (∀ c, planSnoop 2 c false = .cur ↔ c = .rdCur) ∧
  (∀ (s : State) (t : Txn) (e : DirEntry) (q : Nat), t.before = 0 → t.msg.kind = .memRdData →
    s.nextEntry t e (some q) = { state := 2, ptrs := [(q, (s.host q).inc)] } ∧ (responseOf 0 .rdD t.own).2 = .any) ∧
  (∀ (s : State) (t : Txn) (e : DirEntry) (q : Nat), t.before = 1 → t.msg.kind = .memRdData → e.coarse = false →
    (s.livePtrs e).length < 4 → q ∉ s.livePtrs e → (s.nextEntry t e (some q)).ptrs =
      (s.livePtrs e).map (fun c => (c, (s.host c).inc)) ++ [(q, (s.host q).inc)] ∧
    (s.nextEntry t e (some q)).state = 1 ∧ (responseOf 1 .rdD t.own).2 = .shared) ∧
  (∀ (s : State) (t : Txn) (e : DirEntry) (q : Nat), t.before = 1 → t.msg.kind = .memRdData → e.coarse = false →
    4 ≤ (s.livePtrs e).length → q ∉ s.livePtrs e → (s.nextEntry t e (some q)).coarse = true ∧
    (s.nextEntry t e (some q)).state = 1 ∧ (q < 1024 → (s.nextEntry t e (some q)).groups.getLsbD (q / 16) = true) ∧
    ∀ c ∈ s.livePtrs e, c < 1024 → (s.nextEntry t e (some q)).groups.getLsbD (c / 16) = true) ∧
  (∀ (s : State) (t : Txn) (e : DirEntry) (q o : Nat), t.before = 2 → t.own = false → t.owner = some o → q ≠ o →
    t.msg.kind = .memRdData →
    (t.answer = 0 → s.livePtrs (s.nextEntry t e (some q)) = [q]) ∧
    (t.answer = 1 → s.livePtrs (s.nextEntry t e (some q)) = [o, q]) ∧
    (s.nextEntry t e (some q)).state = 1) ∧
  (∀ (s : State) (t : Txn) (e : DirEntry) (q : Option Nat), t.msg.kind = .memWr → t.msg.mv = .inv → s.nextEntry t e q = {})

/-- Snoop responses and conflicts. A slice that does not run takes none; one of a lost host is discarded and counted. A response that
no transaction awaits is counted as late. The response of a host that is not the owner, to an invalidating snoop with other
hosts awaited, takes it off the list; any but BIRspI also counts as a protocol error. A conflict is acknowledged at once in a
slice without transactions, and kept for its close by the only one where that is the host's own request for the line. The
answers that three snoops allow are those of Table 06-5 (R151, R152, R154, R159). -/
def Sys2Proof.Claims.SnoopResponsesAreTaken : Prop :=
  ∀ (k : Slice) (m : Msg) (c : Nat) (t : Txn) (s : State), s.held = none →
    let x := s.slice k
    let line := m.addr.toNat / 64
    let awaits (t : Txn) : Bool := t.line == line && t.await.contains c
    let code := match m.kind with | .biRspS => 1 | .biRspE => 2 | _ => 0
    (x.running = false → Acts (.birsp k m) s id ∧ Acts (.biconflict k m) s id) ∧
    (x.running = true → s.fromLost m = true →
      Acts (.birsp k m) s (fun s => s.modSlice k fun x => { x with lossDiscard := satAdd 16 x.lossDiscard 1 }) ∧
      Acts (.biconflict k m) s fun s => s.modSlice k fun x => { x with lossDiscard := satAdd 16 x.lossDiscard 1 }) ∧
    (x.running = true → s.fromLost m = false → s.chnOf m = some c → x.txns.find? awaits = none → Acts (.birsp k m) s fun s =>
      (s.cntSlice k 0x88).modSlice k fun x => { x with lateBirsp := x.lateBirsp + 1 }) ∧
    (x.running = true → s.fromLost m = false → s.chnOf m = none → Acts (.birsp k m) s fun s =>
      (s.cntSlice k 0x88).modSlice k fun x => { x with lateBirsp := x.lateBirsp + 1 }) ∧
    (x.running = true → s.fromLost m = false → s.chnOf m = some c → x.txns.find? awaits = some t → t.snoop = .inv → code = 0 →
      t.owner ≠ some c → (∃ d ∈ t.await, d ≠ c) → s.txn k t.id = some t →
      (∀ y ∈ x.txns, y.id = t.id → y = t) →
      Acts (.birsp k m) s fun s => (s.cntSlice k 0x88).modTxn k t.id fun t => { t with await := t.await.filter (· != c) }) ∧
    (x.running = true → s.fromLost m = false → s.chnOf m = some c → x.txns.find? awaits = some t → t.snoop = .inv → code ≠ 0 →
      t.owner ≠ some c → (∃ d ∈ t.await, d ≠ c) → s.txn k t.id = some t →
      (∀ y ∈ x.txns, y.id = t.id → y = t) →
      ∃ u, exec (.birsp k m) s = .next u ∧ u.slice k = { x with
        protoErr := satAdd 32 x.protoErr 1, err := x.err ||| 16
        txns := x.txns.map fun y => if y.id = t.id then { y with await := y.await.filter (· != c) } else y }) ∧
    (x.running = true → s.fromLost m = false → x.txns = [] → Acts (.biconflict k m) s fun s =>
      (s.modSlice k fun x => { x with conflictCount := satAdd 32 x.conflictCount 1 }).conflictAck k m m.tag) ∧
    (x.running = true → s.fromLost m = false → x.txns = [t] → t.line = line → t.kind = .request → t.storeRead = false →
      t.recover = false → t.chn = some c → s.chnOf m = some c → Acts (.biconflict k m) s fun s =>
        (s.modSlice k fun x => { x with conflictCount := satAdd 32 x.conflictCount 1 }).modTxn k t.id fun t =>
          { t with ack := some m.tag }) ∧
    readAnswer .inv .biRspS = (0, false) ∧ readAnswer .inv .biRspI = (0, true) ∧ readAnswer .data .biRspS = (1, true) ∧
    readAnswer .data .biRspE = (0, false) ∧ readAnswer .cur .biRspE = (2, true)

/-- What backing memory answers. Read data for a transaction that still awaits hosts, and is no move, is kept under the bytes written
since, which with nothing buffered are those buffered when the read was issued. An answer that nothing reads for is dropped;
one to a closed transaction goes, and counts where the line's placement is gone or of another generation. A write's
acknowledgement removes its entry where nothing came after it, and else issues the bytes that came, or those for the next
target (R149, R182, R184). -/
def Sys2Proof.Claims.BackingAnswersArrive : Prop :=
  ∀ (k : Slice) (id' : Nat) (d : BitVec 512) (p : Bool) (line : Line56) (t : Txn) (e : WEntry) (s : State), s.held = none →
    let x := s.slice k
    let expiry := s.clock + us16 x.memTo
    (s.txn k id' = some t → t.reading = true → (∀ i, t.kind ≠ .move i) → t.await ≠ [] →
      Acts (.backingReadResponse k id' d p) s fun s => s.modTxn k id' fun y =>
        { y with reading := false, readEnd := none, data := y.data <|> some (s.overlaid k t d p) }) ∧
    (x.buffered t.line = none → (∀ w ∈ x.wwait, w.line ≠ t.line) → t.overMask = 0 → t.overPoison = false →
      s.overlaid k t d p = (d, p)) ∧
    (x.buffered t.line = none → (∀ w ∈ x.wwait, w.line ≠ t.line) →
      (s.overlaid k t d p).1 = overlay d t.overData t.overMask) ∧
    (s.txn k id' = some t → t.reading = false → Acts (.backingReadResponse k id' d p) s id) ∧
    (s.txn k id' = none → (∀ o ∈ x.orphans, o.1 ≠ id') → Acts (.backingReadResponse k id' d p) s id) ∧
    (∀ o, s.txn k id' = none → x.orphans.find? (fun o => o.1 == id') = some o → s.placeOf o.2.1 = none →
      Acts (.backingReadResponse k id' d p) s fun s => s.modSlice k fun x =>
        { x with orphans := x.orphans.erase o, oldDiscard := satAdd 32 x.oldDiscard 1 }) ∧
    (∀ o i q, s.txn k id' = none → x.orphans.find? (fun o => o.1 == id') = some o → s.placeOf o.2.1 = some (i, q) →
      Acts (.backingReadResponse k id' d p) s fun s => s.modSlice k fun x =>
        { x with orphans := x.orphans.erase o
                 oldDiscard := if q.gen = o.2.2 then x.oldDiscard else satAdd 32 x.oldDiscard 1 }) ∧
    (x.buffered line = none → Acts (.backingWriteAck k line) s id) ∧
    (x.buffered line = some e → e.copyEpoch = none → e.later = 0 → e.parts = [] → s.zeroEntry k (line / 64) = none →
      x.wwait = [] → (∀ y ∈ x.txns, y.line = line → y.settling = false) →
      Acts (.backingWriteAck k line) s fun s => s.setBuf k line none) ∧
    (x.buffered line = some e → e.copyEpoch = none → e.later ≠ 0 → e.reissued = false → s.zeroEntry k (line / 64) = none →
      Acts (.backingWriteAck k line) s fun s =>
        let e' : WEntry := { e with later := 0, laterPoison := false, stale := false, ackEnd := expiry }
        (s.setBuf k line (some e')).backWrite k line e.tgt e.data e.mask e.poison e.vfi) ∧
    (∀ y l, x.buffered line = some e → e.copyEpoch = none → e.later = 0 → e.parts = y :: l → s.zeroEntry k (line / 64) = none →
      Acts (.backingWriteAck k line) s fun s =>
        let e' : WEntry := { data := y.data, mask := y.mask, poison := y.poison, gen := y.gen, tgt := y.tgt
                             copyEpoch := y.copyEpoch, vfi := y.vfi, parts := l, ackEnd := expiry }
        (s.setBuf k line (some e')).backWrite k line y.tgt y.data y.mask y.poison y.vfi)

/-- The home's timeouts act only when they are due. The hosts that a read awaits, none an owner, count as having let go; a missing
writeback poisons its line and enters the filter of 64; an overdue read that still awaits hosts has poison for its data, and is
remembered; an overdue write is issued again poisoned over the whole line, and a second expiry ends it; expired filter entries
go (R156, R157). -/
def Sys2Proof.Claims.HomeTimeouts : Prop :=
  ∀ (k : Slice) (id' : Nat) (line : Line56) (t : Txn) (e : WEntry) (s : State), s.held = none →
    let x := s.slice k
    let expired (s : State) : State := (s.modSlice k fun x => { x with err := x.err ||| 4 }).record 0x04 (sliceIsland k) s.now64
      [(8, line * 64), (2, e.tgt.code), (1, bit e.reissued)]
    (s.txn k id' = none → Acts (.snoopTimeout k id') s id ∧ Acts (.wbTimeout k id') s id ∧ Acts (.memReadTimeout k id') s id) ∧
    (s.txn k id' = some t → s.due t.snoopEnd = false → Acts (.snoopTimeout k id') s id) ∧
    (s.txn k id' = some t → s.due t.snoopEnd = true → t.await ≠ [] → t.owner = none → t.kind = .request →
      t.recover = false → t.needData = true → t.data = none →
      ∃ u, exec (.snoopTimeout k id') s = .next u ∧ u.slice k = { x with
        snoopToCount := satAdd 32 x.snoopToCount 1, err := x.err ||| 1
        txns := x.txns.map fun y => if y.id = id' then { y with await := [], snoopEnd := none } else y }) ∧
    (s.txn k id' = some t → s.due t.wbEnd = false → Acts (.wbTimeout k id') s id) ∧
    (s.txn k id' = some t → t.wbOwed = true → s.due t.wbEnd = true → Acts (.wbTimeout k id') s fun s =>
      (((((s.modSlice k fun x =>
        let f := x.filter ++ [(t.line, t.owner.getD 0, s.clock + us16 (10 * x.wbTo))]
        { x with wbToCount := satAdd 32 x.wbToCount 1, err := x.err ||| 2
                 filter := if 64 < f.length then f.drop 1 else f }).record 0x02 (sliceIsland k) s.now64
          [(8, t.line * 64), (2, t.owner.getD 0)]).poisonLine k t.line none
            (if t.placed then some (t.tgt, t.gen) else none) t.charged).modTxn k id' fun t =>
            { t with wbOwed := false, wbEnd := none, data := if t.needData then some (0, true) else t.data })).tryClose k id') ∧
    (s.txn k id' = some t → s.due t.readEnd = false → Acts (.memReadTimeout k id') s id) ∧
    (s.txn k id' = some t → t.reading = true → s.due t.readEnd = true → (∀ i, t.kind ≠ .move i) → t.await ≠ [] →
      ∃ u, exec (.memReadTimeout k id') s = .next u ∧ u.slice k = { x with
        err := x.err ||| 4, orphans := x.orphans ++ [(t.id, t.line, t.gen)]
        txns := x.txns.map fun y => if y.id = id' then
          { y with reading := false, readEnd := none, data := y.data <|> some (0, true) } else y }) ∧
    (x.buffered line = none → Acts (.memWriteTimeout k line) s id) ∧
    (x.buffered line = some e → s.clock < e.ackEnd → Acts (.memWriteTimeout k line) s id) ∧
    (x.buffered line = some e → e.ackEnd ≤ s.clock → e.reissued = false → Acts (.memWriteTimeout k line) s fun s =>
      ((expired s).setBuf k line (some { e with reissued := true, ackEnd := s.clock + us16 x.memTo })).backWrite k line e.tgt 0
        (BitVec.allOnes 64) true e.vfi) ∧
    (x.buffered line = some e → e.ackEnd ≤ s.clock → e.reissued = true →
      Acts (.memWriteTimeout k line) s fun s => (expired s).writeEnd k line e) ∧
    Acts (.lateWbFilterExpiry k) s (fun s => s.modSlice k fun x =>
      { x with filter := x.filter.filter fun f => decide (s.clock < f.2.2) })

/-- The home's queues. WAIT_LIST_TAKE gives up a line's first request, which has the least stamp, while the line is free and, for a
write, the buffer has room. RETRY_QUEUE_GRANT on a queue of one grants the request where it can be decided, moves one that a
full PIN held to its line's list once the PIN allows, and else leaves it. ALLOWANCE_RELEASE takes one close signal of its port
and slice and gives the allowance back (R138, R148, R173). -/
def Sys2Proof.Claims.HomeQueuesAdvance : Prop :=
  ∀ (k : Slice) (line : Line56) (w : Waiter) (p : Port) (s u : State), s.held = none →
    let x := s.slice k
    let s' := s.setSlice k { x with retry := [] }
    (x.blocked line = true → Acts (.waitListTake k line) s id) ∧
    (x.blocked line = false → (∀ y ∈ x.waits, y.line ≠ line) → Acts (.waitListTake k line) s id) ∧
    (x.blocked line = false → s.firstWaiter (x.waits.filter (·.line == line)) = some w → w.kind = .request →
      classOf w.msg ≠ .wr ∨ x.room line = true → Acts (.waitListTake k line) s fun s =>
        ((s.setSlice k { x with waits := x.waits.erase w }).cntSlice k 0x84 none ((s.clock - w.since) / 8)).decideOrWait k w) ∧
    (x.blocked line = false → s.firstWaiter (x.waits.filter (·.line == line)) = some w → w.kind = .request →
      classOf w.msg = .wr → x.room line = false → Acts (.waitListTake k line) s id) ∧
    (x.retry = [] → Acts (.retryQueueGrant k) s id) ∧
    (x.retry = [w] → w.full = false → (s'.slice k).blocked w.line = false → s'.decideReq k w = .done u →
      Acts (.retryQueueGrant k) s fun _ => u) ∧
    (x.retry = [w] → w.full = false → (s'.slice k).blocked w.line = false → s'.decideReq k w = .retry →
      Acts (.retryQueueGrant k) s id) ∧
    (x.retry = [w] → w.full = true → (s'.slice k).pin w.line < 255 → Acts (.retryQueueGrant k) s fun _ => s'.joinWaits k w) ∧
    (x.retry = [w] → w.full = true → 255 ≤ (s'.slice k).pin w.line → Acts (.retryQueueGrant k) s id) ∧
    (∀ (l : List Waiter) w, s.firstWaiter l = some w → w ∈ l ∧ ∀ y ∈ l, s.stampOf w.msg ≤ s.stampOf y.msg) ∧
    (let i := 16 * p.val + k.val
     (tget 0 s.home.signals i = 0 → Acts (.allowanceRelease p k) s id) ∧
     (tget 0 s.home.signals i ≠ 0 → Acts (.allowanceRelease p k) s fun s =>
       ({ s with home := { s.home with signals := tset 0 s.home.signals i (tget 0 s.home.signals i - 1)
                                       counts := tset 0 s.home.counts i (tget 0 s.home.counts i - 1) } }).admitHeld p))

/-- HOST_LOSS applies a loss that is due for its number, and does nothing where none is. A loss advances the incarnation by one,
modulo 16, and PENDING by one while fewer than 15 are pending, and neither at 15; its instant is kept. SWEEP_STEP does nothing
in a slice that does not run, begins a new lap in one that holds nothing, and goes on behind a way whose entry has no stale
pointer and stays where it is (R135, R159 to R161). -/
def Obligations.HostLossIsSwept : Prop :=
  ∀ (k : Slice) (chn : Chn) (s : State), s.held = none →
    let x := s.slice k
    ((∀ y ∈ s.home.lossDue, y.1 ≠ chn.val) → Acts (.hostLoss chn) s id) ∧
    (∀ at', s.home.lossDue.find? (fun y => y.1 == chn.val) = some (chn.val, at') →
      Acts (.hostLoss chn) s fun s => s.applyLoss chn at') ∧
    (∀ at', (s.host chn).pending < 15 →
      let h := (s.applyLoss chn at').host chn
      h.inc = ((s.host chn).inc + 1) % 16 ∧ h.pending = (s.host chn).pending + 1) ∧
    (∀ at', (s.host chn).pending = 15 →
      let h := (s.applyLoss chn at').host chn
      h.inc = (s.host chn).inc ∧ h.pending = 15) ∧
    (∀ at', let h := s.host chn
      tget 0 (s.applyLoss chn at').home.lostAt (if h.remote then 1024 + h.who else h.who) = at') ∧
    (x.running = false → Acts (.sweepStep k) s id) ∧
    (x.running = true → x.ways = [] → x.victims = [] → s.home.storeLog2 = 0 → x.losses = [] → Acts (.sweepStep k) s fun s =>
      s.setSlice k { x with sweepLap := (x.sweepLap + 1) % 2 ^ 32, sweepPos := 0, losses := [] }) ∧
    (∀ (y : Nat × Option Way) (w : Way), x.running = true → x.ways.find? (fun v => decide (x.sweepPos ≤ v.1)) = some y →
      y.1 < scanStore → tget none x.ways y.1 = some w → x.wayOf w.line = some (y.1, w) →
      (w.entry.coarse = true ∨ ∀ e ∈ w.entry.ptrs, (s.host e.1).inc = e.2) → (w.entry.live = true ∨ x.pin w.line ≠ 0) →
      Acts (.sweepStep k) s fun s => s.modSlice k fun x => { x with sweepPos := y.1 + 1 })

/-- The directory's work. STORE_BUCKET_READ acts for its transaction on the entry of the slot that holds the line, which goes
into the line's way, or on an empty one where no slot does; it marks an uncorrectable bucket suspect and recovers the line.
VICTIM_WRITE without a store drops a clear and begins an invalidation for a victim without stale pointers, and with one writes
such a victim into the lowest empty slot of its bucket. TRIM starts only for an instance with more entries than its limit
and its running trims, with fewer than 16 trims running, on the entry that the scanner finds. MOVE_LINE_START takes a block
left behind, or the next one of the range, while fewer lines are in flight than the depth (R176 to R178, R181, R183). -/
def Sys2Proof.Claims.DirectoryWorkProceeds : Prop :=
  ∀ (k : Slice) (id' : Nat) (unc : Bool) (v : Vfi) (i : Fin 1024) (t : Txn) (p : Placement) (s : State), s.held = none →
    let x := s.slice k
    let c := tget 0 x.cursors i
    let known (s : State) : State := s.modTxn k id' fun t => { t with storeRead := false, wbSeen := false, entry := {} }
    let limit := (s.inst v.val).dirQuota / 16 + x.trims.count v.val
    let scan (pos : Nat) := s.trimScan (x.ways.length + s.mem.lines.length + 1) k v.val pos
    (s.txn k id' = none → Acts (.storeBucketRead k id' unc) s id) ∧
    (s.txn k id' = some t → t.storeRead = false → Acts (.storeBucketRead k id' unc) s id) ∧
    (∀ l, s.txn k id' = some t → t.storeRead = true → t.wbSeen = false → (t.settled && s.recheckFails t.msg) = false →
      unc = false → s.bucket k (s.bucketOf t.line) = some l →
      ((slotEntries l).find? (fun y => y.2.1 == t.line) = none → isSuspect l = false →
        (createsEntry t.msg = false ∨ s.overage k t.msg.vfi.toNat = false) → Acts (.storeBucketRead k id' unc) s fun s =>
          (known s).actOn k id' (((known s).heldEntry k t.line).getD {})) ∧
      (∀ y key w, (slotEntries l).find? (fun y => y.2.1 == t.line) = some y → x.wayOf t.line = some (key, w) →
        (∀ z ∈ x.victims, z.line ≠ t.line) → Acts (.storeBucketRead k id' unc) s fun s =>
          let u := (known s).modSlice k fun x =>
            { x with ways := tset none x.ways key (some { w with entry := y.2.2, stored := true, changed := false }) }
          u.actOn k id' ((u.heldEntry k t.line).getD {}))) ∧
    (s.txn k id' = some t → t.storeRead = true → t.settled = false → unc = true →
      Acts (.storeBucketRead k id' unc) s fun s => (s.markSuspect k (s.bucketOf t.line) t.line).startRecover k id') ∧
    (x.nextVictim = none → Acts (.victimWrite k unc) s id) ∧
    (∀ y, x.nextVictim = some y → s.home.storeLog2 = 0 → y.clear = true → Acts (.victimWrite k unc) s fun s =>
      s.dropVictim k y) ∧
    (∀ y, x.nextVictim = some y → y.clear = false → (y.entry.coarse = true ∨ ∀ e ∈ y.entry.ptrs, (s.host e.1).inc = e.2) →
      (s.home.storeLog2 = 0 → Acts (.victimWrite k unc) s fun s => s.makeRoom k y y.line) ∧
      (∀ l j, s.home.storeLog2 ≠ 0 → unc = false → s.bucket k (s.bucketOf y.line) = some l →
        y.stored = false ∨ y.changed = true ∨ isSuspect l = true → (slotEntries l).find? (fun z => z.2.1 == y.line) = none →
        emptySlot l = some j → Acts (.victimWrite k unc) s fun s => s.storeVictim k (s.bucketOf y.line) j y none)) ∧
    ((s.inst v.val).dirQuota = 0 ∨ tget 0 x.charges v.val ≤ limit ∨ 16 ≤ x.trims.length → Acts (.trimStep k v) s id) ∧
    (∀ pos line, (s.inst v.val).dirQuota ≠ 0 → limit < tget 0 x.charges v.val → x.trims.length < 16 →
      (scan x.trimPos <|> scan 0) = some (pos, line) → Acts (.trimStep k v) s fun s => (s.modSlice k fun x =>
        { x with trimPos := pos, trimCount := satAdd 32 x.trimCount 1 }).startJob k line (.hostInval true) v.val) ∧
    (s.place i = none → Acts (.moveLineStart k i) s id) ∧
    (s.place i = some p → p.moving = false ∨ p.stopping ≠ none ∨ p.depth ≤ x.inMove i → Acts (.moveLineStart k i) s id) ∧
    (s.place i = some p → p.moving = true → p.stopping = none → x.inMove i < p.depth →
      (∀ y, x.skipped.find? (fun y => y.1 == i.val) = some y → Acts (.moveLineStart k i) s fun s =>
        (s.setSlice k { x with skipped := x.skipped.erase y }).startJob k (p.lineAt k y.2) (.move i) p.moveVfi) ∧
      ((∀ y ∈ x.skipped, y.1 ≠ i.val) → c < p.blocks → Acts (.moveLineStart k i) s fun s =>
        (s.setSlice k { x with cursors := tset 0 x.cursors i (c + 1) }).startJob k (p.lineAt k c) (.move i) p.moveVfi) ∧
      ((∀ y ∈ x.skipped, y.1 ≠ i.val) → p.blocks ≤ c → Acts (.moveLineStart k i) s id))

/-- The first-write procedure's messages. ZERO_P does nothing where no slice has initiated the page; the slice hears the first
initiator that it has not heard, answers at once when the page is written or no placement covers it, and otherwise makes an
entry that owes its own four lines and writes each as zeros, with the slot it asks from in it. ZERO_ANSWER counts an answer
that was sent, once; DONE_P removes a participating entry once the page's bit is set, and does nothing before (R187, R190). -/
def Sys2Proof.Claims.ZeroFillMessages : Prop :=
  ∀ (k j : Slice) (page : Page) (v : Vfi) (z : Zeroing) (s : State), s.held = none →
    let g := page
    let unheard (y : Nat × SliceSt) : Bool :=
      y.1 != k.val && y.2.zeroing.any fun z => z.page == g && z.initiated && !z.heard.contains k.val
    let heard (s : State) : State := (s.modZero j g fun z => { z with heard := z.heard ++ [k.val] }).bitDraw k g
    ((∀ y ∈ s.home.slices, y.2.zeroing = []) → Acts (.zeroP k page v) s id) ∧
    (∀ y, s.home.slices.find? unheard = some (j.val, y) → s.zeroEntry k g = none →
      (∀ i p, s.placeOf (g * 64) = some (i, p) → s.bitmapBit p g = true) → Acts (.zeroP k page v) s fun s =>
        ((heard s).emit (.zeroAnswer k j page)).modZero j g fun z => { z with replied := z.replied ++ [k.val] }) ∧
    (∀ y i p, s.home.slices.find? unheard = some (j.val, y) → s.zeroEntry k g = none →
      s.placeOf (g * 64) = some (i, p) → s.bitmapBit p g = false → Acts (.zeroP k page v) s fun s =>
        let z : Zeroing := { page := g, initiated := false, owed := pageLines k g, asked := [j.val], vfi := v.val }
        let u := (heard s).modSlice k fun x => { x with zeroing := x.zeroing ++ [z] }
        ((pageLines k g).foldl (fun u l => u.zeroWrite k l v) u).zeroAnswers k g) ∧
    (s.zeroEntry k g = none → Acts (.zeroAnswer k j page) s id) ∧
    (s.zeroEntry k g = some z → z.initiated = false ∨ j.val ∉ z.replied → Acts (.zeroAnswer k j page) s id) ∧
    (s.zeroEntry k g = some z → z.initiated = true → j.val ∈ z.replied → z.answered.length ≠ 14 →
      Acts (.zeroAnswer k j page) s fun s => s.modZero k g fun z =>
        { z with replied := z.replied.erase j.val, answered := z.answered ++ [j.val] }) ∧
    (∀ i p, s.placeOf (g * 64) = some (i, p) → s.bitmapBit p g = false → Acts (.doneP k page) s id) ∧
    (∀ i p, s.placeOf (g * 64) = some (i, p) → s.bitmapBit p g = true → Acts (.doneP k page) s fun s =>
      s.modSlice k fun x => { x with zeroing := x.zeroing.filter fun z => z.page != g || z.initiated }) ∧
    (∀ page, (pageLines k page).length = 4 ∧ ∀ l ∈ pageLines k page, l / 64 = page ∧ sliceOf (l * 64) = k.val)

/-! ### The switch core -/

/-- CORE_SLOT does nothing while the core does not run or for a tile that does not exist. A tile that holds no cell, request or
assignment, with no stop and no port's credits withheld, only counts its idle meeting. A tile with one cell, assigned for the
meeting of this slot and neither over age nor in QUARANTINE, sends it to the intermediate of that meeting with the next
sequence number of its tile pair, keeps its place and forgets the assignment (R108, R109, R113). -/
def Sys2Proof.Claims.CoreSlots : Prop :=
  ∀ (t : Tile) (a : Meeting) (c : Cell) (s : State), s.held = none →
    let x := s.swcTile t
    let runs := s.glb.coreRun = true ∧ s.tileExists t = true ∧ x.asks = [] ∧ x.stage2 = []
    (s.glb.coreRun = false → Acts (.coreSlot t) s id) ∧
    (s.tileExists t = false → Acts (.coreSlot t) s id) ∧
    (runs → x.voq = [] → x.assigned = [] → s.anyStop t = false →
      (∀ i, i < 16 → s.portOpen t i = true → s.creditsShut (16 * t + i) = false) →
      Acts (.coreSlot t) s fun s => (s.cntTile t 0x43).modSwcTile t fun y =>
        { y with assigned := [], requests := y.requests.filter fun r => decide (s.slot < r.slot) }) ∧
    (runs → x.voq = [c] → x.assigned = [a] → a.slot = s.slot → a.cells = [c.name] → s.overAge t c = false →
      x.quarantined c.place = false →
      let q := tget 0 x.seqOut c.dstTile
      ∃ u, exec (.coreSlot t) s = .next u ∧
        u.swc.flights = s.swc.flights ++ [{ stage2 := false, src := t, dst := a.peer, cell := { c with seq := q }, at16 := s.clock }] ∧
        (u.swcTile t).voq = [] ∧ (u.swcTile t).assigned = [] ∧
        (u.swcTile t).seqOut = tset 0 x.seqOut c.dstTile ((q + 1) % 65536) ∧ (u.swcTile t).places = x.places)

/-- CELL_ARRIVAL does nothing where no cell is on its way. Else the cell frees the place that it left: one whose header cannot
be corrected is lost, with its counts and its record; any other, with a corrected header counted and poisoned quarters marked,
takes a place where it arrives, at an intermediate tile in its stage 2 pool, at its egress tile in the resequencer. There a
cell behind the one awaited is discarded and one ahead of it is held; the one awaited, first of its message and of the port's
generation, enters the egress queue behind what does not share its slot. RESEQ_LOST declares the awaited cell lost only once a
later one has waited 128 slots; its message loses it where the cell is known (R13, R105, R109, R114, R116, R117, R123). -/
def Sys2Proof.Claims.CellsArriveInOrder : Prop :=
  ∀ (st2 : Bool) (src dst : Tile) (fault : CellFault) (f : Flight) (c : Cell) (s : State), s.held = none →
    let x := s.swcTile dst
    let here (f : Flight) : Bool := f.stage2 == st2 && f.src == src.val && f.dst == dst.val
    let e := tget 0 x.expect src
    let d := (c.seq + 65536 - tget 0 x.expect c.srcTile) % 65536
    let left (s : State) : State := State.dropCell { s with swc := { s.swc with flights := s.swc.flights.erase f } } src f.cell
    let got (s : State) : State × Cell := match fault with
      | .payload q => (left s).poisonCell dst f.cell q
      | .headerCorrected =>
        ((((left s).modSwcTile dst fun x => { x with hdrCorr := satAdd 16 x.hdrCorr 1 }).cntTile dst 0x51).sramError dst 1 false, f.cell)
      | _ => (left s, f.cell)
    let cur := if c.dstOff = 16 then 0 else (s.port (16 * dst + c.dstOff)).gen % 256
    let late (s : State) : State := (s.setSwcTile dst { x with
        expect := tset 0 x.expect src ((e + 1) % 65536)
        reseqLost := satAdd 32 x.reseqLost 1, err := x.err ||| 16 }).record 0x50 dst s.now64 [(1, dst), (1, src), (2, e)]
    (s.swc.flights.find? here = none → Acts (.cellArrival st2 src dst fault) s id) ∧
    (s.swc.flights.find? here = some f → st2 = false → fault ≠ .headerUncorrectable →
      Acts (.cellArrival st2 src dst fault) s fun s =>
        let r := (got s).1
        let y := (r.swcTile dst).take r.ft
        (r.setSwcTile dst y.1).modSwcTile dst fun x => { x with stage2 := x.stage2 ++ [(r.slot, { (got s).2 with place := y.2 })] }) ∧
    (s.swc.flights.find? here = some f → st2 = true → fault ≠ .headerUncorrectable →
      Acts (.cellArrival st2 src dst fault) s fun s =>
        let r := (got s).1
        let y := (r.swcTile dst).take r.ft
        (r.setSwcTile dst y.1).reseqIn dst { (got s).2 with place := y.2 }) ∧
    (s.swc.flights.find? here = some f → fault = .headerUncorrectable → Acts (.cellArrival st2 src dst fault) s fun s =>
      let r := left s
      let r := { r with swc := { r.swc with lost := r.swc.lost ++ [f.cell] } }
      ((r.modSwcTile dst fun x => { x with hdrUnc := satAdd 16 x.hdrUnc 1, err := x.err ||| 4 }).sramError dst 1 true).record
        0x52 dst s.now64 [(1, dst), (2, f.cell.place)]) ∧
    (32768 ≤ d → s.reseqIn dst c = s.dropCell dst c) ∧
    (0 < d → d < 32768 → (∀ y ∈ x.reseq, y.2.srcTile = c.srcTile → y.2.seq ≠ tget 0 x.expect c.srcTile) →
      s.reseqIn dst c = (s.setSwcTile dst { x with reseq := x.reseq ++ [(s.slot, c)] }).cntTile dst 0x47 (some c.vfi)) ∧
    (d = 0 → c.seq < 65536 → tget 0 x.expect c.srcTile < 65536 → x.reseq = [] → c.lgen = cur → c.first = true →
      tget none x.openOut c.dstOff = none → (∀ y ∈ x.egress, y.slotIn = s.slot → y.srcTile = c.srcTile) →
      let y := (s.reseqIn dst c).swcTile dst
      y.reseq = [] ∧ y.egress = x.egress ++ [{ c with slotIn := s.slot }] ∧
      y.expect = tset 0 x.expect c.srcTile ((tget 0 x.expect c.srcTile + 1) % 65536)) ∧
    ((∀ y ∈ x.reseq, y.2.srcTile = src.val → s.slot < y.1 + 128) → Acts (.reseqLost dst src) s id) ∧
    (∀ since, x.reseq = [(since, c)] → c.srcTile = src.val → since + 128 ≤ s.slot → c.seq ≠ e →
      (s.pairCell dst src e = none → c.seq ≠ (e + 1) % 65536 → Acts (.reseqLost dst src) s late) ∧
      (∀ y, s.pairCell dst src e = some y → Acts (.reseqLost dst src) s fun s =>
        let r := late s
        (State.loseMessage { r with swc := { r.swc with lost := r.swc.lost.erase y } } dst y).release 513 dst src))

/-- HEAD_CHECK discards a queue's head only when it is over age, with the cells of its message in the tile's queues; one whose
head has gone on is lost to its message. A head is over age once it is older than its tile's limit, unless its message has
begun to leave its egress port. AUDIT_STEP, while the core runs, visits one place: a free one and one held within the limit are
passed by, one held longer goes to QUARANTINE, counted, and one in QUARANTINE since an earlier lap is freed; after the last
place, where that is free, it begins a new lap, and records a sum of places that does not come to 16,384 (R119, R120, R128). -/
def Sys2Proof.Claims.HeadsAgeAndPlacesAreAudited : Prop :=
  ∀ (t d : Tile) (o : Fin 17) (k : Fin 3) (v : Vfi) (c : Cell) (pl : Place) (s : State), s.held = none →
    let x := s.swcTile t
    let inVoq (c : Cell) : Bool := c.dstTile == d.val && c.dstOff == o.val && c.cls == k.val
    let inEgress (c : Cell) : Bool := c.dstOff == o.val && c.cls == k.val && (k.val != 0 || c.vfi == v.val)
    let runs := s.glb.coreRun = true ∧ s.tileExists t = true
    let aged (s : State) : State := (x.voq.filter (·.same c)).foldl (fun s y => s.ageCell t y)
      (s.setSwcTile t { x with voq := x.voq.filter fun y => !y.same c })
    (x.voq.find? inVoq = none → Acts (.headCheck t (.voq d o k)) s id) ∧
    (x.voq.find? inVoq = some c → s.overAge t c = false → Acts (.headCheck t (.voq d o k)) s id) ∧
    (x.voq.find? inVoq = some c → s.overAge t c = true → c.first = true → Acts (.headCheck t (.voq d o k)) s aged) ∧
    (x.voq.find? inVoq = some c → s.overAge t c = true → c.first = false →
      Acts (.headCheck t (.voq d o k)) s fun s => (aged s).loseMessage c.dstTile c) ∧
    (x.egress.find? inEgress = none → Acts (.headCheck t (.egress o k v)) s id) ∧
    (x.egress.find? inEgress = some c → s.overAge t c = false → Acts (.headCheck t (.egress o k v)) s id) ∧
    (x.egress.find? inEgress = some c → s.overAge t c = true → Acts (.headCheck t (.egress o k v)) s fun s =>
      ((x.egress.filter (·.same c)).foldl (fun s y => s.ageCell t y)
        (s.setSwcTile t { x with egress := x.egress.filter fun y => !y.same c })).restop t c.dstOff) ∧
    (s.overAge t c = true ↔ s.headLeft c = false ∧ 16 * 2 ^ x.ageLog2 < s.clock - restoreT52 s.clock c.stamp) ∧
    (s.glb.coreRun = false ∨ s.tileExists t = false → Acts (.auditStep t) s id) ∧
    (runs → tget none x.places x.auditPtr = none → x.auditPtr + 1 < 16384 → Acts (.auditStep t) s fun s =>
      s.setSwcTile t { x with auditPtr := x.auditPtr + 1 }) ∧
    (runs → tget none x.places x.auditPtr = some pl → pl.held = true → x.auditPtr + 1 < 16384 →
      s.ft - pl.takenAt ≤ 2 ^ x.ageLog2 + 20480 → Acts (.auditStep t) s fun s =>
        s.setSwcTile t { x with auditPtr := x.auditPtr + 1 }) ∧
    (runs → tget none x.places x.auditPtr = some pl → pl.held = true → x.auditPtr + 1 < 16384 →
      2 ^ x.ageLog2 + 20480 < s.ft - pl.takenAt → ∃ u, exec (.auditStep t) s = .next u ∧ u.swcTile t = { x with
        places := tset none x.places x.auditPtr (some { pl with held := false, qLap := x.lap })
        heldCount := x.heldCount - 1, quarCount := x.quarCount + 1, leakCount := satAdd 32 x.leakCount 1
        err := x.err ||| 1, auditPtr := x.auditPtr + 1 }) ∧
    (runs → tget none x.places x.auditPtr = some pl → pl.held = false → pl.qLap < x.lap → x.auditPtr + 1 < 16384 →
      ∃ u, exec (.auditStep t) s = .next u ∧ u.swcTile t = { x with
        places := tset none x.places x.auditPtr none, freeCount := x.freeCount + 1, quarCount := x.quarCount - 1
        auditPtr := x.auditPtr + 1 }) ∧
    (runs → tget none x.places x.auditPtr = none → x.auditPtr = 16383 → x.freeCount + x.heldCount + x.quarCount = 16384 →
      Acts (.auditStep t) s fun s => s.setSwcTile t { x with auditPtr := 0, lap := x.lap + 1 }) ∧
    (runs → tget none x.places x.auditPtr = none → x.auditPtr = 16383 → x.freeCount + x.heldCount + x.quarCount ≠ 16384 →
      Acts (.auditStep t) s fun s => (s.setSwcTile t { x with auditPtr := 0, lap := x.lap + 1, err := x.err ||| 2 }).record
        0x55 t s.now64 [(1, t), (2, x.freeCount), (2, x.heldCount)])

/-- EGRESS_SEND does nothing at a port that takes no traffic, has none, or has a message under way. A Control message alone in
the tile's egress pool, neither over age nor in QUARANTINE, waits while the link's credits do not cover it; once they do, and
the records that it needs are free, it is sent, unless its header is poisoned or its logical device receives nothing: then it
is discarded and answered. PORT_STATE_LEARNED keeps the port's state and generation in the tile, and for a port that is not
UP discards what the tile's ingress queues hold for it, counted, and answers each message among it
(R87, R91, R117, R118, R122 to R124). -/
def Sys2Proof.Claims.EgressAndPortStates : Prop :=
  ∀ (t : Tile) (off : Fin 17) (credits : Nat) (p : Port) (c : Cell) (s : State), s.held = none →
    let x := s.swcTile t
    let alone := s.portOpen t off = true ∧ tget none x.openOut off = none ∧ x.egress = [c] ∧ c.dstOff = off.val ∧ c.cls = 1 ∧
      c.first = true ∧ s.overAge t c = false ∧ x.quarantined c.place = false ∧ s.owedFull t off c.msg = false ∧
      s.trackerFull t off c.msg = false
    let known : TileSwc := { x with known := tset (false, 0) x.known p ((s.port p).state == .up, (s.port p).gen) }
    let mineOf (c : Cell) : Bool := c.dstTile == p.val / 16 && c.dstOff == p.val % 16
    let mine := x.voq.filter mineOf
    (s.portOpen t off = false → Acts (.egressSend t off credits) s id) ∧
    (s.portOpen t off = true → x.egress = [] → Acts (.egressSend t off credits) s id) ∧
    ((tget none x.openOut off).isSome = true → Acts (.egressSend t off credits) s id) ∧
    (alone → credits < c.left → Acts (.egressSend t off credits) s id) ∧
    (alone → c.left ≤ credits → c.poison % 2 = 0 → s.ldShut t off c.msg = false →
      Acts (.egressSend t off credits) s fun s => s.sendMsg t off c) ∧
    (alone → c.left ≤ credits → c.poison % 2 = 1 ∨ s.ldShut t off c.msg = true →
      Acts (.egressSend t off credits) s fun s =>
        (((s.setSwcTile t { x with egress := [] }).dropCell t c).answerCell t c (s.cplCa t off)).restop t off) ∧
    ((s.port p).state = .up → Acts (.portStateLearned t p) s fun s => s.setSwcTile t known) ∧
    ((s.port p).state ≠ .up → Acts (.portStateLearned t p) s fun s =>
      let u := mine.foldl (fun s c => s.dropCell t c) (s.setSwcTile t { known with voq := x.voq.filter fun c => !mineOf c })
      let v := u.modSwcTile t fun x => { x with genDiscard := satAdd 32 x.genDiscard mine.length }
      (mine.filter (·.first)).foldl (fun s c =>
        s.answerDown t p (if c.msg.home || c.msg.engine then p else c.msg.reqPort.toNat) c.msg 0x4B true c.cls) v)

/-- A message that enters the core becomes cells in order: as many as its quarters need, but for those of slots still to come,
which wait with the port's open message. Each queued cell carries the message, its class, stamp, instance and type and the
generation that its tile knows, numbers what is left, and has a place of its own; the free and the held places keep their sum
(R81, R101 to R106, R122, R128). -/
def Obligations.MessagesBecomeCells : Prop :=
  ∀ (s : State) (src srcOff dst dstOff : Nat) (m : Msg) (slice : Bool),
    let x := s.swcTile src
    let u := s.intoCore src srcOff dst dstOff m slice
    let y := u.swcTile src
    let w := s.slotsToCome src srcOff m
    let n := msgCells m - w
    twf none x.places = true → n ≤ x.freeCount →
    (y.freeCount + n = x.freeCount ∧ y.heldCount = x.heldCount + n ∧
      ∃ cs, y.voq = x.voq ++ cs ∧ cs.length = n ∧ (cs.map (·.place)).Nodup ∧
        (∀ c ∈ cs, c.msg = m ∧ c.dstTile = dst ∧ c.dstOff = dstOff ∧ c.srcTile = src ∧ c.srcOff = srcOff ∧
          c.cls = msgClass m slice (m.engine && srcOff == 16) ∧ c.vfi = m.vfi.toNat ∧ c.stamp = m.stamp.toNat ∧
          c.type = msgType m ∧ c.lgen = s.heldGen src dst dstOff ∧ (tget none y.places c.place).isSome = true) ∧
        ∀ i, i < cs.length → (cs.map (·.left))[i]? = some (msgCells m - i) ∧ (cs.map (·.first))[i]? = some (i == 0) ∧
          (cs.map (·.last))[i]? = some (i + 1 == msgCells m)) ∧
    (∀ o, w ≠ 0 → (s.port (16 * src + srcOff)).openMsg = some o →
      ∃ rest, (u.port (16 * src + srcOff)).openMsg = some { o with slots := w, rest := rest } ∧ rest.length = w ∧
        ∀ c ∈ rest, c.msg = m ∧ c.first = false)

/-- Ingress. Nothing enters while the core does not run, the port is shut or its credits are withheld. At a port whose instance
is not resetting, a message that its link IDE may not pass is answered, a speculative read goes no further than its count, and
a request of the CXL.mem master is answered as for a lost port from a downstream port. From another port one that no window
maps is recorded and answered, one that the station rejects is answered, one for a coherent region goes to its home with
256-byte flits, is recorded and answered without them, and one for a private region of the pool goes to the slice of its line.
Toward a home it enters within the port's allowance, or as a writeback that a snoop asked for, and waits otherwise. A home
slice's own request enters at its tile, toward a port known to be UP, while the pool and the instance's quota take it. No
engine issues on a module without engines (R79, R91, R96, R103, R106, R138, R140, R206, R287). -/
def Obligations.IngressRoutesMessages : Prop :=
  ∀ (p : Port) (k : Slice) (e : Fin 4) (m0 : Msg) (w : Win) (a : Nat) (s s2 : State), s.held = none →
    let t := p.val / 16
    let m := s.stampIn p m0
    let v := m.vfi.toNat
    let tk := s.sliceTile k
    let counted (s : State) : State := s.cntTile t (if msgType m = 0 then 0x14 else 0x15) (some v) (some (p.val % 16))
    let takes := s.glb.coreRun = true ∧ s.portOpen t (p.val % 16) = true ∧ s.creditsShut p = false
    let open' := takes ∧ s.ideShut p m = false ∧ (s.inst v).resetting = false
    let request := isM2S m = true ∧ isResponse m = false ∧ m.kind ≠ .memSpecRd
    let host := request ∧ (s.port p).cfg.role ≠ 0
    let m1 : Msg := { m with addr := BitVec.ofNat 64 a, isFma := true }
    let k0 : Msg := { m0 with stamp := BitVec.ofNat 52 s.t52, home := true, dst := BitVec.ofNat 10 m0.dst.toNat }
    let checked := open' ∧ host ∧ s.windowOf v p m = some (w, a) ∧ (counted s).stationCheck t p m1 true = (s2, true)
    (s.glb.coreRun = false → Acts (.messageIngress (.lanePort p) m0) s id ∧ Acts (.messageIngress (.slice k) m0) s id ∧
      Acts (.messageIngress (.engine e) m0) s id) ∧
    (s.portOpen t (p.val % 16) = false ∨ s.creditsShut p = true → Acts (.messageIngress (.lanePort p) m0) s id) ∧
    (takes → s.ideShut p m = true → Acts (.messageIngress (.lanePort p) m0) s fun s =>
      (counted s).answerLost t m (s.port p).cfg.dpcCpl 0x17 false) ∧
    (open' → m.kind = .memSpecRd → Acts (.messageIngress (.lanePort p) m0) s counted) ∧
    (open' → request → (s.port p).cfg.role = 0 →
      Acts (.messageIngress (.lanePort p) m0) s fun s => (counted s).answerLost t m false 0x17 false) ∧
    (open' → host → s.windowOf v p m = none → m.isFma = false → Acts (.messageIngress (.lanePort p) m0) s fun s =>
      ((counted s).record 0x45 t s.now64 [(2, p), (1, 5), (8, m.addr.toNat)]).answerLost t m false 0x17 false) ∧
    (open' → host → s.windowOf v p m = some (w, a) → (counted s).stationCheck t p m1 true = (s2, false) →
      Acts (.messageIngress (.lanePort p) m0) s fun _ => s2.answerLost t m1 false 0 false) ∧
    (checked → w.kind ≠ 2 → w.kind ≠ 3 → m.dpid = none →
      (2 ≤ (s2.port p).mode → Acts (.messageIngress (.lanePort p) m0) s fun _ => s2.toHome p m1) ∧
      ((s2.port p).mode < 2 → Acts (.messageIngress (.lanePort p) m0) s fun _ =>
        ((s2.modPort p fun x => { x with err := x.err ||| 64 }).record 0x44 t s2.now64
          [(2, p), (1, (s2.port p).mode), (1, (s2.port p).rate)]).answerLost t m1 false 0x17)) ∧
    (checked → w.kind = 3 → m.dpid = none → Acts (.messageIngress (.lanePort p) m0) s fun _ =>
      s2.toHome p { m1 with priv := true, dev := BitVec.ofNat 64 (w.target + (m1.addr.toNat - w.fma)) }) ∧
    (s.snoopOwed p m1 = true ∨ s.mayEnter p m1 = true ∧ (∀ h ∈ (s.port p).heldMsgs, msgType h ≠ msgType m1) →
      s.toHome p m1 = s.enterHome p m1) ∧
    (s.snoopOwed p m1 = false → s.mayEnter p m1 = false ∨ (∃ h ∈ (s.port p).heldMsgs, msgType h = msgType m1) →
      s.toHome p m1 =
        (s.modPort p fun x => { x with heldMsgs := x.heldMsgs ++ [m1] }).cntTile t 0x1B (some m1.vfi.toNat) (some (p.val % 16))) ∧
    (s.poolShut tk 16 = true ∨ (s.swcTile tk).full.contains m0.vfi.toNat = true →
      Acts (.messageIngress (.slice k) m0) s id) ∧
    (s.glb.coreRun = true → s.poolShut tk 16 = false → (s.swcTile tk).full.contains m0.vfi.toNat = false →
      isM2S m0 = true → s.ideShut m0.dst.toNat k0 = false → s.knownUp tk m0.dst.toNat = true →
      Acts (.messageIngress (.slice k) m0) s fun s => s.intoCore tk 16 (m0.dst.toNat / 16) (m0.dst.toNat % 16) k0 true) ∧
    (s.isF = false → Acts (.messageIngress (.engine e) m0) s id)

/-! ### Media streams -/

/-- The stream opcodes, for handles to 4,095. OPEN, CHANGE, CLOSE and MOVE wait for their boundary. There OPEN makes the stream
that the descriptor describes, at the rate that fits, and begins its course's reads; it ends BUSY on a handle in use or in an
instance that resets, DENIED at a port that is no downstream port, and NO_RESOURCE without a slot, beyond the instance's limit
or where no rate fits. CHANGE takes a rate that is no higher, or what fits of a higher one, with the lead if one is given, and
ends NO_RESOURCE where nothing fits. CLOSE ends the stream at the chunk in progress, and is BUSY on one that closes. MOVE
toward another engine keeps its ticket for the hand-over and ends NO_RESOURCE where the engine has no slot or capacity; to its
own engine it completes at once; it is BUSY on a stream that moves or closes. RESUME clears what was denied, QUERY answers one of
six words, MSE_SETUP sets the two bases while no stream is open. A handle without a stream is DENIED
(R255, R262, R264, R274 to R277, R292). -/
def Obligations.StreamOpcodes : Prop :=
  ∀ (c : Cmd) (l : Launch) (d : Stream) (n r : Nat) (s : State), c.target ≤ 4095 → l.cmd.target ≤ 4095 →
    let h := l.cmd.target
    let e := l.cmd.byte 16
    let g := c.target
    let new := s.streamFrom l.data e n s.mse.opens
    let shape : Option Nat := if s.streamLegal l.data = true then none else some 24
    let free := (s.inst new.vfi).resetting = false ∧ s.stream h = none
    let want := min 65535 (l.cmd.le 16 4)
    let lead := if l.cmd.le 20 2 = 0 then d.lead else l.cmd.le 20 2
    let cut : Option Nat := if 65535 < l.cmd.le 16 4 then some 16 else none
    let rests := d.moveTo = none ∧ d.closeAt = none
    let bases := c.le 16 8 % 2 ^ 34 = 0 ∧ c.le 16 8 + 2 ^ 34 ≤ 2 ^ 56 ∧ c.le 24 8 < 2 ^ 56
    (Queues opStreamOpen c s → TakesPlace (.streamOpen c) opStreamOpen c s) ∧
    (Queues opStreamChange c s → TakesPlace (.streamChange c) opStreamChange c s) ∧
    (Queues opStreamClose c s → TakesPlace (.streamClose c) opStreamClose c s) ∧
    (Queues opStreamMove c s → TakesPlace (.streamMove c) opStreamMove c s) ∧
    (Due opStreamOpen l s → e ≤ 3 → free → (s.port new.port).cfg.role = 0 →
      s.freeSlot e = some n → s.streamsOf new.vfi < (s.inst new.vfi).streamsMax → s.fitRate h new new.rate = some r →
      Launches opStreamOpen l s
        (fun t => State.courseReads { t.setStream h (some { new with rate := r }) with
          mse := { (t.setStream h (some { new with rate := r })).mse with opens := s.mse.opens + 1 } } h) r
        (minClamp shape (if r = new.rate then none else some 24))) ∧
    (Due opStreamOpen l s → e ≤ 3 → s.stream h ≠ none ∨ (s.inst new.vfi).resetting = true →
      LaunchEnds opStreamOpen l s stBusy shape) ∧
    (Due opStreamOpen l s → e ≤ 3 → free → (s.port new.port).cfg.role ≠ 0 →
      LaunchEnds opStreamOpen l s stDenied shape) ∧
    (Due opStreamOpen l s → e ≤ 3 → free → (s.port new.port).cfg.role = 0 → s.freeSlot e = none →
      LaunchEnds opStreamOpen l s stNoResource shape) ∧
    (Due opStreamOpen l s → e ≤ 3 → free → (s.port new.port).cfg.role = 0 → s.freeSlot e = some n →
      (s.inst new.vfi).streamsMax ≤ s.streamsOf new.vfi ∨ s.fitRate h new new.rate = none →
      LaunchEnds opStreamOpen l s stNoResource shape) ∧
    (Due opStreamChange l s → s.stream h = none → LaunchEnds opStreamChange l s stDenied cut) ∧
    (Due opStreamChange l s → s.stream h = some d → want = 0 ∨ want ≤ d.rate → Launches opStreamChange l s
        (fun t => t.setStream h (some { d with rate := if want = 0 then d.rate else want, lead := lead }))
        (if want = 0 then d.rate else want) cut) ∧
    (Due opStreamChange l s → s.stream h = some d → d.rate < want → s.fitRate h d want = some r → Launches opStreamChange l s
        (fun t => t.setStream h (some { d with rate := max r d.rate, lead := lead })) (max r d.rate)
        (minClamp cut (if max r d.rate = want then none else some 16))) ∧
    (Due opStreamChange l s → s.stream h = some d → d.rate < want → s.fitRate h d want = none →
      LaunchEnds opStreamChange l s stNoResource cut) ∧
    (Due opStreamClose l s → e ≤ 2 → s.stream h = none → LaunchEnds opStreamClose l s stDenied) ∧
    (Due opStreamClose l s → e ≤ 2 → s.stream h = some d → d.closeAt = none → LaunchHolds opStreamClose l s fun tk t =>
      t.startClose h (if e = 0 then d.keepSilt else e == 1) (some tk) false) ∧
    (Due opStreamClose l s → e ≤ 2 → s.stream h = some d → d.closeAt ≠ none → LaunchEnds opStreamClose l s stBusy) ∧
    (Due opStreamMove l s → e ≤ 3 → s.stream h = none → LaunchEnds opStreamMove l s stDenied) ∧
    (Due opStreamMove l s → e ≤ 3 → s.stream h = some d → d.moveTo ≠ none ∨ d.closeAt ≠ none →
      LaunchEnds opStreamMove l s stBusy) ∧
    (Due opStreamMove l s → e ≤ 3 → s.stream h = some d → rests → d.engine = e → Launches opStreamMove l s id e) ∧
    (Due opStreamMove l s → e ≤ 3 → s.stream h = some d → rests → d.engine ≠ e →
      s.freeSlot e = some n → s.engineFits h e d.rate = true → LaunchHolds opStreamMove l s fun tk t =>
        t.setStream h (some { d with moveTo := some (e, n), pSwitch := d.chunkEnd d.pos, moveTicket := some tk
                                     state := if d.state = .running then .moving else d.state })) ∧
    (Due opStreamMove l s → e ≤ 3 → s.stream h = some d → rests → d.engine ≠ e →
      s.freeSlot e = none ∨ s.engineFits h e d.rate = false → LaunchEnds opStreamMove l s stNoResource) ∧
    (Instant opStreamResume c s → s.stream g = some d → Completes (.streamResume c) 0x64 c s
      (fun t => t.setStream g (some { d with
        deliveryDenied := false, siltDenied := false
        state := if d.state = .denied then (if d.moveTo.isSome then .moving else .running) else d.state }))
      (if d.state = .denied ∨ d.deliveryDenied = true ∨ d.siltDenied = true then 0 else 1)) ∧
    (Instant opStreamResume c s → s.stream g = none → EndsWith (.streamResume c) 0x64 c s stDenied) ∧
    (Instant opStreamQuery c s → s.stream g = none → c.byte 16 ≤ 5 → EndsWith (.streamQuery c) 0x65 c s stDenied) ∧
    (∀ v, Instant opStreamQuery c s → s.stream g = some d →
      [d.word g, d.pos % 2 ^ 32, d.ack % 2 ^ 32, min (2 ^ 32 - 1) (d.occupancy / 1024), min (2 ^ 32 - 1) d.lost,
       d.runway32][c.byte 16]? = some v → Completes (.streamQuery c) 0x65 c s id v) ∧
    (Instant opMseSetup c s → s.streamList = [] → bases → Completes (.mseSetup c) 0x66 c s
        (fun t => { t with mse := { t.mse with inletBase := c.le 16 8, localBase := c.le 24 8 } }) 0) ∧
    (Instant opMseSetup c s → s.streamList ≠ [] → bases → EndsWith (.mseSetup c) 0x66 c s stBusy)

/-- What comes back to a stream and what it sends; without a stream none of these does anything. A drive's STATUS that is
awaited, for a stream that is not closing, gives an outbound stream its consumption and the media rate, and a stream that
waits for its port the position to go on from; one that a hand-over left behind counts as late. A drive silent for 16 courses
is recorded once. CTRL gives the producer's or the consumer's position. Staged bytes of an outbound stream become ready, its
reads settle with the last of them, and poisoned ones are recorded. A TLP of unpoisoned bytes leaves only when its bytes are
ready, its time has come and the port is UP (R259, R261, R267). -/
def Sys2Proof.Claims.OutboundStreamEvents : Prop :=
  ∀ (h : Handle) (st : DriveStatus) (pos : BitVec 64) (n : Nat) (bad : Bool) (d : Stream) (s : State), s.held = none →
    let (p, k, at16) := s.nextTlp d
    let goes := d.inbound = false ∧ d.ended = false ∧ d.state ≠ .denied ∧ 0 < d.unsent ∧ k ≤ d.ready ∧ at16 ≤ s.clock ∧
      (s.port d.port).state = .up
    let waits := d.state = .waitPort
    (s.stream h = none → Acts (.driveStatusRead h st) s id ∧ Acts (.driveSilent h) s id ∧
      Acts (.stagingReadResponse h n bad) s id ∧ Acts (.streamTlpIssue h) s id) ∧
    (s.stream h = some d → d.ended = false → d.statusOpen = true → d.inbound = false → d.closeAt = none →
      Acts (.driveStatusRead h st) s fun s => s.setStream h (some { d with
        statusOpen := false, missed := 0, silent := false, mediaRate := st.mediaRate.toNat
        driveHalted := st.state.getLsbD 2, ack := st.consumed.toNat
        pos := if waits then st.consumed.toNat else d.pos, courseFrom := if waits then st.consumed.toNat else d.courseFrom
        state := if waits then .running else d.state })) ∧
    (s.stream h = some d → d.ended = false → d.statusOpen = true → d.inbound = true → d.closeAt = none →
      st.state.getLsbD 2 = false → Acts (.driveStatusRead h st) s fun s => s.setStream h (some { d with
        statusOpen := false, missed := 0, silent := false, mediaRate := st.mediaRate.toNat, driveHalted := false
        state := if waits then .running else d.state })) ∧
    (∀ e l, s.stream h = some d → d.ended = false → d.statusOpen = false → d.late = e :: l →
      Acts (.driveStatusRead h st) s fun s =>
        (s.setStream h (some { d with late := l })).modEngine e fun x => { x with lateCpl := satAdd 32 x.lateCpl 1 }) ∧
    (s.stream h = some d → d.missed < 16 ∨ d.silent = true → Acts (.driveSilent h) s id) ∧
    (s.stream h = some d → 16 ≤ d.missed → d.silent = false → d.ended = false → Acts (.driveSilent h) s fun s =>
      (s.setStream h (some { d with silent := true })).streamRecord h 0x33 s.now64 [(2, d.port), (8, d.ack)] 4) ∧
    (s.stream h = some d → d.ended = false → d.inbound = false → Acts (.ctrlRead h pos) s fun s =>
      s.setStream h (some { d with prod := pos.toNat })) ∧
    (s.stream h = some d → d.ended = false → d.inbound = true → Acts (.ctrlRead h pos) s fun s =>
      s.setStream h (some { d with cons := pos.toNat })) ∧
    (s.stream h = some d → d.inbound = true → Acts (.stagingReadResponse h n bad) s id) ∧
    (s.stream h = some d → d.inbound = false → d.ended = false → d.ready + n < d.unsent →
      Acts (.stagingReadResponse h n false) s (fun s =>
        s.setStream h (some ({ d with ready := d.ready + n }.enter s.t52 (d.pos - d.unsent + d.ready) n))) ∧
      Acts (.stagingReadResponse h n true) s fun s =>
        (s.setStream h (some ({ d with ready := d.ready + n, poisoned := d.poisoned ++ [(d.pos - d.unsent + d.ready, n)] }.enter
          s.t52 (d.pos - d.unsent + d.ready) n))).streamRecord h 0x34 s.now64
          [(8, d.pos - d.unsent + d.ready), (4, n), (1, 0)] 8) ∧
    (∀ e, s.stream h = some d → d.inbound = false → d.ended = false → d.unsent ≤ d.ready + n → d.readEpoch = some e →
      Acts (.stagingReadResponse h n false) s fun s =>
        (s.setStream h (some ({ d with ready := d.unsent, readEpoch := none }.enter s.t52 (d.pos - d.unsent + d.ready)
          (d.unsent - d.ready)))).settle (84 + d.engine) e) ∧
    (s.stream h = some d → ¬ goes → Acts (.streamTlpIssue h) s id) ∧
    (s.stream h = some d → goes → meets d.poisoned p k = false → d.closeAt = none →
      Acts (.streamTlpIssue h) s fun s =>
        let t := (s.setStream h (some { d with unsent := d.unsent - k, ready := d.ready - k }.leave)).cntEngine d.engine 0xC0 (some d.vfi) k
        (if (p + k) % d.chunk = 0 then t.cntEngine d.engine 0xC6 (some d.vfi) else t).emit (.streamTlp h p k false))

/-- Pacing keeps within a stream's credit, its staged bytes and the drive's room: what a course may send is covered by the
credit, passes neither the limit nor the drive's buffer, is a whole number of lines unless it reaches the limit, and
the credit carried never exceeds one course's bytes; a close and a move set a limit (R266). -/
def Obligations.PacingKeepsItsBounds : Prop :=
  ∀ (d : Stream) (l len : Nat),
    let (credit, n, why) := d.share l len
    credit ≤ 1000 * rateBytes d.rate l ∧ credit ≤ d.credit + d.rate * len ∧ 1000 * n ≤ credit ∧
    n ≤ d.limit - d.pos ∧ n ≤ 2 ^ d.dbufLog2 - (d.pos - d.ack) ∧ (n < d.limit - d.pos → n % 64 = 0) ∧
    (why = 1 → d.limit - d.pos < credit / 1000) ∧
    (∀ c, d.closeAt = some c → d.limit ≤ c) ∧ (d.moveTo.isSome = true → d.limit ≤ d.pSwitch)

/-- Inbound data and hand-overs; without a stream none of these does anything. A write out of its place, outside a resume, is
recorded and dropped; one in its place, on a stream that neither closes nor moves, moves the expected position and is disposed
of. A completed delivery moves the delivered position, with the producer's. The silt drains up to the end of a chunk, where
it holds bytes, nothing is denied, the destination takes them and both checks pass. A hand-over waits while an outbound stream
has bytes of the old engine to send, or an inbound one chunks to deliver, and completes the move for an outbound stream
without reads under way (R262, R269 to R273, R275). -/
def Sys2Proof.Claims.InboundStreamEvents : Prop :=
  ∀ (h : Handle) (off : BitVec 22) (n e sl : Nat) (bad noSlot : Bool) (d : Stream) (tk : Ticket) (s s1 s2 : State),
    s.held = none →
    let inPlace := d.pos % 2 ^ 22 = off.toNat
    let k := min d.occupancy (d.chunk - d.siltHead % d.chunk)
    (s.stream h = none → Acts (.inletWrite h off n bad noSlot) s id ∧ Acts (.deliveryWriteComplete h) s id ∧
      Acts (.siltDrain h bad) s id ∧ Acts (.streamHandover h) s id) ∧
    (s.stream h = some d → d.inbound = false → Acts (.inletWrite h off n bad noSlot) s id) ∧
    (s.stream h = some d → d.inbound = true → d.ended = false → ¬ inPlace → d.resumeWait = false →
      Acts (.inletWrite h off n bad noSlot) s fun s => s.streamRecord h 0x35 s.now64 [(8, d.pos), (4, off.toNat)] 16) ∧
    (s.stream h = some d → d.inbound = true → d.ended = false → inPlace → n ≠ 0 → d.closeAt = none → d.moveTo = none →
      Acts (.inletWrite h off n bad noSlot) s fun s =>
        ((((s.modS h fun d => { d with pos := d.pos + n, courseBytes := d.courseBytes + n, resumeWait := false }.enter s.t52
          d.pos n).cntEngine d.engine 0xC1 (some d.vfi) n).dispose h d.pos n bad noSlot).modS h Stream.leave).tryEnd h) ∧
    (s.stream h = some d → d.writes = [] → d.late = [] → Acts (.deliveryWriteComplete h) s id) ∧
    (∀ p rest, s.stream h = some d → d.writes = (p, n) :: rest → Acts (.deliveryWriteComplete h) s fun s =>
      (((((s.setStream h (some { d with writes := rest, ack := p + n })).cntEngine d.engine 0xCD (some d.vfi)).cntEngine d.engine
        0xC2 (some d.vfi) n).advanceProd h).modS h Stream.leave).tryEnd h) ∧
    (s.stream h = some d → d.occupancy = 0 → Acts (.siltDrain h bad) s id) ∧
    (s.stream h = some d → d.deliveryDenied = true ∨ d.siltDenied = true → Acts (.siltDrain h bad) s id) ∧
    (s.stream h = some d → s.targetOpen d = false ∨ d.destRoom d.siltHead k = false → Acts (.siltDrain h bad) s id) ∧
    (s.stream h = some d → 0 < k → d.deliveryDenied = false → d.siltDenied = false → d.ended = false → s.targetOpen d = true →
      d.destRoom d.siltHead k = true → s.ringCheck h d true 0 d.silt d.siltLog2 d.siltHead k = (s1, true) →
      s1.deliver h d.siltHead k false = (s2, true) → Acts (.siltDrain h false) s fun _ =>
        (((s2.modS h fun d => { d with siltHead := d.siltHead + k, inSilt := decide (d.siltHead + k < d.siltTail) }).ringLines
          d.engine d.silt d.siltLog2 d.siltHead k false false).cntEngine
          d.engine 0xC4 (some d.vfi) k |>.emit (.siltRead h d.siltHead k)).tryEnd h) ∧
    (s.stream h = some d → d.moveTo = none → Acts (.streamHandover h) s id) ∧
    (s.stream h = some d → d.pos < d.pSwitch → Acts (.streamHandover h) s id) ∧
    (s.stream h = some d → d.inbound = false → d.unsent ≠ 0 → Acts (.streamHandover h) s id) ∧
    (s.stream h = some d → d.inbound = true → (∃ w ∈ d.writes, w.1 < d.pSwitch) → Acts (.streamHandover h) s id) ∧
    (s.stream h = some d → d.moveTo = some (e, sl) → d.inbound = false → d.pSwitch ≤ d.pos → d.unsent = 0 → d.ended = false →
      d.readEpoch = none → d.statusOpen = false → d.early = [] → d.moveTicket = some tk → d.state = .moving →
      Acts (.streamHandover h) s fun s => ((s.setStream h (some { d with
        engine := e, slot := sl, moveTo := none, moveTicket := none, state := .running })).complete tk stOk e).modS h Stream.leave)

/-! ### Virtual instances -/

/-- The instance opcodes that wait for their boundary, for instances to 255 and fields in range. VFI_BIND gives a block that
nothing of its port holds to the instance, an upstream or trunk port whole, a downstream port or an LD of it as a vPPB of an
upstream port of the instance, at the number asked for or the lowest free; it refuses an LD of another port, ends NO_RESOURCE
on a number in use and DENIED without such an upstream port; it unbinds a port's only binding where the port is not UP, and
answers at once where there is none. VFI_WINDOW_SET puts a legal window, or clears it, where none of its extents is accepted,
offering dynamic capacity; it ends NO_RESOURCE on an overlap, DENIED on a target that is not the instance's and BUSY during a
release, and asks for accepted extents back before a window goes. Quotas, weights, overrides and counter windows take the
values given, an override past the sixteenth ends NO_RESOURCE (R285, R288 to R290, R293, R296, R301). -/
def Sys2Proof.Claims.VfiBoundaryOpcodes : Prop :=
  ∀ (c : Cmd) (l : Launch) (b : Binding) (s : State), l.cmd.target ≤ 255 →
    let v := l.cmd.target
    let p := l.cmd.le 16 2
    let ld := l.cmd.byte 18
    let whole := 17 * p + 16
    let key := if ld = 0xFF then whole else 17 * p + ld
    let block := ld = 0xFF ∨ ld ≤ 15
    let free := s.blockBindings p = []
    let bits := l.cmd.le 32 32
    let w := Win.of bits
    let i := l.cmd.byte 16
    let x := s.inst v
    let calm := ∀ r ∈ x.releasing, r.1 ≠ i
    let legal := w.valid = true ∧ s.winLegal bits = w
    let target := w.kind = 2 → s.winTarget v w = true
    let owner := l.cmd.le 20 2
    let asked := l.cmd.byte 22
    let used := s.vppbs owner key
    let mine := owner < 1024 ∧ asked < 64 ∧ (s.port owner).cfg.role = 1 ∧
      ∃ b, s.binding (17 * owner + 16) = some b ∧ b.vfi = v
    (Queues opVfiBind c s → TakesPlace (.vfiBind c) opVfiBind c s) ∧
    (Queues opVfiWindowSet c s → TakesPlace (.vfiWindowSet c) opVfiWindowSet c s) ∧
    (Queues opVfiQuotaSet c s → TakesPlace (.vfiQuotaSet c) opVfiQuotaSet c s) ∧
    (Queues opVfiWeightSet c s → TakesPlace (.vfiWeightSet c) opVfiWeightSet c s) ∧
    (Queues opVfiCntMap c s → TakesPlace (.vfiCntMap c) opVfiCntMap c s) ∧
    (Due opVfiBind l s → p ≤ 1023 → l.cmd.byte 19 = 1 → free →
      (ld = 0xFF → (s.port p).cfg.role ≠ 0 → Launches opVfiBind l s
        (fun t => t.bindNow whole { vfi := v, owner := p, vppb := 0, role := (s.port p).cfg.role }) (v + 2 ^ 8)) ∧
      (∀ n, block → (s.port p).cfg.role = 0 → mine →
        (asked ≠ 0 ∧ n = asked ∧ n ∉ used ∨
          asked = 0 ∧ ((List.range 63).map (· + 1)).find? (fun n => !used.contains n) = some n) →
        Launches opVfiBind l s (fun t => t.bindNow key { vfi := v, owner := owner, vppb := n, role := 0 }) (v + 2 ^ 8 + 2 ^ 9 * n)) ∧
      (block → (s.port p).cfg.role = 0 → mine → asked ≠ 0 → asked ∈ used → LaunchEnds opVfiBind l s stNoResource) ∧
      (block → (s.port p).cfg.role = 0 → ¬ mine → LaunchEnds opVfiBind l s stDenied)) ∧
    (Due opVfiBind l s → p ≤ 1023 → ld ≤ 15 → l.cmd.byte 19 = 1 → (s.port p).cfg.role ≠ 0 →
      LaunchEnds opVfiBind l s stDenied) ∧
    (Due opVfiBind l s → p ≤ 1023 → block → l.cmd.byte 19 = 0 → s.blockBindings p = [(key, b)] → s.binding key = some b →
      b.vfi = v → (s.port p).state ≠ .up → Launches opVfiBind l s (fun t => t.unbindNow key) v) ∧
    (Due opVfiBind l s → p ≤ 1023 → block → l.cmd.byte 19 = 0 → free → s.binding key = none → Launches opVfiBind l s id v) ∧
    (Due opVfiWindowSet l s → i ≤ 31 → calm →
      (legal → target → s.winOverlap v i w = false → (∀ a ∈ x.accepted, a.1 ≠ i) → Launches opVfiWindowSet l s
        (fun t => if w.dc = true then (t.putWindow v i w.image).offer v i true else t.putWindow v i w.image) i) ∧
      (legal → target → s.winOverlap v i w = true → LaunchEnds opVfiWindowSet l s stNoResource) ∧
      (legal → ¬ target → LaunchEnds opVfiWindowSet l s stDenied) ∧
      (w.valid = false → (∀ a ∈ x.accepted, a.1 ≠ i) → Launches opVfiWindowSet l s (fun t => t.putWindow v i 0) i) ∧
      (w.valid = false → (s.winNow v i).dc = true → (s.winNow v i).valid = true → (∃ a ∈ x.accepted, a.1 = i) →
        LaunchHolds opVfiWindowSet l s fun tk t => (t.offer v i false).modInst v fun x =>
          { x with releasing := x.releasing ++ [(i, t.clock + ms16 10000, tk)] })) ∧
    (Due opVfiWindowSet l s → i ≤ 31 → ¬ calm → LaunchEnds opVfiWindowSet l s stBusy) ∧
    (Due opVfiQuotaSet l s → l.cmd.le 18 2 ≤ 984 → l.cmd.le 24 2 ≤ 4096 → l.cmd.le 28 4 ≤ 262143 →
      Launches opVfiQuotaSet l s (fun t =>
        let t := t.modInst v fun x => { x with
          bufQuota := if bitOf i 0 then l.cmd.le 18 2 else x.bufQuota, dirQuota := if bitOf i 1 then l.cmd.le 20 4 else x.dirQuota
          streamsMax := if bitOf i 2 then l.cmd.le 24 2 else x.streamsMax, rateMax := if bitOf i 3 then l.cmd.le 28 4 else x.rateMax }
        t.swc.tiles.foldl (fun t y => t.noteQuota y.1 v) t) 0) ∧
    (Due opVfiWeightSet l s → p = 0xFFFF → 1 ≤ ld → Launches opVfiWeightSet l s
      (fun t => t.setInst v { x with weight := ld }) ld) ∧
    (Due opVfiWeightSet l s → p = 0xFFFF → ld = 0 → Launches opVfiWeightSet l s
      (fun t => t.setInst v { x with weight := 1 }) 1 (some 18)) ∧
    (Due opVfiWeightSet l s → p ≤ 1023 → 1 ≤ ld →
      ((∀ o ∈ x.overrides, o.1 ≠ p) → x.overrides.length < 16 → Launches opVfiWeightSet l s
        (fun t => t.setInst v { x with overrides := x.overrides ++ [(p, ld)] }) ld) ∧
      ((∀ o ∈ x.overrides, o.1 ≠ p) → 16 ≤ x.overrides.length → LaunchEnds opVfiWeightSet l s stNoResource) ∧
      ((∃ o ∈ x.overrides, o.1 = p) → Launches opVfiWeightSet l s
        (fun t => t.setInst v { x with overrides := x.overrides.map fun o => if o.1 = p then (p, ld) else o }) ld)) ∧
    (Due opVfiWeightSet l s → p ≤ 1023 → ld = 0 → Launches opVfiWeightSet l s
      (fun t => t.setInst v { x with overrides := x.overrides.filter (·.1 != p) }) x.weight) ∧
    (Due opVfiCntMap l s → i ≤ 31 → l.cmd.le 18 2 < pcnCount → Launches opVfiCntMap l s
      (fun t => t.modInst v fun x => { x with cntMap := tset none x.cntMap i (some (l.cmd.le 18 2)) }) (l.cmd.le 18 2)) ∧
    (Due opVfiCntMap l s → i ≤ 31 → l.cmd.le 18 2 = 0xFFFF → Launches opVfiCntMap l s
      (fun t => t.modInst v fun x => { x with cntMap := tset none x.cntMap i none }) 0xFFFF)

/-- The instance opcodes that act at once, for instances to 255. VFI_COLOUR_SET puts a mask without colour 0 into the staged
bank. VFI_RESET keeps its command, and is BUSY while the instance resets. VFI_MAIL_SEND, to one port or to all, stores the
message for the instance's hosts that it names and signals each, is fetched at once where there is none, and is BUSY while an
earlier one is pending. VFI_MAIL_READ hands over a full mailbox and empties it, and answers 0 for an empty one. VFI_MAIL_CFG
sets the vector and the enables. VFI_QUERY answers one of five words (R294, R297, R299, R302, R306). -/
def Sys2Proof.Claims.VfiInstantOpcodes : Prop :=
  ∀ (c : Cmd) (s : State), c.target ≤ 255 →
    let v := c.target
    let x := s.inst v
    let seq := (x.outSeq + 1) % 65536
    let p := c.le 24 2
    let body := s.mgrRead (c.le 16 8 + 16) (min 1008 (leNat (s.mgrRead (c.le 16 8) 2)))
    let who := (s.hostsOfVfi v).filter fun q => p == 0xFFFF || q == p
    let sent : VfiSt := { x with mailOut := mailBytes seq p s.now64 body, outSeq := seq, outPending := who != [], outWait := who }
    (Instant opVfiColourSet c s → Completes (.vfiColourSet c) 0x74 c s (fun t => t.stage fun b =>
      { b with colours := tset (BitVec.allOnes 256 <<< 1) b.colours v (BitVec.ofNat 256 (c.le 24 32 / 2 * 2)) }) 0) ∧
    (Instant opVfiReset c s → x.resetting = false → Holds (.vfiReset c) 0x78 c s fun tk t =>
      t.vfiReset v (bitOf (c.byte 16) 0) tk) ∧
    (Instant opVfiReset c s → x.resetting = true → EndsWith (.vfiReset c) 0x78 c s stBusy) ∧
    (Instant opVfiMailSend c s → p ≤ 1023 ∨ p = 0xFFFF → x.outPending = false →
      Completes (.vfiMailSend c) 0x76 c s (fun t =>
        let u := who.foldl (fun t q => t.emit (.mailIrq v q)) (t.setInst v sent)
        if who = [] then u.event 0x71 90 u.now64 [(1, v), (2, seq)] else u) seq) ∧
    (Instant opVfiMailSend c s → p ≤ 1023 ∨ p = 0xFFFF → x.outPending = true → EndsWith (.vfiMailSend c) 0x76 c s stBusy) ∧
    (Instant opVfiMailRead c s → x.inFull = false → Completes (.vfiMailRead c) 0x77 c s id 0) ∧
    (Instant opVfiMailRead c s → x.inFull = true → Completes (.vfiMailRead c) 0x77 c s
      (fun t => (t.mgrWrite (c.le 16 8) (fitTo 1024 x.mailIn)).setInst v { x with inFull := false }) (leNat (x.mailIn.take 2))) ∧
    (Instant opVfiMailCfg c s → Completes (.vfiMailCfg c) 0x7A c s (fun t => t.modInst v fun x =>
      { x with vec := c.byte 16, irqEn := bitOf (c.byte 17) 0, tenantEn := bitOf (c.byte 17) 1 }) 0) ∧
    (Instant opVfiQuery c s →
      let q := c.le 18 2
      (c.byte 16 = 0 → Completes (.vfiQuery c) 0x79 c s id (s.vfiStatus v)) ∧
      (c.byte 16 = 1 → q ≤ 1023 → s.binding (17 * q + 16) = none → Completes (.vfiQuery c) 0x79 c s id 0) ∧
      (∀ b, c.byte 16 = 1 → q ≤ 1023 → s.binding (17 * q + 16) = some b →
        Completes (.vfiQuery c) 0x79 c s id (b.vfi + 2 ^ 8 + 2 ^ 9 * b.vppb)) ∧
      (c.byte 16 = 2 → q ≤ 63 → Completes (.vfiQuery c) 0x79 c s id ((s.swcTile q).charged v)) ∧
      (c.byte 16 = 3 → Completes (.vfiQuery c) 0x79 c s id (min (2 ^ 32 - 1) (s.dirCharged v))) ∧
      (c.byte 16 = 4 → Completes (.vfiQuery c) 0x79 c s id (min (2 ^ 32 - 1) x.outstanding)))

/-- Dynamic capacity and the reset of an instance. An extent is accepted once, by a host of its instance that may be offered it,
while it is not asked back. A release leaves the others' acceptances, and with the last one the window goes and its command
ends OK; after its 10 s it ends TIMEOUT. VFI_FORCED_SETTLEMENT acts on a resetting instance once, from the completion timeout
on. At a boundary a reset whose earlier boundary found nothing open completes, and another latches whether anything is open
(R289, R304, R305). -/
def Sys2Proof.Claims.VfiEvents : Prop :=
  ∀ (v : Vfi) (i : Fin 32) (p : Port) (tk : Ticket) (due : Nat) (s : State), s.held = none →
    let x := s.inst v
    let w := s.winNow v i
    let ended (st : Nat) (r : Nat × Nat × Ticket) (s : State) : State :=
      ((s.putWindow v i 0).modInst v fun x => { x with releasing := x.releasing.erase r }).complete r.2.2 st (if st = stOk then i else 0)
    let offers := w.valid = true ∧ w.dc = true ∧ s.vcsOf p = some v.val ∧ s.offered w p = true ∧
      (∀ r ∈ x.releasing, r.1 ≠ i.val) ∧ (i.val, p.val) ∉ x.accepted
    (¬ offers → Acts (.dcExtentAccepted v i p) s id) ∧
    (offers → Acts (.dcExtentAccepted v i p) s fun s =>
      s.modInst v fun x => { x with accepted := x.accepted ++ [(i.val, p.val)] }) ∧
    ((∃ q, (i.val, q) ∈ x.accepted.erase (i.val, p.val)) → Acts (.dcExtentReleased v i p) s fun s =>
      s.modInst v fun x => { x with accepted := x.accepted.erase (i.val, p.val) }) ∧
    ((∀ q, (i.val, q) ∉ x.accepted.erase (i.val, p.val)) → x.releasing = [(i.val, due, tk)] →
      Acts (.dcExtentReleased v i p) s fun s =>
        ended stOk (i.val, due, tk) (s.modInst v fun x => { x with accepted := x.accepted.erase (i.val, p.val) })) ∧
    ((∀ r ∈ x.releasing, r.1 ≠ i.val) → Acts (.dcReleaseTimeout v i) s id) ∧
    (x.releasing = [(i.val, due, tk)] → s.clock < due → Acts (.dcReleaseTimeout v i) s id) ∧
    (x.releasing = [(i.val, due, tk)] → due ≤ s.clock → Acts (.dcReleaseTimeout v i) s (ended stTimeout (i.val, due, tk))) ∧
    (x.resetting = false ∨ x.forcedDone = true ∨ s.clock < x.resetAt + ms16 s.ctMs → Acts (.vfiForcedSettlement v) s id) ∧
    (x.resetting = true → x.forcedDone = false → x.resetAt + ms16 s.ctMs ≤ s.clock →
      Acts (.vfiForcedSettlement v) s fun s => s.forceVfi v) ∧
    (x.resetting = true → x.resetZero = true → x.resetTicket = some tk →
      s.vfiBoundary v = (s.setInst v { x with
        resetting := false, hot := false, resetTicket := none, outstanding := s.openWork v }).complete tk stOk x.resetForced) ∧
    (x.resetting = true → x.resetZero = false → ((s.vfiBoundary v).inst v).resetting = true ∧
      (((s.vfiBoundary v).inst v).resetZero = true ↔ s.openWork v = 0))

/-- A tenant's commands. They do nothing at a port that presents no virtual switch, answer UNSUPPORTED where the instance does not
serve tenants and BUSY while it resets. A message is taken into an empty mailbox, with its event and, if enabled, its
interrupt, and answered BUSY at a full one. A host that is waited for fetches the message sent, and the last to do so ends the
wait with an event; any other receives an empty message. A counter that the window maps and that counts for the instance is
read, live or as frozen; else value 0 comes with the flag of an empty window or of another's counter
(R298, R299, R301, R360). -/
def Sys2Proof.Claims.TenantCommands : Prop :=
  ∀ (p : Port) (body : List Byte) (k : Fin 32) (v : Nat) (s : State), s.held = none →
    let x := s.inst v
    let serves := s.vcsOf p = some v ∧ x.tenantEn = true ∧ x.resetting = false
    let seq := (x.inSeq + 1) % 65536
    let say (op : Nat) (r : CciRet) (b : List Byte) (s : State) : State := s.emit (.cciReply p op r b)
    (s.vcsOf p = none → Acts (.tenantMessageSend p body) s id ∧ Acts (.tenantMessageGet p) s id ∧
      Acts (.tenantCounterRead p k) s id) ∧
    (s.vcsOf p = some v → x.tenantEn = false → Acts (.tenantMessageSend p body) s (say 0xC100 .unsupported []) ∧
      Acts (.tenantMessageGet p) s (say 0xC101 .unsupported []) ∧ Acts (.tenantCounterRead p k) s (say 0xC102 .unsupported [])) ∧
    (s.vcsOf p = some v → x.tenantEn = true → x.resetting = true → Acts (.tenantMessageSend p body) s (say 0xC100 .busy []) ∧
      Acts (.tenantMessageGet p) s (say 0xC101 .busy []) ∧ Acts (.tenantCounterRead p k) s (say 0xC102 .busy [])) ∧
    (serves → x.inFull = true → Acts (.tenantMessageSend p body) s (say 0xC100 .busy [])) ∧
    (serves → x.inFull = false → Acts (.tenantMessageSend p body) s fun s =>
      let t := (s.setInst v { x with
        mailIn := mailBytes seq p s.now64 (body.take 1008), inFull := true, inSeq := seq }).event 0x70 90 s.now64 [(1, v), (2, seq)]
      say 0xC100 .success (leBytes 2 seq) (if x.irqEn = true then t.sendVector x.vec else t)) ∧
    (serves → x.outPending = false ∨ p.val ∉ x.outWait →
      Acts (.tenantMessageGet p) s (say 0xC101 .success (mailBytes 0 0 0 []))) ∧
    (serves → x.outPending = true → p.val ∈ x.outWait → Acts (.tenantMessageGet p) s fun s =>
      let w := x.outWait.erase p.val
      let t := s.setInst v { x with outWait := w, outPending := w != [] }
      say 0xC101 .success x.mailOut (if w = [] then t.event 0x71 90 t.now64 [(1, v), (2, x.outSeq)] else t)) ∧
    (serves → tget none x.cntMap k = none → Acts (.tenantCounterRead p k) s
      (say 0xC102 .success (leBytes 8 0 ++ leBytes 8 s.now64 ++ leBytes 1 1))) ∧
    (∀ j, serves → tget none x.cntMap k = some j →
      let mine := s.counterHere j = true ∧ (s.counter j).vfiEn = true ∧ (s.counter j).vfi = v
      (mine → s.pcn.frozen = false → Acts (.tenantCounterRead p k) s
        (say 0xC102 .success (leBytes 8 (s.counter j).value ++ leBytes 8 s.now64 ++ leBytes 1 0))) ∧
      (mine → s.pcn.frozen = true → Acts (.tenantCounterRead p k) s
        (say 0xC102 .success (leBytes 8 (s.counter j).image ++ leBytes 8 (t64Ns s.pcn.freezeFt) ++ leBytes 1 0))) ∧
      (¬ mine → Acts (.tenantCounterRead p k) s
        (say 0xC102 .success (leBytes 8 0 ++ leBytes 8 s.now64 ++ leBytes 1 2))))

/-! ### Invariants of every step -/

/-- No step loses a rise of the error summary: if the last value that the interrupt rule saw is the present one, it is so
after every step. -/
def Obligations.EveryStepKeepsSummarySeen : Prop :=
  ∀ s t : State, s.SummarySeen → step s = .next t → t.SummarySeen

/-- A module held in module reset stands at its reset values, and stays so until the hold ends (R404). -/
def Obligations.EveryStepKeepsHeldRests : Prop :=
  ∀ s t : State, s.HeldRests → step s = .next t → t.HeldRests

/-- After reset every unit is at rest with no readiness bit set, the invariants hold, the manager's memory and the LPDDR6
are in canonical form, nothing waits, and the module is no longer held. -/
def Obligations.ResetSatisfiesTheInvariants : Prop :=
  State.reset.AtRest ∧ State.reset.SummarySeen ∧ State.reset.HeldRests ∧ Memory.wf State.reset = true ∧
    State.reset.pending = [] ∧ State.reset.held = none ∧ State.reset.glb.ready = false

/-! ### Rules stated whole -/

/-- The launch queue (R43): a launch time more than 2^46 ns after A is clamped to A + 2^46, and the clamp is the ticket's, on
byte 8; a completion that carries a clamp counts one on its ring; a command that waits takes one of 4,096 places; one that
finds them taken completes NO_RESOURCE, and one for an absent unit UNIT_ABSENT, with no other effect. -/
def Obligations.LaunchQueueKeepsItsLimits : Prop :=
  ∀ (o : OpSpec) (c : Cmd) (l : Launch) (stamp a : Nat) (data : List Byte) (s : State),
    (a + 2 ^ 46 < c.launch → (o.entry c stamp a c.launch data).launch = a + 2 ^ 46 ∧
      (o.entry c stamp a c.launch data).clamped = true) ∧
    (c.launch ≤ a + 2 ^ 46 → (o.entry c stamp a c.launch data).launch = c.launch ∧
      (o.entry c stamp a c.launch data).clamped = false) ∧
    (o.launchTicket l s).clamp = (if l.clamped then some 8 else none) ∧
    (∀ (tk : Ticket) (p : Ring) (off st res : Nat), tk.src = .ring p → tk.clamp = some off →
      ((s.complete tk st res).pair p).clamps = satAdd 32 (s.pair p).clamps 1) ∧
    (Queues o c s → (o.taken c (s.accept c)).ftu = (s.accept c).ftu →
      ((o.submit c s).ftu.launches).length = s.ftu.launches.length + 1) ∧
    (Takes o c s → (o.aligned = true ∨ c.launch ≠ 0) → 4096 ≤ s.ftu.launches.length →
      o.submit c s = (s.accept c).complete (c.ticket o.code s.ft) stNoResource 0) ∧
    (o.absent c (s.accept c) = true → o.submit c s = (s.accept c).complete (c.ticket o.code s.ft) stAbsent 0 ∧
      (o.submit c s).ftu.launches = s.ftu.launches)

/-- Regions grant and never deny (R201): a byte is granted a permission exactly when at least one region that is VALID,
is for any instance or for the requester's, covers the byte and grants the permission has CLR = 0 or finds that
the byte passes the colour match; the order of the regions does not matter. -/
def Sys2Proof.Claims.RegionsGrantWithoutPriority : Prop :=
  ∀ (b : AcuBank) (e : ReqEntry) (p fma : Nat),
    let keys := (if p = 1 then e.rd else e.wr) &&& b.colourMask e.vfi
    let passes := b.colour fma ≠ 0 ∧ keys.getLsbD (b.colour fma) = true
    (servicePerm b e p fma = rPermitted ↔ ∃ x ∈ b.regions,
      let v := x.2.toNat
      bitOf v 0 = true ∧ (bitOf v 4 = true ∨ bitsOf v 15 8 = e.vfi) ∧ fma / 2 ^ rgLog2 v = rgBase v / 2 ^ rgLog2 v ∧
        bitOf v p = true ∧ (bitOf v 3 = false ∨ passes)) ∧
    (∀ b' : AcuBank, b'.regions.Perm b.regions → b'.windows = b.windows → b'.tags = b.tags → b'.colours = b.colours →
      servicePerm b' e p fma = servicePerm b e p fma)

/-- The slice of a line (R136): it is a function of FMA[55:6], the XOR of FMA[9:6] with the groups of four bits above,
those of odd number rotated right by one bit, and it takes every value 0 to 15 exactly once over the 16 lines of any
aligned 1 KiB block. -/
def Obligations.SliceFunctionSpreadsEveryBlock : Prop :=
  ∀ fma, fma < 2 ^ 56 →
    let group (k : Nat) : Nat := fma / 2 ^ (10 + 4 * k) % 16
    let turned (k : Nat) : Nat := if k % 2 = 1 then group k / 2 + 8 * (group k % 2) else group k
    sliceOf fma = (List.range 12).foldl (fun n k => n ^^^ turned k) (fma / 64 % 16) ∧
    sliceOf fma = sliceOf (fma / 64 * 64) ∧
    ∀ n, n < 16 → ∃ i, i < 16 ∧ sliceOf (fma / 1024 * 1024 + 64 * i) = n ∧
      ∀ j, j < 16 → sliceOf (fma / 1024 * 1024 + 64 * j) = n → j = i

/-- Local addresses (R229): the channel is LA[12:8] XORed with the groups of five bits above bit 13, the channel address
is LA above bit 13 over LA[7:0]; every aligned 8 KiB block places one granule of 256 bytes on each of the 32 channels,
and the lines of a granule share channel, bank and row. The bank is CA[14:11] XORed with CA[18:15]. -/
def Sys2Proof.Claims.LocalAddressesMapToChannels : Prop :=
  (∀ la, channelOf la = (la / 256 % 32) ^^^ fold5 (la / 8192) ∧ caOf la = la / 8192 * 256 + la % 256) ∧
  (fold5 0 = 0 ∧ ∀ x, x < 2 ^ 30 → fold5 x = (x % 32) ^^^ fold5 (x / 32)) ∧
  (∀ base c, c < 32 → ∃ i, i < 32 ∧ channelOf (8192 * base + 256 * i) = c ∧
    ∀ j, j < 32 → channelOf (8192 * base + 256 * j) = c → j = i) ∧
  (∀ g off, off < 256 → channelOf (256 * g + off) = channelOf (256 * g) ∧
    bankOf (caOf (256 * g + off)) = bankOf (caOf (256 * g)) ∧ rowOf (256 * g + off) = rowOf (256 * g)) ∧
  (∀ ca, bankOf ca = (ca / 2 ^ 11 % 16) ^^^ (ca / 2 ^ 15 % 16))

/-! ### The statements, each the conjunction of its claims -/

/-- Every command answers, keeps the part and the queue, and its frame adds only the summary interrupt; an idle step
adds one phase unit (log entry 5). -/
def Obligations.EffectsStayWithinTheFrame : Prop :=
  Sys2Proof.Claims.IdleStepAddsOnePhaseUnit ∧ Sys2Proof.Claims.CommandsKeepPartAndQueue ∧
    Sys2Proof.Claims.FrameAddsOnlyTheSummaryInterrupt

/-- A held module ignores one command of each of seven kinds, and its holds end as their causes demand. -/
def Obligations.HeldModuleWaits : Prop :=
  Sys2Proof.Claims.HeldModuleIgnoresCommands ∧ Sys2Proof.Claims.HoldsEndAsTheyMust

/-- A clamp counts once, on its ring or in CMD_REG_CLAMP; a command of an absent or unready unit has no effect but its
completion. -/
def Obligations.ClampIsCountedOnItsRing : Prop :=
  Sys2Proof.Claims.ClampIsCountedOnItsRing ∧ Sys2Proof.Claims.AbsentOrNotReadyHasNoEffect

/-- The entry of a launched action, and which of the due actions executes next. -/
def Obligations.LaunchedActionsFollowTheirOrder : Prop :=
  Sys2Proof.Claims.LaunchEntryFollowsTheLead ∧ Sys2Proof.Claims.DueActionsExecuteInOrder

/-- The fabric-time opcodes: those that wait for their boundary, and those that act at once. -/
def Obligations.TimeOpcodes : Prop :=
  Sys2Proof.Claims.AlignedTimeOpcodesWaitThenAct ∧ Sys2Proof.Claims.InstantTimeOpcodes

/-- Events of fabric time, and the passing of a course boundary. -/
def Obligations.FabricTimeAndBoundaries : Prop :=
  Sys2Proof.Claims.FabricTimeEvents ∧ Sys2Proof.Claims.CourseBoundaryPasses

/-- The rotating key gives every source a first turn in S slots, and the earliest descriptor is taken first. -/
def Obligations.TurnsAreTakenFairly : Prop :=
  Sys2Proof.Claims.RotatingKeyIsFair ∧ Sys2Proof.Claims.EarliestDescriptorIsTaken

/-- Staging writes go to the staged bank, a tag write ends with its last tag, and staging is BUSY during a commit. -/
def Obligations.StagingWrites : Prop :=
  Sys2Proof.Claims.StagingWritesGoToTheStagedBank ∧ Sys2Proof.Claims.TagWriteEndsWithItsLastTag ∧
    Sys2Proof.Claims.StagingIsBusyDuringACommit

/-- A commit makes the staged bank active, and completes after a zero sum at a later boundary. -/
def Obligations.CommitSwitchesAndDrains : Prop :=
  Sys2Proof.Claims.CommitMakesTheStagedBankActive ∧ Sys2Proof.Claims.CommitCompletesAfterAZeroSum

/-- Regions grant and never deny, whatever their order; how a colour match decides. -/
def Obligations.RegionsGrantWithoutPriority : Prop :=
  Sys2Proof.Claims.RegionsGrantWithoutPriority ∧ Sys2Proof.Claims.ColourMatchDecides

/-- The access queries, discard, tag fetches and forced settlement. -/
def Obligations.AccessQueriesAndEvents : Prop :=
  Sys2Proof.Claims.AccessQueriesAnswerTheDecision ∧ Sys2Proof.Claims.AccessEvents

/-- The port opcodes, for a port and fields in range. -/
def Obligations.PortOpcodes : Prop :=
  Sys2Proof.Claims.PortStateOpcodes ∧ Sys2Proof.Claims.PortSettingOpcodes

/-- Events of a port's block, link and traffic. -/
def Obligations.PortEvents : Prop :=
  Sys2Proof.Claims.BlockChangeDisturbsOnlyItsPort ∧ Sys2Proof.Claims.PortLinkEvents ∧
    Sys2Proof.Claims.TrainedLinkComesUp ∧ Sys2Proof.Claims.PortTrafficEvents

/-- The lane and shelf-link opcodes, for a port or cage and fields in range; lane banks and idle. -/
def Obligations.LaneAndShelfOpcodes : Prop :=
  Sys2Proof.Claims.LaneOpcodes ∧ Sys2Proof.Claims.ShelfOpcodes ∧ Sys2Proof.Claims.BankAndIdleEvents

/-- The shelf link's states, frames and messages. -/
def Obligations.LaneAndShelfEvents : Prop :=
  Sys2Proof.Claims.ShelfLinkStates ∧ Sys2Proof.Claims.ShelfFramesAct ∧ Sys2Proof.Claims.ShelfMessagesGoOut

/-- Doorbells, and the states of ring pairs and of device-written rings, on a module whose FMP answers. -/
def Obligations.RingRegisters : Prop :=
  Sys2Proof.Claims.DoorbellsMoveTheirIndex ∧ Sys2Proof.Claims.RingPairStates ∧ Sys2Proof.Claims.DeviceRingStates

/-- The fetch of descriptors, and what the pipeline takes in a cycle. -/
def Obligations.DescriptorsAreFetchedAndTaken : Prop :=
  Sys2Proof.Claims.DescriptorFetching ∧ Sys2Proof.Claims.PipelineTakesOneCommandPerCycle

/-- Vectors sent, waiting or pending; the loss and return of the FMP. -/
def Obligations.VectorsAndTheLossOfTheFmp : Prop :=
  Sys2Proof.Claims.VectorsAreSentWaitOrPend ∧ Sys2Proof.Claims.FmpLossSuspendsRings

/-- Module resets by the supply and by other causes: what they clear and what stays. -/
def Obligations.ResetsClearAllButWhatStays : Prop :=
  Sys2Proof.Claims.SupplyLossHoldsTheModule ∧ Sys2Proof.Claims.OtherResetsKeepLinkGenerations

/-- The start-up steps and their order, and what the boot ROM runs. -/
def Obligations.StartUpAndBoot : Prop :=
  Sys2Proof.Claims.StartUpStepsSetReadiness ∧ Sys2Proof.Claims.RomBootsAVerifiedSlot

/-- The firmware, identity and restart opcodes of the MSC. -/
def Obligations.FirmwareAndIdentity : Prop :=
  Sys2Proof.Claims.FirmwareUpdateOpcodes ∧ Sys2Proof.Claims.IdentityAndRestart

/-- Requests of the fabric manager, a switch's mailbox and SPDM, and requests during a restart. -/
def Obligations.ManagementMessagesAreAnswered : Prop :=
  Sys2Proof.Claims.FmRequestsAreAnswered ∧ Sys2Proof.Claims.RequestsWaitDuringARestart ∧
    Sys2Proof.Claims.MailboxAnswersItsSwitch ∧ Sys2Proof.Claims.SpdmRequestsAreAnswered

/-- A feed channel's five trips, and what a trip does to it. -/
def Obligations.FeedTrips : Prop :=
  Sys2Proof.Claims.FeedTripConditions ∧ Sys2Proof.Claims.TripCoolsDownOrLatches

/-- The events of the feed channels, of presence and of the early warning. -/
def Obligations.FeedEvents : Prop :=
  Sys2Proof.Claims.FeedChannelEvents ∧ Sys2Proof.Claims.PresenceAndEarlyWarning

/-- The counter and the recorder opcodes. -/
def Obligations.CounterAndRecorderOpcodes : Prop :=
  Sys2Proof.Claims.CounterOpcodes ∧ Sys2Proof.Claims.RecorderOpcodes

/-- Captures, the gathered image, and a counter's events. -/
def Obligations.FreezeAndCounting : Prop :=
  Sys2Proof.Claims.FreezeCapturesEveryCounter ∧ Sys2Proof.Claims.GatheringMakesTheImageValid ∧
    Sys2Proof.Claims.CountersCountTheirEvents

/-- The local address map and its inverse; the slices of a KiB; directory sets and buckets in range. -/
def Obligations.AddressMapsAreExact : Prop :=
  Sys2Proof.Claims.LocalAddressesMapToChannels ∧ Sys2Proof.Claims.AddressMapsAreExact

/-- A channel's slot, the order of its requests, and what a served request does. -/
def Obligations.ChannelsServeInOrder : Prop :=
  Sys2Proof.Claims.ChannelSlotsFollowTheShares ∧ Sys2Proof.Claims.RequestsOfALineKeepTheirOrder ∧
    Sys2Proof.Claims.ServedRequestsReachTheirLine

/-- Reads back, scrub, retraining, refresh, retirement, repair and the background pass. -/
def Obligations.MemoryEvents : Prop :=
  Sys2Proof.Claims.MemoryChannelEvents ∧ Sys2Proof.Claims.RetirementAndRepairEnd ∧
    Sys2Proof.Claims.BackgroundPassCountsErrors

/-- The opcodes of the Coherence Home and the directory. -/
def Obligations.HomeAndDirectoryOpcodes : Prop :=
  Sys2Proof.Claims.HomeOpcodes ∧ Sys2Proof.Claims.DirectoryOpcodes

/-- What a home slice does with a request or a writeback; a read of an untracked line. -/
def Obligations.HomeTakesRequests : Prop :=
  Sys2Proof.Claims.HomeTakesRequests ∧ Sys2Proof.Claims.UntrackedLinesAreRead

/-- Snoop responses and conflicts, backing answers, timeouts and queues of a home slice. -/
def Obligations.HomeTransactionsProgress : Prop :=
  Sys2Proof.Claims.SnoopResponsesAreTaken ∧ Sys2Proof.Claims.BackingAnswersArrive ∧ Sys2Proof.Claims.HomeTimeouts
    ∧ Sys2Proof.Claims.HomeQueuesAdvance

/-- Bucket reads, victims, trims and moves; the messages of the first-write procedure. -/
def Obligations.DirectoryAndZeroFillProceed : Prop :=
  Sys2Proof.Claims.DirectoryWorkProceeds ∧ Sys2Proof.Claims.ZeroFillMessages

/-- Slots of the cyclic pattern, and the arrival and loss of cells. -/
def Obligations.CellsCrossTheCore : Prop :=
  Sys2Proof.Claims.CoreSlots ∧ Sys2Proof.Claims.CellsArriveInOrder

/-- Head checks, the audit, egress, and learned port states. -/
def Obligations.QueuesAgeAndPortsSend : Prop :=
  Sys2Proof.Claims.HeadsAgeAndPlacesAreAudited ∧ Sys2Proof.Claims.EgressAndPortStates

/-- A stream's reads, sends, deliveries, silt and hand-over. -/
def Obligations.StreamEvents : Prop :=
  Sys2Proof.Claims.OutboundStreamEvents ∧ Sys2Proof.Claims.InboundStreamEvents

/-- The instance opcodes, for instances to 255 and fields in range. -/
def Obligations.VfiOpcodes : Prop :=
  Sys2Proof.Claims.VfiBoundaryOpcodes ∧ Sys2Proof.Claims.VfiInstantOpcodes

/-- Dynamic capacity, an instance's reset, and a tenant's commands. -/
def Obligations.VfiEvents : Prop :=
  Sys2Proof.Claims.VfiEvents ∧ Sys2Proof.Claims.TenantCommands
end

