-- ==== Sys2Proof/Laws/State.lean ====
section
/-!
SUPPORT. The fields of a state after each named write: one lemma per field and write, each true by
unfolding, so that no proof unfolds a record update.
-/

namespace Sys2Proof.Machine


/-! `setPort` writes in `prt` alone. -/
section
variable (s : State) (k : Nat) (v : PortSt)
@[simp] theorem State.setPort_variant : (s.setPort k v).variant = s.variant := rfl
@[simp] theorem State.setPort_held : (s.setPort k v).held = s.held := rfl
@[simp] theorem State.setPort_clock : (s.setPort k v).clock = s.clock := rfl
@[simp] theorem State.setPort_glb : (s.setPort k v).glb = s.glb := rfl
@[simp] theorem State.setPort_fmp : (s.setPort k v).fmp = s.fmp := rfl
@[simp] theorem State.setPort_cmd : (s.setPort k v).cmd = s.cmd := rfl
@[simp] theorem State.setPort_ftu : (s.setPort k v).ftu = s.ftu := rfl
@[simp] theorem State.setPort_lnk : (s.setPort k v).lnk = s.lnk := rfl
@[simp] theorem State.setPort_swc : (s.setPort k v).swc = s.swc := rfl
@[simp] theorem State.setPort_acu : (s.setPort k v).acu = s.acu := rfl
@[simp] theorem State.setPort_home : (s.setPort k v).home = s.home := rfl
@[simp] theorem State.setPort_mem : (s.setPort k v).mem = s.mem := rfl
@[simp] theorem State.setPort_mse : (s.setPort k v).mse = s.mse := rfl
@[simp] theorem State.setPort_vfi : (s.setPort k v).vfi = s.vfi := rfl
@[simp] theorem State.setPort_pcn : (s.setPort k v).pcn = s.pcn := rfl
@[simp] theorem State.setPort_evr : (s.setPort k v).evr = s.evr := rfl
@[simp] theorem State.setPort_ppu : (s.setPort k v).ppu = s.ppu := rfl
@[simp] theorem State.setPort_msc : (s.setPort k v).msc = s.msc := rfl
@[simp] theorem State.setPort_eeprom : (s.setPort k v).eeprom = s.eeprom := rfl
@[simp] theorem State.setPort_mgr : (s.setPort k v).mgr = s.mgr := rfl
@[simp] theorem State.setPort_out : (s.setPort k v).out = s.out := rfl
@[simp] theorem State.setPort_free : (s.setPort k v).free = s.free := rfl
@[simp] theorem State.setPort_pending : (s.setPort k v).pending = s.pending := rfl
end

/-! `modPort` writes in `prt` alone. -/
section
variable (s : State) (k : Nat) (f : PortSt → PortSt)
@[simp] theorem State.modPort_variant : (s.modPort k f).variant = s.variant := rfl
@[simp] theorem State.modPort_held : (s.modPort k f).held = s.held := rfl
@[simp] theorem State.modPort_clock : (s.modPort k f).clock = s.clock := rfl
@[simp] theorem State.modPort_glb : (s.modPort k f).glb = s.glb := rfl
@[simp] theorem State.modPort_fmp : (s.modPort k f).fmp = s.fmp := rfl
@[simp] theorem State.modPort_cmd : (s.modPort k f).cmd = s.cmd := rfl
@[simp] theorem State.modPort_ftu : (s.modPort k f).ftu = s.ftu := rfl
@[simp] theorem State.modPort_lnk : (s.modPort k f).lnk = s.lnk := rfl
@[simp] theorem State.modPort_swc : (s.modPort k f).swc = s.swc := rfl
@[simp] theorem State.modPort_acu : (s.modPort k f).acu = s.acu := rfl
@[simp] theorem State.modPort_home : (s.modPort k f).home = s.home := rfl
@[simp] theorem State.modPort_mem : (s.modPort k f).mem = s.mem := rfl
@[simp] theorem State.modPort_mse : (s.modPort k f).mse = s.mse := rfl
@[simp] theorem State.modPort_vfi : (s.modPort k f).vfi = s.vfi := rfl
@[simp] theorem State.modPort_pcn : (s.modPort k f).pcn = s.pcn := rfl
@[simp] theorem State.modPort_evr : (s.modPort k f).evr = s.evr := rfl
@[simp] theorem State.modPort_ppu : (s.modPort k f).ppu = s.ppu := rfl
@[simp] theorem State.modPort_msc : (s.modPort k f).msc = s.msc := rfl
@[simp] theorem State.modPort_eeprom : (s.modPort k f).eeprom = s.eeprom := rfl
@[simp] theorem State.modPort_mgr : (s.modPort k f).mgr = s.mgr := rfl
@[simp] theorem State.modPort_out : (s.modPort k f).out = s.out := rfl
@[simp] theorem State.modPort_free : (s.modPort k f).free = s.free := rfl
@[simp] theorem State.modPort_pending : (s.modPort k f).pending = s.pending := rfl
end

/-! `setTileLnk` writes in `lnk` alone. -/
section
variable (s : State) (k : Nat) (v : TileLnk)
@[simp] theorem State.setTileLnk_variant : (s.setTileLnk k v).variant = s.variant := rfl
@[simp] theorem State.setTileLnk_held : (s.setTileLnk k v).held = s.held := rfl
@[simp] theorem State.setTileLnk_clock : (s.setTileLnk k v).clock = s.clock := rfl
@[simp] theorem State.setTileLnk_glb : (s.setTileLnk k v).glb = s.glb := rfl
@[simp] theorem State.setTileLnk_fmp : (s.setTileLnk k v).fmp = s.fmp := rfl
@[simp] theorem State.setTileLnk_cmd : (s.setTileLnk k v).cmd = s.cmd := rfl
@[simp] theorem State.setTileLnk_ftu : (s.setTileLnk k v).ftu = s.ftu := rfl
@[simp] theorem State.setTileLnk_prt : (s.setTileLnk k v).prt = s.prt := rfl
@[simp] theorem State.setTileLnk_swc : (s.setTileLnk k v).swc = s.swc := rfl
@[simp] theorem State.setTileLnk_acu : (s.setTileLnk k v).acu = s.acu := rfl
@[simp] theorem State.setTileLnk_home : (s.setTileLnk k v).home = s.home := rfl
@[simp] theorem State.setTileLnk_mem : (s.setTileLnk k v).mem = s.mem := rfl
@[simp] theorem State.setTileLnk_mse : (s.setTileLnk k v).mse = s.mse := rfl
@[simp] theorem State.setTileLnk_vfi : (s.setTileLnk k v).vfi = s.vfi := rfl
@[simp] theorem State.setTileLnk_pcn : (s.setTileLnk k v).pcn = s.pcn := rfl
@[simp] theorem State.setTileLnk_evr : (s.setTileLnk k v).evr = s.evr := rfl
@[simp] theorem State.setTileLnk_ppu : (s.setTileLnk k v).ppu = s.ppu := rfl
@[simp] theorem State.setTileLnk_msc : (s.setTileLnk k v).msc = s.msc := rfl
@[simp] theorem State.setTileLnk_eeprom : (s.setTileLnk k v).eeprom = s.eeprom := rfl
@[simp] theorem State.setTileLnk_mgr : (s.setTileLnk k v).mgr = s.mgr := rfl
@[simp] theorem State.setTileLnk_out : (s.setTileLnk k v).out = s.out := rfl
@[simp] theorem State.setTileLnk_free : (s.setTileLnk k v).free = s.free := rfl
@[simp] theorem State.setTileLnk_pending : (s.setTileLnk k v).pending = s.pending := rfl
end

/-! `modTileLnk` writes in `lnk` alone. -/
section
variable (s : State) (k : Nat) (f : TileLnk → TileLnk)
@[simp] theorem State.modTileLnk_variant : (s.modTileLnk k f).variant = s.variant := rfl
@[simp] theorem State.modTileLnk_held : (s.modTileLnk k f).held = s.held := rfl
@[simp] theorem State.modTileLnk_clock : (s.modTileLnk k f).clock = s.clock := rfl
@[simp] theorem State.modTileLnk_glb : (s.modTileLnk k f).glb = s.glb := rfl
@[simp] theorem State.modTileLnk_fmp : (s.modTileLnk k f).fmp = s.fmp := rfl
@[simp] theorem State.modTileLnk_cmd : (s.modTileLnk k f).cmd = s.cmd := rfl
@[simp] theorem State.modTileLnk_ftu : (s.modTileLnk k f).ftu = s.ftu := rfl
@[simp] theorem State.modTileLnk_prt : (s.modTileLnk k f).prt = s.prt := rfl
@[simp] theorem State.modTileLnk_swc : (s.modTileLnk k f).swc = s.swc := rfl
@[simp] theorem State.modTileLnk_acu : (s.modTileLnk k f).acu = s.acu := rfl
@[simp] theorem State.modTileLnk_home : (s.modTileLnk k f).home = s.home := rfl
@[simp] theorem State.modTileLnk_mem : (s.modTileLnk k f).mem = s.mem := rfl
@[simp] theorem State.modTileLnk_mse : (s.modTileLnk k f).mse = s.mse := rfl
@[simp] theorem State.modTileLnk_vfi : (s.modTileLnk k f).vfi = s.vfi := rfl
@[simp] theorem State.modTileLnk_pcn : (s.modTileLnk k f).pcn = s.pcn := rfl
@[simp] theorem State.modTileLnk_evr : (s.modTileLnk k f).evr = s.evr := rfl
@[simp] theorem State.modTileLnk_ppu : (s.modTileLnk k f).ppu = s.ppu := rfl
@[simp] theorem State.modTileLnk_msc : (s.modTileLnk k f).msc = s.msc := rfl
@[simp] theorem State.modTileLnk_eeprom : (s.modTileLnk k f).eeprom = s.eeprom := rfl
@[simp] theorem State.modTileLnk_mgr : (s.modTileLnk k f).mgr = s.mgr := rfl
@[simp] theorem State.modTileLnk_out : (s.modTileLnk k f).out = s.out := rfl
@[simp] theorem State.modTileLnk_free : (s.modTileLnk k f).free = s.free := rfl
@[simp] theorem State.modTileLnk_pending : (s.modTileLnk k f).pending = s.pending := rfl
end

/-! `setLane` writes in `lnk` alone. -/
section
variable (s : State) (k : Nat) (v : LaneSt)
@[simp] theorem State.setLane_variant : (s.setLane k v).variant = s.variant := rfl
@[simp] theorem State.setLane_held : (s.setLane k v).held = s.held := rfl
@[simp] theorem State.setLane_clock : (s.setLane k v).clock = s.clock := rfl
@[simp] theorem State.setLane_glb : (s.setLane k v).glb = s.glb := rfl
@[simp] theorem State.setLane_fmp : (s.setLane k v).fmp = s.fmp := rfl
@[simp] theorem State.setLane_cmd : (s.setLane k v).cmd = s.cmd := rfl
@[simp] theorem State.setLane_ftu : (s.setLane k v).ftu = s.ftu := rfl
@[simp] theorem State.setLane_prt : (s.setLane k v).prt = s.prt := rfl
@[simp] theorem State.setLane_swc : (s.setLane k v).swc = s.swc := rfl
@[simp] theorem State.setLane_acu : (s.setLane k v).acu = s.acu := rfl
@[simp] theorem State.setLane_home : (s.setLane k v).home = s.home := rfl
@[simp] theorem State.setLane_mem : (s.setLane k v).mem = s.mem := rfl
@[simp] theorem State.setLane_mse : (s.setLane k v).mse = s.mse := rfl
@[simp] theorem State.setLane_vfi : (s.setLane k v).vfi = s.vfi := rfl
@[simp] theorem State.setLane_pcn : (s.setLane k v).pcn = s.pcn := rfl
@[simp] theorem State.setLane_evr : (s.setLane k v).evr = s.evr := rfl
@[simp] theorem State.setLane_ppu : (s.setLane k v).ppu = s.ppu := rfl
@[simp] theorem State.setLane_msc : (s.setLane k v).msc = s.msc := rfl
@[simp] theorem State.setLane_eeprom : (s.setLane k v).eeprom = s.eeprom := rfl
@[simp] theorem State.setLane_mgr : (s.setLane k v).mgr = s.mgr := rfl
@[simp] theorem State.setLane_out : (s.setLane k v).out = s.out := rfl
@[simp] theorem State.setLane_free : (s.setLane k v).free = s.free := rfl
@[simp] theorem State.setLane_pending : (s.setLane k v).pending = s.pending := rfl
end

/-! `modLane` writes in `lnk` alone. -/
section
variable (s : State) (k : Nat) (f : LaneSt → LaneSt)
@[simp] theorem State.modLane_variant : (s.modLane k f).variant = s.variant := rfl
@[simp] theorem State.modLane_held : (s.modLane k f).held = s.held := rfl
@[simp] theorem State.modLane_clock : (s.modLane k f).clock = s.clock := rfl
@[simp] theorem State.modLane_glb : (s.modLane k f).glb = s.glb := rfl
@[simp] theorem State.modLane_fmp : (s.modLane k f).fmp = s.fmp := rfl
@[simp] theorem State.modLane_cmd : (s.modLane k f).cmd = s.cmd := rfl
@[simp] theorem State.modLane_ftu : (s.modLane k f).ftu = s.ftu := rfl
@[simp] theorem State.modLane_prt : (s.modLane k f).prt = s.prt := rfl
@[simp] theorem State.modLane_swc : (s.modLane k f).swc = s.swc := rfl
@[simp] theorem State.modLane_acu : (s.modLane k f).acu = s.acu := rfl
@[simp] theorem State.modLane_home : (s.modLane k f).home = s.home := rfl
@[simp] theorem State.modLane_mem : (s.modLane k f).mem = s.mem := rfl
@[simp] theorem State.modLane_mse : (s.modLane k f).mse = s.mse := rfl
@[simp] theorem State.modLane_vfi : (s.modLane k f).vfi = s.vfi := rfl
@[simp] theorem State.modLane_pcn : (s.modLane k f).pcn = s.pcn := rfl
@[simp] theorem State.modLane_evr : (s.modLane k f).evr = s.evr := rfl
@[simp] theorem State.modLane_ppu : (s.modLane k f).ppu = s.ppu := rfl
@[simp] theorem State.modLane_msc : (s.modLane k f).msc = s.msc := rfl
@[simp] theorem State.modLane_eeprom : (s.modLane k f).eeprom = s.eeprom := rfl
@[simp] theorem State.modLane_mgr : (s.modLane k f).mgr = s.mgr := rfl
@[simp] theorem State.modLane_out : (s.modLane k f).out = s.out := rfl
@[simp] theorem State.modLane_free : (s.modLane k f).free = s.free := rfl
@[simp] theorem State.modLane_pending : (s.modLane k f).pending = s.pending := rfl
end

/-! `setLink` writes in `lnk` alone. -/
section
variable (s : State) (k : Nat) (v : ShelfLink)
@[simp] theorem State.setLink_variant : (s.setLink k v).variant = s.variant := rfl
@[simp] theorem State.setLink_held : (s.setLink k v).held = s.held := rfl
@[simp] theorem State.setLink_clock : (s.setLink k v).clock = s.clock := rfl
@[simp] theorem State.setLink_glb : (s.setLink k v).glb = s.glb := rfl
@[simp] theorem State.setLink_fmp : (s.setLink k v).fmp = s.fmp := rfl
@[simp] theorem State.setLink_cmd : (s.setLink k v).cmd = s.cmd := rfl
@[simp] theorem State.setLink_ftu : (s.setLink k v).ftu = s.ftu := rfl
@[simp] theorem State.setLink_prt : (s.setLink k v).prt = s.prt := rfl
@[simp] theorem State.setLink_swc : (s.setLink k v).swc = s.swc := rfl
@[simp] theorem State.setLink_acu : (s.setLink k v).acu = s.acu := rfl
@[simp] theorem State.setLink_home : (s.setLink k v).home = s.home := rfl
@[simp] theorem State.setLink_mem : (s.setLink k v).mem = s.mem := rfl
@[simp] theorem State.setLink_mse : (s.setLink k v).mse = s.mse := rfl
@[simp] theorem State.setLink_vfi : (s.setLink k v).vfi = s.vfi := rfl
@[simp] theorem State.setLink_pcn : (s.setLink k v).pcn = s.pcn := rfl
@[simp] theorem State.setLink_evr : (s.setLink k v).evr = s.evr := rfl
@[simp] theorem State.setLink_ppu : (s.setLink k v).ppu = s.ppu := rfl
@[simp] theorem State.setLink_msc : (s.setLink k v).msc = s.msc := rfl
@[simp] theorem State.setLink_eeprom : (s.setLink k v).eeprom = s.eeprom := rfl
@[simp] theorem State.setLink_mgr : (s.setLink k v).mgr = s.mgr := rfl
@[simp] theorem State.setLink_out : (s.setLink k v).out = s.out := rfl
@[simp] theorem State.setLink_free : (s.setLink k v).free = s.free := rfl
@[simp] theorem State.setLink_pending : (s.setLink k v).pending = s.pending := rfl
end

/-! `modLink` writes in `lnk` alone. -/
section
variable (s : State) (k : Nat) (f : ShelfLink → ShelfLink)
@[simp] theorem State.modLink_variant : (s.modLink k f).variant = s.variant := rfl
@[simp] theorem State.modLink_held : (s.modLink k f).held = s.held := rfl
@[simp] theorem State.modLink_clock : (s.modLink k f).clock = s.clock := rfl
@[simp] theorem State.modLink_glb : (s.modLink k f).glb = s.glb := rfl
@[simp] theorem State.modLink_fmp : (s.modLink k f).fmp = s.fmp := rfl
@[simp] theorem State.modLink_cmd : (s.modLink k f).cmd = s.cmd := rfl
@[simp] theorem State.modLink_ftu : (s.modLink k f).ftu = s.ftu := rfl
@[simp] theorem State.modLink_prt : (s.modLink k f).prt = s.prt := rfl
@[simp] theorem State.modLink_swc : (s.modLink k f).swc = s.swc := rfl
@[simp] theorem State.modLink_acu : (s.modLink k f).acu = s.acu := rfl
@[simp] theorem State.modLink_home : (s.modLink k f).home = s.home := rfl
@[simp] theorem State.modLink_mem : (s.modLink k f).mem = s.mem := rfl
@[simp] theorem State.modLink_mse : (s.modLink k f).mse = s.mse := rfl
@[simp] theorem State.modLink_vfi : (s.modLink k f).vfi = s.vfi := rfl
@[simp] theorem State.modLink_pcn : (s.modLink k f).pcn = s.pcn := rfl
@[simp] theorem State.modLink_evr : (s.modLink k f).evr = s.evr := rfl
@[simp] theorem State.modLink_ppu : (s.modLink k f).ppu = s.ppu := rfl
@[simp] theorem State.modLink_msc : (s.modLink k f).msc = s.msc := rfl
@[simp] theorem State.modLink_eeprom : (s.modLink k f).eeprom = s.eeprom := rfl
@[simp] theorem State.modLink_mgr : (s.modLink k f).mgr = s.mgr := rfl
@[simp] theorem State.modLink_out : (s.modLink k f).out = s.out := rfl
@[simp] theorem State.modLink_free : (s.modLink k f).free = s.free := rfl
@[simp] theorem State.modLink_pending : (s.modLink k f).pending = s.pending := rfl
end

/-! `setSwcTile` writes in `swc` alone. -/
section
variable (s : State) (k : Nat) (v : TileSwc)
@[simp] theorem State.setSwcTile_variant : (s.setSwcTile k v).variant = s.variant := rfl
@[simp] theorem State.setSwcTile_held : (s.setSwcTile k v).held = s.held := rfl
@[simp] theorem State.setSwcTile_clock : (s.setSwcTile k v).clock = s.clock := rfl
@[simp] theorem State.setSwcTile_glb : (s.setSwcTile k v).glb = s.glb := rfl
@[simp] theorem State.setSwcTile_fmp : (s.setSwcTile k v).fmp = s.fmp := rfl
@[simp] theorem State.setSwcTile_cmd : (s.setSwcTile k v).cmd = s.cmd := rfl
@[simp] theorem State.setSwcTile_ftu : (s.setSwcTile k v).ftu = s.ftu := rfl
@[simp] theorem State.setSwcTile_lnk : (s.setSwcTile k v).lnk = s.lnk := rfl
@[simp] theorem State.setSwcTile_prt : (s.setSwcTile k v).prt = s.prt := rfl
@[simp] theorem State.setSwcTile_acu : (s.setSwcTile k v).acu = s.acu := rfl
@[simp] theorem State.setSwcTile_home : (s.setSwcTile k v).home = s.home := rfl
@[simp] theorem State.setSwcTile_mem : (s.setSwcTile k v).mem = s.mem := rfl
@[simp] theorem State.setSwcTile_mse : (s.setSwcTile k v).mse = s.mse := rfl
@[simp] theorem State.setSwcTile_vfi : (s.setSwcTile k v).vfi = s.vfi := rfl
@[simp] theorem State.setSwcTile_pcn : (s.setSwcTile k v).pcn = s.pcn := rfl
@[simp] theorem State.setSwcTile_evr : (s.setSwcTile k v).evr = s.evr := rfl
@[simp] theorem State.setSwcTile_ppu : (s.setSwcTile k v).ppu = s.ppu := rfl
@[simp] theorem State.setSwcTile_msc : (s.setSwcTile k v).msc = s.msc := rfl
@[simp] theorem State.setSwcTile_eeprom : (s.setSwcTile k v).eeprom = s.eeprom := rfl
@[simp] theorem State.setSwcTile_mgr : (s.setSwcTile k v).mgr = s.mgr := rfl
@[simp] theorem State.setSwcTile_out : (s.setSwcTile k v).out = s.out := rfl
@[simp] theorem State.setSwcTile_free : (s.setSwcTile k v).free = s.free := rfl
@[simp] theorem State.setSwcTile_pending : (s.setSwcTile k v).pending = s.pending := rfl
end

/-! `modSwcTile` writes in `swc` alone. -/
section
variable (s : State) (k : Nat) (f : TileSwc → TileSwc)
@[simp] theorem State.modSwcTile_variant : (s.modSwcTile k f).variant = s.variant := rfl
@[simp] theorem State.modSwcTile_held : (s.modSwcTile k f).held = s.held := rfl
@[simp] theorem State.modSwcTile_clock : (s.modSwcTile k f).clock = s.clock := rfl
@[simp] theorem State.modSwcTile_glb : (s.modSwcTile k f).glb = s.glb := rfl
@[simp] theorem State.modSwcTile_fmp : (s.modSwcTile k f).fmp = s.fmp := rfl
@[simp] theorem State.modSwcTile_cmd : (s.modSwcTile k f).cmd = s.cmd := rfl
@[simp] theorem State.modSwcTile_ftu : (s.modSwcTile k f).ftu = s.ftu := rfl
@[simp] theorem State.modSwcTile_lnk : (s.modSwcTile k f).lnk = s.lnk := rfl
@[simp] theorem State.modSwcTile_prt : (s.modSwcTile k f).prt = s.prt := rfl
@[simp] theorem State.modSwcTile_acu : (s.modSwcTile k f).acu = s.acu := rfl
@[simp] theorem State.modSwcTile_home : (s.modSwcTile k f).home = s.home := rfl
@[simp] theorem State.modSwcTile_mem : (s.modSwcTile k f).mem = s.mem := rfl
@[simp] theorem State.modSwcTile_mse : (s.modSwcTile k f).mse = s.mse := rfl
@[simp] theorem State.modSwcTile_vfi : (s.modSwcTile k f).vfi = s.vfi := rfl
@[simp] theorem State.modSwcTile_pcn : (s.modSwcTile k f).pcn = s.pcn := rfl
@[simp] theorem State.modSwcTile_evr : (s.modSwcTile k f).evr = s.evr := rfl
@[simp] theorem State.modSwcTile_ppu : (s.modSwcTile k f).ppu = s.ppu := rfl
@[simp] theorem State.modSwcTile_msc : (s.modSwcTile k f).msc = s.msc := rfl
@[simp] theorem State.modSwcTile_eeprom : (s.modSwcTile k f).eeprom = s.eeprom := rfl
@[simp] theorem State.modSwcTile_mgr : (s.modSwcTile k f).mgr = s.mgr := rfl
@[simp] theorem State.modSwcTile_out : (s.modSwcTile k f).out = s.out := rfl
@[simp] theorem State.modSwcTile_free : (s.modSwcTile k f).free = s.free := rfl
@[simp] theorem State.modSwcTile_pending : (s.modSwcTile k f).pending = s.pending := rfl
end

/-! `setHost` writes in `home` alone. -/
section
variable (s : State) (k : Nat) (v : HostEntry)
@[simp] theorem State.setHost_variant : (s.setHost k v).variant = s.variant := rfl
@[simp] theorem State.setHost_held : (s.setHost k v).held = s.held := rfl
@[simp] theorem State.setHost_clock : (s.setHost k v).clock = s.clock := rfl
@[simp] theorem State.setHost_glb : (s.setHost k v).glb = s.glb := rfl
@[simp] theorem State.setHost_fmp : (s.setHost k v).fmp = s.fmp := rfl
@[simp] theorem State.setHost_cmd : (s.setHost k v).cmd = s.cmd := rfl
@[simp] theorem State.setHost_ftu : (s.setHost k v).ftu = s.ftu := rfl
@[simp] theorem State.setHost_lnk : (s.setHost k v).lnk = s.lnk := rfl
@[simp] theorem State.setHost_prt : (s.setHost k v).prt = s.prt := rfl
@[simp] theorem State.setHost_swc : (s.setHost k v).swc = s.swc := rfl
@[simp] theorem State.setHost_acu : (s.setHost k v).acu = s.acu := rfl
@[simp] theorem State.setHost_mem : (s.setHost k v).mem = s.mem := rfl
@[simp] theorem State.setHost_mse : (s.setHost k v).mse = s.mse := rfl
@[simp] theorem State.setHost_vfi : (s.setHost k v).vfi = s.vfi := rfl
@[simp] theorem State.setHost_pcn : (s.setHost k v).pcn = s.pcn := rfl
@[simp] theorem State.setHost_evr : (s.setHost k v).evr = s.evr := rfl
@[simp] theorem State.setHost_ppu : (s.setHost k v).ppu = s.ppu := rfl
@[simp] theorem State.setHost_msc : (s.setHost k v).msc = s.msc := rfl
@[simp] theorem State.setHost_eeprom : (s.setHost k v).eeprom = s.eeprom := rfl
@[simp] theorem State.setHost_mgr : (s.setHost k v).mgr = s.mgr := rfl
@[simp] theorem State.setHost_out : (s.setHost k v).out = s.out := rfl
@[simp] theorem State.setHost_free : (s.setHost k v).free = s.free := rfl
@[simp] theorem State.setHost_pending : (s.setHost k v).pending = s.pending := rfl
end

/-! `modHost` writes in `home` alone. -/
section
variable (s : State) (k : Nat) (f : HostEntry → HostEntry)
@[simp] theorem State.modHost_variant : (s.modHost k f).variant = s.variant := rfl
@[simp] theorem State.modHost_held : (s.modHost k f).held = s.held := rfl
@[simp] theorem State.modHost_clock : (s.modHost k f).clock = s.clock := rfl
@[simp] theorem State.modHost_glb : (s.modHost k f).glb = s.glb := rfl
@[simp] theorem State.modHost_fmp : (s.modHost k f).fmp = s.fmp := rfl
@[simp] theorem State.modHost_cmd : (s.modHost k f).cmd = s.cmd := rfl
@[simp] theorem State.modHost_ftu : (s.modHost k f).ftu = s.ftu := rfl
@[simp] theorem State.modHost_lnk : (s.modHost k f).lnk = s.lnk := rfl
@[simp] theorem State.modHost_prt : (s.modHost k f).prt = s.prt := rfl
@[simp] theorem State.modHost_swc : (s.modHost k f).swc = s.swc := rfl
@[simp] theorem State.modHost_acu : (s.modHost k f).acu = s.acu := rfl
@[simp] theorem State.modHost_mem : (s.modHost k f).mem = s.mem := rfl
@[simp] theorem State.modHost_mse : (s.modHost k f).mse = s.mse := rfl
@[simp] theorem State.modHost_vfi : (s.modHost k f).vfi = s.vfi := rfl
@[simp] theorem State.modHost_pcn : (s.modHost k f).pcn = s.pcn := rfl
@[simp] theorem State.modHost_evr : (s.modHost k f).evr = s.evr := rfl
@[simp] theorem State.modHost_ppu : (s.modHost k f).ppu = s.ppu := rfl
@[simp] theorem State.modHost_msc : (s.modHost k f).msc = s.msc := rfl
@[simp] theorem State.modHost_eeprom : (s.modHost k f).eeprom = s.eeprom := rfl
@[simp] theorem State.modHost_mgr : (s.modHost k f).mgr = s.mgr := rfl
@[simp] theorem State.modHost_out : (s.modHost k f).out = s.out := rfl
@[simp] theorem State.modHost_free : (s.modHost k f).free = s.free := rfl
@[simp] theorem State.modHost_pending : (s.modHost k f).pending = s.pending := rfl
end

/-! `setSlice` writes in `home` alone. -/
section
variable (s : State) (k : Nat) (v : SliceSt)
@[simp] theorem State.setSlice_variant : (s.setSlice k v).variant = s.variant := rfl
@[simp] theorem State.setSlice_held : (s.setSlice k v).held = s.held := rfl
@[simp] theorem State.setSlice_clock : (s.setSlice k v).clock = s.clock := rfl
@[simp] theorem State.setSlice_glb : (s.setSlice k v).glb = s.glb := rfl
@[simp] theorem State.setSlice_fmp : (s.setSlice k v).fmp = s.fmp := rfl
@[simp] theorem State.setSlice_cmd : (s.setSlice k v).cmd = s.cmd := rfl
@[simp] theorem State.setSlice_ftu : (s.setSlice k v).ftu = s.ftu := rfl
@[simp] theorem State.setSlice_lnk : (s.setSlice k v).lnk = s.lnk := rfl
@[simp] theorem State.setSlice_prt : (s.setSlice k v).prt = s.prt := rfl
@[simp] theorem State.setSlice_swc : (s.setSlice k v).swc = s.swc := rfl
@[simp] theorem State.setSlice_acu : (s.setSlice k v).acu = s.acu := rfl
@[simp] theorem State.setSlice_mem : (s.setSlice k v).mem = s.mem := rfl
@[simp] theorem State.setSlice_mse : (s.setSlice k v).mse = s.mse := rfl
@[simp] theorem State.setSlice_vfi : (s.setSlice k v).vfi = s.vfi := rfl
@[simp] theorem State.setSlice_pcn : (s.setSlice k v).pcn = s.pcn := rfl
@[simp] theorem State.setSlice_evr : (s.setSlice k v).evr = s.evr := rfl
@[simp] theorem State.setSlice_ppu : (s.setSlice k v).ppu = s.ppu := rfl
@[simp] theorem State.setSlice_msc : (s.setSlice k v).msc = s.msc := rfl
@[simp] theorem State.setSlice_eeprom : (s.setSlice k v).eeprom = s.eeprom := rfl
@[simp] theorem State.setSlice_mgr : (s.setSlice k v).mgr = s.mgr := rfl
@[simp] theorem State.setSlice_out : (s.setSlice k v).out = s.out := rfl
@[simp] theorem State.setSlice_free : (s.setSlice k v).free = s.free := rfl
@[simp] theorem State.setSlice_pending : (s.setSlice k v).pending = s.pending := rfl
end

/-! `modSlice` writes in `home` alone. -/
section
variable (s : State) (k : Nat) (f : SliceSt → SliceSt)
@[simp] theorem State.modSlice_variant : (s.modSlice k f).variant = s.variant := rfl
@[simp] theorem State.modSlice_held : (s.modSlice k f).held = s.held := rfl
@[simp] theorem State.modSlice_clock : (s.modSlice k f).clock = s.clock := rfl
@[simp] theorem State.modSlice_glb : (s.modSlice k f).glb = s.glb := rfl
@[simp] theorem State.modSlice_fmp : (s.modSlice k f).fmp = s.fmp := rfl
@[simp] theorem State.modSlice_cmd : (s.modSlice k f).cmd = s.cmd := rfl
@[simp] theorem State.modSlice_ftu : (s.modSlice k f).ftu = s.ftu := rfl
@[simp] theorem State.modSlice_lnk : (s.modSlice k f).lnk = s.lnk := rfl
@[simp] theorem State.modSlice_prt : (s.modSlice k f).prt = s.prt := rfl
@[simp] theorem State.modSlice_swc : (s.modSlice k f).swc = s.swc := rfl
@[simp] theorem State.modSlice_acu : (s.modSlice k f).acu = s.acu := rfl
@[simp] theorem State.modSlice_mem : (s.modSlice k f).mem = s.mem := rfl
@[simp] theorem State.modSlice_mse : (s.modSlice k f).mse = s.mse := rfl
@[simp] theorem State.modSlice_vfi : (s.modSlice k f).vfi = s.vfi := rfl
@[simp] theorem State.modSlice_pcn : (s.modSlice k f).pcn = s.pcn := rfl
@[simp] theorem State.modSlice_evr : (s.modSlice k f).evr = s.evr := rfl
@[simp] theorem State.modSlice_ppu : (s.modSlice k f).ppu = s.ppu := rfl
@[simp] theorem State.modSlice_msc : (s.modSlice k f).msc = s.msc := rfl
@[simp] theorem State.modSlice_eeprom : (s.modSlice k f).eeprom = s.eeprom := rfl
@[simp] theorem State.modSlice_mgr : (s.modSlice k f).mgr = s.mgr := rfl
@[simp] theorem State.modSlice_out : (s.modSlice k f).out = s.out := rfl
@[simp] theorem State.modSlice_free : (s.modSlice k f).free = s.free := rfl
@[simp] theorem State.modSlice_pending : (s.modSlice k f).pending = s.pending := rfl
end

/-! `setPlace` writes in `home` alone. -/
section
variable (s : State) (k : Nat) (v : Option Placement)
@[simp] theorem State.setPlace_variant : (s.setPlace k v).variant = s.variant := rfl
@[simp] theorem State.setPlace_held : (s.setPlace k v).held = s.held := rfl
@[simp] theorem State.setPlace_clock : (s.setPlace k v).clock = s.clock := rfl
@[simp] theorem State.setPlace_glb : (s.setPlace k v).glb = s.glb := rfl
@[simp] theorem State.setPlace_fmp : (s.setPlace k v).fmp = s.fmp := rfl
@[simp] theorem State.setPlace_cmd : (s.setPlace k v).cmd = s.cmd := rfl
@[simp] theorem State.setPlace_ftu : (s.setPlace k v).ftu = s.ftu := rfl
@[simp] theorem State.setPlace_lnk : (s.setPlace k v).lnk = s.lnk := rfl
@[simp] theorem State.setPlace_prt : (s.setPlace k v).prt = s.prt := rfl
@[simp] theorem State.setPlace_swc : (s.setPlace k v).swc = s.swc := rfl
@[simp] theorem State.setPlace_acu : (s.setPlace k v).acu = s.acu := rfl
@[simp] theorem State.setPlace_mem : (s.setPlace k v).mem = s.mem := rfl
@[simp] theorem State.setPlace_mse : (s.setPlace k v).mse = s.mse := rfl
@[simp] theorem State.setPlace_vfi : (s.setPlace k v).vfi = s.vfi := rfl
@[simp] theorem State.setPlace_pcn : (s.setPlace k v).pcn = s.pcn := rfl
@[simp] theorem State.setPlace_evr : (s.setPlace k v).evr = s.evr := rfl
@[simp] theorem State.setPlace_ppu : (s.setPlace k v).ppu = s.ppu := rfl
@[simp] theorem State.setPlace_msc : (s.setPlace k v).msc = s.msc := rfl
@[simp] theorem State.setPlace_eeprom : (s.setPlace k v).eeprom = s.eeprom := rfl
@[simp] theorem State.setPlace_mgr : (s.setPlace k v).mgr = s.mgr := rfl
@[simp] theorem State.setPlace_out : (s.setPlace k v).out = s.out := rfl
@[simp] theorem State.setPlace_free : (s.setPlace k v).free = s.free := rfl
@[simp] theorem State.setPlace_pending : (s.setPlace k v).pending = s.pending := rfl
end

/-! `modPlace` writes in `home` alone. -/
section
variable (s : State) (k : Nat) (f : Option Placement → Option Placement)
@[simp] theorem State.modPlace_variant : (s.modPlace k f).variant = s.variant := rfl
@[simp] theorem State.modPlace_held : (s.modPlace k f).held = s.held := rfl
@[simp] theorem State.modPlace_clock : (s.modPlace k f).clock = s.clock := rfl
@[simp] theorem State.modPlace_glb : (s.modPlace k f).glb = s.glb := rfl
@[simp] theorem State.modPlace_fmp : (s.modPlace k f).fmp = s.fmp := rfl
@[simp] theorem State.modPlace_cmd : (s.modPlace k f).cmd = s.cmd := rfl
@[simp] theorem State.modPlace_ftu : (s.modPlace k f).ftu = s.ftu := rfl
@[simp] theorem State.modPlace_lnk : (s.modPlace k f).lnk = s.lnk := rfl
@[simp] theorem State.modPlace_prt : (s.modPlace k f).prt = s.prt := rfl
@[simp] theorem State.modPlace_swc : (s.modPlace k f).swc = s.swc := rfl
@[simp] theorem State.modPlace_acu : (s.modPlace k f).acu = s.acu := rfl
@[simp] theorem State.modPlace_mem : (s.modPlace k f).mem = s.mem := rfl
@[simp] theorem State.modPlace_mse : (s.modPlace k f).mse = s.mse := rfl
@[simp] theorem State.modPlace_vfi : (s.modPlace k f).vfi = s.vfi := rfl
@[simp] theorem State.modPlace_pcn : (s.modPlace k f).pcn = s.pcn := rfl
@[simp] theorem State.modPlace_evr : (s.modPlace k f).evr = s.evr := rfl
@[simp] theorem State.modPlace_ppu : (s.modPlace k f).ppu = s.ppu := rfl
@[simp] theorem State.modPlace_msc : (s.modPlace k f).msc = s.msc := rfl
@[simp] theorem State.modPlace_eeprom : (s.modPlace k f).eeprom = s.eeprom := rfl
@[simp] theorem State.modPlace_mgr : (s.modPlace k f).mgr = s.mgr := rfl
@[simp] theorem State.modPlace_out : (s.modPlace k f).out = s.out := rfl
@[simp] theorem State.modPlace_free : (s.modPlace k f).free = s.free := rfl
@[simp] theorem State.modPlace_pending : (s.modPlace k f).pending = s.pending := rfl
end

/-! `setChan` writes in `mem` alone. -/
section
variable (s : State) (k : Nat) (v : ChanSt)
@[simp] theorem State.setChan_variant : (s.setChan k v).variant = s.variant := rfl
@[simp] theorem State.setChan_held : (s.setChan k v).held = s.held := rfl
@[simp] theorem State.setChan_clock : (s.setChan k v).clock = s.clock := rfl
@[simp] theorem State.setChan_glb : (s.setChan k v).glb = s.glb := rfl
@[simp] theorem State.setChan_fmp : (s.setChan k v).fmp = s.fmp := rfl
@[simp] theorem State.setChan_cmd : (s.setChan k v).cmd = s.cmd := rfl
@[simp] theorem State.setChan_ftu : (s.setChan k v).ftu = s.ftu := rfl
@[simp] theorem State.setChan_lnk : (s.setChan k v).lnk = s.lnk := rfl
@[simp] theorem State.setChan_prt : (s.setChan k v).prt = s.prt := rfl
@[simp] theorem State.setChan_swc : (s.setChan k v).swc = s.swc := rfl
@[simp] theorem State.setChan_acu : (s.setChan k v).acu = s.acu := rfl
@[simp] theorem State.setChan_home : (s.setChan k v).home = s.home := rfl
@[simp] theorem State.setChan_mse : (s.setChan k v).mse = s.mse := rfl
@[simp] theorem State.setChan_vfi : (s.setChan k v).vfi = s.vfi := rfl
@[simp] theorem State.setChan_pcn : (s.setChan k v).pcn = s.pcn := rfl
@[simp] theorem State.setChan_evr : (s.setChan k v).evr = s.evr := rfl
@[simp] theorem State.setChan_ppu : (s.setChan k v).ppu = s.ppu := rfl
@[simp] theorem State.setChan_msc : (s.setChan k v).msc = s.msc := rfl
@[simp] theorem State.setChan_eeprom : (s.setChan k v).eeprom = s.eeprom := rfl
@[simp] theorem State.setChan_mgr : (s.setChan k v).mgr = s.mgr := rfl
@[simp] theorem State.setChan_out : (s.setChan k v).out = s.out := rfl
@[simp] theorem State.setChan_free : (s.setChan k v).free = s.free := rfl
@[simp] theorem State.setChan_pending : (s.setChan k v).pending = s.pending := rfl
end

/-! `modChan` writes in `mem` alone. -/
section
variable (s : State) (k : Nat) (f : ChanSt → ChanSt)
@[simp] theorem State.modChan_variant : (s.modChan k f).variant = s.variant := rfl
@[simp] theorem State.modChan_held : (s.modChan k f).held = s.held := rfl
@[simp] theorem State.modChan_clock : (s.modChan k f).clock = s.clock := rfl
@[simp] theorem State.modChan_glb : (s.modChan k f).glb = s.glb := rfl
@[simp] theorem State.modChan_fmp : (s.modChan k f).fmp = s.fmp := rfl
@[simp] theorem State.modChan_cmd : (s.modChan k f).cmd = s.cmd := rfl
@[simp] theorem State.modChan_ftu : (s.modChan k f).ftu = s.ftu := rfl
@[simp] theorem State.modChan_lnk : (s.modChan k f).lnk = s.lnk := rfl
@[simp] theorem State.modChan_prt : (s.modChan k f).prt = s.prt := rfl
@[simp] theorem State.modChan_swc : (s.modChan k f).swc = s.swc := rfl
@[simp] theorem State.modChan_acu : (s.modChan k f).acu = s.acu := rfl
@[simp] theorem State.modChan_home : (s.modChan k f).home = s.home := rfl
@[simp] theorem State.modChan_mse : (s.modChan k f).mse = s.mse := rfl
@[simp] theorem State.modChan_vfi : (s.modChan k f).vfi = s.vfi := rfl
@[simp] theorem State.modChan_pcn : (s.modChan k f).pcn = s.pcn := rfl
@[simp] theorem State.modChan_evr : (s.modChan k f).evr = s.evr := rfl
@[simp] theorem State.modChan_ppu : (s.modChan k f).ppu = s.ppu := rfl
@[simp] theorem State.modChan_msc : (s.modChan k f).msc = s.msc := rfl
@[simp] theorem State.modChan_eeprom : (s.modChan k f).eeprom = s.eeprom := rfl
@[simp] theorem State.modChan_mgr : (s.modChan k f).mgr = s.mgr := rfl
@[simp] theorem State.modChan_out : (s.modChan k f).out = s.out := rfl
@[simp] theorem State.modChan_free : (s.modChan k f).free = s.free := rfl
@[simp] theorem State.modChan_pending : (s.modChan k f).pending = s.pending := rfl
end

/-! `setRetire` writes in `mem` alone. -/
section
variable (s : State) (k : Nat) (v : Retire)
@[simp] theorem State.setRetire_variant : (s.setRetire k v).variant = s.variant := rfl
@[simp] theorem State.setRetire_held : (s.setRetire k v).held = s.held := rfl
@[simp] theorem State.setRetire_clock : (s.setRetire k v).clock = s.clock := rfl
@[simp] theorem State.setRetire_glb : (s.setRetire k v).glb = s.glb := rfl
@[simp] theorem State.setRetire_fmp : (s.setRetire k v).fmp = s.fmp := rfl
@[simp] theorem State.setRetire_cmd : (s.setRetire k v).cmd = s.cmd := rfl
@[simp] theorem State.setRetire_ftu : (s.setRetire k v).ftu = s.ftu := rfl
@[simp] theorem State.setRetire_lnk : (s.setRetire k v).lnk = s.lnk := rfl
@[simp] theorem State.setRetire_prt : (s.setRetire k v).prt = s.prt := rfl
@[simp] theorem State.setRetire_swc : (s.setRetire k v).swc = s.swc := rfl
@[simp] theorem State.setRetire_acu : (s.setRetire k v).acu = s.acu := rfl
@[simp] theorem State.setRetire_home : (s.setRetire k v).home = s.home := rfl
@[simp] theorem State.setRetire_mse : (s.setRetire k v).mse = s.mse := rfl
@[simp] theorem State.setRetire_vfi : (s.setRetire k v).vfi = s.vfi := rfl
@[simp] theorem State.setRetire_pcn : (s.setRetire k v).pcn = s.pcn := rfl
@[simp] theorem State.setRetire_evr : (s.setRetire k v).evr = s.evr := rfl
@[simp] theorem State.setRetire_ppu : (s.setRetire k v).ppu = s.ppu := rfl
@[simp] theorem State.setRetire_msc : (s.setRetire k v).msc = s.msc := rfl
@[simp] theorem State.setRetire_eeprom : (s.setRetire k v).eeprom = s.eeprom := rfl
@[simp] theorem State.setRetire_mgr : (s.setRetire k v).mgr = s.mgr := rfl
@[simp] theorem State.setRetire_out : (s.setRetire k v).out = s.out := rfl
@[simp] theorem State.setRetire_free : (s.setRetire k v).free = s.free := rfl
@[simp] theorem State.setRetire_pending : (s.setRetire k v).pending = s.pending := rfl
end

/-! `modRetire` writes in `mem` alone. -/
section
variable (s : State) (k : Nat) (f : Retire → Retire)
@[simp] theorem State.modRetire_variant : (s.modRetire k f).variant = s.variant := rfl
@[simp] theorem State.modRetire_held : (s.modRetire k f).held = s.held := rfl
@[simp] theorem State.modRetire_clock : (s.modRetire k f).clock = s.clock := rfl
@[simp] theorem State.modRetire_glb : (s.modRetire k f).glb = s.glb := rfl
@[simp] theorem State.modRetire_fmp : (s.modRetire k f).fmp = s.fmp := rfl
@[simp] theorem State.modRetire_cmd : (s.modRetire k f).cmd = s.cmd := rfl
@[simp] theorem State.modRetire_ftu : (s.modRetire k f).ftu = s.ftu := rfl
@[simp] theorem State.modRetire_lnk : (s.modRetire k f).lnk = s.lnk := rfl
@[simp] theorem State.modRetire_prt : (s.modRetire k f).prt = s.prt := rfl
@[simp] theorem State.modRetire_swc : (s.modRetire k f).swc = s.swc := rfl
@[simp] theorem State.modRetire_acu : (s.modRetire k f).acu = s.acu := rfl
@[simp] theorem State.modRetire_home : (s.modRetire k f).home = s.home := rfl
@[simp] theorem State.modRetire_mse : (s.modRetire k f).mse = s.mse := rfl
@[simp] theorem State.modRetire_vfi : (s.modRetire k f).vfi = s.vfi := rfl
@[simp] theorem State.modRetire_pcn : (s.modRetire k f).pcn = s.pcn := rfl
@[simp] theorem State.modRetire_evr : (s.modRetire k f).evr = s.evr := rfl
@[simp] theorem State.modRetire_ppu : (s.modRetire k f).ppu = s.ppu := rfl
@[simp] theorem State.modRetire_msc : (s.modRetire k f).msc = s.msc := rfl
@[simp] theorem State.modRetire_eeprom : (s.modRetire k f).eeprom = s.eeprom := rfl
@[simp] theorem State.modRetire_mgr : (s.modRetire k f).mgr = s.mgr := rfl
@[simp] theorem State.modRetire_out : (s.modRetire k f).out = s.out := rfl
@[simp] theorem State.modRetire_free : (s.modRetire k f).free = s.free := rfl
@[simp] theorem State.modRetire_pending : (s.modRetire k f).pending = s.pending := rfl
end

/-! `setLine` writes in `mem` alone. -/
section
variable (s : State) (k : Nat) (v : Line)
@[simp] theorem State.setLine_variant : (s.setLine k v).variant = s.variant := rfl
@[simp] theorem State.setLine_held : (s.setLine k v).held = s.held := rfl
@[simp] theorem State.setLine_clock : (s.setLine k v).clock = s.clock := rfl
@[simp] theorem State.setLine_glb : (s.setLine k v).glb = s.glb := rfl
@[simp] theorem State.setLine_fmp : (s.setLine k v).fmp = s.fmp := rfl
@[simp] theorem State.setLine_cmd : (s.setLine k v).cmd = s.cmd := rfl
@[simp] theorem State.setLine_ftu : (s.setLine k v).ftu = s.ftu := rfl
@[simp] theorem State.setLine_lnk : (s.setLine k v).lnk = s.lnk := rfl
@[simp] theorem State.setLine_prt : (s.setLine k v).prt = s.prt := rfl
@[simp] theorem State.setLine_swc : (s.setLine k v).swc = s.swc := rfl
@[simp] theorem State.setLine_acu : (s.setLine k v).acu = s.acu := rfl
@[simp] theorem State.setLine_home : (s.setLine k v).home = s.home := rfl
@[simp] theorem State.setLine_mse : (s.setLine k v).mse = s.mse := rfl
@[simp] theorem State.setLine_vfi : (s.setLine k v).vfi = s.vfi := rfl
@[simp] theorem State.setLine_pcn : (s.setLine k v).pcn = s.pcn := rfl
@[simp] theorem State.setLine_evr : (s.setLine k v).evr = s.evr := rfl
@[simp] theorem State.setLine_ppu : (s.setLine k v).ppu = s.ppu := rfl
@[simp] theorem State.setLine_msc : (s.setLine k v).msc = s.msc := rfl
@[simp] theorem State.setLine_eeprom : (s.setLine k v).eeprom = s.eeprom := rfl
@[simp] theorem State.setLine_mgr : (s.setLine k v).mgr = s.mgr := rfl
@[simp] theorem State.setLine_out : (s.setLine k v).out = s.out := rfl
@[simp] theorem State.setLine_free : (s.setLine k v).free = s.free := rfl
@[simp] theorem State.setLine_pending : (s.setLine k v).pending = s.pending := rfl
end

/-! `setEngine` writes in `mse` alone. -/
section
variable (s : State) (k : Nat) (v : EngineSt)
@[simp] theorem State.setEngine_variant : (s.setEngine k v).variant = s.variant := rfl
@[simp] theorem State.setEngine_held : (s.setEngine k v).held = s.held := rfl
@[simp] theorem State.setEngine_clock : (s.setEngine k v).clock = s.clock := rfl
@[simp] theorem State.setEngine_glb : (s.setEngine k v).glb = s.glb := rfl
@[simp] theorem State.setEngine_fmp : (s.setEngine k v).fmp = s.fmp := rfl
@[simp] theorem State.setEngine_cmd : (s.setEngine k v).cmd = s.cmd := rfl
@[simp] theorem State.setEngine_ftu : (s.setEngine k v).ftu = s.ftu := rfl
@[simp] theorem State.setEngine_lnk : (s.setEngine k v).lnk = s.lnk := rfl
@[simp] theorem State.setEngine_prt : (s.setEngine k v).prt = s.prt := rfl
@[simp] theorem State.setEngine_swc : (s.setEngine k v).swc = s.swc := rfl
@[simp] theorem State.setEngine_acu : (s.setEngine k v).acu = s.acu := rfl
@[simp] theorem State.setEngine_home : (s.setEngine k v).home = s.home := rfl
@[simp] theorem State.setEngine_mem : (s.setEngine k v).mem = s.mem := rfl
@[simp] theorem State.setEngine_vfi : (s.setEngine k v).vfi = s.vfi := rfl
@[simp] theorem State.setEngine_pcn : (s.setEngine k v).pcn = s.pcn := rfl
@[simp] theorem State.setEngine_evr : (s.setEngine k v).evr = s.evr := rfl
@[simp] theorem State.setEngine_ppu : (s.setEngine k v).ppu = s.ppu := rfl
@[simp] theorem State.setEngine_msc : (s.setEngine k v).msc = s.msc := rfl
@[simp] theorem State.setEngine_eeprom : (s.setEngine k v).eeprom = s.eeprom := rfl
@[simp] theorem State.setEngine_mgr : (s.setEngine k v).mgr = s.mgr := rfl
@[simp] theorem State.setEngine_out : (s.setEngine k v).out = s.out := rfl
@[simp] theorem State.setEngine_free : (s.setEngine k v).free = s.free := rfl
@[simp] theorem State.setEngine_pending : (s.setEngine k v).pending = s.pending := rfl
end

/-! `modEngine` writes in `mse` alone. -/
section
variable (s : State) (k : Nat) (f : EngineSt → EngineSt)
@[simp] theorem State.modEngine_variant : (s.modEngine k f).variant = s.variant := rfl
@[simp] theorem State.modEngine_held : (s.modEngine k f).held = s.held := rfl
@[simp] theorem State.modEngine_clock : (s.modEngine k f).clock = s.clock := rfl
@[simp] theorem State.modEngine_glb : (s.modEngine k f).glb = s.glb := rfl
@[simp] theorem State.modEngine_fmp : (s.modEngine k f).fmp = s.fmp := rfl
@[simp] theorem State.modEngine_cmd : (s.modEngine k f).cmd = s.cmd := rfl
@[simp] theorem State.modEngine_ftu : (s.modEngine k f).ftu = s.ftu := rfl
@[simp] theorem State.modEngine_lnk : (s.modEngine k f).lnk = s.lnk := rfl
@[simp] theorem State.modEngine_prt : (s.modEngine k f).prt = s.prt := rfl
@[simp] theorem State.modEngine_swc : (s.modEngine k f).swc = s.swc := rfl
@[simp] theorem State.modEngine_acu : (s.modEngine k f).acu = s.acu := rfl
@[simp] theorem State.modEngine_home : (s.modEngine k f).home = s.home := rfl
@[simp] theorem State.modEngine_mem : (s.modEngine k f).mem = s.mem := rfl
@[simp] theorem State.modEngine_vfi : (s.modEngine k f).vfi = s.vfi := rfl
@[simp] theorem State.modEngine_pcn : (s.modEngine k f).pcn = s.pcn := rfl
@[simp] theorem State.modEngine_evr : (s.modEngine k f).evr = s.evr := rfl
@[simp] theorem State.modEngine_ppu : (s.modEngine k f).ppu = s.ppu := rfl
@[simp] theorem State.modEngine_msc : (s.modEngine k f).msc = s.msc := rfl
@[simp] theorem State.modEngine_eeprom : (s.modEngine k f).eeprom = s.eeprom := rfl
@[simp] theorem State.modEngine_mgr : (s.modEngine k f).mgr = s.mgr := rfl
@[simp] theorem State.modEngine_out : (s.modEngine k f).out = s.out := rfl
@[simp] theorem State.modEngine_free : (s.modEngine k f).free = s.free := rfl
@[simp] theorem State.modEngine_pending : (s.modEngine k f).pending = s.pending := rfl
end

/-! `setStream` writes in `mse` alone. -/
section
variable (s : State) (k : Nat) (v : Option Stream)
@[simp] theorem State.setStream_variant : (s.setStream k v).variant = s.variant := rfl
@[simp] theorem State.setStream_held : (s.setStream k v).held = s.held := rfl
@[simp] theorem State.setStream_clock : (s.setStream k v).clock = s.clock := rfl
@[simp] theorem State.setStream_glb : (s.setStream k v).glb = s.glb := rfl
@[simp] theorem State.setStream_fmp : (s.setStream k v).fmp = s.fmp := rfl
@[simp] theorem State.setStream_cmd : (s.setStream k v).cmd = s.cmd := rfl
@[simp] theorem State.setStream_ftu : (s.setStream k v).ftu = s.ftu := rfl
@[simp] theorem State.setStream_lnk : (s.setStream k v).lnk = s.lnk := rfl
@[simp] theorem State.setStream_prt : (s.setStream k v).prt = s.prt := rfl
@[simp] theorem State.setStream_swc : (s.setStream k v).swc = s.swc := rfl
@[simp] theorem State.setStream_acu : (s.setStream k v).acu = s.acu := rfl
@[simp] theorem State.setStream_home : (s.setStream k v).home = s.home := rfl
@[simp] theorem State.setStream_mem : (s.setStream k v).mem = s.mem := rfl
@[simp] theorem State.setStream_vfi : (s.setStream k v).vfi = s.vfi := rfl
@[simp] theorem State.setStream_pcn : (s.setStream k v).pcn = s.pcn := rfl
@[simp] theorem State.setStream_evr : (s.setStream k v).evr = s.evr := rfl
@[simp] theorem State.setStream_ppu : (s.setStream k v).ppu = s.ppu := rfl
@[simp] theorem State.setStream_msc : (s.setStream k v).msc = s.msc := rfl
@[simp] theorem State.setStream_eeprom : (s.setStream k v).eeprom = s.eeprom := rfl
@[simp] theorem State.setStream_mgr : (s.setStream k v).mgr = s.mgr := rfl
@[simp] theorem State.setStream_out : (s.setStream k v).out = s.out := rfl
@[simp] theorem State.setStream_free : (s.setStream k v).free = s.free := rfl
@[simp] theorem State.setStream_pending : (s.setStream k v).pending = s.pending := rfl
end

/-! `modStream` writes in `mse` alone. -/
section
variable (s : State) (k : Nat) (f : Option Stream → Option Stream)
@[simp] theorem State.modStream_variant : (s.modStream k f).variant = s.variant := rfl
@[simp] theorem State.modStream_held : (s.modStream k f).held = s.held := rfl
@[simp] theorem State.modStream_clock : (s.modStream k f).clock = s.clock := rfl
@[simp] theorem State.modStream_glb : (s.modStream k f).glb = s.glb := rfl
@[simp] theorem State.modStream_fmp : (s.modStream k f).fmp = s.fmp := rfl
@[simp] theorem State.modStream_cmd : (s.modStream k f).cmd = s.cmd := rfl
@[simp] theorem State.modStream_ftu : (s.modStream k f).ftu = s.ftu := rfl
@[simp] theorem State.modStream_lnk : (s.modStream k f).lnk = s.lnk := rfl
@[simp] theorem State.modStream_prt : (s.modStream k f).prt = s.prt := rfl
@[simp] theorem State.modStream_swc : (s.modStream k f).swc = s.swc := rfl
@[simp] theorem State.modStream_acu : (s.modStream k f).acu = s.acu := rfl
@[simp] theorem State.modStream_home : (s.modStream k f).home = s.home := rfl
@[simp] theorem State.modStream_mem : (s.modStream k f).mem = s.mem := rfl
@[simp] theorem State.modStream_vfi : (s.modStream k f).vfi = s.vfi := rfl
@[simp] theorem State.modStream_pcn : (s.modStream k f).pcn = s.pcn := rfl
@[simp] theorem State.modStream_evr : (s.modStream k f).evr = s.evr := rfl
@[simp] theorem State.modStream_ppu : (s.modStream k f).ppu = s.ppu := rfl
@[simp] theorem State.modStream_msc : (s.modStream k f).msc = s.msc := rfl
@[simp] theorem State.modStream_eeprom : (s.modStream k f).eeprom = s.eeprom := rfl
@[simp] theorem State.modStream_mgr : (s.modStream k f).mgr = s.mgr := rfl
@[simp] theorem State.modStream_out : (s.modStream k f).out = s.out := rfl
@[simp] theorem State.modStream_free : (s.modStream k f).free = s.free := rfl
@[simp] theorem State.modStream_pending : (s.modStream k f).pending = s.pending := rfl
end

/-! `setInst` writes in `vfi` alone. -/
section
variable (s : State) (k : Nat) (v : VfiSt)
@[simp] theorem State.setInst_variant : (s.setInst k v).variant = s.variant := rfl
@[simp] theorem State.setInst_held : (s.setInst k v).held = s.held := rfl
@[simp] theorem State.setInst_clock : (s.setInst k v).clock = s.clock := rfl
@[simp] theorem State.setInst_glb : (s.setInst k v).glb = s.glb := rfl
@[simp] theorem State.setInst_fmp : (s.setInst k v).fmp = s.fmp := rfl
@[simp] theorem State.setInst_cmd : (s.setInst k v).cmd = s.cmd := rfl
@[simp] theorem State.setInst_ftu : (s.setInst k v).ftu = s.ftu := rfl
@[simp] theorem State.setInst_lnk : (s.setInst k v).lnk = s.lnk := rfl
@[simp] theorem State.setInst_prt : (s.setInst k v).prt = s.prt := rfl
@[simp] theorem State.setInst_swc : (s.setInst k v).swc = s.swc := rfl
@[simp] theorem State.setInst_acu : (s.setInst k v).acu = s.acu := rfl
@[simp] theorem State.setInst_home : (s.setInst k v).home = s.home := rfl
@[simp] theorem State.setInst_mem : (s.setInst k v).mem = s.mem := rfl
@[simp] theorem State.setInst_mse : (s.setInst k v).mse = s.mse := rfl
@[simp] theorem State.setInst_pcn : (s.setInst k v).pcn = s.pcn := rfl
@[simp] theorem State.setInst_evr : (s.setInst k v).evr = s.evr := rfl
@[simp] theorem State.setInst_ppu : (s.setInst k v).ppu = s.ppu := rfl
@[simp] theorem State.setInst_msc : (s.setInst k v).msc = s.msc := rfl
@[simp] theorem State.setInst_eeprom : (s.setInst k v).eeprom = s.eeprom := rfl
@[simp] theorem State.setInst_mgr : (s.setInst k v).mgr = s.mgr := rfl
@[simp] theorem State.setInst_out : (s.setInst k v).out = s.out := rfl
@[simp] theorem State.setInst_free : (s.setInst k v).free = s.free := rfl
@[simp] theorem State.setInst_pending : (s.setInst k v).pending = s.pending := rfl
end

/-! `modInst` writes in `vfi` alone. -/
section
variable (s : State) (k : Nat) (f : VfiSt → VfiSt)
@[simp] theorem State.modInst_variant : (s.modInst k f).variant = s.variant := rfl
@[simp] theorem State.modInst_held : (s.modInst k f).held = s.held := rfl
@[simp] theorem State.modInst_clock : (s.modInst k f).clock = s.clock := rfl
@[simp] theorem State.modInst_glb : (s.modInst k f).glb = s.glb := rfl
@[simp] theorem State.modInst_fmp : (s.modInst k f).fmp = s.fmp := rfl
@[simp] theorem State.modInst_cmd : (s.modInst k f).cmd = s.cmd := rfl
@[simp] theorem State.modInst_ftu : (s.modInst k f).ftu = s.ftu := rfl
@[simp] theorem State.modInst_lnk : (s.modInst k f).lnk = s.lnk := rfl
@[simp] theorem State.modInst_prt : (s.modInst k f).prt = s.prt := rfl
@[simp] theorem State.modInst_swc : (s.modInst k f).swc = s.swc := rfl
@[simp] theorem State.modInst_acu : (s.modInst k f).acu = s.acu := rfl
@[simp] theorem State.modInst_home : (s.modInst k f).home = s.home := rfl
@[simp] theorem State.modInst_mem : (s.modInst k f).mem = s.mem := rfl
@[simp] theorem State.modInst_mse : (s.modInst k f).mse = s.mse := rfl
@[simp] theorem State.modInst_pcn : (s.modInst k f).pcn = s.pcn := rfl
@[simp] theorem State.modInst_evr : (s.modInst k f).evr = s.evr := rfl
@[simp] theorem State.modInst_ppu : (s.modInst k f).ppu = s.ppu := rfl
@[simp] theorem State.modInst_msc : (s.modInst k f).msc = s.msc := rfl
@[simp] theorem State.modInst_eeprom : (s.modInst k f).eeprom = s.eeprom := rfl
@[simp] theorem State.modInst_mgr : (s.modInst k f).mgr = s.mgr := rfl
@[simp] theorem State.modInst_out : (s.modInst k f).out = s.out := rfl
@[simp] theorem State.modInst_free : (s.modInst k f).free = s.free := rfl
@[simp] theorem State.modInst_pending : (s.modInst k f).pending = s.pending := rfl
end

/-! `setBinding` writes in `vfi` alone. -/
section
variable (s : State) (k : Nat) (v : Option Binding)
@[simp] theorem State.setBinding_variant : (s.setBinding k v).variant = s.variant := rfl
@[simp] theorem State.setBinding_held : (s.setBinding k v).held = s.held := rfl
@[simp] theorem State.setBinding_clock : (s.setBinding k v).clock = s.clock := rfl
@[simp] theorem State.setBinding_glb : (s.setBinding k v).glb = s.glb := rfl
@[simp] theorem State.setBinding_fmp : (s.setBinding k v).fmp = s.fmp := rfl
@[simp] theorem State.setBinding_cmd : (s.setBinding k v).cmd = s.cmd := rfl
@[simp] theorem State.setBinding_ftu : (s.setBinding k v).ftu = s.ftu := rfl
@[simp] theorem State.setBinding_lnk : (s.setBinding k v).lnk = s.lnk := rfl
@[simp] theorem State.setBinding_prt : (s.setBinding k v).prt = s.prt := rfl
@[simp] theorem State.setBinding_swc : (s.setBinding k v).swc = s.swc := rfl
@[simp] theorem State.setBinding_acu : (s.setBinding k v).acu = s.acu := rfl
@[simp] theorem State.setBinding_home : (s.setBinding k v).home = s.home := rfl
@[simp] theorem State.setBinding_mem : (s.setBinding k v).mem = s.mem := rfl
@[simp] theorem State.setBinding_mse : (s.setBinding k v).mse = s.mse := rfl
@[simp] theorem State.setBinding_pcn : (s.setBinding k v).pcn = s.pcn := rfl
@[simp] theorem State.setBinding_evr : (s.setBinding k v).evr = s.evr := rfl
@[simp] theorem State.setBinding_ppu : (s.setBinding k v).ppu = s.ppu := rfl
@[simp] theorem State.setBinding_msc : (s.setBinding k v).msc = s.msc := rfl
@[simp] theorem State.setBinding_eeprom : (s.setBinding k v).eeprom = s.eeprom := rfl
@[simp] theorem State.setBinding_mgr : (s.setBinding k v).mgr = s.mgr := rfl
@[simp] theorem State.setBinding_out : (s.setBinding k v).out = s.out := rfl
@[simp] theorem State.setBinding_free : (s.setBinding k v).free = s.free := rfl
@[simp] theorem State.setBinding_pending : (s.setBinding k v).pending = s.pending := rfl
end

/-! `modBinding` writes in `vfi` alone. -/
section
variable (s : State) (k : Nat) (f : Option Binding → Option Binding)
@[simp] theorem State.modBinding_variant : (s.modBinding k f).variant = s.variant := rfl
@[simp] theorem State.modBinding_held : (s.modBinding k f).held = s.held := rfl
@[simp] theorem State.modBinding_clock : (s.modBinding k f).clock = s.clock := rfl
@[simp] theorem State.modBinding_glb : (s.modBinding k f).glb = s.glb := rfl
@[simp] theorem State.modBinding_fmp : (s.modBinding k f).fmp = s.fmp := rfl
@[simp] theorem State.modBinding_cmd : (s.modBinding k f).cmd = s.cmd := rfl
@[simp] theorem State.modBinding_ftu : (s.modBinding k f).ftu = s.ftu := rfl
@[simp] theorem State.modBinding_lnk : (s.modBinding k f).lnk = s.lnk := rfl
@[simp] theorem State.modBinding_prt : (s.modBinding k f).prt = s.prt := rfl
@[simp] theorem State.modBinding_swc : (s.modBinding k f).swc = s.swc := rfl
@[simp] theorem State.modBinding_acu : (s.modBinding k f).acu = s.acu := rfl
@[simp] theorem State.modBinding_home : (s.modBinding k f).home = s.home := rfl
@[simp] theorem State.modBinding_mem : (s.modBinding k f).mem = s.mem := rfl
@[simp] theorem State.modBinding_mse : (s.modBinding k f).mse = s.mse := rfl
@[simp] theorem State.modBinding_pcn : (s.modBinding k f).pcn = s.pcn := rfl
@[simp] theorem State.modBinding_evr : (s.modBinding k f).evr = s.evr := rfl
@[simp] theorem State.modBinding_ppu : (s.modBinding k f).ppu = s.ppu := rfl
@[simp] theorem State.modBinding_msc : (s.modBinding k f).msc = s.msc := rfl
@[simp] theorem State.modBinding_eeprom : (s.modBinding k f).eeprom = s.eeprom := rfl
@[simp] theorem State.modBinding_mgr : (s.modBinding k f).mgr = s.mgr := rfl
@[simp] theorem State.modBinding_out : (s.modBinding k f).out = s.out := rfl
@[simp] theorem State.modBinding_free : (s.modBinding k f).free = s.free := rfl
@[simp] theorem State.modBinding_pending : (s.modBinding k f).pending = s.pending := rfl
end

/-! `setCounter` writes in `pcn` alone. -/
section
variable (s : State) (k : Nat) (v : Counter)
@[simp] theorem State.setCounter_variant : (s.setCounter k v).variant = s.variant := rfl
@[simp] theorem State.setCounter_held : (s.setCounter k v).held = s.held := rfl
@[simp] theorem State.setCounter_clock : (s.setCounter k v).clock = s.clock := rfl
@[simp] theorem State.setCounter_glb : (s.setCounter k v).glb = s.glb := rfl
@[simp] theorem State.setCounter_fmp : (s.setCounter k v).fmp = s.fmp := rfl
@[simp] theorem State.setCounter_cmd : (s.setCounter k v).cmd = s.cmd := rfl
@[simp] theorem State.setCounter_ftu : (s.setCounter k v).ftu = s.ftu := rfl
@[simp] theorem State.setCounter_lnk : (s.setCounter k v).lnk = s.lnk := rfl
@[simp] theorem State.setCounter_prt : (s.setCounter k v).prt = s.prt := rfl
@[simp] theorem State.setCounter_swc : (s.setCounter k v).swc = s.swc := rfl
@[simp] theorem State.setCounter_acu : (s.setCounter k v).acu = s.acu := rfl
@[simp] theorem State.setCounter_home : (s.setCounter k v).home = s.home := rfl
@[simp] theorem State.setCounter_mem : (s.setCounter k v).mem = s.mem := rfl
@[simp] theorem State.setCounter_mse : (s.setCounter k v).mse = s.mse := rfl
@[simp] theorem State.setCounter_vfi : (s.setCounter k v).vfi = s.vfi := rfl
@[simp] theorem State.setCounter_evr : (s.setCounter k v).evr = s.evr := rfl
@[simp] theorem State.setCounter_ppu : (s.setCounter k v).ppu = s.ppu := rfl
@[simp] theorem State.setCounter_msc : (s.setCounter k v).msc = s.msc := rfl
@[simp] theorem State.setCounter_eeprom : (s.setCounter k v).eeprom = s.eeprom := rfl
@[simp] theorem State.setCounter_mgr : (s.setCounter k v).mgr = s.mgr := rfl
@[simp] theorem State.setCounter_out : (s.setCounter k v).out = s.out := rfl
@[simp] theorem State.setCounter_free : (s.setCounter k v).free = s.free := rfl
@[simp] theorem State.setCounter_pending : (s.setCounter k v).pending = s.pending := rfl
end

/-! `modCounter` writes in `pcn` alone. -/
section
variable (s : State) (k : Nat) (f : Counter → Counter)
@[simp] theorem State.modCounter_variant : (s.modCounter k f).variant = s.variant := rfl
@[simp] theorem State.modCounter_held : (s.modCounter k f).held = s.held := rfl
@[simp] theorem State.modCounter_clock : (s.modCounter k f).clock = s.clock := rfl
@[simp] theorem State.modCounter_glb : (s.modCounter k f).glb = s.glb := rfl
@[simp] theorem State.modCounter_fmp : (s.modCounter k f).fmp = s.fmp := rfl
@[simp] theorem State.modCounter_cmd : (s.modCounter k f).cmd = s.cmd := rfl
@[simp] theorem State.modCounter_ftu : (s.modCounter k f).ftu = s.ftu := rfl
@[simp] theorem State.modCounter_lnk : (s.modCounter k f).lnk = s.lnk := rfl
@[simp] theorem State.modCounter_prt : (s.modCounter k f).prt = s.prt := rfl
@[simp] theorem State.modCounter_swc : (s.modCounter k f).swc = s.swc := rfl
@[simp] theorem State.modCounter_acu : (s.modCounter k f).acu = s.acu := rfl
@[simp] theorem State.modCounter_home : (s.modCounter k f).home = s.home := rfl
@[simp] theorem State.modCounter_mem : (s.modCounter k f).mem = s.mem := rfl
@[simp] theorem State.modCounter_mse : (s.modCounter k f).mse = s.mse := rfl
@[simp] theorem State.modCounter_vfi : (s.modCounter k f).vfi = s.vfi := rfl
@[simp] theorem State.modCounter_evr : (s.modCounter k f).evr = s.evr := rfl
@[simp] theorem State.modCounter_ppu : (s.modCounter k f).ppu = s.ppu := rfl
@[simp] theorem State.modCounter_msc : (s.modCounter k f).msc = s.msc := rfl
@[simp] theorem State.modCounter_eeprom : (s.modCounter k f).eeprom = s.eeprom := rfl
@[simp] theorem State.modCounter_mgr : (s.modCounter k f).mgr = s.mgr := rfl
@[simp] theorem State.modCounter_out : (s.modCounter k f).out = s.out := rfl
@[simp] theorem State.modCounter_free : (s.modCounter k f).free = s.free := rfl
@[simp] theorem State.modCounter_pending : (s.modCounter k f).pending = s.pending := rfl
end

/-! `setFeed` writes in `ppu` alone. -/
section
variable (s : State) (k : Nat) (v : Feed)
@[simp] theorem State.setFeed_variant : (s.setFeed k v).variant = s.variant := rfl
@[simp] theorem State.setFeed_held : (s.setFeed k v).held = s.held := rfl
@[simp] theorem State.setFeed_clock : (s.setFeed k v).clock = s.clock := rfl
@[simp] theorem State.setFeed_glb : (s.setFeed k v).glb = s.glb := rfl
@[simp] theorem State.setFeed_fmp : (s.setFeed k v).fmp = s.fmp := rfl
@[simp] theorem State.setFeed_cmd : (s.setFeed k v).cmd = s.cmd := rfl
@[simp] theorem State.setFeed_ftu : (s.setFeed k v).ftu = s.ftu := rfl
@[simp] theorem State.setFeed_lnk : (s.setFeed k v).lnk = s.lnk := rfl
@[simp] theorem State.setFeed_prt : (s.setFeed k v).prt = s.prt := rfl
@[simp] theorem State.setFeed_swc : (s.setFeed k v).swc = s.swc := rfl
@[simp] theorem State.setFeed_acu : (s.setFeed k v).acu = s.acu := rfl
@[simp] theorem State.setFeed_home : (s.setFeed k v).home = s.home := rfl
@[simp] theorem State.setFeed_mem : (s.setFeed k v).mem = s.mem := rfl
@[simp] theorem State.setFeed_mse : (s.setFeed k v).mse = s.mse := rfl
@[simp] theorem State.setFeed_vfi : (s.setFeed k v).vfi = s.vfi := rfl
@[simp] theorem State.setFeed_pcn : (s.setFeed k v).pcn = s.pcn := rfl
@[simp] theorem State.setFeed_evr : (s.setFeed k v).evr = s.evr := rfl
@[simp] theorem State.setFeed_msc : (s.setFeed k v).msc = s.msc := rfl
@[simp] theorem State.setFeed_eeprom : (s.setFeed k v).eeprom = s.eeprom := rfl
@[simp] theorem State.setFeed_mgr : (s.setFeed k v).mgr = s.mgr := rfl
@[simp] theorem State.setFeed_out : (s.setFeed k v).out = s.out := rfl
@[simp] theorem State.setFeed_free : (s.setFeed k v).free = s.free := rfl
@[simp] theorem State.setFeed_pending : (s.setFeed k v).pending = s.pending := rfl
end

/-! `modFeed` writes in `ppu` alone. -/
section
variable (s : State) (k : Nat) (f : Feed → Feed)
@[simp] theorem State.modFeed_variant : (s.modFeed k f).variant = s.variant := rfl
@[simp] theorem State.modFeed_held : (s.modFeed k f).held = s.held := rfl
@[simp] theorem State.modFeed_clock : (s.modFeed k f).clock = s.clock := rfl
@[simp] theorem State.modFeed_glb : (s.modFeed k f).glb = s.glb := rfl
@[simp] theorem State.modFeed_fmp : (s.modFeed k f).fmp = s.fmp := rfl
@[simp] theorem State.modFeed_cmd : (s.modFeed k f).cmd = s.cmd := rfl
@[simp] theorem State.modFeed_ftu : (s.modFeed k f).ftu = s.ftu := rfl
@[simp] theorem State.modFeed_lnk : (s.modFeed k f).lnk = s.lnk := rfl
@[simp] theorem State.modFeed_prt : (s.modFeed k f).prt = s.prt := rfl
@[simp] theorem State.modFeed_swc : (s.modFeed k f).swc = s.swc := rfl
@[simp] theorem State.modFeed_acu : (s.modFeed k f).acu = s.acu := rfl
@[simp] theorem State.modFeed_home : (s.modFeed k f).home = s.home := rfl
@[simp] theorem State.modFeed_mem : (s.modFeed k f).mem = s.mem := rfl
@[simp] theorem State.modFeed_mse : (s.modFeed k f).mse = s.mse := rfl
@[simp] theorem State.modFeed_vfi : (s.modFeed k f).vfi = s.vfi := rfl
@[simp] theorem State.modFeed_pcn : (s.modFeed k f).pcn = s.pcn := rfl
@[simp] theorem State.modFeed_evr : (s.modFeed k f).evr = s.evr := rfl
@[simp] theorem State.modFeed_msc : (s.modFeed k f).msc = s.msc := rfl
@[simp] theorem State.modFeed_eeprom : (s.modFeed k f).eeprom = s.eeprom := rfl
@[simp] theorem State.modFeed_mgr : (s.modFeed k f).mgr = s.mgr := rfl
@[simp] theorem State.modFeed_out : (s.modFeed k f).out = s.out := rfl
@[simp] theorem State.modFeed_free : (s.modFeed k f).free = s.free := rfl
@[simp] theorem State.modFeed_pending : (s.modFeed k f).pending = s.pending := rfl
end

/-! `setPair` writes in `cmd` alone. -/
section
variable (s : State) (k : Nat) (v : RingPair)
@[simp] theorem State.setPair_variant : (s.setPair k v).variant = s.variant := rfl
@[simp] theorem State.setPair_held : (s.setPair k v).held = s.held := rfl
@[simp] theorem State.setPair_clock : (s.setPair k v).clock = s.clock := rfl
@[simp] theorem State.setPair_glb : (s.setPair k v).glb = s.glb := rfl
@[simp] theorem State.setPair_fmp : (s.setPair k v).fmp = s.fmp := rfl
@[simp] theorem State.setPair_ftu : (s.setPair k v).ftu = s.ftu := rfl
@[simp] theorem State.setPair_lnk : (s.setPair k v).lnk = s.lnk := rfl
@[simp] theorem State.setPair_prt : (s.setPair k v).prt = s.prt := rfl
@[simp] theorem State.setPair_swc : (s.setPair k v).swc = s.swc := rfl
@[simp] theorem State.setPair_acu : (s.setPair k v).acu = s.acu := rfl
@[simp] theorem State.setPair_home : (s.setPair k v).home = s.home := rfl
@[simp] theorem State.setPair_mem : (s.setPair k v).mem = s.mem := rfl
@[simp] theorem State.setPair_mse : (s.setPair k v).mse = s.mse := rfl
@[simp] theorem State.setPair_vfi : (s.setPair k v).vfi = s.vfi := rfl
@[simp] theorem State.setPair_pcn : (s.setPair k v).pcn = s.pcn := rfl
@[simp] theorem State.setPair_evr : (s.setPair k v).evr = s.evr := rfl
@[simp] theorem State.setPair_ppu : (s.setPair k v).ppu = s.ppu := rfl
@[simp] theorem State.setPair_msc : (s.setPair k v).msc = s.msc := rfl
@[simp] theorem State.setPair_eeprom : (s.setPair k v).eeprom = s.eeprom := rfl
@[simp] theorem State.setPair_mgr : (s.setPair k v).mgr = s.mgr := rfl
@[simp] theorem State.setPair_out : (s.setPair k v).out = s.out := rfl
@[simp] theorem State.setPair_free : (s.setPair k v).free = s.free := rfl
@[simp] theorem State.setPair_pending : (s.setPair k v).pending = s.pending := rfl
end

/-! `modPair` writes in `cmd` alone. -/
section
variable (s : State) (k : Nat) (f : RingPair → RingPair)
@[simp] theorem State.modPair_variant : (s.modPair k f).variant = s.variant := rfl
@[simp] theorem State.modPair_held : (s.modPair k f).held = s.held := rfl
@[simp] theorem State.modPair_clock : (s.modPair k f).clock = s.clock := rfl
@[simp] theorem State.modPair_glb : (s.modPair k f).glb = s.glb := rfl
@[simp] theorem State.modPair_fmp : (s.modPair k f).fmp = s.fmp := rfl
@[simp] theorem State.modPair_ftu : (s.modPair k f).ftu = s.ftu := rfl
@[simp] theorem State.modPair_lnk : (s.modPair k f).lnk = s.lnk := rfl
@[simp] theorem State.modPair_prt : (s.modPair k f).prt = s.prt := rfl
@[simp] theorem State.modPair_swc : (s.modPair k f).swc = s.swc := rfl
@[simp] theorem State.modPair_acu : (s.modPair k f).acu = s.acu := rfl
@[simp] theorem State.modPair_home : (s.modPair k f).home = s.home := rfl
@[simp] theorem State.modPair_mem : (s.modPair k f).mem = s.mem := rfl
@[simp] theorem State.modPair_mse : (s.modPair k f).mse = s.mse := rfl
@[simp] theorem State.modPair_vfi : (s.modPair k f).vfi = s.vfi := rfl
@[simp] theorem State.modPair_pcn : (s.modPair k f).pcn = s.pcn := rfl
@[simp] theorem State.modPair_evr : (s.modPair k f).evr = s.evr := rfl
@[simp] theorem State.modPair_ppu : (s.modPair k f).ppu = s.ppu := rfl
@[simp] theorem State.modPair_msc : (s.modPair k f).msc = s.msc := rfl
@[simp] theorem State.modPair_eeprom : (s.modPair k f).eeprom = s.eeprom := rfl
@[simp] theorem State.modPair_mgr : (s.modPair k f).mgr = s.mgr := rfl
@[simp] theorem State.modPair_out : (s.modPair k f).out = s.out := rfl
@[simp] theorem State.modPair_free : (s.modPair k f).free = s.free := rfl
@[simp] theorem State.modPair_pending : (s.modPair k f).pending = s.pending := rfl
end

/-! `setDevRing` writes in `cmd` alone. -/
section
variable (s : State) (k : Nat) (v : DevRing)
@[simp] theorem State.setDevRing_variant : (s.setDevRing k v).variant = s.variant := rfl
@[simp] theorem State.setDevRing_held : (s.setDevRing k v).held = s.held := rfl
@[simp] theorem State.setDevRing_clock : (s.setDevRing k v).clock = s.clock := rfl
@[simp] theorem State.setDevRing_glb : (s.setDevRing k v).glb = s.glb := rfl
@[simp] theorem State.setDevRing_fmp : (s.setDevRing k v).fmp = s.fmp := rfl
@[simp] theorem State.setDevRing_ftu : (s.setDevRing k v).ftu = s.ftu := rfl
@[simp] theorem State.setDevRing_lnk : (s.setDevRing k v).lnk = s.lnk := rfl
@[simp] theorem State.setDevRing_prt : (s.setDevRing k v).prt = s.prt := rfl
@[simp] theorem State.setDevRing_swc : (s.setDevRing k v).swc = s.swc := rfl
@[simp] theorem State.setDevRing_acu : (s.setDevRing k v).acu = s.acu := rfl
@[simp] theorem State.setDevRing_home : (s.setDevRing k v).home = s.home := rfl
@[simp] theorem State.setDevRing_mem : (s.setDevRing k v).mem = s.mem := rfl
@[simp] theorem State.setDevRing_mse : (s.setDevRing k v).mse = s.mse := rfl
@[simp] theorem State.setDevRing_vfi : (s.setDevRing k v).vfi = s.vfi := rfl
@[simp] theorem State.setDevRing_pcn : (s.setDevRing k v).pcn = s.pcn := rfl
@[simp] theorem State.setDevRing_evr : (s.setDevRing k v).evr = s.evr := rfl
@[simp] theorem State.setDevRing_ppu : (s.setDevRing k v).ppu = s.ppu := rfl
@[simp] theorem State.setDevRing_msc : (s.setDevRing k v).msc = s.msc := rfl
@[simp] theorem State.setDevRing_eeprom : (s.setDevRing k v).eeprom = s.eeprom := rfl
@[simp] theorem State.setDevRing_mgr : (s.setDevRing k v).mgr = s.mgr := rfl
@[simp] theorem State.setDevRing_out : (s.setDevRing k v).out = s.out := rfl
@[simp] theorem State.setDevRing_free : (s.setDevRing k v).free = s.free := rfl
@[simp] theorem State.setDevRing_pending : (s.setDevRing k v).pending = s.pending := rfl
end

/-! `modDevRing` writes in `cmd` alone. -/
section
variable (s : State) (k : Nat) (f : DevRing → DevRing)
@[simp] theorem State.modDevRing_variant : (s.modDevRing k f).variant = s.variant := rfl
@[simp] theorem State.modDevRing_held : (s.modDevRing k f).held = s.held := rfl
@[simp] theorem State.modDevRing_clock : (s.modDevRing k f).clock = s.clock := rfl
@[simp] theorem State.modDevRing_glb : (s.modDevRing k f).glb = s.glb := rfl
@[simp] theorem State.modDevRing_fmp : (s.modDevRing k f).fmp = s.fmp := rfl
@[simp] theorem State.modDevRing_ftu : (s.modDevRing k f).ftu = s.ftu := rfl
@[simp] theorem State.modDevRing_lnk : (s.modDevRing k f).lnk = s.lnk := rfl
@[simp] theorem State.modDevRing_prt : (s.modDevRing k f).prt = s.prt := rfl
@[simp] theorem State.modDevRing_swc : (s.modDevRing k f).swc = s.swc := rfl
@[simp] theorem State.modDevRing_acu : (s.modDevRing k f).acu = s.acu := rfl
@[simp] theorem State.modDevRing_home : (s.modDevRing k f).home = s.home := rfl
@[simp] theorem State.modDevRing_mem : (s.modDevRing k f).mem = s.mem := rfl
@[simp] theorem State.modDevRing_mse : (s.modDevRing k f).mse = s.mse := rfl
@[simp] theorem State.modDevRing_vfi : (s.modDevRing k f).vfi = s.vfi := rfl
@[simp] theorem State.modDevRing_pcn : (s.modDevRing k f).pcn = s.pcn := rfl
@[simp] theorem State.modDevRing_evr : (s.modDevRing k f).evr = s.evr := rfl
@[simp] theorem State.modDevRing_ppu : (s.modDevRing k f).ppu = s.ppu := rfl
@[simp] theorem State.modDevRing_msc : (s.modDevRing k f).msc = s.msc := rfl
@[simp] theorem State.modDevRing_eeprom : (s.modDevRing k f).eeprom = s.eeprom := rfl
@[simp] theorem State.modDevRing_mgr : (s.modDevRing k f).mgr = s.mgr := rfl
@[simp] theorem State.modDevRing_out : (s.modDevRing k f).out = s.out := rfl
@[simp] theorem State.modDevRing_free : (s.modDevRing k f).free = s.free := rfl
@[simp] theorem State.modDevRing_pending : (s.modDevRing k f).pending = s.pending := rfl
end

/-! `setTrackers` writes in `prt` alone. -/
section
variable (s : State) (k : Nat) (v : List Tracker)
@[simp] theorem State.setTrackers_variant : (s.setTrackers k v).variant = s.variant := rfl
@[simp] theorem State.setTrackers_held : (s.setTrackers k v).held = s.held := rfl
@[simp] theorem State.setTrackers_clock : (s.setTrackers k v).clock = s.clock := rfl
@[simp] theorem State.setTrackers_glb : (s.setTrackers k v).glb = s.glb := rfl
@[simp] theorem State.setTrackers_fmp : (s.setTrackers k v).fmp = s.fmp := rfl
@[simp] theorem State.setTrackers_cmd : (s.setTrackers k v).cmd = s.cmd := rfl
@[simp] theorem State.setTrackers_ftu : (s.setTrackers k v).ftu = s.ftu := rfl
@[simp] theorem State.setTrackers_lnk : (s.setTrackers k v).lnk = s.lnk := rfl
@[simp] theorem State.setTrackers_swc : (s.setTrackers k v).swc = s.swc := rfl
@[simp] theorem State.setTrackers_acu : (s.setTrackers k v).acu = s.acu := rfl
@[simp] theorem State.setTrackers_home : (s.setTrackers k v).home = s.home := rfl
@[simp] theorem State.setTrackers_mem : (s.setTrackers k v).mem = s.mem := rfl
@[simp] theorem State.setTrackers_mse : (s.setTrackers k v).mse = s.mse := rfl
@[simp] theorem State.setTrackers_vfi : (s.setTrackers k v).vfi = s.vfi := rfl
@[simp] theorem State.setTrackers_pcn : (s.setTrackers k v).pcn = s.pcn := rfl
@[simp] theorem State.setTrackers_evr : (s.setTrackers k v).evr = s.evr := rfl
@[simp] theorem State.setTrackers_ppu : (s.setTrackers k v).ppu = s.ppu := rfl
@[simp] theorem State.setTrackers_msc : (s.setTrackers k v).msc = s.msc := rfl
@[simp] theorem State.setTrackers_eeprom : (s.setTrackers k v).eeprom = s.eeprom := rfl
@[simp] theorem State.setTrackers_mgr : (s.setTrackers k v).mgr = s.mgr := rfl
@[simp] theorem State.setTrackers_out : (s.setTrackers k v).out = s.out := rfl
@[simp] theorem State.setTrackers_free : (s.setTrackers k v).free = s.free := rfl
@[simp] theorem State.setTrackers_pending : (s.setTrackers k v).pending = s.pending := rfl
end

/-! `modTrackers` writes in `prt` alone. -/
section
variable (s : State) (k : Nat) (f : List Tracker → List Tracker)
@[simp] theorem State.modTrackers_variant : (s.modTrackers k f).variant = s.variant := rfl
@[simp] theorem State.modTrackers_held : (s.modTrackers k f).held = s.held := rfl
@[simp] theorem State.modTrackers_clock : (s.modTrackers k f).clock = s.clock := rfl
@[simp] theorem State.modTrackers_glb : (s.modTrackers k f).glb = s.glb := rfl
@[simp] theorem State.modTrackers_fmp : (s.modTrackers k f).fmp = s.fmp := rfl
@[simp] theorem State.modTrackers_cmd : (s.modTrackers k f).cmd = s.cmd := rfl
@[simp] theorem State.modTrackers_ftu : (s.modTrackers k f).ftu = s.ftu := rfl
@[simp] theorem State.modTrackers_lnk : (s.modTrackers k f).lnk = s.lnk := rfl
@[simp] theorem State.modTrackers_swc : (s.modTrackers k f).swc = s.swc := rfl
@[simp] theorem State.modTrackers_acu : (s.modTrackers k f).acu = s.acu := rfl
@[simp] theorem State.modTrackers_home : (s.modTrackers k f).home = s.home := rfl
@[simp] theorem State.modTrackers_mem : (s.modTrackers k f).mem = s.mem := rfl
@[simp] theorem State.modTrackers_mse : (s.modTrackers k f).mse = s.mse := rfl
@[simp] theorem State.modTrackers_vfi : (s.modTrackers k f).vfi = s.vfi := rfl
@[simp] theorem State.modTrackers_pcn : (s.modTrackers k f).pcn = s.pcn := rfl
@[simp] theorem State.modTrackers_evr : (s.modTrackers k f).evr = s.evr := rfl
@[simp] theorem State.modTrackers_ppu : (s.modTrackers k f).ppu = s.ppu := rfl
@[simp] theorem State.modTrackers_msc : (s.modTrackers k f).msc = s.msc := rfl
@[simp] theorem State.modTrackers_eeprom : (s.modTrackers k f).eeprom = s.eeprom := rfl
@[simp] theorem State.modTrackers_mgr : (s.modTrackers k f).mgr = s.mgr := rfl
@[simp] theorem State.modTrackers_out : (s.modTrackers k f).out = s.out := rfl
@[simp] theorem State.modTrackers_free : (s.modTrackers k f).free = s.free := rfl
@[simp] theorem State.modTrackers_pending : (s.modTrackers k f).pending = s.pending := rfl
end

/-! `setEqLane` writes in `lnk` alone. -/
section
variable (s : State) (k : Nat) (v : EqLane)
@[simp] theorem State.setEqLane_variant : (s.setEqLane k v).variant = s.variant := rfl
@[simp] theorem State.setEqLane_held : (s.setEqLane k v).held = s.held := rfl
@[simp] theorem State.setEqLane_clock : (s.setEqLane k v).clock = s.clock := rfl
@[simp] theorem State.setEqLane_glb : (s.setEqLane k v).glb = s.glb := rfl
@[simp] theorem State.setEqLane_fmp : (s.setEqLane k v).fmp = s.fmp := rfl
@[simp] theorem State.setEqLane_cmd : (s.setEqLane k v).cmd = s.cmd := rfl
@[simp] theorem State.setEqLane_ftu : (s.setEqLane k v).ftu = s.ftu := rfl
@[simp] theorem State.setEqLane_prt : (s.setEqLane k v).prt = s.prt := rfl
@[simp] theorem State.setEqLane_swc : (s.setEqLane k v).swc = s.swc := rfl
@[simp] theorem State.setEqLane_acu : (s.setEqLane k v).acu = s.acu := rfl
@[simp] theorem State.setEqLane_home : (s.setEqLane k v).home = s.home := rfl
@[simp] theorem State.setEqLane_mem : (s.setEqLane k v).mem = s.mem := rfl
@[simp] theorem State.setEqLane_mse : (s.setEqLane k v).mse = s.mse := rfl
@[simp] theorem State.setEqLane_vfi : (s.setEqLane k v).vfi = s.vfi := rfl
@[simp] theorem State.setEqLane_pcn : (s.setEqLane k v).pcn = s.pcn := rfl
@[simp] theorem State.setEqLane_evr : (s.setEqLane k v).evr = s.evr := rfl
@[simp] theorem State.setEqLane_ppu : (s.setEqLane k v).ppu = s.ppu := rfl
@[simp] theorem State.setEqLane_msc : (s.setEqLane k v).msc = s.msc := rfl
@[simp] theorem State.setEqLane_eeprom : (s.setEqLane k v).eeprom = s.eeprom := rfl
@[simp] theorem State.setEqLane_mgr : (s.setEqLane k v).mgr = s.mgr := rfl
@[simp] theorem State.setEqLane_out : (s.setEqLane k v).out = s.out := rfl
@[simp] theorem State.setEqLane_free : (s.setEqLane k v).free = s.free := rfl
@[simp] theorem State.setEqLane_pending : (s.setEqLane k v).pending = s.pending := rfl
end

/-! `modEqLane` writes in `lnk` alone. -/
section
variable (s : State) (k : Nat) (f : EqLane → EqLane)
@[simp] theorem State.modEqLane_variant : (s.modEqLane k f).variant = s.variant := rfl
@[simp] theorem State.modEqLane_held : (s.modEqLane k f).held = s.held := rfl
@[simp] theorem State.modEqLane_clock : (s.modEqLane k f).clock = s.clock := rfl
@[simp] theorem State.modEqLane_glb : (s.modEqLane k f).glb = s.glb := rfl
@[simp] theorem State.modEqLane_fmp : (s.modEqLane k f).fmp = s.fmp := rfl
@[simp] theorem State.modEqLane_cmd : (s.modEqLane k f).cmd = s.cmd := rfl
@[simp] theorem State.modEqLane_ftu : (s.modEqLane k f).ftu = s.ftu := rfl
@[simp] theorem State.modEqLane_prt : (s.modEqLane k f).prt = s.prt := rfl
@[simp] theorem State.modEqLane_swc : (s.modEqLane k f).swc = s.swc := rfl
@[simp] theorem State.modEqLane_acu : (s.modEqLane k f).acu = s.acu := rfl
@[simp] theorem State.modEqLane_home : (s.modEqLane k f).home = s.home := rfl
@[simp] theorem State.modEqLane_mem : (s.modEqLane k f).mem = s.mem := rfl
@[simp] theorem State.modEqLane_mse : (s.modEqLane k f).mse = s.mse := rfl
@[simp] theorem State.modEqLane_vfi : (s.modEqLane k f).vfi = s.vfi := rfl
@[simp] theorem State.modEqLane_pcn : (s.modEqLane k f).pcn = s.pcn := rfl
@[simp] theorem State.modEqLane_evr : (s.modEqLane k f).evr = s.evr := rfl
@[simp] theorem State.modEqLane_ppu : (s.modEqLane k f).ppu = s.ppu := rfl
@[simp] theorem State.modEqLane_msc : (s.modEqLane k f).msc = s.msc := rfl
@[simp] theorem State.modEqLane_eeprom : (s.modEqLane k f).eeprom = s.eeprom := rfl
@[simp] theorem State.modEqLane_mgr : (s.modEqLane k f).mgr = s.mgr := rfl
@[simp] theorem State.modEqLane_out : (s.modEqLane k f).out = s.out := rfl
@[simp] theorem State.modEqLane_free : (s.modEqLane k f).free = s.free := rfl
@[simp] theorem State.modEqLane_pending : (s.modEqLane k f).pending = s.pending := rfl
end

/-! `emit` writes in `out` alone. -/
section
variable (s : State) (o : Output)
@[simp] theorem State.emit_variant : (s.emit o).variant = s.variant := rfl
@[simp] theorem State.emit_held : (s.emit o).held = s.held := rfl
@[simp] theorem State.emit_clock : (s.emit o).clock = s.clock := rfl
@[simp] theorem State.emit_glb : (s.emit o).glb = s.glb := rfl
@[simp] theorem State.emit_fmp : (s.emit o).fmp = s.fmp := rfl
@[simp] theorem State.emit_cmd : (s.emit o).cmd = s.cmd := rfl
@[simp] theorem State.emit_ftu : (s.emit o).ftu = s.ftu := rfl
@[simp] theorem State.emit_lnk : (s.emit o).lnk = s.lnk := rfl
@[simp] theorem State.emit_prt : (s.emit o).prt = s.prt := rfl
@[simp] theorem State.emit_swc : (s.emit o).swc = s.swc := rfl
@[simp] theorem State.emit_acu : (s.emit o).acu = s.acu := rfl
@[simp] theorem State.emit_home : (s.emit o).home = s.home := rfl
@[simp] theorem State.emit_mem : (s.emit o).mem = s.mem := rfl
@[simp] theorem State.emit_mse : (s.emit o).mse = s.mse := rfl
@[simp] theorem State.emit_vfi : (s.emit o).vfi = s.vfi := rfl
@[simp] theorem State.emit_pcn : (s.emit o).pcn = s.pcn := rfl
@[simp] theorem State.emit_evr : (s.emit o).evr = s.evr := rfl
@[simp] theorem State.emit_ppu : (s.emit o).ppu = s.ppu := rfl
@[simp] theorem State.emit_msc : (s.emit o).msc = s.msc := rfl
@[simp] theorem State.emit_eeprom : (s.emit o).eeprom = s.eeprom := rfl
@[simp] theorem State.emit_mgr : (s.emit o).mgr = s.mgr := rfl
@[simp] theorem State.emit_free : (s.emit o).free = s.free := rfl
@[simp] theorem State.emit_pending : (s.emit o).pending = s.pending := rfl
end

/-! `useFree` writes in `free` alone. -/
section
variable (s : State) 
@[simp] theorem State.useFree_variant : (s.useFree ).variant = s.variant := rfl
@[simp] theorem State.useFree_held : (s.useFree ).held = s.held := rfl
@[simp] theorem State.useFree_clock : (s.useFree ).clock = s.clock := rfl
@[simp] theorem State.useFree_glb : (s.useFree ).glb = s.glb := rfl
@[simp] theorem State.useFree_fmp : (s.useFree ).fmp = s.fmp := rfl
@[simp] theorem State.useFree_cmd : (s.useFree ).cmd = s.cmd := rfl
@[simp] theorem State.useFree_ftu : (s.useFree ).ftu = s.ftu := rfl
@[simp] theorem State.useFree_lnk : (s.useFree ).lnk = s.lnk := rfl
@[simp] theorem State.useFree_prt : (s.useFree ).prt = s.prt := rfl
@[simp] theorem State.useFree_swc : (s.useFree ).swc = s.swc := rfl
@[simp] theorem State.useFree_acu : (s.useFree ).acu = s.acu := rfl
@[simp] theorem State.useFree_home : (s.useFree ).home = s.home := rfl
@[simp] theorem State.useFree_mem : (s.useFree ).mem = s.mem := rfl
@[simp] theorem State.useFree_mse : (s.useFree ).mse = s.mse := rfl
@[simp] theorem State.useFree_vfi : (s.useFree ).vfi = s.vfi := rfl
@[simp] theorem State.useFree_pcn : (s.useFree ).pcn = s.pcn := rfl
@[simp] theorem State.useFree_evr : (s.useFree ).evr = s.evr := rfl
@[simp] theorem State.useFree_ppu : (s.useFree ).ppu = s.ppu := rfl
@[simp] theorem State.useFree_msc : (s.useFree ).msc = s.msc := rfl
@[simp] theorem State.useFree_eeprom : (s.useFree ).eeprom = s.eeprom := rfl
@[simp] theorem State.useFree_mgr : (s.useFree ).mgr = s.mgr := rfl
@[simp] theorem State.useFree_out : (s.useFree ).out = s.out := rfl
@[simp] theorem State.useFree_pending : (s.useFree ).pending = s.pending := rfl
end

/-! `mgrWrite` writes in `mgr` alone. -/
section
variable (s : State) (a : Nat) (bs : List Byte)
@[simp] theorem State.mgrWrite_variant : (s.mgrWrite a bs).variant = s.variant := rfl
@[simp] theorem State.mgrWrite_held : (s.mgrWrite a bs).held = s.held := rfl
@[simp] theorem State.mgrWrite_clock : (s.mgrWrite a bs).clock = s.clock := rfl
@[simp] theorem State.mgrWrite_glb : (s.mgrWrite a bs).glb = s.glb := rfl
@[simp] theorem State.mgrWrite_fmp : (s.mgrWrite a bs).fmp = s.fmp := rfl
@[simp] theorem State.mgrWrite_cmd : (s.mgrWrite a bs).cmd = s.cmd := rfl
@[simp] theorem State.mgrWrite_ftu : (s.mgrWrite a bs).ftu = s.ftu := rfl
@[simp] theorem State.mgrWrite_lnk : (s.mgrWrite a bs).lnk = s.lnk := rfl
@[simp] theorem State.mgrWrite_prt : (s.mgrWrite a bs).prt = s.prt := rfl
@[simp] theorem State.mgrWrite_swc : (s.mgrWrite a bs).swc = s.swc := rfl
@[simp] theorem State.mgrWrite_acu : (s.mgrWrite a bs).acu = s.acu := rfl
@[simp] theorem State.mgrWrite_home : (s.mgrWrite a bs).home = s.home := rfl
@[simp] theorem State.mgrWrite_mem : (s.mgrWrite a bs).mem = s.mem := rfl
@[simp] theorem State.mgrWrite_mse : (s.mgrWrite a bs).mse = s.mse := rfl
@[simp] theorem State.mgrWrite_vfi : (s.mgrWrite a bs).vfi = s.vfi := rfl
@[simp] theorem State.mgrWrite_pcn : (s.mgrWrite a bs).pcn = s.pcn := rfl
@[simp] theorem State.mgrWrite_evr : (s.mgrWrite a bs).evr = s.evr := rfl
@[simp] theorem State.mgrWrite_ppu : (s.mgrWrite a bs).ppu = s.ppu := rfl
@[simp] theorem State.mgrWrite_msc : (s.mgrWrite a bs).msc = s.msc := rfl
@[simp] theorem State.mgrWrite_eeprom : (s.mgrWrite a bs).eeprom = s.eeprom := rfl
@[simp] theorem State.mgrWrite_out : (s.mgrWrite a bs).out = s.out := rfl
@[simp] theorem State.mgrWrite_free : (s.mgrWrite a bs).free = s.free := rfl
@[simp] theorem State.mgrWrite_pending : (s.mgrWrite a bs).pending = s.pending := rfl
end

/-! `countAt` writes in `pcn` alone. -/
section
variable (s : State) (lo n code : Nat) (vfi port : Option Nat) (x : Nat)
@[simp] theorem State.countAt_variant : (s.countAt lo n code vfi port x).variant = s.variant := rfl
@[simp] theorem State.countAt_held : (s.countAt lo n code vfi port x).held = s.held := rfl
@[simp] theorem State.countAt_clock : (s.countAt lo n code vfi port x).clock = s.clock := rfl
@[simp] theorem State.countAt_glb : (s.countAt lo n code vfi port x).glb = s.glb := rfl
@[simp] theorem State.countAt_fmp : (s.countAt lo n code vfi port x).fmp = s.fmp := rfl
@[simp] theorem State.countAt_cmd : (s.countAt lo n code vfi port x).cmd = s.cmd := rfl
@[simp] theorem State.countAt_ftu : (s.countAt lo n code vfi port x).ftu = s.ftu := rfl
@[simp] theorem State.countAt_lnk : (s.countAt lo n code vfi port x).lnk = s.lnk := rfl
@[simp] theorem State.countAt_prt : (s.countAt lo n code vfi port x).prt = s.prt := rfl
@[simp] theorem State.countAt_swc : (s.countAt lo n code vfi port x).swc = s.swc := rfl
@[simp] theorem State.countAt_acu : (s.countAt lo n code vfi port x).acu = s.acu := rfl
@[simp] theorem State.countAt_home : (s.countAt lo n code vfi port x).home = s.home := rfl
@[simp] theorem State.countAt_mem : (s.countAt lo n code vfi port x).mem = s.mem := rfl
@[simp] theorem State.countAt_mse : (s.countAt lo n code vfi port x).mse = s.mse := rfl
@[simp] theorem State.countAt_vfi : (s.countAt lo n code vfi port x).vfi = s.vfi := rfl
@[simp] theorem State.countAt_evr : (s.countAt lo n code vfi port x).evr = s.evr := rfl
@[simp] theorem State.countAt_ppu : (s.countAt lo n code vfi port x).ppu = s.ppu := rfl
@[simp] theorem State.countAt_msc : (s.countAt lo n code vfi port x).msc = s.msc := rfl
@[simp] theorem State.countAt_eeprom : (s.countAt lo n code vfi port x).eeprom = s.eeprom := rfl
@[simp] theorem State.countAt_mgr : (s.countAt lo n code vfi port x).mgr = s.mgr := rfl
@[simp] theorem State.countAt_out : (s.countAt lo n code vfi port x).out = s.out := rfl
@[simp] theorem State.countAt_free : (s.countAt lo n code vfi port x).free = s.free := rfl
@[simp] theorem State.countAt_pending : (s.countAt lo n code vfi port x).pending = s.pending := rfl
end

/-! `countEvery` writes in `pcn` alone. -/
section
variable (s : State) (code x : Nat)
@[simp] theorem State.countEvery_variant : (s.countEvery code x).variant = s.variant := rfl
@[simp] theorem State.countEvery_held : (s.countEvery code x).held = s.held := rfl
@[simp] theorem State.countEvery_clock : (s.countEvery code x).clock = s.clock := rfl
@[simp] theorem State.countEvery_glb : (s.countEvery code x).glb = s.glb := rfl
@[simp] theorem State.countEvery_fmp : (s.countEvery code x).fmp = s.fmp := rfl
@[simp] theorem State.countEvery_cmd : (s.countEvery code x).cmd = s.cmd := rfl
@[simp] theorem State.countEvery_ftu : (s.countEvery code x).ftu = s.ftu := rfl
@[simp] theorem State.countEvery_lnk : (s.countEvery code x).lnk = s.lnk := rfl
@[simp] theorem State.countEvery_prt : (s.countEvery code x).prt = s.prt := rfl
@[simp] theorem State.countEvery_swc : (s.countEvery code x).swc = s.swc := rfl
@[simp] theorem State.countEvery_acu : (s.countEvery code x).acu = s.acu := rfl
@[simp] theorem State.countEvery_home : (s.countEvery code x).home = s.home := rfl
@[simp] theorem State.countEvery_mem : (s.countEvery code x).mem = s.mem := rfl
@[simp] theorem State.countEvery_mse : (s.countEvery code x).mse = s.mse := rfl
@[simp] theorem State.countEvery_vfi : (s.countEvery code x).vfi = s.vfi := rfl
@[simp] theorem State.countEvery_evr : (s.countEvery code x).evr = s.evr := rfl
@[simp] theorem State.countEvery_ppu : (s.countEvery code x).ppu = s.ppu := rfl
@[simp] theorem State.countEvery_msc : (s.countEvery code x).msc = s.msc := rfl
@[simp] theorem State.countEvery_eeprom : (s.countEvery code x).eeprom = s.eeprom := rfl
@[simp] theorem State.countEvery_mgr : (s.countEvery code x).mgr = s.mgr := rfl
@[simp] theorem State.countEvery_out : (s.countEvery code x).out = s.out := rfl
@[simp] theorem State.countEvery_free : (s.countEvery code x).free = s.free := rfl
@[simp] theorem State.countEvery_pending : (s.countEvery code x).pending = s.pending := rfl
end

/-! `cntTile` writes in `pcn` alone. -/
section
variable (s : State) (t code : Nat) (vfi port : Option Nat) (x : Nat)
@[simp] theorem State.cntTile_variant : (s.cntTile t code vfi port x).variant = s.variant := rfl
@[simp] theorem State.cntTile_held : (s.cntTile t code vfi port x).held = s.held := rfl
@[simp] theorem State.cntTile_clock : (s.cntTile t code vfi port x).clock = s.clock := rfl
@[simp] theorem State.cntTile_glb : (s.cntTile t code vfi port x).glb = s.glb := rfl
@[simp] theorem State.cntTile_fmp : (s.cntTile t code vfi port x).fmp = s.fmp := rfl
@[simp] theorem State.cntTile_cmd : (s.cntTile t code vfi port x).cmd = s.cmd := rfl
@[simp] theorem State.cntTile_ftu : (s.cntTile t code vfi port x).ftu = s.ftu := rfl
@[simp] theorem State.cntTile_lnk : (s.cntTile t code vfi port x).lnk = s.lnk := rfl
@[simp] theorem State.cntTile_prt : (s.cntTile t code vfi port x).prt = s.prt := rfl
@[simp] theorem State.cntTile_swc : (s.cntTile t code vfi port x).swc = s.swc := rfl
@[simp] theorem State.cntTile_acu : (s.cntTile t code vfi port x).acu = s.acu := rfl
@[simp] theorem State.cntTile_home : (s.cntTile t code vfi port x).home = s.home := rfl
@[simp] theorem State.cntTile_mem : (s.cntTile t code vfi port x).mem = s.mem := rfl
@[simp] theorem State.cntTile_mse : (s.cntTile t code vfi port x).mse = s.mse := rfl
@[simp] theorem State.cntTile_vfi : (s.cntTile t code vfi port x).vfi = s.vfi := rfl
@[simp] theorem State.cntTile_evr : (s.cntTile t code vfi port x).evr = s.evr := rfl
@[simp] theorem State.cntTile_ppu : (s.cntTile t code vfi port x).ppu = s.ppu := rfl
@[simp] theorem State.cntTile_msc : (s.cntTile t code vfi port x).msc = s.msc := rfl
@[simp] theorem State.cntTile_eeprom : (s.cntTile t code vfi port x).eeprom = s.eeprom := rfl
@[simp] theorem State.cntTile_mgr : (s.cntTile t code vfi port x).mgr = s.mgr := rfl
@[simp] theorem State.cntTile_out : (s.cntTile t code vfi port x).out = s.out := rfl
@[simp] theorem State.cntTile_free : (s.cntTile t code vfi port x).free = s.free := rfl
@[simp] theorem State.cntTile_pending : (s.cntTile t code vfi port x).pending = s.pending := rfl
end

/-! `cntSlice` writes in `pcn` alone. -/
section
variable (s : State) (k code : Nat) (vfi : Option Nat) (x : Nat)
@[simp] theorem State.cntSlice_variant : (s.cntSlice k code vfi x).variant = s.variant := rfl
@[simp] theorem State.cntSlice_held : (s.cntSlice k code vfi x).held = s.held := rfl
@[simp] theorem State.cntSlice_clock : (s.cntSlice k code vfi x).clock = s.clock := rfl
@[simp] theorem State.cntSlice_glb : (s.cntSlice k code vfi x).glb = s.glb := rfl
@[simp] theorem State.cntSlice_fmp : (s.cntSlice k code vfi x).fmp = s.fmp := rfl
@[simp] theorem State.cntSlice_cmd : (s.cntSlice k code vfi x).cmd = s.cmd := rfl
@[simp] theorem State.cntSlice_ftu : (s.cntSlice k code vfi x).ftu = s.ftu := rfl
@[simp] theorem State.cntSlice_lnk : (s.cntSlice k code vfi x).lnk = s.lnk := rfl
@[simp] theorem State.cntSlice_prt : (s.cntSlice k code vfi x).prt = s.prt := rfl
@[simp] theorem State.cntSlice_swc : (s.cntSlice k code vfi x).swc = s.swc := rfl
@[simp] theorem State.cntSlice_acu : (s.cntSlice k code vfi x).acu = s.acu := rfl
@[simp] theorem State.cntSlice_home : (s.cntSlice k code vfi x).home = s.home := rfl
@[simp] theorem State.cntSlice_mem : (s.cntSlice k code vfi x).mem = s.mem := rfl
@[simp] theorem State.cntSlice_mse : (s.cntSlice k code vfi x).mse = s.mse := rfl
@[simp] theorem State.cntSlice_vfi : (s.cntSlice k code vfi x).vfi = s.vfi := rfl
@[simp] theorem State.cntSlice_evr : (s.cntSlice k code vfi x).evr = s.evr := rfl
@[simp] theorem State.cntSlice_ppu : (s.cntSlice k code vfi x).ppu = s.ppu := rfl
@[simp] theorem State.cntSlice_msc : (s.cntSlice k code vfi x).msc = s.msc := rfl
@[simp] theorem State.cntSlice_eeprom : (s.cntSlice k code vfi x).eeprom = s.eeprom := rfl
@[simp] theorem State.cntSlice_mgr : (s.cntSlice k code vfi x).mgr = s.mgr := rfl
@[simp] theorem State.cntSlice_out : (s.cntSlice k code vfi x).out = s.out := rfl
@[simp] theorem State.cntSlice_free : (s.cntSlice k code vfi x).free = s.free := rfl
@[simp] theorem State.cntSlice_pending : (s.cntSlice k code vfi x).pending = s.pending := rfl
end

/-! `cntMem` writes in `pcn` alone. -/
section
variable (s : State) (m code x : Nat)
@[simp] theorem State.cntMem_variant : (s.cntMem m code x).variant = s.variant := rfl
@[simp] theorem State.cntMem_held : (s.cntMem m code x).held = s.held := rfl
@[simp] theorem State.cntMem_clock : (s.cntMem m code x).clock = s.clock := rfl
@[simp] theorem State.cntMem_glb : (s.cntMem m code x).glb = s.glb := rfl
@[simp] theorem State.cntMem_fmp : (s.cntMem m code x).fmp = s.fmp := rfl
@[simp] theorem State.cntMem_cmd : (s.cntMem m code x).cmd = s.cmd := rfl
@[simp] theorem State.cntMem_ftu : (s.cntMem m code x).ftu = s.ftu := rfl
@[simp] theorem State.cntMem_lnk : (s.cntMem m code x).lnk = s.lnk := rfl
@[simp] theorem State.cntMem_prt : (s.cntMem m code x).prt = s.prt := rfl
@[simp] theorem State.cntMem_swc : (s.cntMem m code x).swc = s.swc := rfl
@[simp] theorem State.cntMem_acu : (s.cntMem m code x).acu = s.acu := rfl
@[simp] theorem State.cntMem_home : (s.cntMem m code x).home = s.home := rfl
@[simp] theorem State.cntMem_mem : (s.cntMem m code x).mem = s.mem := rfl
@[simp] theorem State.cntMem_mse : (s.cntMem m code x).mse = s.mse := rfl
@[simp] theorem State.cntMem_vfi : (s.cntMem m code x).vfi = s.vfi := rfl
@[simp] theorem State.cntMem_evr : (s.cntMem m code x).evr = s.evr := rfl
@[simp] theorem State.cntMem_ppu : (s.cntMem m code x).ppu = s.ppu := rfl
@[simp] theorem State.cntMem_msc : (s.cntMem m code x).msc = s.msc := rfl
@[simp] theorem State.cntMem_eeprom : (s.cntMem m code x).eeprom = s.eeprom := rfl
@[simp] theorem State.cntMem_mgr : (s.cntMem m code x).mgr = s.mgr := rfl
@[simp] theorem State.cntMem_out : (s.cntMem m code x).out = s.out := rfl
@[simp] theorem State.cntMem_free : (s.cntMem m code x).free = s.free := rfl
@[simp] theorem State.cntMem_pending : (s.cntMem m code x).pending = s.pending := rfl
end

/-! `cntEngine` writes in `pcn` alone. -/
section
variable (s : State) (e code : Nat) (vfi : Option Nat) (x : Nat)
@[simp] theorem State.cntEngine_variant : (s.cntEngine e code vfi x).variant = s.variant := rfl
@[simp] theorem State.cntEngine_held : (s.cntEngine e code vfi x).held = s.held := rfl
@[simp] theorem State.cntEngine_clock : (s.cntEngine e code vfi x).clock = s.clock := rfl
@[simp] theorem State.cntEngine_glb : (s.cntEngine e code vfi x).glb = s.glb := rfl
@[simp] theorem State.cntEngine_fmp : (s.cntEngine e code vfi x).fmp = s.fmp := rfl
@[simp] theorem State.cntEngine_cmd : (s.cntEngine e code vfi x).cmd = s.cmd := rfl
@[simp] theorem State.cntEngine_ftu : (s.cntEngine e code vfi x).ftu = s.ftu := rfl
@[simp] theorem State.cntEngine_lnk : (s.cntEngine e code vfi x).lnk = s.lnk := rfl
@[simp] theorem State.cntEngine_prt : (s.cntEngine e code vfi x).prt = s.prt := rfl
@[simp] theorem State.cntEngine_swc : (s.cntEngine e code vfi x).swc = s.swc := rfl
@[simp] theorem State.cntEngine_acu : (s.cntEngine e code vfi x).acu = s.acu := rfl
@[simp] theorem State.cntEngine_home : (s.cntEngine e code vfi x).home = s.home := rfl
@[simp] theorem State.cntEngine_mem : (s.cntEngine e code vfi x).mem = s.mem := rfl
@[simp] theorem State.cntEngine_mse : (s.cntEngine e code vfi x).mse = s.mse := rfl
@[simp] theorem State.cntEngine_vfi : (s.cntEngine e code vfi x).vfi = s.vfi := rfl
@[simp] theorem State.cntEngine_evr : (s.cntEngine e code vfi x).evr = s.evr := rfl
@[simp] theorem State.cntEngine_ppu : (s.cntEngine e code vfi x).ppu = s.ppu := rfl
@[simp] theorem State.cntEngine_msc : (s.cntEngine e code vfi x).msc = s.msc := rfl
@[simp] theorem State.cntEngine_eeprom : (s.cntEngine e code vfi x).eeprom = s.eeprom := rfl
@[simp] theorem State.cntEngine_mgr : (s.cntEngine e code vfi x).mgr = s.mgr := rfl
@[simp] theorem State.cntEngine_out : (s.cntEngine e code vfi x).out = s.out := rfl
@[simp] theorem State.cntEngine_free : (s.cntEngine e code vfi x).free = s.free := rfl
@[simp] theorem State.cntEngine_pending : (s.cntEngine e code vfi x).pending = s.pending := rfl
end

/-! `cntAcu` writes in `pcn` alone. -/
section
variable (s : State) (code : Nat) (vfi : Option Nat) (x : Nat)
@[simp] theorem State.cntAcu_variant : (s.cntAcu code vfi x).variant = s.variant := rfl
@[simp] theorem State.cntAcu_held : (s.cntAcu code vfi x).held = s.held := rfl
@[simp] theorem State.cntAcu_clock : (s.cntAcu code vfi x).clock = s.clock := rfl
@[simp] theorem State.cntAcu_glb : (s.cntAcu code vfi x).glb = s.glb := rfl
@[simp] theorem State.cntAcu_fmp : (s.cntAcu code vfi x).fmp = s.fmp := rfl
@[simp] theorem State.cntAcu_cmd : (s.cntAcu code vfi x).cmd = s.cmd := rfl
@[simp] theorem State.cntAcu_ftu : (s.cntAcu code vfi x).ftu = s.ftu := rfl
@[simp] theorem State.cntAcu_lnk : (s.cntAcu code vfi x).lnk = s.lnk := rfl
@[simp] theorem State.cntAcu_prt : (s.cntAcu code vfi x).prt = s.prt := rfl
@[simp] theorem State.cntAcu_swc : (s.cntAcu code vfi x).swc = s.swc := rfl
@[simp] theorem State.cntAcu_acu : (s.cntAcu code vfi x).acu = s.acu := rfl
@[simp] theorem State.cntAcu_home : (s.cntAcu code vfi x).home = s.home := rfl
@[simp] theorem State.cntAcu_mem : (s.cntAcu code vfi x).mem = s.mem := rfl
@[simp] theorem State.cntAcu_mse : (s.cntAcu code vfi x).mse = s.mse := rfl
@[simp] theorem State.cntAcu_vfi : (s.cntAcu code vfi x).vfi = s.vfi := rfl
@[simp] theorem State.cntAcu_evr : (s.cntAcu code vfi x).evr = s.evr := rfl
@[simp] theorem State.cntAcu_ppu : (s.cntAcu code vfi x).ppu = s.ppu := rfl
@[simp] theorem State.cntAcu_msc : (s.cntAcu code vfi x).msc = s.msc := rfl
@[simp] theorem State.cntAcu_eeprom : (s.cntAcu code vfi x).eeprom = s.eeprom := rfl
@[simp] theorem State.cntAcu_mgr : (s.cntAcu code vfi x).mgr = s.mgr := rfl
@[simp] theorem State.cntAcu_out : (s.cntAcu code vfi x).out = s.out := rfl
@[simp] theorem State.cntAcu_free : (s.cntAcu code vfi x).free = s.free := rfl
@[simp] theorem State.cntAcu_pending : (s.cntAcu code vfi x).pending = s.pending := rfl
end

/-! `cntCmd` writes in `pcn` alone. -/
section
variable (s : State) (code x : Nat)
@[simp] theorem State.cntCmd_variant : (s.cntCmd code x).variant = s.variant := rfl
@[simp] theorem State.cntCmd_held : (s.cntCmd code x).held = s.held := rfl
@[simp] theorem State.cntCmd_clock : (s.cntCmd code x).clock = s.clock := rfl
@[simp] theorem State.cntCmd_glb : (s.cntCmd code x).glb = s.glb := rfl
@[simp] theorem State.cntCmd_fmp : (s.cntCmd code x).fmp = s.fmp := rfl
@[simp] theorem State.cntCmd_cmd : (s.cntCmd code x).cmd = s.cmd := rfl
@[simp] theorem State.cntCmd_ftu : (s.cntCmd code x).ftu = s.ftu := rfl
@[simp] theorem State.cntCmd_lnk : (s.cntCmd code x).lnk = s.lnk := rfl
@[simp] theorem State.cntCmd_prt : (s.cntCmd code x).prt = s.prt := rfl
@[simp] theorem State.cntCmd_swc : (s.cntCmd code x).swc = s.swc := rfl
@[simp] theorem State.cntCmd_acu : (s.cntCmd code x).acu = s.acu := rfl
@[simp] theorem State.cntCmd_home : (s.cntCmd code x).home = s.home := rfl
@[simp] theorem State.cntCmd_mem : (s.cntCmd code x).mem = s.mem := rfl
@[simp] theorem State.cntCmd_mse : (s.cntCmd code x).mse = s.mse := rfl
@[simp] theorem State.cntCmd_vfi : (s.cntCmd code x).vfi = s.vfi := rfl
@[simp] theorem State.cntCmd_evr : (s.cntCmd code x).evr = s.evr := rfl
@[simp] theorem State.cntCmd_ppu : (s.cntCmd code x).ppu = s.ppu := rfl
@[simp] theorem State.cntCmd_msc : (s.cntCmd code x).msc = s.msc := rfl
@[simp] theorem State.cntCmd_eeprom : (s.cntCmd code x).eeprom = s.eeprom := rfl
@[simp] theorem State.cntCmd_mgr : (s.cntCmd code x).mgr = s.mgr := rfl
@[simp] theorem State.cntCmd_out : (s.cntCmd code x).out = s.out := rfl
@[simp] theorem State.cntCmd_free : (s.cntCmd code x).free = s.free := rfl
@[simp] theorem State.cntCmd_pending : (s.cntCmd code x).pending = s.pending := rfl
end

/-! `cntFtu` writes in `pcn` alone. -/
section
variable (s : State) (code x : Nat)
@[simp] theorem State.cntFtu_variant : (s.cntFtu code x).variant = s.variant := rfl
@[simp] theorem State.cntFtu_held : (s.cntFtu code x).held = s.held := rfl
@[simp] theorem State.cntFtu_clock : (s.cntFtu code x).clock = s.clock := rfl
@[simp] theorem State.cntFtu_glb : (s.cntFtu code x).glb = s.glb := rfl
@[simp] theorem State.cntFtu_fmp : (s.cntFtu code x).fmp = s.fmp := rfl
@[simp] theorem State.cntFtu_cmd : (s.cntFtu code x).cmd = s.cmd := rfl
@[simp] theorem State.cntFtu_ftu : (s.cntFtu code x).ftu = s.ftu := rfl
@[simp] theorem State.cntFtu_lnk : (s.cntFtu code x).lnk = s.lnk := rfl
@[simp] theorem State.cntFtu_prt : (s.cntFtu code x).prt = s.prt := rfl
@[simp] theorem State.cntFtu_swc : (s.cntFtu code x).swc = s.swc := rfl
@[simp] theorem State.cntFtu_acu : (s.cntFtu code x).acu = s.acu := rfl
@[simp] theorem State.cntFtu_home : (s.cntFtu code x).home = s.home := rfl
@[simp] theorem State.cntFtu_mem : (s.cntFtu code x).mem = s.mem := rfl
@[simp] theorem State.cntFtu_mse : (s.cntFtu code x).mse = s.mse := rfl
@[simp] theorem State.cntFtu_vfi : (s.cntFtu code x).vfi = s.vfi := rfl
@[simp] theorem State.cntFtu_evr : (s.cntFtu code x).evr = s.evr := rfl
@[simp] theorem State.cntFtu_ppu : (s.cntFtu code x).ppu = s.ppu := rfl
@[simp] theorem State.cntFtu_msc : (s.cntFtu code x).msc = s.msc := rfl
@[simp] theorem State.cntFtu_eeprom : (s.cntFtu code x).eeprom = s.eeprom := rfl
@[simp] theorem State.cntFtu_mgr : (s.cntFtu code x).mgr = s.mgr := rfl
@[simp] theorem State.cntFtu_out : (s.cntFtu code x).out = s.out := rfl
@[simp] theorem State.cntFtu_free : (s.cntFtu code x).free = s.free := rfl
@[simp] theorem State.cntFtu_pending : (s.cntFtu code x).pending = s.pending := rfl
end

/-! `cntPpu` writes in `pcn` alone. -/
section
variable (s : State) (code x : Nat)
@[simp] theorem State.cntPpu_variant : (s.cntPpu code x).variant = s.variant := rfl
@[simp] theorem State.cntPpu_held : (s.cntPpu code x).held = s.held := rfl
@[simp] theorem State.cntPpu_clock : (s.cntPpu code x).clock = s.clock := rfl
@[simp] theorem State.cntPpu_glb : (s.cntPpu code x).glb = s.glb := rfl
@[simp] theorem State.cntPpu_fmp : (s.cntPpu code x).fmp = s.fmp := rfl
@[simp] theorem State.cntPpu_cmd : (s.cntPpu code x).cmd = s.cmd := rfl
@[simp] theorem State.cntPpu_ftu : (s.cntPpu code x).ftu = s.ftu := rfl
@[simp] theorem State.cntPpu_lnk : (s.cntPpu code x).lnk = s.lnk := rfl
@[simp] theorem State.cntPpu_prt : (s.cntPpu code x).prt = s.prt := rfl
@[simp] theorem State.cntPpu_swc : (s.cntPpu code x).swc = s.swc := rfl
@[simp] theorem State.cntPpu_acu : (s.cntPpu code x).acu = s.acu := rfl
@[simp] theorem State.cntPpu_home : (s.cntPpu code x).home = s.home := rfl
@[simp] theorem State.cntPpu_mem : (s.cntPpu code x).mem = s.mem := rfl
@[simp] theorem State.cntPpu_mse : (s.cntPpu code x).mse = s.mse := rfl
@[simp] theorem State.cntPpu_vfi : (s.cntPpu code x).vfi = s.vfi := rfl
@[simp] theorem State.cntPpu_evr : (s.cntPpu code x).evr = s.evr := rfl
@[simp] theorem State.cntPpu_ppu : (s.cntPpu code x).ppu = s.ppu := rfl
@[simp] theorem State.cntPpu_msc : (s.cntPpu code x).msc = s.msc := rfl
@[simp] theorem State.cntPpu_eeprom : (s.cntPpu code x).eeprom = s.eeprom := rfl
@[simp] theorem State.cntPpu_mgr : (s.cntPpu code x).mgr = s.mgr := rfl
@[simp] theorem State.cntPpu_out : (s.cntPpu code x).out = s.out := rfl
@[simp] theorem State.cntPpu_free : (s.cntPpu code x).free = s.free := rfl
@[simp] theorem State.cntPpu_pending : (s.cntPpu code x).pending = s.pending := rfl
end

/-! `fillLines` writes in `mem` alone. -/
section
variable (s : State) (lo hi : Nat) (ones : Bool)
@[simp] theorem State.fillLines_variant : (s.fillLines lo hi ones).variant = s.variant := rfl
@[simp] theorem State.fillLines_held : (s.fillLines lo hi ones).held = s.held := rfl
@[simp] theorem State.fillLines_clock : (s.fillLines lo hi ones).clock = s.clock := rfl
@[simp] theorem State.fillLines_glb : (s.fillLines lo hi ones).glb = s.glb := rfl
@[simp] theorem State.fillLines_fmp : (s.fillLines lo hi ones).fmp = s.fmp := rfl
@[simp] theorem State.fillLines_cmd : (s.fillLines lo hi ones).cmd = s.cmd := rfl
@[simp] theorem State.fillLines_ftu : (s.fillLines lo hi ones).ftu = s.ftu := rfl
@[simp] theorem State.fillLines_lnk : (s.fillLines lo hi ones).lnk = s.lnk := rfl
@[simp] theorem State.fillLines_prt : (s.fillLines lo hi ones).prt = s.prt := rfl
@[simp] theorem State.fillLines_swc : (s.fillLines lo hi ones).swc = s.swc := rfl
@[simp] theorem State.fillLines_acu : (s.fillLines lo hi ones).acu = s.acu := rfl
@[simp] theorem State.fillLines_home : (s.fillLines lo hi ones).home = s.home := rfl
@[simp] theorem State.fillLines_mse : (s.fillLines lo hi ones).mse = s.mse := rfl
@[simp] theorem State.fillLines_vfi : (s.fillLines lo hi ones).vfi = s.vfi := rfl
@[simp] theorem State.fillLines_pcn : (s.fillLines lo hi ones).pcn = s.pcn := rfl
@[simp] theorem State.fillLines_evr : (s.fillLines lo hi ones).evr = s.evr := rfl
@[simp] theorem State.fillLines_ppu : (s.fillLines lo hi ones).ppu = s.ppu := rfl
@[simp] theorem State.fillLines_msc : (s.fillLines lo hi ones).msc = s.msc := rfl
@[simp] theorem State.fillLines_eeprom : (s.fillLines lo hi ones).eeprom = s.eeprom := rfl
@[simp] theorem State.fillLines_mgr : (s.fillLines lo hi ones).mgr = s.mgr := rfl
@[simp] theorem State.fillLines_out : (s.fillLines lo hi ones).out = s.out := rfl
@[simp] theorem State.fillLines_free : (s.fillLines lo hi ones).free = s.free := rfl
@[simp] theorem State.fillLines_pending : (s.fillLines lo hi ones).pending = s.pending := rfl
end

end Sys2Proof.Machine
end

