-- ==== Sys2Proof/Laws/Table.lean ====
section
/-!
SUPPORT. The laws of sparse tables: what is read after a write, and that every operation keeps the
canonical form.
-/

namespace Sys2Proof.Machine

/-- All keys of a table lie above `j`. -/
def tabove {α : Type} (j : Nat) (t : Tbl α) : Prop := ∀ x ∈ t, j < x.1

theorem twf_cons {α : Type} [DecidableEq α] {d : α} {j : Nat} {a : α} {t : Tbl α} :
    twf d ((j, a) :: t) = true ↔ a ≠ d ∧ tabove j t ∧ twf d t = true := by
  induction t generalizing j a with
  | nil => simp [twf, tabove]
  | cons x t ih =>
    obtain ⟨k, b⟩ := x
    constructor
    · intro h
      simp only [twf, Bool.and_eq_true, decide_eq_true_eq] at h
      obtain ⟨⟨ha, hk⟩, ht⟩ := h
      refine ⟨ha, ?_, ht⟩
      intro y hy
      rcases List.mem_cons.1 hy with rfl | hy
      · exact hk
      · exact Nat.lt_trans hk ((ih.1 ht).2.1 y hy)
    · rintro ⟨ha, hj, ht⟩
      simp only [twf, Bool.and_eq_true, decide_eq_true_eq]
      exact ⟨⟨ha, hj (k, b) (List.mem_cons_self ..)⟩, ht⟩

theorem mem_terase {α : Type} {t : Tbl α} {k : Nat} {x : Nat × α} (h : x ∈ terase t k) : x ∈ t := by
  induction t with
  | nil => simp [terase] at h
  | cons y t ih =>
    obtain ⟨j, a⟩ := y
    simp only [terase] at h
    split at h
    · exact List.mem_cons_of_mem _ (ih h)
    · rcases List.mem_cons.1 h with rfl | h
      · exact List.mem_cons_self ..
      · exact List.mem_cons_of_mem _ (ih h)

theorem twf_terase {α : Type} [DecidableEq α] {d : α} {t : Tbl α} {k : Nat} (h : twf d t = true) :
    twf d (terase t k) = true := by
  induction t with
  | nil => rfl
  | cons x t ih =>
    obtain ⟨j, a⟩ := x
    obtain ⟨ha, hj, ht⟩ := twf_cons.1 h
    simp only [terase]
    split
    · exact ih ht
    · exact twf_cons.2 ⟨ha, fun x hx => hj x (mem_terase hx), ih ht⟩

theorem not_mem_terase {α : Type} {t : Tbl α} {k : Nat} {x : Nat × α} (h : x ∈ terase t k) : x.1 ≠ k := by
  induction t with
  | nil => simp [terase] at h
  | cons y t ih =>
    obtain ⟨j, a⟩ := y
    simp only [terase] at h
    split at h
    · exact ih h
    · rcases List.mem_cons.1 h with rfl | h
      · assumption
      · exact ih h

theorem mem_tinsert {α : Type} {t : Tbl α} {k : Nat} {a : α} {x : Nat × α} (h : x ∈ tinsert t k a) :
    x = (k, a) ∨ x ∈ t := by
  induction t with
  | nil => simpa [tinsert] using h
  | cons y t ih =>
    obtain ⟨j, b⟩ := y
    simp only [tinsert] at h
    split at h
    · simpa using h
    · rcases List.mem_cons.1 h with rfl | h
      · exact .inr (List.mem_cons_self ..)
      · rcases ih h with h | h
        · exact .inl h
        · exact .inr (List.mem_cons_of_mem _ h)

theorem twf_tinsert {α : Type} [DecidableEq α] {d : α} {t : Tbl α} {k : Nat} {a : α} (h : twf d t = true)
    (ha : a ≠ d) (hk : ∀ x ∈ t, x.1 ≠ k) : twf d (tinsert t k a) = true := by
  induction t with
  | nil => simp [tinsert, twf, ha]
  | cons y t ih =>
    obtain ⟨j, b⟩ := y
    obtain ⟨hb, hj, ht⟩ := twf_cons.1 h
    simp only [tinsert]
    split
    · rename_i hlt
      refine twf_cons.2 ⟨ha, ?_, h⟩
      intro x hx
      rcases List.mem_cons.1 hx with rfl | hx
      · exact hlt
      · exact Nat.lt_trans hlt (hj x hx)
    · rename_i hlt
      have hne : j ≠ k := hk (j, b) (List.mem_cons_self ..)
      refine twf_cons.2 ⟨hb, ?_, ih ht fun x hx => hk x (List.mem_cons_of_mem _ hx)⟩
      intro x hx
      rcases mem_tinsert hx with rfl | hx
      · show j < k
        omega
      · exact hj x hx

/-- A write keeps the canonical form. -/
theorem twf_tset {α : Type} [DecidableEq α] {d : α} {t : Tbl α} {k : Nat} {a : α} (h : twf d t = true) :
    twf d (tset d t k a) = true := by
  unfold tset
  split
  · exact twf_terase h
  · exact twf_tinsert (twf_terase h) ‹_› fun x hx => not_mem_terase hx

theorem mem_tmap {α : Type} [DecidableEq α] {d : α} {f : Nat → α → α} {t : Tbl α} {x : Nat × α} (h : x ∈ tmap d f t) :
    ∃ y ∈ t, y.1 = x.1 := by
  induction t with
  | nil => simp [tmap] at h
  | cons y t ih =>
    obtain ⟨j, a⟩ := y
    simp only [tmap] at h
    split at h
    · obtain ⟨y, hy, e⟩ := ih h
      exact ⟨y, List.mem_cons_of_mem _ hy, e⟩
    · rcases List.mem_cons.1 h with rfl | h
      · exact ⟨(j, a), List.mem_cons_self .., rfl⟩
      · obtain ⟨y, hy, e⟩ := ih h
        exact ⟨y, List.mem_cons_of_mem _ hy, e⟩

/-- A change of every listed entry keeps the canonical form. -/
theorem twf_tmap {α : Type} [DecidableEq α] {d : α} {f : Nat → α → α} {t : Tbl α} (h : twf d t = true) :
    twf d (tmap d f t) = true := by
  induction t with
  | nil => rfl
  | cons y t ih =>
    obtain ⟨j, a⟩ := y
    obtain ⟨_, hj, ht⟩ := twf_cons.1 h
    simp only [tmap]
    split
    · exact ih ht
    · refine twf_cons.2 ⟨‹_›, ?_, ih ht⟩
      intro x hx
      obtain ⟨y, hy, e⟩ := mem_tmap hx
      exact e ▸ hj y hy

/-! ### Reads after writes -/

theorem tget_of_not_mem {α : Type} {d : α} {t : Tbl α} {k : Nat} (h : ∀ x ∈ t, x.1 ≠ k) : tget d t k = d := by
  induction t with
  | nil => rfl
  | cons y t ih =>
    obtain ⟨j, a⟩ := y
    have : j ≠ k := h (j, a) (List.mem_cons_self ..)
    simp [tget, this, ih fun x hx => h x (List.mem_cons_of_mem _ hx)]

@[simp] theorem tget_terase_self {α : Type} {d : α} (t : Tbl α) (k : Nat) : tget d (terase t k) k = d :=
  tget_of_not_mem fun _ hx => not_mem_terase hx

theorem tget_terase_ne {α : Type} {d : α} (t : Tbl α) {k j : Nat} (h : j ≠ k) : tget d (terase t k) j = tget d t j := by
  induction t with
  | nil => rfl
  | cons y t ih =>
    obtain ⟨i, a⟩ := y
    simp only [terase]
    split
    · rename_i hik
      have : i ≠ j := by omega
      simp [tget, this, ih]
    · simp only [tget, ih]

theorem tget_tinsert_self {α : Type} {d : α} {t : Tbl α} {k : Nat} {a : α} (h : ∀ x ∈ t, x.1 ≠ k) :
    tget d (tinsert t k a) k = a := by
  induction t with
  | nil => simp [tinsert, tget]
  | cons y t ih =>
    obtain ⟨j, b⟩ := y
    have hj : j ≠ k := h (j, b) (List.mem_cons_self ..)
    simp only [tinsert]
    split
    · simp [tget]
    · simp [tget, hj, ih fun x hx => h x (List.mem_cons_of_mem _ hx)]

theorem tget_tinsert_ne {α : Type} {d : α} (t : Tbl α) {k j : Nat} {a : α} (h : j ≠ k) :
    tget d (tinsert t k a) j = tget d t j := by
  induction t with
  | nil => simp [tinsert, tget, h.symm]
  | cons y t ih =>
    obtain ⟨i, b⟩ := y
    simp only [tinsert]
    split
    · simp [tget, h.symm]
    · simp only [tget, ih]

/-- A read of the key that was written. -/
@[simp] theorem tget_tset_self {α : Type} [DecidableEq α] {d : α} (t : Tbl α) (k : Nat) (a : α) :
    tget d (tset d t k a) k = a := by
  unfold tset
  split
  · rename_i h
    simp [h]
  · exact tget_tinsert_self fun _ hx => not_mem_terase hx

/-- A read of any other key. -/
theorem tget_tset_ne {α : Type} [DecidableEq α] {d : α} (t : Tbl α) {k j : Nat} (a : α) (h : j ≠ k) :
    tget d (tset d t k a) j = tget d t j := by
  unfold tset
  split
  · exact tget_terase_ne t h
  · rw [tget_tinsert_ne _ h, tget_terase_ne t h]

theorem terase_of_not_mem {α : Type} {t : Tbl α} {k : Nat} (h : ∀ x ∈ t, x.1 ≠ k) : terase t k = t := by
  induction t with
  | nil => rfl
  | cons y t ih =>
    obtain ⟨j, a⟩ := y
    have hj : j ≠ k := h (j, a) (List.mem_cons_self ..)
    simp [terase, hj, ih fun x hx => h x (List.mem_cons_of_mem _ hx)]

theorem terase_tinsert {α : Type} {t : Tbl α} {k : Nat} {a : α} (h : ∀ x ∈ t, x.1 ≠ k) : terase (tinsert t k a) k = t := by
  induction t with
  | nil => simp [tinsert, terase]
  | cons y t ih =>
    obtain ⟨j, b⟩ := y
    have hj : j ≠ k := h (j, b) (List.mem_cons_self ..)
    simp only [tinsert]
    split
    · simp [terase, hj, terase_of_not_mem fun x hx => h x (List.mem_cons_of_mem _ hx)]
    · simp [terase, hj, ih fun x hx => h x (List.mem_cons_of_mem _ hx)]

/-- The second of two writes of one key is the one that stands. -/
@[simp] theorem tset_tset {α : Type} [DecidableEq α] {d : α} (t : Tbl α) (k : Nat) (a b : α) :
    tset d (tset d t k a) k b = tset d t k b := by
  have key : terase (tset d t k a) k = terase t k := by
    unfold tset
    split
    · exact terase_of_not_mem fun _ hx => not_mem_terase hx
    · exact terase_tinsert fun _ hx => not_mem_terase hx
  show (if b = d then terase (tset d t k a) k else tinsert (terase (tset d t k a) k) k b) = _
  rw [key]
  rfl

/-! ### The manager's memory and the LPDDR6 -/

theorem twf_mgrPut {m : Tbl Byte} {a : Nat} {bs : List Byte} (h : twf 0 m = true) : twf 0 (mgrPut m a bs) = true := by
  induction bs generalizing m a with
  | nil => exact h
  | cons b bs ih => exact ih (twf_tset h)

/-- A write keeps the canonical form of the manager's memory. -/
theorem State.mgrWrite_wf {s : State} {a : Nat} {bs : List Byte} (h : twf 0 s.mgr = true) :
    twf 0 (s.mgrWrite a bs).mgr = true := twf_mgrPut h

/-- A line write keeps the canonical form of the LPDDR6. -/
theorem State.setLine_wf {s : State} {k : Nat} {v : Line} (h : twf none s.mem.lines = true) :
    twf none (s.setLine k v).mem.lines = true := twf_tset h

/-- A fill of whole lines keeps it. -/
theorem State.fillLines_wf {s : State} {lo hi : Nat} {ones : Bool} (h : twf none s.mem.lines = true) :
    twf none (s.fillLines lo hi ones).mem.lines = true := by
  show twf none (s.mem.lines.filter _) = true
  revert h
  generalize s.mem.lines = t
  intro h
  induction t with
  | nil => rfl
  | cons y t ih =>
    obtain ⟨j, a⟩ := y
    obtain ⟨ha, hj, ht⟩ := twf_cons.1 h
    rw [List.filter_cons]
    split
    · exact twf_cons.2 ⟨ha, fun x hx => hj x (List.mem_of_mem_filter hx), ih ht⟩
    · exact ih ht

end Sys2Proof.Machine
end

