-- ==== Sys2Proof/Laws/Entries.lean ====
section
/-!
SUPPORT. The laws of numbered entries of the state: what an entry holds after it or another was
written, and that the second of two changes of one entry stands.
-/

namespace Sys2Proof.Machine

@[simp] theorem State.port_setPort_self (s : State) (k : Nat) (v) : (s.setPort k v).port k = v := tget_tset_self ..
theorem State.port_setPort_ne (s : State) {k j : Nat} (v) (h : j ≠ k) : (s.setPort k v).port j = s.port j := tget_tset_ne _ _ h
@[simp] theorem State.port_modPort_self (s : State) (k : Nat) (f) : (s.modPort k f).port k = f (s.port k) := tget_tset_self ..
theorem State.port_modPort_ne (s : State) {k j : Nat} (f) (h : j ≠ k) : (s.modPort k f).port j = s.port j := tget_tset_ne _ _ h
@[simp] theorem State.modPort_modPort (s : State) (k : Nat) (f g) : (s.modPort k f).modPort k g = s.modPort k fun x => g (f x) := by
  simp only [State.modPort, State.setPort, State.port, tset_tset, tget_tset_self]
@[simp] theorem State.tileLnk_setTileLnk_self (s : State) (k : Nat) (v) : (s.setTileLnk k v).tileLnk k = v := tget_tset_self ..
theorem State.tileLnk_setTileLnk_ne (s : State) {k j : Nat} (v) (h : j ≠ k) : (s.setTileLnk k v).tileLnk j = s.tileLnk j := tget_tset_ne _ _ h
@[simp] theorem State.tileLnk_modTileLnk_self (s : State) (k : Nat) (f) : (s.modTileLnk k f).tileLnk k = f (s.tileLnk k) := tget_tset_self ..
theorem State.tileLnk_modTileLnk_ne (s : State) {k j : Nat} (f) (h : j ≠ k) : (s.modTileLnk k f).tileLnk j = s.tileLnk j := tget_tset_ne _ _ h
@[simp] theorem State.modTileLnk_modTileLnk (s : State) (k : Nat) (f g) : (s.modTileLnk k f).modTileLnk k g = s.modTileLnk k fun x => g (f x) := by
  simp only [State.modTileLnk, State.setTileLnk, State.tileLnk, tset_tset, tget_tset_self]
@[simp] theorem State.lane_setLane_self (s : State) (k : Nat) (v) : (s.setLane k v).lane k = v := tget_tset_self ..
theorem State.lane_setLane_ne (s : State) {k j : Nat} (v) (h : j ≠ k) : (s.setLane k v).lane j = s.lane j := tget_tset_ne _ _ h
@[simp] theorem State.lane_modLane_self (s : State) (k : Nat) (f) : (s.modLane k f).lane k = f (s.lane k) := tget_tset_self ..
theorem State.lane_modLane_ne (s : State) {k j : Nat} (f) (h : j ≠ k) : (s.modLane k f).lane j = s.lane j := tget_tset_ne _ _ h
@[simp] theorem State.modLane_modLane (s : State) (k : Nat) (f g) : (s.modLane k f).modLane k g = s.modLane k fun x => g (f x) := by
  simp only [State.modLane, State.setLane, State.lane, tset_tset, tget_tset_self]
@[simp] theorem State.link_setLink_self (s : State) (k : Nat) (v) : (s.setLink k v).link k = v := tget_tset_self ..
theorem State.link_setLink_ne (s : State) {k j : Nat} (v) (h : j ≠ k) : (s.setLink k v).link j = s.link j := tget_tset_ne _ _ h
@[simp] theorem State.link_modLink_self (s : State) (k : Nat) (f) : (s.modLink k f).link k = f (s.link k) := tget_tset_self ..
theorem State.link_modLink_ne (s : State) {k j : Nat} (f) (h : j ≠ k) : (s.modLink k f).link j = s.link j := tget_tset_ne _ _ h
@[simp] theorem State.modLink_modLink (s : State) (k : Nat) (f g) : (s.modLink k f).modLink k g = s.modLink k fun x => g (f x) := by
  simp only [State.modLink, State.setLink, State.link, tset_tset, tget_tset_self]
@[simp] theorem State.swcTile_setSwcTile_self (s : State) (k : Nat) (v) : (s.setSwcTile k v).swcTile k = v := tget_tset_self ..
theorem State.swcTile_setSwcTile_ne (s : State) {k j : Nat} (v) (h : j ≠ k) : (s.setSwcTile k v).swcTile j = s.swcTile j := tget_tset_ne _ _ h
@[simp] theorem State.swcTile_modSwcTile_self (s : State) (k : Nat) (f) : (s.modSwcTile k f).swcTile k = f (s.swcTile k) := tget_tset_self ..
theorem State.swcTile_modSwcTile_ne (s : State) {k j : Nat} (f) (h : j ≠ k) : (s.modSwcTile k f).swcTile j = s.swcTile j := tget_tset_ne _ _ h
@[simp] theorem State.modSwcTile_modSwcTile (s : State) (k : Nat) (f g) : (s.modSwcTile k f).modSwcTile k g = s.modSwcTile k fun x => g (f x) := by
  simp only [State.modSwcTile, State.setSwcTile, State.swcTile, tset_tset, tget_tset_self]
@[simp] theorem State.host_setHost_self (s : State) (k : Nat) (v) : (s.setHost k v).host k = v := tget_tset_self ..
theorem State.host_setHost_ne (s : State) {k j : Nat} (v) (h : j ≠ k) : (s.setHost k v).host j = s.host j := tget_tset_ne _ _ h
@[simp] theorem State.host_modHost_self (s : State) (k : Nat) (f) : (s.modHost k f).host k = f (s.host k) := tget_tset_self ..
theorem State.host_modHost_ne (s : State) {k j : Nat} (f) (h : j ≠ k) : (s.modHost k f).host j = s.host j := tget_tset_ne _ _ h
@[simp] theorem State.modHost_modHost (s : State) (k : Nat) (f g) : (s.modHost k f).modHost k g = s.modHost k fun x => g (f x) := by
  simp only [State.modHost, State.setHost, State.host, tset_tset, tget_tset_self]
@[simp] theorem State.slice_setSlice_self (s : State) (k : Nat) (v) : (s.setSlice k v).slice k = v := tget_tset_self ..
theorem State.slice_setSlice_ne (s : State) {k j : Nat} (v) (h : j ≠ k) : (s.setSlice k v).slice j = s.slice j := tget_tset_ne _ _ h
@[simp] theorem State.slice_modSlice_self (s : State) (k : Nat) (f) : (s.modSlice k f).slice k = f (s.slice k) := tget_tset_self ..
theorem State.slice_modSlice_ne (s : State) {k j : Nat} (f) (h : j ≠ k) : (s.modSlice k f).slice j = s.slice j := tget_tset_ne _ _ h
@[simp] theorem State.modSlice_modSlice (s : State) (k : Nat) (f g) : (s.modSlice k f).modSlice k g = s.modSlice k fun x => g (f x) := by
  simp only [State.modSlice, State.setSlice, State.slice, tset_tset, tget_tset_self]
@[simp] theorem State.place_setPlace_self (s : State) (k : Nat) (v) : (s.setPlace k v).place k = v := tget_tset_self ..
theorem State.place_setPlace_ne (s : State) {k j : Nat} (v) (h : j ≠ k) : (s.setPlace k v).place j = s.place j := tget_tset_ne _ _ h
@[simp] theorem State.place_modPlace_self (s : State) (k : Nat) (f) : (s.modPlace k f).place k = f (s.place k) := tget_tset_self ..
theorem State.place_modPlace_ne (s : State) {k j : Nat} (f) (h : j ≠ k) : (s.modPlace k f).place j = s.place j := tget_tset_ne _ _ h
@[simp] theorem State.modPlace_modPlace (s : State) (k : Nat) (f g) : (s.modPlace k f).modPlace k g = s.modPlace k fun x => g (f x) := by
  simp only [State.modPlace, State.setPlace, State.place, tset_tset, tget_tset_self]
@[simp] theorem State.chan_setChan_self (s : State) (k : Nat) (v) : (s.setChan k v).chan k = v := tget_tset_self ..
theorem State.chan_setChan_ne (s : State) {k j : Nat} (v) (h : j ≠ k) : (s.setChan k v).chan j = s.chan j := tget_tset_ne _ _ h
@[simp] theorem State.chan_modChan_self (s : State) (k : Nat) (f) : (s.modChan k f).chan k = f (s.chan k) := tget_tset_self ..
theorem State.chan_modChan_ne (s : State) {k j : Nat} (f) (h : j ≠ k) : (s.modChan k f).chan j = s.chan j := tget_tset_ne _ _ h
@[simp] theorem State.modChan_modChan (s : State) (k : Nat) (f g) : (s.modChan k f).modChan k g = s.modChan k fun x => g (f x) := by
  simp only [State.modChan, State.setChan, State.chan, tset_tset, tget_tset_self]
@[simp] theorem State.retire_setRetire_self (s : State) (k : Nat) (v) : (s.setRetire k v).retire k = v := tget_tset_self ..
theorem State.retire_setRetire_ne (s : State) {k j : Nat} (v) (h : j ≠ k) : (s.setRetire k v).retire j = s.retire j := tget_tset_ne _ _ h
@[simp] theorem State.retire_modRetire_self (s : State) (k : Nat) (f) : (s.modRetire k f).retire k = f (s.retire k) := tget_tset_self ..
theorem State.retire_modRetire_ne (s : State) {k j : Nat} (f) (h : j ≠ k) : (s.modRetire k f).retire j = s.retire j := tget_tset_ne _ _ h
@[simp] theorem State.modRetire_modRetire (s : State) (k : Nat) (f g) : (s.modRetire k f).modRetire k g = s.modRetire k fun x => g (f x) := by
  simp only [State.modRetire, State.setRetire, State.retire, tset_tset, tget_tset_self]
@[simp] theorem State.engine_setEngine_self (s : State) (k : Nat) (v) : (s.setEngine k v).engine k = v := tget_tset_self ..
theorem State.engine_setEngine_ne (s : State) {k j : Nat} (v) (h : j ≠ k) : (s.setEngine k v).engine j = s.engine j := tget_tset_ne _ _ h
@[simp] theorem State.engine_modEngine_self (s : State) (k : Nat) (f) : (s.modEngine k f).engine k = f (s.engine k) := tget_tset_self ..
theorem State.engine_modEngine_ne (s : State) {k j : Nat} (f) (h : j ≠ k) : (s.modEngine k f).engine j = s.engine j := tget_tset_ne _ _ h
@[simp] theorem State.modEngine_modEngine (s : State) (k : Nat) (f g) : (s.modEngine k f).modEngine k g = s.modEngine k fun x => g (f x) := by
  simp only [State.modEngine, State.setEngine, State.engine, tset_tset, tget_tset_self]
@[simp] theorem State.stream_setStream_self (s : State) (k : Nat) (v) : (s.setStream k v).stream k = v := tget_tset_self ..
theorem State.stream_setStream_ne (s : State) {k j : Nat} (v) (h : j ≠ k) : (s.setStream k v).stream j = s.stream j := tget_tset_ne _ _ h
@[simp] theorem State.stream_modStream_self (s : State) (k : Nat) (f) : (s.modStream k f).stream k = f (s.stream k) := tget_tset_self ..
theorem State.stream_modStream_ne (s : State) {k j : Nat} (f) (h : j ≠ k) : (s.modStream k f).stream j = s.stream j := tget_tset_ne _ _ h
@[simp] theorem State.modStream_modStream (s : State) (k : Nat) (f g) : (s.modStream k f).modStream k g = s.modStream k fun x => g (f x) := by
  simp only [State.modStream, State.setStream, State.stream, tset_tset, tget_tset_self]
@[simp] theorem State.inst_setInst_self (s : State) (k : Nat) (v) : (s.setInst k v).inst k = v := tget_tset_self ..
theorem State.inst_setInst_ne (s : State) {k j : Nat} (v) (h : j ≠ k) : (s.setInst k v).inst j = s.inst j := tget_tset_ne _ _ h
@[simp] theorem State.inst_modInst_self (s : State) (k : Nat) (f) : (s.modInst k f).inst k = f (s.inst k) := tget_tset_self ..
theorem State.inst_modInst_ne (s : State) {k j : Nat} (f) (h : j ≠ k) : (s.modInst k f).inst j = s.inst j := tget_tset_ne _ _ h
@[simp] theorem State.modInst_modInst (s : State) (k : Nat) (f g) : (s.modInst k f).modInst k g = s.modInst k fun x => g (f x) := by
  simp only [State.modInst, State.setInst, State.inst, tset_tset, tget_tset_self]
@[simp] theorem State.binding_setBinding_self (s : State) (k : Nat) (v) : (s.setBinding k v).binding k = v := tget_tset_self ..
theorem State.binding_setBinding_ne (s : State) {k j : Nat} (v) (h : j ≠ k) : (s.setBinding k v).binding j = s.binding j := tget_tset_ne _ _ h
@[simp] theorem State.binding_modBinding_self (s : State) (k : Nat) (f) : (s.modBinding k f).binding k = f (s.binding k) := tget_tset_self ..
theorem State.binding_modBinding_ne (s : State) {k j : Nat} (f) (h : j ≠ k) : (s.modBinding k f).binding j = s.binding j := tget_tset_ne _ _ h
@[simp] theorem State.modBinding_modBinding (s : State) (k : Nat) (f g) : (s.modBinding k f).modBinding k g = s.modBinding k fun x => g (f x) := by
  simp only [State.modBinding, State.setBinding, State.binding, tset_tset, tget_tset_self]
@[simp] theorem State.counter_setCounter_self (s : State) (k : Nat) (v) : (s.setCounter k v).counter k = v := tget_tset_self ..
theorem State.counter_setCounter_ne (s : State) {k j : Nat} (v) (h : j ≠ k) : (s.setCounter k v).counter j = s.counter j := tget_tset_ne _ _ h
@[simp] theorem State.counter_modCounter_self (s : State) (k : Nat) (f) : (s.modCounter k f).counter k = f (s.counter k) := tget_tset_self ..
theorem State.counter_modCounter_ne (s : State) {k j : Nat} (f) (h : j ≠ k) : (s.modCounter k f).counter j = s.counter j := tget_tset_ne _ _ h
@[simp] theorem State.modCounter_modCounter (s : State) (k : Nat) (f g) : (s.modCounter k f).modCounter k g = s.modCounter k fun x => g (f x) := by
  simp only [State.modCounter, State.setCounter, State.counter, tset_tset, tget_tset_self]
@[simp] theorem State.feed_setFeed_self (s : State) (k : Nat) (v) : (s.setFeed k v).feed k = v := tget_tset_self ..
theorem State.feed_setFeed_ne (s : State) {k j : Nat} (v) (h : j ≠ k) : (s.setFeed k v).feed j = s.feed j := tget_tset_ne _ _ h
@[simp] theorem State.feed_modFeed_self (s : State) (k : Nat) (f) : (s.modFeed k f).feed k = f (s.feed k) := tget_tset_self ..
theorem State.feed_modFeed_ne (s : State) {k j : Nat} (f) (h : j ≠ k) : (s.modFeed k f).feed j = s.feed j := tget_tset_ne _ _ h
@[simp] theorem State.modFeed_modFeed (s : State) (k : Nat) (f g) : (s.modFeed k f).modFeed k g = s.modFeed k fun x => g (f x) := by
  simp only [State.modFeed, State.setFeed, State.feed, tset_tset, tget_tset_self]
@[simp] theorem State.pair_setPair_self (s : State) (k : Nat) (v) : (s.setPair k v).pair k = v := tget_tset_self ..
theorem State.pair_setPair_ne (s : State) {k j : Nat} (v) (h : j ≠ k) : (s.setPair k v).pair j = s.pair j := tget_tset_ne _ _ h
@[simp] theorem State.pair_modPair_self (s : State) (k : Nat) (f) : (s.modPair k f).pair k = f (s.pair k) := tget_tset_self ..
theorem State.pair_modPair_ne (s : State) {k j : Nat} (f) (h : j ≠ k) : (s.modPair k f).pair j = s.pair j := tget_tset_ne _ _ h
@[simp] theorem State.modPair_modPair (s : State) (k : Nat) (f g) : (s.modPair k f).modPair k g = s.modPair k fun x => g (f x) := by
  simp only [State.modPair, State.setPair, State.pair, tset_tset, tget_tset_self]
@[simp] theorem State.devRing_setDevRing_self (s : State) (k : Nat) (v) : (s.setDevRing k v).devRing k = v := tget_tset_self ..
theorem State.devRing_setDevRing_ne (s : State) {k j : Nat} (v) (h : j ≠ k) : (s.setDevRing k v).devRing j = s.devRing j := tget_tset_ne _ _ h
@[simp] theorem State.devRing_modDevRing_self (s : State) (k : Nat) (f) : (s.modDevRing k f).devRing k = f (s.devRing k) := tget_tset_self ..
theorem State.devRing_modDevRing_ne (s : State) {k j : Nat} (f) (h : j ≠ k) : (s.modDevRing k f).devRing j = s.devRing j := tget_tset_ne _ _ h
@[simp] theorem State.modDevRing_modDevRing (s : State) (k : Nat) (f g) : (s.modDevRing k f).modDevRing k g = s.modDevRing k fun x => g (f x) := by
  simp only [State.modDevRing, State.setDevRing, State.devRing, tset_tset, tget_tset_self]
@[simp] theorem State.trackers_setTrackers_self (s : State) (k : Nat) (v) : (s.setTrackers k v).trackers k = v := tget_tset_self ..
theorem State.trackers_setTrackers_ne (s : State) {k j : Nat} (v) (h : j ≠ k) : (s.setTrackers k v).trackers j = s.trackers j := tget_tset_ne _ _ h
@[simp] theorem State.trackers_modTrackers_self (s : State) (k : Nat) (f) : (s.modTrackers k f).trackers k = f (s.trackers k) := tget_tset_self ..
theorem State.trackers_modTrackers_ne (s : State) {k j : Nat} (f) (h : j ≠ k) : (s.modTrackers k f).trackers j = s.trackers j := tget_tset_ne _ _ h
@[simp] theorem State.modTrackers_modTrackers (s : State) (k : Nat) (f g) : (s.modTrackers k f).modTrackers k g = s.modTrackers k fun x => g (f x) := by
  simp only [State.modTrackers, State.setTrackers, State.trackers, tset_tset, tget_tset_self]
@[simp] theorem State.eqLane_setEqLane_self (s : State) (k : Nat) (v) : (s.setEqLane k v).eqLane k = v := tget_tset_self ..
theorem State.eqLane_setEqLane_ne (s : State) {k j : Nat} (v) (h : j ≠ k) : (s.setEqLane k v).eqLane j = s.eqLane j := tget_tset_ne _ _ h
@[simp] theorem State.eqLane_modEqLane_self (s : State) (k : Nat) (f) : (s.modEqLane k f).eqLane k = f (s.eqLane k) := tget_tset_self ..
theorem State.eqLane_modEqLane_ne (s : State) {k j : Nat} (f) (h : j ≠ k) : (s.modEqLane k f).eqLane j = s.eqLane j := tget_tset_ne _ _ h
@[simp] theorem State.modEqLane_modEqLane (s : State) (k : Nat) (f g) : (s.modEqLane k f).modEqLane k g = s.modEqLane k fun x => g (f x) := by
  simp only [State.modEqLane, State.setEqLane, State.eqLane, tset_tset, tget_tset_self]

end Sys2Proof.Machine
end

