-- ==== Sys2Proof/Laws/Shared.lean ====
section
/-!
SUPPORT. What each shared operation can do, said once: for an operation that writes in the units U, a
lemma `_writes` that its answer is the state with other U, and one field lemma for every other unit.
-/

namespace Sys2Proof.Machine


theorem State.sendVector_writes (s : State) (v : Nat) :
    ∃ uf up uo, s.sendVector v = { s with fmp := uf, pcn := up, out := uo } := by
  unfold State.sendVector
  split
  · split
    · exact ⟨_, s.pcn, s.out, rfl⟩
    · split
      · exact ⟨s.fmp, s.pcn, s.out, rfl⟩
      · exact ⟨_, _, _, rfl⟩
  · exact ⟨_, s.pcn, s.out, rfl⟩

@[simp] theorem State.sendVector_variant (s : State) (v : Nat) : (s.sendVector v).variant = s.variant := by
  obtain ⟨uf, up, uo, h⟩ := State.sendVector_writes s v; rw [h]
@[simp] theorem State.sendVector_held (s : State) (v : Nat) : (s.sendVector v).held = s.held := by
  obtain ⟨uf, up, uo, h⟩ := State.sendVector_writes s v; rw [h]
@[simp] theorem State.sendVector_clock (s : State) (v : Nat) : (s.sendVector v).clock = s.clock := by
  obtain ⟨uf, up, uo, h⟩ := State.sendVector_writes s v; rw [h]
@[simp] theorem State.sendVector_glb (s : State) (v : Nat) : (s.sendVector v).glb = s.glb := by
  obtain ⟨uf, up, uo, h⟩ := State.sendVector_writes s v; rw [h]
@[simp] theorem State.sendVector_cmd (s : State) (v : Nat) : (s.sendVector v).cmd = s.cmd := by
  obtain ⟨uf, up, uo, h⟩ := State.sendVector_writes s v; rw [h]
@[simp] theorem State.sendVector_ftu (s : State) (v : Nat) : (s.sendVector v).ftu = s.ftu := by
  obtain ⟨uf, up, uo, h⟩ := State.sendVector_writes s v; rw [h]
@[simp] theorem State.sendVector_lnk (s : State) (v : Nat) : (s.sendVector v).lnk = s.lnk := by
  obtain ⟨uf, up, uo, h⟩ := State.sendVector_writes s v; rw [h]
@[simp] theorem State.sendVector_prt (s : State) (v : Nat) : (s.sendVector v).prt = s.prt := by
  obtain ⟨uf, up, uo, h⟩ := State.sendVector_writes s v; rw [h]
@[simp] theorem State.sendVector_swc (s : State) (v : Nat) : (s.sendVector v).swc = s.swc := by
  obtain ⟨uf, up, uo, h⟩ := State.sendVector_writes s v; rw [h]
@[simp] theorem State.sendVector_acu (s : State) (v : Nat) : (s.sendVector v).acu = s.acu := by
  obtain ⟨uf, up, uo, h⟩ := State.sendVector_writes s v; rw [h]
@[simp] theorem State.sendVector_home (s : State) (v : Nat) : (s.sendVector v).home = s.home := by
  obtain ⟨uf, up, uo, h⟩ := State.sendVector_writes s v; rw [h]
@[simp] theorem State.sendVector_mem (s : State) (v : Nat) : (s.sendVector v).mem = s.mem := by
  obtain ⟨uf, up, uo, h⟩ := State.sendVector_writes s v; rw [h]
@[simp] theorem State.sendVector_mse (s : State) (v : Nat) : (s.sendVector v).mse = s.mse := by
  obtain ⟨uf, up, uo, h⟩ := State.sendVector_writes s v; rw [h]
@[simp] theorem State.sendVector_vfi (s : State) (v : Nat) : (s.sendVector v).vfi = s.vfi := by
  obtain ⟨uf, up, uo, h⟩ := State.sendVector_writes s v; rw [h]
@[simp] theorem State.sendVector_evr (s : State) (v : Nat) : (s.sendVector v).evr = s.evr := by
  obtain ⟨uf, up, uo, h⟩ := State.sendVector_writes s v; rw [h]
@[simp] theorem State.sendVector_ppu (s : State) (v : Nat) : (s.sendVector v).ppu = s.ppu := by
  obtain ⟨uf, up, uo, h⟩ := State.sendVector_writes s v; rw [h]
@[simp] theorem State.sendVector_msc (s : State) (v : Nat) : (s.sendVector v).msc = s.msc := by
  obtain ⟨uf, up, uo, h⟩ := State.sendVector_writes s v; rw [h]
@[simp] theorem State.sendVector_eeprom (s : State) (v : Nat) : (s.sendVector v).eeprom = s.eeprom := by
  obtain ⟨uf, up, uo, h⟩ := State.sendVector_writes s v; rw [h]
@[simp] theorem State.sendVector_mgr (s : State) (v : Nat) : (s.sendVector v).mgr = s.mgr := by
  obtain ⟨uf, up, uo, h⟩ := State.sendVector_writes s v; rw [h]
@[simp] theorem State.sendVector_free (s : State) (v : Nat) : (s.sendVector v).free = s.free := by
  obtain ⟨uf, up, uo, h⟩ := State.sendVector_writes s v; rw [h]
@[simp] theorem State.sendVector_pending (s : State) (v : Nat) : (s.sendVector v).pending = s.pending := by
  obtain ⟨uf, up, uo, h⟩ := State.sendVector_writes s v; rw [h]

theorem State.devWrite_writes (s : State) (d : Nat) (bs : List Byte) :
    ∃ uf uc up um uo, s.devWrite d bs = { s with fmp := uf, cmd := uc, pcn := up, mgr := um, out := uo } := by
  unfold State.devWrite
  dsimp only
  split
  · obtain ⟨f, p, o, h⟩ := State.sendVector_writes (((s.mgrWrite _ _).setDevRing d _).cntCmd 0xD3) (s.devRing d).vec
    exact ⟨f, _, p, _, o, h⟩
  · exact ⟨_, _, _, _, _, rfl⟩

@[simp] theorem State.devWrite_variant (s : State) (d : Nat) (bs : List Byte) : (s.devWrite d bs).variant = s.variant := by
  obtain ⟨uf, uc, up, um, uo, h⟩ := State.devWrite_writes s d bs; rw [h]
@[simp] theorem State.devWrite_held (s : State) (d : Nat) (bs : List Byte) : (s.devWrite d bs).held = s.held := by
  obtain ⟨uf, uc, up, um, uo, h⟩ := State.devWrite_writes s d bs; rw [h]
@[simp] theorem State.devWrite_clock (s : State) (d : Nat) (bs : List Byte) : (s.devWrite d bs).clock = s.clock := by
  obtain ⟨uf, uc, up, um, uo, h⟩ := State.devWrite_writes s d bs; rw [h]
@[simp] theorem State.devWrite_glb (s : State) (d : Nat) (bs : List Byte) : (s.devWrite d bs).glb = s.glb := by
  obtain ⟨uf, uc, up, um, uo, h⟩ := State.devWrite_writes s d bs; rw [h]
@[simp] theorem State.devWrite_ftu (s : State) (d : Nat) (bs : List Byte) : (s.devWrite d bs).ftu = s.ftu := by
  obtain ⟨uf, uc, up, um, uo, h⟩ := State.devWrite_writes s d bs; rw [h]
@[simp] theorem State.devWrite_lnk (s : State) (d : Nat) (bs : List Byte) : (s.devWrite d bs).lnk = s.lnk := by
  obtain ⟨uf, uc, up, um, uo, h⟩ := State.devWrite_writes s d bs; rw [h]
@[simp] theorem State.devWrite_prt (s : State) (d : Nat) (bs : List Byte) : (s.devWrite d bs).prt = s.prt := by
  obtain ⟨uf, uc, up, um, uo, h⟩ := State.devWrite_writes s d bs; rw [h]
@[simp] theorem State.devWrite_swc (s : State) (d : Nat) (bs : List Byte) : (s.devWrite d bs).swc = s.swc := by
  obtain ⟨uf, uc, up, um, uo, h⟩ := State.devWrite_writes s d bs; rw [h]
@[simp] theorem State.devWrite_acu (s : State) (d : Nat) (bs : List Byte) : (s.devWrite d bs).acu = s.acu := by
  obtain ⟨uf, uc, up, um, uo, h⟩ := State.devWrite_writes s d bs; rw [h]
@[simp] theorem State.devWrite_home (s : State) (d : Nat) (bs : List Byte) : (s.devWrite d bs).home = s.home := by
  obtain ⟨uf, uc, up, um, uo, h⟩ := State.devWrite_writes s d bs; rw [h]
@[simp] theorem State.devWrite_mem (s : State) (d : Nat) (bs : List Byte) : (s.devWrite d bs).mem = s.mem := by
  obtain ⟨uf, uc, up, um, uo, h⟩ := State.devWrite_writes s d bs; rw [h]
@[simp] theorem State.devWrite_mse (s : State) (d : Nat) (bs : List Byte) : (s.devWrite d bs).mse = s.mse := by
  obtain ⟨uf, uc, up, um, uo, h⟩ := State.devWrite_writes s d bs; rw [h]
@[simp] theorem State.devWrite_vfi (s : State) (d : Nat) (bs : List Byte) : (s.devWrite d bs).vfi = s.vfi := by
  obtain ⟨uf, uc, up, um, uo, h⟩ := State.devWrite_writes s d bs; rw [h]
@[simp] theorem State.devWrite_evr (s : State) (d : Nat) (bs : List Byte) : (s.devWrite d bs).evr = s.evr := by
  obtain ⟨uf, uc, up, um, uo, h⟩ := State.devWrite_writes s d bs; rw [h]
@[simp] theorem State.devWrite_ppu (s : State) (d : Nat) (bs : List Byte) : (s.devWrite d bs).ppu = s.ppu := by
  obtain ⟨uf, uc, up, um, uo, h⟩ := State.devWrite_writes s d bs; rw [h]
@[simp] theorem State.devWrite_msc (s : State) (d : Nat) (bs : List Byte) : (s.devWrite d bs).msc = s.msc := by
  obtain ⟨uf, uc, up, um, uo, h⟩ := State.devWrite_writes s d bs; rw [h]
@[simp] theorem State.devWrite_eeprom (s : State) (d : Nat) (bs : List Byte) : (s.devWrite d bs).eeprom = s.eeprom := by
  obtain ⟨uf, uc, up, um, uo, h⟩ := State.devWrite_writes s d bs; rw [h]
@[simp] theorem State.devWrite_free (s : State) (d : Nat) (bs : List Byte) : (s.devWrite d bs).free = s.free := by
  obtain ⟨uf, uc, up, um, uo, h⟩ := State.devWrite_writes s d bs; rw [h]
@[simp] theorem State.devWrite_pending (s : State) (d : Nat) (bs : List Byte) : (s.devWrite d bs).pending = s.pending := by
  obtain ⟨uf, uc, up, um, uo, h⟩ := State.devWrite_writes s d bs; rw [h]

theorem State.devDrain_writes (n : Nat) (s : State) (d : Nat) :
    ∃ uf uc up um uo, State.devDrain n s d = { s with fmp := uf, cmd := uc, pcn := up, mgr := um, out := uo } := by
  induction n generalizing s with
  | zero => exact ⟨_, _, _, _, _, rfl⟩
  | succ n ih =>
    unfold State.devDrain
    dsimp only
    split
    · exact ⟨_, _, _, _, _, rfl⟩
    · split
      · rename_i bs rest _ _
        obtain ⟨f, c, p, m, o, h⟩ := State.devWrite_writes (s.setDevRing d { s.devRing d with held := rest }) d bs
        obtain ⟨f', c', p', m', o', h'⟩ := ih ((s.setDevRing d { s.devRing d with held := rest }).devWrite d bs)
        exact ⟨f', c', p', m', o', by rw [h', h]; rfl⟩
      · exact ⟨_, _, _, _, _, rfl⟩

@[simp] theorem State.devDrain_variant (n : Nat) (s : State) (d : Nat) : (State.devDrain n s d).variant = s.variant := by
  obtain ⟨uf, uc, up, um, uo, h⟩ := State.devDrain_writes n s d; rw [h]
@[simp] theorem State.devDrain_held (n : Nat) (s : State) (d : Nat) : (State.devDrain n s d).held = s.held := by
  obtain ⟨uf, uc, up, um, uo, h⟩ := State.devDrain_writes n s d; rw [h]
@[simp] theorem State.devDrain_clock (n : Nat) (s : State) (d : Nat) : (State.devDrain n s d).clock = s.clock := by
  obtain ⟨uf, uc, up, um, uo, h⟩ := State.devDrain_writes n s d; rw [h]
@[simp] theorem State.devDrain_glb (n : Nat) (s : State) (d : Nat) : (State.devDrain n s d).glb = s.glb := by
  obtain ⟨uf, uc, up, um, uo, h⟩ := State.devDrain_writes n s d; rw [h]
@[simp] theorem State.devDrain_ftu (n : Nat) (s : State) (d : Nat) : (State.devDrain n s d).ftu = s.ftu := by
  obtain ⟨uf, uc, up, um, uo, h⟩ := State.devDrain_writes n s d; rw [h]
@[simp] theorem State.devDrain_lnk (n : Nat) (s : State) (d : Nat) : (State.devDrain n s d).lnk = s.lnk := by
  obtain ⟨uf, uc, up, um, uo, h⟩ := State.devDrain_writes n s d; rw [h]
@[simp] theorem State.devDrain_prt (n : Nat) (s : State) (d : Nat) : (State.devDrain n s d).prt = s.prt := by
  obtain ⟨uf, uc, up, um, uo, h⟩ := State.devDrain_writes n s d; rw [h]
@[simp] theorem State.devDrain_swc (n : Nat) (s : State) (d : Nat) : (State.devDrain n s d).swc = s.swc := by
  obtain ⟨uf, uc, up, um, uo, h⟩ := State.devDrain_writes n s d; rw [h]
@[simp] theorem State.devDrain_acu (n : Nat) (s : State) (d : Nat) : (State.devDrain n s d).acu = s.acu := by
  obtain ⟨uf, uc, up, um, uo, h⟩ := State.devDrain_writes n s d; rw [h]
@[simp] theorem State.devDrain_home (n : Nat) (s : State) (d : Nat) : (State.devDrain n s d).home = s.home := by
  obtain ⟨uf, uc, up, um, uo, h⟩ := State.devDrain_writes n s d; rw [h]
@[simp] theorem State.devDrain_mem (n : Nat) (s : State) (d : Nat) : (State.devDrain n s d).mem = s.mem := by
  obtain ⟨uf, uc, up, um, uo, h⟩ := State.devDrain_writes n s d; rw [h]
@[simp] theorem State.devDrain_mse (n : Nat) (s : State) (d : Nat) : (State.devDrain n s d).mse = s.mse := by
  obtain ⟨uf, uc, up, um, uo, h⟩ := State.devDrain_writes n s d; rw [h]
@[simp] theorem State.devDrain_vfi (n : Nat) (s : State) (d : Nat) : (State.devDrain n s d).vfi = s.vfi := by
  obtain ⟨uf, uc, up, um, uo, h⟩ := State.devDrain_writes n s d; rw [h]
@[simp] theorem State.devDrain_evr (n : Nat) (s : State) (d : Nat) : (State.devDrain n s d).evr = s.evr := by
  obtain ⟨uf, uc, up, um, uo, h⟩ := State.devDrain_writes n s d; rw [h]
@[simp] theorem State.devDrain_ppu (n : Nat) (s : State) (d : Nat) : (State.devDrain n s d).ppu = s.ppu := by
  obtain ⟨uf, uc, up, um, uo, h⟩ := State.devDrain_writes n s d; rw [h]
@[simp] theorem State.devDrain_msc (n : Nat) (s : State) (d : Nat) : (State.devDrain n s d).msc = s.msc := by
  obtain ⟨uf, uc, up, um, uo, h⟩ := State.devDrain_writes n s d; rw [h]
@[simp] theorem State.devDrain_eeprom (n : Nat) (s : State) (d : Nat) : (State.devDrain n s d).eeprom = s.eeprom := by
  obtain ⟨uf, uc, up, um, uo, h⟩ := State.devDrain_writes n s d; rw [h]
@[simp] theorem State.devDrain_free (n : Nat) (s : State) (d : Nat) : (State.devDrain n s d).free = s.free := by
  obtain ⟨uf, uc, up, um, uo, h⟩ := State.devDrain_writes n s d; rw [h]
@[simp] theorem State.devDrain_pending (n : Nat) (s : State) (d : Nat) : (State.devDrain n s d).pending = s.pending := by
  obtain ⟨uf, uc, up, um, uo, h⟩ := State.devDrain_writes n s d; rw [h]

theorem State.devProduce_writes (s : State) (d : Nat) (bs : List Byte) :
    ∃ uf uc up um uo, s.devProduce d bs = { s with fmp := uf, cmd := uc, pcn := up, mgr := um, out := uo } := by
  unfold State.devProduce
  dsimp only
  split
  · obtain ⟨f, c, p, m, o, h⟩ := State.devWrite_writes (s.setDevRing d { s.devRing d with seq := ((s.devRing d).seq + 1) % 2 ^ 32 }) d bs
    exact ⟨f, c, p, m, o, by rw [h]; rfl⟩
  · split <;> exact ⟨_, _, _, _, _, rfl⟩

@[simp] theorem State.devProduce_variant (s : State) (d : Nat) (bs : List Byte) : (s.devProduce d bs).variant = s.variant := by
  obtain ⟨uf, uc, up, um, uo, h⟩ := State.devProduce_writes s d bs; rw [h]
@[simp] theorem State.devProduce_held (s : State) (d : Nat) (bs : List Byte) : (s.devProduce d bs).held = s.held := by
  obtain ⟨uf, uc, up, um, uo, h⟩ := State.devProduce_writes s d bs; rw [h]
@[simp] theorem State.devProduce_clock (s : State) (d : Nat) (bs : List Byte) : (s.devProduce d bs).clock = s.clock := by
  obtain ⟨uf, uc, up, um, uo, h⟩ := State.devProduce_writes s d bs; rw [h]
@[simp] theorem State.devProduce_glb (s : State) (d : Nat) (bs : List Byte) : (s.devProduce d bs).glb = s.glb := by
  obtain ⟨uf, uc, up, um, uo, h⟩ := State.devProduce_writes s d bs; rw [h]
@[simp] theorem State.devProduce_ftu (s : State) (d : Nat) (bs : List Byte) : (s.devProduce d bs).ftu = s.ftu := by
  obtain ⟨uf, uc, up, um, uo, h⟩ := State.devProduce_writes s d bs; rw [h]
@[simp] theorem State.devProduce_lnk (s : State) (d : Nat) (bs : List Byte) : (s.devProduce d bs).lnk = s.lnk := by
  obtain ⟨uf, uc, up, um, uo, h⟩ := State.devProduce_writes s d bs; rw [h]
@[simp] theorem State.devProduce_prt (s : State) (d : Nat) (bs : List Byte) : (s.devProduce d bs).prt = s.prt := by
  obtain ⟨uf, uc, up, um, uo, h⟩ := State.devProduce_writes s d bs; rw [h]
@[simp] theorem State.devProduce_swc (s : State) (d : Nat) (bs : List Byte) : (s.devProduce d bs).swc = s.swc := by
  obtain ⟨uf, uc, up, um, uo, h⟩ := State.devProduce_writes s d bs; rw [h]
@[simp] theorem State.devProduce_acu (s : State) (d : Nat) (bs : List Byte) : (s.devProduce d bs).acu = s.acu := by
  obtain ⟨uf, uc, up, um, uo, h⟩ := State.devProduce_writes s d bs; rw [h]
@[simp] theorem State.devProduce_home (s : State) (d : Nat) (bs : List Byte) : (s.devProduce d bs).home = s.home := by
  obtain ⟨uf, uc, up, um, uo, h⟩ := State.devProduce_writes s d bs; rw [h]
@[simp] theorem State.devProduce_mem (s : State) (d : Nat) (bs : List Byte) : (s.devProduce d bs).mem = s.mem := by
  obtain ⟨uf, uc, up, um, uo, h⟩ := State.devProduce_writes s d bs; rw [h]
@[simp] theorem State.devProduce_mse (s : State) (d : Nat) (bs : List Byte) : (s.devProduce d bs).mse = s.mse := by
  obtain ⟨uf, uc, up, um, uo, h⟩ := State.devProduce_writes s d bs; rw [h]
@[simp] theorem State.devProduce_vfi (s : State) (d : Nat) (bs : List Byte) : (s.devProduce d bs).vfi = s.vfi := by
  obtain ⟨uf, uc, up, um, uo, h⟩ := State.devProduce_writes s d bs; rw [h]
@[simp] theorem State.devProduce_evr (s : State) (d : Nat) (bs : List Byte) : (s.devProduce d bs).evr = s.evr := by
  obtain ⟨uf, uc, up, um, uo, h⟩ := State.devProduce_writes s d bs; rw [h]
@[simp] theorem State.devProduce_ppu (s : State) (d : Nat) (bs : List Byte) : (s.devProduce d bs).ppu = s.ppu := by
  obtain ⟨uf, uc, up, um, uo, h⟩ := State.devProduce_writes s d bs; rw [h]
@[simp] theorem State.devProduce_msc (s : State) (d : Nat) (bs : List Byte) : (s.devProduce d bs).msc = s.msc := by
  obtain ⟨uf, uc, up, um, uo, h⟩ := State.devProduce_writes s d bs; rw [h]
@[simp] theorem State.devProduce_eeprom (s : State) (d : Nat) (bs : List Byte) : (s.devProduce d bs).eeprom = s.eeprom := by
  obtain ⟨uf, uc, up, um, uo, h⟩ := State.devProduce_writes s d bs; rw [h]
@[simp] theorem State.devProduce_free (s : State) (d : Nat) (bs : List Byte) : (s.devProduce d bs).free = s.free := by
  obtain ⟨uf, uc, up, um, uo, h⟩ := State.devProduce_writes s d bs; rw [h]
@[simp] theorem State.devProduce_pending (s : State) (d : Nat) (bs : List Byte) : (s.devProduce d bs).pending = s.pending := by
  obtain ⟨uf, uc, up, um, uo, h⟩ := State.devProduce_writes s d bs; rw [h]

theorem State.journalAdd_writes (s : State) (bs : List Byte) :
    ∃ ue, s.journalAdd bs = { s with evr := ue } := by
  unfold State.journalAdd
  split
  · exact ⟨_, rfl⟩
  · exact ⟨s.evr, rfl⟩

@[simp] theorem State.journalAdd_variant (s : State) (bs : List Byte) : (s.journalAdd bs).variant = s.variant := by
  obtain ⟨ue, h⟩ := State.journalAdd_writes s bs; rw [h]
@[simp] theorem State.journalAdd_held (s : State) (bs : List Byte) : (s.journalAdd bs).held = s.held := by
  obtain ⟨ue, h⟩ := State.journalAdd_writes s bs; rw [h]
@[simp] theorem State.journalAdd_clock (s : State) (bs : List Byte) : (s.journalAdd bs).clock = s.clock := by
  obtain ⟨ue, h⟩ := State.journalAdd_writes s bs; rw [h]
@[simp] theorem State.journalAdd_glb (s : State) (bs : List Byte) : (s.journalAdd bs).glb = s.glb := by
  obtain ⟨ue, h⟩ := State.journalAdd_writes s bs; rw [h]
@[simp] theorem State.journalAdd_fmp (s : State) (bs : List Byte) : (s.journalAdd bs).fmp = s.fmp := by
  obtain ⟨ue, h⟩ := State.journalAdd_writes s bs; rw [h]
@[simp] theorem State.journalAdd_cmd (s : State) (bs : List Byte) : (s.journalAdd bs).cmd = s.cmd := by
  obtain ⟨ue, h⟩ := State.journalAdd_writes s bs; rw [h]
@[simp] theorem State.journalAdd_ftu (s : State) (bs : List Byte) : (s.journalAdd bs).ftu = s.ftu := by
  obtain ⟨ue, h⟩ := State.journalAdd_writes s bs; rw [h]
@[simp] theorem State.journalAdd_lnk (s : State) (bs : List Byte) : (s.journalAdd bs).lnk = s.lnk := by
  obtain ⟨ue, h⟩ := State.journalAdd_writes s bs; rw [h]
@[simp] theorem State.journalAdd_prt (s : State) (bs : List Byte) : (s.journalAdd bs).prt = s.prt := by
  obtain ⟨ue, h⟩ := State.journalAdd_writes s bs; rw [h]
@[simp] theorem State.journalAdd_swc (s : State) (bs : List Byte) : (s.journalAdd bs).swc = s.swc := by
  obtain ⟨ue, h⟩ := State.journalAdd_writes s bs; rw [h]
@[simp] theorem State.journalAdd_acu (s : State) (bs : List Byte) : (s.journalAdd bs).acu = s.acu := by
  obtain ⟨ue, h⟩ := State.journalAdd_writes s bs; rw [h]
@[simp] theorem State.journalAdd_home (s : State) (bs : List Byte) : (s.journalAdd bs).home = s.home := by
  obtain ⟨ue, h⟩ := State.journalAdd_writes s bs; rw [h]
@[simp] theorem State.journalAdd_mem (s : State) (bs : List Byte) : (s.journalAdd bs).mem = s.mem := by
  obtain ⟨ue, h⟩ := State.journalAdd_writes s bs; rw [h]
@[simp] theorem State.journalAdd_mse (s : State) (bs : List Byte) : (s.journalAdd bs).mse = s.mse := by
  obtain ⟨ue, h⟩ := State.journalAdd_writes s bs; rw [h]
@[simp] theorem State.journalAdd_vfi (s : State) (bs : List Byte) : (s.journalAdd bs).vfi = s.vfi := by
  obtain ⟨ue, h⟩ := State.journalAdd_writes s bs; rw [h]
@[simp] theorem State.journalAdd_pcn (s : State) (bs : List Byte) : (s.journalAdd bs).pcn = s.pcn := by
  obtain ⟨ue, h⟩ := State.journalAdd_writes s bs; rw [h]
@[simp] theorem State.journalAdd_ppu (s : State) (bs : List Byte) : (s.journalAdd bs).ppu = s.ppu := by
  obtain ⟨ue, h⟩ := State.journalAdd_writes s bs; rw [h]
@[simp] theorem State.journalAdd_msc (s : State) (bs : List Byte) : (s.journalAdd bs).msc = s.msc := by
  obtain ⟨ue, h⟩ := State.journalAdd_writes s bs; rw [h]
@[simp] theorem State.journalAdd_eeprom (s : State) (bs : List Byte) : (s.journalAdd bs).eeprom = s.eeprom := by
  obtain ⟨ue, h⟩ := State.journalAdd_writes s bs; rw [h]
@[simp] theorem State.journalAdd_mgr (s : State) (bs : List Byte) : (s.journalAdd bs).mgr = s.mgr := by
  obtain ⟨ue, h⟩ := State.journalAdd_writes s bs; rw [h]
@[simp] theorem State.journalAdd_out (s : State) (bs : List Byte) : (s.journalAdd bs).out = s.out := by
  obtain ⟨ue, h⟩ := State.journalAdd_writes s bs; rw [h]
@[simp] theorem State.journalAdd_free (s : State) (bs : List Byte) : (s.journalAdd bs).free = s.free := by
  obtain ⟨ue, h⟩ := State.journalAdd_writes s bs; rw [h]
@[simp] theorem State.journalAdd_pending (s : State) (bs : List Byte) : (s.journalAdd bs).pending = s.pending := by
  obtain ⟨ue, h⟩ := State.journalAdd_writes s bs; rw [h]

theorem State.recordBytes_writes (s : State) (cause island t64 : Nat) (payload : List Byte) :
    ∃ uf uc up ue um uo, s.recordBytes cause island t64 payload = { s with fmp := uf, cmd := uc, pcn := up, evr := ue, mgr := um, out := uo } := by
  unfold State.recordBytes
  dsimp only
  obtain ⟨e, h⟩ := State.journalAdd_writes s (entryBytes 64 t64 cause island (s.devRing 1).seq payload)
  obtain ⟨f, c, p, m, o, h'⟩ := State.devProduce_writes (s.journalAdd (entryBytes 64 t64 cause island (s.devRing 1).seq payload)) 1
    (entryBytes 64 t64 cause island (s.devRing 1).seq payload)
  exact ⟨f, c, p, e, m, o, by rw [h', h]⟩

@[simp] theorem State.recordBytes_variant (s : State) (cause island t64 : Nat) (payload : List Byte) : (s.recordBytes cause island t64 payload).variant = s.variant := by
  obtain ⟨uf, uc, up, ue, um, uo, h⟩ := State.recordBytes_writes s cause island t64 payload; rw [h]
@[simp] theorem State.recordBytes_held (s : State) (cause island t64 : Nat) (payload : List Byte) : (s.recordBytes cause island t64 payload).held = s.held := by
  obtain ⟨uf, uc, up, ue, um, uo, h⟩ := State.recordBytes_writes s cause island t64 payload; rw [h]
@[simp] theorem State.recordBytes_clock (s : State) (cause island t64 : Nat) (payload : List Byte) : (s.recordBytes cause island t64 payload).clock = s.clock := by
  obtain ⟨uf, uc, up, ue, um, uo, h⟩ := State.recordBytes_writes s cause island t64 payload; rw [h]
@[simp] theorem State.recordBytes_glb (s : State) (cause island t64 : Nat) (payload : List Byte) : (s.recordBytes cause island t64 payload).glb = s.glb := by
  obtain ⟨uf, uc, up, ue, um, uo, h⟩ := State.recordBytes_writes s cause island t64 payload; rw [h]
@[simp] theorem State.recordBytes_ftu (s : State) (cause island t64 : Nat) (payload : List Byte) : (s.recordBytes cause island t64 payload).ftu = s.ftu := by
  obtain ⟨uf, uc, up, ue, um, uo, h⟩ := State.recordBytes_writes s cause island t64 payload; rw [h]
@[simp] theorem State.recordBytes_lnk (s : State) (cause island t64 : Nat) (payload : List Byte) : (s.recordBytes cause island t64 payload).lnk = s.lnk := by
  obtain ⟨uf, uc, up, ue, um, uo, h⟩ := State.recordBytes_writes s cause island t64 payload; rw [h]
@[simp] theorem State.recordBytes_prt (s : State) (cause island t64 : Nat) (payload : List Byte) : (s.recordBytes cause island t64 payload).prt = s.prt := by
  obtain ⟨uf, uc, up, ue, um, uo, h⟩ := State.recordBytes_writes s cause island t64 payload; rw [h]
@[simp] theorem State.recordBytes_swc (s : State) (cause island t64 : Nat) (payload : List Byte) : (s.recordBytes cause island t64 payload).swc = s.swc := by
  obtain ⟨uf, uc, up, ue, um, uo, h⟩ := State.recordBytes_writes s cause island t64 payload; rw [h]
@[simp] theorem State.recordBytes_acu (s : State) (cause island t64 : Nat) (payload : List Byte) : (s.recordBytes cause island t64 payload).acu = s.acu := by
  obtain ⟨uf, uc, up, ue, um, uo, h⟩ := State.recordBytes_writes s cause island t64 payload; rw [h]
@[simp] theorem State.recordBytes_home (s : State) (cause island t64 : Nat) (payload : List Byte) : (s.recordBytes cause island t64 payload).home = s.home := by
  obtain ⟨uf, uc, up, ue, um, uo, h⟩ := State.recordBytes_writes s cause island t64 payload; rw [h]
@[simp] theorem State.recordBytes_mem (s : State) (cause island t64 : Nat) (payload : List Byte) : (s.recordBytes cause island t64 payload).mem = s.mem := by
  obtain ⟨uf, uc, up, ue, um, uo, h⟩ := State.recordBytes_writes s cause island t64 payload; rw [h]
@[simp] theorem State.recordBytes_mse (s : State) (cause island t64 : Nat) (payload : List Byte) : (s.recordBytes cause island t64 payload).mse = s.mse := by
  obtain ⟨uf, uc, up, ue, um, uo, h⟩ := State.recordBytes_writes s cause island t64 payload; rw [h]
@[simp] theorem State.recordBytes_vfi (s : State) (cause island t64 : Nat) (payload : List Byte) : (s.recordBytes cause island t64 payload).vfi = s.vfi := by
  obtain ⟨uf, uc, up, ue, um, uo, h⟩ := State.recordBytes_writes s cause island t64 payload; rw [h]
@[simp] theorem State.recordBytes_ppu (s : State) (cause island t64 : Nat) (payload : List Byte) : (s.recordBytes cause island t64 payload).ppu = s.ppu := by
  obtain ⟨uf, uc, up, ue, um, uo, h⟩ := State.recordBytes_writes s cause island t64 payload; rw [h]
@[simp] theorem State.recordBytes_msc (s : State) (cause island t64 : Nat) (payload : List Byte) : (s.recordBytes cause island t64 payload).msc = s.msc := by
  obtain ⟨uf, uc, up, ue, um, uo, h⟩ := State.recordBytes_writes s cause island t64 payload; rw [h]
@[simp] theorem State.recordBytes_eeprom (s : State) (cause island t64 : Nat) (payload : List Byte) : (s.recordBytes cause island t64 payload).eeprom = s.eeprom := by
  obtain ⟨uf, uc, up, ue, um, uo, h⟩ := State.recordBytes_writes s cause island t64 payload; rw [h]
@[simp] theorem State.recordBytes_free (s : State) (cause island t64 : Nat) (payload : List Byte) : (s.recordBytes cause island t64 payload).free = s.free := by
  obtain ⟨uf, uc, up, ue, um, uo, h⟩ := State.recordBytes_writes s cause island t64 payload; rw [h]
@[simp] theorem State.recordBytes_pending (s : State) (cause island t64 : Nat) (payload : List Byte) : (s.recordBytes cause island t64 payload).pending = s.pending := by
  obtain ⟨uf, uc, up, ue, um, uo, h⟩ := State.recordBytes_writes s cause island t64 payload; rw [h]

theorem State.record_writes (s : State) (cause island t64 : Nat) (fields : List (Nat × Nat)) :
    ∃ uf uc up ue um uo, s.record cause island t64 fields = { s with fmp := uf, cmd := uc, pcn := up, evr := ue, mgr := um, out := uo } := by
  exact State.recordBytes_writes ..

@[simp] theorem State.record_variant (s : State) (cause island t64 : Nat) (fields : List (Nat × Nat)) : (s.record cause island t64 fields).variant = s.variant := by
  obtain ⟨uf, uc, up, ue, um, uo, h⟩ := State.record_writes s cause island t64 fields; rw [h]
@[simp] theorem State.record_held (s : State) (cause island t64 : Nat) (fields : List (Nat × Nat)) : (s.record cause island t64 fields).held = s.held := by
  obtain ⟨uf, uc, up, ue, um, uo, h⟩ := State.record_writes s cause island t64 fields; rw [h]
@[simp] theorem State.record_clock (s : State) (cause island t64 : Nat) (fields : List (Nat × Nat)) : (s.record cause island t64 fields).clock = s.clock := by
  obtain ⟨uf, uc, up, ue, um, uo, h⟩ := State.record_writes s cause island t64 fields; rw [h]
@[simp] theorem State.record_glb (s : State) (cause island t64 : Nat) (fields : List (Nat × Nat)) : (s.record cause island t64 fields).glb = s.glb := by
  obtain ⟨uf, uc, up, ue, um, uo, h⟩ := State.record_writes s cause island t64 fields; rw [h]
@[simp] theorem State.record_ftu (s : State) (cause island t64 : Nat) (fields : List (Nat × Nat)) : (s.record cause island t64 fields).ftu = s.ftu := by
  obtain ⟨uf, uc, up, ue, um, uo, h⟩ := State.record_writes s cause island t64 fields; rw [h]
@[simp] theorem State.record_lnk (s : State) (cause island t64 : Nat) (fields : List (Nat × Nat)) : (s.record cause island t64 fields).lnk = s.lnk := by
  obtain ⟨uf, uc, up, ue, um, uo, h⟩ := State.record_writes s cause island t64 fields; rw [h]
@[simp] theorem State.record_prt (s : State) (cause island t64 : Nat) (fields : List (Nat × Nat)) : (s.record cause island t64 fields).prt = s.prt := by
  obtain ⟨uf, uc, up, ue, um, uo, h⟩ := State.record_writes s cause island t64 fields; rw [h]
@[simp] theorem State.record_swc (s : State) (cause island t64 : Nat) (fields : List (Nat × Nat)) : (s.record cause island t64 fields).swc = s.swc := by
  obtain ⟨uf, uc, up, ue, um, uo, h⟩ := State.record_writes s cause island t64 fields; rw [h]
@[simp] theorem State.record_acu (s : State) (cause island t64 : Nat) (fields : List (Nat × Nat)) : (s.record cause island t64 fields).acu = s.acu := by
  obtain ⟨uf, uc, up, ue, um, uo, h⟩ := State.record_writes s cause island t64 fields; rw [h]
@[simp] theorem State.record_home (s : State) (cause island t64 : Nat) (fields : List (Nat × Nat)) : (s.record cause island t64 fields).home = s.home := by
  obtain ⟨uf, uc, up, ue, um, uo, h⟩ := State.record_writes s cause island t64 fields; rw [h]
@[simp] theorem State.record_mem (s : State) (cause island t64 : Nat) (fields : List (Nat × Nat)) : (s.record cause island t64 fields).mem = s.mem := by
  obtain ⟨uf, uc, up, ue, um, uo, h⟩ := State.record_writes s cause island t64 fields; rw [h]
@[simp] theorem State.record_mse (s : State) (cause island t64 : Nat) (fields : List (Nat × Nat)) : (s.record cause island t64 fields).mse = s.mse := by
  obtain ⟨uf, uc, up, ue, um, uo, h⟩ := State.record_writes s cause island t64 fields; rw [h]
@[simp] theorem State.record_vfi (s : State) (cause island t64 : Nat) (fields : List (Nat × Nat)) : (s.record cause island t64 fields).vfi = s.vfi := by
  obtain ⟨uf, uc, up, ue, um, uo, h⟩ := State.record_writes s cause island t64 fields; rw [h]
@[simp] theorem State.record_ppu (s : State) (cause island t64 : Nat) (fields : List (Nat × Nat)) : (s.record cause island t64 fields).ppu = s.ppu := by
  obtain ⟨uf, uc, up, ue, um, uo, h⟩ := State.record_writes s cause island t64 fields; rw [h]
@[simp] theorem State.record_msc (s : State) (cause island t64 : Nat) (fields : List (Nat × Nat)) : (s.record cause island t64 fields).msc = s.msc := by
  obtain ⟨uf, uc, up, ue, um, uo, h⟩ := State.record_writes s cause island t64 fields; rw [h]
@[simp] theorem State.record_eeprom (s : State) (cause island t64 : Nat) (fields : List (Nat × Nat)) : (s.record cause island t64 fields).eeprom = s.eeprom := by
  obtain ⟨uf, uc, up, ue, um, uo, h⟩ := State.record_writes s cause island t64 fields; rw [h]
@[simp] theorem State.record_free (s : State) (cause island t64 : Nat) (fields : List (Nat × Nat)) : (s.record cause island t64 fields).free = s.free := by
  obtain ⟨uf, uc, up, ue, um, uo, h⟩ := State.record_writes s cause island t64 fields; rw [h]
@[simp] theorem State.record_pending (s : State) (cause island t64 : Nat) (fields : List (Nat × Nat)) : (s.record cause island t64 fields).pending = s.pending := by
  obtain ⟨uf, uc, up, ue, um, uo, h⟩ := State.record_writes s cause island t64 fields; rw [h]

theorem State.event_writes (s : State) (kind island t64 : Nat) (fields : List (Nat × Nat)) :
    ∃ uf uc up ue um uo, s.event kind island t64 fields = { s with fmp := uf, cmd := uc, pcn := up, evr := ue, mgr := um, out := uo } := by
  unfold State.event
  dsimp only
  split
  · obtain ⟨e, h⟩ := State.journalAdd_writes s (entryBytes 32 t64 kind island (s.devRing 0).seq (packFields 16 fields))
    obtain ⟨f, c, p, m, o, h'⟩ := State.devProduce_writes (s.journalAdd (entryBytes 32 t64 kind island (s.devRing 0).seq
      (packFields 16 fields))) 0 (entryBytes 32 t64 kind island (s.devRing 0).seq (packFields 16 fields))
    exact ⟨f, c, p, e, m, o, by rw [h', h]⟩
  · exact ⟨_, _, _, _, _, _, rfl⟩

@[simp] theorem State.event_variant (s : State) (kind island t64 : Nat) (fields : List (Nat × Nat)) : (s.event kind island t64 fields).variant = s.variant := by
  obtain ⟨uf, uc, up, ue, um, uo, h⟩ := State.event_writes s kind island t64 fields; rw [h]
@[simp] theorem State.event_held (s : State) (kind island t64 : Nat) (fields : List (Nat × Nat)) : (s.event kind island t64 fields).held = s.held := by
  obtain ⟨uf, uc, up, ue, um, uo, h⟩ := State.event_writes s kind island t64 fields; rw [h]
@[simp] theorem State.event_clock (s : State) (kind island t64 : Nat) (fields : List (Nat × Nat)) : (s.event kind island t64 fields).clock = s.clock := by
  obtain ⟨uf, uc, up, ue, um, uo, h⟩ := State.event_writes s kind island t64 fields; rw [h]
@[simp] theorem State.event_glb (s : State) (kind island t64 : Nat) (fields : List (Nat × Nat)) : (s.event kind island t64 fields).glb = s.glb := by
  obtain ⟨uf, uc, up, ue, um, uo, h⟩ := State.event_writes s kind island t64 fields; rw [h]
@[simp] theorem State.event_ftu (s : State) (kind island t64 : Nat) (fields : List (Nat × Nat)) : (s.event kind island t64 fields).ftu = s.ftu := by
  obtain ⟨uf, uc, up, ue, um, uo, h⟩ := State.event_writes s kind island t64 fields; rw [h]
@[simp] theorem State.event_lnk (s : State) (kind island t64 : Nat) (fields : List (Nat × Nat)) : (s.event kind island t64 fields).lnk = s.lnk := by
  obtain ⟨uf, uc, up, ue, um, uo, h⟩ := State.event_writes s kind island t64 fields; rw [h]
@[simp] theorem State.event_prt (s : State) (kind island t64 : Nat) (fields : List (Nat × Nat)) : (s.event kind island t64 fields).prt = s.prt := by
  obtain ⟨uf, uc, up, ue, um, uo, h⟩ := State.event_writes s kind island t64 fields; rw [h]
@[simp] theorem State.event_swc (s : State) (kind island t64 : Nat) (fields : List (Nat × Nat)) : (s.event kind island t64 fields).swc = s.swc := by
  obtain ⟨uf, uc, up, ue, um, uo, h⟩ := State.event_writes s kind island t64 fields; rw [h]
@[simp] theorem State.event_acu (s : State) (kind island t64 : Nat) (fields : List (Nat × Nat)) : (s.event kind island t64 fields).acu = s.acu := by
  obtain ⟨uf, uc, up, ue, um, uo, h⟩ := State.event_writes s kind island t64 fields; rw [h]
@[simp] theorem State.event_home (s : State) (kind island t64 : Nat) (fields : List (Nat × Nat)) : (s.event kind island t64 fields).home = s.home := by
  obtain ⟨uf, uc, up, ue, um, uo, h⟩ := State.event_writes s kind island t64 fields; rw [h]
@[simp] theorem State.event_mem (s : State) (kind island t64 : Nat) (fields : List (Nat × Nat)) : (s.event kind island t64 fields).mem = s.mem := by
  obtain ⟨uf, uc, up, ue, um, uo, h⟩ := State.event_writes s kind island t64 fields; rw [h]
@[simp] theorem State.event_mse (s : State) (kind island t64 : Nat) (fields : List (Nat × Nat)) : (s.event kind island t64 fields).mse = s.mse := by
  obtain ⟨uf, uc, up, ue, um, uo, h⟩ := State.event_writes s kind island t64 fields; rw [h]
@[simp] theorem State.event_vfi (s : State) (kind island t64 : Nat) (fields : List (Nat × Nat)) : (s.event kind island t64 fields).vfi = s.vfi := by
  obtain ⟨uf, uc, up, ue, um, uo, h⟩ := State.event_writes s kind island t64 fields; rw [h]
@[simp] theorem State.event_ppu (s : State) (kind island t64 : Nat) (fields : List (Nat × Nat)) : (s.event kind island t64 fields).ppu = s.ppu := by
  obtain ⟨uf, uc, up, ue, um, uo, h⟩ := State.event_writes s kind island t64 fields; rw [h]
@[simp] theorem State.event_msc (s : State) (kind island t64 : Nat) (fields : List (Nat × Nat)) : (s.event kind island t64 fields).msc = s.msc := by
  obtain ⟨uf, uc, up, ue, um, uo, h⟩ := State.event_writes s kind island t64 fields; rw [h]
@[simp] theorem State.event_eeprom (s : State) (kind island t64 : Nat) (fields : List (Nat × Nat)) : (s.event kind island t64 fields).eeprom = s.eeprom := by
  obtain ⟨uf, uc, up, ue, um, uo, h⟩ := State.event_writes s kind island t64 fields; rw [h]
@[simp] theorem State.event_free (s : State) (kind island t64 : Nat) (fields : List (Nat × Nat)) : (s.event kind island t64 fields).free = s.free := by
  obtain ⟨uf, uc, up, ue, um, uo, h⟩ := State.event_writes s kind island t64 fields; rw [h]
@[simp] theorem State.event_pending (s : State) (kind island t64 : Nat) (fields : List (Nat × Nat)) : (s.event kind island t64 fields).pending = s.pending := by
  obtain ⟨uf, uc, up, ue, um, uo, h⟩ := State.event_writes s kind island t64 fields; rw [h]

theorem State.tally_writes (s : State) (i n : Nat) :
    ∃ ue, s.tally i n = { s with evr := ue } := by
  exact ⟨_, rfl⟩

@[simp] theorem State.tally_variant (s : State) (i n : Nat) : (s.tally i n).variant = s.variant := by
  obtain ⟨ue, h⟩ := State.tally_writes s i n; rw [h]
@[simp] theorem State.tally_held (s : State) (i n : Nat) : (s.tally i n).held = s.held := by
  obtain ⟨ue, h⟩ := State.tally_writes s i n; rw [h]
@[simp] theorem State.tally_clock (s : State) (i n : Nat) : (s.tally i n).clock = s.clock := by
  obtain ⟨ue, h⟩ := State.tally_writes s i n; rw [h]
@[simp] theorem State.tally_glb (s : State) (i n : Nat) : (s.tally i n).glb = s.glb := by
  obtain ⟨ue, h⟩ := State.tally_writes s i n; rw [h]
@[simp] theorem State.tally_fmp (s : State) (i n : Nat) : (s.tally i n).fmp = s.fmp := by
  obtain ⟨ue, h⟩ := State.tally_writes s i n; rw [h]
@[simp] theorem State.tally_cmd (s : State) (i n : Nat) : (s.tally i n).cmd = s.cmd := by
  obtain ⟨ue, h⟩ := State.tally_writes s i n; rw [h]
@[simp] theorem State.tally_ftu (s : State) (i n : Nat) : (s.tally i n).ftu = s.ftu := by
  obtain ⟨ue, h⟩ := State.tally_writes s i n; rw [h]
@[simp] theorem State.tally_lnk (s : State) (i n : Nat) : (s.tally i n).lnk = s.lnk := by
  obtain ⟨ue, h⟩ := State.tally_writes s i n; rw [h]
@[simp] theorem State.tally_prt (s : State) (i n : Nat) : (s.tally i n).prt = s.prt := by
  obtain ⟨ue, h⟩ := State.tally_writes s i n; rw [h]
@[simp] theorem State.tally_swc (s : State) (i n : Nat) : (s.tally i n).swc = s.swc := by
  obtain ⟨ue, h⟩ := State.tally_writes s i n; rw [h]
@[simp] theorem State.tally_acu (s : State) (i n : Nat) : (s.tally i n).acu = s.acu := by
  obtain ⟨ue, h⟩ := State.tally_writes s i n; rw [h]
@[simp] theorem State.tally_home (s : State) (i n : Nat) : (s.tally i n).home = s.home := by
  obtain ⟨ue, h⟩ := State.tally_writes s i n; rw [h]
@[simp] theorem State.tally_mem (s : State) (i n : Nat) : (s.tally i n).mem = s.mem := by
  obtain ⟨ue, h⟩ := State.tally_writes s i n; rw [h]
@[simp] theorem State.tally_mse (s : State) (i n : Nat) : (s.tally i n).mse = s.mse := by
  obtain ⟨ue, h⟩ := State.tally_writes s i n; rw [h]
@[simp] theorem State.tally_vfi (s : State) (i n : Nat) : (s.tally i n).vfi = s.vfi := by
  obtain ⟨ue, h⟩ := State.tally_writes s i n; rw [h]
@[simp] theorem State.tally_pcn (s : State) (i n : Nat) : (s.tally i n).pcn = s.pcn := by
  obtain ⟨ue, h⟩ := State.tally_writes s i n; rw [h]
@[simp] theorem State.tally_ppu (s : State) (i n : Nat) : (s.tally i n).ppu = s.ppu := by
  obtain ⟨ue, h⟩ := State.tally_writes s i n; rw [h]
@[simp] theorem State.tally_msc (s : State) (i n : Nat) : (s.tally i n).msc = s.msc := by
  obtain ⟨ue, h⟩ := State.tally_writes s i n; rw [h]
@[simp] theorem State.tally_eeprom (s : State) (i n : Nat) : (s.tally i n).eeprom = s.eeprom := by
  obtain ⟨ue, h⟩ := State.tally_writes s i n; rw [h]
@[simp] theorem State.tally_mgr (s : State) (i n : Nat) : (s.tally i n).mgr = s.mgr := by
  obtain ⟨ue, h⟩ := State.tally_writes s i n; rw [h]
@[simp] theorem State.tally_out (s : State) (i n : Nat) : (s.tally i n).out = s.out := by
  obtain ⟨ue, h⟩ := State.tally_writes s i n; rw [h]
@[simp] theorem State.tally_free (s : State) (i n : Nat) : (s.tally i n).free = s.free := by
  obtain ⟨ue, h⟩ := State.tally_writes s i n; rw [h]
@[simp] theorem State.tally_pending (s : State) (i n : Nat) : (s.tally i n).pending = s.pending := by
  obtain ⟨ue, h⟩ := State.tally_writes s i n; rw [h]

theorem State.markDirty_writes (s : State) (sec : Nat) :
    ∃ uz, s.markDirty sec = { s with msc := uz } := by
  unfold State.markDirty
  split
  · exact ⟨s.msc, rfl⟩
  · exact ⟨_, rfl⟩

@[simp] theorem State.markDirty_variant (s : State) (sec : Nat) : (s.markDirty sec).variant = s.variant := by
  obtain ⟨uz, h⟩ := State.markDirty_writes s sec; rw [h]
@[simp] theorem State.markDirty_held (s : State) (sec : Nat) : (s.markDirty sec).held = s.held := by
  obtain ⟨uz, h⟩ := State.markDirty_writes s sec; rw [h]
@[simp] theorem State.markDirty_clock (s : State) (sec : Nat) : (s.markDirty sec).clock = s.clock := by
  obtain ⟨uz, h⟩ := State.markDirty_writes s sec; rw [h]
@[simp] theorem State.markDirty_glb (s : State) (sec : Nat) : (s.markDirty sec).glb = s.glb := by
  obtain ⟨uz, h⟩ := State.markDirty_writes s sec; rw [h]
@[simp] theorem State.markDirty_fmp (s : State) (sec : Nat) : (s.markDirty sec).fmp = s.fmp := by
  obtain ⟨uz, h⟩ := State.markDirty_writes s sec; rw [h]
@[simp] theorem State.markDirty_cmd (s : State) (sec : Nat) : (s.markDirty sec).cmd = s.cmd := by
  obtain ⟨uz, h⟩ := State.markDirty_writes s sec; rw [h]
@[simp] theorem State.markDirty_ftu (s : State) (sec : Nat) : (s.markDirty sec).ftu = s.ftu := by
  obtain ⟨uz, h⟩ := State.markDirty_writes s sec; rw [h]
@[simp] theorem State.markDirty_lnk (s : State) (sec : Nat) : (s.markDirty sec).lnk = s.lnk := by
  obtain ⟨uz, h⟩ := State.markDirty_writes s sec; rw [h]
@[simp] theorem State.markDirty_prt (s : State) (sec : Nat) : (s.markDirty sec).prt = s.prt := by
  obtain ⟨uz, h⟩ := State.markDirty_writes s sec; rw [h]
@[simp] theorem State.markDirty_swc (s : State) (sec : Nat) : (s.markDirty sec).swc = s.swc := by
  obtain ⟨uz, h⟩ := State.markDirty_writes s sec; rw [h]
@[simp] theorem State.markDirty_acu (s : State) (sec : Nat) : (s.markDirty sec).acu = s.acu := by
  obtain ⟨uz, h⟩ := State.markDirty_writes s sec; rw [h]
@[simp] theorem State.markDirty_home (s : State) (sec : Nat) : (s.markDirty sec).home = s.home := by
  obtain ⟨uz, h⟩ := State.markDirty_writes s sec; rw [h]
@[simp] theorem State.markDirty_mem (s : State) (sec : Nat) : (s.markDirty sec).mem = s.mem := by
  obtain ⟨uz, h⟩ := State.markDirty_writes s sec; rw [h]
@[simp] theorem State.markDirty_mse (s : State) (sec : Nat) : (s.markDirty sec).mse = s.mse := by
  obtain ⟨uz, h⟩ := State.markDirty_writes s sec; rw [h]
@[simp] theorem State.markDirty_vfi (s : State) (sec : Nat) : (s.markDirty sec).vfi = s.vfi := by
  obtain ⟨uz, h⟩ := State.markDirty_writes s sec; rw [h]
@[simp] theorem State.markDirty_pcn (s : State) (sec : Nat) : (s.markDirty sec).pcn = s.pcn := by
  obtain ⟨uz, h⟩ := State.markDirty_writes s sec; rw [h]
@[simp] theorem State.markDirty_evr (s : State) (sec : Nat) : (s.markDirty sec).evr = s.evr := by
  obtain ⟨uz, h⟩ := State.markDirty_writes s sec; rw [h]
@[simp] theorem State.markDirty_ppu (s : State) (sec : Nat) : (s.markDirty sec).ppu = s.ppu := by
  obtain ⟨uz, h⟩ := State.markDirty_writes s sec; rw [h]
@[simp] theorem State.markDirty_eeprom (s : State) (sec : Nat) : (s.markDirty sec).eeprom = s.eeprom := by
  obtain ⟨uz, h⟩ := State.markDirty_writes s sec; rw [h]
@[simp] theorem State.markDirty_mgr (s : State) (sec : Nat) : (s.markDirty sec).mgr = s.mgr := by
  obtain ⟨uz, h⟩ := State.markDirty_writes s sec; rw [h]
@[simp] theorem State.markDirty_out (s : State) (sec : Nat) : (s.markDirty sec).out = s.out := by
  obtain ⟨uz, h⟩ := State.markDirty_writes s sec; rw [h]
@[simp] theorem State.markDirty_free (s : State) (sec : Nat) : (s.markDirty sec).free = s.free := by
  obtain ⟨uz, h⟩ := State.markDirty_writes s sec; rw [h]
@[simp] theorem State.markDirty_pending (s : State) (sec : Nat) : (s.markDirty sec).pending = s.pending := by
  obtain ⟨uz, h⟩ := State.markDirty_writes s sec; rw [h]

theorem State.sramError_writes (s : State) (island array : Nat) (unc : Bool) :
    ∃ uf uc ux up ue um uo, s.sramError island array unc = { s with fmp := uf, cmd := uc, mem := ux, pcn := up, evr := ue, mgr := um, out := uo } := by
  unfold State.sramError
  dsimp only
  split
  · obtain ⟨f, c, p, e, m, o, h⟩ := State.record_writes
      { s with mem := { s.mem with sramU := tset 0 s.mem.sramU island (satAdd 16 (tget 0 s.mem.sramU island) 1),
                                   err := s.mem.err ||| 16 } } 0x27 island s.now64 [(1, island), (1, array)]
    obtain ⟨e', h'⟩ := State.tally_writes (State.record
      { s with mem := { s.mem with sramU := tset 0 s.mem.sramU island (satAdd 16 (tget 0 s.mem.sramU island) 1),
                                   err := s.mem.err ||| 16 } } 0x27 island s.now64 [(1, island), (1, array)]) 15 1
    exact ⟨f, c, _, p, e', m, o, h'.trans (by rw [h])⟩
  · exact ⟨_, _, _, _, _, _, _, rfl⟩

@[simp] theorem State.sramError_variant (s : State) (island array : Nat) (unc : Bool) : (s.sramError island array unc).variant = s.variant := by
  obtain ⟨uf, uc, ux, up, ue, um, uo, h⟩ := State.sramError_writes s island array unc; rw [h]
@[simp] theorem State.sramError_held (s : State) (island array : Nat) (unc : Bool) : (s.sramError island array unc).held = s.held := by
  obtain ⟨uf, uc, ux, up, ue, um, uo, h⟩ := State.sramError_writes s island array unc; rw [h]
@[simp] theorem State.sramError_clock (s : State) (island array : Nat) (unc : Bool) : (s.sramError island array unc).clock = s.clock := by
  obtain ⟨uf, uc, ux, up, ue, um, uo, h⟩ := State.sramError_writes s island array unc; rw [h]
@[simp] theorem State.sramError_glb (s : State) (island array : Nat) (unc : Bool) : (s.sramError island array unc).glb = s.glb := by
  obtain ⟨uf, uc, ux, up, ue, um, uo, h⟩ := State.sramError_writes s island array unc; rw [h]
@[simp] theorem State.sramError_ftu (s : State) (island array : Nat) (unc : Bool) : (s.sramError island array unc).ftu = s.ftu := by
  obtain ⟨uf, uc, ux, up, ue, um, uo, h⟩ := State.sramError_writes s island array unc; rw [h]
@[simp] theorem State.sramError_lnk (s : State) (island array : Nat) (unc : Bool) : (s.sramError island array unc).lnk = s.lnk := by
  obtain ⟨uf, uc, ux, up, ue, um, uo, h⟩ := State.sramError_writes s island array unc; rw [h]
@[simp] theorem State.sramError_prt (s : State) (island array : Nat) (unc : Bool) : (s.sramError island array unc).prt = s.prt := by
  obtain ⟨uf, uc, ux, up, ue, um, uo, h⟩ := State.sramError_writes s island array unc; rw [h]
@[simp] theorem State.sramError_swc (s : State) (island array : Nat) (unc : Bool) : (s.sramError island array unc).swc = s.swc := by
  obtain ⟨uf, uc, ux, up, ue, um, uo, h⟩ := State.sramError_writes s island array unc; rw [h]
@[simp] theorem State.sramError_acu (s : State) (island array : Nat) (unc : Bool) : (s.sramError island array unc).acu = s.acu := by
  obtain ⟨uf, uc, ux, up, ue, um, uo, h⟩ := State.sramError_writes s island array unc; rw [h]
@[simp] theorem State.sramError_home (s : State) (island array : Nat) (unc : Bool) : (s.sramError island array unc).home = s.home := by
  obtain ⟨uf, uc, ux, up, ue, um, uo, h⟩ := State.sramError_writes s island array unc; rw [h]
@[simp] theorem State.sramError_mse (s : State) (island array : Nat) (unc : Bool) : (s.sramError island array unc).mse = s.mse := by
  obtain ⟨uf, uc, ux, up, ue, um, uo, h⟩ := State.sramError_writes s island array unc; rw [h]
@[simp] theorem State.sramError_vfi (s : State) (island array : Nat) (unc : Bool) : (s.sramError island array unc).vfi = s.vfi := by
  obtain ⟨uf, uc, ux, up, ue, um, uo, h⟩ := State.sramError_writes s island array unc; rw [h]
@[simp] theorem State.sramError_ppu (s : State) (island array : Nat) (unc : Bool) : (s.sramError island array unc).ppu = s.ppu := by
  obtain ⟨uf, uc, ux, up, ue, um, uo, h⟩ := State.sramError_writes s island array unc; rw [h]
@[simp] theorem State.sramError_msc (s : State) (island array : Nat) (unc : Bool) : (s.sramError island array unc).msc = s.msc := by
  obtain ⟨uf, uc, ux, up, ue, um, uo, h⟩ := State.sramError_writes s island array unc; rw [h]
@[simp] theorem State.sramError_eeprom (s : State) (island array : Nat) (unc : Bool) : (s.sramError island array unc).eeprom = s.eeprom := by
  obtain ⟨uf, uc, ux, up, ue, um, uo, h⟩ := State.sramError_writes s island array unc; rw [h]
@[simp] theorem State.sramError_free (s : State) (island array : Nat) (unc : Bool) : (s.sramError island array unc).free = s.free := by
  obtain ⟨uf, uc, ux, up, ue, um, uo, h⟩ := State.sramError_writes s island array unc; rw [h]
@[simp] theorem State.sramError_pending (s : State) (island array : Nat) (unc : Bool) : (s.sramError island array unc).pending = s.pending := by
  obtain ⟨uf, uc, ux, up, ue, um, uo, h⟩ := State.sramError_writes s island array unc; rw [h]

theorem State.cqInterrupt_writes (s : State) (p : Nat) (quiet : Bool) :
    ∃ uf uc up uo, s.cqInterrupt p quiet = { s with fmp := uf, cmd := uc, pcn := up, out := uo } := by
  unfold State.cqInterrupt
  dsimp only
  split
  · exact ⟨_, _, _, _, rfl⟩
  · split
    · obtain ⟨f, p', o, h⟩ := State.sendVector_writes (s.setPair p { s.pair p with sinceIrq := 0, firstAt := none }) (s.pair p).vec
      exact ⟨f, _, p', o, h⟩
    · exact ⟨_, _, _, _, rfl⟩

@[simp] theorem State.cqInterrupt_variant (s : State) (p : Nat) (quiet : Bool) : (s.cqInterrupt p quiet).variant = s.variant := by
  obtain ⟨uf, uc, up, uo, h⟩ := State.cqInterrupt_writes s p quiet; rw [h]
@[simp] theorem State.cqInterrupt_held (s : State) (p : Nat) (quiet : Bool) : (s.cqInterrupt p quiet).held = s.held := by
  obtain ⟨uf, uc, up, uo, h⟩ := State.cqInterrupt_writes s p quiet; rw [h]
@[simp] theorem State.cqInterrupt_clock (s : State) (p : Nat) (quiet : Bool) : (s.cqInterrupt p quiet).clock = s.clock := by
  obtain ⟨uf, uc, up, uo, h⟩ := State.cqInterrupt_writes s p quiet; rw [h]
@[simp] theorem State.cqInterrupt_glb (s : State) (p : Nat) (quiet : Bool) : (s.cqInterrupt p quiet).glb = s.glb := by
  obtain ⟨uf, uc, up, uo, h⟩ := State.cqInterrupt_writes s p quiet; rw [h]
@[simp] theorem State.cqInterrupt_ftu (s : State) (p : Nat) (quiet : Bool) : (s.cqInterrupt p quiet).ftu = s.ftu := by
  obtain ⟨uf, uc, up, uo, h⟩ := State.cqInterrupt_writes s p quiet; rw [h]
@[simp] theorem State.cqInterrupt_lnk (s : State) (p : Nat) (quiet : Bool) : (s.cqInterrupt p quiet).lnk = s.lnk := by
  obtain ⟨uf, uc, up, uo, h⟩ := State.cqInterrupt_writes s p quiet; rw [h]
@[simp] theorem State.cqInterrupt_prt (s : State) (p : Nat) (quiet : Bool) : (s.cqInterrupt p quiet).prt = s.prt := by
  obtain ⟨uf, uc, up, uo, h⟩ := State.cqInterrupt_writes s p quiet; rw [h]
@[simp] theorem State.cqInterrupt_swc (s : State) (p : Nat) (quiet : Bool) : (s.cqInterrupt p quiet).swc = s.swc := by
  obtain ⟨uf, uc, up, uo, h⟩ := State.cqInterrupt_writes s p quiet; rw [h]
@[simp] theorem State.cqInterrupt_acu (s : State) (p : Nat) (quiet : Bool) : (s.cqInterrupt p quiet).acu = s.acu := by
  obtain ⟨uf, uc, up, uo, h⟩ := State.cqInterrupt_writes s p quiet; rw [h]
@[simp] theorem State.cqInterrupt_home (s : State) (p : Nat) (quiet : Bool) : (s.cqInterrupt p quiet).home = s.home := by
  obtain ⟨uf, uc, up, uo, h⟩ := State.cqInterrupt_writes s p quiet; rw [h]
@[simp] theorem State.cqInterrupt_mem (s : State) (p : Nat) (quiet : Bool) : (s.cqInterrupt p quiet).mem = s.mem := by
  obtain ⟨uf, uc, up, uo, h⟩ := State.cqInterrupt_writes s p quiet; rw [h]
@[simp] theorem State.cqInterrupt_mse (s : State) (p : Nat) (quiet : Bool) : (s.cqInterrupt p quiet).mse = s.mse := by
  obtain ⟨uf, uc, up, uo, h⟩ := State.cqInterrupt_writes s p quiet; rw [h]
@[simp] theorem State.cqInterrupt_vfi (s : State) (p : Nat) (quiet : Bool) : (s.cqInterrupt p quiet).vfi = s.vfi := by
  obtain ⟨uf, uc, up, uo, h⟩ := State.cqInterrupt_writes s p quiet; rw [h]
@[simp] theorem State.cqInterrupt_evr (s : State) (p : Nat) (quiet : Bool) : (s.cqInterrupt p quiet).evr = s.evr := by
  obtain ⟨uf, uc, up, uo, h⟩ := State.cqInterrupt_writes s p quiet; rw [h]
@[simp] theorem State.cqInterrupt_ppu (s : State) (p : Nat) (quiet : Bool) : (s.cqInterrupt p quiet).ppu = s.ppu := by
  obtain ⟨uf, uc, up, uo, h⟩ := State.cqInterrupt_writes s p quiet; rw [h]
@[simp] theorem State.cqInterrupt_msc (s : State) (p : Nat) (quiet : Bool) : (s.cqInterrupt p quiet).msc = s.msc := by
  obtain ⟨uf, uc, up, uo, h⟩ := State.cqInterrupt_writes s p quiet; rw [h]
@[simp] theorem State.cqInterrupt_eeprom (s : State) (p : Nat) (quiet : Bool) : (s.cqInterrupt p quiet).eeprom = s.eeprom := by
  obtain ⟨uf, uc, up, uo, h⟩ := State.cqInterrupt_writes s p quiet; rw [h]
@[simp] theorem State.cqInterrupt_mgr (s : State) (p : Nat) (quiet : Bool) : (s.cqInterrupt p quiet).mgr = s.mgr := by
  obtain ⟨uf, uc, up, uo, h⟩ := State.cqInterrupt_writes s p quiet; rw [h]
@[simp] theorem State.cqInterrupt_free (s : State) (p : Nat) (quiet : Bool) : (s.cqInterrupt p quiet).free = s.free := by
  obtain ⟨uf, uc, up, uo, h⟩ := State.cqInterrupt_writes s p quiet; rw [h]
@[simp] theorem State.cqInterrupt_pending (s : State) (p : Nat) (quiet : Bool) : (s.cqInterrupt p quiet).pending = s.pending := by
  obtain ⟨uf, uc, up, uo, h⟩ := State.cqInterrupt_writes s p quiet; rw [h]

theorem State.cqWrite_writes (s : State) (p : Nat) (x : Completion) :
    ∃ uf uc up um uo, s.cqWrite p x = { s with fmp := uf, cmd := uc, pcn := up, mgr := um, out := uo } := by
  have key : ∀ u : State, (∃ c q m, u = { s with cmd := c, pcn := q, mgr := m }) →
      ∃ f c q m o, u.cqInterrupt p x.quiet = { s with fmp := f, cmd := c, pcn := q, mgr := m, out := o } := by
    rintro _ ⟨c, q, m, rfl⟩
    obtain ⟨f, c', q', o, h⟩ := State.cqInterrupt_writes { s with cmd := c, pcn := q, mgr := m } p x.quiet
    exact ⟨f, c', q', m, o, h⟩
  exact key _ ⟨_, _, _, rfl⟩

@[simp] theorem State.cqWrite_variant (s : State) (p : Nat) (x : Completion) : (s.cqWrite p x).variant = s.variant := by
  obtain ⟨uf, uc, up, um, uo, h⟩ := State.cqWrite_writes s p x; rw [h]
@[simp] theorem State.cqWrite_held (s : State) (p : Nat) (x : Completion) : (s.cqWrite p x).held = s.held := by
  obtain ⟨uf, uc, up, um, uo, h⟩ := State.cqWrite_writes s p x; rw [h]
@[simp] theorem State.cqWrite_clock (s : State) (p : Nat) (x : Completion) : (s.cqWrite p x).clock = s.clock := by
  obtain ⟨uf, uc, up, um, uo, h⟩ := State.cqWrite_writes s p x; rw [h]
@[simp] theorem State.cqWrite_glb (s : State) (p : Nat) (x : Completion) : (s.cqWrite p x).glb = s.glb := by
  obtain ⟨uf, uc, up, um, uo, h⟩ := State.cqWrite_writes s p x; rw [h]
@[simp] theorem State.cqWrite_ftu (s : State) (p : Nat) (x : Completion) : (s.cqWrite p x).ftu = s.ftu := by
  obtain ⟨uf, uc, up, um, uo, h⟩ := State.cqWrite_writes s p x; rw [h]
@[simp] theorem State.cqWrite_lnk (s : State) (p : Nat) (x : Completion) : (s.cqWrite p x).lnk = s.lnk := by
  obtain ⟨uf, uc, up, um, uo, h⟩ := State.cqWrite_writes s p x; rw [h]
@[simp] theorem State.cqWrite_prt (s : State) (p : Nat) (x : Completion) : (s.cqWrite p x).prt = s.prt := by
  obtain ⟨uf, uc, up, um, uo, h⟩ := State.cqWrite_writes s p x; rw [h]
@[simp] theorem State.cqWrite_swc (s : State) (p : Nat) (x : Completion) : (s.cqWrite p x).swc = s.swc := by
  obtain ⟨uf, uc, up, um, uo, h⟩ := State.cqWrite_writes s p x; rw [h]
@[simp] theorem State.cqWrite_acu (s : State) (p : Nat) (x : Completion) : (s.cqWrite p x).acu = s.acu := by
  obtain ⟨uf, uc, up, um, uo, h⟩ := State.cqWrite_writes s p x; rw [h]
@[simp] theorem State.cqWrite_home (s : State) (p : Nat) (x : Completion) : (s.cqWrite p x).home = s.home := by
  obtain ⟨uf, uc, up, um, uo, h⟩ := State.cqWrite_writes s p x; rw [h]
@[simp] theorem State.cqWrite_mem (s : State) (p : Nat) (x : Completion) : (s.cqWrite p x).mem = s.mem := by
  obtain ⟨uf, uc, up, um, uo, h⟩ := State.cqWrite_writes s p x; rw [h]
@[simp] theorem State.cqWrite_mse (s : State) (p : Nat) (x : Completion) : (s.cqWrite p x).mse = s.mse := by
  obtain ⟨uf, uc, up, um, uo, h⟩ := State.cqWrite_writes s p x; rw [h]
@[simp] theorem State.cqWrite_vfi (s : State) (p : Nat) (x : Completion) : (s.cqWrite p x).vfi = s.vfi := by
  obtain ⟨uf, uc, up, um, uo, h⟩ := State.cqWrite_writes s p x; rw [h]
@[simp] theorem State.cqWrite_evr (s : State) (p : Nat) (x : Completion) : (s.cqWrite p x).evr = s.evr := by
  obtain ⟨uf, uc, up, um, uo, h⟩ := State.cqWrite_writes s p x; rw [h]
@[simp] theorem State.cqWrite_ppu (s : State) (p : Nat) (x : Completion) : (s.cqWrite p x).ppu = s.ppu := by
  obtain ⟨uf, uc, up, um, uo, h⟩ := State.cqWrite_writes s p x; rw [h]
@[simp] theorem State.cqWrite_msc (s : State) (p : Nat) (x : Completion) : (s.cqWrite p x).msc = s.msc := by
  obtain ⟨uf, uc, up, um, uo, h⟩ := State.cqWrite_writes s p x; rw [h]
@[simp] theorem State.cqWrite_eeprom (s : State) (p : Nat) (x : Completion) : (s.cqWrite p x).eeprom = s.eeprom := by
  obtain ⟨uf, uc, up, um, uo, h⟩ := State.cqWrite_writes s p x; rw [h]
@[simp] theorem State.cqWrite_free (s : State) (p : Nat) (x : Completion) : (s.cqWrite p x).free = s.free := by
  obtain ⟨uf, uc, up, um, uo, h⟩ := State.cqWrite_writes s p x; rw [h]
@[simp] theorem State.cqWrite_pending (s : State) (p : Nat) (x : Completion) : (s.cqWrite p x).pending = s.pending := by
  obtain ⟨uf, uc, up, um, uo, h⟩ := State.cqWrite_writes s p x; rw [h]

theorem State.cqDrain_writes (n : Nat) (s : State) (p : Nat) :
    ∃ uf uc up um uo, State.cqDrain n s p = { s with fmp := uf, cmd := uc, pcn := up, mgr := um, out := uo } := by
  induction n generalizing s with
  | zero => exact ⟨_, _, _, _, _, rfl⟩
  | succ n ih =>
    unfold State.cqDrain
    split
    · exact ⟨_, _, _, _, _, rfl⟩
    · rename_i c rest _
      obtain ⟨f, c', p', m, o, h⟩ := State.cqWrite_writes (s.modPair p fun r => { r with held := rest }) p c
      obtain ⟨f', c'', p'', m', o', h'⟩ := ih ((s.modPair p fun r => { r with held := rest }).cqWrite p c)
      exact ⟨f', c'', p'', m', o', by rw [h', h]; rfl⟩

@[simp] theorem State.cqDrain_variant (n : Nat) (s : State) (p : Nat) : (State.cqDrain n s p).variant = s.variant := by
  obtain ⟨uf, uc, up, um, uo, h⟩ := State.cqDrain_writes n s p; rw [h]
@[simp] theorem State.cqDrain_held (n : Nat) (s : State) (p : Nat) : (State.cqDrain n s p).held = s.held := by
  obtain ⟨uf, uc, up, um, uo, h⟩ := State.cqDrain_writes n s p; rw [h]
@[simp] theorem State.cqDrain_clock (n : Nat) (s : State) (p : Nat) : (State.cqDrain n s p).clock = s.clock := by
  obtain ⟨uf, uc, up, um, uo, h⟩ := State.cqDrain_writes n s p; rw [h]
@[simp] theorem State.cqDrain_glb (n : Nat) (s : State) (p : Nat) : (State.cqDrain n s p).glb = s.glb := by
  obtain ⟨uf, uc, up, um, uo, h⟩ := State.cqDrain_writes n s p; rw [h]
@[simp] theorem State.cqDrain_ftu (n : Nat) (s : State) (p : Nat) : (State.cqDrain n s p).ftu = s.ftu := by
  obtain ⟨uf, uc, up, um, uo, h⟩ := State.cqDrain_writes n s p; rw [h]
@[simp] theorem State.cqDrain_lnk (n : Nat) (s : State) (p : Nat) : (State.cqDrain n s p).lnk = s.lnk := by
  obtain ⟨uf, uc, up, um, uo, h⟩ := State.cqDrain_writes n s p; rw [h]
@[simp] theorem State.cqDrain_prt (n : Nat) (s : State) (p : Nat) : (State.cqDrain n s p).prt = s.prt := by
  obtain ⟨uf, uc, up, um, uo, h⟩ := State.cqDrain_writes n s p; rw [h]
@[simp] theorem State.cqDrain_swc (n : Nat) (s : State) (p : Nat) : (State.cqDrain n s p).swc = s.swc := by
  obtain ⟨uf, uc, up, um, uo, h⟩ := State.cqDrain_writes n s p; rw [h]
@[simp] theorem State.cqDrain_acu (n : Nat) (s : State) (p : Nat) : (State.cqDrain n s p).acu = s.acu := by
  obtain ⟨uf, uc, up, um, uo, h⟩ := State.cqDrain_writes n s p; rw [h]
@[simp] theorem State.cqDrain_home (n : Nat) (s : State) (p : Nat) : (State.cqDrain n s p).home = s.home := by
  obtain ⟨uf, uc, up, um, uo, h⟩ := State.cqDrain_writes n s p; rw [h]
@[simp] theorem State.cqDrain_mem (n : Nat) (s : State) (p : Nat) : (State.cqDrain n s p).mem = s.mem := by
  obtain ⟨uf, uc, up, um, uo, h⟩ := State.cqDrain_writes n s p; rw [h]
@[simp] theorem State.cqDrain_mse (n : Nat) (s : State) (p : Nat) : (State.cqDrain n s p).mse = s.mse := by
  obtain ⟨uf, uc, up, um, uo, h⟩ := State.cqDrain_writes n s p; rw [h]
@[simp] theorem State.cqDrain_vfi (n : Nat) (s : State) (p : Nat) : (State.cqDrain n s p).vfi = s.vfi := by
  obtain ⟨uf, uc, up, um, uo, h⟩ := State.cqDrain_writes n s p; rw [h]
@[simp] theorem State.cqDrain_evr (n : Nat) (s : State) (p : Nat) : (State.cqDrain n s p).evr = s.evr := by
  obtain ⟨uf, uc, up, um, uo, h⟩ := State.cqDrain_writes n s p; rw [h]
@[simp] theorem State.cqDrain_ppu (n : Nat) (s : State) (p : Nat) : (State.cqDrain n s p).ppu = s.ppu := by
  obtain ⟨uf, uc, up, um, uo, h⟩ := State.cqDrain_writes n s p; rw [h]
@[simp] theorem State.cqDrain_msc (n : Nat) (s : State) (p : Nat) : (State.cqDrain n s p).msc = s.msc := by
  obtain ⟨uf, uc, up, um, uo, h⟩ := State.cqDrain_writes n s p; rw [h]
@[simp] theorem State.cqDrain_eeprom (n : Nat) (s : State) (p : Nat) : (State.cqDrain n s p).eeprom = s.eeprom := by
  obtain ⟨uf, uc, up, um, uo, h⟩ := State.cqDrain_writes n s p; rw [h]
@[simp] theorem State.cqDrain_free (n : Nat) (s : State) (p : Nat) : (State.cqDrain n s p).free = s.free := by
  obtain ⟨uf, uc, up, um, uo, h⟩ := State.cqDrain_writes n s p; rw [h]
@[simp] theorem State.cqDrain_pending (n : Nat) (s : State) (p : Nat) : (State.cqDrain n s p).pending = s.pending := by
  obtain ⟨uf, uc, up, um, uo, h⟩ := State.cqDrain_writes n s p; rw [h]

theorem State.noteClamp_writes (s : State) (tk : Ticket) (off : Nat) :
    ∃ uc up, s.noteClamp tk off = { s with cmd := uc, pcn := up } := by
  unfold State.noteClamp
  split <;> exact ⟨_, _, rfl⟩

@[simp] theorem State.noteClamp_variant (s : State) (tk : Ticket) (off : Nat) : (s.noteClamp tk off).variant = s.variant := by
  obtain ⟨uc, up, h⟩ := State.noteClamp_writes s tk off; rw [h]
@[simp] theorem State.noteClamp_held (s : State) (tk : Ticket) (off : Nat) : (s.noteClamp tk off).held = s.held := by
  obtain ⟨uc, up, h⟩ := State.noteClamp_writes s tk off; rw [h]
@[simp] theorem State.noteClamp_clock (s : State) (tk : Ticket) (off : Nat) : (s.noteClamp tk off).clock = s.clock := by
  obtain ⟨uc, up, h⟩ := State.noteClamp_writes s tk off; rw [h]
@[simp] theorem State.noteClamp_glb (s : State) (tk : Ticket) (off : Nat) : (s.noteClamp tk off).glb = s.glb := by
  obtain ⟨uc, up, h⟩ := State.noteClamp_writes s tk off; rw [h]
@[simp] theorem State.noteClamp_fmp (s : State) (tk : Ticket) (off : Nat) : (s.noteClamp tk off).fmp = s.fmp := by
  obtain ⟨uc, up, h⟩ := State.noteClamp_writes s tk off; rw [h]
@[simp] theorem State.noteClamp_ftu (s : State) (tk : Ticket) (off : Nat) : (s.noteClamp tk off).ftu = s.ftu := by
  obtain ⟨uc, up, h⟩ := State.noteClamp_writes s tk off; rw [h]
@[simp] theorem State.noteClamp_lnk (s : State) (tk : Ticket) (off : Nat) : (s.noteClamp tk off).lnk = s.lnk := by
  obtain ⟨uc, up, h⟩ := State.noteClamp_writes s tk off; rw [h]
@[simp] theorem State.noteClamp_prt (s : State) (tk : Ticket) (off : Nat) : (s.noteClamp tk off).prt = s.prt := by
  obtain ⟨uc, up, h⟩ := State.noteClamp_writes s tk off; rw [h]
@[simp] theorem State.noteClamp_swc (s : State) (tk : Ticket) (off : Nat) : (s.noteClamp tk off).swc = s.swc := by
  obtain ⟨uc, up, h⟩ := State.noteClamp_writes s tk off; rw [h]
@[simp] theorem State.noteClamp_acu (s : State) (tk : Ticket) (off : Nat) : (s.noteClamp tk off).acu = s.acu := by
  obtain ⟨uc, up, h⟩ := State.noteClamp_writes s tk off; rw [h]
@[simp] theorem State.noteClamp_home (s : State) (tk : Ticket) (off : Nat) : (s.noteClamp tk off).home = s.home := by
  obtain ⟨uc, up, h⟩ := State.noteClamp_writes s tk off; rw [h]
@[simp] theorem State.noteClamp_mem (s : State) (tk : Ticket) (off : Nat) : (s.noteClamp tk off).mem = s.mem := by
  obtain ⟨uc, up, h⟩ := State.noteClamp_writes s tk off; rw [h]
@[simp] theorem State.noteClamp_mse (s : State) (tk : Ticket) (off : Nat) : (s.noteClamp tk off).mse = s.mse := by
  obtain ⟨uc, up, h⟩ := State.noteClamp_writes s tk off; rw [h]
@[simp] theorem State.noteClamp_vfi (s : State) (tk : Ticket) (off : Nat) : (s.noteClamp tk off).vfi = s.vfi := by
  obtain ⟨uc, up, h⟩ := State.noteClamp_writes s tk off; rw [h]
@[simp] theorem State.noteClamp_evr (s : State) (tk : Ticket) (off : Nat) : (s.noteClamp tk off).evr = s.evr := by
  obtain ⟨uc, up, h⟩ := State.noteClamp_writes s tk off; rw [h]
@[simp] theorem State.noteClamp_ppu (s : State) (tk : Ticket) (off : Nat) : (s.noteClamp tk off).ppu = s.ppu := by
  obtain ⟨uc, up, h⟩ := State.noteClamp_writes s tk off; rw [h]
@[simp] theorem State.noteClamp_msc (s : State) (tk : Ticket) (off : Nat) : (s.noteClamp tk off).msc = s.msc := by
  obtain ⟨uc, up, h⟩ := State.noteClamp_writes s tk off; rw [h]
@[simp] theorem State.noteClamp_eeprom (s : State) (tk : Ticket) (off : Nat) : (s.noteClamp tk off).eeprom = s.eeprom := by
  obtain ⟨uc, up, h⟩ := State.noteClamp_writes s tk off; rw [h]
@[simp] theorem State.noteClamp_mgr (s : State) (tk : Ticket) (off : Nat) : (s.noteClamp tk off).mgr = s.mgr := by
  obtain ⟨uc, up, h⟩ := State.noteClamp_writes s tk off; rw [h]
@[simp] theorem State.noteClamp_out (s : State) (tk : Ticket) (off : Nat) : (s.noteClamp tk off).out = s.out := by
  obtain ⟨uc, up, h⟩ := State.noteClamp_writes s tk off; rw [h]
@[simp] theorem State.noteClamp_free (s : State) (tk : Ticket) (off : Nat) : (s.noteClamp tk off).free = s.free := by
  obtain ⟨uc, up, h⟩ := State.noteClamp_writes s tk off; rw [h]
@[simp] theorem State.noteClamp_pending (s : State) (tk : Ticket) (off : Nat) : (s.noteClamp tk off).pending = s.pending := by
  obtain ⟨uc, up, h⟩ := State.noteClamp_writes s tk off; rw [h]

theorem State.complete_writes (s : State) (tk : Ticket) (status result : Nat) :
    ∃ uf uc up um uo, s.complete tk status result = { s with fmp := uf, cmd := uc, pcn := up, mgr := um, out := uo } := by
  have key : ∀ (u : State) (p : Nat) (x : Completion), (∃ c q, u = { s with cmd := c, pcn := q }) →
      ∃ f c q m o, u.cqWrite p x = { s with fmp := f, cmd := c, pcn := q, mgr := m, out := o } := by
    rintro _ p x ⟨c, q, rfl⟩
    obtain ⟨f, c', q', m, o, h⟩ := State.cqWrite_writes { s with cmd := c, pcn := q } p x
    exact ⟨f, c', q', m, o, h⟩
  unfold State.complete
  cases hc : tk.clamp with
  | none =>
    dsimp only
    cases tk.src with
    | side => exact ⟨_, _, _, _, _, rfl⟩
    | ring p =>
      dsimp only
      split
      · exact key _ _ _ ⟨_, _, rfl⟩
      · exact ⟨_, _, _, _, _, rfl⟩
  | some off =>
    obtain ⟨c, q, h⟩ := State.noteClamp_writes s tk off
    dsimp only
    rw [h]
    cases tk.src with
    | side => exact ⟨_, _, _, _, _, rfl⟩
    | ring p =>
      dsimp only
      split
      · exact key _ _ _ ⟨_, _, rfl⟩
      · exact ⟨_, _, _, _, _, rfl⟩

@[simp] theorem State.complete_variant (s : State) (tk : Ticket) (status result : Nat) : (s.complete tk status result).variant = s.variant := by
  obtain ⟨uf, uc, up, um, uo, h⟩ := State.complete_writes s tk status result; rw [h]
@[simp] theorem State.complete_held (s : State) (tk : Ticket) (status result : Nat) : (s.complete tk status result).held = s.held := by
  obtain ⟨uf, uc, up, um, uo, h⟩ := State.complete_writes s tk status result; rw [h]
@[simp] theorem State.complete_clock (s : State) (tk : Ticket) (status result : Nat) : (s.complete tk status result).clock = s.clock := by
  obtain ⟨uf, uc, up, um, uo, h⟩ := State.complete_writes s tk status result; rw [h]
@[simp] theorem State.complete_glb (s : State) (tk : Ticket) (status result : Nat) : (s.complete tk status result).glb = s.glb := by
  obtain ⟨uf, uc, up, um, uo, h⟩ := State.complete_writes s tk status result; rw [h]
@[simp] theorem State.complete_ftu (s : State) (tk : Ticket) (status result : Nat) : (s.complete tk status result).ftu = s.ftu := by
  obtain ⟨uf, uc, up, um, uo, h⟩ := State.complete_writes s tk status result; rw [h]
@[simp] theorem State.complete_lnk (s : State) (tk : Ticket) (status result : Nat) : (s.complete tk status result).lnk = s.lnk := by
  obtain ⟨uf, uc, up, um, uo, h⟩ := State.complete_writes s tk status result; rw [h]
@[simp] theorem State.complete_prt (s : State) (tk : Ticket) (status result : Nat) : (s.complete tk status result).prt = s.prt := by
  obtain ⟨uf, uc, up, um, uo, h⟩ := State.complete_writes s tk status result; rw [h]
@[simp] theorem State.complete_swc (s : State) (tk : Ticket) (status result : Nat) : (s.complete tk status result).swc = s.swc := by
  obtain ⟨uf, uc, up, um, uo, h⟩ := State.complete_writes s tk status result; rw [h]
@[simp] theorem State.complete_acu (s : State) (tk : Ticket) (status result : Nat) : (s.complete tk status result).acu = s.acu := by
  obtain ⟨uf, uc, up, um, uo, h⟩ := State.complete_writes s tk status result; rw [h]
@[simp] theorem State.complete_home (s : State) (tk : Ticket) (status result : Nat) : (s.complete tk status result).home = s.home := by
  obtain ⟨uf, uc, up, um, uo, h⟩ := State.complete_writes s tk status result; rw [h]
@[simp] theorem State.complete_mem (s : State) (tk : Ticket) (status result : Nat) : (s.complete tk status result).mem = s.mem := by
  obtain ⟨uf, uc, up, um, uo, h⟩ := State.complete_writes s tk status result; rw [h]
@[simp] theorem State.complete_mse (s : State) (tk : Ticket) (status result : Nat) : (s.complete tk status result).mse = s.mse := by
  obtain ⟨uf, uc, up, um, uo, h⟩ := State.complete_writes s tk status result; rw [h]
@[simp] theorem State.complete_vfi (s : State) (tk : Ticket) (status result : Nat) : (s.complete tk status result).vfi = s.vfi := by
  obtain ⟨uf, uc, up, um, uo, h⟩ := State.complete_writes s tk status result; rw [h]
@[simp] theorem State.complete_evr (s : State) (tk : Ticket) (status result : Nat) : (s.complete tk status result).evr = s.evr := by
  obtain ⟨uf, uc, up, um, uo, h⟩ := State.complete_writes s tk status result; rw [h]
@[simp] theorem State.complete_ppu (s : State) (tk : Ticket) (status result : Nat) : (s.complete tk status result).ppu = s.ppu := by
  obtain ⟨uf, uc, up, um, uo, h⟩ := State.complete_writes s tk status result; rw [h]
@[simp] theorem State.complete_msc (s : State) (tk : Ticket) (status result : Nat) : (s.complete tk status result).msc = s.msc := by
  obtain ⟨uf, uc, up, um, uo, h⟩ := State.complete_writes s tk status result; rw [h]
@[simp] theorem State.complete_eeprom (s : State) (tk : Ticket) (status result : Nat) : (s.complete tk status result).eeprom = s.eeprom := by
  obtain ⟨uf, uc, up, um, uo, h⟩ := State.complete_writes s tk status result; rw [h]
@[simp] theorem State.complete_free (s : State) (tk : Ticket) (status result : Nat) : (s.complete tk status result).free = s.free := by
  obtain ⟨uf, uc, up, um, uo, h⟩ := State.complete_writes s tk status result; rw [h]
@[simp] theorem State.complete_pending (s : State) (tk : Ticket) (status result : Nat) : (s.complete tk status result).pending = s.pending := by
  obtain ⟨uf, uc, up, um, uo, h⟩ := State.complete_writes s tk status result; rw [h]

end Sys2Proof.Machine
end

