-- ==== Sys2Proof/Laws/Issue.lean ====
section
/-!
SUPPORT. What the wrapper of every command does: acceptance, the take, the queue, and the frame.
-/

namespace Sys2Proof.Machine

@[simp] theorem State.accept_clock (s : State) (c : Cmd) : (s.accept c).clock = s.clock := by
  unfold State.accept; split <;> rfl
@[simp] theorem State.accept_ft (s : State) (c : Cmd) : (s.accept c).ft = s.ft := by
  simp [State.ft]
@[simp] theorem State.accept_glb (s : State) (c : Cmd) : (s.accept c).glb = s.glb := by
  unfold State.accept; split <;> rfl
@[simp] theorem State.accept_msc (s : State) (c : Cmd) : (s.accept c).msc = s.msc := by
  unfold State.accept; split <;> rfl
@[simp] theorem State.accept_ftu (s : State) (c : Cmd) : (s.accept c).ftu = s.ftu := by
  unfold State.accept; split <;> rfl
@[simp] theorem State.accept_variant (s : State) (c : Cmd) : (s.accept c).variant = s.variant := by
  unfold State.accept; split <;> rfl
@[simp] theorem State.accept_lnk (s : State) (c : Cmd) : (s.accept c).lnk = s.lnk := by
  unfold State.accept; split <;> rfl
@[simp] theorem State.accept_prt (s : State) (c : Cmd) : (s.accept c).prt = s.prt := by
  unfold State.accept; split <;> rfl
@[simp] theorem State.accept_swc (s : State) (c : Cmd) : (s.accept c).swc = s.swc := by
  unfold State.accept; split <;> rfl
@[simp] theorem State.accept_acu (s : State) (c : Cmd) : (s.accept c).acu = s.acu := by
  unfold State.accept; split <;> rfl
@[simp] theorem State.accept_home (s : State) (c : Cmd) : (s.accept c).home = s.home := by
  unfold State.accept; split <;> rfl
@[simp] theorem State.accept_mem (s : State) (c : Cmd) : (s.accept c).mem = s.mem := by
  unfold State.accept; split <;> rfl
@[simp] theorem State.accept_mse (s : State) (c : Cmd) : (s.accept c).mse = s.mse := by
  unfold State.accept; split <;> rfl
@[simp] theorem State.accept_vfi (s : State) (c : Cmd) : (s.accept c).vfi = s.vfi := by
  unfold State.accept; split <;> rfl
@[simp] theorem State.accept_evr (s : State) (c : Cmd) : (s.accept c).evr = s.evr := by
  unfold State.accept; split <;> rfl
@[simp] theorem State.accept_ppu (s : State) (c : Cmd) : (s.accept c).ppu = s.ppu := by
  unfold State.accept; split <;> rfl
@[simp] theorem State.accept_mgr (s : State) (c : Cmd) : (s.accept c).mgr = s.mgr := by
  unfold State.accept; split <;> rfl
@[simp] theorem State.accept_free (s : State) (c : Cmd) : (s.accept c).free = s.free := by
  unfold State.accept; split <;> rfl
@[simp] theorem State.accept_held (s : State) (c : Cmd) : (s.accept c).held = s.held := by
  unfold State.accept; split <;> rfl
@[simp] theorem State.accept_eeprom (s : State) (c : Cmd) : (s.accept c).eeprom = s.eeprom := by
  unfold State.accept; split <;> rfl
@[simp] theorem State.accept_pending (s : State) (c : Cmd) : (s.accept c).pending = s.pending := by
  unfold State.accept; split <;> rfl
@[simp] theorem State.accept_fmp (s : State) (c : Cmd) : (s.accept c).fmp = s.fmp := by
  unfold State.accept; split <;> rfl
@[simp] theorem State.accept_port (s : State) (c : Cmd) (k : Nat) : (s.accept c).port k = s.port k := by
  simp [State.port]
@[simp] theorem State.accept_tileLnk (s : State) (c : Cmd) (k : Nat) : (s.accept c).tileLnk k = s.tileLnk k := by
  simp [State.tileLnk]
@[simp] theorem State.accept_lane (s : State) (c : Cmd) (k : Nat) : (s.accept c).lane k = s.lane k := by
  simp [State.lane]
@[simp] theorem State.accept_link (s : State) (c : Cmd) (k : Nat) : (s.accept c).link k = s.link k := by
  simp [State.link]
@[simp] theorem State.accept_swcTile (s : State) (c : Cmd) (k : Nat) : (s.accept c).swcTile k = s.swcTile k := by
  simp [State.swcTile]
@[simp] theorem State.accept_host (s : State) (c : Cmd) (k : Nat) : (s.accept c).host k = s.host k := by
  simp [State.host]
@[simp] theorem State.accept_slice (s : State) (c : Cmd) (k : Nat) : (s.accept c).slice k = s.slice k := by
  simp [State.slice]
@[simp] theorem State.accept_place (s : State) (c : Cmd) (k : Nat) : (s.accept c).place k = s.place k := by
  simp [State.place]
@[simp] theorem State.accept_chan (s : State) (c : Cmd) (k : Nat) : (s.accept c).chan k = s.chan k := by
  simp [State.chan]
@[simp] theorem State.accept_retire (s : State) (c : Cmd) (k : Nat) : (s.accept c).retire k = s.retire k := by
  simp [State.retire]
@[simp] theorem State.accept_engine (s : State) (c : Cmd) (k : Nat) : (s.accept c).engine k = s.engine k := by
  simp [State.engine]
@[simp] theorem State.accept_stream (s : State) (c : Cmd) (k : Nat) : (s.accept c).stream k = s.stream k := by
  simp [State.stream]
@[simp] theorem State.accept_inst (s : State) (c : Cmd) (k : Nat) : (s.accept c).inst k = s.inst k := by
  simp [State.inst]
@[simp] theorem State.accept_binding (s : State) (c : Cmd) (k : Nat) : (s.accept c).binding k = s.binding k := by
  simp [State.binding]
@[simp] theorem State.accept_feed (s : State) (c : Cmd) (k : Nat) : (s.accept c).feed k = s.feed k := by
  simp [State.feed]
@[simp] theorem State.accept_trackers (s : State) (c : Cmd) (k : Nat) : (s.accept c).trackers k = s.trackers k := by
  simp [State.trackers]
@[simp] theorem State.accept_eqLane (s : State) (c : Cmd) (k : Nat) : (s.accept c).eqLane k = s.eqLane k := by
  simp [State.eqLane]
@[simp] theorem State.accept_mgrRead (s : State) (c : Cmd) (a n : Nat) : (s.accept c).mgrRead a n = s.mgrRead a n := by
  simp [State.mgrRead]
@[simp] theorem State.accept_isF (s : State) (c : Cmd) : (s.accept c).isF = s.isF := by
  simp [State.isF]
@[simp] theorem State.accept_streamList (s : State) (c : Cmd) : (s.accept c).streamList = s.streamList := by
  simp [State.streamList]
@[simp] theorem State.accept_now64 (s : State) (c : Cmd) : (s.accept c).now64 = s.now64 := by
  simp [State.now64]
@[simp] theorem State.accept_opReady (s : State) (c : Cmd) (op : Nat) : (s.accept c).opReady op = s.opReady op := by
  simp [State.opReady]
@[simp] theorem State.accept_mscBusy (s : State) (c : Cmd) (op : Nat) : (s.accept c).mscBusy op = s.mscBusy op := by
  simp [State.mscBusy]

/-- Outside module reset a command's effect is `f` inside the frame. -/
theorem act_running {s : State} (h : s.held = none) (f : State → State) : act s f = .next (s.framed (f s)) := by
  simp [act, h]

/-- A register access acts on a module whose FMP answers. -/
theorem actFmp_alive {s : State} (h : s.Alive) (f : State → State) : actFmp s f = .next (s.framed (f s)) := by
  simp [actFmp, act, h.1, h.2]

/-- An instant command of a unit that is there and ready is executed by its body at once. -/
theorem OpSpec.submit_instant {o : OpSpec} {c : Cmd} {s : State} (h : Instant o c s)
    (ht : (o.taken c (s.accept c)).ft = s.ft) (hm : (o.taken c (s.accept c)).mscBusy o.code = false) :
    o.submit c s = (o.body { c.ticket o.code s.ft with data := o.reads c (s.accept c) } c
      (o.taken c (s.accept c))).finish { c.ticket o.code s.ft with data := o.reads c (s.accept c) } := by
  have hs : (o.needsMem c && !s.glb.memSwept) = false := by
    cases hn : o.needsMem c with
    | false => rfl
    | true => simp [h.swept hn]
  simp [OpSpec.submit, OpSpec.issue, h.here, h.ready, hs, h.free, h.granted, h.kind, h.now, OpSpec.enter, ht, h.turn,
    OpSpec.run, hm]

/-- A command that waits takes a place in the launch queue. -/
theorem OpSpec.submit_queues {o : OpSpec} {c : Cmd} {s : State} (h : Queues o c s) :
    o.submit c s = { o.taken c (s.accept c) with ftu := { (o.taken c (s.accept c)).ftu with
      launches := (o.taken c (s.accept c)).ftu.launches ++ [o.entry c s.clock (o.accTime (o.taken c (s.accept c))) c.launch
        (o.reads c (o.taken c (s.accept c)))] } } := by
  have hs : (o.needsMem c && !s.glb.memSwept) = false := by
    cases hn : o.needsMem c with
    | false => rfl
    | true => simp [h.swept hn]
  have hk : (o.aligned || decide (c.launch ≠ 0)) = true := by
    rcases h.kind with hk | hk <;> simp [hk]
  have hr : ¬ 4096 ≤ s.ftu.launches.length := by have := h.room; omega
  have hr : ¬ s.ftu.launches.length ≥ 4096 := hr
  simp only [OpSpec.submit, OpSpec.issue, State.accept_ft, State.accept_opReady, State.accept_mscBusy, State.accept_glb,
    h.here, h.ready, hs, h.free, h.granted, State.accept_ftu, hk, if_neg hr, Bool.not_true, Bool.or_false,
    Bool.false_eq_true, if_false, if_true]

@[simp] theorem State.noteLate_msc (s : State) (c : Cmd) (ft n : Nat) : (s.noteLate c ft n).msc = s.msc := by
  unfold State.noteLate
  dsimp only
  split <;> simp

@[simp] theorem State.unqueue_msc (s : State) (l : Launch) : (s.unqueue l).msc = s.msc := rfl

@[simp] theorem State.noteLate_clock (s : State) (c : Cmd) (ft n : Nat) : (s.noteLate c ft n).clock = s.clock := by
  unfold State.noteLate
  dsimp only
  split <;> simp

@[simp] theorem State.unqueue_clock (s : State) (l : Launch) : (s.unqueue l).clock = s.clock := rfl

@[simp] theorem State.noteLate_variant (s : State) (c : Cmd) (ft n : Nat) : (s.noteLate c ft n).variant = s.variant := by
  unfold State.noteLate
  dsimp only
  split <;> simp

@[simp] theorem State.unqueue_variant (s : State) (l : Launch) : (s.unqueue l).variant = s.variant := rfl

@[simp] theorem State.noteLate_prt (s : State) (c : Cmd) (ft n : Nat) : (s.noteLate c ft n).prt = s.prt := by
  unfold State.noteLate
  dsimp only
  split <;> simp

@[simp] theorem State.unqueue_prt (s : State) (l : Launch) : (s.unqueue l).prt = s.prt := rfl

@[simp] theorem State.noteLate_swc (s : State) (c : Cmd) (ft n : Nat) : (s.noteLate c ft n).swc = s.swc := by
  unfold State.noteLate
  dsimp only
  split <;> simp

@[simp] theorem State.unqueue_swc (s : State) (l : Launch) : (s.unqueue l).swc = s.swc := rfl

@[simp] theorem State.noteLate_acu (s : State) (c : Cmd) (ft n : Nat) : (s.noteLate c ft n).acu = s.acu := by
  unfold State.noteLate
  dsimp only
  split <;> simp

@[simp] theorem State.unqueue_acu (s : State) (l : Launch) : (s.unqueue l).acu = s.acu := rfl

@[simp] theorem State.noteLate_home (s : State) (c : Cmd) (ft n : Nat) : (s.noteLate c ft n).home = s.home := by
  unfold State.noteLate
  dsimp only
  split <;> simp

@[simp] theorem State.unqueue_home (s : State) (l : Launch) : (s.unqueue l).home = s.home := rfl

@[simp] theorem State.noteLate_mem (s : State) (c : Cmd) (ft n : Nat) : (s.noteLate c ft n).mem = s.mem := by
  unfold State.noteLate
  dsimp only
  split <;> simp

@[simp] theorem State.unqueue_mem (s : State) (l : Launch) : (s.unqueue l).mem = s.mem := rfl

@[simp] theorem State.noteLate_mse (s : State) (c : Cmd) (ft n : Nat) : (s.noteLate c ft n).mse = s.mse := by
  unfold State.noteLate
  dsimp only
  split <;> simp

@[simp] theorem State.unqueue_mse (s : State) (l : Launch) : (s.unqueue l).mse = s.mse := rfl

@[simp] theorem State.noteLate_vfi (s : State) (c : Cmd) (ft n : Nat) : (s.noteLate c ft n).vfi = s.vfi := by
  unfold State.noteLate
  dsimp only
  split <;> simp

@[simp] theorem State.unqueue_vfi (s : State) (l : Launch) : (s.unqueue l).vfi = s.vfi := rfl

@[simp] theorem State.noteLate_lnk (s : State) (c : Cmd) (ft n : Nat) : (s.noteLate c ft n).lnk = s.lnk := by
  unfold State.noteLate
  dsimp only
  split <;> simp

@[simp] theorem State.unqueue_lnk (s : State) (l : Launch) : (s.unqueue l).lnk = s.lnk := rfl

@[simp] theorem State.noteLate_ppu (s : State) (c : Cmd) (ft n : Nat) : (s.noteLate c ft n).ppu = s.ppu := by
  unfold State.noteLate
  dsimp only
  split <;> simp

@[simp] theorem State.unqueue_ppu (s : State) (l : Launch) : (s.unqueue l).ppu = s.ppu := rfl

@[simp] theorem State.noteLate_free (s : State) (c : Cmd) (ft n : Nat) : (s.noteLate c ft n).free = s.free := by
  unfold State.noteLate
  dsimp only
  split <;> simp

@[simp] theorem State.unqueue_free (s : State) (l : Launch) : (s.unqueue l).free = s.free := rfl

@[simp] theorem State.noteLate_held (s : State) (c : Cmd) (ft n : Nat) : (s.noteLate c ft n).held = s.held := by
  unfold State.noteLate
  dsimp only
  split <;> simp

@[simp] theorem State.unqueue_held (s : State) (l : Launch) : (s.unqueue l).held = s.held := rfl

@[simp] theorem State.noteLate_eeprom (s : State) (c : Cmd) (ft n : Nat) : (s.noteLate c ft n).eeprom = s.eeprom := by
  unfold State.noteLate
  dsimp only
  split <;> simp

@[simp] theorem State.unqueue_eeprom (s : State) (l : Launch) : (s.unqueue l).eeprom = s.eeprom := rfl

@[simp] theorem State.noteLate_pending (s : State) (c : Cmd) (ft n : Nat) : (s.noteLate c ft n).pending = s.pending := by
  unfold State.noteLate
  dsimp only
  split <;> simp

@[simp] theorem State.unqueue_pending (s : State) (l : Launch) : (s.unqueue l).pending = s.pending := rfl

@[simp] theorem State.unqueue_port (s : State) (l : Launch) (k : Nat) : (s.unqueue l).port k = s.port k := by
  simp [State.port]

@[simp] theorem State.unqueue_tileLnk (s : State) (l : Launch) (k : Nat) : (s.unqueue l).tileLnk k = s.tileLnk k := by
  simp [State.tileLnk]

@[simp] theorem State.unqueue_lane (s : State) (l : Launch) (k : Nat) : (s.unqueue l).lane k = s.lane k := by
  simp [State.lane]

@[simp] theorem State.unqueue_link (s : State) (l : Launch) (k : Nat) : (s.unqueue l).link k = s.link k := by
  simp [State.link]

@[simp] theorem State.unqueue_swcTile (s : State) (l : Launch) (k : Nat) : (s.unqueue l).swcTile k = s.swcTile k := by
  simp [State.swcTile]

@[simp] theorem State.unqueue_host (s : State) (l : Launch) (k : Nat) : (s.unqueue l).host k = s.host k := by
  simp [State.host]

@[simp] theorem State.unqueue_slice (s : State) (l : Launch) (k : Nat) : (s.unqueue l).slice k = s.slice k := by
  simp [State.slice]

@[simp] theorem State.unqueue_place (s : State) (l : Launch) (k : Nat) : (s.unqueue l).place k = s.place k := by
  simp [State.place]

@[simp] theorem State.unqueue_chan (s : State) (l : Launch) (k : Nat) : (s.unqueue l).chan k = s.chan k := by
  simp [State.chan]

@[simp] theorem State.unqueue_retire (s : State) (l : Launch) (k : Nat) : (s.unqueue l).retire k = s.retire k := by
  simp [State.retire]

@[simp] theorem State.unqueue_engine (s : State) (l : Launch) (k : Nat) : (s.unqueue l).engine k = s.engine k := by
  simp [State.engine]

@[simp] theorem State.unqueue_stream (s : State) (l : Launch) (k : Nat) : (s.unqueue l).stream k = s.stream k := by
  simp [State.stream]

@[simp] theorem State.unqueue_inst (s : State) (l : Launch) (k : Nat) : (s.unqueue l).inst k = s.inst k := by
  simp [State.inst]

@[simp] theorem State.unqueue_binding (s : State) (l : Launch) (k : Nat) : (s.unqueue l).binding k = s.binding k := by
  simp [State.binding]

@[simp] theorem State.unqueue_feed (s : State) (l : Launch) (k : Nat) : (s.unqueue l).feed k = s.feed k := by
  simp [State.feed]

@[simp] theorem State.unqueue_trackers (s : State) (l : Launch) (k : Nat) : (s.unqueue l).trackers k = s.trackers k := by
  simp [State.trackers]

@[simp] theorem State.unqueue_eqLane (s : State) (l : Launch) (k : Nat) : (s.unqueue l).eqLane k = s.eqLane k := by
  simp [State.eqLane]

@[simp] theorem State.unqueue_isF (s : State) (l : Launch) : (s.unqueue l).isF = s.isF := by
  simp [State.isF]

@[simp] theorem State.unqueue_streamList (s : State) (l : Launch) : (s.unqueue l).streamList = s.streamList := by
  simp [State.streamList]

@[simp] theorem State.unqueue_now64 (s : State) (l : Launch) : (s.unqueue l).now64 = s.now64 := by
  simp [State.now64]

/-- A due action leaves the queue, its unit executes it, and the FTU notes it (R41 to R45). -/
theorem OpSpec.launchExecute_due {o : OpSpec} {l : Launch} {s : State} (h : Due o l s) (ho : opOf o.code = some o) :
    exec .launchExecute s = .next (s.framed (o.noted l s ((o.body (o.launchTicket l (s.unqueue l)) l.cmd (s.unqueue l)).finish
      (o.launchTicket l (s.unqueue l))))) := by
  have hb : (s.unqueue l).mscBusy o.code = false := h.free
  have ho : opOf l.op = some o := h.code ▸ ho
  show act s State.launchExecute = _
  rw [act_running h.running]
  simp only [State.launchExecute, State.launchFirst, h.next, State.launch, ho, OpSpec.launchNow, OpSpec.run, hb]
  rfl

@[simp] theorem Cmd.ticket_clamp (c : Cmd) (op ft : Nat) : (c.ticket op ft).clamp = none := rfl
@[simp] theorem Cmd.ticket_data (c : Cmd) (op ft : Nat) : (c.ticket op ft).data = [] := rfl
@[simp] theorem Cmd.ticket_ft (c : Cmd) (op ft : Nat) : (c.ticket op ft).ft = ft := rfl
@[simp] theorem minClamp_none_left (b : Option Nat) : minClamp none b = b := by cases b <;> rfl
@[simp] theorem minClamp_none_right (a : Option Nat) : minClamp a none = a := by cases a <;> rfl

/-- A field within its range is not clamped. -/
theorem Cmd.ranged_inside {c : Cmd} {off n lo hi : Nat} (h : lo ≤ c.le off n) (h' : c.le off n ≤ hi) :
    c.ranged off n lo hi = (c.le off n, none) := by
  simp [Cmd.ranged, clampNat, h, h']

/-- What an instant command leaves is what its unit's body answers, on the accepted command's state. -/
theorem OpSpec.answers {o : OpSpec} {i : Instr} {c : Cmd} {s : State} {r : Reply} (hi : exec i s = act s (o.submit c))
    (h : Instant o c s) (ht : o.taken c (s.accept c) = s.accept c) (hd : o.reads c (s.accept c) = [])
    (hb : o.body (c.ticket o.code s.ft) c (s.accept c) = r) :
    exec i s = .next (s.framed (r.finish (c.ticket o.code s.ft))) := by
  have key := OpSpec.submit_instant h (by simp [ht]) (by simpa [ht] using h.free)
  rw [hi, act_running h.running, key, hd, ht]
  exact congrArg (fun r : Reply => Host.Outcome.next (s.framed (r.finish (c.ticket o.code s.ft)))) hb

/-- A body that answers OK completes its command. -/
theorem OpSpec.completes {o : OpSpec} {i : Instr} {c : Cmd} {s : State} {f : State → State} {res : Nat} {cl : Option Nat}
    (hi : exec i s = act s (o.submit c)) (h : Instant o c s) (ht : o.taken c (s.accept c) = s.accept c)
    (hd : o.reads c (s.accept c) = [])
    (hb : o.body (c.ticket o.code s.ft) c (s.accept c) = .ok (f (s.accept c)) res cl) :
    Completes i o.code c s f res cl := by
  rw [Completes, OpSpec.answers hi h ht hd hb]
  simp [Reply.finish, Reply.ok]

/-- A body that answers another status ends its command with it. -/
theorem OpSpec.endsWith {o : OpSpec} {i : Instr} {c : Cmd} {s : State} {st : Nat} {cl : Option Nat}
    (hi : exec i s = act s (o.submit c)) (h : Instant o c s) (ht : o.taken c (s.accept c) = s.accept c)
    (hd : o.reads c (s.accept c) = [])
    (hb : o.body (c.ticket o.code s.ft) c (s.accept c) = .bad (s.accept c) st cl) :
    EndsWith i o.code c s st cl := by
  rw [EndsWith, OpSpec.answers hi h ht hd hb]
  simp [Reply.finish, Reply.bad]

/-- A body that keeps its ticket holds its command. -/
theorem OpSpec.holds {o : OpSpec} {i : Instr} {c : Cmd} {s : State} {f : Ticket → State → State}
    (hi : exec i s = act s (o.submit c)) (h : Instant o c s) (ht : o.taken c (s.accept c) = s.accept c)
    (hd : o.reads c (s.accept c) = [])
    (hb : o.body (c.ticket o.code s.ft) c (s.accept c) = .later (f (c.ticket o.code s.ft) (s.accept c))) :
    Holds i o.code c s f := by
  rw [Holds, OpSpec.answers hi h ht hd hb]
  rfl

/-- A course-aligned command, or one with a launch time, takes its place. -/
theorem OpSpec.takesPlace {o : OpSpec} {i : Instr} {c : Cmd} {s : State} (hi : exec i s = act s (o.submit c))
    (h : Queues o c s) (ht : (o.taken c (s.accept c)).ftu = (s.accept c).ftu) : TakesPlace i o c s := by
  rw [TakesPlace, hi, act_running h.running, OpSpec.submit_queues h, ht]
  simp

/-- A due action whose body answers OK is launched. -/
theorem OpSpec.launches {o : OpSpec} {l : Launch} {s : State} {f : State → State} {res : Nat} {cl : Option Nat}
    (h : Due o l s) (ho : opOf o.code = some o)
    (hb : o.body (o.launchTicket l (s.unqueue l)) l.cmd (s.unqueue l) = .ok (f (s.unqueue l)) res cl) :
    Launches o l s f res cl := by
  rw [Launches, OpSpec.launchExecute_due h ho, hb]
  simp [Reply.finish, Reply.ok]

/-- A due action whose body answers another status ends with it. -/
theorem OpSpec.launchEnds {o : OpSpec} {l : Launch} {s : State} {st : Nat} {cl : Option Nat}
    (h : Due o l s) (ho : opOf o.code = some o)
    (hb : o.body (o.launchTicket l (s.unqueue l)) l.cmd (s.unqueue l) = .bad (s.unqueue l) st cl) :
    LaunchEnds o l s st cl := by
  rw [LaunchEnds, OpSpec.launchExecute_due h ho, hb]
  simp [Reply.finish, Reply.bad]

/-- A due action whose body keeps its ticket is held by its unit. -/
theorem OpSpec.launchHolds {o : OpSpec} {l : Launch} {s : State} {f : Ticket → State → State}
    (h : Due o l s) (ho : opOf o.code = some o)
    (hb : o.body (o.launchTicket l (s.unqueue l)) l.cmd (s.unqueue l) = .later (f (o.launchTicket l (s.unqueue l)) (s.unqueue l))) :
    LaunchHolds o l s f := by
  rw [LaunchHolds, OpSpec.launchExecute_due h ho, hb]
  rfl

end Sys2Proof.Machine
end

