-- ==== Sys2Proof/Laws/Manager.lean ====
section
/-!
SUPPORT. Reads of the manager's memory after writes, and the bytes that a number has.
-/

namespace Sys2Proof

@[simp] theorem leBytes_length (n v : Nat) : (leBytes n v).length = n := by
  induction n generalizing v with
  | zero => rfl
  | succ n ih => simp [leBytes, ih]

/-- The bytes of a number are those of its remainder. -/
theorem leBytes_mod (n v m : Nat) (h : n ≤ m) : leBytes n (v % 2 ^ (8 * m)) = leBytes n v := by
  induction n generalizing v m with
  | zero => rfl
  | succ n ih =>
    obtain ⟨m, rfl⟩ : ∃ k, m = k + 1 := ⟨m - 1, by omega⟩
    have e : 2 ^ (8 * (m + 1)) = 256 * 2 ^ (8 * m) := by rw [Nat.mul_add, Nat.pow_add]; omega
    have h1 : v % 2 ^ (8 * (m + 1)) / 256 = v / 256 % 2 ^ (8 * m) := by
      rw [e, Nat.mod_mul, Nat.add_mul_div_left _ _ (by decide : 0 < 256),
        Nat.div_eq_of_lt (Nat.mod_lt v (by decide : 256 > 0)), Nat.zero_add]
    have h2 : BitVec.ofNat 8 (v % 2 ^ (8 * (m + 1))) = BitVec.ofNat 8 v := by
      apply BitVec.eq_of_toNat_eq
      simp only [BitVec.toNat_ofNat]
      rw [e]
      exact Nat.mod_mul_right_mod v 256 _
    simp only [leBytes, h1, h2, ih _ _ (by omega : n ≤ m)]

end Sys2Proof

namespace Sys2Proof.Machine

/-- A byte outside those written reads as before. -/
theorem tget_mgrPut_ne {m : Tbl Byte} {a b : Nat} {bs : List Byte} (h : ∀ k < bs.length, b ≠ (a + k) % 2 ^ 64) :
    tget 0 (mgrPut m a bs) b = tget 0 m b := by
  induction bs generalizing m a with
  | nil => rfl
  | cons x bs ih =>
    have h0 : b ≠ a % 2 ^ 64 := by simpa using h 0 (by simp)
    rw [mgrPut, ih (fun k hk => by
      have := h (k + 1) (by simp; omega)
      rwa [show a + (k + 1) = a + 1 + k by omega] at this), tget_tset_ne _ _ h0]

/-- A byte that was written reads as written, as long as the write does not run round the address space. -/
theorem tget_mgrPut_mem {m : Tbl Byte} {a i : Nat} {bs : List Byte} (hl : bs.length ≤ 2 ^ 64) (hi : i < bs.length) :
    tget 0 (mgrPut m a bs) ((a + i) % 2 ^ 64) = bs[i] := by
  induction bs generalizing m a i with
  | nil => simp at hi
  | cons x bs ih =>
    cases i with
    | zero =>
      rw [mgrPut, tget_mgrPut_ne]
      · simp
      · intro k hk
        simp only [List.length_cons] at hl
        omega
    | succ i =>
      have e : a + (i + 1) = a + 1 + i := by omega
      simp only [List.length_cons] at hl hi
      rw [mgrPut, e, ih (by omega) (by omega)]
      simp

/-- What was written is read back. -/
theorem State.mgrRead_mgrWrite (s : State) (a : Nat) (bs : List Byte) (hl : bs.length ≤ 2 ^ 64) :
    (s.mgrWrite a bs).mgrRead a bs.length = bs := by
  apply List.ext_getElem
  · simp [State.mgrRead]
  · intro i h1 h2
    simp only [State.mgrRead, State.mgrWrite, List.getElem_map, List.getElem_range]
    exact tget_mgrPut_mem hl h2

end Sys2Proof.Machine
end

