-- ==== Sys2Proof/Tests/Slice0.lean ====
section
/-!
SUPPORT. Tests. For every statement with hypotheses a named witness: states and operands that meet the hypotheses of each of
its clauses together. Then ill-formed commands that WellFormed refuses, numbers that the spec works out, and single steps on
small states. Expected numbers come from the spec's cases and rules, cited at each test.
-/

namespace Sys2Proof.Tests

open Sys2Proof Sys2Proof.Machine

-- One theorem at a time: with each on its own thread this file alone asks for more stacks than the memory limit holds.
set_option Elab.async false

/-! ### Small states and commands -/

/-- The value of a descriptor whose listed fields (byte offset, bytes, value) hold these values. -/
def fieldsValue : List (Nat × Nat × Nat) → Nat
  | [] => 0
  | f :: fs => f.2.2 % 2 ^ (8 * f.2.1) * 2 ^ (8 * f.1) + fieldsValue fs

/-- A command of ring pair 0 with the named fields. -/
def cmd (fields : List (Nat × Nat × Nat)) : Cmd := { src := .ring 0, desc := BitVec.ofNat 512 (fieldsValue fields) }
/-- The same as a command of the side entry. -/
def side (fields : List (Nat × Nat × Nat)) : Cmd := { src := .side, desc := BitVec.ofNat 512 (fieldsValue fields) }

/-- Readiness of a module that has come up whole. -/
def allReady : Glb :=
  { ready := true, fmpReady := true, sramSwept := true, fwVerified := true, ftuRun := true, eqLoaded := true
    coreRun := true, homeRun := true, memTrained := true, memSwept := true, mseRun := true, ppuRun := true
    evrRun := true, readyFt := 90000 }

/-- Ring pair 0 as a manager has set it up. -/
def pair0 : RingPair :=
  { sqBase := 0x10000, cqBase := 0x20000, en := true, state := .running, phase := true }

/-- A K1024-F that has started, at FT = 100,000 ns, with ring pair 0 running and nothing on its ports. -/
def up : State :=
  { glb := allReady, clock := 1600000
    fmp := { linkUp := true, bme := true, msixEn := true }
    cmd := { pairs := [(0, pair0)] }
    ftu := { courseNum := 12, boundary := 98304, nextBoundary := 106496, recent := [(12, 98304), (11, 90112)] }
    home := { slices := (List.range 16).map fun k => (k, { running := true }) }
    mem := { trained := true, swept := true, listLoaded := true }
    mse := { engines := (List.range 4).map fun k => (k, { running := true }) }
    msc := { state := .running } }

/-- A course-aligned action of pair 0 that falls due at the last boundary. -/
def due (op : Nat) (fields : List (Nat × Nat × Nat)) : Launch :=
  { op := op, cmd := cmd fields, launch := 0, accepted := 1500000, a := 93750, aligned := true, e := 94006, clamped := false }

/-- The module with one action in the launch queue. -/
def withDue (l : Launch) (s : State) : State := { s with ftu := { s.ftu with launches := [l] } }

/-- The module with a host on port 16, which has CHN 7, and one placed range of 1 GiB behind port 8. -/
def homeUp : State :=
  let s := up.setPort 16 { cfg := { en := true, role := 1 }, state := .up, active := true }
  { s with home := { s.home with hosts := [(7, { who := 16, valid := true, inc := 3 })]
                                 places := [(0, some { base := 0, n := 30, target := { port := 8 } })] } }

/-- A read of FMA 0 by that host. -/
def read0 : Msg := { kind := .memRdData, reqPort := 16, stamp := 1599000, tag := 9 }

/-- An open transaction of that read. -/
def txn0 : Txn := { id := 3, line := 0, kind := .request, msg := read0, chn := some 7 }

/-- The same with a directory store, whose bucket that read waits for. -/
def storeUp : State :=
  State.setSlice { homeUp with home := { homeUp.home with storeBase := 0x100000000, storeLog2 := 20 } } 0
    { running := true, txns := [{ txn0 with storeRead := true }] }

/-- The same with that line in a slot of its bucket, and in a way. -/
def storeFull : State :=
  (storeUp.storeVictim 0 (storeUp.bucketOf 0) 1 { line := 0, entry := { state := 2, ptrs := [(7, 3)] } } none).modSlice 0
    fun x => { x with ways := [(5, some { line := 0, entry := {} })] }

/-- The slots of those buckets, and the slot of that line. -/
def bucketUp : List SlotView := (storeUp.bucket 0 (storeUp.bucketOf 0)).get (by decide +kernel)
def bucketFull : List SlotView := (storeFull.bucket 0 (storeFull.bucketOf 0)).get (by decide +kernel)

/-- A victim on its way to that store. -/
def victimUp : State := storeUp.setSlice 0 { running := true, victims := [{ line := 0, entry := { state := 2, ptrs := [(7, 3)] } }] }
def bucketVic : List SlotView := (victimUp.bucket 0 (victimUp.bucketOf 0)).get (by decide +kernel)

def slotFull : Nat × Nat × DirEntry := ((slotEntries bucketFull).find? fun y => y.2.1 == 0).get (by decide +kernel)
theorem slotFull_eq : ((slotEntries bucketFull).find? fun y => y.2.1 == 0) = some slotFull := (Option.some_get _).symm
theorem bucketUp_eq : storeUp.bucket 0 (storeUp.bucketOf 0) = some bucketUp := (Option.some_get _).symm
theorem bucketFull_eq : storeFull.bucket 0 (storeFull.bucketOf 0) = some bucketFull := (Option.some_get _).symm
theorem bucketVic_eq : victimUp.bucket 0 (victimUp.bucketOf 0) = some bucketVic := (Option.some_get _).symm

/-- A cell of that read from tile 1 to tile 0. -/
def cell0 : Cell :=
  { dstTile := 0, dstOff := 16, srcTile := 1, srcOff := 0, cls := 0, vfi := 0, stamp := 1599000, seq := 0, lgen := 0
    poison := 0, type := 0, first := true, last := true, quarters := 1, msg := read0, left := 1, place := 0 }

/-- A window of 1 GiB of shared memory at FMA 0 behind port 8. -/
def win0 : Win := { valid := true, dc := false, kind := 0, log2 := 30, ld := 0, port := 8, dpa := 0, fma := 0, target := 0 }

/-- The module with that host bound to instance 0, which has the window, and with a region that lets its requester
read and write there; port 8 is a downstream port that is up. -/
def hostUp : State :=
  let s := homeUp.setPort 16 { cfg := { en := true, role := 1 }, state := .up, active := true, mode := 2, allow := 6 }
  let s := s.setPort 8 { cfg := { en := true }, state := .up, active := true, mode := 2, cxl := true, width := 2, rate := 6 }
  let s := (s.setBinding 288 (some { vfi := 0, owner := 16, vppb := 0, role := 1 })).setBinding 152
    (some { vfi := 0, owner := 16, vppb := 1, role := 0 })
  let s := s.setInst 0 { windows := [(0, BitVec.ofNat 256 win0.image)] }
  { s with acu := { s.acu with service := true, active := { regions := [(0, 0x1E0017)], req := [(0, { valid := true }), (3836, { valid := true })], portMap := [(16, (0, 1))] } } }

/-- An outbound stream from coherent memory to the drive on port 8. -/
def stream0 : Stream :=
  { engine := 0, slot := 0, inbound := false, coherent := true, tlp512 := true, keepSilt := false, chunkLog2 := 12, blockLog2 := 9
    port := 8, vfi := 0, rate := 400, lead := 10, window := 0, dbufLog2 := 16, stage := 0x40000000, stageLog2 := 16, ctrl := 0, silt := 0
    siltLog2 := 13, dest := 0, destLog2 := 20, state := .running, pos := 0, ack := 0, prod := 0, cons := 0, siltHead := 0, siltTail := 0
    lastProd := 0, courseFrom := 0, opened := 0 }

/-- A descriptor of such a stream, as it stands in the manager's memory. -/
def streamData : List Byte :=
  leBytes 128 (fieldsValue [(1, 1, 1), (2, 1, 12), (3, 1, 9), (4, 2, 8), (8, 4, 400), (12, 2, 10), (24, 1, 16), (40, 1, 13)])

/-- The module with that host and that stream as handle 0. -/
def streamUp (d : Stream) : State := hostUp.setStream 0 (some d)

/-- The same with every slot of engine 1 in use. -/
def fullSlots : State :=
  { streamUp stream0 with mse := { up.mse with streams :=
      (0, some stream0) :: (List.range 1024).map fun k => (k + 1, some { stream0 with engine := 1, slot := k }) } }

/-- A window of 1 GiB of shared memory at FMA 2^31. -/
def win1 : Win := { win0 with kind := 1, fma := 0x80000000, dpa := 0x80000000 }

/-- The module while RESET_N is held. -/
def heldReset : State := { State.reset with held := some .resetPin }

/-- A command that waits, of pair 0. -/
def ticket0 : Ticket := (cmd []).ticket 0x78 90000

/-- The state that a decision leaves. -/
def decided : Decision → State
  | .done s => s
  | _ => State.reset

theorem decided_done {d : Decision} (h : (match d with | .done _ => true | _ => false) = true) : d = .done (decided d) := by
  cases d <;> simp_all [decided]

theorem decided_retry {d : Decision} (h : (match d with | .retry => true | _ => false) = true) : d = .retry := by
  cases d <;> simp_all

theorem takesOf {o : OpSpec} {c : Cmd} {s : State}
    (h : s.held = none ∧ o.absent c (s.accept c) = false ∧ s.opReady o.code = true ∧
      (o.needsMem c = true → s.glb.memSwept = true) ∧ s.mscBusy o.code = false ∧ o.refuse c (s.accept c) = none) :
    Takes o c s :=
  ⟨h.1, h.2.1, h.2.2.1, h.2.2.2.1, h.2.2.2.2.1, h.2.2.2.2.2⟩

theorem instantOf {o : OpSpec} {c : Cmd} {s : State}
    (h : (s.held = none ∧ o.absent c (s.accept c) = false ∧ s.opReady o.code = true ∧
      (o.needsMem c = true → s.glb.memSwept = true) ∧ s.mscBusy o.code = false ∧ o.refuse c (s.accept c) = none) ∧
      o.aligned = false ∧ c.launch = 0 ∧ (o.taken c (s.accept c)).ahead (c.ticket o.code s.ft).order = false) :
    Instant o c s :=
  ⟨takesOf h.1, h.2.1, h.2.2.1, h.2.2.2⟩

theorem queuesOf {o : OpSpec} {c : Cmd} {s : State}
    (h : (s.held = none ∧ o.absent c (s.accept c) = false ∧ s.opReady o.code = true ∧
      (o.needsMem c = true → s.glb.memSwept = true) ∧ s.mscBusy o.code = false ∧ o.refuse c (s.accept c) = none) ∧
      (o.aligned = true ∨ c.launch ≠ 0) ∧ s.ftu.launches.length < 4096) :
    Queues o c s :=
  ⟨takesOf h.1, h.2.1, h.2.2⟩

theorem dueOf {o : OpSpec} {l : Launch} {s : State}
    (h : s.held = none ∧ pickLaunch s s.ftu.launches = some l ∧ l.op = o.code ∧ s.mscBusy o.code = false) :
    Due o l s :=
  ⟨h.1, h.2.1, h.2.2.1, h.2.2.2⟩

/-! ### The hypotheses of every statement can be met -/

/-- The selection value 0 is no clamp for any counter. -/
theorem selClamped_none (i : Nat) : selClamped i 0 = false := by
  simp [selClamped, bitsOf]

/-- No slot of engine 1 is free there. -/
theorem fullSlots_full : fullSlots.freeSlot 1 = none := by
  have h : fullSlots.streamList = (0, stream0) :: (List.range 1024).map fun k => (k + 1, { stream0 with engine := 1, slot := k }) := by
    simp only [State.streamList, fullSlots, List.filterMap_cons, Option.map_some, List.filterMap_map, Function.comp_def]
    rw [List.filterMap_eq_map']
  simp only [State.freeSlot, h, List.find?_eq_none]
  intro n hn
  simp [stream0] at hn ⊢
  omega

/-- The same for engine 1 in an action that is due there. -/
theorem fullSlots_due {l : Launch} (h : l.cmd.byte 16 = 1) : (withDue l fullSlots).freeSlot (l.cmd.byte 16) = none := by
  rw [h]
  exact fullSlots_full

/-- Witnesses of the hypotheses of `StepRunsFrontCommand`. -/
theorem witness_StepRunsFrontCommand :
    (∃ (i : Instr) (rest : List Instr) (s : State), s.pending = i :: rest) ∧
    (∃ s : State, (s.pending = [] ∧ s.held ≠ none)) :=
  ⟨⟨.courseBoundary, [], { up with pending := [.courseBoundary] }, by decide +kernel⟩,
   ⟨{ State.reset with held := some .supply }, by decide +kernel⟩⟩

/-- Witnesses of the hypotheses of `IdleStepAddsOnePhaseUnit`. -/
theorem witness_IdleStepAddsOnePhaseUnit :
    ∃ s : State, (s.pending = [] ∧ s.held = none ∧ s.acu.writes = []) :=
  ⟨up, by decide +kernel⟩

/-- Witnesses of the hypotheses of `HeldModuleIgnoresCommands`. -/
theorem witness_HeldModuleIgnoresCommands :
    ∃ (s : State), s.held ≠ none :=
  ⟨{ up with held := some .supply }, by decide +kernel⟩

/-- Witnesses of the hypotheses of `GlobalOpcodesComplete`. -/
theorem witness_GlobalOpcodesComplete :
    (∃ (c : Cmd) (s : State), Instant opNop c s) ∧
    (∃ (c : Cmd) (s : State), Instant opGlbIdentify c s) ∧
    (∃ (c : Cmd) (s : State), Instant opRingClampRead c s) ∧
    (∃ (c : Cmd) (s : State), Instant opEventFilterSet c s) ∧
    (∃ (s : State), s.held = none) :=
  ⟨⟨cmd [(16, 8, 0x5000)], up, instantOf (by decide +kernel)⟩,
   ⟨cmd [(16, 8, 0x5000)], up, instantOf (by decide +kernel)⟩,
   ⟨cmd [(16, 1, 64), (17, 1, 1)], up, instantOf (by decide +kernel)⟩,
   ⟨cmd [(16, 8, 0x5000)], up, instantOf (by decide +kernel)⟩,
   ⟨up, by decide +kernel⟩⟩

/-- Witnesses of the hypotheses of `CompletionIsWrittenAtTheCqTail`. -/
theorem witness_CompletionIsWrittenAtTheCqTail :
    (∃ (s : State) (tk : Ticket) (p : Ring), (tk.src = .ring p ∧ tk.clamp = none ∧ (s.pair p).state = .running ∧ (s.pair p).held = [] ∧ (s.pair p).irqEn = false)) ∧
    (∃ (s : State) (tk : Ticket) (p : Ring), (tk.src = .ring p ∧ tk.clamp = none ∧ (s.pair p).state = .running ∧ (s.pair p).held = [] ∧ (s.pair p).irqEn = false) ∧
      let r := s.pair p
      let a := r.cqBase + r.cqTail * 16
      ∃ b, (b < 2 ^ 64 ∧ (∀ k < 16, b ≠ (a + k) % 2 ^ 64))) ∧
    (∃ (s : State) (tk : Ticket) (p : Ring), (tk.src = .ring p ∧ tk.clamp = none ∧ (s.pair p).state = .running ∧ (s.pair p).held = [] ∧ (s.pair p).irqEn = false) ∧
      ∃ q, q ≠ p.val) :=
  ⟨⟨{ up with cmd := { up.cmd with pairs := [(0, { pair0 with cqTail := 63 })] } }, { src := .ring 0, tag := 7 }, 0, by decide +kernel⟩,
   ⟨{ up with cmd := { up.cmd with pairs := [(0, { pair0 with cqTail := 63 })] } }, { src := .ring 0, tag := 7 }, 0, by decide +kernel, 0x30000, by decide +kernel⟩,
   ⟨{ up with cmd := { up.cmd with pairs := [(0, { pair0 with cqTail := 63 })] } }, { src := .ring 0, tag := 7 }, 0, by decide +kernel, 1, by decide +kernel⟩⟩

/-- Witnesses of the hypotheses of `ClampIsCountedOnItsRing`. -/
theorem witness_ClampIsCountedOnItsRing :
    (∃ (tk : Ticket) (p : Ring) (off : Nat), (tk.src = .ring p ∧ tk.clamp = some off)) ∧
    (∃ (tk : Ticket) (off : Nat), (tk.src = .side ∧ tk.clamp = some off)) :=
  ⟨⟨{ src := .ring 0, clamp := some 18 }, 0, 18, by decide +kernel⟩,
   ⟨{ src := .side, clamp := some 18 }, 18, by decide +kernel⟩⟩

/-- Witnesses of the hypotheses of `AbsentOrNotReadyHasNoEffect`. -/
theorem witness_AbsentOrNotReadyHasNoEffect :
    (∃ (o : OpSpec) (c : Cmd) (s : State), o.absent c (s.accept c) = true) ∧
    (∃ (o : OpSpec) (c : Cmd) (s : State), (o.absent c (s.accept c) = false ∧ s.opReady o.code = false)) ∧
    (∃ (o : OpSpec) (c : Cmd) (s : State), (o.absent c (s.accept c) = false ∧ s.opReady o.code = true ∧ o.needsMem c = true ∧ s.glb.memSwept = false)) :=
  ⟨⟨opPortDisable, cmd [(4, 4, 1023)], { up with variant := .k512B }, by decide +kernel⟩,
   ⟨opAcuQuery, cmd [], { up with glb := { up.glb with sramSwept := false } }, by decide +kernel⟩,
   ⟨opDirStoreSet, cmd [], { up with glb := { up.glb with memSwept := false } }, by decide +kernel⟩⟩

/-- Witnesses of the hypotheses of `AlignedTimeOpcodesWaitThenAct`. -/
theorem witness_AlignedTimeOpcodesWaitThenAct :
    (∃ (c : Cmd) (s : State), Queues opTimeCourseSet c s) ∧
    (∃ (c : Cmd) (s : State), Queues opTimeSyncSet c s) ∧
    (∃ (c : Cmd) (s : State), Queues opTimeSyncOutSet c s) ∧
    (∃ (l : Launch) (s : State), Due opTimeCourseSet l s) ∧
    (∃ (l : Launch) (s : State), Due opTimeSyncSet l s ∧
      (∀ i, partSet l.cmd i = true) ∧
      (bitsOf (l.cmd.le 16 4) 2 1 ≠ 3 ∧ 1 ≤ l.cmd.le 24 2 ∧ l.cmd.le 24 2 ≤ 4096 ∧ (syncRange (l.cmd.le 24 2) s.ftu.len).1 ≤ l.cmd.le 20 4 ∧ l.cmd.le 20 4 ≤ (syncRange (l.cmd.le 24 2) s.ftu.len).2)) ∧
    (∃ (l : Launch) (s : State), Due opTimeSyncOutSet l s ∧
      (∀ i, partSet l.cmd i = true)) :=
  ⟨⟨cmd [], up, queuesOf (by decide +kernel)⟩,
   ⟨cmd [], up, queuesOf (by decide +kernel)⟩,
   ⟨cmd [], up, queuesOf (by decide +kernel)⟩,
   ⟨due 0x20 [(16, 1, 9)], withDue (due 0x20 [(16, 1, 9)]) up, dueOf (by decide +kernel)⟩,
   ⟨due 0x21 [(16, 4, 1), (20, 4, 8192), (24, 2, 1)], withDue (due 0x21 [(16, 4, 1), (20, 4, 8192), (24, 2, 1)]) up, dueOf (by decide +kernel), fun i => rfl, by decide +kernel⟩,
   ⟨due 0x22 [(16, 4, 1), (20, 2, 4097)], withDue (due 0x22 [(16, 4, 1), (20, 2, 4097)]) up, dueOf (by decide +kernel), fun i => rfl⟩⟩

/-- Witnesses of the hypotheses of `InstantTimeOpcodes`. -/
theorem witness_InstantTimeOpcodes :
    (∃ (c : Cmd) (s : State), Instant opTimeMark c s) ∧
    (∃ (c : Cmd) (s : State), Instant opTimeLaunchQuery c s) ∧
    (∃ (c : Cmd) (s : State), Instant opTimeIslandCheck c s) ∧
    (∃ (c : Cmd) (s : State), Instant opTimeLaunchCancel c s) :=
  ⟨⟨cmd [(18, 2, 77)], withDue { due 0x20 [(2, 2, 77)] with e := 120000, launch := 120000 } up, instantOf (by decide +kernel)⟩,
   ⟨cmd [(18, 2, 77)], withDue { due 0x20 [(2, 2, 77)] with e := 120000, launch := 120000 } up, instantOf (by decide +kernel)⟩,
   ⟨cmd [(18, 2, 77)], withDue { due 0x20 [(2, 2, 77)] with e := 120000, launch := 120000 } up, instantOf (by decide +kernel)⟩,
   ⟨cmd [(18, 2, 77)], withDue { due 0x20 [(2, 2, 77)] with e := 120000, launch := 120000 } up, instantOf (by decide +kernel)⟩⟩

/-- Witnesses of the hypotheses of `FabricTimeEvents`. -/
theorem witness_FabricTimeEvents :
    (∃ (s : State), (s.held = none ∧ s.ftu.refLost = false)) ∧
    (∃ (s : State), s.held = none) ∧
    (∃ (e : SyncEdge) (s : State), (s.held = none ∧ e.second = false ∧ s.ftu.inEn = false)) ∧
    (∃ (e : SyncEdge) (s : State), (s.held = none ∧ e.second = false ∧ s.ftu.inEn = true ∧ (s.ftu.sense e s.clock).timing e = true ∧ s.ftu.refEdge = none)) ∧
    (∃ (s : State), (s.held = none ∧ s.ftu.inEn = true ∧ s.ftu.holdover = false ∧ s.ftu.standby = false ∧ s.ftu.source = false ∧ s.ftu.present = true ∧ s.ftu.lastValid.getD s.ftu.enabledAt + 48 * s.ftu.period ≤ s.clock)) ∧
    (∃ (offs : List (Island × Int)) (s : State), (s.held = none ∧ (∀ x ∈ offs, x.2.natAbs ≤ 16) ∧ s.ftu.checks = [] ∧ s.cmd.behind = [] ∧ s.ftu.lastBeacon + 1024 ≤ s.ft)) ∧
    (∃ (s : State), (s.held = none ∧ s.ftu.outEn = true ∧ s.ftu.standby = false ∧ s.outDue s.ftu.courseNum s.ftu.boundary = true)) :=
  ⟨⟨up, by decide +kernel⟩,
   ⟨up, by decide +kernel⟩,
   ⟨{}, up, by decide +kernel⟩,
   ⟨{}, { up with ftu := { up.ftu with inEn := true, pol := 1 } }, by decide +kernel⟩,
   ⟨{ up with ftu := { up.ftu with inEn := true, present := true, enabledAt := 1206784 } }, by decide +kernel⟩,
   ⟨[(3, -16)], up, by decide +kernel⟩,
   ⟨{ up with ftu := { up.ftu with outEn := true, courseNum := 12 } }, by decide +kernel⟩⟩

/-- Witnesses of the hypotheses of `CourseBoundaryPasses`. -/
theorem witness_CourseBoundaryPasses :
    (∃ s : State, (s.held = none ∧ s.boundaryDue = false)) ∧
    (∃ s : State, (s.held = none ∧ s.boundaryDue = true ∧ s.ftu.launches = [])) ∧
    (∃ s : State, s.held = none ∧
      ∃ l : Launch, (s.boundaryDue = true ∧ s.ftu.launches = [l] ∧ l.op = opTimeCourseSet.code ∧ l.aligned = true ∧ l.e ≤ s.ftu.nextBoundary ∧ s.ftu.inEn = false)) :=
  ⟨⟨up, by decide +kernel⟩,
   ⟨{ up with clock := 1703936 }, by decide +kernel⟩,
   ⟨withDue (due 0x20 []) { up with clock := 1703936 }, by decide +kernel, due 0x20 [], by decide +kernel⟩⟩

/-- Witnesses of the hypotheses of `LaunchEntryFollowsTheLead`. -/
theorem witness_LaunchEntryFollowsTheLead :
    (∃ (o : OpSpec), o.aligned = true) ∧
    (∃ (o : OpSpec), o.aligned = false) :=
  ⟨⟨opTimeCourseSet, by decide +kernel⟩,
   ⟨opTimeMark, by decide +kernel⟩⟩

/-- Witnesses of the hypotheses of `DueActionsExecuteInOrder`. -/
theorem witness_DueActionsExecuteInOrder :
    (∃ (s : State) (q : List Launch) (l : Launch), pickLaunch s q = some l) ∧
    (∃ (s : State) (q : List Launch) (l : Launch), pickLaunch s q = some l ∧
      ∃ m, (m ∈ q ∧ m.due s = true)) :=
  ⟨⟨up, [{ due 0x20 [] with accepted := 9 }, due 0x21 []], { due 0x20 [] with accepted := 9 }, by decide +kernel⟩,
   ⟨up, [{ due 0x20 [] with accepted := 9 }, due 0x21 []], { due 0x20 [] with accepted := 9 }, by decide +kernel, due 0x21 [], by decide +kernel⟩⟩

/-- Witnesses of the hypotheses of `RotatingKeyIsFair`. -/
theorem witness_RotatingKeyIsFair :
    (∃ (size : Nat), 0 < size ∧
      ∃ p q, (p < size ∧ q < size ∧ p ≠ q)) ∧
    (∃ (size : Nat), 0 < size ∧
      ∃ p, p < size) :=
  ⟨⟨64, by decide +kernel, 0, 63, by decide +kernel⟩,
   ⟨64, by decide +kernel, 63, by decide +kernel⟩⟩

/-- Witnesses of the hypotheses of `EarliestDescriptorIsTaken`. -/
theorem witness_EarliestDescriptorIsTaken :
    (∃ (slot : Nat) (t : Tbl RingPair) (p : Nat) (d : WaitDesc), pickTake slot t = some (p, d)) ∧
    (∃ (slot : Nat) (t : Tbl RingPair) (p : Nat) (d : WaitDesc), pickTake slot t = some (p, d) ∧
      ∃ q r e, ((q, r) ∈ t ∧ r.takeable q = some e)) :=
  ⟨⟨0, [(0, { pair0 with waiting := [⟨0, 5⟩] }), (1, { pair0 with waiting := [⟨0, 4⟩] })], 1, ⟨0, 4⟩, by decide +kernel⟩,
   ⟨0, [(0, { pair0 with waiting := [⟨0, 5⟩] }), (1, { pair0 with waiting := [⟨0, 4⟩] })], 1, ⟨0, 4⟩, by decide +kernel, 0, { pair0 with waiting := [⟨0, 5⟩] }, ⟨0, 5⟩, by decide +kernel⟩⟩

/-- Witnesses of the hypotheses of `StagingWritesGoToTheStagedBank`. -/
theorem witness_StagingWritesGoToTheStagedBank :
    (∃ (c : Cmd) (s : State), Instant opAcuRegionSet c s) ∧
    (∃ (c : Cmd) (s : State), Instant opAcuPlinthSet c s) ∧
    (∃ (c : Cmd) (s : State), Instant opAcuWindowSet c s ∧
      let i := min 63 (c.byte 16)
      let w := (CWin.of (c.le 24 16)).legal
      (∀ x ∈ s.acu.staged.windows, x.1 ≠ i → (CWin.of x.2.toNat).en = true → w.overlaps (CWin.of x.2.toNat) = false)) ∧
    (∃ (c : Cmd) (s : State), Instant opAcuReqSet c s) ∧
    (∃ (c : Cmd) (s : State), Instant opAcuKeysSet c s) ∧
    (∃ (c : Cmd) (s : State), Instant opAcuPortMapSet c s) ∧
    (∃ (c : Cmd) (s : State), Instant opAcuTagSet c s ∧
      (c.le 16 4 ≤ 1048575 ∧ 1 ≤ c.le 20 4 ∧ c.le 16 4 + c.le 20 4 ≤ 1048576 ∧ c.byte 25 = 0)) :=
  ⟨⟨cmd [(16, 2, 2048), (24, 8, 7)], up, instantOf (by decide +kernel)⟩,
   ⟨cmd [(16, 2, 2048), (24, 8, 7)], up, instantOf (by decide +kernel)⟩,
   ⟨cmd [(16, 1, 63), (24, 8, 3)], up, instantOf (by decide +kernel), by decide +kernel⟩,
   ⟨cmd [(16, 2, 2048), (24, 8, 7)], up, instantOf (by decide +kernel)⟩,
   ⟨cmd [(16, 2, 2048), (24, 8, 7)], up, instantOf (by decide +kernel)⟩,
   ⟨cmd [(16, 2, 2048), (24, 8, 7)], up, instantOf (by decide +kernel)⟩,
   ⟨cmd [(16, 4, 1048575), (20, 4, 1), (24, 1, 9)], up, instantOf (by decide +kernel), by decide +kernel⟩⟩

/-- Witnesses of the hypotheses of `TagWriteEndsWithItsLastTag`. -/
theorem witness_TagWriteEndsWithItsLastTag :
    (∃ (s : State) (w : TagWrite) (ws : List TagWrite), (s.acu.writes = w :: ws ∧ s.ft < w.at')) ∧
    (∃ (s : State) (w : TagWrite) (ws : List TagWrite), (s.acu.writes = w :: ws ∧ w.at' ≤ s.ft)) ∧
    (∃ (s : State) (w : TagWrite) (ws : List TagWrite), s.acu.writes = w :: ws) :=
  ⟨⟨{ up with acu := { up.acu with writes := [{ ticket := { src := .ring 0 }, first := 2, tags := [5, 6], at' := 100001 }] } }, { ticket := { src := .ring 0 }, first := 2, tags := [5, 6], at' := 100001 }, [], by decide +kernel⟩,
   ⟨{ up with acu := { up.acu with writes := [{ ticket := { src := .ring 0 }, first := 2, tags := [5, 6], at' := 100000 }] } }, { ticket := { src := .ring 0 }, first := 2, tags := [5, 6], at' := 100000 }, [], by decide +kernel⟩,
   ⟨{ up with acu := { up.acu with writes := [{ ticket := { src := .ring 0 }, first := 2, tags := [5, 6], at' := 100000 }] } }, { ticket := { src := .ring 0 }, first := 2, tags := [5, 6], at' := 100000 }, [], by decide +kernel⟩⟩

/-- Witnesses of the hypotheses of `StagingIsBusyDuringACommit`. -/
theorem witness_StagingIsBusyDuringACommit :
    (∃ (c : Cmd) (s : State), ∃ o, o ∈ [opAcuRegionSet, opAcuPlinthSet, opAcuWindowSet, opAcuTagSet, opAcuReqSet, opAcuKeysSet, opAcuPortMapSet,
        opVfiColourSet, opAcuDiscard, opAcuCommit] ∧
      (o.absent c (s.accept c) = false ∧ s.glb.sramSwept = true ∧ s.acu.commitPending = true)) ∧
    (∃ (s : State), (s.glb.sramSwept = true ∧ 3 ≤ s.draining)) :=
  ⟨⟨cmd [], { up with acu := { up.acu with commitPending := true } }, opAcuCommit, by simp, by decide +kernel⟩,
   ⟨{ up with acu := { up.acu with slot1 := { epoch := some 1, endedAt := some 90112 }, slot2 := { epoch := some 2, endedAt := some 90112 }, slot3 := { epoch := some 3, endedAt := some 98304 } } }, by decide +kernel⟩⟩

/-- Witnesses of the hypotheses of `CommitMakesTheStagedBankActive`. -/
theorem witness_CommitMakesTheStagedBankActive :
    (∃ (c : Cmd) (s : State), Queues opAcuCommit c s) ∧
    (∃ (l : Launch) (s : State), Due opAcuCommit l s) :=
  ⟨⟨cmd [(16, 1, 2)], up, queuesOf (by decide +kernel)⟩,
   ⟨due 0x37 [(16, 1, 2)], withDue (due 0x37 [(16, 1, 2)]) { up with acu := { up.acu with commitPending := true } }, dueOf (by decide +kernel)⟩⟩

/-- Witnesses of the hypotheses of `AccessQueriesAnswerTheDecision`. -/
theorem witness_AccessQueriesAnswerTheDecision :
    (∃ (c : Cmd) (s : State), Instant opAcuDiscard c s) ∧
    (∃ (c : Cmd) (s : State), Instant opAcuQuery c s ∧
      (c.le 16 8 < 2 ^ 56 ∧ 1 ≤ c.le 24 2 ∧ c.le 24 2 ≤ 4096 ∧ (c.le 26 2 ≤ 4095 ∨ c.le 26 2 = 0xFFFF) ∧ c.byte 28 ≤ 3 ∧ c.byte 29 ≤ 1)) ∧
    (∃ (c : Cmd) (s : State), Instant opAcuTagQuery c s ∧
      c.le 16 8 < 2 ^ 56) ∧
    (∃ (c : Cmd) (s : State), Instant opAcuDrainQuery c s) :=
  ⟨⟨cmd [(16, 8, 72057594037927935), (24, 2, 4096), (26, 2, 4095), (28, 1, 3)], up, instantOf (by decide +kernel)⟩,
   ⟨cmd [(16, 8, 72057594037927935), (24, 2, 4096), (26, 2, 4095), (28, 1, 3)], up, instantOf (by decide +kernel), by decide +kernel⟩,
   ⟨cmd [(16, 8, 72057594037927935), (24, 2, 4096), (26, 2, 4095), (28, 1, 3)], up, instantOf (by decide +kernel), by decide +kernel⟩,
   ⟨cmd [(16, 8, 72057594037927935), (24, 2, 4096), (26, 2, 4095), (28, 1, 3)], up, instantOf (by decide +kernel)⟩⟩

/-- Witnesses of the hypotheses of `AccessIsGrantedWholeOrRejected`. -/
theorem witness_AccessIsGrantedWholeOrRejected :
    (∃ (kind len : Nat), (kind < 3 ∧ 1 ≤ len)) ∧
    (∃ (s : State) (rid : Option Nat) (kind fma len : Nat), (kind < 3 ∧ 1 ≤ len ∧ (s.check rid kind fma len).1 ≠ 0)) :=
  ⟨⟨2, 8, by decide +kernel⟩,
   ⟨up, some 1, 2, 60, 8, by decide +kernel⟩⟩

/-- Witnesses of the hypotheses of `ColourMatchDecides`. -/
theorem witness_ColourMatchDecides :
    (∃ (b : AcuBank) (fma : Nat), b.window fma = none) ∧
    (∃ (b : AcuBank) (e : ReqEntry) (p fma : Nat), ((∃ x ∈ b.regions, regionGrants x.2.toNat e.vfi p fma = true) ∧ (∀ x ∈ b.regions, regionGrants x.2.toNat e.vfi p fma = true → bitOf x.2.toNat 3 = true))) ∧
    (∃ (b : AcuBank) (e : ReqEntry) (p fma : Nat), (∀ x ∈ b.regions, regionGrants x.2.toNat e.vfi p fma = false)) :=
  ⟨⟨{}, 0, by decide +kernel⟩,
   ⟨{ regions := [(0, 0x1B)] }, { rd := 2 }, 1, 0, by decide +kernel⟩,
   ⟨{}, { rd := 2 }, 1, 0, by decide +kernel⟩⟩

/-- Witnesses of the hypotheses of `CommitCompletesAfterAZeroSum`. -/
theorem witness_CommitCompletesAfterAZeroSum :
    (∃ (s : State) (i b : Nat) (tk : Ticket), (i < 4 ∧ (s.acu.slotAt i).endedAt = some b ∧ (s.acu.slotAt i).ticket = some tk ∧ (s.acu.slotAt i).zeroSeen = true)) ∧
    (∃ (s : State) (i b : Nat) (tk : Ticket), (i < 4 ∧ (s.acu.slotAt i).endedAt = some b ∧ (s.acu.slotAt i).ticket = some tk ∧ (s.acu.slotAt i).zeroSeen = false)) :=
  ⟨⟨{ up with acu := { up.acu with slot2 := { epoch := some 2, endedAt := some 90112, zeroSeen := true, ticket := some { src := .ring 0 } } } }, 2, 90112, { src := .ring 0 }, by decide +kernel⟩,
   ⟨{ up with acu := { up.acu with slot2 := { epoch := some 2, endedAt := some 90112, zeroSeen := false, ticket := some { src := .ring 0 } } } }, 2, 90112, { src := .ring 0 }, by decide +kernel⟩⟩

/-- Witnesses of the hypotheses of `AccessEvents`. -/
theorem witness_AccessEvents :
    (∃ (s : State), (s.held = none ∧ s.acu.fetches.length ≤ 2)) ∧
    (∃ (s : State), s.held = none) ∧
    (∃ (s : State), s.held = none ∧
      ∃ (u : State) (k e : Nat), u.cutDue k = some e) :=
  ⟨⟨up, by decide +kernel⟩,
   ⟨up, by decide +kernel⟩,
   ⟨up, by decide +kernel, { up with clock := 320000000, acu := { up.acu with slot1 := { epoch := some 1, endedAt := some 0 } } }, 1, 1, by decide +kernel⟩⟩

/-- Witnesses of the hypotheses of `PortStateOpcodes`. -/
theorem witness_PortStateOpcodes :
    (∃ (c : Cmd) (s : State), c.target ≤ 1023 ∧
      let p := c.target
      ∃ t, Instant opPortConfig c s ∧
      (s.accept c).configure p (PortCfg.of (c.le 16 4)) = some t) ∧
    (∃ (c : Cmd) (s : State), c.target ≤ 1023 ∧
      let p := c.target
      Instant opPortConfig c s ∧
      (s.accept c).configure p (PortCfg.of (c.le 16 4)) = none) ∧
    (∃ (c : Cmd) (s : State), c.target ≤ 1023 ∧
      let p := c.target
      ∃ t, Instant opPortDisable c s ∧
      (s.accept c).configure p { (s.port p).cfg with en := false } = some t) ∧
    (∃ (c : Cmd) (s : State), c.target ≤ 1023 ∧
      let p := c.target
      Instant opPortRetrain c s ∧
      (c.byte 16 ≤ 1 ∧ (s.port p).cfg.en = false)) ∧
    (∃ (c : Cmd) (s : State), c.target ≤ 1023 ∧
      let p := c.target
      Instant opPortRetrain c s ∧
      (c.byte 16 = 0 ∧ (s.port p).cfg.en = true ∧ (s.port p).state = .up)) ∧
    (∃ (c : Cmd) (s : State), c.target ≤ 1023 ∧
      let p := c.target
      Instant opPortRetrain c s ∧
      (c.byte 16 = 0 ∧ (s.port p).cfg.en = true ∧ (s.port p).state ≠ .up)) ∧
    (∃ (c : Cmd) (s : State), c.target ≤ 1023 ∧
      let p := c.target
      Instant opPortRetrain c s ∧
      (c.byte 16 = 1 ∧ (s.port p).cfg.en = true ∧ (s.port p).state = .up)) ∧
    (∃ (c : Cmd) (s : State), c.target ≤ 1023 ∧
      let p := c.target
      Instant opPortRetrain c s ∧
      (c.byte 16 = 1 ∧ (s.port p).cfg.en = true ∧ (s.port p).state = .training)) ∧
    (∃ (c : Cmd) (s : State), c.target ≤ 1023 ∧
      let p := c.target
      Instant opPortRetrain c s ∧
      (c.byte 16 = 1 ∧ (s.port p).cfg.en = true ∧ (s.port p).state ≠ .up ∧ (s.port p).state ≠ .training)) ∧
    (∃ (c : Cmd) (s : State), c.target ≤ 1023 ∧
      let p := c.target
      Instant opPortDpcRelease c s ∧
      (s.port p).state = .contained) ∧
    (∃ (c : Cmd) (s : State), c.target ≤ 1023 ∧
      let p := c.target
      Instant opPortDpcRelease c s ∧
      (s.port p).state ≠ .contained) ∧
    (∃ (c : Cmd) (s : State), c.target ≤ 1023 ∧
      let p := c.target
      Instant opPortHotReset c s ∧
      (s.port p).cfg.en = false) ∧
    (∃ (c : Cmd) (s : State), c.target ≤ 1023 ∧
      let p := c.target
      Instant opPortHotReset c s ∧
      ((s.port p).cfg.en = true ∧ (s.port p).cfg.role ≠ 0)) ∧
    (∃ (c : Cmd) (s : State), c.target ≤ 1023 ∧
      let p := c.target
      Instant opPortHotReset c s ∧
      ((s.port p).cfg.en = true ∧ (s.port p).cfg.role = 0 ∧ (s.port p).state = .up)) ∧
    (∃ (c : Cmd) (s : State), c.target ≤ 1023 ∧
      let p := c.target
      Instant opPortHotReset c s ∧
      ((s.port p).cfg.en = true ∧ (s.port p).cfg.role = 0 ∧ (s.port p).state ≠ .up ∧ (s.port p).state ≠ .training)) :=
  ⟨⟨cmd [(4, 4, 8), (16, 4, 4201)], up, by decide +kernel, ((up.accept (cmd [(4, 4, 8), (16, 4, 4201)])).configure 8 (PortCfg.of 0x1069)).getD up, instantOf (by decide +kernel), by decide +kernel⟩,
   ⟨cmd [(4, 4, 8), (16, 4, ({ en := true, role := 1 } : PortCfg).image)], { up with prt := { ports := (List.range 512).map fun k => (k + 16, { cfg := { en := true, role := 1 } }) } }, by decide +kernel, instantOf (by decide +kernel), by decide +kernel⟩,
   ⟨cmd [(4, 4, 8)], up.setPort 8 { cfg := { en := true }, state := .up, width := 2, rate := 6, mode := 2 }, by decide +kernel, (((up.setPort 8 { cfg := { en := true }, state := .up, width := 2, rate := 6, mode := 2 }).accept (cmd [(4, 4, 8)])).configure 8 { en := false }).getD up, instantOf (by decide +kernel), by decide +kernel⟩,
   ⟨cmd [(4, 4, 8), (16, 1, 1)], up, by decide +kernel, instantOf (by decide +kernel), by decide +kernel⟩,
   ⟨cmd [(4, 4, 8)], up.setPort 8 { cfg := { en := true }, state := .up, width := 2, rate := 6, mode := 2 }, by decide +kernel, instantOf (by decide +kernel), by decide +kernel⟩,
   ⟨cmd [(4, 4, 8)], up.setPort 8 { cfg := { en := true }, state := .training }, by decide +kernel, instantOf (by decide +kernel), by decide +kernel⟩,
   ⟨cmd [(4, 4, 8), (16, 1, 1)], up.setPort 8 { cfg := { en := true }, state := .up, width := 2, rate := 6, mode := 2 }, by decide +kernel, instantOf (by decide +kernel), by decide +kernel⟩,
   ⟨cmd [(4, 4, 8), (16, 1, 1)], up.setPort 8 { cfg := { en := true }, state := .training }, by decide +kernel, instantOf (by decide +kernel), by decide +kernel⟩,
   ⟨cmd [(4, 4, 8), (16, 1, 1)], up.setPort 8 { cfg := { en := true }, state := .contained }, by decide +kernel, instantOf (by decide +kernel), by decide +kernel⟩,
   ⟨cmd [(4, 4, 8), (16, 4, 4201)], up.setPort 8 { cfg := { en := true }, state := .contained }, by decide +kernel, instantOf (by decide +kernel), by decide +kernel⟩,
   ⟨cmd [(4, 4, 8), (16, 4, 4201)], up, by decide +kernel, instantOf (by decide +kernel), by decide +kernel⟩,
   ⟨cmd [(4, 4, 8), (16, 4, 4201)], up, by decide +kernel, instantOf (by decide +kernel), by decide +kernel⟩,
   ⟨cmd [(4, 4, 8), (16, 4, 4201)], up.setPort 8 { cfg := { en := true, role := 1 }, state := .up }, by decide +kernel, instantOf (by decide +kernel), by decide +kernel⟩,
   ⟨cmd [(4, 4, 8), (16, 4, 4201)], up.setPort 8 { cfg := { en := true }, state := .up, width := 2, rate := 6, mode := 2 }, by decide +kernel, instantOf (by decide +kernel), by decide +kernel⟩,
   ⟨cmd [(4, 4, 8), (16, 4, 4201)], up.setPort 8 { cfg := { en := true }, state := .detect }, by decide +kernel, instantOf (by decide +kernel), by decide +kernel⟩⟩

/-- Witnesses of the hypotheses of `PortSettingOpcodes`. -/
theorem witness_PortSettingOpcodes :
    (∃ (c : Cmd) (s : State), c.target ≤ 1023 ∧
      Instant opPortStatus c s) ∧
    (∃ (c : Cmd) (s : State), c.target ≤ 1023 ∧
      Instant opPortLdQuery c s) ∧
    (∃ (c : Cmd) (s : State), c.target ≤ 1023 ∧
      Instant opPortErrClear c s) ∧
    (∃ (c : Cmd) (s : State), c.target ≤ 1023 ∧
      let p := c.target
      Instant opPortCciTunnel c s ∧
      ((s.port p).cfg.en = true ∧ (s.port p).tunnel = none ∧ 4 ≤ c.le 24 4 ∧ c.le 24 4 ≤ 4096 ∧ (c.le 40 2 ≤ 15 ∨ c.le 40 2 = 0xFFFF))) ∧
    (∃ (c : Cmd) (s : State), c.target ≤ 1023 ∧
      let p := c.target
      Instant opPortCciTunnel c s ∧
      ((s.port p).cfg.en = true ∧ (s.port p).tunnel.isSome = true ∧ 4 ≤ c.le 24 4 ∧ c.le 24 4 ≤ 4096 ∧ (c.le 40 2 ≤ 15 ∨ c.le 40 2 = 0xFFFF))) ∧
    (∃ (c : Cmd) (s : State), c.target ≤ 1023 ∧
      let p := c.target
      Instant opPortCciTunnel c s ∧
      ((s.port p).cfg.en = false ∧ 4 ≤ c.le 24 4 ∧ c.le 24 4 ≤ 4096 ∧ (c.le 40 2 ≤ 15 ∨ c.le 40 2 = 0xFFFF))) ∧
    (∃ (c : Cmd) (s : State), c.target ≤ 1023 ∧
      Instant opPortPbrSet c s ∧
      (c.byte 16 = 0 ∧ c.byte 17 ≤ 7)) ∧
    (∃ (c : Cmd) (s : State), c.target ≤ 1023 ∧
      Instant opPortPbrSet c s ∧
      (c.byte 16 = 1 ∧ c.le 18 2 ≤ 511)) ∧
    (∃ (c : Cmd) (s : State), c.target ≤ 1023 ∧
      Instant opPortPbrSet c s ∧
      (c.byte 16 = 1 ∧ c.le 18 2 = 0xFFFF)) ∧
    (∃ (c : Cmd) (s : State), c.target ≤ 1023 ∧
      Instant opPortPbrSet c s ∧
      (c.byte 16 = 2 ∧ c.byte 17 ≤ 7 ∧ c.byte 18 ≤ 7)) ∧
    (∃ (c : Cmd) (s : State), c.target ≤ 1023 ∧
      let p := c.target
      Instant opPortPbrSet c s ∧
      (c.byte 16 = 3 ∧ c.byte 18 ≤ 7 ∧ (s.port p).group ≠ some (c.byte 18) ∧ (s.prt.ports.filter fun x => x.2.group == some (c.byte 18)).length < 8)) ∧
    (∃ (c : Cmd) (s : State), c.target ≤ 1023 ∧
      let p := c.target
      Instant opPortPbrSet c s ∧
      (c.byte 16 = 3 ∧ c.byte 18 ≤ 7 ∧ (s.port p).group ≠ some (c.byte 18) ∧ 8 ≤ (s.prt.ports.filter fun x => x.2.group == some (c.byte 18)).length)) ∧
    (∃ (c : Cmd) (s : State), c.target ≤ 1023 ∧
      Instant opPortPbrSet c s ∧
      c.byte 16 = 4) ∧
    (∃ (c : Cmd) (s : State), c.target ≤ 1023 ∧
      Instant opPortIdeCtrl c s ∧
      (c.byte 16 = 0 ∧ c.byte 17 ≤ 1)) ∧
    (∃ (c : Cmd) (s : State), c.target ≤ 1023 ∧
      Instant opPortIdeCtrl c s ∧
      (c.byte 16 = 1 ∧ c.byte 17 ≤ 1)) ∧
    (∃ (c : Cmd) (s : State), c.target ≤ 1023 ∧
      Instant opPortIdeCtrl c s ∧
      (c.byte 16 = 2 ∧ c.byte 17 ≤ 1)) :=
  ⟨⟨cmd [(4, 4, 8), (24, 4, 4), (28, 8, 24576), (36, 4, 64), (40, 2, 15)], up.setPort 8 { cfg := { en := true }, state := .up, width := 2, rate := 6, mode := 2, ldMap := 3, err := 1 }, by decide +kernel, instantOf (by decide +kernel)⟩,
   ⟨cmd [(4, 4, 8), (24, 4, 4), (28, 8, 24576), (36, 4, 64), (40, 2, 15)], up.setPort 8 { cfg := { en := true }, state := .up, width := 2, rate := 6, mode := 2, ldMap := 3, err := 1 }, by decide +kernel, instantOf (by decide +kernel)⟩,
   ⟨cmd [(4, 4, 8), (24, 4, 4), (28, 8, 24576), (36, 4, 64), (40, 2, 15)], up.setPort 8 { cfg := { en := true }, state := .up, width := 2, rate := 6, mode := 2, ldMap := 3, err := 1 }, by decide +kernel, instantOf (by decide +kernel)⟩,
   ⟨cmd [(4, 4, 8), (24, 4, 4), (28, 8, 24576), (36, 4, 64), (40, 2, 15)], up.setPort 8 { cfg := { en := true }, state := .up, width := 2, rate := 6, mode := 2, ldMap := 3, err := 1 }, by decide +kernel, instantOf (by decide +kernel), by decide +kernel⟩,
   ⟨cmd [(4, 4, 8), (24, 4, 4), (28, 8, 24576), (36, 4, 64), (40, 2, 15)], up.setPort 8 { cfg := { en := true }, state := .up, width := 2, rate := 6, mode := 2, tunnel := some { ticket := {}, fm := false, respAddr := 0, capacity := 4, deadline := 9 } }, by decide +kernel, instantOf (by decide +kernel), by decide +kernel⟩,
   ⟨cmd [(4, 4, 8), (24, 4, 4), (28, 8, 24576), (36, 4, 64), (40, 2, 15)], up, by decide +kernel, instantOf (by decide +kernel), by decide +kernel⟩,
   ⟨cmd [(17, 1, 7)], up, by decide +kernel, instantOf (by decide +kernel), by decide +kernel⟩,
   ⟨cmd [(4, 4, 8), (16, 1, 1), (18, 2, 511)], up.setPort 9 { edge := some 511 }, by decide +kernel, instantOf (by decide +kernel), by decide +kernel⟩,
   ⟨cmd [(4, 4, 8), (16, 1, 1), (18, 2, 65535)], up.setPort 8 { cfg := { en := true }, state := .up, width := 2, rate := 6, mode := 2, ldMap := 3, err := 1 }, by decide +kernel, instantOf (by decide +kernel), by decide +kernel⟩,
   ⟨cmd [(16, 1, 2), (17, 1, 7), (18, 1, 7)], up.setPort 8 { cfg := { en := true }, state := .up, width := 2, rate := 6, mode := 2, ldMap := 3, err := 1 }, by decide +kernel, instantOf (by decide +kernel), by decide +kernel⟩,
   ⟨cmd [(4, 4, 8), (16, 1, 3), (18, 1, 7)], up.setPort 8 { cfg := { en := true }, state := .up, width := 2, rate := 6, mode := 2, ldMap := 3, err := 1 }, by decide +kernel, instantOf (by decide +kernel), by decide +kernel⟩,
   ⟨cmd [(4, 4, 8), (16, 1, 3), (18, 1, 7)], (List.range 8).foldl (fun s k => s.setPort (16 * k) { group := some 7 }) up, by decide +kernel, instantOf (by decide +kernel), by decide +kernel⟩,
   ⟨cmd [(4, 4, 8), (16, 1, 4)], up.setPort 8 { cfg := { en := true }, state := .up, width := 2, rate := 6, mode := 2, ldMap := 3, err := 1 }, by decide +kernel, instantOf (by decide +kernel), by decide +kernel⟩,
   ⟨cmd [(4, 4, 8), (17, 1, 1)], up.setPort 8 { cfg := { en := true }, state := .up, width := 2, rate := 6, mode := 2, ldMap := 3, err := 1 }, by decide +kernel, instantOf (by decide +kernel), by decide +kernel⟩,
   ⟨cmd [(4, 4, 8), (16, 1, 1), (17, 1, 1)], up.setPort 8 { cfg := { en := true }, state := .up, width := 2, rate := 6, mode := 2, ldMap := 3, err := 1 }, by decide +kernel, instantOf (by decide +kernel), by decide +kernel⟩,
   ⟨cmd [(4, 4, 8), (16, 1, 2)], up.setPort 8 { cfg := { en := true }, state := .up, width := 2, rate := 6, mode := 2, ldMap := 3, err := 1 }, by decide +kernel, instantOf (by decide +kernel), by decide +kernel⟩⟩

/-- Witnesses of the hypotheses of `ResolvedLayoutIsLegal`. -/
theorem witness_ResolvedLayoutIsLegal :
    (∃ (blocks : List (Nat × PortCfg)), (blocks.map (·.1)).Pairwise (· < ·)) ∧
    (∃ (blocks : List (Nat × PortCfg)), (blocks.map (·.1)).Pairwise (· < ·) ∧
      let r := resolveLayout [] blocks
      ∃ x, x ∈ r) :=
  ⟨⟨[(0, { en := true, width := 3 }), (4, { en := true, width := 4 })], by decide +kernel⟩,
   ⟨[(0, { en := true, width := 3 }), (4, { en := true, width := 4 })], by decide +kernel, (resolveLayout [] [(0, { en := true, width := 3 }), (4, { en := true, width := 4 })]).headD (0, {}), by decide +kernel⟩⟩

/-- Witnesses of the hypotheses of `BlockChangeDisturbsOnlyItsPort`. -/
theorem witness_BlockChangeDisturbsOnlyItsPort :
    (∃ (s : State) (p : Nat) (c : PortCfg), (s.port p).cfg = c) ∧
    (∃ (s : State) (p : Nat) (c : PortCfg), ((s.port p).cfg ≠ c ∧ c.en = false ∧ (s.port p).state ≠ .up)) ∧
    (∃ (s : State) (p : Nat) (c : PortCfg), ((s.port p).cfg ≠ c ∧ c.en = true ∧ (s.port p).state = .disabled)) ∧
    (∃ (s : State) (p : Nat), ∃ q, (q ≠ p ∧ (s.port p).state ≠ .up)) :=
  ⟨⟨up, 8, {}, by decide +kernel⟩,
   ⟨up.setPort 8 { cfg := { en := true }, state := .training }, 8, {}, by decide +kernel⟩,
   ⟨up, 8, { en := true }, by decide +kernel⟩,
   ⟨up, 8, 9, by decide +kernel⟩⟩

/-- Witnesses of the hypotheses of `PortLinkEvents`. -/
theorem witness_PortLinkEvents :
    (∃ (p : Port) (s : State), (s.held = none ∧ s.portExists p = true ∧ (s.port p).cfg.en = true ∧ (s.port p).state = .detect ∧ (s.tileLnk (p.val / 16)).powered = true ∧ (s.tileLnk (p.val / 16)).pllLock = true ∧ s.gateShut p = false ∧ (s.port p).quietUntil ≤ s.clock ∧ (s.eqLane p).unused = false)) ∧
    (∃ (p : Port) (s : State), (s.held = none ∧ (s.port p).state ≠ .detect)) ∧
    (∃ (p : Port) (s : State), (s.held = none ∧ (s.port p).state = .up)) ∧
    (∃ (p : Port) (s : State), (s.held = none ∧ (s.port p).state = .training)) ∧
    (∃ (p : Port) (s : State), (s.held = none ∧ (s.port p).state ≠ .up ∧ (s.port p).state ≠ .training)) ∧
    (∃ (p : Port) (s : State), (s.held = none ∧ (s.port p).state = .up ∧ (s.port p).cfg.dpcEn = true)) ∧
    (∃ (p : Port) (s : State), (s.held = none ∧ (s.port p).state = .up ∧ (s.port p).cfg.dpcEn = false)) ∧
    (∃ (p : Port) (s : State), (s.held = none ∧ (s.port p).state = .up ∧ (s.port p).cfg.role ≠ 1)) ∧
    (∃ (p : Port) (s : State), (s.held = none ∧ (s.port p).cfg.role = 1)) :=
  ⟨⟨8, (up.setPort 8 { cfg := { en := true }, state := .detect, quietUntil := 1600000 }).setTileLnk 0 { powered := true, pllLock := true }, by decide +kernel⟩,
   ⟨8, up, by decide +kernel⟩,
   ⟨8, up.setPort 8 { cfg := { en := true }, state := .up, width := 2, rate := 6, mode := 2 }, by decide +kernel⟩,
   ⟨8, up.setPort 8 { cfg := { en := true }, state := .training }, by decide +kernel⟩,
   ⟨8, up, by decide +kernel⟩,
   ⟨8, up.setPort 8 { cfg := { en := true }, state := .up, width := 2, rate := 6, mode := 2 }, by decide +kernel⟩,
   ⟨8, up.setPort 8 { cfg := { en := true, dpcEn := false }, state := .up }, by decide +kernel⟩,
   ⟨8, up.setPort 8 { cfg := { en := true }, state := .up, width := 2, rate := 6, mode := 2 }, by decide +kernel⟩,
   ⟨8, up.setPort 8 { cfg := { en := true, role := 1 }, state := .up }, by decide +kernel⟩⟩

/-- Witnesses of the hypotheses of `TrainedLinkComesUp`. -/
theorem witness_TrainedLinkComesUp :
    ∃ (p : Port) (t : TrainResult) (s : State), (s.held = none ∧ (s.port p).state = .training ∧ 3 ≤ t.rate.val ∧ 3 ≤ (s.port p).cfg.maxRate ∧ t.loopback = false ∧ t.mode.val = 2 ∧ s.clock - (s.port p).from16 ≤ ms16 20) :=
  ⟨8, { mode := 2, rate := 6, width := 2, cxl := true }, up.setPort 8 { cfg := { en := true, width := 3 }, state := .training, from16 := 1280000 }, by decide +kernel⟩

/-- Witnesses of the hypotheses of `PortTrafficEvents`. -/
theorem witness_PortTrafficEvents :
    (∃ (p : Port) (f : FlitResult) (s : State), (s.held = none ∧ (s.port p).state = .up ∧ f.outcome = .good ∧ f.slotsLeft = 0 ∧ (s.port p).openMsg = none)) ∧
    (∃ (p : Port) (f : FlitResult) (s : State), s.held = none ∧
      ∃ o : OpenIn, ((s.port p).state = .up ∧ f.outcome = .good ∧ f.slotsLeft = 0 ∧ (s.port p).openMsg = some o)) ∧
    (∃ (p : Port) (f : FlitResult) (s : State), (s.held = none ∧ (s.port p).state = .up ∧ f.outcome = .crcFail)) ∧
    (∃ (p : Port) (f : FlitResult) (s : State), (s.held = none ∧ (s.port p).state = .up ∧ f.outcome = .bufferEcc)) ∧
    (∃ (p : Port) (s : State), (s.held = none ∧ (s.port p).state ≠ .up)) ∧
    (∃ (p : Port) (s : State), s.held = none ∧
      ∃ (t : Tile) (tag : BitVec 16) (e : Tracker), ((s.trackers t).find? (fun e => e.port == p.val && e.tag == tag.toNat) = some e ∧ e.settled = true)) ∧
    (∃ (p : Port) (s : State), s.held = none ∧
      ∃ (t : Tile) (tag : BitVec 16) (e : Tracker), ((s.trackers t).find? (fun e => e.port == p.val && e.tag == tag.toNat) = some e ∧ e.settled = false)) ∧
    (∃ (p : Port) (s : State), s.held = none ∧
      ∃ u : Tunnel, ((s.port p).tunnel = some u ∧ u.fm = false)) ∧
    (∃ (p : Port) (s : State), s.held = none ∧
      ∃ u : Tunnel, ((s.port p).tunnel = some u ∧ u.fm = false ∧ u.deadline ≤ s.clock)) ∧
    (∃ (p : Port) (s : State), s.held = none ∧
      ∃ u : Tunnel, ((s.port p).tunnel = some u ∧ s.clock < u.deadline)) ∧
    (∃ (p : Port) (s : State), (s.held = none ∧ s.isF = true ∧ (s.port p).state = .up ∧ (s.port p).ideState = 1)) ∧
    (∃ (s : State), (s.held = none ∧ s.isF = false)) ∧
    (∃ (p : Port) (s : State), (s.held = none ∧ (s.port p).state = .up)) :=
  ⟨⟨8, { outcome := .good }, up.setPort 8 { cfg := { en := true }, state := .up, width := 2, rate := 6, mode := 2 }, by decide +kernel⟩,
   ⟨8, { outcome := .good }, up.setPort 8 { cfg := { en := true }, state := .up, width := 2, rate := 6, mode := 2, openMsg := some { stamp := 1599000, slots := 3 } }, by decide +kernel, { stamp := 1599000, slots := 3 }, by decide +kernel⟩,
   ⟨8, { outcome := .crcFail }, up.setPort 8 { cfg := { en := true }, state := .up, width := 2, rate := 6, mode := 2 }, by decide +kernel⟩,
   ⟨8, { outcome := .bufferEcc }, up.setPort 8 { cfg := { en := true }, state := .up, width := 2, rate := 6, mode := 2, openMsg := some { stamp := 1599000, slots := 3 } }, by decide +kernel⟩,
   ⟨8, up, by decide +kernel⟩,
   ⟨8, (up.setPort 8 { cfg := { en := true }, state := .up, width := 2, rate := 6, mode := 2 }).setTrackers 0 [{ port := 8, tag := 5, requester := 0, kind := .memRd, addr := 0, gen := 0, epoch := 0, vfi := 0, lines := 1, rid := 0, settled := true }], by decide +kernel, 0, 5, { port := 8, tag := 5, requester := 0, kind := .memRd, addr := 0, gen := 0, epoch := 0, vfi := 0, lines := 1, rid := 0, settled := true }, by decide +kernel⟩,
   ⟨8, (up.setPort 8 { cfg := { en := true }, state := .up, width := 2, rate := 6, mode := 2 }).setTrackers 0 [{ port := 8, tag := 5, requester := 0, kind := .memRd, addr := 0, gen := 0, epoch := 0, vfi := 0, lines := 1, rid := 0, settled := false }], by decide +kernel, 0, 5, { port := 8, tag := 5, requester := 0, kind := .memRd, addr := 0, gen := 0, epoch := 0, vfi := 0, lines := 1, rid := 0, settled := false }, by decide +kernel⟩,
   ⟨8, up.setPort 8 { cfg := { en := true }, state := .up, width := 2, rate := 6, mode := 2, tunnel := some { ticket := { src := .ring 0 }, fm := false, respAddr := 0x6000, capacity := 64, deadline := 1700000 } }, by decide +kernel, { ticket := { src := .ring 0 }, fm := false, respAddr := 0x6000, capacity := 64, deadline := 1700000 }, by decide +kernel⟩,
   ⟨8, up.setPort 8 { cfg := { en := true }, state := .up, width := 2, rate := 6, mode := 2, tunnel := some { ticket := { src := .ring 0 }, fm := false, respAddr := 0x6000, capacity := 64, deadline := 1600000 } }, by decide +kernel, { ticket := { src := .ring 0 }, fm := false, respAddr := 0x6000, capacity := 64, deadline := 1600000 }, by decide +kernel⟩,
   ⟨8, up.setPort 8 { cfg := { en := true }, state := .up, width := 2, rate := 6, mode := 2, tunnel := some { ticket := { src := .ring 0 }, fm := false, respAddr := 0x6000, capacity := 64, deadline := 1600001 } }, by decide +kernel, { ticket := { src := .ring 0 }, fm := false, respAddr := 0x6000, capacity := 64, deadline := 1600001 }, by decide +kernel⟩,
   ⟨8, up.setPort 8 { cfg := { en := true }, state := .up, width := 2, rate := 6, mode := 2, ideState := 1 }, by decide +kernel⟩,
   ⟨{ up with variant := .k1024B }, by decide +kernel⟩,
   ⟨8, up.setPort 8 { cfg := { en := true }, state := .up, width := 2, rate := 6, mode := 2 }, by decide +kernel⟩⟩

/-- Witnesses of the hypotheses of `LaneOpcodes`. -/
theorem witness_LaneOpcodes :
    (∃ (c : Cmd) (s : State), Instant opLnkEqReload c s ∧
      eqFinding s.eeprom ≠ 1) ∧
    (∃ (c : Cmd) (s : State), Instant opLnkEqReload c s ∧
      eqFinding s.eeprom = 1) ∧
    (∃ (c : Cmd) (s : State), Instant opLnkLoopSet c s ∧
      (c.target ≤ 1023 ∧ 1 ≤ c.byte 16 ∧ c.byte 16 ≤ 3 ∧ c.byte 17 ≤ 2 ∧ 3 ≤ c.byte 18 ∧ c.byte 18 ≤ 6)) ∧
    (∃ (c : Cmd) (s : State), Instant opLnkLoopSet c s ∧
      (c.target ≤ 1023 ∧ c.byte 16 = 0)) ∧
    (∃ (c : Cmd) (s : State), Instant opLnkLoopSet c s ∧
      (c.target ≤ 1023 ∧ c.byte 16 = 4)) ∧
    (∃ (c : Cmd) (s : State), Instant opLnkLoopRead c s ∧
      c.target ≤ 1023) ∧
    (∃ (s : State), eqFinding s.eeprom ≠ 0) ∧
    (∃ (s : State), ∃ p, ((s.port p).state ≠ .disabled ∧ (s.port p).state ≠ .up)) ∧
    (∃ (s : State), ∃ p, ((s.port p).state ≠ .disabled ∧ (s.port p).state ≠ .up ∧ (s.tileLnk (p / 16)).pllLock = true) ∧
      ∃ l, (l ∈ s.portLanes p ∧ (s.eqLane l).unused = false)) :=
  ⟨⟨cmd [(4, 4, 8)], { up with eeprom := List.replicate 8 0xFF }, instantOf (by decide +kernel), by decide +kernel⟩,
   ⟨cmd [(4, 4, 8)], { up with eeprom := [] }, instantOf (by decide +kernel), by decide +kernel⟩,
   ⟨cmd [(4, 4, 8), (16, 1, 3), (17, 1, 2), (18, 1, 6)], up.setPort 8 { cfg := { en := true, width := 2 }, state := .detect }, instantOf (by decide +kernel), by decide +kernel⟩,
   ⟨cmd [(4, 4, 8)], up.setPort 8 { cfg := { en := true, width := 2 }, state := .detect }, instantOf (by decide +kernel), by decide +kernel⟩,
   ⟨cmd [(4, 4, 8), (16, 1, 4)], up.setPort 8 { cfg := { en := true, width := 2 }, state := .detect }, instantOf (by decide +kernel), by decide +kernel⟩,
   ⟨cmd [(4, 4, 8)], up.setPort 8 { cfg := { en := true, width := 2 }, state := .detect }, instantOf (by decide +kernel), by decide +kernel⟩,
   ⟨up, by decide +kernel⟩,
   ⟨up.setPort 8 { cfg := { en := true, width := 2 }, state := .detect }, 8, by decide +kernel⟩,
   ⟨(up.setPort 8 { cfg := { en := true, width := 2 }, state := .detect }).setTileLnk 0 { powered := true, pllLock := true }, 8, by decide +kernel, 11, by decide +kernel⟩⟩

/-- Witnesses of the hypotheses of `ShelfOpcodes`. -/
theorem witness_ShelfOpcodes :
    (∃ (c : Cmd) (s : State), c.target ≤ 63 ∧
      let g := c.target
      let inWay := (s.link g).loopCmd.isSome || (s.link g).state == .loop || (s.link g).warns != [] ||
        (s.link g).queue.any fun m => m.kind == 0x30 || m.kind == 0x31
      Instant opLnkSlLoop c s ∧
      (1 ≤ c.le 16 2 ∧ c.le 16 2 ≤ 60000 ∧ inWay = false ∧ (s.link g).state ≠ .off)) ∧
    (∃ (c : Cmd) (s : State), c.target ≤ 63 ∧
      let g := c.target
      let inWay := (s.link g).loopCmd.isSome || (s.link g).state == .loop || (s.link g).warns != [] ||
        (s.link g).queue.any fun m => m.kind == 0x30 || m.kind == 0x31
      Instant opLnkSlLoop c s ∧
      (1 ≤ c.le 16 2 ∧ c.le 16 2 ≤ 60000 ∧ inWay = true)) ∧
    (∃ (c : Cmd) (s : State), c.target ≤ 63 ∧
      let g := c.target
      let inWay := (s.link g).loopCmd.isSome || (s.link g).state == .loop || (s.link g).warns != [] ||
        (s.link g).queue.any fun m => m.kind == 0x30 || m.kind == 0x31
      Instant opLnkSlLoop c s ∧
      (1 ≤ c.le 16 2 ∧ c.le 16 2 ≤ 60000 ∧ inWay = false ∧ (s.link g).state = .off)) ∧
    (∃ (c : Cmd) (s : State), c.target ≤ 63 ∧
      let g := c.target
      Instant opLnkSlDelay c s ∧
      ((s.link g).state = .active ∧ (s.link g).delayCmd = none)) ∧
    (∃ (c : Cmd) (s : State), c.target ≤ 63 ∧
      let g := c.target
      Instant opLnkSlDelay c s ∧
      ((s.link g).state = .active ∧ (s.link g).delayCmd.isSome = true)) ∧
    (∃ (c : Cmd) (s : State), c.target ≤ 63 ∧
      let g := c.target
      Instant opLnkSlDelay c s ∧
      (s.link g).state ≠ .active) :=
  ⟨⟨cmd [(4, 4, 3), (16, 2, 60000)], up.setLink 3 { state := .active }, by decide +kernel, instantOf (by decide +kernel), by decide +kernel⟩,
   ⟨cmd [(4, 4, 3), (16, 2, 60000)], up.setLink 3 { state := .loop }, by decide +kernel, instantOf (by decide +kernel), by decide +kernel⟩,
   ⟨cmd [(4, 4, 3), (16, 2, 60000)], up, by decide +kernel, instantOf (by decide +kernel), by decide +kernel⟩,
   ⟨cmd [(4, 4, 3), (16, 2, 60000)], up.setLink 3 { state := .active }, by decide +kernel, instantOf (by decide +kernel), by decide +kernel⟩,
   ⟨cmd [(4, 4, 3), (16, 2, 60000)], up.setLink 3 { state := .active, delayCmd := some { src := .ring 0 } }, by decide +kernel, instantOf (by decide +kernel), by decide +kernel⟩,
   ⟨cmd [(4, 4, 3), (16, 2, 60000)], up, by decide +kernel, instantOf (by decide +kernel), by decide +kernel⟩⟩

/-- Witnesses of the hypotheses of `BankAndIdleEvents`. -/
theorem witness_BankAndIdleEvents :
    (∃ (t : Tile) (s : State), (s.Alive ∧ s.tileExists t = true ∧ s.glb.eqLoaded = true)) ∧
    (∃ (t : Tile) (s : State), (s.Alive ∧ s.tileExists t = true ∧ s.glb.eqLoaded = false)) ∧
    (∃ (t : Tile) (s : State), (s.held = none ∧ (s.tileLnk t).powered = true ∧ (s.tileLnk t).pllLock = false ∧ (s.tileLnk t).poweredAt + us16 50 ≤ s.clock)) ∧
    (∃ (t : Tile) (s : State), (s.held = none ∧ s.clock < (s.tileLnk t).poweredAt + us16 50)) ∧
    (∃ (l : Lane) (s : State), (s.held = none ∧ (s.lane l).idle = true ∧ (s.lane l).rate ≠ 0)) :=
  ⟨⟨0, up.setPort 8 { cfg := { en := true }, state := .up, width := 2, rate := 6, mode := 2 }, by decide +kernel⟩,
   ⟨0, { up with glb := { up.glb with eqLoaded := false } }, by decide +kernel⟩,
   ⟨0, up.setTileLnk 0 { powered := true, poweredAt := 800000 }, by decide +kernel⟩,
   ⟨0, up.setTileLnk 0 { powered := true, poweredAt := 800001 }, by decide +kernel⟩,
   ⟨8, up.setLane 8 { idle := true, rate := 6 }, by decide +kernel⟩⟩

/-- Witnesses of the hypotheses of `ShelfLinkStates`. -/
theorem witness_ShelfLinkStates :
    (∃ (c : Cage) (s : State), (s.Alive ∧ s.tileExists c = true ∧ s.glb.eqLoaded = true ∧ s.feedOn c = true ∧ (s.link c).state = .off)) ∧
    (∃ (c : Cage) (s : State), (s.Alive ∧ s.tileExists c = true ∧ s.glb.eqLoaded = true ∧ (s.link c).state = .off)) ∧
    (∃ (c : Cage) (s : State), (s.Alive ∧ s.tileExists c = true ∧ s.glb.eqLoaded = true ∧ (s.link c).state = .locked ∧ (s.link c).queue = [] ∧ (s.link c).loopCmd = none ∧ (s.link c).delayCmd = none)) ∧
    (∃ (c : Cage) (s : State), (s.held = none ∧ (s.link c).state = .search)) ∧
    (∃ (c : Cage) (s : State), (s.held = none ∧ (s.link c).state = .search ∧ (s.link c).pol = 0)) ∧
    (∃ (c : Cage) (s : State), (s.held = none ∧ (s.link c).state = .aligned ∧ (s.link c).score = 0 ∧ (s.link c).alignedAt + us16 100 ≤ s.clock ∧ (s.link c).warns = [] ∧ (s.link c).loopEnd = 0)) ∧
    (∃ (s : State), s.held = none) ∧
    (∃ (c : Cage) (s : State), (((s.link c).up = true ∨ (s.link c).state = .aligned) ∧ (s.link c).goodRun < 3)) ∧
    (∃ (c : Cage) (s : State), (((s.link c).up = true ∨ (s.link c).state = .aligned) ∧ 3 ≤ (s.link c).goodRun)) ∧
    (∃ (c : Cage) (s : State), (((s.link c).up = true ∨ (s.link c).state = .aligned) ∧ (s.link c).score + 1 < (if (s.link c).up then 4 else 2))) ∧
    (∃ (c : Cage) (s : State), (((s.link c).up = true ∨ (s.link c).state = .aligned) ∧ (if (s.link c).up then 4 else 2) ≤ (s.link c).score + 1)) ∧
    (∃ (c : Cage) (s : State), ((s.link c).up = true ∧ 3 ≤ (s.link c).score)) ∧
    (∃ (c : Cage) (s : State), (s.held = none ∧ (s.link c).state = .loop ∧ (s.link c).loopEnd ≤ s.clock)) ∧
    (∃ (c : Cage) (s : State), (s.held = none ∧ s.clock < (s.link c).loopEnd)) ∧
    (∃ (c : Cage) (s : State), ∃ tk, (s.held = none ∧ (s.link c).state = .search ∧ (s.link c).loopEnd ≠ 0 ∧ (s.link c).loopEnd + ms16 100 ≤ s.clock ∧ (s.link c).loopCmd = some tk)) :=
  ⟨⟨3, (up.setFeed 3 { present := true, state := .on, onReq := true }).setLink 3 { en := false, pol := 2 }, by decide +kernel⟩,
   ⟨3, up, by decide +kernel⟩,
   ⟨3, up.setLink 3 { state := .locked }, by decide +kernel⟩,
   ⟨3, up.setLink 3 { state := .search }, by decide +kernel⟩,
   ⟨3, up.setLink 3 { state := .search }, by decide +kernel⟩,
   ⟨3, up.setLink 3 { state := .aligned }, by decide +kernel⟩,
   ⟨up, by decide +kernel⟩,
   ⟨3, up.setLink 3 { state := .aligned, goodRun := 2 }, by decide +kernel⟩,
   ⟨3, up.setLink 3 { state := .aligned, goodRun := 3, score := 1 }, by decide +kernel⟩,
   ⟨3, up.setLink 3 { state := .aligned }, by decide +kernel⟩,
   ⟨3, up.setLink 3 { state := .aligned, score := 1 }, by decide +kernel⟩,
   ⟨3, up.setLink 3 { state := .active, score := 3 }, by decide +kernel⟩,
   ⟨3, up.setLink 3 { state := .loop, loopEnd := 1600000 }, by decide +kernel⟩,
   ⟨3, up.setLink 3 { state := .loop, loopEnd := 1600001 }, by decide +kernel⟩,
   ⟨3, { up.setLink 3 { state := .search, loopEnd := 1600000, loopCmd := some { src := .ring 0 } } with clock := 1601600000 }, { src := .ring 0 }, by decide +kernel⟩⟩

/-- Witnesses of the hypotheses of `ShelfFramesAct`. -/
theorem witness_ShelfFramesAct :
    (∃ (kind seq : Nat) (payload : List Byte), (kind < 256 ∧ seq < 256 ∧ payload.length ≤ 32)) ∧
    (∃ (kind seq : Nat) (payload : List Byte), (kind < 256 ∧ seq < 256 ∧ payload.length ≤ 32) ∧
      let f := frameOf kind seq payload
      ∃ n : Byte, n ≠ f.length) ∧
    (∃ (kind seq : Nat) (payload : List Byte), (kind < 256 ∧ seq < 256 ∧ payload.length ≤ 32) ∧
      let f := frameOf kind seq payload
      ∃ r : BitVec 16, r ≠ f.crc) ∧
    (∃ (c : Cage) (f : SlFrame) (a : SlAcked) (s : State), (s.held = none ∧ (s.link c).state = .active ∧ frameGood f 0x01 (ackPay a) = false)) ∧
    (∃ (c : Cage) (f : SlFrame) (lim : Byte) (temp : BitVec 16) (s : State), (s.held = none ∧ (s.link c).state = .active) ∧
      let temperature := frameGood f 0x22 (tempPay temp lim)
      temperature = false) ∧
    (∃ (c : Cage) (f : SlFrame) (k caps : Byte) (id' : BitVec 128) (s : State), (s.held = none ∧ (s.link c).state = .active) ∧
      let present := frameGood f 0x20 (presentPay k caps id')
      present = false) ∧
    (∃ (c : Cage) (f : SlFrame) (power : Byte) (cur : BitVec 16) (s : State), (s.held = none ∧ (s.link c).state = .active) ∧
      let state := frameGood f 0x21 (powerPay power cur)
      state = false) ∧
    (∃ (c : Cage) (f : SlFrame) (ans : Byte) (ta : Word) (s : State), (s.held = none ∧ (s.link c).state = .active) ∧
      let resp := frameGood f 0x12 (delayPay ta ans)
      resp = false) ∧
    (∃ (c : Cage) (f : SlFrame) (w : BitVec 64) (s : State), (s.held = none ∧ (s.link c).state = .active) ∧
      let warn := frameGood f 0x40 (warnPay w)
      warn = false) ∧
    (∃ (c : Cage) (f : SlFrame) (lim : Byte) (temp : BitVec 16) (s : State), (s.held = none ∧ (s.link c).state = .active) ∧
      let temperature := frameGood f 0x22 (tempPay temp lim)
      temperature = true) ∧
    (∃ (c : Cage) (f : SlFrame) (k caps : Byte) (id' : BitVec 128) (s : State), (s.held = none ∧ (s.link c).state = .active) ∧
      let q := f.seq.toNat
      let new := fun (kind : Nat) => tget none (s.link c).lastRx kind ≠ some q
      let present := frameGood f 0x20 (presentPay k caps id')
      present = true ∧
      new 0x20) ∧
    (∃ (c : Cage) (f : SlFrame) (power : Byte) (cur : BitVec 16) (s : State), (s.held = none ∧ (s.link c).state = .active) ∧
      let q := f.seq.toNat
      let new := fun (kind : Nat) => tget none (s.link c).lastRx kind ≠ some q
      let state := frameGood f 0x21 (powerPay power cur)
      state = true ∧
      new 0x21 ∧
      power.toNat = (s.link c).power) ∧
    (∃ (c : Cage) (f : SlFrame) (power : Byte) (cur : BitVec 16) (s : State), (s.held = none ∧ (s.link c).state = .active) ∧
      let q := f.seq.toNat
      let new := fun (kind : Nat) => tget none (s.link c).lastRx kind ≠ some q
      let state := frameGood f 0x21 (powerPay power cur)
      state = true ∧
      new 0x21) ∧
    (∃ (c : Cage) (f : SlFrame) (power : Byte) (cur : BitVec 16) (s : State), (s.held = none ∧ (s.link c).state = .active) ∧
      let q := f.seq.toNat
      let state := frameGood f 0x21 (powerPay power cur)
      (state = true ∧ tget none (s.link c).lastRx 0x21 = some q)) ∧
    (∃ (c : Cage) (f : SlFrame) (ans : Byte) (ta : Word) (s : State), (s.held = none ∧ (s.link c).state = .active) ∧
      let resp := frameGood f 0x12 (delayPay ta ans)
      ∃ t1 : Nat, (resp = true ∧ (s.link c).t1 = some (ans.toNat, t1) ∧ t1 + ta.toNat ≤ s.clock ∧ (s.link c).delayCmd = none ∧ delayFits (s.link c).delays ((s.clock - t1 - ta.toNat) / 2) = true)) ∧
    (∃ (c : Cage) (f : SlFrame) (w : BitVec 64) (s : State), (s.held = none ∧ (s.link c).state = .active) ∧
      let warn := frameGood f 0x40 (warnPay w)
      warn = true) :=
  ⟨⟨0x50, 255, List.replicate 32 7, by decide +kernel⟩,
   ⟨0x50, 255, List.replicate 32 7, by decide +kernel, 31, by decide +kernel⟩,
   ⟨0x50, 255, List.replicate 32 7, by decide +kernel, 0, by decide +kernel⟩,
   ⟨3, { seq := 9, length := 3, crc := 0 }, { seq := 9, kind := 0x30 }, up.setLink 3 { state := .active, power := 2 }, by decide +kernel⟩,
   ⟨3, { seq := 9, length := 3, crc := 0 }, 1, 0x28, up.setLink 3 { state := .active, power := 2 }, by decide +kernel, by decide +kernel⟩,
   ⟨3, { seq := 9, length := 3, crc := 0 }, 1, 5, 0x501, up.setLink 3 { state := .active, power := 2 }, by decide +kernel, by decide +kernel⟩,
   ⟨3, { seq := 9, length := 3, crc := 0 }, 2, 7, up.setLink 3 { state := .active, power := 2 }, by decide +kernel, by decide +kernel⟩,
   ⟨3, { seq := 9, length := 3, crc := 0 }, 4, 16, up.setLink 3 { state := .active, power := 2 }, by decide +kernel, by decide +kernel⟩,
   ⟨3, { seq := 9, length := 3, crc := 0 }, 5, up.setLink 3 { state := .active, power := 2 }, by decide +kernel, by decide +kernel⟩,
   ⟨3, frameOf 0x22 9 (tempPay 0x28 1), 1, 0x28, up.setLink 3 { state := .active, power := 2 }, by decide +kernel, by decide +kernel⟩,
   ⟨3, frameOf 0x20 9 (presentPay 1 5 0x501), 1, 5, 0x501, up.setLink 3 { state := .active, power := 2 }, by decide +kernel, by decide +kernel, by show tget none _ _ ≠ _; decide +kernel⟩,
   ⟨3, frameOf 0x21 9 (powerPay 2 7), 2, 7, up.setLink 3 { state := .active, power := 2 }, by decide +kernel, by decide +kernel, by show tget none _ _ ≠ _; decide +kernel, by decide +kernel⟩,
   ⟨3, frameOf 0x21 9 (powerPay 2 7), 2, 7, up.setLink 3 { state := .active, power := 2 }, by decide +kernel, by decide +kernel, by show tget none _ _ ≠ _; decide +kernel⟩,
   ⟨3, frameOf 0x21 9 (powerPay 2 7), 2, 7, up.setLink 3 { state := .active, power := 2, lastRx := [(0x21, some 9)] }, by decide +kernel, by decide +kernel⟩,
   ⟨3, frameOf 0x12 9 (delayPay 16 4), 4, 16, up.setLink 3 { state := .active, t1 := some (4, 1599000) }, by decide +kernel, 1599000, by decide +kernel⟩,
   ⟨3, frameOf 0x40 9 (warnPay 5), 5, up.setLink 3 { state := .active, power := 2 }, by decide +kernel, by decide +kernel⟩⟩

/-- Witnesses of the hypotheses of `ShelfMessagesGoOut`. -/
theorem witness_ShelfMessagesGoOut :
    (∃ (c : Cage) (f : SlFrame) (a : SlAcked) (s : State), (s.held = none ∧ (s.link c).state = .active) ∧
      let seq := a.seq.toNat
      (frameGood f 0x01 (ackPay a) = true ∧ a.kind = 0x50) ∧
      (∃ m ∈ (s.link c).queue, m.seq = seq ∧ m.kind = 0x50 ∧ 0 < m.sent) ∧
      (s.link c).delayCmd = none) ∧
    (∃ (c : Cage) (f : SlFrame) (a : SlAcked) (s : State), (s.held = none ∧ (s.link c).state = .active) ∧
      let seq := a.seq.toNat
      (frameGood f 0x01 (ackPay a) = true ∧ (∀ m ∈ (s.link c).queue, m.seq ≠ seq))) ∧
    (∃ (c : Cage) (s : State), (s.held = none ∧ (s.link c).state = .active) ∧
      ∃ m : SlMsg, ((s.link c).queue = [m] ∧ 0 < m.sent ∧ m.sent < 16 ∧ m.lastAt + us16 20 ≤ s.clock)) ∧
    (∃ (c : Cage) (s : State), (s.held = none ∧ (s.link c).state = .active) ∧
      ∃ m : SlMsg, ((s.link c).queue = [m] ∧ m.sent = 16 ∧ m.kind = 0x20 ∧ m.lastAt + us16 20 ≤ s.clock)) ∧
    (∃ (c : Cage) (s : State), (s.held = none ∧ (s.link c).state = .active ∧ (s.link c).lastReq + ms16 2 ≤ s.clock ∧ (s.link c).delayCmd = none)) ∧
    (∃ (c : Cage) (s : State), (s.held = none ∧ (s.link c).state = .active) ∧
      ∃ tk, ((s.link c).lastReq + ms16 2 ≤ s.clock ∧ (s.link c).delayCmd = some tk)) ∧
    (∃ (c : Cage) (s : State), (s.held = none ∧ (s.link c).state = .active ∧ s.clock < (s.link c).lastReq + ms16 2)) ∧
    (∃ (c : Cage) (s : State), (s.held = none ∧ (s.link c).state = .active ∧ ((s.link c).lastTime = 0 ∨ (s.link c).lastTime + ns16 131072 ≤ s.clock))) ∧
    (∃ (c : Cage) (s : State), (s.held = none ∧ (s.link c).state = .active) ∧
      ∃ w : Nat × Nat × Nat, ((s.link c).warns = [w] ∧ w.2.2 + us16 20 ≤ s.clock)) :=
  ⟨⟨3, frameOf 0x01 3 [9, 0x50], { seq := 9, kind := 0x50 }, up.setLink 3 { state := .active, queue := [{ kind := 0x50, seq := 9, payload := [], sent := 1, lastAt := 1280000 }] }, by decide +kernel, by decide +kernel, ⟨{ kind := 0x50, seq := 9, payload := [], sent := 1, lastAt := 1280000 }, by decide +kernel⟩, by decide +kernel⟩,
   ⟨3, frameOf 0x01 3 [8, 0x50], { seq := 8, kind := 0x50 }, up.setLink 3 { state := .active, queue := [{ kind := 0x50, seq := 9, payload := [], sent := 1, lastAt := 1280000 }] }, by decide +kernel, by decide +kernel⟩,
   ⟨3, up.setLink 3 { state := .active, queue := [{ kind := 0x50, seq := 9, payload := [], sent := 1, lastAt := 1280000 }] }, by decide +kernel, { kind := 0x50, seq := 9, payload := [], sent := 1, lastAt := 1280000 }, by decide +kernel⟩,
   ⟨3, up.setLink 3 { state := .active, queue := [{ kind := 0x20, seq := 9, payload := [], sent := 16, lastAt := 1280000 }] }, by decide +kernel, { kind := 0x20, seq := 9, payload := [], sent := 16, lastAt := 1280000 }, by decide +kernel⟩,
   ⟨3, { up.setLink 3 { state := .active } with clock := 32000000 }, by decide +kernel⟩,
   ⟨3, { up.setLink 3 { state := .active, delayCmd := some { src := .ring 0 } } with clock := 32000000 }, by decide +kernel, { src := .ring 0 }, by decide +kernel⟩,
   ⟨3, up.setLink 3 { state := .active, lastReq := 1 }, by decide +kernel⟩,
   ⟨3, { up.setLink 3 { state := .active } with clock := 2097152 }, by decide +kernel⟩,
   ⟨3, up.setLink 3 { state := .active, warns := [(1, 5, 1280000)] }, by decide +kernel, (1, 5, 1280000), by decide +kernel⟩⟩

/-- Witnesses of the hypotheses of `DoorbellsMoveTheirIndex`. -/
theorem witness_DoorbellsMoveTheirIndex :
    (∃ (p : Ring) (v : Word) (s : State), s.Alive ∧
      let r := s.pair p
      let n := v.toNat % 65536
      (r.en = true ∧ n < 2 ^ r.log2)) ∧
    (∃ (p : Ring) (v : Word) (s : State), s.Alive ∧
      let r := s.pair p
      let n := v.toNat % 65536
      (r.en = true ∧ 2 ^ r.log2 ≤ n)) ∧
    (∃ (p : Ring) (s : State), s.Alive ∧
      let r := s.pair p
      r.en = false) :=
  ⟨⟨0, 63, up, by decide +kernel, by decide +kernel⟩,
   ⟨0, 64, up, by decide +kernel, by decide +kernel⟩,
   ⟨1, up, by decide +kernel, by decide +kernel⟩⟩

/-- Witnesses of the hypotheses of `RingPairStates`. -/
theorem witness_RingPairStates :
    (∃ (p : Ring) (s : State), s.Alive ∧
      let r := s.pair p
      (r.en = false ∧ r.held = [])) ∧
    (∃ (p : Ring) (v : Word) (s : State), s.Alive ∧
      let r := s.pair p
      let keep := bitOf v.toNat 2
      (r.en = false ∧ r.held ≠ [] ∧ keep = false)) ∧
    (∃ (p : Ring) (v : Word) (s : State), s.Alive ∧
      let r := s.pair p
      let keep := bitOf v.toNat 2
      (r.en = false ∧ keep = true)) ∧
    (∃ (p : Ring) (s : State), s.Alive ∧
      let r := s.pair p
      r.en = true) ∧
    (∃ (p : Ring) (s : State), s.Alive ∧
      let r := s.pair p
      (r.en = true ∧ r.state = .stopped ∧ s.fmpUp = true)) ∧
    (∃ (p : Ring) (s : State), s.Alive ∧
      let r := s.pair p
      (r.en = true ∧ r.state = .suspended ∧ s.fmpUp = true ∧ r.held = [] ∧ s.cmd.lossFt = none)) ∧
    (∃ (p : Ring) (s : State), s.Alive ∧
      let r := s.pair p
      (r.en = true ∧ r.state = .suspended ∧ s.fmpUp = true ∧ s.cmd.lossFt.isSome = true)) ∧
    (∃ (p : Ring) (s : State), s.Alive ∧
      let r := s.pair p
      (r.en = true ∧ s.fmpUp = false)) :=
  ⟨⟨1, up, by decide +kernel, by decide +kernel⟩,
   ⟨0, 1, { up with cmd := { up.cmd with pairs := [(0, { pair0 with en := false, state := .disabled, held := [{ tag := 3 }], cqBase := 0x20000 })] } }, by decide +kernel, by decide +kernel⟩,
   ⟨0, 5, { up with cmd := { up.cmd with pairs := [(0, { pair0 with en := false, state := .disabled, held := [{ tag := 3 }], cqBase := 0x20000 })] } }, by decide +kernel, by decide +kernel⟩,
   ⟨0, up, by decide +kernel, by decide +kernel⟩,
   ⟨0, { up with cmd := { up.cmd with pairs := [(0, { pair0 with state := .stopped, sqTail := 4 })] } }, by decide +kernel, by decide +kernel⟩,
   ⟨0, { up with cmd := { up.cmd with pairs := [(0, { pair0 with state := .suspended })] } }, by decide +kernel, by decide +kernel⟩,
   ⟨0, { up with cmd := { up.cmd with lossFt := some 5, pairs := [(0, { pair0 with state := .suspended, held := [{}] })] } }, by decide +kernel, by decide +kernel⟩,
   ⟨0, { up with fmp := { up.fmp with bme := false } }, by decide +kernel, by decide +kernel⟩⟩

/-- Witnesses of the hypotheses of `DeviceRingStates`. -/
theorem witness_DeviceRingStates :
    (∃ (d : Fin 3) (s : State), s.Alive ∧
      let r := s.devRing d
      (r.en = false ∧ r.held = [])) ∧
    (∃ (d : Fin 3) (v : Word) (s : State), s.Alive ∧
      let r := s.devRing d
      let w := v.toNat
      (r.en = false ∧ bitOf w 2 = false ∧ r.held ≠ [])) ∧
    (∃ (d : Fin 3) (s : State), s.Alive ∧
      let r := s.devRing d
      r.en = true) ∧
    (∃ (d : Fin 3) (s : State), s.Alive ∧
      let r := s.devRing d
      (r.en = true ∧ r.state = .suspended ∧ s.fmpUp = true ∧ s.cmd.lossFt = none ∧ r.held = [])) ∧
    (∃ (d : Fin 3) (s : State), s.Alive ∧
      let r := s.devRing d
      (r.en = true ∧ s.fmpUp = false)) ∧
    (∃ (d : Fin 3) (v : Word) (s : State), s.Alive ∧
      let r := s.devRing d
      let w := v.toNat
      (w % 65536 < 2 ^ r.log2 ∧ r.held = [])) ∧
    (∃ (d : Fin 3) (v : Word) (s : State), s.Alive ∧
      let r := s.devRing d
      let w := v.toNat
      (2 ^ r.log2 ≤ w % 65536 ∧ r.held = [])) :=
  ⟨⟨1, up, by decide +kernel, by decide +kernel⟩,
   ⟨1, 1, up.setDevRing 1 { held := [[1]] }, by decide +kernel, by decide +kernel⟩,
   ⟨1, up.setDevRing 1 { base := 0x30000, en := true, state := .running, phase := true }, by decide +kernel, by decide +kernel⟩,
   ⟨1, up.setDevRing 1 { en := true, state := .suspended }, by decide +kernel, by decide +kernel⟩,
   ⟨1, ({ up with fmp := { up.fmp with bme := false } }).setDevRing 1 { en := true, state := .suspended }, by decide +kernel, by decide +kernel⟩,
   ⟨1, 63, up.setDevRing 1 { base := 0x30000, en := true, state := .running, phase := true }, by decide +kernel, by decide +kernel⟩,
   ⟨1, 64, up.setDevRing 1 { base := 0x30000, en := true, state := .running, phase := true }, by decide +kernel, by decide +kernel⟩⟩

/-- Witnesses of the hypotheses of `EntriesAreWrittenHeldOrLost`. -/
theorem witness_EntriesAreWrittenHeldOrLost :
    (∃ (d : Nat) (s : State), 
      let r := s.devRing d
      (r.state = .running ∧ r.full = false ∧ r.held = [])) ∧
    (∃ (d : Nat) (s : State), 
      let r := s.devRing d
      (¬ (r.state = .running ∧ r.full = false ∧ r.held = []) ∧ r.held.length < devHoldCap d)) ∧
    (∃ (d : Nat) (s : State), 
      let r := s.devRing d
      (¬ (r.state = .running ∧ r.full = false ∧ r.held = []) ∧ devHoldCap d ≤ r.held.length)) ∧
    (∃ (d : Nat), ∃ e, e ≠ d) :=
  ⟨⟨1, up.setDevRing 1 { base := 0x30000, en := true, state := .running, phase := true }, by decide +kernel⟩,
   ⟨1, up, by decide +kernel⟩,
   ⟨1, up.setDevRing 1 { held := List.replicate 4096 [] }, by decide +kernel⟩,
   ⟨1, 0, by decide +kernel⟩⟩

/-- Witnesses of the hypotheses of `DescriptorFetching`. -/
theorem witness_DescriptorFetching :
    (∃ (b k q : Nat) (s : State), (s.held = none ∧ pickFetch s.slot s.cmd.pairs = some (b, k, q) ∧ (s.cmd.pairs.filter fun x => x.2.fetch.isSome).length < 16 ∧ s.inflight + s.fetching < 8192 ∧ 0 < (s.pair q).fetchable)) ∧
    (∃ (s : State), (s.held = none ∧ pickFetch s.slot s.cmd.pairs = none)) ∧
    (∃ (p : Ring) (f : Fetch) (s : State), (s.held = none ∧ (s.pair p).fetch = some f)) ∧
    (∃ (p : Ring) (f : Fetch) (s : State), (s.held = none ∧ (s.pair p).fetch = some f ∧ (s.pair p).state = .running)) ∧
    (∃ (p : Ring) (f : Fetch) (s : State), (s.held = none ∧ (s.pair p).fetch = some f ∧ (s.pair p).state = .running ∧ f.at16 + ms16 50 ≤ s.clock)) ∧
    (∃ (p : Ring) (f : Fetch) (s : State), (s.held = none ∧ (s.pair p).fetch = some f ∧ s.clock < f.at16 + ms16 50)) ∧
    (∃ (s : State), s.held = none) :=
  ⟨⟨5, 0, 0, { up with cmd := { up.cmd with pairs := [(0, { pair0 with sqTail := 3, bells := [(3, 5)] })] } }, by decide +kernel⟩,
   ⟨up, by decide +kernel⟩,
   ⟨0, { first := 60, count := 4, at16 := 1600000 }, { up with cmd := { up.cmd with pairs := [(0, { pair0 with fetch := some { first := 60, count := 4, at16 := 1600000 } })] } }, by decide +kernel⟩,
   ⟨0, { first := 60, count := 4, at16 := 1600000 }, { up with cmd := { up.cmd with pairs := [(0, { pair0 with fetch := some { first := 60, count := 4, at16 := 1600000 } })] } }, by decide +kernel⟩,
   ⟨0, { first := 60, count := 4, at16 := 0 }, { { up with cmd := { up.cmd with pairs := [(0, { pair0 with fetch := some { first := 60, count := 4, at16 := 0 } })] } } with clock := 800000000 }, by decide +kernel⟩,
   ⟨0, { first := 60, count := 4, at16 := 1600000 }, { up with cmd := { up.cmd with pairs := [(0, { pair0 with fetch := some { first := 60, count := 4, at16 := 1600000 } })] } }, by decide +kernel⟩,
   ⟨{ up with cmd := { up.cmd with pairs := [(0, { pair0 with fetch := some { first := 60, count := 4, at16 := 1600000 } })] } }, by decide +kernel⟩⟩

/-- Witnesses of the hypotheses of `PipelineTakesOneCommandPerCycle`. -/
theorem witness_PipelineTakesOneCommandPerCycle :
    (∃ (p : Nat) (d : WaitDesc) (o : OpSpec) (s : State), s.held = none ∧
      let c : Cmd := { src := .ring (Fin.ofNat 64 p), desc := d.desc }
      (s.cmd.cycle % 8 ≠ 7 ∧ pickTake s.slot s.cmd.pairs = some (p, d)) ∧
      opOf c.opcode = some o) ∧
    (∃ (p : Nat) (d : WaitDesc) (s : State), s.held = none ∧
      let c : Cmd := { src := .ring (Fin.ofNat 64 p), desc := d.desc }
      (s.cmd.cycle % 8 ≠ 7 ∧ pickTake s.slot s.cmd.pairs = some (p, d) ∧ opOf c.opcode = none)) ∧
    (∃ (s : State), (s.held = none ∧ s.cmd.cycle % 8 = 7)) ∧
    (∃ (o : OpSpec) (x : SideCmd) (xs : List SideCmd) (s : State), (s.held = none ∧ s.cmd.side = x :: xs ∧ (s.cmd.cycle % 8 = 7 ∨ pickTake s.slot s.cmd.pairs = none) ∧ x.mctp = false) ∧
      opOf x.op = some o) ∧
    (∃ (p : Nat) (d : WaitDesc) (x : SideCmd) (xs : List SideCmd) (s : State), (s.held = none ∧ s.cmd.side = x :: xs ∧ s.cmd.cycle % 8 ≠ 7 ∧ pickTake s.slot s.cmd.pairs = some (p, d))) ∧
    (∃ (p : Nat) (s : State), s.held = none ∧
      ∃ (r : RingPair) (e : WaitDesc) (es : List WaitDesc), (r.waiting = e :: es ∧ ({ src := .ring (Fin.ofNat 64 p), desc := e.desc } : Cmd).fence = true)) :=
  ⟨⟨0, ⟨0, 5⟩, opNop, { up with cmd := { up.cmd with pairs := [(0, { pair0 with waiting := [⟨0, 5⟩], inflight := 1 })] } }, by decide +kernel, by decide +kernel, (congrArg opOf (show _ = 0 by decide +kernel)).trans rfl⟩,
   ⟨0, ⟨0x04, 5⟩, { up with cmd := { up.cmd with pairs := [(0, { pair0 with waiting := [⟨0x04, 5⟩], inflight := 1 })] } }, by decide +kernel, by decide +kernel⟩,
   ⟨{ up with cmd := { up.cmd with cycle := 7 } }, by decide +kernel⟩,
   ⟨opTimeSyncSet, { op := 0x21, cmd := side [] }, [], { up with cmd := { up.cmd with side := [{ op := 0x21, cmd := side [] }] } }, by decide +kernel, by with_unfolding_all rfl⟩,
   ⟨0, ⟨0, 5⟩, { op := 0x21, cmd := side [] }, [], { up with cmd := { up.cmd with side := [{ op := 0x21, cmd := side [] }], pairs := [(0, { pair0 with waiting := [⟨0, 5⟩] })] } }, by decide +kernel⟩,
   ⟨0, { up with cmd := { up.cmd with pairs := [(0, { pair0 with waiting := [⟨0, 5⟩], inflight := 1 })] } }, by decide +kernel, { pair0 with waiting := [⟨0x100, 5⟩], inflight := 1 }, ⟨0x100, 5⟩, [], by decide +kernel⟩⟩

/-- Witnesses of the hypotheses of `VectorsAreSentWaitOrPend`. -/
theorem witness_VectorsAreSentWaitOrPend :
    (∃ (s : State), (s.held = none ∧ (s.fmp.bme && s.fmp.msixEn) = false)) ∧
    (∃ (s : State), s.held = none ∧
      ∃ n : Nat, ((s.fmp.bme && s.fmp.msixEn) = true ∧ (tget {} s.fmp.table n).masked = true)) ∧
    (∃ (s : State), s.held = none ∧
      ∃ n : Nat, ((s.fmp.bme && s.fmp.msixEn) = true ∧ (tget {} s.fmp.table n).masked = false ∧ n ∉ s.fmp.sent)) ∧
    (∃ (s : State), s.held = none ∧
      ∃ n : Nat, ((s.fmp.bme && s.fmp.msixEn) = true ∧ (tget {} s.fmp.table n).masked = false ∧ n ∈ s.fmp.sent)) ∧
    (∃ (v : Byte) (s : State), (s.held = none ∧ s.fmpAlive = true ∧ s.fmp.pend.contains v.toNat = false)) ∧
    (∃ (v : Byte) (s : State), (s.held = none ∧ s.fmpAlive = true ∧ s.fmp.pend.contains v.toNat = true)) ∧
    (∃ (s : State), (s.held = none ∧ s.fmpAlive = true ∧ s.fmp.waiting = [])) ∧
    (∃ (s : State), s.held = none ∧
      ∃ n : Nat, (s.fmpAlive = true ∧ s.fmp.waiting = [n])) ∧
    (∃ (p : Ring) (s : State), s.held = none ∧
      ∃ t : Nat, ((s.pair p).irqEn = true ∧ (s.pair p).firstAt = some t ∧ (s.pair p).irqDelay ≠ 0 ∧ t + us16 (s.pair p).irqDelay ≤ s.clock)) ∧
    (∃ (p : Ring) (s : State), (s.held = none ∧ ((s.pair p).firstAt = none ∨ (s.pair p).irqEn = false))) :=
  ⟨⟨{ up with fmp := { up.fmp with bme := false } }, by decide +kernel⟩,
   ⟨up, by decide +kernel, 5, by decide +kernel⟩,
   ⟨{ up with fmp := { up.fmp with table := [(5, { masked := false })] } }, by decide +kernel, 5, by decide +kernel⟩,
   ⟨{ up with fmp := { up.fmp with table := [(5, { masked := false })], sent := [5] } }, by decide +kernel, 5, by decide +kernel⟩,
   ⟨5, up, by decide +kernel⟩,
   ⟨5, { up with fmp := { up.fmp with pend := [5] } }, by decide +kernel⟩,
   ⟨up, by decide +kernel⟩,
   ⟨{ up with fmp := { up.fmp with bme := false, waiting := [5] } }, by decide +kernel, 5, by decide +kernel⟩,
   ⟨0, { up with cmd := { up.cmd with pairs := [(0, { pair0 with irqEn := true, firstAt := some 1584000, irqDelay := 1 })] } }, by decide +kernel, 1584000, by decide +kernel⟩,
   ⟨0, up, by decide +kernel⟩⟩

/-- Witnesses of the hypotheses of `FmpLossSuspendsRings`. -/
theorem witness_FmpLossSuspendsRings :
    ∃ s : State, s.held = none :=
  ⟨up, by decide +kernel⟩

/-- Witnesses of the hypotheses of `RegisterWritesReachTheirWindow`. -/
theorem witness_RegisterWritesReachTheirWindow :
    (∃ (s : State), s.Alive) ∧
    (∃ (p : Ring) (s : State), (s.Alive ∧ (s.pair p).en = false ∧ s.fmp.stagedLo = [])) ∧
    (∃ (s : State), (s.Alive ∧ s.glb.ftuRun = false)) ∧
    (∃ (s : State), (s.Alive ∧ s.isF = false)) ∧
    (∃ (w : Word) (s : State), (s.Alive ∧ w.toNat / 2 ^ 16 = 0x4B31 ∧ s.glb.resetDue = none)) ∧
    (∃ (w : Word) (s : State), (s.Alive ∧ w.toNat / 2 ^ 16 ≠ 0x4B31)) :=
  ⟨⟨up, by decide +kernel⟩,
   ⟨1, up, by decide +kernel⟩,
   ⟨{ up with glb := { up.glb with ftuRun := false } }, by decide +kernel⟩,
   ⟨{ up with variant := .k1024B }, by decide +kernel⟩,
   ⟨0x4B310002, up, by decide +kernel⟩,
   ⟨0x4B300002, up, by decide +kernel⟩⟩

/-- Witnesses of the hypotheses of `SupplyLossHoldsTheModule`. -/
theorem witness_SupplyLossHoldsTheModule :
    ∃ (i : Instr), i ∈ [.runningOvercurrent, .fastOvercurrent, .overvoltage, .brownOut, .moduleReset .inputPower,
      .moduleReset .inputFailure] :=
  ⟨.brownOut, by decide +kernel⟩

/-- Witnesses of the hypotheses of `OtherResetsKeepLinkGenerations`. -/
theorem witness_OtherResetsKeepLinkGenerations :
    (∃ (s : State), s.held = none) ∧
    (∃ (s : State), s.held = none ∧
      ∃ d : Nat, (s.glb.resetDue = some (2, d) ∧ d ≤ s.clock)) ∧
    (∃ (s : State), (s.held = none ∧ s.glb.resetDue = none)) :=
  ⟨⟨up, by decide +kernel⟩,
   ⟨{ up with glb := { up.glb with resetDue := some (2, 1600000) } }, by decide +kernel, 1600000, by decide +kernel⟩,
   ⟨up, by decide +kernel⟩⟩

/-- Witnesses of the hypotheses of `HoldsEndAsTheyMust`. -/
theorem witness_HoldsEndAsTheyMust :
    (∃ (s : State), ∃ h : Hold, (s.held = some h ∧ h ≠ .thermal ∧ s.ppu.rampDone = true)) ∧
    (∃ (s : State), ∃ h : Hold, (s.held = some h ∧ s.ppu.rampDone = false)) ∧
    (∃ (s : State), s.held = some .thermal) ∧
    (∃ (s : State), s.held ≠ some .thermal) ∧
    (∃ (s : State), (s.ppu.rampDone = false ∧ s.ppu.failedRamps < 3)) ∧
    (∃ (s : State), 3 ≤ s.ppu.failedRamps) ∧
    (∃ (s : State), s.ppu.rampDone = false) :=
  ⟨⟨{ State.reset with held := some .supply, ppu := { rampDone := true } }, .supply, by decide +kernel⟩,
   ⟨{ State.reset with held := some .supply, ppu := { rampDone := false } }, .supply, by decide +kernel⟩,
   ⟨{ State.reset with held := some .thermal, ppu := { rampDone := true } }, by decide +kernel⟩,
   ⟨{ State.reset with held := some .supply, ppu := { rampDone := true } }, by decide +kernel⟩,
   ⟨{ State.reset with held := some .supply, ppu := { rampDone := false, failedRamps := 2 } }, by decide +kernel⟩,
   ⟨{ State.reset with held := some .supply, ppu := { rampDone := false, failedRamps := 3 } }, by decide +kernel⟩,
   ⟨{ State.reset with held := some .supply, ppu := { rampDone := false } }, by decide +kernel⟩⟩

/-- Witnesses of the hypotheses of `StartUpStepsSetReadiness`. -/
theorem witness_StartUpStepsSetReadiness :
    (∃ (s : State), (s.held = none ∧ s.glb.ftuRun = false)) ∧
    (∃ (s : State), (s.held = none ∧ s.glb.ftuRun = true ∧ s.glb.sramSwept = false)) ∧
    (∃ (s : State), (s.held = none ∧ s.glb.ftuRun = true ∧ s.glb.memTrained = false)) ∧
    (∃ (st : StoreCheck) (s : State), (s.held = none ∧ s.msc.state = .running ∧ s.glb.fmpReady = false ∧ st = {})) ∧
    (∃ (s : State), (s.held = none ∧ s.glb.fmpReady = true ∧ s.glb.eqLoaded = false)) ∧
    (∃ (s : State), (s.held = none ∧ s.glb.fmpReady = true ∧ s.glb.ppuRun = false ∧ (∀ x ∈ s.ppu.feeds, x.2.auto = false))) ∧
    (∃ (s : State), (s.held = none ∧ s.glb.fmpReady = true ∧ s.glb.memTrained = true ∧ s.glb.memSwept = false ∧ (∀ x ∈ s.mem.retire, x.2.valid = true → x.2.hard = []))) ∧
    (∃ (s : State), (s.held = none ∧ s.glb.fmpReady = false)) :=
  ⟨⟨State.reset, by decide +kernel⟩,
   ⟨{ up with glb := { ftuRun := true } }, by decide +kernel⟩,
   ⟨{ up with glb := { ftuRun := true } }, by decide +kernel⟩,
   ⟨{}, { up with glb := { ftuRun := true, fwVerified := true } }, by decide +kernel⟩,
   ⟨{ up with glb := { ftuRun := true, fmpReady := true } }, by decide +kernel⟩,
   ⟨{ up with glb := { ftuRun := true, fmpReady := true } }, by decide +kernel⟩,
   ⟨{ up with glb := { ftuRun := true, fmpReady := true, memTrained := true } }, by decide +kernel⟩,
   ⟨State.reset, by decide +kernel⟩⟩

/-- Witnesses of the hypotheses of `RomBootsAVerifiedSlot`. -/
theorem witness_RomBootsAVerifiedSlot :
    (∃ (s : State), (s.held = none ∧ s.glb.ftuRun = true ∧ s.msc.state = .rom ∧ s.msc.revert = none) ∧
      ∃ b : Bool, s.msc.nor.trial = some b) ∧
    (∃ (s : State), (s.held = none ∧ s.glb.ftuRun = true ∧ s.msc.state = .rom ∧ s.msc.revert = none ∧ s.msc.nor.trial = none)) ∧
    (∃ (s : State), (s.held = none ∧ s.glb.ftuRun = true ∧ s.msc.state = .rom ∧ s.msc.revert = none) ∧
      let a := s.msc.nor.confirmedB
      (s.msc.nor.trial = none ∧ s.slotReason a ≠ 0)) ∧
    (∃ (s : State), (s.held = none ∧ s.glb.ftuRun = true ∧ s.msc.state = .rom ∧ s.msc.revert = none) ∧
      let a := s.msc.nor.confirmedB
      (s.msc.nor.trial = none ∧ s.slotReason a ≠ 0 ∧ s.slotReason (!a) ≠ 0)) :=
  ⟨⟨{ State.reset with glb := { ftuRun := true }, msc := { nor := { trial := some true } } }, by decide +kernel, true, by decide +kernel⟩,
   ⟨{ State.reset with glb := { ftuRun := true } }, by decide +kernel⟩,
   ⟨{ State.reset with glb := { ftuRun := true } }, by decide +kernel, by decide +kernel⟩,
   ⟨{ State.reset with glb := { ftuRun := true } }, by decide +kernel, by decide +kernel⟩⟩

/-- Witnesses of the hypotheses of `FirmwareUpdateOpcodes`. -/
theorem witness_FirmwareUpdateOpcodes :
    (∃ (c : Cmd) (b : Bool) (s : State), Instant opFwStage c s ∧
      (s.inactiveSlot = some b ∧ c.le 24 4 + c.le 28 4 ≤ slotSize ∧ 1 ≤ c.le 28 4 ∧ c.le 28 4 ≤ 1048576)) ∧
    (∃ (c : Cmd) (s : State), Instant opFwStage c s ∧
      s.inactiveSlot = none) ∧
    (∃ (c : Cmd) (s : State), Instant opFwVerify c s ∧
      s.inactiveSlot = none) ∧
    (∃ (c : Cmd) (b : Bool) (s : State), Instant opFwVerify c s ∧
      s.inactiveSlot = some b) ∧
    (∃ (c : Cmd) (b : Bool) (s : State), Instant opFwVerify c s ∧
      (s.inactiveSlot = some b ∧ s.slotReason b ≠ 0)) ∧
    (∃ (c : Cmd) (b : Bool) (s : State), Instant opFwActivate c s ∧
      (c.byte 16 = 0 ∧ s.msc.state ≠ .recovery ∧ s.inactiveSlot = some b)) ∧
    (∃ (c : Cmd) (s : State), Instant opFwActivate c s ∧
      (c.byte 16 = 0 ∧ s.msc.state = .recovery)) ∧
    (∃ (c : Cmd) (s : State), Instant opFwActivate c s ∧
      (c.byte 16 = 1 ∧ s.msc.onTrial = true)) ∧
    (∃ (c : Cmd) (s : State), Instant opFwActivate c s ∧
      (c.byte 16 = 1 ∧ s.msc.onTrial = false)) ∧
    (∃ (c : Cmd) (s : State), Instant opFwQuery c s ∧
      c.byte 16 = 3) ∧
    (∃ (c : Cmd) (s : State), Instant opFwQuery c s ∧
      c.byte 16 = 4) ∧
    (∃ (c : Cmd) (b : Bool) (s : State), Instant opFwQuery c s ∧
      (c.byte 16 = 1 ∧ s.inactiveSlot = some b)) ∧
    (∃ (c : Cmd) (s : State), Instant opFwRollbackAdvance c s ∧
      (s.msc.onTrial = false ∧ s.msc.nor.svnFloor < s.msc.runSvn)) ∧
    (∃ (c : Cmd) (s : State), Instant opFwRollbackAdvance c s ∧
      (s.msc.onTrial = true ∨ s.msc.runSvn ≤ s.msc.nor.svnFloor)) :=
  ⟨⟨cmd [(16, 8, 20480), (28, 4, 4)], true, up, instantOf (by decide +kernel), by decide +kernel⟩,
   ⟨cmd [(16, 8, 20480), (28, 4, 4)], { up with msc := { up.msc with onTrial := true, runB := true, nor := { trial := some true } } }, instantOf (by decide +kernel), by decide +kernel⟩,
   ⟨cmd [(16, 8, 20480), (28, 4, 4)], { up with msc := { up.msc with onTrial := true, runB := true, nor := { trial := some true } } }, instantOf (by decide +kernel), by decide +kernel⟩,
   ⟨cmd [(16, 8, 20480), (28, 4, 4)], true, up, instantOf (by decide +kernel), by decide +kernel⟩,
   ⟨cmd [(16, 8, 20480), (28, 4, 4)], true, up, instantOf (by decide +kernel), by decide +kernel⟩,
   ⟨cmd [], true, up, instantOf (by decide +kernel), by decide +kernel⟩,
   ⟨cmd [], { up with msc := { up.msc with state := .recovery } }, instantOf (by decide +kernel), by decide +kernel⟩,
   ⟨cmd [(16, 1, 1)], { up with msc := { up.msc with runB := true, onTrial := true, nor := { trial := some true } } }, instantOf (by decide +kernel), by decide +kernel⟩,
   ⟨cmd [(16, 1, 1)], up, instantOf (by decide +kernel), by decide +kernel⟩,
   ⟨cmd [(16, 1, 3)], up, instantOf (by decide +kernel), by decide +kernel⟩,
   ⟨cmd [(16, 1, 4)], up, instantOf (by decide +kernel), by decide +kernel⟩,
   ⟨cmd [(16, 1, 1)], true, up, instantOf (by decide +kernel), by decide +kernel⟩,
   ⟨cmd [(16, 8, 20480), (28, 4, 4)], { up with msc := { up.msc with runSvn := 1 } }, instantOf (by decide +kernel), by decide +kernel⟩,
   ⟨cmd [(16, 8, 20480), (28, 4, 4)], up, instantOf (by decide +kernel), by decide +kernel⟩⟩

/-- Witnesses of the hypotheses of `IdentityAndRestart`. -/
theorem witness_IdentityAndRestart :
    (∃ (c : Cmd) (s : State), Instant opIdCertRead c s ∧
      c.byte 16 ≤ 2) ∧
    (∃ (c : Cmd) (s : State), Instant opAttestSign c s) ∧
    (∃ (c : Cmd) (s : State), Instant opMscRestart c s) ∧
    (∃ (s : State), (s.held = none ∧ s.msc.state = .running ∧ s.msc.onTrial = false)) ∧
    (∃ (s : State), (s.held = none ∧ s.msc.state = .running ∧ s.msc.onTrial = true)) ∧
    (∃ (s : State), ∃ (at16 : Nat) (tk : Ticket), (s.held = none ∧ s.msc.state = .restarting ∧ s.msc.restart = some (at16, some tk) ∧ tk.op = 0xB7 ∧ s.msc.revert = none ∧ s.msc.nor.trial = none ∧ s.fmp.heldReqs = [])) ∧
    (∃ (s : State), (s.held = none ∧ s.msc.state ≠ .restarting)) ∧
    (∃ (s : State), (s.held = none ∧ s.msc.dirty = [])) ∧
    (∃ (s : State), (s.held = none ∧ s.msc.dirty = [(2, s.clock)])) :=
  ⟨⟨cmd [(16, 1, 2), (24, 8, 20480), (32, 4, 4096)], up, instantOf (by decide +kernel), by decide +kernel⟩,
   ⟨cmd [(16, 1, 2), (24, 8, 20480), (32, 4, 4096)], up, instantOf (by decide +kernel)⟩,
   ⟨cmd [(16, 1, 2), (24, 8, 20480), (32, 4, 4096)], up, instantOf (by decide +kernel)⟩,
   ⟨up, by decide +kernel⟩,
   ⟨{ up with msc := { up.msc with onTrial := true } }, by decide +kernel⟩,
   ⟨{ up with msc := { up.msc with state := .restarting, restart := some (1600000, some { src := .ring 0, op := 0xB7 }) } }, 1600000, { src := .ring 0, op := 0xB7 }, by decide +kernel⟩,
   ⟨up, by decide +kernel⟩,
   ⟨up, by decide +kernel⟩,
   ⟨{ up with msc := { up.msc with dirty := [(2, 1600000)] } }, by decide +kernel⟩⟩

/-- Witnesses of the hypotheses of `FmRequestsAreAnswered`. -/
theorem witness_FmRequestsAreAnswered :
    (∃ (s : State), (s.Alive ∧ s.msc.state = .running)) ∧
    (∃ (n : Nat) (s : State), (s.Alive ∧ s.msc.state = .running ∧ 256 ≤ n ∧ n ≤ 4096)) ∧
    (∃ (fp : Byte) (s : State), (s.Alive ∧ s.msc.state = .running ∧ s.portExists (s.fmPort fp) = true)) ∧
    (∃ (fp : Byte) (s : State), (s.Alive ∧ s.msc.state = .running ∧ s.portExists (s.fmPort fp) = false)) ∧
    (∃ (fp : Byte) (s : State), (s.Alive ∧ s.msc.state = .running ∧ s.portExists (s.fmPort fp) = true ∧ (s.port (s.fmPort fp)).cfg.en = true ∧ (s.port (s.fmPort fp)).cfg.role = 0)) ∧
    (∃ (page : Byte) (s : State), (s.Alive ∧ s.msc.state = .running ∧ page.toNat ≤ 3 ∧ s.portExists (256 * page.toNat) = true)) ∧
    (∃ (page : Byte) (s : State), (s.Alive ∧ s.msc.state = .running ∧ 3 < page.toNat)) :=
  ⟨⟨up, by decide +kernel⟩,
   ⟨4096, up, by decide +kernel⟩,
   ⟨8, up, by decide +kernel⟩,
   ⟨8, { up with variant := .k512B, fmp := { up.fmp with portPage := 3 } }, by decide +kernel⟩,
   ⟨8, up.setPort 8 { cfg := { en := true } }, by decide +kernel⟩,
   ⟨3, up, by decide +kernel⟩,
   ⟨4, up, by decide +kernel⟩⟩

/-- Witnesses of the hypotheses of `RequestsWaitDuringARestart`. -/
theorem witness_RequestsWaitDuringARestart :
    (∃ (q : MscReq) (s : State), (s.reachable q = true ∧ s.msc.state = .restarting ∧ q.doe = none ∧ s.mctpHeld < 8)) ∧
    (∃ (q : MscReq) (s : State), (s.reachable q = true ∧ s.msc.state = .restarting ∧ q.doe = none ∧ 8 ≤ s.mctpHeld)) ∧
    (∃ (q : MscReq) (s : State), (s.reachable q = true ∧ (s.msc.state = .rom ∨ s.msc.state = .recovery))) ∧
    (∃ (q : MscReq) (s : State), (s.reachable q = true ∧ s.msc.state = .running)) :=
  ⟨⟨.identify, { up with msc := { up.msc with state := .restarting, restart := some (1600000, some { src := .ring 0, op := 0xB7 }) } }, by decide +kernel⟩,
   ⟨.identify, { { up with msc := { up.msc with state := .restarting, restart := some (1600000, some { src := .ring 0, op := 0xB7 }) } } with fmp := { up.fmp with heldReqs := List.replicate 8 .identify } }, by decide +kernel⟩,
   ⟨.identify, { up with msc := { up.msc with state := .recovery } }, by decide +kernel⟩,
   ⟨.identify, up, by decide +kernel⟩⟩

/-- Witnesses of the hypotheses of `MailboxAnswersItsSwitch`. -/
theorem witness_MailboxAnswersItsSwitch :
    ∃ (p : Port) (v : Nat) (s : State), (s.held = none ∧ s.vcsOf p = some v) :=
  ⟨8, 0, (up.setPort 8 { cfg := { en := true, role := 1 }, state := .up, cxl := true, active := true }).setBinding (17 * 8 + 16) (some { vfi := 0, owner := 8, vppb := 0, role := 1 }), by decide +kernel⟩

/-- Witnesses of the hypotheses of `SpdmRequestsAreAnswered`. -/
theorem witness_SpdmRequestsAreAnswered :
    (∃ (via : SpdmVia) (req : List Byte) (s : State), (s.held = none ∧ s.msc.state = .running) ∧
      (∀ k, s.reachable (.spdm via k req) = true)) ∧
    (∃ (via : SpdmVia) (req : List Byte) (s : State), (s.held = none ∧ s.msc.state = .running) ∧
      (∀ k, s.reachable (.spdm via k req) = true) ∧
      s.isF = true) ∧
    (∃ (via : SpdmVia) (req : List Byte) (s : State), (s.held = none ∧ s.msc.state = .running) ∧
      (∀ k, s.reachable (.spdm via k req) = true) ∧
      s.isF = false) ∧
    (∃ (via : SpdmVia) (req : List Byte) (s : State), (s.held = none ∧ s.msc.state = .running) ∧
      (∀ k, s.reachable (.spdm via k req) = true) ∧
      (s.isF = true ∧ s.msc.sessions.contains via = true)) ∧
    (∃ (via : SpdmVia) (req : List Byte) (s : State), (s.held = none ∧ s.msc.state = .running) ∧
      (∀ k, s.reachable (.spdm via k req) = true) ∧
      s.msc.sessions.contains via = false) :=
  ⟨⟨.mctp, [0x10], up, by decide +kernel, fun k => by cases k <;> decide +kernel⟩,
   ⟨.mctp, [0x10], up, by decide +kernel, fun k => by cases k <;> decide +kernel, by decide +kernel⟩,
   ⟨.mctp, [0x10], { up with variant := .k1024B }, by decide +kernel, fun k => by cases k <;> decide +kernel, by decide +kernel⟩,
   ⟨.mctp, [0x10], { up with msc := { up.msc with sessions := [.mctp] } }, by decide +kernel, fun k => by cases k <;> decide +kernel, by decide +kernel⟩,
   ⟨.mctp, [0x10], up, by decide +kernel, fun k => by cases k <;> decide +kernel, by decide +kernel⟩⟩

/-- Witnesses of the hypotheses of `FeedOpcodes`. -/
theorem witness_FeedOpcodes :
    (∃ (c : Cmd) (s : State), c.target ≤ 63 ∧
      Instant opFeedSet c s ∧
      (c.byte 16 = 1 ∧ c.le 18 2 ≤ 60000)) ∧
    (∃ (c : Cmd) (s : State), c.target ≤ 63 ∧
      Instant opFeedSet c s ∧
      (c.byte 16 = 0 ∧ c.le 18 2 = 0)) ∧
    (∃ (c : Cmd) (s : State), c.target ≤ 63 ∧
      Instant opFeedSet c s ∧
      (c.byte 16 = 0 ∧ 0 < c.le 18 2 ∧ c.le 18 2 ≤ 60000)) ∧
    (∃ (c : Cmd) (s : State), c.target ≤ 63 ∧
      Instant opFeedCfg c s ∧
      (∃ p, c.src = .ring p) ∧
      (50 ≤ c.le 16 2 ∧ c.le 16 2 ≤ 350 ∧ 1 ≤ c.byte 18 ∧ c.byte 18 ≤ 20 ∧ 1 ≤ c.byte 19 ∧ c.byte 19 ≤ 100 ∧ 1 ≤ c.le 20 2 ∧ c.le 20 2 ≤ 200 ∧ 1 ≤ c.byte 22 ∧ c.byte 22 ≤ 15)) ∧
    (∃ (c : Cmd) (s : State), c.target ≤ 63 ∧
      let g := c.target
      Instant opFeedClear c s ∧
      (s.feed g).state ≠ .latched) ∧
    (∃ (c : Cmd) (s : State), c.target ≤ 63 ∧
      let g := c.target
      Instant opFeedClear c s ∧
      ((s.feed g).state = .latched ∧ (s.feed g).fetShort = false)) ∧
    (∃ (c : Cmd) (s : State), c.target ≤ 63 ∧
      let g := c.target
      Instant opFeedClear c s ∧
      ((s.feed g).state = .latched ∧ (s.feed g).fetShort = true ∧ 50 ≤ (s.feed g).milliamps)) ∧
    (∃ (c : Cmd) (s : State), c.target ≤ 63 ∧
      Queues opShelfWake c s) ∧
    (∃ (c : Cmd) (l : Launch) (s : State), c.target ≤ 63 ∧
      let g := c.target
      Due opShelfWake l s ∧
      (l.cmd.target = g ∧ (s.feed g).faulted = false ∧ (s.feed g).present = true)) ∧
    (∃ (c : Cmd) (s : State), c.target ≤ 63 ∧
      let g := c.target
      Instant opShelfSleep c s ∧
      (s.link g).state ≠ .off) ∧
    (∃ (c : Cmd) (s : State), c.target ≤ 63 ∧
      let g := c.target
      Instant opShelfSleep c s ∧
      (s.link g).state = .off) ∧
    (∃ (c : Cmd) (s : State), c.target ≤ 63 ∧
      Instant opFeedQuery c s ∧
      c.byte 16 = 0) ∧
    (∃ (c : Cmd) (s : State), c.target ≤ 63 ∧
      Instant opFeedQuery c s ∧
      c.byte 16 = 4) ∧
    (∃ (c : Cmd) (s : State), c.target ≤ 63 ∧
      Instant opFeedQuery c s ∧
      c.byte 16 = 6) ∧
    (∃ (c : Cmd) (s : State), c.target ≤ 63 ∧
      Instant opPpuInputCfg c s ∧
      (144 ≤ c.byte 16 ∧ c.byte 16 ≤ 156 ∧ 1 ≤ c.byte 18 ∧ c.byte 18 ≤ 64)) ∧
    (∃ (c : Cmd) (s : State), c.target ≤ 63 ∧
      Instant opPpuQuery c s ∧
      c.byte 16 = 4) ∧
    (∃ (c : Cmd) (s : State), c.target ≤ 63 ∧
      Instant opPpuQuery c s ∧
      c.byte 16 = 7) :=
  ⟨⟨cmd [(4, 4, 3), (16, 1, 1), (18, 2, 60000)], up.setFeed 3 { present := true, onReq := true }, by decide +kernel, instantOf (by decide +kernel), by decide +kernel⟩,
   ⟨cmd [(4, 4, 3)], up.setFeed 3 { present := true, onReq := true, state := .on }, by decide +kernel, instantOf (by decide +kernel), by decide +kernel⟩,
   ⟨cmd [(4, 4, 3), (18, 2, 60000)], up.setFeed 3 { present := true, onReq := true, state := .on }, by decide +kernel, instantOf (by decide +kernel), by decide +kernel⟩,
   ⟨cmd [(4, 4, 3), (16, 2, 350), (18, 1, 20), (19, 1, 100), (20, 2, 200), (22, 1, 15), (23, 1, 1)], up.setFeed 3 { present := true, onReq := true }, by decide +kernel, instantOf (by decide +kernel), ⟨0, rfl⟩, by decide +kernel⟩,
   ⟨cmd [(4, 4, 3), (16, 1, 1)], up.setFeed 3 { present := true, onReq := true }, by decide +kernel, instantOf (by decide +kernel), by decide +kernel⟩,
   ⟨cmd [(4, 4, 3), (16, 1, 1)], up.setFeed 3 { present := true, onReq := true, state := .latched }, by decide +kernel, instantOf (by decide +kernel), by decide +kernel⟩,
   ⟨cmd [(4, 4, 3), (16, 1, 1)], up.setFeed 3 { present := true, onReq := true, state := .latched, fetShort := true, milliamps := 50 }, by decide +kernel, instantOf (by decide +kernel), by decide +kernel⟩,
   ⟨cmd [(4, 4, 3), (16, 1, 1)], up.setFeed 3 { present := true, onReq := true }, by decide +kernel, queuesOf (by decide +kernel)⟩,
   ⟨cmd [(4, 4, 3)], due 0xA3 [(4, 4, 3)], withDue (due 0xA3 [(4, 4, 3)]) (up.setFeed 3 { present := true, onReq := false }), by decide +kernel, dueOf (by decide +kernel), by decide +kernel⟩,
   ⟨cmd [(4, 4, 3), (16, 1, 1)], (up.setFeed 3 { present := true, state := .on }).setLink 3 { state := .active }, by decide +kernel, instantOf (by decide +kernel), by decide +kernel⟩,
   ⟨cmd [(4, 4, 3), (16, 1, 1)], up.setFeed 3 { present := true, onReq := true }, by decide +kernel, instantOf (by decide +kernel), by decide +kernel⟩,
   ⟨cmd [(4, 4, 3)], up.setFeed 3 { present := true, onReq := true }, by decide +kernel, instantOf (by decide +kernel), by decide +kernel⟩,
   ⟨cmd [(4, 4, 3), (16, 1, 4)], up.setFeed 3 { present := true, onReq := true }, by decide +kernel, instantOf (by decide +kernel), by decide +kernel⟩,
   ⟨cmd [(4, 4, 3), (16, 1, 6)], up.setFeed 3 { present := true, onReq := true }, by decide +kernel, instantOf (by decide +kernel), by decide +kernel⟩,
   ⟨cmd [(16, 1, 156), (17, 1, 1), (18, 1, 64)], up.setFeed 3 { present := true, onReq := true }, by decide +kernel, instantOf (by decide +kernel), by decide +kernel⟩,
   ⟨cmd [(16, 1, 4)], up.setFeed 3 { present := true, onReq := true }, by decide +kernel, instantOf (by decide +kernel), by decide +kernel⟩,
   ⟨cmd [(16, 1, 7)], up.setFeed 3 { present := true, onReq := true }, by decide +kernel, instantOf (by decide +kernel), by decide +kernel⟩⟩

/-- Witnesses of the hypotheses of `FeedTripConditions`. -/
theorem witness_FeedTripConditions :
    (∃ (g : Cage) (ma : Nat) (s : State), s.held = none ∧
      let f := s.feed g
      (f.driven = true ∧ 20 * f.ilim ≤ ma)) ∧
    (∃ (g : Cage) (ma : Nat) (s : State), s.held = none ∧
      let f := s.feed g
      ma < 20 * f.ilim) ∧
    (∃ (g : Cage) (s : State), s.held = none ∧
      let f := s.feed g
      (f.state = .ramp ∧ ms16 f.tstart ≤ f.limitTime s.clock)) ∧
    (∃ (g : Cage) (s : State), s.held = none ∧
      let f := s.feed g
      f.state ≠ .ramp) ∧
    (∃ (g : Cage) (s : State), s.held = none ∧
      let f := s.feed g
      (f.state = .on ∧ us16 (100 * f.trun) ≤ f.runTimer s.clock)) ∧
    (∃ (g : Cage) (s : State), s.held = none ∧
      let f := s.feed g
      f.state ≠ .on) ∧
    (∃ (g : Cage) (s : State), s.held = none ∧
      let f := s.feed g
      (f.state = .on ∧ f.voutOpen = false ∧ f.vout < 10000 ∧ 10800 ≤ f.senp ∧ f.runTimer s.clock < us16 (100 * f.trun))) ∧
    (∃ (g : Cage) (s : State), s.held = none ∧
      let f := s.feed g
      10000 ≤ f.vout) ∧
    (∃ (g : Cage) (s : State), s.held = none ∧
      let f := s.feed g
      (f.state = .ramp ∧ f.rampAt + ms16 (4 * f.rampMs + f.tstart) ≤ s.clock ∧ f.limitTime s.clock < ms16 f.tstart)) ∧
    (∃ (g : Cage) (s : State), s.held = none ∧
      let f := s.feed g
      (f.state = .on ∧ f.onAt + ms16 10000 ≤ s.clock)) :=
  ⟨⟨3, 4000, up.setFeed 3 { present := true, state := .on }, by decide +kernel, by decide +kernel⟩,
   ⟨3, 3999, up.setFeed 3 { present := true, state := .on }, by decide +kernel, by decide +kernel⟩,
   ⟨3, up.setFeed 3 { present := true, state := .ramp, limTime := 400000000 }, by decide +kernel, by decide +kernel⟩,
   ⟨3, up.setFeed 3 { present := true, state := .on }, by decide +kernel, by decide +kernel⟩,
   ⟨3, up.setFeed 3 { present := true, state := .on, runTime := 32000000 }, by decide +kernel, by decide +kernel⟩,
   ⟨3, up, by decide +kernel, by decide +kernel⟩,
   ⟨3, up.setFeed 3 { present := true, state := .on, vout := 9999, senp := 10800 }, by decide +kernel, by decide +kernel⟩,
   ⟨3, up.setFeed 3 { present := true, state := .on, vout := 10000 }, by decide +kernel, by decide +kernel⟩,
   ⟨3, { up.setFeed 3 { present := true, state := .ramp } with clock := 528000000 }, by decide +kernel, by decide +kernel⟩,
   ⟨3, { up.setFeed 3 { present := true, state := .on } with clock := 160000000000 }, by decide +kernel, by decide +kernel⟩⟩

/-- Witnesses of the hypotheses of `TripCoolsDownOrLatches`. -/
theorem witness_TripCoolsDownOrLatches :
    (∃ (g : Nat) (s : State), ((s.feed g).driven = true ∧ (s.feed g).removal = none ∧ (s.feed g).wake = [] ∧ (s.feed g).sleep = [] ∧ (s.link g).state = .off)) ∧
    (∃ (g : Nat) (s : State), ((s.feed g).driven = true ∧ (s.feed g).removal = none ∧ (s.feed g).wake = [] ∧ (s.feed g).sleep = [] ∧ (s.link g).state = .off) ∧
      let f := s.feed g
      f.tripMax ≤ f.trips + 1) ∧
    (∃ (g : Nat) (s : State), ((s.feed g).driven = true ∧ (s.feed g).removal = none ∧ (s.feed g).wake = [] ∧ (s.feed g).sleep = [] ∧ (s.link g).state = .off) ∧
      ∃ h, h ≠ g) :=
  ⟨⟨3, up.setFeed 3 { present := true, state := .on }, by decide +kernel⟩,
   ⟨3, up.setFeed 3 { present := true, state := .on, trips := 2 }, by decide +kernel, by decide +kernel⟩,
   ⟨3, up.setFeed 3 { present := true, state := .on }, by decide +kernel, 4, by decide +kernel⟩⟩

/-- Witnesses of the hypotheses of `FeedChannelEvents`. -/
theorem witness_FeedChannelEvents :
    (∃ (g : Cage) (s : State), s.held = none ∧
      let f := s.feed g
      (f.driven = false ∧ f.state = .off ∧ f.inLimit = false ∧ f.readyAt = none)) ∧
    (∃ (g : Cage) (s : State), s.held = none ∧
      let f := s.feed g
      (f.state = .wait ∧ f.readyAt.isSome = true ∧ s.unmet g = 0 ∧ s.ramps < s.ppu.maxRamps ∧ s.rampBefore g = false ∧ (s.link g).en = false ∧ f.trips = 0)) ∧
    (∃ (g : Cage) (s : State), s.held = none ∧
      let f := s.feed g
      (f.state ≠ .wait ∧ f.readyAt = none)) ∧
    (∃ (g : Cage) (s : State), s.held = none ∧
      let f := s.feed g
      (f.state = .ramp ∧ f.senp ≤ f.vout + 300)) ∧
    (∃ (g : Cage) (s : State), s.held = none ∧
      let f := s.feed g
      (f.state ≠ .ramp ∨ f.vout + 300 < f.senp)) ∧
    (∃ (g : Cage) (s : State), s.held = none ∧
      let f := s.feed g
      (f.state = .cooldown ∧ f.coolUntil ≤ s.clock ∧ f.onReq = false)) ∧
    (∃ (g : Cage) (s : State), s.held = none ∧
      let f := s.feed g
      (f.state = .cooldown ∧ s.clock < f.coolUntil)) ∧
    (∃ (g : Cage) (s : State), s.held = none ∧
      let f := s.feed g
      (f.driven = true ∧ f.kelvinOpen = true ∧ f.removal = none ∧ f.wake = [] ∧ f.sleep = [] ∧ (s.link g).state = .off)) ∧
    (∃ (g : Cage) (s : State), s.held = none ∧
      let f := s.feed g
      (f.state = .off ∨ f.kelvinOpen = false)) ∧
    (∃ (g : Cage) (s : State), s.held = none ∧
      let f := s.feed g
      (f.state = .ramp ∧ f.voutOpen = false ∧ f.milliamps * 2 < 10 * f.ilim ∧ f.vout + 2000 < f.senn)) ∧
    (∃ (g : Cage) (s : State), s.held = none ∧
      let f := s.feed g
      (f.driven = false ∧ f.fetShort = false ∧ 50 ≤ f.milliamps)) ∧
    (∃ (g : Cage) (s : State), s.held = none ∧
      let f := s.feed g
      (f.state = .on ∧ f.senp < 10800 ∧ f.supplyLow = false)) ∧
    (∃ (g : Cage) (s : State), s.held = none ∧
      let f := s.feed g
      f.supplyLow = true) ∧
    (∃ (g : Cage) (s : State), s.held = none ∧
      let f := s.feed g
      ∃ r : Removal, (f.removal = some r ∧ r.at16 ≤ s.clock)) ∧
    (∃ (g : Cage) (s : State), s.held = none ∧
      let f := s.feed g
      f.removal = none) ∧
    (∃ (g : Cage) (s : State), s.held = none ∧
      let f := s.feed g
      ∃ w : Ticket × Nat × Nat, (f.wake = [w] ∧ w.2.1 + ms16 2000 ≤ s.clock)) ∧
    (∃ (s : State), s.held = none) :=
  ⟨⟨3, up.setFeed 3 { present := true, state := .off }, by decide +kernel, by decide +kernel⟩,
   ⟨3, (up.setLink 3 { en := false }).setFeed 3 { present := true, state := .wait, onReq := true, readyAt := some 5, senp := 12000, senn := 12000 }, by decide +kernel, by decide +kernel⟩,
   ⟨3, up.setFeed 3 { present := true, state := .off }, by decide +kernel, by decide +kernel⟩,
   ⟨3, up.setFeed 3 { present := true, state := .ramp }, by decide +kernel, by decide +kernel⟩,
   ⟨3, up.setFeed 3 { present := true, state := .off }, by decide +kernel, by decide +kernel⟩,
   ⟨3, up.setFeed 3 { present := true, state := .cooldown, coolUntil := 1600000 }, by decide +kernel, by decide +kernel⟩,
   ⟨3, up.setFeed 3 { present := true, state := .cooldown, coolUntil := 1600001 }, by decide +kernel, by decide +kernel⟩,
   ⟨3, up.setFeed 3 { present := true, state := .on, senn := 15001 }, by decide +kernel, by decide +kernel⟩,
   ⟨3, up.setFeed 3 { present := true, state := .off }, by decide +kernel, by decide +kernel⟩,
   ⟨3, up.setFeed 3 { present := true, state := .ramp, milliamps := 999, senn := 2001 }, by decide +kernel, by decide +kernel⟩,
   ⟨3, up.setFeed 3 { present := true, state := .off, milliamps := 50 }, by decide +kernel, by decide +kernel⟩,
   ⟨3, up.setFeed 3 { present := true, state := .on, senp := 10799 }, by decide +kernel, by decide +kernel⟩,
   ⟨3, up.setFeed 3 { present := true, state := .on, supplyLow := true }, by decide +kernel, by decide +kernel⟩,
   ⟨3, up.setFeed 3 { present := true, state := .on, removal := some { at16 := 1600000, ticket := none } }, by decide +kernel, { at16 := 1600000, ticket := none }, by decide +kernel⟩,
   ⟨3, up.setFeed 3 { present := true, state := .off }, by decide +kernel, by decide +kernel⟩,
   ⟨3, { up.setFeed 3 { present := true, wake := [({ src := .ring 0 }, 5, 1)] } with clock := 32000000005 }, by decide +kernel, ({ src := .ring 0 }, 5, 1), by decide +kernel⟩,
   ⟨up.setFeed 3 { present := true, state := .off }, by decide +kernel⟩⟩

/-- Witnesses of the hypotheses of `PresenceAndEarlyWarning`. -/
theorem witness_PresenceAndEarlyWarning :
    (∃ (g : Cage) (s : State), (s.held = none ∧ (s.feed g).present = false ∧ (∀ i, i < 16 → (s.port (16 * g.val + i)).cfg.dpcAuto = false) ∧ (s.feed g).state = .off ∧ (s.feed g).readyAt = none)) ∧
    (∃ (g : Cage) (s : State), (s.held = none ∧ (s.feed g).present = true)) ∧
    (∃ (g : Cage) (s : State), (s.held = none ∧ (s.feed g).present = true ∧ (s.feed g).state = .off ∧ (s.feed g).wake = [] ∧ (∀ i, i < 16 → (s.port (16 * g.val + i)).state ≠ .up))) ∧
    (∃ (g : Cage) (s : State), (s.held = none ∧ (s.feed g).present = false)) ∧
    (∃ (mv : BitVec 16) (s : State), (s.held = none ∧ s.ppu.warning = false ∧ mv.toNat < 250 * s.ppu.warn) ∧
      (∀ k, (s.link k).state = .off)) ∧
    (∃ (mv : BitVec 16) (s : State), (s.held = none ∧ 250 * s.ppu.warn ≤ mv.toNat)) ∧
    (∃ (s : State), (s.held = none ∧ s.ppu.warning = true ∧ s.ppu.pfailDriven = true)) ∧
    (∃ (s : State), (s.held = none ∧ s.ppu.warning = false)) :=
  ⟨⟨3, up, by decide +kernel⟩,
   ⟨3, up.setFeed 3 { present := true, state := .off }, by decide +kernel⟩,
   ⟨3, up.setFeed 3 { present := true, state := .off }, by decide +kernel⟩,
   ⟨3, up, by decide +kernel⟩,
   ⟨37999, up, by decide +kernel, fun k => rfl⟩,
   ⟨38000, up, by decide +kernel⟩,
   ⟨{ up with ppu := { up.ppu with warning := true, pfailDriven := true } }, by decide +kernel⟩,
   ⟨up, by decide +kernel⟩⟩

/-- Witnesses of the hypotheses of `CounterOpcodes`. -/
theorem witness_CounterOpcodes :
    (∃ (c : Cmd) (s : State), 
      let here := fun (i : Nat) => decide (c.le 16 2 ≤ i) && decide (i < c.le 16 2 + c.le 18 2) && s.counterHere i
      Instant opPcnSelect c s ∧
      (c.le 16 2 ≤ 2783 ∧ 1 ≤ c.le 18 2 ∧ c.le 16 2 + c.le 18 2 ≤ 2784) ∧
      (∀ i, here i = true → selClamped i (c.le 20 4) = false)) ∧
    (∃ (c : Cmd) (s : State), Instant opPcnClear c s ∧
      (c.le 16 2 ≤ 2783 ∧ 1 ≤ c.le 18 2 ∧ c.le 16 2 + c.le 18 2 ≤ 2784)) ∧
    (∃ (c : Cmd) (s : State), Instant opPcnRelease c s) ∧
    (∃ (c : Cmd) (s : State), Instant opPcnRead c s ∧
      (c.le 16 2 ≤ 2783 ∧ c.byte 18 = 0)) ∧
    (∃ (c : Cmd) (s : State), Instant opPcnRead c s ∧
      (c.le 16 2 ≤ 2783 ∧ c.byte 18 = 1 ∧ s.pcn.gathering = true)) ∧
    (∃ (c : Cmd) (s : State), Instant opPcnRead c s ∧
      (c.le 16 2 ≤ 2783 ∧ c.byte 18 = 1 ∧ s.pcn.gathering = false ∧ s.pcn.imageValid = false)) ∧
    (∃ (c : Cmd) (s : State), Queues opPcnFreeze c s) ∧
    (∃ (c : Cmd) (s : State), Queues opPcnSnapshot c s) ∧
    (∃ (l : Launch) (s : State), Due opPcnFreeze l s ∧
      (s.pcn.gathering = false ∧ s.pcn.freezeFt ≠ l.at' s)) ∧
    (∃ (l : Launch) (s : State), Due opPcnSnapshot l s ∧
      (s.pcn.gathering = false ∧ s.pcn.freezeFt ≠ l.at' s)) ∧
    (∃ (l : Launch) (s : State), Due opPcnSnapshot l s ∧
      (s.pcn.gathering = true ∧ s.pcn.freezeFt ≠ l.at' s)) :=
  ⟨⟨cmd [(18, 2, 2784)], { up with pcn := { up.pcn with counters := [(5, { event := 1, value := 9 })] } }, instantOf (by decide +kernel), by decide +kernel, fun i _ => (congrArg (selClamped i) (show (_ : Nat) = 0 by decide +kernel)).trans (selClamped_none i)⟩,
   ⟨cmd [(18, 2, 2784)], { up with pcn := { up.pcn with counters := [(5, { event := 1, value := 9 })] } }, instantOf (by decide +kernel), by decide +kernel⟩,
   ⟨cmd [(18, 2, 2784)], { up with pcn := { up.pcn with counters := [(5, { event := 1, value := 9 })] } }, instantOf (by decide +kernel)⟩,
   ⟨cmd [(16, 2, 2783), (24, 8, 20480)], { up with pcn := { up.pcn with counters := [(5, { event := 1, value := 9 })] } }, instantOf (by decide +kernel), by decide +kernel⟩,
   ⟨cmd [(16, 2, 2783), (18, 1, 1)], { up with pcn := { up.pcn with gathering := true } }, instantOf (by decide +kernel), by decide +kernel⟩,
   ⟨cmd [(16, 2, 2783), (18, 1, 1)], { up with pcn := { up.pcn with counters := [(5, { event := 1, value := 9 })] } }, instantOf (by decide +kernel), by decide +kernel⟩,
   ⟨cmd [(18, 2, 2784)], { up with pcn := { up.pcn with counters := [(5, { event := 1, value := 9 })] } }, queuesOf (by decide +kernel)⟩,
   ⟨cmd [(18, 2, 2784)], { up with pcn := { up.pcn with counters := [(5, { event := 1, value := 9 })] } }, queuesOf (by decide +kernel)⟩,
   ⟨due 0x81 [], withDue (due 0x81 []) up, dueOf (by decide +kernel), by decide +kernel⟩,
   ⟨due 0x83 [(18, 2, 4)], withDue (due 0x83 [(18, 2, 4)]) up, dueOf (by decide +kernel), by decide +kernel⟩,
   ⟨due 0x83 [(18, 2, 4)], withDue (due 0x83 [(18, 2, 4)]) { up with pcn := { up.pcn with gathering := true, freezeFt := 90112 } }, dueOf (by decide +kernel), by decide +kernel⟩⟩

/-- Witnesses of the hypotheses of `FreezeCapturesEveryCounter`. -/
theorem witness_FreezeCapturesEveryCounter :
    (∃ (s : State) (b : Nat), (s.pcn.freezeNum ≠ 0 ∧ s.pcn.freezeFt = b)) ∧
    (∃ (s : State) (b : Nat) (late : Bool), s.pcn.freezeFt ≠ b ∧
      ∃ x, x ∈ (s.freezeAt b late).pcn.counters) ∧
    (∃ (s : State) (b : Nat), s.pcn.freezeFt ≠ b) :=
  ⟨⟨{ up with pcn := { up.pcn with freezeNum := 3, freezeFt := 90112, counters := [(5, { event := 1, value := 9 })] } }, 90112, by decide +kernel⟩,
   ⟨{ up with pcn := { up.pcn with freezeNum := 3, freezeFt := 90112, counters := [(5, { event := 1, value := 9 })] } }, 98304, false, by decide +kernel, (5, { event := 1, value := 9, image := 9 }), by decide +kernel⟩,
   ⟨{ up with pcn := { up.pcn with freezeNum := 3, freezeFt := 90112, counters := [(5, { event := 1, value := 9 })] } }, 98304, by decide +kernel⟩⟩

/-- Witnesses of the hypotheses of `GatheringMakesTheImageValid`. -/
theorem witness_GatheringMakesTheImageValid :
    (∃ (s : State), (s.held = none ∧ s.pcn.gathering = true ∧ s.pcn.snaps = [] ∧ s.pcn.reads = [])) ∧
    (∃ (s : State), (s.held = none ∧ s.pcn.gathering = true)) :=
  ⟨⟨{ up with pcn := { up.pcn with gathering := true } }, by decide +kernel⟩,
   ⟨{ up with pcn := { up.pcn with gathering := true } }, by decide +kernel⟩⟩

/-- Witnesses of the hypotheses of `RecorderOpcodes`. -/
theorem witness_RecorderOpcodes :
    (∃ (c : Cmd) (s : State), Instant opEvrQuery c s ∧
      c.byte 16 = 0) ∧
    (∃ (c : Cmd) (s : State), Instant opEvrQuery c s ∧
      c.byte 16 = 2) ∧
    (∃ (c : Cmd) (s : State), Instant opEvrQuery c s ∧
      c.byte 16 = 4) ∧
    (∃ (c : Cmd) (s : State), Instant opEvrRead c s ∧
      c.byte 16 = 0) ∧
    (∃ (c : Cmd) (s : State), ∃ r : Record, Instant opEvrRead c s ∧
      (c.byte 16 = 1 ∧ tget none s.evr.log s.evr.recSlot = some r ∧ r.valid = true)) ∧
    (∃ (c : Cmd) (s : State), Instant opEvrRead c s ∧
      (c.byte 16 = 2 ∧ c.le 18 2 ≤ 991 ∧ tget none s.evr.log (c.le 18 2) = none)) ∧
    (∃ (c : Cmd) (s : State), Instant opEvrWriteNow c s) ∧
    (∃ (c : Cmd) (s : State), Instant opEvrClear c s ∧
      c.byte 16 = 0) ∧
    (∃ (c : Cmd) (s : State), Instant opEvrClear c s ∧
      (c.byte 16 = 1 ∧ c.byte 24 ≤ 3 ∧ s.evr.challenge = none)) ∧
    (∃ (c : Cmd) (s : State), ∃ (ch : List Byte) (exp : Nat), Instant opEvrClear c s ∧
      (c.byte 16 = 1 ∧ c.byte 24 ≤ 3 ∧ s.evr.challenge = some (ch, exp) ∧ exp ≤ s.clock)) ∧
    (∃ (c : Cmd) (s : State), ∃ (ch : List Byte) (exp : Nat), Instant opEvrClear c s ∧
      (c.byte 16 = 1 ∧ c.byte 24 ≤ 3 ∧ s.evr.challenge = some (ch, exp) ∧ s.clock < exp)) ∧
    (∃ (c : Cmd) (s : State), Instant opEvrCfg c s ∧
      (10 ≤ c.le 16 2 ∧ c.le 16 2 ≤ 1440)) :=
  ⟨⟨cmd [(32, 8, 20480)], up, instantOf (by decide +kernel), by decide +kernel⟩,
   ⟨cmd [(16, 1, 2)], up, instantOf (by decide +kernel), by decide +kernel⟩,
   ⟨cmd [(16, 1, 4)], up, instantOf (by decide +kernel), by decide +kernel⟩,
   ⟨cmd [(32, 8, 20480)], up, instantOf (by decide +kernel), by decide +kernel⟩,
   ⟨cmd [(16, 1, 1), (32, 8, 20480)], { up with evr := { up.evr with log := [(0, some { kind := 1, seq := 4, cycles := 1, secs := 60, flags := 0, t64 := 0, image := {} })] } }, { kind := 1, seq := 4, cycles := 1, secs := 60, flags := 0, t64 := 0, image := {} }, instantOf (by decide +kernel), by decide +kernel⟩,
   ⟨cmd [(16, 1, 2), (18, 2, 991), (32, 8, 20480)], up, instantOf (by decide +kernel), by decide +kernel⟩,
   ⟨cmd [(32, 8, 20480)], up, instantOf (by decide +kernel)⟩,
   ⟨cmd [(32, 8, 20480)], up, instantOf (by decide +kernel), by decide +kernel⟩,
   ⟨cmd [(16, 1, 1), (24, 1, 3)], up, instantOf (by decide +kernel), by decide +kernel⟩,
   ⟨cmd [(16, 1, 1), (24, 1, 3)], { up with evr := { up.evr with challenge := some ([1], 1600000) } }, [1], 1600000, instantOf (by decide +kernel), by decide +kernel⟩,
   ⟨cmd [(16, 1, 1), (24, 1, 3)], { up with evr := { up.evr with challenge := some ([1], 1600001) } }, [1], 1600001, instantOf (by decide +kernel), by decide +kernel⟩,
   ⟨cmd [(16, 2, 1440)], up, instantOf (by decide +kernel), by decide +kernel⟩⟩

/-- Witnesses of the hypotheses of `RecorderEvents`. -/
theorem witness_RecorderEvents :
    (∃ (s : State), (s.held = none ∧ s.evr.lastSecond < s.ft / 10 ^ 9 ∧ s.opSeconds / 3600 ≤ s.evr.lastHour)) ∧
    (∃ (s : State), (s.held = none ∧ s.ft / 10 ^ 9 ≤ s.evr.lastSecond)) ∧
    (∃ (s : State), (s.held = none ∧ s.glb.evrRun = true ∧ s.ft < s.evr.nextPeriodic ∧ s.evr.due ≠ [] ∧ s.evr.writing = none ∧ s.evr.lastSwap = none ∧ s.evr.inactive = {})) ∧
    (∃ (s : State), (s.held = none ∧ s.evr.writing.isSome = true ∧ s.ft < s.evr.nextPeriodic)) ∧
    (∃ (s : State), s.held = none ∧
      ∃ (q : Record) (n : Nat), s.evr.writing = some (q, n, [])) ∧
    (∃ (s : State), s.held = none ∧
      ∃ (q : Record) (n : Nat) (ds : List SwapDue), (s.evr.writing = some (q, n, ds) ∧ n < 3)) ∧
    (∃ (s : State), s.held = none ∧
      ∃ (q : Record) (ds : List SwapDue), s.evr.writing = some (q, 3, ds)) ∧
    (∃ (s : State), (s.held = none ∧ s.evr.writing = none)) ∧
    (∃ (s : State), (s.held = none ∧ s.evr.nextTime ≤ s.opSeconds)) ∧
    (∃ (s : State), (s.held = none ∧ s.opSeconds < s.evr.nextTime)) ∧
    (∃ (s : State), (s.held = none ∧ s.ppu.warning = false)) ∧
    (∃ (s : State), s.held = none ∧
      ∃ (ch : List Byte) (exp : Nat), (s.evr.challenge = some (ch, exp) ∧ exp ≤ s.clock)) ∧
    (∃ (s : State), (s.held = none ∧ s.evr.challenge = none)) ∧
    (∃ (s : State), (s.held = none ∧ s.glb.evrRun = false ∧ s.glb.ftuRun = true ∧ s.evr.log = [] ∧ s.evr.times = [])) ∧
    (∃ (s : State), (s.held = none ∧ s.glb.evrRun = true)) :=
  ⟨⟨{ up with clock := 16000000000 }, by decide +kernel⟩,
   ⟨up, by decide +kernel⟩,
   ⟨{ up with evr := { up.evr with due := [{ kind := 2 }], nextPeriodic := 3600000000000 } }, by decide +kernel⟩,
   ⟨{ up with evr := { up.evr with writing := some ({ kind := 1, seq := 4, cycles := 1, secs := 60, flags := 0, t64 := 0, image := {} }, 1, []), nextPeriodic := 3600000000000 } }, by decide +kernel⟩,
   ⟨{ up with evr := { up.evr with writing := some ({ kind := 1, seq := 4, cycles := 1, secs := 60, flags := 0, t64 := 0, image := {} }, 1, []) } }, by decide +kernel, { kind := 1, seq := 4, cycles := 1, secs := 60, flags := 0, t64 := 0, image := {} }, 1, by decide +kernel⟩,
   ⟨{ up with evr := { up.evr with writing := some ({ kind := 1, seq := 4, cycles := 1, secs := 60, flags := 0, t64 := 0, image := {} }, 2, []) } }, by decide +kernel, { kind := 1, seq := 4, cycles := 1, secs := 60, flags := 0, t64 := 0, image := {} }, 2, [], by decide +kernel⟩,
   ⟨{ up with evr := { up.evr with writing := some ({ kind := 1, seq := 4, cycles := 1, secs := 60, flags := 0, t64 := 0, image := {} }, 3, []) } }, by decide +kernel, { kind := 1, seq := 4, cycles := 1, secs := 60, flags := 0, t64 := 0, image := {} }, [], by decide +kernel⟩,
   ⟨up, by decide +kernel⟩,
   ⟨{ up with clock := 9600000000000 }, by decide +kernel⟩,
   ⟨up, by decide +kernel⟩,
   ⟨up, by decide +kernel⟩,
   ⟨{ up with evr := { up.evr with challenge := some ([1], 1600000) } }, by decide +kernel, [1], 1600000, by decide +kernel⟩,
   ⟨up, by decide +kernel⟩,
   ⟨{ up with glb := { up.glb with evrRun := false } }, by decide +kernel⟩,
   ⟨up, by decide +kernel⟩⟩

/-- Witnesses of the hypotheses of `AddressMapsAreExact`. -/
theorem witness_AddressMapsAreExact :
    (∃ ch, ch < 32) ∧
    (∃ base i j, (i < 16 ∧ j < 16 ∧ sliceOf (1024 * base + 64 * i) = sliceOf (1024 * base + 64 * j))) ∧
    (∃ b, 0 < b) ∧
    (∃ nb, 0 < nb) :=
  ⟨⟨31, by decide +kernel⟩,
   ⟨7, 15, 15, by decide +kernel⟩,
   ⟨3, by decide +kernel⟩,
   ⟨5, by decide +kernel⟩⟩

/-- Witnesses of the hypotheses of `MemoryOpcodes`. -/
theorem witness_MemoryOpcodes :
    (∃ (c : Cmd) (s : State), c.le 16 8 + 64 ≤ s.laCapacity ∧
      Instant opMemScrubSet c s ∧
      (6 ≤ c.byte 16 ∧ c.byte 16 ≤ 16 ∧ 1 ≤ c.byte 17)) ∧
    (∃ (c : Cmd) (s : State), c.le 16 8 + 64 ≤ s.laCapacity ∧
      let page := c.le 16 8 / 64 * 64 / 4096
      ∃ i : Nat, Instant opMemRetire c s ∧
      (c.byte 24 = 0 ∧ s.isSpare page = false ∧ s.pageHeld page = false ∧ s.spareOf page = none ∧ s.freeSpare = some i)) ∧
    (∃ (c : Cmd) (s : State), c.le 16 8 + 64 ≤ s.laCapacity ∧
      let page := c.le 16 8 / 64 * 64 / 4096
      ∃ i : Nat, Instant opMemRetire c s ∧
      (c.byte 24 = 0 ∧ s.isSpare page = false ∧ s.pageHeld page = false ∧ s.spareOf page = some i)) ∧
    (∃ (c : Cmd) (s : State), c.le 16 8 + 64 ≤ s.laCapacity ∧
      let page := c.le 16 8 / 64 * 64 / 4096
      ∃ i : Nat, Instant opMemRetire c s ∧
      (c.byte 24 = 1 ∧ s.isSpare page = false ∧ s.pageHeld page = false ∧ s.spareOf page = some i)) ∧
    (∃ (c : Cmd) (s : State), c.le 16 8 + 64 ≤ s.laCapacity ∧
      let page := c.le 16 8 / 64 * 64 / 4096
      Instant opMemRetire c s ∧
      (c.byte 24 ≤ 1 ∧ s.isSpare page = true)) ∧
    (∃ (c : Cmd) (s : State), c.le 16 8 + 64 ≤ s.laCapacity ∧
      let page := c.le 16 8 / 64 * 64 / 4096
      Instant opMemRetire c s ∧
      (c.byte 24 ≤ 1 ∧ s.isSpare page = false ∧ s.pageHeld page = true)) ∧
    (∃ (c : Cmd) (s : State), c.le 16 8 + 64 ≤ s.laCapacity ∧
      let line := c.le 16 8 / 64
      Instant opMemRepair c s ∧
      c.byte 24 ≤ 1 ∧
      let pages := rowPages (channelOf (64 * line)) (rowOf (64 * line))
      (pages.any s.isSpare = false ∧ pages.any s.pageHeld = false ∧ (s.mem.repairs.any fun r => r.ch == channelOf (64 * line)) = false) ∧
      (∃ p ∈ pages, s.spareOf p = none) ∧
      8 ≤ ((List.range 1024).filter fun i => s.retire i = {}).length) ∧
    (∃ (c : Cmd) (s : State), c.le 16 8 + 64 ≤ s.laCapacity ∧
      let line := c.le 16 8 / 64
      let phys := s.physLine line
      let ch := channelOf (phys * 64)
      let idle := s.pageHeld (line / 64) = false ∧ ∀ r ∈ (s.chan ch).queue, r.line ≠ line
      Instant opMemRawWrite c s ∧
      (c.byte 40 = 0 ∧ s.acu.service = false ∧ idle)) ∧
    (∃ (c : Cmd) (s : State), c.le 16 8 + 64 ≤ s.laCapacity ∧
      let line := c.le 16 8 / 64
      let phys := s.physLine line
      let ch := channelOf (phys * 64)
      let idle := s.pageHeld (line / 64) = false ∧ ∀ r ∈ (s.chan ch).queue, r.line ≠ line
      Instant opMemRawRead c s ∧
      (s.acu.service = false ∧ idle)) ∧
    (∃ (c : Cmd) (s : State), c.le 16 8 + 64 ≤ s.laCapacity ∧
      Instant opMemRawWrite c s ∧
      (c.byte 40 ≤ 1 ∧ s.acu.service = true)) ∧
    (∃ (c : Cmd) (s : State), c.le 16 8 + 64 ≤ s.laCapacity ∧
      Instant opMemRawRead c s ∧
      s.acu.service = true) ∧
    (∃ (c : Cmd) (s : State), c.le 16 8 + 64 ≤ s.laCapacity ∧
      let line := c.le 16 8 / 64
      let phys := s.physLine line
      let ch := channelOf (phys * 64)
      let idle := s.pageHeld (line / 64) = false ∧ ∀ r ∈ (s.chan ch).queue, r.line ≠ line
      Instant opMemLineQuery c s ∧
      (idle ∧ ((s.line phys).read {}).2 = .clean ∧ (s.line phys).poison = false)) ∧
    (∃ (c : Cmd) (s : State), c.le 16 8 + 64 ≤ s.laCapacity ∧
      Instant opMemCeLog c s ∧
      c.byte 16 ≤ 31) ∧
    (∃ (c : Cmd) (s : State), c.le 16 8 + 64 ≤ s.laCapacity ∧
      Instant opMemRsvQuery c s) ∧
    (∃ (c : Cmd) (s : State), c.le 16 8 + 64 ≤ s.laCapacity ∧
      Instant opMemErrClear c s) :=
  ⟨⟨cmd [(16, 1, 16), (17, 1, 1)], up, by decide +kernel, instantOf (by decide +kernel), by decide +kernel⟩,
   ⟨cmd [(16, 8, 0x12345640)], up, by decide +kernel, 0, instantOf (by decide +kernel), by decide +kernel⟩,
   ⟨cmd [(16, 8, 0x12345640)], up.setRetire 4 { page := 0x12345, valid := true }, by decide +kernel, 4, instantOf (by decide +kernel), by decide +kernel⟩,
   ⟨cmd [(16, 8, 0x12345640), (24, 1, 1)], up.setRetire 4 { page := 0x12345, valid := true }, by decide +kernel, 4, instantOf (by decide +kernel), by decide +kernel⟩,
   ⟨cmd [(16, 8, (up.sparePage 0 * 4096))], up, by decide +kernel, instantOf (by decide +kernel), by decide +kernel⟩,
   ⟨cmd [(16, 8, 0x12345640)], up.setRetire 4 { page := 0x12345, hold := true }, by decide +kernel, instantOf (by decide +kernel), by decide +kernel⟩,
   ⟨cmd [(16, 8, 0x12345640)], up, by decide +kernel, instantOf (by decide +kernel), by decide +kernel, by decide +kernel, ⟨rowPages (channelOf (64 * (0x12345640 / 64))) (rowOf (64 * (0x12345640 / 64))) |>.headD 0, by decide +kernel⟩, by decide +kernel⟩,
   ⟨cmd [(16, 8, 0x12345640)], up, by decide +kernel, instantOf (by decide +kernel), by decide +kernel⟩,
   ⟨cmd [(16, 8, 0x12345640)], up, by decide +kernel, instantOf (by decide +kernel), by decide +kernel⟩,
   ⟨cmd [(16, 8, 0x12345640)], { up with acu := { up.acu with service := true } }, by decide +kernel, instantOf (by decide +kernel), by decide +kernel⟩,
   ⟨cmd [(16, 8, 0x12345640)], { up with acu := { up.acu with service := true } }, by decide +kernel, instantOf (by decide +kernel), by decide +kernel⟩,
   ⟨cmd [(16, 8, 0x12345640)], up, by decide +kernel, instantOf (by decide +kernel), by decide +kernel⟩,
   ⟨cmd [(16, 1, 31), (24, 8, 20480)], up, by decide +kernel, instantOf (by decide +kernel), by decide +kernel⟩,
   ⟨cmd [(16, 8, 0x12345640)], up, by decide +kernel, instantOf (by decide +kernel)⟩,
   ⟨cmd [(16, 8, 0x12345640)], up, by decide +kernel, instantOf (by decide +kernel)⟩⟩

/-- Witnesses of the hypotheses of `ChannelSlotsFollowTheShares`. -/
theorem witness_ChannelSlotsFollowTheShares :
    (∃ (s : State), (s.held = none ∧ s.glb.memSwept = false)) ∧
    (∃ (ch : Chan) (s : State), s.held = none ∧
      let c := s.chan ch
      (s.glb.memSwept = true ∧ s.chanBlocked ch = true ∧ c.queue = [])) ∧
    (∃ (ch : Chan) (s : State), s.held = none ∧
      let c := s.chan ch
      (s.glb.memSwept = true ∧ s.chanBlocked ch = true ∧ c.queue ≠ [])) ∧
    (∃ (ch : Chan) (r : ChReq) (s : State), s.held = none ∧
      let c := s.chan ch
      let q := s.servable [] c.queue
      (s.glb.memSwept = true ∧ s.chanBlocked ch = false ∧ (∀ x ∈ q, x.cls ≠ 2) ∧ c.dirUsed < s.dirShare ∧ q.find? (·.cls == 0) = some r)) ∧
    (∃ (ch : Chan) (r : ChReq) (s : State), s.held = none ∧
      let c := s.chan ch
      let q := s.servable [] c.queue
      (s.glb.memSwept = true ∧ s.chanBlocked ch = false ∧ (∀ x ∈ q, x.cls ≠ 2) ∧ s.dirShare ≤ c.dirUsed ∧ c.mseUsed < s.mseShare ∧ q.find? (·.cls == 1) = some r)) ∧
    (∃ (ch : Chan) (r : ChReq) (s : State), s.held = none ∧
      let c := s.chan ch
      let q := s.servable [] c.queue
      (s.glb.memSwept = true ∧ s.chanBlocked ch = false ∧ q.find? (·.cls == 0) = none ∧ q.find? (·.cls == 1) = none ∧ c.hot = false ∧ s.earliest q = some r)) ∧
    (∃ (ch : Chan) (r : ChReq) (s : State), s.held = none ∧
      let c := s.chan ch
      let q := s.servable [] c.queue
      (s.glb.memSwept = true ∧ s.chanBlocked ch = false ∧ c.hot = true ∧ c.otherTurn = true ∧ s.dirShare ≤ c.dirUsed ∧ s.mseShare ≤ c.mseUsed ∧ s.earliest q = some r)) :=
  ⟨⟨{ up with glb := { up.glb with memSwept := false } }, by decide +kernel⟩,
   ⟨0, up.setChan 0 { blockedUntil := 1600001 }, by decide +kernel, by decide +kernel⟩,
   ⟨0, up.setChan 0 { queue := [{ cls := 0, stamp := 9, island := 64, line := 8, write := true }], blockedUntil := 1600001 }, by decide +kernel, by decide +kernel⟩,
   ⟨0, { cls := 0, stamp := 9, island := 64, line := 8, write := true }, up.setChan 0 { queue := [{ cls := 0, stamp := 9, island := 64, line := 8, write := true }] }, by decide +kernel, by decide +kernel⟩,
   ⟨0, { cls := 1, stamp := 9, island := 74, line := 8, write := true }, (up.setStream 0 (some stream0)).setChan 0 { queue := [{ cls := 1, stamp := 9, island := 74, line := 8, write := true }], dirUsed := 1000000 }, by decide +kernel, by decide +kernel⟩,
   ⟨0, { cls := 2, stamp := 9, island := 64, line := 8, write := true }, up.setChan 0 { queue := [{ cls := 2, stamp := 9, island := 64, line := 8, write := true }] }, by decide +kernel, by decide +kernel⟩,
   ⟨0, { cls := 2, stamp := 9, island := 64, line := 8, write := true }, up.setChan 0 { queue := [{ cls := 2, stamp := 9, island := 64, line := 8, write := true }], hot := true, otherTurn := true, dirUsed := 1000000, mseUsed := 1000000 }, by decide +kernel, by decide +kernel⟩⟩

/-- Witnesses of the hypotheses of `RequestsOfALineKeepTheirOrder`. -/
theorem witness_RequestsOfALineKeepTheirOrder :
    (∃ (s : State) (q : List ChReq) (r : ChReq), r ∈ s.servable [] q) ∧
    (∃ (s : State) (q : List ChReq) (r : ChReq), s.earliest q = some r) ∧
    (∃ (s : State) (q : List ChReq) (r : ChReq), s.earliest q = some r ∧
      ∃ x, x ∈ q) :=
  ⟨⟨up, [{ cls := 0, stamp := 9, island := 64, line := 8, write := true }, { cls := 2, stamp := 9, island := 64, line := 9, write := true }], { cls := 0, stamp := 9, island := 64, line := 8, write := true }, by decide +kernel⟩,
   ⟨up, [{ cls := 0, stamp := 9, island := 64, line := 8, write := true }, { cls := 2, stamp := 9, island := 64, line := 9, write := true }], { cls := 0, stamp := 9, island := 64, line := 8, write := true }, by decide +kernel⟩,
   ⟨up, [{ cls := 0, stamp := 9, island := 64, line := 8, write := true }, { cls := 2, stamp := 9, island := 64, line := 9, write := true }], { cls := 0, stamp := 9, island := 64, line := 8, write := true }, by decide +kernel, { cls := 0, stamp := 9, island := 64, line := 8, write := true }, by decide +kernel⟩⟩

/-- Witnesses of the hypotheses of `ServedRequestsReachTheirLine`. -/
theorem witness_ServedRequestsReachTheirLine :
    (∃ (r : ChReq), (r.write = true ∧ r.mask = BitVec.allOnes 64)) ∧
    (∃ (s : State) (r : ChReq), 
      let phys := s.physLine r.line
      (r.write = true ∧ r.mask = BitVec.allOnes 64) ∧
      ∃ k, k ≠ phys) ∧
    (∃ (r : ChReq), (r.write = true ∧ r.mask = BitVec.allOnes 64 ∧ r.user ≠ .other)) ∧
    (∃ (r : ChReq), r.write = false) ∧
    (∃ (ch : Nat), ∃ d, d ≠ ch) :=
  ⟨⟨{ cls := 0, stamp := 9, island := 64, line := 8, write := true }, by decide +kernel⟩,
   ⟨up.setChan 0 { queue := [{ cls := 0, stamp := 9, island := 64, line := 8, write := true }] }, { cls := 0, stamp := 9, island := 64, line := 8, write := true }, by decide +kernel, 5, by decide +kernel⟩,
   ⟨{ cls := 0, stamp := 9, island := 64, line := 8, write := true, user := .backing 3 4 }, by decide +kernel⟩,
   ⟨{ cls := 0, stamp := 9, island := 64, line := 8, write := false }, by decide +kernel⟩,
   ⟨0, 1, by decide +kernel⟩⟩

/-- Witnesses of the hypotheses of `ReadVerdictsActOnTheLine`. -/
theorem witness_ReadVerdictsActOnTheLine :
    (∃ (l : Line) (e : StoredError), ((l.read e).2 = .clean ∧ (l.read e).1.poison = false)) ∧
    (∃ (l : Line) (e : StoredError), ∃ errs : List (Nat × Nat), (l.read e).2 = .corrected errs) ∧
    (∃ (l : Line) (e : StoredError) (stale : Bool), ∃ errs : List (Nat × Nat), ((l.read e).2 = .corrected errs ∧ stale = false)) ∧
    (∃ (l : Line) (e : StoredError) (stale : Bool), ∃ errs : List (Nat × Nat), ((l.read e).2 = .corrected errs ∧ stale = true)) ∧
    (∃ (l : Line) (e : StoredError), (l.read e).2 = .uncorrectable) ∧
    (∃ (l : Line) (e : StoredError) (stale : Bool), ((l.read e).2 = .uncorrectable ∧ stale = false)) :=
  ⟨⟨{ data := 5, written := true }, {}, by decide +kernel⟩,
   ⟨{ data := 5, written := true }, { data := 0x10 }, (match (({ data := 5, written := true } : Line).read { data := 0x10 }).2 with | .corrected x => x | _ => []), by decide +kernel⟩,
   ⟨{ data := 5, written := true }, { data := 0x10 }, false, (match (({ data := 5, written := true } : Line).read { data := 0x10 }).2 with | .corrected x => x | _ => []), by decide +kernel⟩,
   ⟨{ data := 5, written := true }, { data := 0x10 }, true, (match (({ data := 5, written := true } : Line).read { data := 0x10 }).2 with | .corrected x => x | _ => []), by decide +kernel⟩,
   ⟨{ data := 5, written := true }, { data := 0xFF00FF00FF00FF00FF00FF00FF }, by decide +kernel⟩,
   ⟨{ data := 5, written := true }, { data := 0xFF00FF00FF00FF00FF00FF00FF }, false, by decide +kernel⟩⟩

/-- Witnesses of the hypotheses of `MemoryChannelEvents`. -/
theorem witness_MemoryChannelEvents :
    (∃ (ch : Chan) (e : StoredError) (m : MemRead) (ms : List MemRead) (s : State), s.held = none ∧
      let c := s.chan ch
      (c.reading = m :: ms ∧ (m.line.read e).2 = .clean ∧ (m.line.read e).1.poison = false ∧ m.req.user ≠ .other)) ∧
    (∃ (ch : Chan) (s : State), s.held = none ∧
      let c := s.chan ch
      c.reading = []) ∧
    (∃ (ch : Chan) (e : StoredError) (s : State), s.held = none ∧
      let c := s.chan ch
      let phys := laOf ch (c.scrubPos * 64) / 64
      (s.glb.memSwept = true ∧ s.chanBlocked ch = false ∧ c.queue = [] ∧ c.lastScrub + ns16 (2 ^ s.mem.rateLog2) ≤ s.clock ∧ ((s.line phys).read e).2 = .clean ∧ ((s.line phys).read e).1.poison = false ∧ c.scrubPos + 1 < s.chanLines)) ∧
    (∃ (ch : Chan) (s : State), s.held = none ∧
      let c := s.chan ch
      c.queue ≠ []) ∧
    (∃ (ch : Chan) (s : State), s.held = none ∧
      let c := s.chan ch
      (s.glb.memSwept = true ∧ c.scrubLate = false ∧ c.lapStart + s.mem.lapAlarm * 3600000 * 16000000 < s.clock)) ∧
    (∃ (ch : Chan) (s : State), s.held = none ∧
      let c := s.chan ch
      c.scrubLate = true) ∧
    (∃ (temp : BitVec 8) (s : State), (s.held = none ∧ temp.toInt < 105)) ∧
    (∃ (temp : BitVec 8) (s : State), (s.held = none ∧ 105 ≤ temp.toInt)) ∧
    (∃ (ch : Chan) (s : State), s.held = none ∧
      let c := s.chan ch
      (c.trained = true ∧ c.lastRetrain + ms16 256 ≤ s.clock)) ∧
    (∃ (ch : Chan) (s : State), s.held = none ∧
      let c := s.chan ch
      c.trained = true) ∧
    (∃ (ch : Chan) (s : State), s.held = none ∧
      let c := s.chan ch
      c.trained = false) :=
  ⟨⟨0, {}, { req := { cls := 0, stamp := 9, island := 64, line := 8, write := false, user := .backing 3 4 }, phys := 8, line := {} }, [], up.setChan 0 { reading := [{ req := { cls := 0, stamp := 9, island := 64, line := 8, write := false, user := .backing 3 4 }, phys := 8, line := {} }] }, by decide +kernel, by decide +kernel⟩,
   ⟨0, up.setChan 0 { trained := true }, by decide +kernel, by decide +kernel⟩,
   ⟨0, {}, up.setChan 0 { trained := true }, by decide +kernel, by decide +kernel⟩,
   ⟨0, up.setChan 0 { queue := [{ cls := 0, stamp := 9, island := 64, line := 8, write := true }] }, by decide +kernel, by decide +kernel⟩,
   ⟨0, { up.setChan 0 { trained := true } with clock := 1382400000000001 }, by decide +kernel, by decide +kernel⟩,
   ⟨0, up.setChan 0 { scrubLate := true }, by decide +kernel, by decide +kernel⟩,
   ⟨104, up.setChan 0 { trained := true }, by decide +kernel⟩,
   ⟨105, up.setChan 0 { trained := true }, by decide +kernel⟩,
   ⟨0, { up.setChan 0 { trained := true } with clock := 4096000000 }, by decide +kernel, by decide +kernel⟩,
   ⟨0, up.setChan 0 { trained := true }, by decide +kernel, by decide +kernel⟩,
   ⟨0, up, by decide +kernel, by decide +kernel⟩⟩

/-- Witnesses of the hypotheses of `RetirementAndRepairEnd`. -/
theorem witness_RetirementAndRepairEnd :
    (∃ (i : Fin 1024) (s : State), s.held = none ∧
      let e := s.retire i
      (e.hold = true ∧ e.releasing = false ∧ s.spareOf e.page = none ∧ s.mem.repairs = [] ∧ s.sparePage i ≠ e.page)) ∧
    (∃ (i : Fin 1024) (s : State), s.held = none ∧
      let e := s.retire i
      (e.hold = true ∧ e.releasing = true)) ∧
    (∃ (i : Fin 1024) (s : State), s.held = none ∧
      let e := s.retire i
      e.hold = false) ∧
    (∃ (ch : Chan) (s : State), s.held = none ∧
      ∃ (r : Repair), (s.mem.repairs = [r] ∧ r.ch = ch.val ∧ r.hard = false ∧ r.waiting = [] ∧ r.fresh = [])) ∧
    (∃ (s : State), (s.held = none ∧ s.mem.repairs = [])) ∧
    (∃ (i : Fin 1024) (ch : Chan) (row : Nat) (s : State), s.held = none ∧
      let e := s.retire i
      (s.mem.retire = [(i.val, e)] ∧ e.valid = true ∧ e.hard = [ch.val] ∧ rowOf (e.page * 4096) = row ∧ s.mem.listLoaded = true ∧ s.glb.memTrained = true ∧ s.glb.memSwept = false)) ∧
    (∃ (s : State), (s.held = none ∧ s.glb.memSwept = true)) :=
  ⟨⟨4, up.setRetire 4 { page := 0x12345, hold := true }, by decide +kernel, by decide +kernel⟩,
   ⟨4, up.setRetire 4 { page := 0x12345, hold := true, releasing := true, valid := true }, by decide +kernel, by decide +kernel⟩,
   ⟨4, up, by decide +kernel, by decide +kernel⟩,
   ⟨0, { up with mem := { up.mem with repairs := [{ ch := 0, row := 5, la := 0, hard := false, waiting := [], fresh := [], all := [], ticket := { src := .ring 0 } }] } }, by decide +kernel, { ch := 0, row := 5, la := 0, hard := false, waiting := [], fresh := [], all := [], ticket := { src := .ring 0 } }, by decide +kernel⟩,
   ⟨up, by decide +kernel⟩,
   ⟨4, 0, rowOf 0, ({ up with glb := { up.glb with memSwept := false } }).setRetire 4 { page := 0, valid := true, hard := [0] }, by decide +kernel, by decide +kernel⟩,
   ⟨up, by decide +kernel⟩⟩

/-- Witnesses of the hypotheses of `BackgroundPassCountsErrors`. -/
theorem witness_BackgroundPassCountsErrors :
    (∃ (isl : Island) (a : Fin 11) (s : State), (s.held = none ∧ s.arrayAt isl a = false)) ∧
    (∃ (s : State), (s.held = none ∧ s.glb.sramSwept = false)) ∧
    (∃ (w : SramWord) (s : State), (s.held = none ∧ w = .clean)) ∧
    (∃ (isl : Island) (a : Fin 11) (w : SramWord) (s : State), (s.held = none ∧ s.arrayAt isl a = true ∧ s.glb.sramSwept = true ∧ w = .corrected ∧ a.val ≠ 2 ∧ a.val ≠ 5)) ∧
    (∃ (isl : Island) (a : Fin 11) (w : SramWord) (s : State), (s.held = none ∧ s.arrayAt isl a = true ∧ s.glb.sramSwept = true ∧ w = .corrected ∧ a.val = 2)) ∧
    (∃ (isl : Island) (a : Fin 11) (w : SramWord) (s : State), (s.held = none ∧ s.arrayAt isl a = true ∧ s.glb.sramSwept = true ∧ w = .uncorrectable ∧ a.val = 9 ∧ s.msc.state = .running)) ∧
    (∃ (isl : Island) (a : Fin 11) (w : SramWord) (s : State), (s.held = none ∧ s.arrayAt isl a = true ∧ s.glb.sramSwept = true ∧ w = .uncorrectable ∧ a.val = 0)) :=
  ⟨⟨0, 2, up, by decide +kernel⟩,
   ⟨{ up with glb := { up.glb with sramSwept := false } }, by decide +kernel⟩,
   ⟨.clean, up, by decide +kernel⟩,
   ⟨3, 1, .corrected, up, by decide +kernel⟩,
   ⟨64, 2, .corrected, up, by decide +kernel⟩,
   ⟨91, 9, .uncorrectable, up, by decide +kernel⟩,
   ⟨3, 0, .uncorrectable, up, by decide +kernel⟩⟩

/-- Witnesses of the hypotheses of `HomeOpcodes`. -/
theorem witness_HomeOpcodes :
    (∃ (c : Cmd) (s : State), 
      let n := c.le 16 2
      let who := c.le 20 2
      let remote : Bool := c.byte 18 == 2
      let host := c.byte 18 = 1 ∧ who ≤ 1023 ∨ c.byte 18 = 2 ∧ who ≤ 0xFFF
      let here := s.home.hosts.find? fun x => x.2.valid && x.2.remote == remote && x.2.who == who
      Instant opHomeHostSet c s ∧
      (n ≤ 1023 ∧ host ∧ here = none ∧ (s.host n).valid = false)) ∧
    (∃ (c : Cmd) (s : State), 
      let n := c.le 16 2
      let who := c.le 20 2
      let remote : Bool := c.byte 18 == 2
      let host := c.byte 18 = 1 ∧ who ≤ 1023 ∨ c.byte 18 = 2 ∧ who ≤ 0xFFF
      let here := s.home.hosts.find? fun x => x.2.valid && x.2.remote == remote && x.2.who == who
      Instant opHomeHostSet c s ∧
      (n ≤ 1023 ∧ host ∧ here = none ∧ (s.host n).valid = true)) ∧
    (∃ (c : Cmd) (s : State), 
      let n := c.le 16 2
      let who := c.le 20 2
      let remote : Bool := c.byte 18 == 2
      let host := c.byte 18 = 1 ∧ who ≤ 1023 ∨ c.byte 18 = 2 ∧ who ≤ 0xFFF
      let here := s.home.hosts.find? fun x => x.2.valid && x.2.remote == remote && x.2.who == who
      ∃ x : Nat × HostEntry, Instant opHomeHostSet c s ∧
      (n ≤ 1023 ∧ host ∧ here = some x)) ∧
    (∃ (c : Cmd) (s : State), 
      let n := c.le 16 2
      Instant opHomeHostSet c s ∧
      (n ≤ 1023 ∧ c.byte 18 = 0 ∧ (s.host n).valid = false)) ∧
    (∃ (c : Cmd) (s : State), 
      let n := c.le 16 2
      Instant opHomeHostSet c s ∧
      (n ≤ 1023 ∧ c.byte 18 = 0 ∧ (s.host n).valid = true)) ∧
    (∃ (c : Cmd) (s : State), 
      let n := c.le 16 2
      Instant opHomeHostLost c s ∧
      (n ≤ 1023 ∧ (s.host n).valid = false)) ∧
    (∃ (c : Cmd) (s : State), 
      let n := c.le 16 2
      Instant opHomeHostLost c s ∧
      (n ≤ 1023 ∧ (s.host n).valid = true)) ∧
    (∃ (c : Cmd) (s : State), Queues opHomeAllowSet c s) ∧
    (∃ (l : Launch) (s : State), 
      let p := l.cmd.le 16 2
      Due opHomeAllowSet l s ∧
      p ≤ 1023) ∧
    (∃ (c : Cmd) (s : State), 
      let n := c.le 16 2
      ∃ q : Ring, Instant opHomeTimeoutSet c s ∧
      (c.src = .ring q ∧ 10 ≤ n ∧ 1 ≤ c.le 18 2 ∧ c.le 18 2 ≤ 1000 ∧ 100 ≤ c.le 20 2)) ∧
    (∃ (c : Cmd) (s : State), Instant opHomeLineQuery c s ∧
      c.le 16 8 < 2 ^ 56 ∧
      let line := c.le 16 8 / 64
      let x := s.slice (sliceOf (line * 64))
      ∃ (key : Nat) (w : Way), (x.txns.find? (·.line == line) = none ∧ x.wayOf line = some (key, w) ∧ s.home.storeLog2 = 0)) ∧
    (∃ (c : Cmd) (s : State), Instant opHomeLineQuery c s ∧
      c.le 16 8 < 2 ^ 56 ∧
      let line := c.le 16 8 / 64
      let x := s.slice (sliceOf (line * 64))
      (x.txns.find? (·.line == line) = none ∧ x.wayOf line = none ∧ x.victimOf line = none ∧ s.home.storeLog2 = 0)) ∧
    (∃ (c : Cmd) (s : State), Instant opHomeLineQuery c s ∧
      c.le 16 8 < 2 ^ 56 ∧
      let line := c.le 16 8 / 64
      let x := s.slice (sliceOf (line * 64))
      ∃ t : Txn, x.txns.find? (·.line == line) = some t) ∧
    (∃ (c : Cmd) (s : State), Instant opHomeSweepQuery c s ∧
      c.byte 16 ≤ 15) :=
  ⟨⟨cmd [(16, 2, 9), (18, 1, 1), (20, 2, 17)], homeUp, instantOf (by decide +kernel), by decide +kernel⟩,
   ⟨cmd [(16, 2, 7), (18, 1, 1), (20, 2, 17)], homeUp, instantOf (by decide +kernel), by decide +kernel⟩,
   ⟨cmd [(16, 2, 9), (18, 1, 1), (20, 2, 16)], homeUp, (7, { who := 16, valid := true, inc := 3 }), instantOf (by decide +kernel), by decide +kernel⟩,
   ⟨cmd [(16, 2, 9)], homeUp, instantOf (by decide +kernel), by decide +kernel⟩,
   ⟨cmd [(16, 2, 7)], homeUp, instantOf (by decide +kernel), by decide +kernel⟩,
   ⟨cmd [(16, 2, 9)], homeUp, instantOf (by decide +kernel), by decide +kernel⟩,
   ⟨cmd [(16, 2, 7)], homeUp, instantOf (by decide +kernel), by decide +kernel⟩,
   ⟨cmd [(16, 2, 16), (18, 1, 64)], homeUp, queuesOf (by decide +kernel)⟩,
   ⟨due 0x42 [(16, 2, 16), (18, 1, 64)], withDue (due 0x42 [(16, 2, 16), (18, 1, 64)]) homeUp, dueOf (by decide +kernel), by decide +kernel⟩,
   ⟨cmd [(16, 2, 10), (18, 2, 1000), (20, 2, 100)], homeUp, 0, instantOf (by decide +kernel), by decide +kernel⟩,
   ⟨cmd [(16, 8, 0)], homeUp.setSlice 0 { running := true, ways := [(5, some { line := 0, entry := { state := 2, ptrs := [(7, 3)] } })] }, instantOf (by decide +kernel), by decide +kernel, 5, { line := 0, entry := { state := 2, ptrs := [(7, 3)] } }, by decide +kernel⟩,
   ⟨cmd [(16, 8, 0)], homeUp, instantOf (by decide +kernel), by decide +kernel, by decide +kernel⟩,
   ⟨cmd [(16, 8, 0)], homeUp.setSlice 0 { running := true, txns := [txn0] }, instantOf (by decide +kernel), by decide +kernel, txn0, by decide +kernel⟩,
   ⟨cmd [(16, 1, 15)], homeUp, instantOf (by decide +kernel), by decide +kernel⟩⟩

/-- Witnesses of the hypotheses of `DirectoryOpcodes`. -/
theorem witness_DirectoryOpcodes :
    (∃ (c : Cmd) (s : State), 
      let base := c.le 16 8
      let n := c.byte 24
      Instant opDirStoreSet c s ∧
      ((∀ x ∈ s.home.slices, x.2.anyLive = false) ∧ 20 ≤ n ∧ n ≤ 28 ∧ base % 2 ^ (n + 8) = 0 ∧ base + 2 ^ (n + 8) ≤ s.laReserve)) ∧
    (∃ (c : Cmd) (s : State), 
      let n := c.byte 24
      Instant opDirStoreSet c s ∧
      ((∀ x ∈ s.home.slices, x.2.anyLive = false) ∧ n = 0)) ∧
    (∃ (c : Cmd) (s : State), 
      let n := c.byte 24
      Instant opDirStoreSet c s ∧
      (∃ x ∈ s.home.slices, x.2.anyLive = true) ∧
      ((n = 0 ∨ 20 ≤ n ∧ n ≤ 28))) ∧
    (∃ (c : Cmd) (i : Nat) (s : State), 
      let base := c.le 16 8
      let n := c.byte 24
      let tgt : Target := if c.byte 25 = 2 then { pool := true, base := c.le 32 8 }
        else { port := c.le 26 2, ld := c.byte 28, base := c.le 32 8 }
      let target (size : Nat) := c.le 32 8 % 64 = 0 ∧
        (c.byte 25 = 1 ∧ c.le 26 2 ≤ 1023 ∧ c.byte 28 ≤ 15 ∨ c.byte 25 = 2 ∧ c.le 32 8 + size ≤ s.laReserve)
      let range := 30 ≤ n ∧ n ≤ 40 ∧ base % 2 ^ n = 0 ∧ base + 2 ^ n ≤ 2 ^ 56
      Instant opDirPlaceSet c s ∧
      (target (2 ^ n) ∧ range ∧ s.targetOkay tgt = true ∧ s.placeAtBase base = none) ∧
      (∀ x ∈ s.home.places, ∀ q, x.2 = some q → base + 2 ^ n ≤ q.base ∨ q.base + 2 ^ q.n ≤ base) ∧
      (List.range 1024).find? (fun j => s.place j = none) = some i) ∧
    (∃ (c : Cmd) (s : State), 
      let base := c.le 16 8
      let n := c.byte 24
      let tgt : Target := if c.byte 25 = 2 then { pool := true, base := c.le 32 8 }
        else { port := c.le 26 2, ld := c.byte 28, base := c.le 32 8 }
      let target (size : Nat) := c.le 32 8 % 64 = 0 ∧
        (c.byte 25 = 1 ∧ c.le 26 2 ≤ 1023 ∧ c.byte 28 ≤ 15 ∨ c.byte 25 = 2 ∧ c.le 32 8 + size ≤ s.laReserve)
      let range := 30 ≤ n ∧ n ≤ 40 ∧ base % 2 ^ n = 0 ∧ base + 2 ^ n ≤ 2 ^ 56
      Instant opDirPlaceSet c s ∧
      (target (2 ^ n) ∧ range ∧ s.targetOkay tgt = true ∧ s.placeAtBase base = none) ∧
      (∃ x ∈ s.home.places, ∃ q, x.2 = some q ∧ base < q.base + 2 ^ q.n ∧ q.base < base + 2 ^ n)) ∧
    (∃ (c : Cmd) (i : Nat) (p : Placement) (s : State), 
      let base := c.le 16 8
      let n := c.byte 24
      let tgt : Target := if c.byte 25 = 2 then { pool := true, base := c.le 32 8 }
        else { port := c.le 26 2, ld := c.byte 28, base := c.le 32 8 }
      let target (size : Nat) := c.le 32 8 % 64 = 0 ∧
        (c.byte 25 = 1 ∧ c.le 26 2 ≤ 1023 ∧ c.byte 28 ≤ 15 ∨ c.byte 25 = 2 ∧ c.le 32 8 + size ≤ s.laReserve)
      let range := 30 ≤ n ∧ n ≤ 40 ∧ base % 2 ^ n = 0 ∧ base + 2 ^ n ≤ 2 ^ 56
      Instant opDirPlaceSet c s ∧
      (target (2 ^ n) ∧ range ∧ s.targetOkay tgt = true ∧ s.placeAtBase base = some (i, p) ∧ p.n = n ∧ p.moving = false ∧ p.split = false)) ∧
    (∃ (c : Cmd) (i : Nat) (p : Placement) (s : State), 
      let base := c.le 16 8
      let n := c.byte 24
      let tgt : Target := if c.byte 25 = 2 then { pool := true, base := c.le 32 8 }
        else { port := c.le 26 2, ld := c.byte 28, base := c.le 32 8 }
      let target (size : Nat) := c.le 32 8 % 64 = 0 ∧
        (c.byte 25 = 1 ∧ c.le 26 2 ≤ 1023 ∧ c.byte 28 ≤ 15 ∨ c.byte 25 = 2 ∧ c.le 32 8 + size ≤ s.laReserve)
      let range := 30 ≤ n ∧ n ≤ 40 ∧ base % 2 ^ n = 0 ∧ base + 2 ^ n ≤ 2 ^ 56
      Instant opDirPlaceSet c s ∧
      (target (2 ^ n) ∧ range ∧ s.targetOkay tgt = true ∧ s.placeAtBase base = some (i, p) ∧ p.n ≠ n)) ∧
    (∃ (c : Cmd) (s : State), 
      let base := c.le 16 8
      let n := c.byte 24
      let tgt : Target := if c.byte 25 = 2 then { pool := true, base := c.le 32 8 }
        else { port := c.le 26 2, ld := c.byte 28, base := c.le 32 8 }
      let target (size : Nat) := c.le 32 8 % 64 = 0 ∧
        (c.byte 25 = 1 ∧ c.le 26 2 ≤ 1023 ∧ c.byte 28 ≤ 15 ∨ c.byte 25 = 2 ∧ c.le 32 8 + size ≤ s.laReserve)
      let range := 30 ≤ n ∧ n ≤ 40 ∧ base % 2 ^ n = 0 ∧ base + 2 ^ n ≤ 2 ^ 56
      Instant opDirPlaceSet c s ∧
      (target (2 ^ n) ∧ range ∧ s.targetOkay tgt = false)) ∧
    (∃ (c : Cmd) (i : Nat) (p : Placement) (s : State), 
      let base := c.le 16 8
      let n := c.byte 24
      Instant opDirPlaceSet c s ∧
      (c.byte 25 = 0 ∧ 30 ≤ n ∧ n ≤ 40 ∧ s.placeAtBase base = some (i, p) ∧ p.moving = false ∧ p.split = false)) ∧
    (∃ (c : Cmd) (i : Nat) (p : Placement) (s : State), 
      let base := c.le 16 8
      let n := c.byte 24
      Instant opDirPlaceSet c s ∧
      (c.byte 25 = 0 ∧ 30 ≤ n ∧ n ≤ 40 ∧ s.placeAtBase base = some (i, p) ∧ (p.moving = true ∨ p.split = true))) ∧
    (∃ (c : Cmd) (s : State), 
      let base := c.le 16 8
      let n := c.byte 24
      Instant opDirPlaceSet c s ∧
      (c.byte 25 = 0 ∧ 30 ≤ n ∧ n ≤ 40 ∧ s.placeAtBase base = none)) ∧
    (∃ (c : Cmd) (i : Nat) (p : Placement) (s : State), 
      let base := c.le 16 8
      let n := c.byte 24
      let tgt : Target := if c.byte 25 = 2 then { pool := true, base := c.le 32 8 }
        else { port := c.le 26 2, ld := c.byte 28, base := c.le 32 8 }
      let target (size : Nat) := c.le 32 8 % 64 = 0 ∧
        (c.byte 25 = 1 ∧ c.le 26 2 ≤ 1023 ∧ c.byte 28 ≤ 15 ∨ c.byte 25 = 2 ∧ c.le 32 8 + size ≤ s.laReserve)
      let depths := s.moves.foldl (fun n q => n + q.depth) 0
      Instant opDirMove c s ∧
      (target (2 ^ p.n) ∧ c.target ≤ 255 ∧ s.placeAtBase base = some (i, p) ∧ s.targetOkay tgt = true ∧ 1 ≤ c.byte 40 ∧ depths + c.byte 40 ≤ 128 ∧ p.moving = false ∧ p.split = false ∧ s.moves.length < 8)) ∧
    (∃ (c : Cmd) (i : Nat) (p : Placement) (s : State), 
      let base := c.le 16 8
      let n := c.byte 24
      let tgt : Target := if c.byte 25 = 2 then { pool := true, base := c.le 32 8 }
        else { port := c.le 26 2, ld := c.byte 28, base := c.le 32 8 }
      let target (size : Nat) := c.le 32 8 % 64 = 0 ∧
        (c.byte 25 = 1 ∧ c.le 26 2 ≤ 1023 ∧ c.byte 28 ≤ 15 ∨ c.byte 25 = 2 ∧ c.le 32 8 + size ≤ s.laReserve)
      let depths := s.moves.foldl (fun n q => n + q.depth) 0
      Instant opDirMove c s ∧
      (target (2 ^ p.n) ∧ c.target ≤ 255 ∧ s.placeAtBase base = some (i, p) ∧ s.targetOkay tgt = true ∧ 1 ≤ c.byte 40 ∧ depths + c.byte 40 ≤ 128 ∧ p.moving = false ∧ p.split = true ∧ p.newTarget = tgt ∧ s.moves.length < 8)) ∧
    (∃ (c : Cmd) (i : Nat) (p : Placement) (s : State), 
      let base := c.le 16 8
      let n := c.byte 24
      let tgt : Target := if c.byte 25 = 2 then { pool := true, base := c.le 32 8 }
        else { port := c.le 26 2, ld := c.byte 28, base := c.le 32 8 }
      let target (size : Nat) := c.le 32 8 % 64 = 0 ∧
        (c.byte 25 = 1 ∧ c.le 26 2 ≤ 1023 ∧ c.byte 28 ≤ 15 ∨ c.byte 25 = 2 ∧ c.le 32 8 + size ≤ s.laReserve)
      let depths := s.moves.foldl (fun n q => n + q.depth) 0
      Instant opDirMove c s ∧
      (target (2 ^ p.n) ∧ c.target ≤ 255 ∧ s.placeAtBase base = some (i, p) ∧ s.targetOkay tgt = true ∧ 1 ≤ c.byte 40 ∧ depths + c.byte 40 ≤ 128 ∧ p.moving = true)) ∧
    (∃ (c : Cmd) (i : Nat) (p : Placement) (s : State), 
      let base := c.le 16 8
      let n := c.byte 24
      let tgt : Target := if c.byte 25 = 2 then { pool := true, base := c.le 32 8 }
        else { port := c.le 26 2, ld := c.byte 28, base := c.le 32 8 }
      let target (size : Nat) := c.le 32 8 % 64 = 0 ∧
        (c.byte 25 = 1 ∧ c.le 26 2 ≤ 1023 ∧ c.byte 28 ≤ 15 ∨ c.byte 25 = 2 ∧ c.le 32 8 + size ≤ s.laReserve)
      let depths := s.moves.foldl (fun n q => n + q.depth) 0
      Instant opDirMove c s ∧
      (target (2 ^ p.n) ∧ c.target ≤ 255 ∧ s.placeAtBase base = some (i, p) ∧ s.targetOkay tgt = true ∧ 1 ≤ c.byte 40 ∧ depths + c.byte 40 ≤ 128 ∧ p.moving = false ∧ p.split = false ∧ 8 ≤ s.moves.length)) ∧
    (∃ (c : Cmd) (i : Nat) (p : Placement) (s : State), 
      let base := c.le 16 8
      let n := c.byte 24
      Instant opDirMoveQuery c s ∧
      (n ≤ 15 ∧ s.placeAtBase base = some (i, p))) ∧
    (∃ (c : Cmd) (i : Nat) (p : Placement) (s : State), 
      let base := c.le 16 8
      let n := c.byte 24
      let still := p.moving = false ∧ p.split = false ∧ p.zeroOff = none
      Instant opDirZeroSet c s ∧
      ((n = 1 ∨ n = 2) ∧ s.placeAtBase base = some (i, p) ∧ still ∧ (p.zeroFill = true ∨ s.zeroCount < 64) ∧ c.le 32 8 % 64 = 0 ∧ c.le 32 8 + 2 ^ (p.n - 15) ≤ s.laReserve)) ∧
    (∃ (c : Cmd) (i : Nat) (p : Placement) (s : State), 
      let base := c.le 16 8
      let n := c.byte 24
      let still := p.moving = false ∧ p.split = false ∧ p.zeroOff = none
      Instant opDirZeroSet c s ∧
      (n = 0 ∧ s.placeAtBase base = some (i, p) ∧ still ∧ p.zeroFill = false)) ∧
    (∃ (c : Cmd) (i : Nat) (p : Placement) (s : State), 
      let base := c.le 16 8
      let n := c.byte 24
      let still := p.moving = false ∧ p.split = false ∧ p.zeroOff = none
      Instant opDirZeroSet c s ∧
      (n = 0 ∧ s.placeAtBase base = some (i, p) ∧ still ∧ p.zeroFill = true)) ∧
    (∃ (c : Cmd) (i : Nat) (p : Placement) (s : State), 
      let base := c.le 16 8
      let n := c.byte 24
      Instant opDirZeroSet c s ∧
      (n ≤ 2 ∧ s.placeAtBase base = some (i, p) ∧ (p.moving = true ∨ p.split = true ∨ p.zeroOff ≠ none))) ∧
    (∃ (c : Cmd) (i : Nat) (p : Placement) (s : State), 
      let base := c.le 16 8
      Instant opDirZeroQuery c s ∧
      (base < 2 ^ 56 ∧ s.placeOf (base / 64) = some (i, p))) ∧
    (∃ (c : Cmd) (s : State), 
      let base := c.le 16 8
      Instant opDirZeroQuery c s ∧
      (base < 2 ^ 56 ∧ s.placeOf (base / 64) = none)) ∧
    (∃ (c : Cmd) (s : State), ∃ v : Nat, Instant opDirStatus c s ∧
      c.byte 16 ≤ 15 ∧
      let x := s.slice (c.byte 16)
      [x.retry.length, x.retryMax, x.retryCount, x.storeLive, x.fullInval, x.trimCount, x.suspects,
       x.victims.length + 2 ^ 16 * x.victimsMax, x.initiated + 2 ^ 16 * (x.zeroing.length - x.initiated), x.oldDiscard,
       x.poisonCopies][c.byte 17]? = some v) :=
  ⟨⟨cmd [(24, 1, 20)], (homeUp.setBinding (17 * 8 + 16) (some { vfi := 0, owner := 16, vppb := 1, role := 0 })), instantOf (by decide +kernel), by decide +kernel⟩,
   ⟨cmd [], (homeUp.setBinding (17 * 8 + 16) (some { vfi := 0, owner := 16, vppb := 1, role := 0 })), instantOf (by decide +kernel), by decide +kernel⟩,
   ⟨cmd [], homeUp.setSlice 0 { running := true, ways := [(5, some { line := 0, entry := { state := 2, ptrs := [(7, 3)] } })] }, instantOf (by decide +kernel), ⟨(0, { running := true, ways := [(5, some { line := 0, entry := { state := 2, ptrs := [(7, 3)] } })] }), by decide +kernel, by decide +kernel⟩, by decide +kernel⟩,
   ⟨cmd [(16, 8, 0x40000000), (24, 1, 30), (25, 1, 1), (26, 2, 8)], 1, (homeUp.setBinding (17 * 8 + 16) (some { vfi := 0, owner := 16, vppb := 1, role := 0 })), instantOf (by decide +kernel), by decide +kernel, fun x hx q hq => by simp only [State.setBinding, homeUp, List.mem_singleton] at hx; subst hx; cases hq; decide +kernel, by decide +kernel⟩,
   ⟨cmd [(24, 1, 31), (25, 1, 1), (26, 2, 8)], ((homeUp.setBinding (17 * 8 + 16) (some { vfi := 0, owner := 16, vppb := 1, role := 0 })).setPlace 0 (some { base := 0x40000000, n := 30, target := { port := 8 } })), instantOf (by decide +kernel), by decide +kernel, ⟨_, List.mem_singleton.2 rfl, _, rfl, by decide +kernel⟩⟩,
   ⟨cmd [(24, 1, 30), (25, 1, 1), (26, 2, 8)], 0, { base := 0, n := 30, target := { port := 8 } }, (homeUp.setBinding (17 * 8 + 16) (some { vfi := 0, owner := 16, vppb := 1, role := 0 })), instantOf (by decide +kernel), by decide +kernel⟩,
   ⟨cmd [(24, 1, 31), (25, 1, 1), (26, 2, 8)], 0, { base := 0, n := 30, target := { port := 8 } }, (homeUp.setBinding (17 * 8 + 16) (some { vfi := 0, owner := 16, vppb := 1, role := 0 })), instantOf (by decide +kernel), by decide +kernel⟩,
   ⟨cmd [(24, 1, 30), (25, 1, 1), (26, 2, 8)], homeUp, instantOf (by decide +kernel), by decide +kernel⟩,
   ⟨cmd [(24, 1, 30)], 0, { base := 0, n := 30, target := { port := 8 } }, (homeUp.setBinding (17 * 8 + 16) (some { vfi := 0, owner := 16, vppb := 1, role := 0 })), instantOf (by decide +kernel), by decide +kernel⟩,
   ⟨cmd [(24, 1, 30)], 0, { base := 0, n := 30, target := { port := 8 }, moving := true }, (homeUp.setBinding (17 * 8 + 16) (some { vfi := 0, owner := 16, vppb := 1, role := 0 })).setPlace 0 (some { base := 0, n := 30, target := { port := 8 }, moving := true }), instantOf (by decide +kernel), by decide +kernel⟩,
   ⟨cmd [(24, 1, 30), (16, 8, 0x40000000)], (homeUp.setBinding (17 * 8 + 16) (some { vfi := 0, owner := 16, vppb := 1, role := 0 })), instantOf (by decide +kernel), by decide +kernel⟩,
   ⟨cmd [(4, 4, 255), (24, 1, 30), (25, 1, 1), (26, 2, 8), (40, 1, 128)], 0, { base := 0, n := 30, target := { port := 8 } }, (homeUp.setBinding (17 * 8 + 16) (some { vfi := 0, owner := 16, vppb := 1, role := 0 })), instantOf (by decide +kernel), by decide +kernel⟩,
   ⟨cmd [(4, 4, 255), (24, 1, 30), (25, 1, 1), (26, 2, 8), (40, 1, 128)], 0, { base := 0, n := 30, target := { port := 8 }, split := true, newTarget := { port := 8 } }, (homeUp.setBinding (17 * 8 + 16) (some { vfi := 0, owner := 16, vppb := 1, role := 0 })).setPlace 0 (some { base := 0, n := 30, target := { port := 8 }, split := true, newTarget := { port := 8 } }), instantOf (by decide +kernel), by decide +kernel⟩,
   ⟨cmd [(4, 4, 255), (24, 1, 30), (25, 1, 1), (26, 2, 8), (40, 1, 128)], 0, { base := 0, n := 30, target := { port := 8 }, moving := true }, (homeUp.setBinding (17 * 8 + 16) (some { vfi := 0, owner := 16, vppb := 1, role := 0 })).setPlace 0 (some { base := 0, n := 30, target := { port := 8 }, moving := true }), instantOf (by decide +kernel), by decide +kernel⟩,
   ⟨cmd [(4, 4, 255), (24, 1, 30), (25, 1, 1), (26, 2, 8), (40, 1, 128)], 0, { base := 0, n := 30, target := { port := 8 } }, (List.range 8).foldl (fun t j => t.setPlace (j + 1) (some { base := 0x40000000 * (j + 1), n := 30, target := { port := 8 }, moving := true })) ((homeUp.setBinding (17 * 8 + 16) (some { vfi := 0, owner := 16, vppb := 1, role := 0 }))), instantOf (by decide +kernel), by decide +kernel⟩,
   ⟨cmd [(24, 1, 15)], 0, { base := 0, n := 30, target := { port := 8 } }, (homeUp.setBinding (17 * 8 + 16) (some { vfi := 0, owner := 16, vppb := 1, role := 0 })), instantOf (by decide +kernel), by decide +kernel⟩,
   ⟨cmd [(24, 1, 1)], 0, { base := 0, n := 30, target := { port := 8 } }, (homeUp.setBinding (17 * 8 + 16) (some { vfi := 0, owner := 16, vppb := 1, role := 0 })), instantOf (by decide +kernel), by decide +kernel⟩,
   ⟨cmd [], 0, { base := 0, n := 30, target := { port := 8 } }, (homeUp.setBinding (17 * 8 + 16) (some { vfi := 0, owner := 16, vppb := 1, role := 0 })), instantOf (by decide +kernel), by decide +kernel⟩,
   ⟨cmd [], 0, { base := 0, n := 30, target := { port := 8 }, zeroFill := true }, (homeUp.setBinding (17 * 8 + 16) (some { vfi := 0, owner := 16, vppb := 1, role := 0 })).setPlace 0 (some { base := 0, n := 30, target := { port := 8 }, zeroFill := true }), instantOf (by decide +kernel), by decide +kernel⟩,
   ⟨cmd [(24, 1, 2)], 0, { base := 0, n := 30, target := { port := 8 }, moving := true }, (homeUp.setBinding (17 * 8 + 16) (some { vfi := 0, owner := 16, vppb := 1, role := 0 })).setPlace 0 (some { base := 0, n := 30, target := { port := 8 }, moving := true }), instantOf (by decide +kernel), by decide +kernel⟩,
   ⟨cmd [], 0, { base := 0, n := 30, target := { port := 8 } }, (homeUp.setBinding (17 * 8 + 16) (some { vfi := 0, owner := 16, vppb := 1, role := 0 })), instantOf (by decide +kernel), by decide +kernel⟩,
   ⟨cmd [(16, 8, 0x40000000)], (homeUp.setBinding (17 * 8 + 16) (some { vfi := 0, owner := 16, vppb := 1, role := 0 })), instantOf (by decide +kernel), by decide +kernel⟩,
   ⟨cmd [(16, 1, 15), (17, 1, 10)], (homeUp.setBinding (17 * 8 + 16) (some { vfi := 0, owner := 16, vppb := 1, role := 0 })), 0, instantOf (by decide +kernel), by decide +kernel, by decide +kernel⟩⟩

/-- Witnesses of the hypotheses of `HomeTakesRequests`. -/
theorem witness_HomeTakesRequests :
    (∃ (k : Slice) (s : State), s.held = none ∧
      let x := s.slice k
      x.running = false) ∧
    (∃ (k : Slice) (m : Msg) (s : State), s.held = none ∧
      let x := s.slice k
      (x.running = true ∧ s.fromLost m = true)) ∧
    (∃ (k : Slice) (m : Msg) (s : State), s.held = none ∧
      let x := s.slice k
      (x.running = true ∧ s.fromLost m = false ∧ s.noHost m = true)) ∧
    (∃ (k : Slice) (m : Msg) (s : State), s.held = none ∧
      let x := s.slice k
      (x.running = true ∧ s.fromLost m = false ∧ s.noHost m = false)) ∧
    (∃ (k : Slice) (m : Msg) (s : State), s.held = none ∧
      let x := s.slice k
      (x.running = true ∧ s.fromLost m = false ∧ s.noHost m = false ∧ (m.engine = true ∨ m.priv = true))) ∧
    (∃ (k : Slice) (m : Msg) (s : State), s.held = none ∧
      let x := s.slice k
      let line := m.addr.toNat / 64
      (x.running = true ∧ s.fromLost m = false ∧ s.noHost m = false) ∧
      ∃ c : Nat, (s.chnOf m = some c ∧ m.engine = false ∧ m.priv = false) ∧
      ∃ f : Nat × Nat × Nat, (f ∈ x.filter ∧ f.1 = line ∧ f.2.1 = c)) ∧
    (∃ (k : Slice) (m : Msg) (s : State), s.held = none ∧
      let x := s.slice k
      let line := m.addr.toNat / 64
      (x.running = true ∧ s.fromLost m = false ∧ s.noHost m = false) ∧
      ∃ c : Nat, (s.chnOf m = some c ∧ m.engine = false ∧ m.priv = false ∧ (∀ f ∈ x.filter, f.1 = line → f.2.1 ≠ c)) ∧
      ∃ t : Txn, (x.txnOn line = some t ∧ t.owner = some c)) ∧
    (∃ (k : Slice) (m : Msg) (s : State), s.held = none ∧
      let x := s.slice k
      let line := m.addr.toNat / 64
      (x.running = true ∧ s.fromLost m = false ∧ s.noHost m = false) ∧
      ∃ c : Nat, (s.chnOf m = some c ∧ m.engine = false ∧ m.priv = false ∧ (∀ f ∈ x.filter, f.1 = line → f.2.1 ≠ c)) ∧
      ∃ t : Txn, (x.txnOn line = some t ∧ s.isOwner k t c = false)) ∧
    (∃ (k : Slice) (m : Msg) (s : State), s.held = none ∧
      let x := s.slice k
      let line := m.addr.toNat / 64
      (x.running = true ∧ s.fromLost m = false ∧ s.noHost m = false) ∧
      ∃ c : Nat, (s.chnOf m = some c ∧ m.engine = false ∧ m.priv = false ∧ (∀ f ∈ x.filter, f.1 = line → f.2.1 ≠ c) ∧ x.txnOn line = none ∧ x.blocked line = true ∧ s.ownsLine k line c = true)) ∧
    (∃ (k : Slice) (m : Msg) (s : State), s.held = none ∧
      let x := s.slice k
      let line := m.addr.toNat / 64
      (x.running = true ∧ s.fromLost m = false ∧ s.noHost m = false) ∧
      ∃ c : Nat, (s.chnOf m = some c ∧ m.engine = false ∧ m.priv = false ∧ (∀ f ∈ x.filter, f.1 = line → f.2.1 ≠ c) ∧ x.txnOn line = none ∧ (x.blocked line = false ∨ s.ownsLine k line c = false))) :=
  ⟨⟨0, homeUp.setSlice 0 {}, by decide +kernel, by decide +kernel⟩,
   ⟨0, read0, ({ homeUp with home := { homeUp.home with lostAt := [(16, 1599001)] } }), by decide +kernel, by decide +kernel⟩,
   ⟨0, { read0 with reqPort := 17 }, homeUp, by decide +kernel, by decide +kernel⟩,
   ⟨0, read0, homeUp, by decide +kernel, by decide +kernel⟩,
   ⟨0, { kind := .memWr, reqPort := 16, stamp := 1599000, priv := true }, homeUp, by decide +kernel, by decide +kernel⟩,
   ⟨0, { kind := .memWr, reqPort := 16, stamp := 1599000 }, homeUp.setSlice 0 { running := true, filter := [(0, 7, 1700000)] }, by decide +kernel, by decide +kernel, 7, by decide +kernel, (0, 7, 1700000), by decide +kernel⟩,
   ⟨0, { kind := .memWr, reqPort := 16, stamp := 1599000 }, homeUp.setSlice 0 { running := true, txns := [{ txn0 with owner := some 7, wbOwed := true }] }, by decide +kernel, by decide +kernel, 7, by decide +kernel, { txn0 with owner := some 7, wbOwed := true }, by decide +kernel⟩,
   ⟨0, { kind := .memWr, reqPort := 16, stamp := 1599000 }, homeUp.setSlice 0 { running := true, txns := [txn0] }, by decide +kernel, by decide +kernel, 7, by decide +kernel, txn0, by decide +kernel⟩,
   ⟨0, { kind := .memWr, reqPort := 16, stamp := 1599000 }, homeUp.setSlice 0 { running := true, txns := [{ txn0 with storeRead := true }], victims := [{ line := 0, entry := { state := 2, ptrs := [(7, 3)] } }] }, by decide +kernel, by decide +kernel, 7, by decide +kernel⟩,
   ⟨0, { kind := .memWr, reqPort := 16, stamp := 1599000 }, homeUp, by decide +kernel, by decide +kernel, 7, by decide +kernel⟩⟩

/-- Witnesses of the hypotheses of `UntrackedLinesAreRead`. -/
theorem witness_UntrackedLinesAreRead :
    ∃ (k : Slice) (m : Msg) (p : Placement) (i q key : Nat) (s : State), s.held = none ∧
      let x := s.slice k
      let line := m.addr.toNat / 64
      (x.running = true ∧ s.fromLost m = false ∧ s.chnOf m = some q ∧ (s.host q).remote = false ∧ m.engine = false ∧ m.priv = false ∧ m.kind = .memRdData ∧ s.placeOf line = some (i, p) ∧ p.moving = false ∧ p.split = false ∧ p.zeroFill = false ∧ x.blocked line = false ∧ x.queued line = false ∧ x.buffered line = none ∧ x.wayOf line = none ∧ (∀ v ∈ x.victims, v.line ≠ line) ∧ s.home.storeLog2 = 0 ∧ s.overage k m.vfi.toNat = false ∧ p.target.pool = false ∧ (scanWays (s.dirSet line) 0).find? (fun j => (tget none x.ways j).isNone) = some key ∧ (∀ t ∈ x.txns, t.id < x.nextTxn)) :=
  ⟨0, read0, { base := 0, n := 30, target := { port := 8 } }, 0, 7, 0, homeUp, by decide +kernel, by decide +kernel⟩

/-- Witnesses of the hypotheses of `HomeDecisionTable`. -/
theorem witness_HomeDecisionTable :
    (∃ (t : Txn), (t.before = 0 ∧ t.msg.kind = .memRdData)) ∧
    (∃ (s : State) (t : Txn) (e : DirEntry) (q : Nat), (t.before = 1 ∧ t.msg.kind = .memRdData ∧ e.coarse = false ∧ (s.livePtrs e).length < 4 ∧ q ∉ s.livePtrs e)) ∧
    (∃ (s : State) (t : Txn) (e : DirEntry) (q : Nat), (t.before = 1 ∧ t.msg.kind = .memRdData ∧ e.coarse = false ∧ 4 ≤ (s.livePtrs e).length ∧ q ∉ s.livePtrs e)) ∧
    (∃ (s : State) (t : Txn) (e : DirEntry) (q : Nat), (t.before = 1 ∧ t.msg.kind = .memRdData ∧ e.coarse = false ∧ 4 ≤ (s.livePtrs e).length ∧ q ∉ s.livePtrs e ∧ q < 1024)) ∧
    (∃ (s : State) (t : Txn) (e : DirEntry) (q : Nat), (t.before = 1 ∧ t.msg.kind = .memRdData ∧ e.coarse = false ∧ 4 ≤ (s.livePtrs e).length ∧ q ∉ s.livePtrs e) ∧
      ∃ c, (c ∈ s.livePtrs e ∧ c < 1024)) ∧
    (∃ (t : Txn) (q o : Nat), (t.before = 2 ∧ t.own = false ∧ t.owner = some o ∧ q ≠ o ∧ t.msg.kind = .memRdData ∧ t.answer = 0)) ∧
    (∃ (t : Txn) (q o : Nat), (t.before = 2 ∧ t.own = false ∧ t.owner = some o ∧ q ≠ o ∧ t.msg.kind = .memRdData ∧ t.answer = 1)) ∧
    (∃ (t : Txn) (q o : Nat), (t.before = 2 ∧ t.own = false ∧ t.owner = some o ∧ q ≠ o ∧ t.msg.kind = .memRdData)) ∧
    (∃ (t : Txn), (t.msg.kind = .memWr ∧ t.msg.mv = .inv)) :=
  ⟨⟨{ txn0 with before := 0 }, by decide +kernel⟩,
   ⟨homeUp, { txn0 with before := 1 }, { state := 1, ptrs := [(8, 0), (9, 0), (10, 0)] }, 7, by decide +kernel⟩,
   ⟨homeUp, { txn0 with before := 1 }, { state := 1, ptrs := [(8, 0), (9, 0), (10, 0), (11, 0)] }, 7, by decide +kernel⟩,
   ⟨homeUp, { txn0 with before := 1 }, { state := 1, ptrs := [(8, 0), (9, 0), (10, 0), (11, 0)] }, 7, by decide +kernel⟩,
   ⟨homeUp, { txn0 with before := 1 }, { state := 1, ptrs := [(8, 0), (9, 0), (10, 0), (11, 0)] }, 7, by decide +kernel, 11, by decide +kernel⟩,
   ⟨{ txn0 with before := 2, owner := some 8, answer := 0 }, 7, 8, by decide +kernel⟩,
   ⟨{ txn0 with before := 2, owner := some 8, answer := 1 }, 7, 8, by decide +kernel⟩,
   ⟨{ txn0 with before := 2, owner := some 8, answer := 1 }, 7, 8, by decide +kernel⟩,
   ⟨{ txn0 with msg := { kind := .memWr, reqPort := 16, stamp := 1599000 } }, by decide +kernel⟩⟩

/-- Witnesses of the hypotheses of `SnoopResponsesAreTaken`. -/
theorem witness_SnoopResponsesAreTaken :
    (∃ (k : Slice) (s : State), s.held = none ∧
      let x := s.slice k
      x.running = false) ∧
    (∃ (k : Slice) (m : Msg) (s : State), s.held = none ∧
      let x := s.slice k
      (x.running = true ∧ s.fromLost m = true)) ∧
    (∃ (k : Slice) (m : Msg) (c : Nat) (t : Txn) (s : State), s.held = none ∧
      let x := s.slice k
      let line := m.addr.toNat / 64
      let awaits (t : Txn) : Bool := t.line == line && t.await.contains c
      (x.running = true ∧ s.fromLost m = false ∧ s.chnOf m = some c ∧ x.txns.find? awaits = none)) ∧
    (∃ (k : Slice) (m : Msg) (s : State), s.held = none ∧
      let x := s.slice k
      (x.running = true ∧ s.fromLost m = false ∧ s.chnOf m = none)) ∧
    (∃ (k : Slice) (m : Msg) (c : Nat) (t : Txn) (s : State), s.held = none ∧
      let x := s.slice k
      let line := m.addr.toNat / 64
      let awaits (t : Txn) : Bool := t.line == line && t.await.contains c
      let code := match m.kind with | .biRspS => 1 | .biRspE => 2 | _ => 0
      (x.running = true ∧ s.fromLost m = false ∧ s.chnOf m = some c ∧ x.txns.find? awaits = some t ∧ t.snoop = .inv ∧ code = 0 ∧ t.owner ≠ some c ∧ (∃ d ∈ t.await, d ≠ c) ∧ s.txn k t.id = some t ∧ (∀ y ∈ x.txns, y.id = t.id → y = t))) ∧
    (∃ (k : Slice) (m : Msg) (c : Nat) (t : Txn) (s : State), s.held = none ∧
      let x := s.slice k
      let line := m.addr.toNat / 64
      let awaits (t : Txn) : Bool := t.line == line && t.await.contains c
      let code := match m.kind with | .biRspS => 1 | .biRspE => 2 | _ => 0
      (x.running = true ∧ s.fromLost m = false ∧ s.chnOf m = some c ∧ x.txns.find? awaits = some t ∧ t.snoop = .inv ∧ code ≠ 0 ∧ t.owner ≠ some c ∧ (∃ d ∈ t.await, d ≠ c) ∧ s.txn k t.id = some t ∧ (∀ y ∈ x.txns, y.id = t.id → y = t))) ∧
    (∃ (k : Slice) (m : Msg) (s : State), s.held = none ∧
      let x := s.slice k
      (x.running = true ∧ s.fromLost m = false ∧ x.txns = [])) ∧
    (∃ (k : Slice) (m : Msg) (c : Nat) (t : Txn) (s : State), s.held = none ∧
      let x := s.slice k
      let line := m.addr.toNat / 64
      (x.running = true ∧ s.fromLost m = false ∧ x.txns = [t] ∧ t.line = line ∧ t.kind = .request ∧ t.storeRead = false ∧ t.recover = false ∧ t.chn = some c ∧ s.chnOf m = some c)) ∧
    (∃ (s : State), s.held = none) :=
  ⟨⟨0, homeUp.setSlice 0 {}, by decide +kernel, by decide +kernel⟩,
   ⟨0, { kind := .biRspI, reqPort := 16, stamp := 1599000 }, ({ homeUp with home := { homeUp.home with lostAt := [(16, 1599001)] } }), by decide +kernel, by decide +kernel⟩,
   ⟨0, { kind := .biRspI, reqPort := 16, stamp := 1599000 }, 7, { txn0 with snoop := .inv, await := [7, 8] }, homeUp, by decide +kernel, by decide +kernel⟩,
   ⟨0, { kind := .biRspI, reqPort := 17, stamp := 1599000 }, homeUp.setSlice 0 { running := true, txns := [{ txn0 with snoop := .inv, await := [7, 8] }] }, by decide +kernel, by decide +kernel⟩,
   ⟨0, { kind := .biRspI, reqPort := 16, stamp := 1599000 }, 7, { txn0 with snoop := .inv, await := [7, 8] }, homeUp.setSlice 0 { running := true, txns := [{ txn0 with snoop := .inv, await := [7, 8] }] }, by decide +kernel, by decide +kernel⟩,
   ⟨0, { kind := .biRspS, reqPort := 16, stamp := 1599000 }, 7, { txn0 with snoop := .inv, await := [7, 8] }, homeUp.setSlice 0 { running := true, txns := [{ txn0 with snoop := .inv, await := [7, 8] }] }, by decide +kernel, by decide +kernel⟩,
   ⟨0, { kind := .biConflict, reqPort := 16, stamp := 1599000 }, homeUp, by decide +kernel, by decide +kernel⟩,
   ⟨0, { kind := .biConflict, reqPort := 16, stamp := 1599000 }, 7, txn0, homeUp.setSlice 0 { running := true, txns := [txn0] }, by decide +kernel, by decide +kernel⟩,
   ⟨homeUp.setSlice 0 { running := true, txns := [{ txn0 with snoop := .inv, await := [7, 8] }] }, by decide +kernel⟩⟩

/-- Witnesses of the hypotheses of `BackingAnswersArrive`. -/
theorem witness_BackingAnswersArrive :
    (∃ (k : Slice) (id' : Nat) (t : Txn) (s : State), (s.held = none ∧ s.txn k id' = some t ∧ t.reading = true) ∧
      (∀ i, t.kind ≠ .move i) ∧
      t.await ≠ []) ∧
    (∃ (k : Slice) (t : Txn) (s : State), s.held = none ∧
      let x := s.slice k
      (x.buffered t.line = none ∧ (∀ w ∈ x.wwait, w.line ≠ t.line) ∧ t.overMask = 0 ∧ t.overPoison = false)) ∧
    (∃ (k : Slice) (t : Txn) (s : State), s.held = none ∧
      let x := s.slice k
      (x.buffered t.line = none ∧ (∀ w ∈ x.wwait, w.line ≠ t.line))) ∧
    (∃ (k : Slice) (id' : Nat) (t : Txn) (s : State), (s.held = none ∧ s.txn k id' = some t ∧ t.reading = false)) ∧
    (∃ (k : Slice) (id' : Nat) (s : State), s.held = none ∧
      let x := s.slice k
      (s.txn k id' = none ∧ (∀ o ∈ x.orphans, o.1 ≠ id'))) ∧
    (∃ (k : Slice) (id' : Nat) (s : State), s.held = none ∧
      let x := s.slice k
      ∃ o : Nat × Nat × Nat, (s.txn k id' = none ∧ x.orphans.find? (fun o => o.1 == id') = some o ∧ s.placeOf o.2.1 = none)) ∧
    (∃ (k : Slice) (id' : Nat) (s : State), s.held = none ∧
      let x := s.slice k
      ∃ (o : Nat × Nat × Nat) (i : Nat) (q : Placement), (s.txn k id' = none ∧ x.orphans.find? (fun o => o.1 == id') = some o ∧ s.placeOf o.2.1 = some (i, q))) ∧
    (∃ (k : Slice) (line : Line56) (s : State), s.held = none ∧
      let x := s.slice k
      x.buffered line = none) ∧
    (∃ (k : Slice) (line : Line56) (e : WEntry) (s : State), s.held = none ∧
      let x := s.slice k
      (x.buffered line = some e ∧ e.copyEpoch = none ∧ e.later = 0 ∧ e.parts = [] ∧ s.zeroEntry k (line / 64) = none ∧ x.wwait = [] ∧ (∀ y ∈ x.txns, y.line = line → y.settling = false))) ∧
    (∃ (k : Slice) (line : Line56) (e : WEntry) (s : State), s.held = none ∧
      let x := s.slice k
      (x.buffered line = some e ∧ e.copyEpoch = none ∧ e.later ≠ 0 ∧ e.reissued = false ∧ s.zeroEntry k (line / 64) = none)) ∧
    (∃ (k : Slice) (line : Line56) (e : WEntry) (s : State), s.held = none ∧
      let x := s.slice k
      ∃ (y : WPart) (l : List WPart), (x.buffered line = some e ∧ e.copyEpoch = none ∧ e.later = 0 ∧ e.parts = y :: l ∧ s.zeroEntry k (line / 64) = none)) :=
  ⟨⟨0, 3, { txn0 with reading := true, await := [8] }, homeUp.setSlice 0 { running := true, txns := [{ txn0 with reading := true, await := [8] }] }, by decide +kernel, (fun _ h => nomatch h), by decide +kernel⟩,
   ⟨0, { txn0 with reading := true, await := [8] }, homeUp.setSlice 0 { running := true, txns := [{ txn0 with reading := true, await := [8] }] }, by decide +kernel, by decide +kernel⟩,
   ⟨0, { txn0 with reading := true, await := [8] }, homeUp.setSlice 0 { running := true, txns := [{ txn0 with reading := true, await := [8] }] }, by decide +kernel, by decide +kernel⟩,
   ⟨0, 3, txn0, homeUp.setSlice 0 { running := true, txns := [txn0] }, by decide +kernel⟩,
   ⟨0, 3, homeUp, by decide +kernel, by decide +kernel⟩,
   ⟨0, 3, homeUp.setSlice 0 { running := true, orphans := [(3, 0x1000000, 1)] }, by decide +kernel, (3, 0x1000000, 1), by decide +kernel⟩,
   ⟨0, 3, homeUp.setSlice 0 { running := true, orphans := [(3, 0, 1)] }, by decide +kernel, (3, 0, 1), 0, { base := 0, n := 30, target := { port := 8 } }, by decide +kernel⟩,
   ⟨0, 0, homeUp, by decide +kernel, by decide +kernel⟩,
   ⟨0, 0, { mask := 0xFF, ackEnd := 1700000 }, homeUp.setSlice 0 { running := true, wbuf := [(0, some { mask := 0xFF, ackEnd := 1700000 })] }, by decide +kernel, by decide +kernel⟩,
   ⟨0, 0, { mask := 0xFF, later := 0xF0 }, homeUp.setSlice 0 { running := true, wbuf := [(0, some { mask := 0xFF, later := 0xF0 })] }, by decide +kernel, by decide +kernel⟩,
   ⟨0, 0, { mask := 0xFF, parts := [{ data := 3, mask := 0xF0, poison := false, gen := 1, tgt := { port := 9 } }] }, homeUp.setSlice 0 { running := true, wbuf := [(0, some { mask := 0xFF, parts := [{ data := 3, mask := 0xF0, poison := false, gen := 1, tgt := { port := 9 } }] })] }, by decide +kernel, { data := 3, mask := 0xF0, poison := false, gen := 1, tgt := { port := 9 } }, [], by decide +kernel⟩⟩

/-- Witnesses of the hypotheses of `HomeTimeouts`. -/
theorem witness_HomeTimeouts :
    (∃ (k : Slice) (id' : Nat) (s : State), (s.held = none ∧ s.txn k id' = none)) ∧
    (∃ (k : Slice) (id' : Nat) (t : Txn) (s : State), (s.held = none ∧ s.txn k id' = some t ∧ s.due t.snoopEnd = false)) ∧
    (∃ (k : Slice) (id' : Nat) (t : Txn) (s : State), (s.held = none ∧ s.txn k id' = some t ∧ s.due t.snoopEnd = true ∧ t.await ≠ [] ∧ t.owner = none ∧ t.kind = .request ∧ t.recover = false ∧ t.needData = true ∧ t.data = none)) ∧
    (∃ (k : Slice) (id' : Nat) (t : Txn) (s : State), (s.held = none ∧ s.txn k id' = some t ∧ s.due t.wbEnd = false)) ∧
    (∃ (k : Slice) (id' : Nat) (t : Txn) (s : State), (s.held = none ∧ s.txn k id' = some t ∧ t.wbOwed = true ∧ s.due t.wbEnd = true)) ∧
    (∃ (k : Slice) (id' : Nat) (t : Txn) (s : State), (s.held = none ∧ s.txn k id' = some t ∧ s.due t.readEnd = false)) ∧
    (∃ (k : Slice) (id' : Nat) (t : Txn) (s : State), (s.held = none ∧ s.txn k id' = some t ∧ t.reading = true ∧ s.due t.readEnd = true) ∧
      (∀ i, t.kind ≠ .move i) ∧
      t.await ≠ []) ∧
    (∃ (k : Slice) (line : Line56) (s : State), s.held = none ∧
      let x := s.slice k
      x.buffered line = none) ∧
    (∃ (k : Slice) (line : Line56) (e : WEntry) (s : State), s.held = none ∧
      let x := s.slice k
      (x.buffered line = some e ∧ s.clock < e.ackEnd)) ∧
    (∃ (k : Slice) (line : Line56) (e : WEntry) (s : State), s.held = none ∧
      let x := s.slice k
      (x.buffered line = some e ∧ e.ackEnd ≤ s.clock ∧ e.reissued = false)) ∧
    (∃ (k : Slice) (line : Line56) (e : WEntry) (s : State), s.held = none ∧
      let x := s.slice k
      (x.buffered line = some e ∧ e.ackEnd ≤ s.clock ∧ e.reissued = true)) ∧
    (∃ (s : State), s.held = none) :=
  ⟨⟨0, 3, homeUp, by decide +kernel⟩,
   ⟨0, 3, txn0, homeUp.setSlice 0 { running := true, txns := [txn0] }, by decide +kernel⟩,
   ⟨0, 3, { txn0 with await := [8], snoopEnd := some 1600000, needData := true }, homeUp.setSlice 0 { running := true, txns := [{ txn0 with await := [8], snoopEnd := some 1600000, needData := true }] }, by decide +kernel⟩,
   ⟨0, 3, txn0, homeUp.setSlice 0 { running := true, txns := [txn0] }, by decide +kernel⟩,
   ⟨0, 3, { txn0 with owner := some 8, wbOwed := true, wbEnd := some 1600000 }, homeUp.setSlice 0 { running := true, txns := [{ txn0 with owner := some 8, wbOwed := true, wbEnd := some 1600000 }] }, by decide +kernel⟩,
   ⟨0, 3, txn0, homeUp.setSlice 0 { running := true, txns := [txn0] }, by decide +kernel⟩,
   ⟨0, 3, { txn0 with reading := true, await := [8], readEnd := some 1600000 }, homeUp.setSlice 0 { running := true, txns := [{ txn0 with reading := true, await := [8], readEnd := some 1600000 }] }, by decide +kernel, (fun _ h => nomatch h), by decide +kernel⟩,
   ⟨0, 0, homeUp, by decide +kernel, by decide +kernel⟩,
   ⟨0, 0, { mask := 0xFF, ackEnd := 1600001 }, homeUp.setSlice 0 { running := true, wbuf := [(0, some { mask := 0xFF, ackEnd := 1600001 })] }, by decide +kernel, by decide +kernel⟩,
   ⟨0, 0, { mask := 0xFF, ackEnd := 1600000 }, homeUp.setSlice 0 { running := true, wbuf := [(0, some { mask := 0xFF, ackEnd := 1600000 })] }, by decide +kernel, by decide +kernel⟩,
   ⟨0, 0, { mask := 0xFF, ackEnd := 1600000, reissued := true }, homeUp.setSlice 0 { running := true, wbuf := [(0, some { mask := 0xFF, ackEnd := 1600000, reissued := true })] }, by decide +kernel, by decide +kernel⟩,
   ⟨homeUp.setSlice 0 { running := true, txns := [txn0] }, by decide +kernel⟩⟩

/-- Witnesses of the hypotheses of `HomeQueuesAdvance`. -/
theorem witness_HomeQueuesAdvance :
    (∃ (k : Slice) (line : Line56) (s : State), s.held = none ∧
      let x := s.slice k
      x.blocked line = true) ∧
    (∃ (k : Slice) (line : Line56) (s : State), s.held = none ∧
      let x := s.slice k
      (x.blocked line = false ∧ (∀ y ∈ x.waits, y.line ≠ line))) ∧
    (∃ (k : Slice) (line : Line56) (w : Waiter) (s : State), s.held = none ∧
      let x := s.slice k
      (x.blocked line = false ∧ s.firstWaiter (x.waits.filter (·.line == line)) = some w ∧ w.kind = .request ∧ (classOf w.msg ≠ .wr ∨ x.room line = true))) ∧
    (∃ (k : Slice) (line : Line56) (w : Waiter) (s : State), s.held = none ∧
      let x := s.slice k
      (x.blocked line = false ∧ s.firstWaiter (x.waits.filter (·.line == line)) = some w ∧ w.kind = .request ∧ classOf w.msg = .wr ∧ x.room line = false)) ∧
    (∃ (k : Slice) (s : State), s.held = none ∧
      let x := s.slice k
      x.retry = []) ∧
    (∃ (k : Slice) (w : Waiter) (s u : State), s.held = none ∧
      let x := s.slice k
      let s' := s.setSlice k { x with retry := [] }
      (x.retry = [w] ∧ w.full = false ∧ (s'.slice k).blocked w.line = false) ∧
      s'.decideReq k w = .done u) ∧
    (∃ (k : Slice) (w : Waiter) (s : State), s.held = none ∧
      let x := s.slice k
      let s' := s.setSlice k { x with retry := [] }
      (x.retry = [w] ∧ w.full = false ∧ (s'.slice k).blocked w.line = false) ∧
      s'.decideReq k w = .retry) ∧
    (∃ (k : Slice) (w : Waiter) (s : State), s.held = none ∧
      let x := s.slice k
      let s' := s.setSlice k { x with retry := [] }
      (x.retry = [w] ∧ w.full = true ∧ (s'.slice k).pin w.line < 255)) ∧
    (∃ (k : Slice) (w : Waiter) (s : State), s.held = none ∧
      let x := s.slice k
      let s' := s.setSlice k { x with retry := [] }
      (x.retry = [w] ∧ w.full = true ∧ 255 ≤ (s'.slice k).pin w.line)) ∧
    (∃ (w : Waiter) (s : State), s.held = none ∧
      ∃ (l : List Waiter), s.firstWaiter l = some w) ∧
    (∃ (w : Waiter) (s : State), s.held = none ∧
      ∃ (l : List Waiter), s.firstWaiter l = some w ∧
      ∃ y, y ∈ l) ∧
    (∃ (k : Slice) (p : Port) (s : State), s.held = none ∧
      let i := 16 * p.val + k.val
      tget 0 s.home.signals i = 0) ∧
    (∃ (k : Slice) (p : Port) (s : State), s.held = none ∧
      let i := 16 * p.val + k.val
      tget 0 s.home.signals i ≠ 0) :=
  ⟨⟨0, 0, homeUp.setSlice 0 { running := true, txns := [txn0] }, by decide +kernel, by decide +kernel⟩,
   ⟨0, 0, homeUp, by decide +kernel, by decide +kernel⟩,
   ⟨0, 0, { line := 0, msg := read0, since := 1599000 }, homeUp.setSlice 0 { running := true, waits := [{ line := 0, msg := read0, since := 1599000 }] }, by decide +kernel, by decide +kernel⟩,
   ⟨0, 0, { line := 0, msg := { kind := .memWr, reqPort := 16, stamp := 1599000 }, since := 1599000 }, homeUp.setSlice 0 { running := true, waits := [{ line := 0, msg := { kind := .memWr, reqPort := 16, stamp := 1599000 }, since := 1599000 }], wbuf := (List.range 1024).map fun k => (k + 1, some {}) }, by decide +kernel, by decide +kernel⟩,
   ⟨0, homeUp, by decide +kernel, by decide +kernel⟩,
   ⟨0, { line := 0, msg := read0, since := 1599000 }, homeUp.setSlice 0 { running := true, retry := [{ line := 0, msg := read0, since := 1599000 }] }, decided ((homeUp.setSlice 0 { running := true }).decideReq 0 { line := 0, msg := read0, since := 1599000 }), by decide +kernel, by decide +kernel, decided_done (by decide +kernel)⟩,
   ⟨0, { line := 0, msg := read0, since := 1599000 }, (homeUp.setInst 0 { dirQuota := 16 }).setSlice 0 { running := true, retry := [{ line := 0, msg := read0, since := 1599000 }], charges := [(0, 257)] }, by decide +kernel, by decide +kernel, decided_retry (by decide +kernel)⟩,
   ⟨0, { line := 0, msg := read0, since := 1599000, full := true }, homeUp.setSlice 0 { running := true, retry := [{ line := 0, msg := read0, since := 1599000, full := true }] }, by decide +kernel, by decide +kernel⟩,
   ⟨0, { line := 0, msg := read0, since := 1599000, full := true }, homeUp.setSlice 0 { running := true, retry := [{ line := 0, msg := read0, since := 1599000, full := true }], waits := List.replicate 255 { line := 0, msg := read0, since := 1599000 } }, by decide +kernel, by decide +kernel⟩,
   ⟨{ line := 0, msg := read0, since := 1599000 }, homeUp, by decide +kernel, [{ line := 0, msg := read0, since := 1599000 }], by decide +kernel⟩,
   ⟨{ line := 0, msg := read0, since := 1599000 }, homeUp, by decide +kernel, [{ line := 0, msg := read0, since := 1599000 }], by decide +kernel, { line := 0, msg := read0, since := 1599000 }, by decide +kernel⟩,
   ⟨0, 16, homeUp, by decide +kernel, by decide +kernel⟩,
   ⟨0, 16, { homeUp with home := { homeUp.home with signals := [(256, 1)], counts := [(256, 1)] } }, by decide +kernel, by decide +kernel⟩⟩

/-- Witnesses of the hypotheses of `HostLossIsSwept`. -/
theorem witness_HostLossIsSwept :
    (∃ (chn : Chn) (s : State), (s.held = none ∧ (∀ y ∈ s.home.lossDue, y.1 ≠ chn.val))) ∧
    (∃ (chn : Chn) (s : State), s.held = none ∧
      ∃ at' : Nat, s.home.lossDue.find? (fun y => y.1 == chn.val) = some (chn.val, at')) ∧
    (∃ (chn : Chn) (s : State), (s.held = none ∧ (s.host chn).pending < 15)) ∧
    (∃ (chn : Chn) (s : State), (s.held = none ∧ (s.host chn).pending = 15)) ∧
    (∃ (s : State), s.held = none) ∧
    (∃ (k : Slice) (s : State), s.held = none ∧
      let x := s.slice k
      x.running = false) ∧
    (∃ (k : Slice) (s : State), s.held = none ∧
      let x := s.slice k
      (x.running = true ∧ x.ways = [] ∧ x.victims = [] ∧ s.home.storeLog2 = 0 ∧ x.losses = [])) ∧
    (∃ (k : Slice) (s : State), s.held = none ∧
      let x := s.slice k
      ∃ (y : Nat × Option Way) (w : Way), (x.running = true ∧ x.ways.find? (fun v => decide (x.sweepPos ≤ v.1)) = some y ∧ y.1 < scanStore ∧ tget none x.ways y.1 = some w ∧ x.wayOf w.line = some (y.1, w) ∧ (w.entry.coarse = true ∨ ∀ e ∈ w.entry.ptrs, (s.host e.1).inc = e.2) ∧ (w.entry.live = true ∨ x.pin w.line ≠ 0))) :=
  ⟨⟨7, homeUp, by decide +kernel⟩,
   ⟨7, { homeUp with home := { homeUp.home with lossDue := [(7, 1500000)] } }, by decide +kernel, 1500000, by decide +kernel⟩,
   ⟨7, homeUp, by decide +kernel⟩,
   ⟨7, { homeUp with home := { homeUp.home with hosts := [(7, { who := 16, valid := true, pending := 15 })] } }, by decide +kernel⟩,
   ⟨homeUp, by decide +kernel⟩,
   ⟨0, homeUp.setSlice 0 {}, by decide +kernel, by decide +kernel⟩,
   ⟨0, homeUp, by decide +kernel, by decide +kernel⟩,
   ⟨0, homeUp.setSlice 0 { running := true, ways := [(5, some { line := 0, entry := { state := 2, ptrs := [(7, 3)] } })] }, by decide +kernel, (5, some { line := 0, entry := { state := 2, ptrs := [(7, 3)] } }), { line := 0, entry := { state := 2, ptrs := [(7, 3)] } }, by decide +kernel⟩⟩

/-- Witnesses of the hypotheses of `DirectoryWorkProceeds`. -/
theorem witness_DirectoryWorkProceeds :
    (∃ (k : Slice) (id' : Nat) (s : State), (s.held = none ∧ s.txn k id' = none)) ∧
    (∃ (k : Slice) (id' : Nat) (t : Txn) (s : State), (s.held = none ∧ s.txn k id' = some t ∧ t.storeRead = false)) ∧
    (∃ (k : Slice) (id' : Nat) (unc : Bool) (t : Txn) (s : State), s.held = none ∧
      ∃ l : List SlotView, (s.txn k id' = some t ∧ t.storeRead = true ∧ t.wbSeen = false ∧ (t.settled && s.recheckFails t.msg) = false ∧ unc = false) ∧
      s.bucket k (s.bucketOf t.line) = some l ∧
      ((slotEntries l).find? (fun y => y.2.1 == t.line) = none ∧ isSuspect l = false ∧ (createsEntry t.msg = false ∨ s.overage k t.msg.vfi.toNat = false))) ∧
    (∃ (k : Slice) (id' : Nat) (unc : Bool) (t : Txn) (s : State), s.held = none ∧
      let x := s.slice k
      ∃ l, (s.txn k id' = some t ∧ t.storeRead = true ∧ t.wbSeen = false ∧ (t.settled && s.recheckFails t.msg) = false ∧ unc = false) ∧
      s.bucket k (s.bucketOf t.line) = some l ∧
      ∃ y key w, (slotEntries l).find? (fun y => y.2.1 == t.line) = some y ∧
      (x.wayOf t.line = some (key, w) ∧ (∀ z ∈ x.victims, z.line ≠ t.line))) ∧
    (∃ (k : Slice) (id' : Nat) (unc : Bool) (t : Txn) (s : State), (s.held = none ∧ s.txn k id' = some t ∧ t.storeRead = true ∧ t.settled = false ∧ unc = true)) ∧
    (∃ (k : Slice) (s : State), s.held = none ∧
      let x := s.slice k
      x.nextVictim = none) ∧
    (∃ (k : Slice) (s : State), s.held = none ∧
      let x := s.slice k
      ∃ y : Victim, (x.nextVictim = some y ∧ s.home.storeLog2 = 0 ∧ y.clear = true)) ∧
    (∃ (k : Slice) (s : State), s.held = none ∧
      let x := s.slice k
      ∃ y : Victim, (x.nextVictim = some y ∧ y.clear = false ∧ (y.entry.coarse = true ∨ ∀ e ∈ y.entry.ptrs, (s.host e.1).inc = e.2) ∧ s.home.storeLog2 = 0)) ∧
    (∃ (k : Slice) (unc : Bool) (s : State), s.held = none ∧
      let x := s.slice k
      ∃ y, (x.nextVictim = some y ∧ y.clear = false ∧ (y.entry.coarse = true ∨ ∀ e ∈ y.entry.ptrs, (s.host e.1).inc = e.2)) ∧
      ∃ l j, (s.home.storeLog2 ≠ 0 ∧ unc = false) ∧
      s.bucket k (s.bucketOf y.line) = some l ∧
      ((y.stored = false ∨ y.changed = true ∨ isSuspect l = true) ∧ (slotEntries l).find? (fun z => z.2.1 == y.line) = none) ∧
      emptySlot l = some j) ∧
    (∃ (k : Slice) (v : Vfi) (s : State), s.held = none ∧
      let x := s.slice k
      let limit := (s.inst v.val).dirQuota / 16 + x.trims.count v.val
      ((s.inst v.val).dirQuota = 0 ∨ tget 0 x.charges v.val ≤ limit ∨ 16 ≤ x.trims.length)) ∧
    (∃ (k : Slice) (v : Vfi) (s : State), s.held = none ∧
      let x := s.slice k
      let limit := (s.inst v.val).dirQuota / 16 + x.trims.count v.val
      let scan (pos : Nat) := s.trimScan (x.ways.length + s.mem.lines.length + 1) k v.val pos
      ∃ (pos : Nat) (line : Nat), ((s.inst v.val).dirQuota ≠ 0 ∧ limit < tget 0 x.charges v.val ∧ x.trims.length < 16 ∧ (scan x.trimPos <|> scan 0) = some (pos, line))) ∧
    (∃ (i : Fin 1024) (s : State), (s.held = none ∧ s.place i = none)) ∧
    (∃ (k : Slice) (i : Fin 1024) (p : Placement) (s : State), s.held = none ∧
      let x := s.slice k
      (s.place i = some p ∧ (p.moving = false ∨ p.stopping ≠ none ∨ p.depth ≤ x.inMove i))) ∧
    (∃ (k : Slice) (i : Fin 1024) (p : Placement) (s : State), s.held = none ∧
      let x := s.slice k
      (s.place i = some p ∧ p.moving = true ∧ p.stopping = none ∧ x.inMove i < p.depth) ∧
      ∃ y, x.skipped.find? (fun y => y.1 == i.val) = some y) ∧
    (∃ (k : Slice) (i : Fin 1024) (p : Placement) (s : State), s.held = none ∧
      let x := s.slice k
      let c := tget 0 x.cursors i
      (s.place i = some p ∧ p.moving = true ∧ p.stopping = none ∧ x.inMove i < p.depth ∧ (∀ y ∈ x.skipped, y.1 ≠ i.val) ∧ c < p.blocks)) ∧
    (∃ (k : Slice) (i : Fin 1024) (p : Placement) (s : State), s.held = none ∧
      let x := s.slice k
      let c := tget 0 x.cursors i
      (s.place i = some p ∧ p.moving = true ∧ p.stopping = none ∧ x.inMove i < p.depth ∧ (∀ y ∈ x.skipped, y.1 ≠ i.val) ∧ p.blocks ≤ c)) :=
  ⟨⟨0, 3, homeUp, by decide +kernel⟩,
   ⟨0, 3, txn0, homeUp.setSlice 0 { running := true, txns := [txn0] }, by decide +kernel⟩,
   ⟨0, 3, false, { txn0 with storeRead := true }, storeUp, by decide +kernel, bucketUp, by decide +kernel, bucketUp_eq, by decide +kernel⟩,
   ⟨0, 3, false, { txn0 with storeRead := true }, storeFull, by decide +kernel, bucketFull, by decide +kernel, bucketFull_eq, slotFull, 5, { line := 0, entry := {} }, slotFull_eq, by decide +kernel⟩,
   ⟨0, 3, true, { txn0 with storeRead := true }, ({ homeUp with home := { homeUp.home with storeBase := 0x100000000, storeLog2 := 20 } }).setSlice 0 { running := true, txns := [{ txn0 with storeRead := true }] }, by decide +kernel⟩,
   ⟨0, homeUp, by decide +kernel, by decide +kernel⟩,
   ⟨0, homeUp.setSlice 0 { running := true, victims := [{ line := 0, entry := {}, clear := true }] }, by decide +kernel, { line := 0, entry := {}, clear := true }, by decide +kernel⟩,
   ⟨0, homeUp.setSlice 0 { running := true, victims := [{ line := 0, entry := { state := 2, ptrs := [(7, 3)] } }] }, by decide +kernel, { line := 0, entry := { state := 2, ptrs := [(7, 3)] } }, by decide +kernel⟩,
   ⟨0, false, victimUp, by decide +kernel, { line := 0, entry := { state := 2, ptrs := [(7, 3)] } }, by decide +kernel, bucketVic, (emptySlot bucketVic).get (by decide +kernel), by decide +kernel, bucketVic_eq, by decide +kernel, (Option.some_get _).symm⟩,
   ⟨0, 5, ({ homeUp with home := { homeUp.home with storeBase := 0x100000000, storeLog2 := 20 } }).setSlice 0 { running := true, txns := [{ txn0 with storeRead := true }] }, by decide +kernel, by decide +kernel⟩,
   ⟨0, 5, (homeUp.setInst 5 { dirQuota := 16 }).setSlice 0 { running := true, ways := [(5, some { line := 0, entry := { state := 2, ptrs := [(7, 3)], charge := 5 } })], charges := [(5, 2)] }, by decide +kernel, 5, 0, by decide +kernel⟩,
   ⟨1, homeUp, by decide +kernel⟩,
   ⟨0, 0, { base := 0, n := 30, target := { port := 8 }, moving := true, newTarget := { port := 9 }, depth := 2 }, (homeUp.setPlace 0 (some { base := 0, n := 30, target := { port := 8 }, moving := true, newTarget := { port := 9 }, depth := 2 })).setSlice 0 { running := true, txns := [{ txn0 with kind := .move 0 }, { txn0 with id := 4, line := 16, kind := .move 0 }] }, by decide +kernel, by decide +kernel⟩,
   ⟨0, 0, { base := 0, n := 30, target := { port := 8 }, moving := true, newTarget := { port := 9 }, depth := 2 }, (homeUp.setPlace 0 (some { base := 0, n := 30, target := { port := 8 }, moving := true, newTarget := { port := 9 }, depth := 2 })).setSlice 0 { running := true, skipped := [(0, 7)] }, by decide +kernel, by decide +kernel, (0, 7), by decide +kernel⟩,
   ⟨0, 0, { base := 0, n := 30, target := { port := 8 }, moving := true, newTarget := { port := 9 }, depth := 2 }, homeUp.setPlace 0 (some { base := 0, n := 30, target := { port := 8 }, moving := true, newTarget := { port := 9 }, depth := 2 }), by decide +kernel, by decide +kernel⟩,
   ⟨0, 0, { base := 0, n := 30, target := { port := 8 }, moving := true, newTarget := { port := 9 }, depth := 2 }, (homeUp.setPlace 0 (some { base := 0, n := 30, target := { port := 8 }, moving := true, newTarget := { port := 9 }, depth := 2 })).setSlice 0 { running := true, cursors := [(0, 1048576)] }, by decide +kernel, by decide +kernel⟩⟩

/-- Witnesses of the hypotheses of `ZeroFillMessages`. -/
theorem witness_ZeroFillMessages :
    (∃ (s : State), (s.held = none ∧ (∀ y ∈ s.home.slices, y.2.zeroing = []))) ∧
    (∃ (k j : Slice) (page : Page) (z : Zeroing) (s : State), s.held = none ∧
      let g := page
      let unheard (y : Nat × SliceSt) : Bool :=
        y.1 != k.val && y.2.zeroing.any fun z => z.page == g && z.initiated && !z.heard.contains k.val
      ∃ y : SliceSt, (s.home.slices.find? unheard = some (j.val, y) ∧ s.zeroEntry k g = none) ∧
      (∀ i p, s.placeOf (g * 64) = some (i, p) → s.bitmapBit p g = true)) ∧
    (∃ (k j : Slice) (page : Page) (z : Zeroing) (s : State), s.held = none ∧
      let g := page
      let unheard (y : Nat × SliceSt) : Bool :=
        y.1 != k.val && y.2.zeroing.any fun z => z.page == g && z.initiated && !z.heard.contains k.val
      ∃ (y : SliceSt) (i : Nat) (p : Placement), (s.home.slices.find? unheard = some (j.val, y) ∧ s.zeroEntry k g = none ∧ s.placeOf (g * 64) = some (i, p) ∧ s.bitmapBit p g = false)) ∧
    (∃ (k : Slice) (page : Page) (s : State), s.held = none ∧
      let g := page
      s.zeroEntry k g = none) ∧
    (∃ (k j : Slice) (page : Page) (z : Zeroing) (s : State), s.held = none ∧
      let g := page
      (s.zeroEntry k g = some z ∧ (z.initiated = false ∨ j.val ∉ z.replied))) ∧
    (∃ (k j : Slice) (page : Page) (z : Zeroing) (s : State), s.held = none ∧
      let g := page
      (s.zeroEntry k g = some z ∧ z.initiated = true ∧ j.val ∈ z.replied ∧ z.answered.length ≠ 14)) ∧
    (∃ (page : Page) (s : State), s.held = none ∧
      let g := page
      ∃ (i : Nat) (p : Placement), (s.placeOf (g * 64) = some (i, p) ∧ s.bitmapBit p g = false)) ∧
    (∃ (page : Page) (s : State), s.held = none ∧
      let g := page
      ∃ (i : Nat) (p : Placement), (s.placeOf (g * 64) = some (i, p) ∧ s.bitmapBit p g = true)) ∧
    (∃ (s : State), s.held = none) ∧
    (∃ (k : Slice) (page : Page) (s : State), s.held = none ∧
      ∃ page : Nat, ∃ l, l ∈ pageLines k page) :=
  ⟨⟨homeUp, by decide +kernel⟩,
   ⟨2, 0, 5, { page := 5, initiated := true, owed := [] }, { up with home := { slices := [(0, { running := true, zeroing := [{ page := 5, initiated := true, owed := [] }] })] } }, by decide +kernel, { running := true, zeroing := [{ page := 5, initiated := true, owed := [] }] }, by decide +kernel, fun i p h => absurd h (by rw [show State.placeOf _ _ = none from by decide +kernel]; exact nofun)⟩,
   ⟨2, 0, 5, { page := 5, initiated := true, owed := [] }, (homeUp.setPlace 0 (some { base := 0, n := 30, target := { port := 8 }, zeroFill := true })).setSlice 0 { running := true, zeroing := [{ page := 5, initiated := true, owed := [] }] }, by decide +kernel, { running := true, zeroing := [{ page := 5, initiated := true, owed := [] }] }, 0, { base := 0, n := 30, target := { port := 8 }, zeroFill := true }, by decide +kernel⟩,
   ⟨0, 5, homeUp, by decide +kernel, by decide +kernel⟩,
   ⟨0, 2, 5, { page := 5, initiated := true, owed := [] }, homeUp.setSlice 0 { running := true, zeroing := [{ page := 5, initiated := true, owed := [] }] }, by decide +kernel, by decide +kernel⟩,
   ⟨0, 2, 5, { page := 5, initiated := true, owed := [], replied := [2] }, homeUp.setSlice 0 { running := true, zeroing := [{ page := 5, initiated := true, owed := [], replied := [2] }] }, by decide +kernel, by decide +kernel⟩,
   ⟨5, homeUp.setPlace 0 (some { base := 0, n := 30, target := { port := 8 }, zeroFill := true }), by decide +kernel, 0, { base := 0, n := 30, target := { port := 8 }, zeroFill := true }, by decide +kernel⟩,
   ⟨5, (homeUp.setPlace 0 (some { base := 0, n := 30, target := { port := 8 }, zeroFill := true })).fillArea 0 32768 true, by decide +kernel, 0, { base := 0, n := 30, target := { port := 8 }, zeroFill := true }, by decide +kernel⟩,
   ⟨homeUp, by decide +kernel⟩,
   ⟨2, 5, homeUp, by decide +kernel, 5, ((pageLines 2 5).headD 0), by decide +kernel⟩⟩

/-- Witnesses of the hypotheses of `CoreSlots`. -/
theorem witness_CoreSlots :
    (∃ (s : State), (s.held = none ∧ s.glb.coreRun = false)) ∧
    (∃ (t : Tile) (s : State), (s.held = none ∧ s.tileExists t = false)) ∧
    (∃ (t : Tile) (s : State), s.held = none ∧
      let x := s.swcTile t
      let runs := s.glb.coreRun = true ∧ s.tileExists t = true ∧ x.asks = [] ∧ x.stage2 = []
      (runs ∧ x.voq = [] ∧ x.assigned = [] ∧ s.anyStop t = false ∧ (∀ i, i < 16 → s.portOpen t i = true → s.creditsShut (16 * t + i) = false))) ∧
    (∃ (t : Tile) (a : Meeting) (c : Cell) (s : State), s.held = none ∧
      let x := s.swcTile t
      let runs := s.glb.coreRun = true ∧ s.tileExists t = true ∧ x.asks = [] ∧ x.stage2 = []
      (runs ∧ x.voq = [c] ∧ x.assigned = [a] ∧ a.slot = s.slot ∧ a.cells = [c.name] ∧ s.overAge t c = false ∧ x.quarantined c.place = false)) :=
  ⟨⟨{ up with glb := { up.glb with coreRun := false } }, by decide +kernel⟩,
   ⟨40, { up with variant := .k512B }, by decide +kernel⟩,
   ⟨1, up, by decide +kernel, by decide +kernel⟩,
   ⟨1, { slot := 160000, peer := 5, tiles := [], cells := [cell0.name] }, cell0, up.setSwcTile 1 { voq := [cell0], assigned := [{ slot := 160000, peer := 5, tiles := [], cells := [cell0.name] }] }, by decide +kernel, by decide +kernel⟩⟩

/-- Witnesses of the hypotheses of `CellsArriveInOrder`. -/
theorem witness_CellsArriveInOrder :
    (∃ (st2 : Bool) (src dst : Tile) (f : Flight) (s : State), s.held = none ∧
      let here (f : Flight) : Bool := f.stage2 == st2 && f.src == src.val && f.dst == dst.val
      s.swc.flights.find? here = none) ∧
    (∃ (st2 : Bool) (src dst : Tile) (fault : CellFault) (f : Flight) (s : State), s.held = none ∧
      let here (f : Flight) : Bool := f.stage2 == st2 && f.src == src.val && f.dst == dst.val
      (s.swc.flights.find? here = some f ∧ st2 = false ∧ fault ≠ .headerUncorrectable)) ∧
    (∃ (st2 : Bool) (src dst : Tile) (fault : CellFault) (f : Flight) (s : State), s.held = none ∧
      let here (f : Flight) : Bool := f.stage2 == st2 && f.src == src.val && f.dst == dst.val
      (s.swc.flights.find? here = some f ∧ st2 = true ∧ fault ≠ .headerUncorrectable)) ∧
    (∃ (st2 : Bool) (src dst : Tile) (fault : CellFault) (f : Flight) (s : State), s.held = none ∧
      let here (f : Flight) : Bool := f.stage2 == st2 && f.src == src.val && f.dst == dst.val
      (s.swc.flights.find? here = some f ∧ fault = .headerUncorrectable)) ∧
    (∃ (dst : Tile) (c : Cell) (s : State), s.held = none ∧
      let x := s.swcTile dst
      let d := (c.seq + 65536 - tget 0 x.expect c.srcTile) % 65536
      32768 ≤ d) ∧
    (∃ (dst : Tile) (c : Cell) (s : State), s.held = none ∧
      let x := s.swcTile dst
      let d := (c.seq + 65536 - tget 0 x.expect c.srcTile) % 65536
      (0 < d ∧ d < 32768 ∧ (∀ y ∈ x.reseq, y.2.srcTile = c.srcTile → y.2.seq ≠ tget 0 x.expect c.srcTile))) ∧
    (∃ (dst : Tile) (c : Cell) (s : State), s.held = none ∧
      let x := s.swcTile dst
      let d := (c.seq + 65536 - tget 0 x.expect c.srcTile) % 65536
      let cur := if c.dstOff = 16 then 0 else (s.port (16 * dst + c.dstOff)).gen % 256
      (d = 0 ∧ c.seq < 65536 ∧ tget 0 x.expect c.srcTile < 65536 ∧ x.reseq = [] ∧ c.lgen = cur ∧ c.first = true ∧ tget none x.openOut c.dstOff = none ∧ (∀ y ∈ x.egress, y.slotIn = s.slot → y.srcTile = c.srcTile))) ∧
    (∃ (src dst : Tile) (s : State), s.held = none ∧
      let x := s.swcTile dst
      (∀ y ∈ x.reseq, y.2.srcTile = src.val → s.slot < y.1 + 128)) ∧
    (∃ (src dst : Tile) (c : Cell) (s : State), s.held = none ∧
      let x := s.swcTile dst
      let e := tget 0 x.expect src
      ∃ since : Nat, (x.reseq = [(since, c)] ∧ c.srcTile = src.val ∧ since + 128 ≤ s.slot ∧ c.seq ≠ e ∧ s.pairCell dst src e = none ∧ c.seq ≠ (e + 1) % 65536)) ∧
    (∃ (src dst : Tile) (c : Cell) (s : State), s.held = none ∧
      let x := s.swcTile dst
      let e := tget 0 x.expect src
      ∃ since : Nat, (x.reseq = [(since, c)] ∧ c.srcTile = src.val ∧ since + 128 ≤ s.slot ∧ c.seq ≠ e) ∧
      ∃ y : Cell, s.pairCell dst src e = some y) :=
  ⟨⟨false, 1, 0, { stage2 := false, src := 1, dst := 0, cell := cell0, at16 := 1590000 }, up, by decide +kernel, by decide +kernel⟩,
   ⟨false, 1, 0, .none, { stage2 := false, src := 1, dst := 0, cell := cell0, at16 := 1590000 }, (({ up with swc := { up.swc with flights := [{ stage2 := false, src := 1, dst := 0, cell := cell0, at16 := 1590000 }] } }).setSwcTile 1 { places := [(0, some { held := true, takenAt := 90000 })], freeCount := 16383, heldCount := 1 }), by decide +kernel, by decide +kernel⟩,
   ⟨true, 1, 0, .none, { stage2 := true, src := 1, dst := 0, cell := cell0, at16 := 1590000 }, (({ up with swc := { up.swc with flights := [{ stage2 := true, src := 1, dst := 0, cell := cell0, at16 := 1590000 }] } }).setSwcTile 1 { places := [(0, some { held := true, takenAt := 90000 })], freeCount := 16383, heldCount := 1 }), by decide +kernel, by decide +kernel⟩,
   ⟨false, 1, 0, .headerUncorrectable, { stage2 := false, src := 1, dst := 0, cell := cell0, at16 := 1590000 }, (({ up with swc := { up.swc with flights := [{ stage2 := false, src := 1, dst := 0, cell := cell0, at16 := 1590000 }] } }).setSwcTile 1 { places := [(0, some { held := true, takenAt := 90000 })], freeCount := 16383, heldCount := 1 }), by decide +kernel, by decide +kernel⟩,
   ⟨0, { cell0 with seq := 32768 }, up, by decide +kernel, by decide +kernel⟩,
   ⟨0, { cell0 with seq := 32767 }, up, by decide +kernel, by decide +kernel⟩,
   ⟨0, cell0, up, by decide +kernel, by decide +kernel⟩,
   ⟨1, 0, up, by decide +kernel, by decide +kernel⟩,
   ⟨1, 0, { cell0 with seq := 5 }, up.setSwcTile 0 { reseq := [(159872, { cell0 with seq := 5 })] }, by decide +kernel, 159872, by decide +kernel⟩,
   ⟨1, 0, { cell0 with seq := 5 }, ({ up with swc := { up.swc with lost := [cell0] } }).setSwcTile 0 { reseq := [(159872, { cell0 with seq := 5 })] }, by decide +kernel, 159872, by decide +kernel, cell0, by decide +kernel⟩⟩

/-- Witnesses of the hypotheses of `HeadsAgeAndPlacesAreAudited`. -/
theorem witness_HeadsAgeAndPlacesAreAudited :
    (∃ (t d : Tile) (o : Fin 17) (k : Fin 3) (c : Cell) (s : State), s.held = none ∧
      let x := s.swcTile t
      let inVoq (c : Cell) : Bool := c.dstTile == d.val && c.dstOff == o.val && c.cls == k.val
      x.voq.find? inVoq = none) ∧
    (∃ (t d : Tile) (o : Fin 17) (k : Fin 3) (c : Cell) (s : State), s.held = none ∧
      let x := s.swcTile t
      let inVoq (c : Cell) : Bool := c.dstTile == d.val && c.dstOff == o.val && c.cls == k.val
      (x.voq.find? inVoq = some c ∧ s.overAge t c = false)) ∧
    (∃ (t d : Tile) (o : Fin 17) (k : Fin 3) (c : Cell) (s : State), s.held = none ∧
      let x := s.swcTile t
      let inVoq (c : Cell) : Bool := c.dstTile == d.val && c.dstOff == o.val && c.cls == k.val
      (x.voq.find? inVoq = some c ∧ s.overAge t c = true ∧ c.first = true)) ∧
    (∃ (t d : Tile) (o : Fin 17) (k : Fin 3) (c : Cell) (s : State), s.held = none ∧
      let x := s.swcTile t
      let inVoq (c : Cell) : Bool := c.dstTile == d.val && c.dstOff == o.val && c.cls == k.val
      (x.voq.find? inVoq = some c ∧ s.overAge t c = true ∧ c.first = false)) ∧
    (∃ (t : Tile) (o : Fin 17) (k : Fin 3) (v : Vfi) (c : Cell) (s : State), s.held = none ∧
      let x := s.swcTile t
      let inEgress (c : Cell) : Bool := c.dstOff == o.val && c.cls == k.val && (k.val != 0 || c.vfi == v.val)
      x.egress.find? inEgress = none) ∧
    (∃ (t : Tile) (o : Fin 17) (k : Fin 3) (v : Vfi) (c : Cell) (s : State), s.held = none ∧
      let x := s.swcTile t
      let inEgress (c : Cell) : Bool := c.dstOff == o.val && c.cls == k.val && (k.val != 0 || c.vfi == v.val)
      (x.egress.find? inEgress = some c ∧ s.overAge t c = false)) ∧
    (∃ (t : Tile) (o : Fin 17) (k : Fin 3) (v : Vfi) (c : Cell) (s : State), s.held = none ∧
      let x := s.swcTile t
      let inEgress (c : Cell) : Bool := c.dstOff == o.val && c.cls == k.val && (k.val != 0 || c.vfi == v.val)
      (x.egress.find? inEgress = some c ∧ s.overAge t c = true)) ∧
    (∃ (s : State), s.held = none) ∧
    (∃ (t : Tile) (s : State), (s.held = none ∧ (s.glb.coreRun = false ∨ s.tileExists t = false))) ∧
    (∃ (t : Tile) (s : State), s.held = none ∧
      let x := s.swcTile t
      let runs := s.glb.coreRun = true ∧ s.tileExists t = true
      (runs ∧ tget none x.places x.auditPtr = none ∧ x.auditPtr + 1 < 16384)) ∧
    (∃ (t : Tile) (pl : Place) (s : State), s.held = none ∧
      let x := s.swcTile t
      let runs := s.glb.coreRun = true ∧ s.tileExists t = true
      (runs ∧ tget none x.places x.auditPtr = some pl ∧ pl.held = true ∧ x.auditPtr + 1 < 16384 ∧ s.ft - pl.takenAt ≤ 2 ^ x.ageLog2 + 20480)) ∧
    (∃ (t : Tile) (pl : Place) (s : State), s.held = none ∧
      let x := s.swcTile t
      let runs := s.glb.coreRun = true ∧ s.tileExists t = true
      (runs ∧ tget none x.places x.auditPtr = some pl ∧ pl.held = true ∧ x.auditPtr + 1 < 16384 ∧ 2 ^ x.ageLog2 + 20480 < s.ft - pl.takenAt)) ∧
    (∃ (t : Tile) (pl : Place) (s : State), s.held = none ∧
      let x := s.swcTile t
      let runs := s.glb.coreRun = true ∧ s.tileExists t = true
      (runs ∧ tget none x.places x.auditPtr = some pl ∧ pl.held = false ∧ pl.qLap < x.lap ∧ x.auditPtr + 1 < 16384)) ∧
    (∃ (t : Tile) (s : State), s.held = none ∧
      let x := s.swcTile t
      let runs := s.glb.coreRun = true ∧ s.tileExists t = true
      (runs ∧ tget none x.places x.auditPtr = none ∧ x.auditPtr = 16383 ∧ x.freeCount + x.heldCount + x.quarCount = 16384)) ∧
    (∃ (t : Tile) (s : State), s.held = none ∧
      let x := s.swcTile t
      let runs := s.glb.coreRun = true ∧ s.tileExists t = true
      (runs ∧ tget none x.places x.auditPtr = none ∧ x.auditPtr = 16383 ∧ x.freeCount + x.heldCount + x.quarCount ≠ 16384)) :=
  ⟨⟨1, 0, 16, 0, cell0, up, by decide +kernel, by decide +kernel⟩,
   ⟨1, 0, 16, 0, cell0, up.setSwcTile 1 { voq := [cell0] }, by decide +kernel, by decide +kernel⟩,
   ⟨1, 0, 16, 0, { cell0 with stamp := 1 }, ({ up with clock := 200000000 }).setSwcTile 1 { voq := [{ cell0 with stamp := 1 }] }, by decide +kernel, by decide +kernel⟩,
   ⟨1, 0, 16, 0, { cell0 with stamp := 1, first := false }, ({ up with clock := 200000000 }).setSwcTile 1 { voq := [{ cell0 with stamp := 1, first := false }] }, by decide +kernel, by decide +kernel⟩,
   ⟨1, 16, 0, 0, cell0, up, by decide +kernel, by decide +kernel⟩,
   ⟨1, 16, 0, 0, cell0, up.setSwcTile 1 { egress := [cell0] }, by decide +kernel, by decide +kernel⟩,
   ⟨1, 16, 0, 0, { cell0 with stamp := 1 }, ({ up with clock := 200000000 }).setSwcTile 1 { egress := [{ cell0 with stamp := 1 }] }, by decide +kernel, by decide +kernel⟩,
   ⟨up, by decide +kernel⟩,
   ⟨1, { up with glb := { up.glb with coreRun := false } }, by decide +kernel⟩,
   ⟨1, up.setSwcTile 1 { auditPtr := 16382 }, by decide +kernel, by decide +kernel⟩,
   ⟨1, { held := true, takenAt := 0 }, up.setSwcTile 1 { places := [(0, some { held := true, takenAt := 0 })] }, by decide +kernel, by decide +kernel⟩,
   ⟨1, { held := true, takenAt := 0 }, ({ up with clock := 200000000 }).setSwcTile 1 { places := [(0, some { held := true, takenAt := 0 })] }, by decide +kernel, by decide +kernel⟩,
   ⟨1, { held := false, takenAt := 0 }, up.setSwcTile 1 { lap := 1, quarCount := 1, freeCount := 16383, places := [(0, some { held := false, takenAt := 0 })] }, by decide +kernel, by decide +kernel⟩,
   ⟨1, up.setSwcTile 1 { auditPtr := 16383 }, by decide +kernel, by decide +kernel⟩,
   ⟨1, up.setSwcTile 1 { auditPtr := 16383, freeCount := 16383 }, by decide +kernel, by decide +kernel⟩⟩

/-- Witnesses of the hypotheses of `EgressAndPortStates`. -/
theorem witness_EgressAndPortStates :
    (∃ (t : Tile) (off : Fin 17) (s : State), (s.held = none ∧ s.portOpen t off = false)) ∧
    (∃ (t : Tile) (off : Fin 17) (s : State), s.held = none ∧
      let x := s.swcTile t
      (s.portOpen t off = true ∧ x.egress = [])) ∧
    (∃ (t : Tile) (off : Fin 17) (s : State), s.held = none ∧
      let x := s.swcTile t
      (tget none x.openOut off).isSome = true) ∧
    (∃ (t : Tile) (off : Fin 17) (credits : Nat) (c : Cell) (s : State), s.held = none ∧
      let x := s.swcTile t
      let alone := s.portOpen t off = true ∧ tget none x.openOut off = none ∧ x.egress = [c] ∧ c.dstOff = off.val ∧ c.cls = 1 ∧
        c.first = true ∧ s.overAge t c = false ∧ x.quarantined c.place = false ∧ s.owedFull t off c.msg = false ∧
        s.trackerFull t off c.msg = false
      (alone ∧ credits < c.left)) ∧
    (∃ (t : Tile) (off : Fin 17) (credits : Nat) (c : Cell) (s : State), s.held = none ∧
      let x := s.swcTile t
      let alone := s.portOpen t off = true ∧ tget none x.openOut off = none ∧ x.egress = [c] ∧ c.dstOff = off.val ∧ c.cls = 1 ∧
        c.first = true ∧ s.overAge t c = false ∧ x.quarantined c.place = false ∧ s.owedFull t off c.msg = false ∧
        s.trackerFull t off c.msg = false
      (alone ∧ c.left ≤ credits ∧ c.poison % 2 = 0 ∧ s.ldShut t off c.msg = false)) ∧
    (∃ (t : Tile) (off : Fin 17) (credits : Nat) (c : Cell) (s : State), s.held = none ∧
      let x := s.swcTile t
      let alone := s.portOpen t off = true ∧ tget none x.openOut off = none ∧ x.egress = [c] ∧ c.dstOff = off.val ∧ c.cls = 1 ∧
        c.first = true ∧ s.overAge t c = false ∧ x.quarantined c.place = false ∧ s.owedFull t off c.msg = false ∧
        s.trackerFull t off c.msg = false
      (alone ∧ c.left ≤ credits ∧ (c.poison % 2 = 1 ∨ s.ldShut t off c.msg = true))) ∧
    (∃ (p : Port) (s : State), (s.held = none ∧ (s.port p).state = .up)) ∧
    (∃ (p : Port) (s : State), (s.held = none ∧ (s.port p).state ≠ .up)) :=
  ⟨⟨1, 8, up, by decide +kernel⟩,
   ⟨1, 8, up.setPort 24 { cfg := { en := true }, state := .up, width := 2, rate := 6, mode := 2, active := true }, by decide +kernel, by decide +kernel⟩,
   ⟨1, 8, (up.setPort 24 { cfg := { en := true }, state := .up, width := 2, rate := 6, mode := 2, active := true }).setSwcTile 1 { openOut := [(8, some { cell := cell0, left := 1, poison := false })] }, by decide +kernel, by decide +kernel⟩,
   ⟨1, 8, 0, { cell0 with cls := 1, dstOff := 8, msg := { read0 with kind := .ioCfg } }, (up.setPort 24 { cfg := { en := true }, state := .up, width := 2, rate := 6, mode := 2, active := true }).setSwcTile 1 { egress := [{ cell0 with cls := 1, dstOff := 8, msg := { read0 with kind := .ioCfg } }] }, by decide +kernel, by decide +kernel⟩,
   ⟨1, 8, 1, { cell0 with cls := 1, dstOff := 8, msg := { read0 with kind := .ioCfg } }, (up.setPort 24 { cfg := { en := true }, state := .up, width := 2, rate := 6, mode := 2, active := true }).setSwcTile 1 { egress := [{ cell0 with cls := 1, dstOff := 8, msg := { read0 with kind := .ioCfg } }] }, by decide +kernel, by decide +kernel⟩,
   ⟨1, 8, 1, { cell0 with cls := 1, poison := 1, dstOff := 8, msg := { read0 with kind := .ioCfg } }, (up.setPort 24 { cfg := { en := true }, state := .up, width := 2, rate := 6, mode := 2, active := true }).setSwcTile 1 { egress := [{ cell0 with cls := 1, poison := 1, dstOff := 8, msg := { read0 with kind := .ioCfg } }] }, by decide +kernel, by decide +kernel⟩,
   ⟨24, up.setPort 24 { cfg := { en := true }, state := .up, width := 2, rate := 6, mode := 2, active := true }, by decide +kernel⟩,
   ⟨24, up.setSwcTile 1 { voq := [{ cell0 with dstTile := 1, dstOff := 8 }] }, by decide +kernel⟩⟩

/-- Witnesses of the hypotheses of `MessagesBecomeCells`. -/
theorem witness_MessagesBecomeCells :
    (∃ (s : State) (src srcOff : Nat) (m : Msg), 
      let x := s.swcTile src
      let w := s.slotsToCome src srcOff m
      let n := msgCells m - w
      (twf none x.places = true ∧ n ≤ x.freeCount)) ∧
    (∃ (s : State) (src srcOff : Nat) (m : Msg), 
      let x := s.swcTile src
      let w := s.slotsToCome src srcOff m
      let n := msgCells m - w
      (twf none x.places = true ∧ n ≤ x.freeCount) ∧
      ∃ o : OpenIn, (w ≠ 0 ∧ (s.port (16 * src + srcOff)).openMsg = some o)) :=
  ⟨⟨up, 1, 8, read0, by decide +kernel⟩,
   ⟨up.setPort 24 { cfg := { en := true }, state := .up, openMsg := some { stamp := 1599000, slots := 1 } }, 1, 8, { kind := .memWr, reqPort := 16, stamp := 1599000 }, by decide +kernel, { stamp := 1599000, slots := 1 }, by decide +kernel⟩⟩

/-- Witnesses of the hypotheses of `IngressRoutesMessages`. -/
theorem witness_IngressRoutesMessages :
    (∃ (s : State), (s.held = none ∧ s.glb.coreRun = false)) ∧
    (∃ (p : Port) (s : State), s.held = none ∧
      let t := p.val / 16
      (s.portOpen t (p.val % 16) = false ∨ s.creditsShut p = true)) ∧
    (∃ (p : Port) (m0 : Msg) (s : State), s.held = none ∧
      let t := p.val / 16
      let m := s.stampIn p m0
      let takes := s.glb.coreRun = true ∧ s.portOpen t (p.val % 16) = true ∧ s.creditsShut p = false
      (takes ∧ s.ideShut p m = true)) ∧
    (∃ (p : Port) (m0 : Msg) (s : State), s.held = none ∧
      let t := p.val / 16
      let m := s.stampIn p m0
      let v := m.vfi.toNat
      let takes := s.glb.coreRun = true ∧ s.portOpen t (p.val % 16) = true ∧ s.creditsShut p = false
      let open' := takes ∧ s.ideShut p m = false ∧ (s.inst v).resetting = false
      (open' ∧ m.kind = .memSpecRd)) ∧
    (∃ (p : Port) (m0 : Msg) (s : State), s.held = none ∧
      let t := p.val / 16
      let m := s.stampIn p m0
      let v := m.vfi.toNat
      let takes := s.glb.coreRun = true ∧ s.portOpen t (p.val % 16) = true ∧ s.creditsShut p = false
      let open' := takes ∧ s.ideShut p m = false ∧ (s.inst v).resetting = false
      let request := isM2S m = true ∧ isResponse m = false ∧ m.kind ≠ .memSpecRd
      (open' ∧ request ∧ (s.port p).cfg.role = 0)) ∧
    (∃ (p : Port) (m0 : Msg) (s : State), s.held = none ∧
      let t := p.val / 16
      let m := s.stampIn p m0
      let v := m.vfi.toNat
      let takes := s.glb.coreRun = true ∧ s.portOpen t (p.val % 16) = true ∧ s.creditsShut p = false
      let open' := takes ∧ s.ideShut p m = false ∧ (s.inst v).resetting = false
      let request := isM2S m = true ∧ isResponse m = false ∧ m.kind ≠ .memSpecRd
      let host := request ∧ (s.port p).cfg.role ≠ 0
      (open' ∧ host ∧ s.windowOf v p m = none ∧ m.isFma = false)) ∧
    (∃ (p : Port) (m0 : Msg) (w : Win) (a : Nat) (s s2 : State), s.held = none ∧
      let t := p.val / 16
      let m := s.stampIn p m0
      let v := m.vfi.toNat
      let counted (s : State) : State := s.cntTile t (if msgType m = 0 then 0x14 else 0x15) (some v) (some (p.val % 16))
      let takes := s.glb.coreRun = true ∧ s.portOpen t (p.val % 16) = true ∧ s.creditsShut p = false
      let open' := takes ∧ s.ideShut p m = false ∧ (s.inst v).resetting = false
      let request := isM2S m = true ∧ isResponse m = false ∧ m.kind ≠ .memSpecRd
      let host := request ∧ (s.port p).cfg.role ≠ 0
      let m1 : Msg := { m with addr := BitVec.ofNat 64 a, isFma := true }
      (open' ∧ host ∧ s.windowOf v p m = some (w, a) ∧ (counted s).stationCheck t p m1 true = (s2, false))) ∧
    (∃ (p : Port) (m0 : Msg) (w : Win) (a : Nat) (s s2 : State), s.held = none ∧
      let t := p.val / 16
      let m := s.stampIn p m0
      let v := m.vfi.toNat
      let counted (s : State) : State := s.cntTile t (if msgType m = 0 then 0x14 else 0x15) (some v) (some (p.val % 16))
      let takes := s.glb.coreRun = true ∧ s.portOpen t (p.val % 16) = true ∧ s.creditsShut p = false
      let open' := takes ∧ s.ideShut p m = false ∧ (s.inst v).resetting = false
      let request := isM2S m = true ∧ isResponse m = false ∧ m.kind ≠ .memSpecRd
      let host := request ∧ (s.port p).cfg.role ≠ 0
      let m1 : Msg := { m with addr := BitVec.ofNat 64 a, isFma := true }
      let checked := open' ∧ host ∧ s.windowOf v p m = some (w, a) ∧ (counted s).stationCheck t p m1 true = (s2, true)
      (checked ∧ w.kind ≠ 2 ∧ w.kind ≠ 3 ∧ m.dpid = none ∧ 2 ≤ (s2.port p).mode)) ∧
    (∃ (p : Port) (m0 : Msg) (w : Win) (a : Nat) (s s2 : State), s.held = none ∧
      let t := p.val / 16
      let m := s.stampIn p m0
      let v := m.vfi.toNat
      let counted (s : State) : State := s.cntTile t (if msgType m = 0 then 0x14 else 0x15) (some v) (some (p.val % 16))
      let takes := s.glb.coreRun = true ∧ s.portOpen t (p.val % 16) = true ∧ s.creditsShut p = false
      let open' := takes ∧ s.ideShut p m = false ∧ (s.inst v).resetting = false
      let request := isM2S m = true ∧ isResponse m = false ∧ m.kind ≠ .memSpecRd
      let host := request ∧ (s.port p).cfg.role ≠ 0
      let m1 : Msg := { m with addr := BitVec.ofNat 64 a, isFma := true }
      let checked := open' ∧ host ∧ s.windowOf v p m = some (w, a) ∧ (counted s).stationCheck t p m1 true = (s2, true)
      (checked ∧ w.kind ≠ 2 ∧ w.kind ≠ 3 ∧ m.dpid = none ∧ (s2.port p).mode < 2)) ∧
    (∃ (p : Port) (m0 : Msg) (w : Win) (a : Nat) (s s2 : State), s.held = none ∧
      let t := p.val / 16
      let m := s.stampIn p m0
      let v := m.vfi.toNat
      let counted (s : State) : State := s.cntTile t (if msgType m = 0 then 0x14 else 0x15) (some v) (some (p.val % 16))
      let takes := s.glb.coreRun = true ∧ s.portOpen t (p.val % 16) = true ∧ s.creditsShut p = false
      let open' := takes ∧ s.ideShut p m = false ∧ (s.inst v).resetting = false
      let request := isM2S m = true ∧ isResponse m = false ∧ m.kind ≠ .memSpecRd
      let host := request ∧ (s.port p).cfg.role ≠ 0
      let m1 : Msg := { m with addr := BitVec.ofNat 64 a, isFma := true }
      let checked := open' ∧ host ∧ s.windowOf v p m = some (w, a) ∧ (counted s).stationCheck t p m1 true = (s2, true)
      (checked ∧ w.kind = 3 ∧ m.dpid = none)) ∧
    (∃ (p : Port) (m0 : Msg) (a : Nat) (s : State), s.held = none ∧
      let m := s.stampIn p m0
      let m1 : Msg := { m with addr := BitVec.ofNat 64 a, isFma := true }
      ((s.snoopOwed p m1 = true ∨ s.mayEnter p m1 = true ∧ (∀ h ∈ (s.port p).heldMsgs, msgType h ≠ msgType m1)))) ∧
    (∃ (p : Port) (m0 : Msg) (a : Nat) (s : State), s.held = none ∧
      let m := s.stampIn p m0
      let m1 : Msg := { m with addr := BitVec.ofNat 64 a, isFma := true }
      (s.snoopOwed p m1 = false ∧ (s.mayEnter p m1 = false ∨ (∃ h ∈ (s.port p).heldMsgs, msgType h = msgType m1)))) ∧
    (∃ (k : Slice) (m0 : Msg) (s : State), s.held = none ∧
      let tk := s.sliceTile k
      (s.poolShut tk 16 = true ∨ (s.swcTile tk).full.contains m0.vfi.toNat = true)) ∧
    (∃ (k : Slice) (m0 : Msg) (s : State), s.held = none ∧
      let tk := s.sliceTile k
      let k0 : Msg := { m0 with stamp := BitVec.ofNat 52 s.t52, home := true, dst := BitVec.ofNat 10 m0.dst.toNat }
      (s.glb.coreRun = true ∧ s.poolShut tk 16 = false ∧ (s.swcTile tk).full.contains m0.vfi.toNat = false ∧ isM2S m0 = true ∧ s.ideShut m0.dst.toNat k0 = false ∧ s.knownUp tk m0.dst.toNat = true)) ∧
    (∃ (s : State), (s.held = none ∧ s.isF = false)) :=
  ⟨⟨{ up with glb := { up.glb with coreRun := false } }, by decide +kernel⟩,
   ⟨17, hostUp, by decide +kernel, by decide +kernel⟩,
   ⟨16, read0, (hostUp.setPort 16 { cfg := { en := true, role := 1 }, state := .up, active := true, mode := 2, allow := 6, ideRequired := true }), by decide +kernel, by decide +kernel⟩,
   ⟨16, { read0 with kind := .memSpecRd }, hostUp, by decide +kernel, by decide +kernel⟩,
   ⟨8, read0, hostUp, by decide +kernel, by decide +kernel⟩,
   ⟨16, { read0 with isFma := false, addr := 0x40000000 }, hostUp, by decide +kernel, by decide +kernel⟩,
   ⟨16, read0, win0, 0, ({ hostUp with acu := {} }), ((({ hostUp with acu := {} }).cntTile 1 0x15 (some 0) (some 0)).stationCheck 1 16 { ({ hostUp with acu := {} }).stampIn 16 read0 with addr := BitVec.ofNat 64 0, isFma := true } true).1, by decide +kernel, by decide +kernel⟩,
   ⟨16, read0, win0, 0, hostUp, ((hostUp.cntTile 1 0x15 (some 0) (some 0)).stationCheck 1 16 { hostUp.stampIn 16 read0 with addr := BitVec.ofNat 64 0, isFma := true } true).1, by decide +kernel, by decide +kernel⟩,
   ⟨16, read0, win0, 0, (hostUp.setPort 16 { cfg := { en := true, role := 1 }, state := .up, active := true, mode := 1, allow := 6 }), (((hostUp.setPort 16 { cfg := { en := true, role := 1 }, state := .up, active := true, mode := 1, allow := 6 }).cntTile 1 0x15 (some 0) (some 0)).stationCheck 1 16 { (hostUp.setPort 16 { cfg := { en := true, role := 1 }, state := .up, active := true, mode := 1, allow := 6 }).stampIn 16 read0 with addr := BitVec.ofNat 64 0, isFma := true } true).1, by decide +kernel, by decide +kernel⟩,
   ⟨16, read0, { win0 with kind := 3 }, 0, (hostUp.setInst 0 { windows := [(0, BitVec.ofNat 256 ({ win0 with kind := 3 } : Win).image)] }), (((hostUp.setInst 0 { windows := [(0, BitVec.ofNat 256 ({ win0 with kind := 3 } : Win).image)] }).cntTile 1 0x15 (some 0) (some 0)).stationCheck 1 16 { (hostUp.setInst 0 { windows := [(0, BitVec.ofNat 256 ({ win0 with kind := 3 } : Win).image)] }).stampIn 16 read0 with addr := BitVec.ofNat 64 0, isFma := true } true).1, by decide +kernel, by decide +kernel⟩,
   ⟨16, read0, 0, hostUp, by decide +kernel, by decide +kernel⟩,
   ⟨16, read0, 0, (hostUp.setPort 16 { cfg := { en := true, role := 1 }, state := .up, active := true, mode := 2, allow := 0 }), by decide +kernel, by decide +kernel⟩,
   ⟨0, read0, hostUp.setSwcTile (hostUp.sliceTile 0) { inCells := 0 }, by decide +kernel, by decide +kernel⟩,
   ⟨0, { kind := .memRd, dst := 8 }, hostUp, by decide +kernel, by decide +kernel⟩,
   ⟨{ homeUp with variant := .k1024B }, by decide +kernel⟩⟩

/-- Witnesses of the hypotheses of `StreamOpcodes`. -/
theorem witness_StreamOpcodes :
    (∃ (c : Cmd) (l : Launch) (s : State), (c.target ≤ 4095 ∧ l.cmd.target ≤ 4095) ∧
      Queues opStreamOpen c s) ∧
    (∃ (c : Cmd) (l : Launch) (s : State), (c.target ≤ 4095 ∧ l.cmd.target ≤ 4095) ∧
      Queues opStreamChange c s) ∧
    (∃ (c : Cmd) (l : Launch) (s : State), (c.target ≤ 4095 ∧ l.cmd.target ≤ 4095) ∧
      Queues opStreamClose c s) ∧
    (∃ (c : Cmd) (l : Launch) (s : State), (c.target ≤ 4095 ∧ l.cmd.target ≤ 4095) ∧
      Queues opStreamMove c s) ∧
    (∃ (c : Cmd) (l : Launch) (n r : Nat) (s : State), (c.target ≤ 4095 ∧ l.cmd.target ≤ 4095) ∧
      let h := l.cmd.target
      let e := l.cmd.byte 16
      let new := s.streamFrom l.data e n s.mse.opens
      let free := (s.inst new.vfi).resetting = false ∧ s.stream h = none
      Due opStreamOpen l s ∧
      (e ≤ 3 ∧ free ∧ (s.port new.port).cfg.role = 0 ∧ s.freeSlot e = some n ∧ s.streamsOf new.vfi < (s.inst new.vfi).streamsMax ∧ s.fitRate h new new.rate = some r)) ∧
    (∃ (c : Cmd) (l : Launch) (n : Nat) (s : State), (c.target ≤ 4095 ∧ l.cmd.target ≤ 4095) ∧
      let h := l.cmd.target
      let e := l.cmd.byte 16
      let new := s.streamFrom l.data e n s.mse.opens
      Due opStreamOpen l s ∧
      (e ≤ 3 ∧ (s.stream h ≠ none ∨ (s.inst new.vfi).resetting = true))) ∧
    (∃ (c : Cmd) (l : Launch) (n : Nat) (s : State), (c.target ≤ 4095 ∧ l.cmd.target ≤ 4095) ∧
      let h := l.cmd.target
      let e := l.cmd.byte 16
      let new := s.streamFrom l.data e n s.mse.opens
      let free := (s.inst new.vfi).resetting = false ∧ s.stream h = none
      Due opStreamOpen l s ∧
      (e ≤ 3 ∧ free ∧ (s.port new.port).cfg.role ≠ 0)) ∧
    (∃ (c : Cmd) (l : Launch) (n : Nat) (s : State), (c.target ≤ 4095 ∧ l.cmd.target ≤ 4095) ∧
      let h := l.cmd.target
      let e := l.cmd.byte 16
      let new := s.streamFrom l.data e n s.mse.opens
      let free := (s.inst new.vfi).resetting = false ∧ s.stream h = none
      Due opStreamOpen l s ∧
      (e ≤ 3 ∧ free ∧ (s.port new.port).cfg.role = 0) ∧
      s.freeSlot e = none) ∧
    (∃ (c : Cmd) (l : Launch) (n : Nat) (s : State), (c.target ≤ 4095 ∧ l.cmd.target ≤ 4095) ∧
      let h := l.cmd.target
      let e := l.cmd.byte 16
      let new := s.streamFrom l.data e n s.mse.opens
      let free := (s.inst new.vfi).resetting = false ∧ s.stream h = none
      Due opStreamOpen l s ∧
      (e ≤ 3 ∧ free ∧ (s.port new.port).cfg.role = 0 ∧ s.freeSlot e = some n ∧ ((s.inst new.vfi).streamsMax ≤ s.streamsOf new.vfi ∨ s.fitRate h new new.rate = none))) ∧
    (∃ (c : Cmd) (l : Launch) (s : State), (c.target ≤ 4095 ∧ l.cmd.target ≤ 4095) ∧
      let h := l.cmd.target
      Due opStreamChange l s ∧
      s.stream h = none) ∧
    (∃ (c : Cmd) (l : Launch) (d : Stream) (s : State), (c.target ≤ 4095 ∧ l.cmd.target ≤ 4095) ∧
      let h := l.cmd.target
      let want := min 65535 (l.cmd.le 16 4)
      Due opStreamChange l s ∧
      (s.stream h = some d ∧ (want = 0 ∨ want ≤ d.rate))) ∧
    (∃ (c : Cmd) (l : Launch) (d : Stream) (r : Nat) (s : State), (c.target ≤ 4095 ∧ l.cmd.target ≤ 4095) ∧
      let h := l.cmd.target
      let want := min 65535 (l.cmd.le 16 4)
      Due opStreamChange l s ∧
      (s.stream h = some d ∧ d.rate < want ∧ s.fitRate h d want = some r)) ∧
    (∃ (c : Cmd) (l : Launch) (d : Stream) (s : State), (c.target ≤ 4095 ∧ l.cmd.target ≤ 4095) ∧
      let h := l.cmd.target
      let want := min 65535 (l.cmd.le 16 4)
      Due opStreamChange l s ∧
      (s.stream h = some d ∧ d.rate < want ∧ s.fitRate h d want = none)) ∧
    (∃ (c : Cmd) (l : Launch) (s : State), (c.target ≤ 4095 ∧ l.cmd.target ≤ 4095) ∧
      let h := l.cmd.target
      let e := l.cmd.byte 16
      Due opStreamClose l s ∧
      (e ≤ 2 ∧ s.stream h = none)) ∧
    (∃ (c : Cmd) (l : Launch) (d : Stream) (s : State), (c.target ≤ 4095 ∧ l.cmd.target ≤ 4095) ∧
      let h := l.cmd.target
      let e := l.cmd.byte 16
      Due opStreamClose l s ∧
      (e ≤ 2 ∧ s.stream h = some d ∧ d.closeAt = none)) ∧
    (∃ (c : Cmd) (l : Launch) (d : Stream) (s : State), (c.target ≤ 4095 ∧ l.cmd.target ≤ 4095) ∧
      let h := l.cmd.target
      let e := l.cmd.byte 16
      Due opStreamClose l s ∧
      (e ≤ 2 ∧ s.stream h = some d ∧ d.closeAt ≠ none)) ∧
    (∃ (c : Cmd) (l : Launch) (s : State), (c.target ≤ 4095 ∧ l.cmd.target ≤ 4095) ∧
      let h := l.cmd.target
      let e := l.cmd.byte 16
      Due opStreamMove l s ∧
      (e ≤ 3 ∧ s.stream h = none)) ∧
    (∃ (c : Cmd) (l : Launch) (d : Stream) (s : State), (c.target ≤ 4095 ∧ l.cmd.target ≤ 4095) ∧
      let h := l.cmd.target
      let e := l.cmd.byte 16
      Due opStreamMove l s ∧
      (e ≤ 3 ∧ s.stream h = some d ∧ (d.moveTo ≠ none ∨ d.closeAt ≠ none))) ∧
    (∃ (c : Cmd) (l : Launch) (d : Stream) (s : State), (c.target ≤ 4095 ∧ l.cmd.target ≤ 4095) ∧
      let h := l.cmd.target
      let e := l.cmd.byte 16
      let rests := d.moveTo = none ∧ d.closeAt = none
      Due opStreamMove l s ∧
      (e ≤ 3 ∧ s.stream h = some d ∧ rests ∧ d.engine = e)) ∧
    (∃ (c : Cmd) (l : Launch) (d : Stream) (n : Nat) (s : State), (c.target ≤ 4095 ∧ l.cmd.target ≤ 4095) ∧
      let h := l.cmd.target
      let e := l.cmd.byte 16
      let rests := d.moveTo = none ∧ d.closeAt = none
      Due opStreamMove l s ∧
      (e ≤ 3 ∧ s.stream h = some d ∧ rests ∧ d.engine ≠ e ∧ s.freeSlot e = some n ∧ s.engineFits h e d.rate = true)) ∧
    (∃ (c : Cmd) (l : Launch) (d : Stream) (s : State), (c.target ≤ 4095 ∧ l.cmd.target ≤ 4095) ∧
      let h := l.cmd.target
      let e := l.cmd.byte 16
      let rests := d.moveTo = none ∧ d.closeAt = none
      Due opStreamMove l s ∧
      (e ≤ 3 ∧ s.stream h = some d ∧ rests ∧ d.engine ≠ e) ∧
      (s.freeSlot e = none ∨ s.engineFits h e d.rate = false)) ∧
    (∃ (c : Cmd) (l : Launch) (d : Stream) (s : State), (c.target ≤ 4095 ∧ l.cmd.target ≤ 4095) ∧
      let g := c.target
      Instant opStreamResume c s ∧
      s.stream g = some d) ∧
    (∃ (c : Cmd) (l : Launch) (s : State), (c.target ≤ 4095 ∧ l.cmd.target ≤ 4095) ∧
      let g := c.target
      Instant opStreamResume c s ∧
      s.stream g = none) ∧
    (∃ (c : Cmd) (l : Launch) (s : State), (c.target ≤ 4095 ∧ l.cmd.target ≤ 4095) ∧
      let g := c.target
      Instant opStreamQuery c s ∧
      (s.stream g = none ∧ c.byte 16 ≤ 5)) ∧
    (∃ (c : Cmd) (l : Launch) (d : Stream) (s : State), (c.target ≤ 4095 ∧ l.cmd.target ≤ 4095) ∧
      let g := c.target
      ∃ v : Nat, Instant opStreamQuery c s ∧
      (s.stream g = some d ∧ [d.word g, d.pos % 2 ^ 32, d.ack % 2 ^ 32, min (2 ^ 32 - 1) (d.occupancy / 1024), min (2 ^ 32 - 1) d.lost,
       d.runway32][c.byte 16]? = some v)) ∧
    (∃ (c : Cmd) (l : Launch) (s : State), (c.target ≤ 4095 ∧ l.cmd.target ≤ 4095) ∧
      let bases := c.le 16 8 % 2 ^ 34 = 0 ∧ c.le 16 8 + 2 ^ 34 ≤ 2 ^ 56 ∧ c.le 24 8 < 2 ^ 56
      Instant opMseSetup c s ∧
      (s.streamList = [] ∧ bases)) ∧
    (∃ (c : Cmd) (l : Launch) (s : State), (c.target ≤ 4095 ∧ l.cmd.target ≤ 4095) ∧
      let bases := c.le 16 8 % 2 ^ 34 = 0 ∧ c.le 16 8 + 2 ^ 34 ≤ 2 ^ 56 ∧ c.le 24 8 < 2 ^ 56
      Instant opMseSetup c s ∧
      (s.streamList ≠ [] ∧ bases)) :=
  ⟨⟨cmd [(16, 1, 0)], due 0x60 [], streamUp stream0, by decide +kernel, queuesOf (by decide +kernel)⟩,
   ⟨cmd [(16, 1, 0)], due 0x60 [], streamUp stream0, by decide +kernel, queuesOf (by decide +kernel)⟩,
   ⟨cmd [(16, 1, 0)], due 0x60 [], streamUp stream0, by decide +kernel, queuesOf (by decide +kernel)⟩,
   ⟨cmd [(16, 1, 0)], due 0x60 [], streamUp stream0, by decide +kernel, queuesOf (by decide +kernel)⟩,
   ⟨cmd [(16, 1, 0)], { due 0x60 [(16, 1, 0)] with data := streamData }, 0, 400, withDue ({ due 0x60 [(16, 1, 0)] with data := streamData }) (hostUp), by decide +kernel, dueOf (by decide +kernel), by decide +kernel⟩,
   ⟨cmd [(16, 1, 0)], { due 0x60 [(16, 1, 0)] with data := streamData }, 0, withDue ({ due 0x60 [(16, 1, 0)] with data := streamData }) (streamUp stream0), by decide +kernel, dueOf (by decide +kernel), by decide +kernel⟩,
   ⟨cmd [(16, 1, 0)], { due 0x60 [(16, 1, 0)] with data := streamData }, 0, withDue ({ due 0x60 [(16, 1, 0)] with data := streamData }) ((hostUp.setPort 8 { cfg := { en := true, role := 1 } })), by decide +kernel, dueOf (by decide +kernel), by decide +kernel⟩,
   ⟨cmd [(16, 1, 0)], { due 0x60 [(4, 4, 2000), (16, 1, 1)] with data := streamData }, 0, withDue ({ due 0x60 [(4, 4, 2000), (16, 1, 1)] with data := streamData }) (fullSlots), by decide +kernel, dueOf (by decide +kernel), by decide +kernel, fullSlots_due (by decide +kernel)⟩,
   ⟨cmd [(16, 1, 0)], { due 0x60 [(16, 1, 0)] with data := streamData }, 0, withDue ({ due 0x60 [(16, 1, 0)] with data := streamData }) ((hostUp.setInst 0 { streamsMax := 0 })), by decide +kernel, dueOf (by decide +kernel), by decide +kernel⟩,
   ⟨cmd [(16, 1, 0)], due 0x61 [(16, 4, 100)], withDue (due 0x61 [(16, 4, 100)]) (hostUp), by decide +kernel, dueOf (by decide +kernel), by decide +kernel⟩,
   ⟨cmd [(16, 1, 0)], due 0x61 [(16, 4, 100), (20, 2, 5)], stream0, withDue (due 0x61 [(16, 4, 100), (20, 2, 5)]) (streamUp stream0), by decide +kernel, dueOf (by decide +kernel), by decide +kernel⟩,
   ⟨cmd [(16, 1, 0)], due 0x61 [(16, 4, 800)], stream0, 800, withDue (due 0x61 [(16, 4, 800)]) (streamUp stream0), by decide +kernel, dueOf (by decide +kernel), by decide +kernel⟩,
   ⟨cmd [(16, 1, 0)], due 0x61 [(16, 4, 65535)], stream0, withDue (due 0x61 [(16, 4, 65535)]) ((streamUp stream0).setInst 0 { rateMax := 0 }), by decide +kernel, dueOf (by decide +kernel), by decide +kernel⟩,
   ⟨cmd [(16, 1, 0)], due 0x62 [(16, 1, 0)], withDue (due 0x62 [(16, 1, 0)]) (hostUp), by decide +kernel, dueOf (by decide +kernel), by decide +kernel⟩,
   ⟨cmd [(16, 1, 0)], due 0x62 [(16, 1, 0)], stream0, withDue (due 0x62 [(16, 1, 0)]) (streamUp stream0), by decide +kernel, dueOf (by decide +kernel), by decide +kernel⟩,
   ⟨cmd [(16, 1, 0)], due 0x62 [(16, 1, 0)], { stream0 with closeAt := some 0, state := .closing }, withDue (due 0x62 [(16, 1, 0)]) (streamUp { stream0 with closeAt := some 0, state := .closing }), by decide +kernel, dueOf (by decide +kernel), by decide +kernel⟩,
   ⟨cmd [(16, 1, 0)], due 0x63 [(16, 1, 0)], withDue (due 0x63 [(16, 1, 0)]) (hostUp), by decide +kernel, dueOf (by decide +kernel), by decide +kernel⟩,
   ⟨cmd [(16, 1, 0)], due 0x63 [(16, 1, 0)], { stream0 with moveTo := some (1, 0) }, withDue (due 0x63 [(16, 1, 0)]) (streamUp { stream0 with moveTo := some (1, 0) }), by decide +kernel, dueOf (by decide +kernel), by decide +kernel⟩,
   ⟨cmd [(16, 1, 0)], due 0x63 [(16, 1, 0)], stream0, withDue (due 0x63 [(16, 1, 0)]) (streamUp stream0), by decide +kernel, dueOf (by decide +kernel), by decide +kernel⟩,
   ⟨cmd [(16, 1, 0)], due 0x63 [(16, 1, 1)], stream0, 0, withDue (due 0x63 [(16, 1, 1)]) (streamUp stream0), by decide +kernel, dueOf (by decide +kernel), by decide +kernel⟩,
   ⟨cmd [(16, 1, 0)], due 0x63 [(16, 1, 1)], stream0, withDue (due 0x63 [(16, 1, 1)]) (fullSlots), by decide +kernel, dueOf (by decide +kernel), by decide +kernel, Or.inl (fullSlots_due (by decide +kernel))⟩,
   ⟨cmd [(16, 1, 0)], due 0x60 [], { stream0 with state := .denied }, streamUp { stream0 with state := .denied }, by decide +kernel, instantOf (by decide +kernel), by decide +kernel⟩,
   ⟨cmd [(16, 1, 0)], due 0x60 [], hostUp, by decide +kernel, instantOf (by decide +kernel), by decide +kernel⟩,
   ⟨cmd [(16, 1, 0)], due 0x60 [], hostUp, by decide +kernel, instantOf (by decide +kernel), by decide +kernel⟩,
   ⟨cmd [(16, 1, 2)], due 0x60 [], stream0, streamUp stream0, by decide +kernel, 0, instantOf (by decide +kernel), by decide +kernel⟩,
   ⟨cmd [(16, 8, 2 ^ 34)], due 0x60 [], hostUp, by decide +kernel, instantOf (by decide +kernel), by decide +kernel⟩,
   ⟨cmd [(16, 8, 2 ^ 34)], due 0x60 [], streamUp stream0, by decide +kernel, instantOf (by decide +kernel), by decide +kernel⟩⟩

/-- Witnesses of the hypotheses of `OutboundStreamEvents`. -/
theorem witness_OutboundStreamEvents :
    (∃ (h : Handle) (s : State), (s.held = none ∧ s.stream h = none)) ∧
    (∃ (h : Handle) (d : Stream) (s : State), (s.held = none ∧ s.stream h = some d ∧ d.ended = false ∧ d.statusOpen = true ∧ d.inbound = false ∧ d.closeAt = none)) ∧
    (∃ (h : Handle) (st : DriveStatus) (d : Stream) (s : State), (s.held = none ∧ s.stream h = some d ∧ d.ended = false ∧ d.statusOpen = true ∧ d.inbound = true ∧ d.closeAt = none ∧ st.state.getLsbD 2 = false)) ∧
    (∃ (h : Handle) (d : Stream) (s : State), s.held = none ∧
      ∃ (e : Nat) (l : List Nat), (s.stream h = some d ∧ d.ended = false ∧ d.statusOpen = false ∧ d.late = e :: l)) ∧
    (∃ (h : Handle) (d : Stream) (s : State), (s.held = none ∧ s.stream h = some d ∧ (d.missed < 16 ∨ d.silent = true))) ∧
    (∃ (h : Handle) (d : Stream) (s : State), (s.held = none ∧ s.stream h = some d ∧ 16 ≤ d.missed ∧ d.silent = false ∧ d.ended = false)) ∧
    (∃ (h : Handle) (d : Stream) (s : State), (s.held = none ∧ s.stream h = some d ∧ d.ended = false ∧ d.inbound = false)) ∧
    (∃ (h : Handle) (d : Stream) (s : State), (s.held = none ∧ s.stream h = some d ∧ d.ended = false ∧ d.inbound = true)) ∧
    (∃ (h : Handle) (d : Stream) (s : State), (s.held = none ∧ s.stream h = some d ∧ d.inbound = true)) ∧
    (∃ (h : Handle) (n : Nat) (d : Stream) (s : State), (s.held = none ∧ s.stream h = some d ∧ d.inbound = false ∧ d.ended = false ∧ d.ready + n < d.unsent)) ∧
    (∃ (h : Handle) (n : Nat) (d : Stream) (s : State), s.held = none ∧
      ∃ e : Nat, (s.stream h = some d ∧ d.inbound = false ∧ d.ended = false ∧ d.unsent ≤ d.ready + n ∧ d.readEpoch = some e)) ∧
    (∃ (h : Handle) (d : Stream) (s : State), s.held = none ∧
      let k := (s.nextTlp d).2.1
      let at16 := (s.nextTlp d).2.2
      let goes := d.inbound = false ∧ d.ended = false ∧ d.state ≠ .denied ∧ 0 < d.unsent ∧ k ≤ d.ready ∧ at16 ≤ s.clock ∧
        (s.port d.port).state = .up
      (s.stream h = some d ∧ ¬ goes)) ∧
    (∃ (h : Handle) (d : Stream) (s : State), s.held = none ∧
      let p := (s.nextTlp d).1
      let k := (s.nextTlp d).2.1
      let at16 := (s.nextTlp d).2.2
      let goes := d.inbound = false ∧ d.ended = false ∧ d.state ≠ .denied ∧ 0 < d.unsent ∧ k ≤ d.ready ∧ at16 ≤ s.clock ∧
        (s.port d.port).state = .up
      (s.stream h = some d ∧ goes ∧ meets d.poisoned p k = false ∧ d.closeAt = none)) :=
  ⟨⟨0, hostUp, by decide +kernel⟩,
   ⟨0, { stream0 with statusOpen := true }, streamUp { stream0 with statusOpen := true }, by decide +kernel⟩,
   ⟨0, { consumed := 64, mediaRate := 300, seqSeen := 0, state := 0 }, { stream0 with inbound := true, statusOpen := true }, streamUp { stream0 with inbound := true, statusOpen := true }, by decide +kernel⟩,
   ⟨0, { stream0 with late := [1] }, streamUp { stream0 with late := [1] }, by decide +kernel, 1, [], by decide +kernel⟩,
   ⟨0, stream0, streamUp stream0, by decide +kernel⟩,
   ⟨0, { stream0 with missed := 16 }, streamUp { stream0 with missed := 16 }, by decide +kernel⟩,
   ⟨0, stream0, streamUp stream0, by decide +kernel⟩,
   ⟨0, { stream0 with inbound := true }, streamUp { stream0 with inbound := true }, by decide +kernel⟩,
   ⟨0, { stream0 with inbound := true }, streamUp { stream0 with inbound := true }, by decide +kernel⟩,
   ⟨0, 64, { stream0 with unsent := 512, pos := 512 }, streamUp { stream0 with unsent := 512, pos := 512 }, by decide +kernel⟩,
   ⟨0, 64, { stream0 with unsent := 64, pos := 64, readEpoch := some 0 }, streamUp { stream0 with unsent := 64, pos := 64, readEpoch := some 0 }, by decide +kernel, 0, by decide +kernel⟩,
   ⟨0, stream0, streamUp stream0, by decide +kernel, by decide +kernel⟩,
   ⟨0, { stream0 with unsent := 512, pos := 512, ready := 512 }, streamUp { stream0 with unsent := 512, pos := 512, ready := 512 }, by decide +kernel, by decide +kernel⟩⟩

/-- Witnesses of the hypotheses of `PacingKeepsItsBounds`. -/
theorem witness_PacingKeepsItsBounds :
    (∃ (d : Stream) (l len : Nat), 
      let n := (d.share l len).2.1
      n < d.limit - d.pos) ∧
    (∃ (d : Stream) (l len : Nat), 
      let why := (d.share l len).2.2
      why = 1) ∧
    (∃ (d : Stream), ∃ c, d.closeAt = some c) ∧
    (∃ (d : Stream), d.moveTo.isSome = true) :=
  ⟨⟨{ stream0 with prod := 1000000 }, 8192, 8192, by decide +kernel⟩,
   ⟨{ stream0 with prod := 100 }, 8192, 8192, by decide +kernel⟩,
   ⟨{ stream0 with closeAt := some 4096 }, 4096, by decide +kernel⟩,
   ⟨{ stream0 with moveTo := some (1, 0) }, by decide +kernel⟩⟩

/-- Witnesses of the hypotheses of `InboundStreamEvents`. -/
theorem witness_InboundStreamEvents :
    (∃ (h : Handle) (s : State), (s.held = none ∧ s.stream h = none)) ∧
    (∃ (h : Handle) (d : Stream) (s : State), (s.held = none ∧ s.stream h = some d ∧ d.inbound = false)) ∧
    (∃ (h : Handle) (off : BitVec 22) (d : Stream) (s : State), s.held = none ∧
      let inPlace := d.pos % 2 ^ 22 = off.toNat
      (s.stream h = some d ∧ d.inbound = true ∧ d.ended = false ∧ ¬ inPlace ∧ d.resumeWait = false)) ∧
    (∃ (h : Handle) (off : BitVec 22) (n : Nat) (d : Stream) (s : State), s.held = none ∧
      let inPlace := d.pos % 2 ^ 22 = off.toNat
      (s.stream h = some d ∧ d.inbound = true ∧ d.ended = false ∧ inPlace ∧ n ≠ 0 ∧ d.closeAt = none ∧ d.moveTo = none)) ∧
    (∃ (h : Handle) (d : Stream) (s : State), (s.held = none ∧ s.stream h = some d ∧ d.writes = [] ∧ d.late = [])) ∧
    (∃ (h : Handle) (n : Nat) (d : Stream) (s : State), s.held = none ∧
      ∃ (p : Nat) (rest : List (Nat × Nat)), (s.stream h = some d ∧ d.writes = (p, n) :: rest)) ∧
    (∃ (h : Handle) (d : Stream) (s : State), (s.held = none ∧ s.stream h = some d ∧ d.occupancy = 0)) ∧
    (∃ (h : Handle) (d : Stream) (s : State), (s.held = none ∧ s.stream h = some d ∧ (d.deliveryDenied = true ∨ d.siltDenied = true))) ∧
    (∃ (h : Handle) (d : Stream) (s : State), s.held = none ∧
      let k := min d.occupancy (d.chunk - d.siltHead % d.chunk)
      (s.stream h = some d ∧ (s.targetOpen d = false ∨ d.destRoom d.siltHead k = false))) ∧
    (∃ (h : Handle) (d : Stream) (s s1 s2 : State), s.held = none ∧
      let k := min d.occupancy (d.chunk - d.siltHead % d.chunk)
      (s.stream h = some d ∧ 0 < k ∧ d.deliveryDenied = false ∧ d.siltDenied = false ∧ d.ended = false ∧ s.targetOpen d = true ∧ d.destRoom d.siltHead k = true ∧ s.ringCheck h d true 0 d.silt d.siltLog2 d.siltHead k = (s1, true) ∧ s1.deliver h d.siltHead k false = (s2, true))) ∧
    (∃ (h : Handle) (d : Stream) (s : State), (s.held = none ∧ s.stream h = some d ∧ d.moveTo = none)) ∧
    (∃ (h : Handle) (d : Stream) (s : State), (s.held = none ∧ s.stream h = some d ∧ d.pos < d.pSwitch)) ∧
    (∃ (h : Handle) (d : Stream) (s : State), (s.held = none ∧ s.stream h = some d ∧ d.inbound = false ∧ d.unsent ≠ 0)) ∧
    (∃ (h : Handle) (d : Stream) (s : State), (s.held = none ∧ s.stream h = some d ∧ d.inbound = true ∧ (∃ w ∈ d.writes, w.1 < d.pSwitch))) ∧
    (∃ (h : Handle) (e sl : Nat) (d : Stream) (tk : Ticket) (s : State), (s.held = none ∧ s.stream h = some d ∧ d.moveTo = some (e, sl) ∧ d.inbound = false ∧ d.pSwitch ≤ d.pos ∧ d.unsent = 0 ∧ d.ended = false ∧ d.readEpoch = none ∧ d.statusOpen = false ∧ d.early = [] ∧ d.moveTicket = some tk ∧ d.state = .moving)) :=
  ⟨⟨0, hostUp, by decide +kernel⟩,
   ⟨0, stream0, streamUp stream0, by decide +kernel⟩,
   ⟨0, 64, { stream0 with inbound := true, coherent := false }, streamUp { stream0 with inbound := true, coherent := false }, by decide +kernel, by decide +kernel⟩,
   ⟨0, 0, 64, { stream0 with inbound := true, coherent := false }, streamUp { stream0 with inbound := true, coherent := false }, by decide +kernel, by decide +kernel⟩,
   ⟨0, { stream0 with inbound := true, coherent := false }, streamUp { stream0 with inbound := true, coherent := false }, by decide +kernel⟩,
   ⟨0, 64, { stream0 with inbound := true, coherent := false, writes := [(0, 64)] }, streamUp { stream0 with inbound := true, coherent := false, writes := [(0, 64)] }, by decide +kernel, 0, [], by decide +kernel⟩,
   ⟨0, { stream0 with inbound := true, coherent := false }, streamUp { stream0 with inbound := true, coherent := false }, by decide +kernel⟩,
   ⟨0, { stream0 with inbound := true, coherent := false, deliveryDenied := true }, streamUp { stream0 with inbound := true, coherent := false, deliveryDenied := true }, by decide +kernel⟩,
   ⟨0, { stream0 with inbound := true, coherent := false }, ((hostUp.setPort 16 { cfg := { en := true, role := 1 }, state := .detect }).setInst 0 {}).setStream 0 (some { stream0 with inbound := true, coherent := false }), by decide +kernel, by decide +kernel⟩,
   ⟨0, { stream0 with inbound := true, coherent := false, siltTail := 4096, pos := 4096, inSilt := true }, streamUp { stream0 with inbound := true, coherent := false, siltTail := 4096, pos := 4096, inSilt := true }, ((streamUp { stream0 with inbound := true, coherent := false, siltTail := 4096, pos := 4096, inSilt := true }).ringCheck 0 { stream0 with inbound := true, coherent := false, siltTail := 4096, pos := 4096, inSilt := true } true 0 0 13 0 4096).1, (((streamUp { stream0 with inbound := true, coherent := false, siltTail := 4096, pos := 4096, inSilt := true }).ringCheck 0 { stream0 with inbound := true, coherent := false, siltTail := 4096, pos := 4096, inSilt := true } true 0 0 13 0 4096).1.deliver 0 0 4096 false).1, by decide +kernel, by decide +kernel⟩,
   ⟨0, { stream0 with inbound := true, coherent := false }, streamUp { stream0 with inbound := true, coherent := false }, by decide +kernel⟩,
   ⟨0, { stream0 with moveTo := some (1, 0), moveTicket := some ticket0, state := .moving, pSwitch := 4096 }, streamUp { stream0 with moveTo := some (1, 0), moveTicket := some ticket0, state := .moving, pSwitch := 4096 }, by decide +kernel⟩,
   ⟨0, { stream0 with moveTo := some (1, 0), moveTicket := some ticket0, state := .moving, unsent := 64, pos := 64 }, streamUp { stream0 with moveTo := some (1, 0), moveTicket := some ticket0, state := .moving, unsent := 64, pos := 64 }, by decide +kernel⟩,
   ⟨0, { stream0 with inbound := true, coherent := false, writes := [(0, 64)], pSwitch := 4096 }, streamUp { stream0 with inbound := true, coherent := false, writes := [(0, 64)], pSwitch := 4096 }, by decide +kernel⟩,
   ⟨0, 1, 0, { stream0 with moveTo := some (1, 0), moveTicket := some ticket0, state := .moving, pSwitch := 0 }, ticket0, streamUp { stream0 with moveTo := some (1, 0), moveTicket := some ticket0, state := .moving, pSwitch := 0 }, by decide +kernel⟩⟩

/-- Witnesses of the hypotheses of `VfiBoundaryOpcodes`. -/
theorem witness_VfiBoundaryOpcodes :
    (∃ (c : Cmd) (l : Launch) (s : State), l.cmd.target ≤ 255 ∧
      Queues opVfiBind c s) ∧
    (∃ (c : Cmd) (l : Launch) (s : State), l.cmd.target ≤ 255 ∧
      Queues opVfiWindowSet c s) ∧
    (∃ (c : Cmd) (l : Launch) (s : State), l.cmd.target ≤ 255 ∧
      Queues opVfiQuotaSet c s) ∧
    (∃ (c : Cmd) (l : Launch) (s : State), l.cmd.target ≤ 255 ∧
      Queues opVfiWeightSet c s) ∧
    (∃ (c : Cmd) (l : Launch) (s : State), l.cmd.target ≤ 255 ∧
      Queues opVfiCntMap c s) ∧
    (∃ (l : Launch) (s : State), l.cmd.target ≤ 255 ∧
      let p := l.cmd.le 16 2
      let ld := l.cmd.byte 18
      let free := s.blockBindings p = []
      Due opVfiBind l s ∧
      (p ≤ 1023 ∧ l.cmd.byte 19 = 1 ∧ free ∧ ld = 0xFF ∧ (s.port p).cfg.role ≠ 0)) ∧
    (∃ (l : Launch) (b : Binding) (s : State), l.cmd.target ≤ 255 ∧
      let v := l.cmd.target
      let p := l.cmd.le 16 2
      let ld := l.cmd.byte 18
      let whole := 17 * p + 16
      let key := if ld = 0xFF then whole else 17 * p + ld
      let block := ld = 0xFF ∨ ld ≤ 15
      let free := s.blockBindings p = []
      let owner := l.cmd.le 20 2
      let asked := l.cmd.byte 22
      let used := s.vppbs owner key
      let mine := owner < 1024 ∧ asked < 64 ∧ (s.port owner).cfg.role = 1 ∧
        ∃ b, s.binding (17 * owner + 16) = some b ∧ b.vfi = v
      Due opVfiBind l s ∧
      (p ≤ 1023 ∧ l.cmd.byte 19 = 1 ∧ free) ∧
      ∃ n : Nat, (block ∧ (s.port p).cfg.role = 0 ∧ mine ∧ (asked ≠ 0 ∧ n = asked ∧ n ∉ used ∨
          asked = 0 ∧ ((List.range 63).map (· + 1)).find? (fun n => !used.contains n) = some n))) ∧
    (∃ (l : Launch) (b : Binding) (s : State), l.cmd.target ≤ 255 ∧
      let v := l.cmd.target
      let p := l.cmd.le 16 2
      let ld := l.cmd.byte 18
      let whole := 17 * p + 16
      let key := if ld = 0xFF then whole else 17 * p + ld
      let block := ld = 0xFF ∨ ld ≤ 15
      let free := s.blockBindings p = []
      let owner := l.cmd.le 20 2
      let asked := l.cmd.byte 22
      let used := s.vppbs owner key
      let mine := owner < 1024 ∧ asked < 64 ∧ (s.port owner).cfg.role = 1 ∧
        ∃ b, s.binding (17 * owner + 16) = some b ∧ b.vfi = v
      Due opVfiBind l s ∧
      (p ≤ 1023 ∧ l.cmd.byte 19 = 1 ∧ free ∧ block ∧ (s.port p).cfg.role = 0 ∧ mine ∧ asked ≠ 0 ∧ asked ∈ used)) ∧
    (∃ (l : Launch) (b : Binding) (s : State), l.cmd.target ≤ 255 ∧
      let v := l.cmd.target
      let p := l.cmd.le 16 2
      let ld := l.cmd.byte 18
      let block := ld = 0xFF ∨ ld ≤ 15
      let free := s.blockBindings p = []
      let owner := l.cmd.le 20 2
      let asked := l.cmd.byte 22
      let mine := owner < 1024 ∧ asked < 64 ∧ (s.port owner).cfg.role = 1 ∧
        ∃ b, s.binding (17 * owner + 16) = some b ∧ b.vfi = v
      Due opVfiBind l s ∧
      (p ≤ 1023 ∧ l.cmd.byte 19 = 1 ∧ free ∧ block ∧ (s.port p).cfg.role = 0 ∧ ¬ mine)) ∧
    (∃ (l : Launch) (s : State), l.cmd.target ≤ 255 ∧
      let p := l.cmd.le 16 2
      let ld := l.cmd.byte 18
      Due opVfiBind l s ∧
      (p ≤ 1023 ∧ ld ≤ 15 ∧ l.cmd.byte 19 = 1 ∧ (s.port p).cfg.role ≠ 0)) ∧
    (∃ (l : Launch) (b : Binding) (s : State), l.cmd.target ≤ 255 ∧
      let v := l.cmd.target
      let p := l.cmd.le 16 2
      let ld := l.cmd.byte 18
      let whole := 17 * p + 16
      let key := if ld = 0xFF then whole else 17 * p + ld
      let block := ld = 0xFF ∨ ld ≤ 15
      Due opVfiBind l s ∧
      (p ≤ 1023 ∧ block ∧ l.cmd.byte 19 = 0 ∧ s.blockBindings p = [(key, b)] ∧ s.binding key = some b ∧ b.vfi = v ∧ (s.port p).state ≠ .up)) ∧
    (∃ (l : Launch) (s : State), l.cmd.target ≤ 255 ∧
      let p := l.cmd.le 16 2
      let ld := l.cmd.byte 18
      let whole := 17 * p + 16
      let key := if ld = 0xFF then whole else 17 * p + ld
      let block := ld = 0xFF ∨ ld ≤ 15
      let free := s.blockBindings p = []
      Due opVfiBind l s ∧
      (p ≤ 1023 ∧ block ∧ l.cmd.byte 19 = 0 ∧ free ∧ s.binding key = none)) ∧
    (∃ (l : Launch) (s : State), l.cmd.target ≤ 255 ∧
      let v := l.cmd.target
      let bits := l.cmd.le 32 32
      let w := Win.of bits
      let i := l.cmd.byte 16
      let x := s.inst v
      let calm := ∀ r ∈ x.releasing, r.1 ≠ i
      let legal := w.valid = true ∧ s.winLegal bits = w
      let target := w.kind = 2 → s.winTarget v w = true
      Due opVfiWindowSet l s ∧
      (i ≤ 31 ∧ calm ∧ legal ∧ target ∧ s.winOverlap v i w = false ∧ (∀ a ∈ x.accepted, a.1 ≠ i))) ∧
    (∃ (l : Launch) (s : State), l.cmd.target ≤ 255 ∧
      let v := l.cmd.target
      let bits := l.cmd.le 32 32
      let w := Win.of bits
      let i := l.cmd.byte 16
      let x := s.inst v
      let calm := ∀ r ∈ x.releasing, r.1 ≠ i
      let legal := w.valid = true ∧ s.winLegal bits = w
      let target := w.kind = 2 → s.winTarget v w = true
      Due opVfiWindowSet l s ∧
      (i ≤ 31 ∧ calm ∧ legal ∧ target ∧ s.winOverlap v i w = true)) ∧
    (∃ (l : Launch) (s : State), l.cmd.target ≤ 255 ∧
      let v := l.cmd.target
      let bits := l.cmd.le 32 32
      let w := Win.of bits
      let i := l.cmd.byte 16
      let x := s.inst v
      let calm := ∀ r ∈ x.releasing, r.1 ≠ i
      let legal := w.valid = true ∧ s.winLegal bits = w
      let target := w.kind = 2 → s.winTarget v w = true
      Due opVfiWindowSet l s ∧
      (i ≤ 31 ∧ calm ∧ legal ∧ ¬ target)) ∧
    (∃ (l : Launch) (s : State), l.cmd.target ≤ 255 ∧
      let v := l.cmd.target
      let bits := l.cmd.le 32 32
      let w := Win.of bits
      let i := l.cmd.byte 16
      let x := s.inst v
      let calm := ∀ r ∈ x.releasing, r.1 ≠ i
      Due opVfiWindowSet l s ∧
      (i ≤ 31 ∧ calm ∧ w.valid = false ∧ (∀ a ∈ x.accepted, a.1 ≠ i))) ∧
    (∃ (l : Launch) (s : State), l.cmd.target ≤ 255 ∧
      let v := l.cmd.target
      let bits := l.cmd.le 32 32
      let w := Win.of bits
      let i := l.cmd.byte 16
      let x := s.inst v
      let calm := ∀ r ∈ x.releasing, r.1 ≠ i
      Due opVfiWindowSet l s ∧
      (i ≤ 31 ∧ calm ∧ w.valid = false ∧ (s.winNow v i).dc = true ∧ (s.winNow v i).valid = true ∧ (∃ a ∈ x.accepted, a.1 = i))) ∧
    (∃ (l : Launch) (s : State), l.cmd.target ≤ 255 ∧
      let v := l.cmd.target
      let i := l.cmd.byte 16
      let x := s.inst v
      let calm := ∀ r ∈ x.releasing, r.1 ≠ i
      Due opVfiWindowSet l s ∧
      (i ≤ 31 ∧ ¬ calm)) ∧
    (∃ (l : Launch) (s : State), l.cmd.target ≤ 255 ∧
      Due opVfiQuotaSet l s ∧
      (l.cmd.le 18 2 ≤ 984 ∧ l.cmd.le 24 2 ≤ 4096 ∧ l.cmd.le 28 4 ≤ 262143)) ∧
    (∃ (l : Launch) (s : State), l.cmd.target ≤ 255 ∧
      let p := l.cmd.le 16 2
      let ld := l.cmd.byte 18
      Due opVfiWeightSet l s ∧
      (p = 0xFFFF ∧ 1 ≤ ld)) ∧
    (∃ (l : Launch) (s : State), l.cmd.target ≤ 255 ∧
      let p := l.cmd.le 16 2
      let ld := l.cmd.byte 18
      Due opVfiWeightSet l s ∧
      (p = 0xFFFF ∧ ld = 0)) ∧
    (∃ (l : Launch) (s : State), l.cmd.target ≤ 255 ∧
      let v := l.cmd.target
      let p := l.cmd.le 16 2
      let ld := l.cmd.byte 18
      let x := s.inst v
      Due opVfiWeightSet l s ∧
      (p ≤ 1023 ∧ 1 ≤ ld ∧ (∀ o ∈ x.overrides, o.1 ≠ p) ∧ x.overrides.length < 16)) ∧
    (∃ (l : Launch) (s : State), l.cmd.target ≤ 255 ∧
      let v := l.cmd.target
      let p := l.cmd.le 16 2
      let ld := l.cmd.byte 18
      let x := s.inst v
      Due opVfiWeightSet l s ∧
      (p ≤ 1023 ∧ 1 ≤ ld ∧ (∀ o ∈ x.overrides, o.1 ≠ p) ∧ 16 ≤ x.overrides.length)) ∧
    (∃ (l : Launch) (s : State), l.cmd.target ≤ 255 ∧
      let v := l.cmd.target
      let p := l.cmd.le 16 2
      let ld := l.cmd.byte 18
      let x := s.inst v
      Due opVfiWeightSet l s ∧
      (p ≤ 1023 ∧ 1 ≤ ld ∧ (∃ o ∈ x.overrides, o.1 = p))) ∧
    (∃ (l : Launch) (s : State), l.cmd.target ≤ 255 ∧
      let p := l.cmd.le 16 2
      let ld := l.cmd.byte 18
      Due opVfiWeightSet l s ∧
      (p ≤ 1023 ∧ ld = 0)) ∧
    (∃ (l : Launch) (s : State), l.cmd.target ≤ 255 ∧
      let i := l.cmd.byte 16
      Due opVfiCntMap l s ∧
      (i ≤ 31 ∧ l.cmd.le 18 2 < pcnCount)) ∧
    (∃ (l : Launch) (s : State), l.cmd.target ≤ 255 ∧
      let i := l.cmd.byte 16
      Due opVfiCntMap l s ∧
      (i ≤ 31 ∧ l.cmd.le 18 2 = 0xFFFF)) :=
  ⟨⟨cmd [], due 0x70 [], hostUp, by decide +kernel, queuesOf (by decide +kernel)⟩,
   ⟨cmd [], due 0x70 [], hostUp, by decide +kernel, queuesOf (by decide +kernel)⟩,
   ⟨cmd [], due 0x70 [], hostUp, by decide +kernel, queuesOf (by decide +kernel)⟩,
   ⟨cmd [], due 0x70 [], hostUp, by decide +kernel, queuesOf (by decide +kernel)⟩,
   ⟨cmd [], due 0x70 [], hostUp, by decide +kernel, queuesOf (by decide +kernel)⟩,
   ⟨due 0x70 [(16, 2, 24), (18, 1, 255), (19, 1, 1)], withDue (due 0x70 [(16, 2, 24), (18, 1, 255), (19, 1, 1)]) (hostUp.setPort 24 { cfg := { en := true, role := 1 } }), by decide +kernel, dueOf (by decide +kernel), by decide +kernel⟩,
   ⟨due 0x70 [(16, 2, 9), (18, 1, 0), (19, 1, 1), (20, 2, 16), (22, 1, 2)], { vfi := 0, owner := 16, vppb := 0, role := 1 }, withDue (due 0x70 [(16, 2, 9), (18, 1, 0), (19, 1, 1), (20, 2, 16), (22, 1, 2)]) (hostUp), by decide +kernel, dueOf (by decide +kernel), by decide +kernel, 2, by decide +kernel⟩,
   ⟨due 0x70 [(16, 2, 9), (18, 1, 0), (19, 1, 1), (20, 2, 16), (22, 1, 1)], { vfi := 0, owner := 16, vppb := 0, role := 1 }, withDue (due 0x70 [(16, 2, 9), (18, 1, 0), (19, 1, 1), (20, 2, 16), (22, 1, 1)]) (hostUp), by decide +kernel, dueOf (by decide +kernel), by decide +kernel⟩,
   ⟨due 0x70 [(16, 2, 9), (18, 1, 0), (19, 1, 1), (20, 2, 17), (22, 1, 1)], { vfi := 0, owner := 16, vppb := 0, role := 1 }, withDue (due 0x70 [(16, 2, 9), (18, 1, 0), (19, 1, 1), (20, 2, 17), (22, 1, 1)]) (hostUp), by decide +kernel, dueOf (by decide +kernel), by decide +kernel⟩,
   ⟨due 0x70 [(16, 2, 16), (18, 1, 0), (19, 1, 1)], withDue (due 0x70 [(16, 2, 16), (18, 1, 0), (19, 1, 1)]) (hostUp), by decide +kernel, dueOf (by decide +kernel), by decide +kernel⟩,
   ⟨due 0x70 [(16, 2, 9), (18, 1, 255)], { vfi := 0, owner := 16, vppb := 3, role := 0 }, withDue (due 0x70 [(16, 2, 9), (18, 1, 255)]) (hostUp.setBinding 169 (some { vfi := 0, owner := 16, vppb := 3, role := 0 })), by decide +kernel, dueOf (by decide +kernel), by decide +kernel⟩,
   ⟨due 0x70 [(16, 2, 9), (18, 1, 255)], withDue (due 0x70 [(16, 2, 9), (18, 1, 255)]) (hostUp), by decide +kernel, dueOf (by decide +kernel), by decide +kernel⟩,
   ⟨due 0x71 [(16, 1, 1), (32, 32, win1.image)], withDue (due 0x71 [(16, 1, 1), (32, 32, win1.image)]) (hostUp), by decide +kernel, dueOf (by decide +kernel), by decide +kernel⟩,
   ⟨due 0x71 [(16, 1, 1), (32, 32, ({ win0 with kind := 1 } : Win).image)], withDue (due 0x71 [(16, 1, 1), (32, 32, ({ win0 with kind := 1 } : Win).image)]) (hostUp), by decide +kernel, dueOf (by decide +kernel), by decide +kernel⟩,
   ⟨due 0x71 [(16, 1, 1), (32, 32, ({ win1 with kind := 2, port := 9 } : Win).image)], withDue (due 0x71 [(16, 1, 1), (32, 32, ({ win1 with kind := 2, port := 9 } : Win).image)]) (hostUp), by decide +kernel, dueOf (by decide +kernel), by decide +kernel⟩,
   ⟨due 0x71 [(16, 1, 1)], withDue (due 0x71 [(16, 1, 1)]) (hostUp), by decide +kernel, dueOf (by decide +kernel), by decide +kernel⟩,
   ⟨due 0x71 [(16, 1, 1)], withDue (due 0x71 [(16, 1, 1)]) (hostUp.setInst 0 { windows := [(1, BitVec.ofNat 256 ({ win1 with dc := true } : Win).image)], accepted := [(1, 16)] }), by decide +kernel, dueOf (by decide +kernel), by decide +kernel⟩,
   ⟨due 0x71 [(16, 1, 1)], withDue (due 0x71 [(16, 1, 1)]) (hostUp.setInst 0 { releasing := [(1, 0, ticket0)] }), by decide +kernel, dueOf (by decide +kernel), by decide +kernel⟩,
   ⟨due 0x72 [(16, 1, 15), (18, 2, 984), (20, 4, 5), (24, 2, 4096), (28, 4, 262143)], withDue (due 0x72 [(16, 1, 15), (18, 2, 984), (20, 4, 5), (24, 2, 4096), (28, 4, 262143)]) (hostUp), by decide +kernel, dueOf (by decide +kernel), by decide +kernel⟩,
   ⟨due 0x73 [(16, 2, 0xFFFF), (18, 1, 1)], withDue (due 0x73 [(16, 2, 0xFFFF), (18, 1, 1)]) (hostUp), by decide +kernel, dueOf (by decide +kernel), by decide +kernel⟩,
   ⟨due 0x73 [(16, 2, 0xFFFF)], withDue (due 0x73 [(16, 2, 0xFFFF)]) (hostUp), by decide +kernel, dueOf (by decide +kernel), by decide +kernel⟩,
   ⟨due 0x73 [(16, 2, 8), (18, 1, 4)], withDue (due 0x73 [(16, 2, 8), (18, 1, 4)]) (hostUp), by decide +kernel, dueOf (by decide +kernel), by decide +kernel⟩,
   ⟨due 0x73 [(16, 2, 8), (18, 1, 4)], withDue (due 0x73 [(16, 2, 8), (18, 1, 4)]) (hostUp.setInst 0 { overrides := (List.range 16).map fun k => (k + 16, 1) }), by decide +kernel, dueOf (by decide +kernel), by decide +kernel⟩,
   ⟨due 0x73 [(16, 2, 8), (18, 1, 4)], withDue (due 0x73 [(16, 2, 8), (18, 1, 4)]) (hostUp.setInst 0 { overrides := [(8, 1)] }), by decide +kernel, dueOf (by decide +kernel), by decide +kernel⟩,
   ⟨due 0x73 [(16, 2, 8)], withDue (due 0x73 [(16, 2, 8)]) (hostUp), by decide +kernel, dueOf (by decide +kernel), by decide +kernel⟩,
   ⟨due 0x75 [(16, 1, 31), (18, 2, 0)], withDue (due 0x75 [(16, 1, 31), (18, 2, 0)]) (hostUp), by decide +kernel, dueOf (by decide +kernel), by decide +kernel⟩,
   ⟨due 0x75 [(16, 1, 0), (18, 2, 0xFFFF)], withDue (due 0x75 [(16, 1, 0), (18, 2, 0xFFFF)]) (hostUp), by decide +kernel, dueOf (by decide +kernel), by decide +kernel⟩⟩

/-- Witnesses of the hypotheses of `VfiInstantOpcodes`. -/
theorem witness_VfiInstantOpcodes :
    (∃ (c : Cmd) (s : State), c.target ≤ 255 ∧
      Instant opVfiColourSet c s) ∧
    (∃ (c : Cmd) (s : State), c.target ≤ 255 ∧
      let v := c.target
      let x := s.inst v
      Instant opVfiReset c s ∧
      x.resetting = false) ∧
    (∃ (c : Cmd) (s : State), c.target ≤ 255 ∧
      let v := c.target
      let x := s.inst v
      Instant opVfiReset c s ∧
      x.resetting = true) ∧
    (∃ (c : Cmd) (s : State), c.target ≤ 255 ∧
      let v := c.target
      let x := s.inst v
      let p := c.le 24 2
      Instant opVfiMailSend c s ∧
      ((p ≤ 1023 ∨ p = 0xFFFF) ∧ x.outPending = false)) ∧
    (∃ (c : Cmd) (s : State), c.target ≤ 255 ∧
      let v := c.target
      let x := s.inst v
      let p := c.le 24 2
      Instant opVfiMailSend c s ∧
      ((p ≤ 1023 ∨ p = 0xFFFF) ∧ x.outPending = true)) ∧
    (∃ (c : Cmd) (s : State), c.target ≤ 255 ∧
      let v := c.target
      let x := s.inst v
      Instant opVfiMailRead c s ∧
      x.inFull = false) ∧
    (∃ (c : Cmd) (s : State), c.target ≤ 255 ∧
      let v := c.target
      let x := s.inst v
      Instant opVfiMailRead c s ∧
      x.inFull = true) ∧
    (∃ (c : Cmd) (s : State), c.target ≤ 255 ∧
      Instant opVfiMailCfg c s) ∧
    (∃ (c : Cmd) (s : State), c.target ≤ 255 ∧
      Instant opVfiQuery c s ∧
      c.byte 16 = 0) ∧
    (∃ (c : Cmd) (s : State), c.target ≤ 255 ∧
      Instant opVfiQuery c s ∧
      let q := c.le 18 2
      (c.byte 16 = 1 ∧ q ≤ 1023 ∧ s.binding (17 * q + 16) = none)) ∧
    (∃ (c : Cmd) (s : State), c.target ≤ 255 ∧
      Instant opVfiQuery c s ∧
      let q := c.le 18 2
      ∃ b : Binding, (c.byte 16 = 1 ∧ q ≤ 1023 ∧ s.binding (17 * q + 16) = some b)) ∧
    (∃ (c : Cmd) (s : State), c.target ≤ 255 ∧
      Instant opVfiQuery c s ∧
      let q := c.le 18 2
      (c.byte 16 = 2 ∧ q ≤ 63)) ∧
    (∃ (c : Cmd) (s : State), c.target ≤ 255 ∧
      Instant opVfiQuery c s ∧
      c.byte 16 = 3) ∧
    (∃ (c : Cmd) (s : State), c.target ≤ 255 ∧
      Instant opVfiQuery c s ∧
      c.byte 16 = 4) :=
  ⟨⟨cmd [], hostUp, by decide +kernel, instantOf (by decide +kernel)⟩,
   ⟨cmd [], hostUp, by decide +kernel, instantOf (by decide +kernel), by decide +kernel⟩,
   ⟨cmd [], hostUp.setInst 0 { resetting := true }, by decide +kernel, instantOf (by decide +kernel), by decide +kernel⟩,
   ⟨cmd [(24, 2, 0xFFFF)], hostUp, by decide +kernel, instantOf (by decide +kernel), by decide +kernel⟩,
   ⟨cmd [(24, 2, 0xFFFF)], hostUp.setInst 0 { outPending := true }, by decide +kernel, instantOf (by decide +kernel), by decide +kernel⟩,
   ⟨cmd [], hostUp, by decide +kernel, instantOf (by decide +kernel), by decide +kernel⟩,
   ⟨cmd [], hostUp.setInst 0 { inFull := true, mailIn := mailBytes 1 16 0 [5] }, by decide +kernel, instantOf (by decide +kernel), by decide +kernel⟩,
   ⟨cmd [], hostUp, by decide +kernel, instantOf (by decide +kernel)⟩,
   ⟨cmd [], hostUp, by decide +kernel, instantOf (by decide +kernel), by decide +kernel⟩,
   ⟨cmd [(16, 1, 1), (18, 2, 9)], hostUp, by decide +kernel, instantOf (by decide +kernel), by decide +kernel⟩,
   ⟨cmd [(16, 1, 1), (18, 2, 16)], hostUp, by decide +kernel, instantOf (by decide +kernel), { vfi := 0, owner := 16, vppb := 0, role := 1 }, by decide +kernel⟩,
   ⟨cmd [(16, 1, 2), (18, 2, 1)], hostUp, by decide +kernel, instantOf (by decide +kernel), by decide +kernel⟩,
   ⟨cmd [(16, 1, 3)], hostUp, by decide +kernel, instantOf (by decide +kernel), by decide +kernel⟩,
   ⟨cmd [(16, 1, 4)], hostUp, by decide +kernel, instantOf (by decide +kernel), by decide +kernel⟩⟩

/-- Witnesses of the hypotheses of `VfiEvents`. -/
theorem witness_VfiEvents :
    (∃ (v : Vfi) (i : Fin 32) (p : Port) (s : State), s.held = none ∧
      let x := s.inst v
      let w := s.winNow v i
      let offers := w.valid = true ∧ w.dc = true ∧ s.vcsOf p = some v.val ∧ s.offered w p = true ∧
        (∀ r ∈ x.releasing, r.1 ≠ i.val) ∧ (i.val, p.val) ∉ x.accepted
      ¬ offers) ∧
    (∃ (v : Vfi) (i : Fin 32) (p : Port) (s : State), s.held = none ∧
      let x := s.inst v
      let w := s.winNow v i
      let offers := w.valid = true ∧ w.dc = true ∧ s.vcsOf p = some v.val ∧ s.offered w p = true ∧
        (∀ r ∈ x.releasing, r.1 ≠ i.val) ∧ (i.val, p.val) ∉ x.accepted
      offers) ∧
    (∃ (v : Vfi) (i : Fin 32) (p : Port) (s : State), s.held = none ∧
      let x := s.inst v
      (∃ q, (i.val, q) ∈ x.accepted.erase (i.val, p.val))) ∧
    (∃ (v : Vfi) (i : Fin 32) (p : Port) (tk : Ticket) (due : Nat) (s : State), s.held = none ∧
      let x := s.inst v
      (∀ q, (i.val, q) ∉ x.accepted.erase (i.val, p.val)) ∧
      x.releasing = [(i.val, due, tk)]) ∧
    (∃ (v : Vfi) (i : Fin 32) (s : State), s.held = none ∧
      let x := s.inst v
      (∀ r ∈ x.releasing, r.1 ≠ i.val)) ∧
    (∃ (v : Vfi) (i : Fin 32) (tk : Ticket) (due : Nat) (s : State), s.held = none ∧
      let x := s.inst v
      (x.releasing = [(i.val, due, tk)] ∧ s.clock < due)) ∧
    (∃ (v : Vfi) (i : Fin 32) (tk : Ticket) (due : Nat) (s : State), s.held = none ∧
      let x := s.inst v
      (x.releasing = [(i.val, due, tk)] ∧ due ≤ s.clock)) ∧
    (∃ (v : Vfi) (s : State), s.held = none ∧
      let x := s.inst v
      (x.resetting = false ∨ x.forcedDone = true ∨ s.clock < x.resetAt + ms16 s.ctMs)) ∧
    (∃ (v : Vfi) (s : State), s.held = none ∧
      let x := s.inst v
      (x.resetting = true ∧ x.forcedDone = false ∧ x.resetAt + ms16 s.ctMs ≤ s.clock)) ∧
    (∃ (v : Vfi) (tk : Ticket) (s : State), s.held = none ∧
      let x := s.inst v
      (x.resetting = true ∧ x.resetZero = true ∧ x.resetTicket = some tk)) ∧
    (∃ (v : Vfi) (s : State), s.held = none ∧
      let x := s.inst v
      (x.resetting = true ∧ x.resetZero = false)) :=
  ⟨⟨0, 1, 16, hostUp, by decide +kernel, by decide +kernel⟩,
   ⟨0, 1, 16, hostUp.setInst 0 { windows := [(1, BitVec.ofNat 256 ({ win1 with dc := true } : Win).image)] }, by decide +kernel, by decide +kernel⟩,
   ⟨0, 1, 16, hostUp.setInst 0 { windows := [(1, BitVec.ofNat 256 ({ win1 with dc := true } : Win).image)], accepted := [(1, 16), (1, 17)] }, by decide +kernel, ⟨17, by decide +kernel⟩⟩,
   ⟨0, 1, 16, ticket0, 1600000, hostUp.setInst 0 { windows := [(1, BitVec.ofNat 256 ({ win1 with dc := true } : Win).image)], accepted := [(1, 16)], releasing := [(1, 1600000, ticket0)] }, by decide +kernel, (fun q hq => absurd hq (by rw [show List.erase _ _ = ([] : List (Nat × Nat)) from by decide +kernel]; exact List.not_mem_nil)), by decide +kernel⟩,
   ⟨0, 1, hostUp, by decide +kernel, by decide +kernel⟩,
   ⟨0, 1, ticket0, 1600001, hostUp.setInst 0 { windows := [(1, BitVec.ofNat 256 ({ win1 with dc := true } : Win).image)], accepted := [(1, 16)], releasing := [(1, 1600001, ticket0)] }, by decide +kernel, by decide +kernel⟩,
   ⟨0, 1, ticket0, 1600000, hostUp.setInst 0 { windows := [(1, BitVec.ofNat 256 ({ win1 with dc := true } : Win).image)], accepted := [(1, 16)], releasing := [(1, 1600000, ticket0)] }, by decide +kernel, by decide +kernel⟩,
   ⟨0, hostUp, by decide +kernel, by decide +kernel⟩,
   ⟨0, { hostUp.setInst 0 { resetting := true } with clock := 320000000 }, by decide +kernel, by decide +kernel⟩,
   ⟨0, ticket0, hostUp.setInst 0 { resetting := true, resetZero := true, resetTicket := some ticket0 }, by decide +kernel, by decide +kernel⟩,
   ⟨0, hostUp.setInst 0 { resetting := true }, by decide +kernel, by decide +kernel⟩⟩

/-- Witnesses of the hypotheses of `TenantCommands`. -/
theorem witness_TenantCommands :
    (∃ (p : Port) (s : State), (s.held = none ∧ s.vcsOf p = none)) ∧
    (∃ (p : Port) (v : Nat) (s : State), s.held = none ∧
      let x := s.inst v
      (s.vcsOf p = some v ∧ x.tenantEn = false)) ∧
    (∃ (p : Port) (v : Nat) (s : State), s.held = none ∧
      let x := s.inst v
      (s.vcsOf p = some v ∧ x.tenantEn = true ∧ x.resetting = true)) ∧
    (∃ (p : Port) (v : Nat) (s : State), s.held = none ∧
      let x := s.inst v
      let serves := s.vcsOf p = some v ∧ x.tenantEn = true ∧ x.resetting = false
      (serves ∧ x.inFull = true)) ∧
    (∃ (p : Port) (v : Nat) (s : State), s.held = none ∧
      let x := s.inst v
      let serves := s.vcsOf p = some v ∧ x.tenantEn = true ∧ x.resetting = false
      (serves ∧ x.inFull = false)) ∧
    (∃ (p : Port) (v : Nat) (s : State), s.held = none ∧
      let x := s.inst v
      let serves := s.vcsOf p = some v ∧ x.tenantEn = true ∧ x.resetting = false
      (serves ∧ (x.outPending = false ∨ p.val ∉ x.outWait))) ∧
    (∃ (p : Port) (v : Nat) (s : State), s.held = none ∧
      let x := s.inst v
      let serves := s.vcsOf p = some v ∧ x.tenantEn = true ∧ x.resetting = false
      (serves ∧ x.outPending = true ∧ p.val ∈ x.outWait)) ∧
    (∃ (p : Port) (k : Fin 32) (v : Nat) (s : State), s.held = none ∧
      let x := s.inst v
      let serves := s.vcsOf p = some v ∧ x.tenantEn = true ∧ x.resetting = false
      (serves ∧ tget none x.cntMap k = none)) ∧
    (∃ (p : Port) (k : Fin 32) (v : Nat) (s : State), s.held = none ∧
      let x := s.inst v
      let serves := s.vcsOf p = some v ∧ x.tenantEn = true ∧ x.resetting = false
      ∃ j : Nat, (serves ∧ tget none x.cntMap k = some j) ∧
      let mine := s.counterHere j = true ∧ (s.counter j).vfiEn = true ∧ (s.counter j).vfi = v
      (mine ∧ s.pcn.frozen = false)) ∧
    (∃ (p : Port) (k : Fin 32) (v : Nat) (s : State), s.held = none ∧
      let x := s.inst v
      let serves := s.vcsOf p = some v ∧ x.tenantEn = true ∧ x.resetting = false
      ∃ j : Nat, (serves ∧ tget none x.cntMap k = some j) ∧
      let mine := s.counterHere j = true ∧ (s.counter j).vfiEn = true ∧ (s.counter j).vfi = v
      (mine ∧ s.pcn.frozen = true)) ∧
    (∃ (p : Port) (k : Fin 32) (v : Nat) (s : State), s.held = none ∧
      let x := s.inst v
      let serves := s.vcsOf p = some v ∧ x.tenantEn = true ∧ x.resetting = false
      ∃ j : Nat, (serves ∧ tget none x.cntMap k = some j) ∧
      let mine := s.counterHere j = true ∧ (s.counter j).vfiEn = true ∧ (s.counter j).vfi = v
      ¬ mine) :=
  ⟨⟨17, hostUp.setInst 0 { tenantEn := true }, by decide +kernel⟩,
   ⟨16, 0, hostUp, by decide +kernel, by decide +kernel⟩,
   ⟨16, 0, hostUp.setInst 0 { tenantEn := true, resetting := true }, by decide +kernel, by decide +kernel⟩,
   ⟨16, 0, hostUp.setInst 0 { tenantEn := true, inFull := true }, by decide +kernel, by decide +kernel⟩,
   ⟨16, 0, hostUp.setInst 0 { tenantEn := true }, by decide +kernel, by decide +kernel⟩,
   ⟨16, 0, hostUp.setInst 0 { tenantEn := true }, by decide +kernel, by decide +kernel⟩,
   ⟨16, 0, hostUp.setInst 0 { tenantEn := true, outPending := true, outWait := [16, 17] }, by decide +kernel, by decide +kernel⟩,
   ⟨16, 2, 0, hostUp.setInst 0 { tenantEn := true }, by decide +kernel, by decide +kernel⟩,
   ⟨16, 2, 0, (hostUp.setInst 0 { tenantEn := true, cntMap := [(2, some 7)] }).setCounter 7 { vfiEn := true, vfi := 0 }, by decide +kernel, 7, by decide +kernel, by decide +kernel⟩,
   ⟨16, 2, 0, (fun s => { s with pcn := { s.pcn with frozen := true } }) ((hostUp.setInst 0 { tenantEn := true, cntMap := [(2, some 7)] }).setCounter 7 { vfiEn := true, vfi := 0 }), by decide +kernel, 7, by decide +kernel, by decide +kernel⟩,
   ⟨16, 2, 0, hostUp.setInst 0 { tenantEn := true, cntMap := [(2, some 7)] }, by decide +kernel, 7, by decide +kernel, by decide +kernel⟩⟩

/-- Witnesses of the hypotheses of `EveryStepKeepsSummarySeen`. -/
theorem witness_EveryStepKeepsSummarySeen :
    ∃ s t : State, s.SummarySeen ∧
      step s = .next t :=
  ⟨State.reset, State.reset.tick, rfl, rfl⟩

/-- Witnesses of the hypotheses of `EveryStepKeepsHeldRests`. -/
theorem witness_EveryStepKeepsHeldRests :
    ∃ s t : State, s.HeldRests ∧
      step s = .next t :=
  ⟨heldReset, heldReset, fun _ => ⟨rfl, rfl, rfl, rfl, rfl, rfl, rfl, rfl, rfl, rfl, rfl, rfl, rfl, rfl, rfl, rfl⟩, rfl⟩

/-- Witnesses of the hypotheses of `LaunchQueueKeepsItsLimits`. -/
theorem witness_LaunchQueueKeepsItsLimits :
    (∃ (c : Cmd) (a : Nat), a + 2 ^ 46 < c.launch) ∧
    (∃ (c : Cmd) (a : Nat), c.launch ≤ a + 2 ^ 46) ∧
    (∃ (tk : Ticket) (p : Ring) (off : Nat), (tk.src = .ring p ∧ tk.clamp = some off)) ∧
    (∃ (o : OpSpec) (c : Cmd) (s : State), Queues o c s ∧
      (o.taken c (s.accept c)).ftu = (s.accept c).ftu) ∧
    (∃ (o : OpSpec) (c : Cmd) (s : State), Takes o c s ∧
      ((o.aligned = true ∨ c.launch ≠ 0) ∧ 4096 ≤ s.ftu.launches.length)) ∧
    (∃ (o : OpSpec) (c : Cmd) (s : State), o.absent c (s.accept c) = true) :=
  ⟨⟨cmd [(8, 8, 2 ^ 47)], 100000, by decide +kernel⟩,
   ⟨cmd [(8, 8, 100000)], 100000, by decide +kernel⟩,
   ⟨{ src := .ring 0, clamp := some 8 }, 0, 8, by decide +kernel⟩,
   ⟨opTimeCourseSet, cmd [(16, 1, 13)], up, queuesOf (by decide +kernel), by decide +kernel⟩,
   ⟨opTimeCourseSet, cmd [(16, 1, 13)], { up with ftu := { up.ftu with launches := List.replicate 4096 (due 0x42 []) } }, takesOf (by decide +kernel), by decide +kernel⟩,
   ⟨opStreamOpen, cmd [(8, 8, 2 ^ 47)], { up with variant := .k1024B }, by decide +kernel⟩⟩

/-- Witnesses of the hypotheses of `RegionsGrantWithoutPriority`. -/
theorem witness_RegionsGrantWithoutPriority :
    ∃ (b : AcuBank), ∃ b' : AcuBank, (b'.regions.Perm b.regions ∧ b'.windows = b.windows ∧ b'.tags = b.tags ∧ b'.colours = b.colours) :=
  ⟨hostUp.acu.active, hostUp.acu.active, by decide +kernel⟩

/-- Witnesses of the hypotheses of `SliceFunctionSpreadsEveryBlock`. -/
theorem witness_SliceFunctionSpreadsEveryBlock :
    (∃ fma, fma < 2 ^ 56) ∧
    (∃ fma, fma < 2 ^ 56 ∧
      ∃ n, n < 16) :=
  ⟨⟨2 ^ 56 - 1, by decide +kernel⟩,
   ⟨2 ^ 56 - 1, by decide +kernel, 15, by decide +kernel⟩⟩

/-- Witnesses of the hypotheses of `LocalAddressesMapToChannels`. -/
theorem witness_LocalAddressesMapToChannels :
    (∃ x, x < 2 ^ 30) ∧
    (∃ c, c < 32) ∧
    (∃ off, off < 256) :=
  ⟨⟨2 ^ 30 - 1, by decide +kernel⟩,
   ⟨31, by decide +kernel⟩,
   ⟨255, by decide +kernel⟩⟩


/-- A firmware image whose three opaque functions agree with what it carries, and whose fields are legal, passes every check
but the floor's, which its SVN meets: what the hypotheses about `slotReason` and about verified images ask for beyond the
fields of a state. -/
theorem witness_imageThatPasses (t : Tbl Byte) (h0 : slotField t 0 4 = 0x4957464B) (h1 : slotField t 4 2 = 1) (h2 : imgSvn t ≤ 64)
    (h3 : imgLength t ≤ 7852032) (h4 : imgReserved t = true) (h5 : slotField t 6 2 ≤ 3)
    (d : Config.sha3 (slotBytes t 64 1312) = Config.signerDigest (slotField t 6 2))
    (v : Config.mldsaVerify (slotBytes t 64 1312) (Config.sha3 (slotBytes t 0 6624)) (slotBytes t 6624 2420) = true)
    (g : Config.sha3 (slotBytes t 12288 (imgLength t)) = imgDigest t) : imgReason t 0 = 0 := by
  have a : ¬ (64 < imgSvn t ∨ 7852032 < imgLength t ∨ imgReserved t = false) := by
    rintro (x | x | x)
    · omega
    · omega
    · simp [h4] at x
  have b : ¬ (3 < slotField t 6 2) := by omega
  simp [imgReason, h0, h1, a, b, d, v, g]

/-! ### Ill-formed commands are refused -/

theorem test_wf_size : Instr.wf (.registerWrite 0x318 3 0) = false := by decide
theorem test_wf_aligned : Instr.wf (.registerWrite 0x31A 4 0) = false := by decide
theorem test_wf_register : Instr.wf (.registerWrite 0x314 4 0) = true := by decide
theorem test_wf_emptyMessage : Instr.wf (.homeRequest 0 { read0 with len := 0 }) = false := by decide
theorem test_wf_longMessage : Instr.wf (.messageIngress (.lanePort 16) { read0 with len := 4097 }) = false := by decide
theorem test_wf_rwd : Instr.wf (.homeRwd 0 { read0 with len := 0 }) = false := by decide
theorem test_wf_tenantBody : Instr.wf (.tenantMessageSend 16 (List.replicate 1009 0)) = false := by decide +kernel
theorem test_wf_inlet : Instr.wf (.inletWrite 0 0 0 false false) = false := by decide
theorem test_wf_payload : Instr.wf (.messageIngress (.lanePort 16) { kind := .ioMemWr, len := 513 }) = false := by decide
theorem test_wf_tag : Instr.wf (.messageIngress (.lanePort 16) { kind := .ioMemRd, len := 4, tag := 0x4000 }) = false := by decide
theorem test_wf_linkRate : Instr.wf (.linkUp 16 { mode := 2, rate := 2, width := 2, cxl := true }) = false := by decide
theorem test_wf_laneOrder : Instr.wf (.linkUp 16 { mode := 2, rate := 6, width := 2, cxl := true, laneOrder := [0] }) = false := by decide
theorem test_wf_tunnel : Instr.wf (.tunnelManagementCommand 0 0 []) = false := by decide

/-! ### Numbers that the spec works out -/

/-- R136's case: the line belongs to slice 5. -/
theorem test_slice : sliceOf 0x2A4000010C80 = 5 := by decide
/-- R173's case: its set on a full variant, and on K512-B. -/
theorem test_set_full : Machine.setOf 6 0x2A4000010C80 = 19155 := by decide
theorem test_set_small : Machine.setOf 3 0x2A4000010C80 = 6867 := by decide
/-- R229's case: channel 30 and its channel address. -/
theorem test_channel : channelOf 0x1234567A00 = 30 := by decide
theorem test_channelAddress : caOf 0x1234567A00 = 0x91A2B300 := by decide
/-- R2's case: the K512-B reads 0x0032_0C00 in GLB_CAP. -/
theorem test_capability : State.readBar0 { State.reset with variant := .k512B } 0x10 = 0x00320C00 := by decide +kernel
/-- R345's case: where PRT_LINK_GEN of port 808 lies. -/
theorem test_window_prt : windowAt 0x01C93008 = (.prt 50, 0x3008) := by decide
/-- The generation of port 808 is read there, and 0 on a K512-B, where tile 50 is absent (R343). -/
theorem test_read_generation : (up.setPort 808 { gen := 12 }).readBar0 0x01C93008 % 4096 = 12 := by decide +kernel
theorem test_read_absent : ({ up.setPort 808 { gen := 12 } with variant := .k512B } : State).readBar0 0x01C93008 = 0 := by decide +kernel
/-- CHM_HOST of CHN 41 in slice 5 reads as in every slice window (R165). -/
theorem test_read_host : homeUp.readBar0 (0x200000 + 0x50000 + 0x1000 + 4 * 7) = homeUp.readBar0 (0x200000 + 0x1000 + 4 * 7) := by
  decide +kernel
theorem test_window_host : windowAt 0x002510A4 = (.chm 5, 0x1000 + 4 * 41) := by decide
/-- R205's case: the write that straddles the end of service region 30. -/
theorem test_straddle : decideAccess true false
    { regions := [(30, BitVec.ofNat 128 (0x07 + 2 ^ 8 * 12 + 2 ^ 16 * 10 + 2 ^ 32 * (0x9000001800 / 64)))], req := [(40, { valid := true, vfi := 12 })] }
    [] (some 40) 1 0x9000001B80 256 = (3, 128) := by decide +kernel
/-- The case of chapter 10: 450 MB/s is RATE 400; 10 lines, 84 cells. -/
theorem test_lines : streamLines 400 = 10 := by decide
theorem test_cells : stream0.cellsAt 400 8192 = 84 := by decide
/-- Table 10-8: five courses of pacing. -/
theorem test_pacing : (List.range 5).foldl (fun (x : Nat × List Nat) _ =>
    let y := { stream0 with prod := 1000000, ack := 0, credit := x.1 }.share 8192 8192
    (y.1 - 1000 * y.2.1, x.2 ++ [y.2.1])) (0, []) = (0, [3264, 3264, 3264, 3264, 3328]) := by decide +kernel
/-- A case of chapter 4: the blocks of tile 37 give the one port 592. -/
theorem test_layout : (resolveLayout [] [(0, { en := true, width := 4 }), (4, { en := true, width := 2 }), (10, { en := true, width := 2 })]).map
    (fun x => (x.1, x.2.en, x.2.width)) = [(0, true, 4), (4, false, 2), (10, false, 1)] := by decide
theorem test_layout_narrow : (resolveLayout [] [(0, { en := true, width := 3 }), (4, { en := true, width := 2 }), (10, { en := true, width := 2 })]).map
    (fun x => (x.1, x.2.en, x.2.width)) = [(0, true, 3), (4, false, 2), (10, true, 1)] := by decide

/-- What a line read with XOR mask `m` on its bytes 0 to 63 gives: symbols corrected and lane map; none: it cannot be corrected. -/
def readWith (m : BitVec 512) : Option (Nat × Nat) :=
  match (Line.read {} { data := m }).2 with
  | .corrected e => some (e.length, laneMap e)
  | _ => none
/-- The case of chapter 9: an error of symbols 15 to 17 is lane 5's and is corrected; one more on lane 13 is not. -/
theorem test_lane : readWith (0xFFFFFF <<< 120) = some (3, 0x20) := by decide +kernel
theorem test_twoLanes : readWith ((0xFFFFFF <<< 120) ||| (0xFF <<< 320)) = none := by decide +kernel
/-- The lines and shares of a course (R239): 872 directory lines, and 600 for G = 2,400. -/
theorem test_dirShare : up.dirShare = 872 := by decide +kernel
theorem test_mseShare : ceilDiv (2400 * 8192) 32768 = 600 := by decide

/-! ### Commands -/

/-- The state after a command. -/
def after (i : Instr) (s : State) : State :=
  match exec i s with
  | .next t => t
  | _ => s
/-- STATUS and RESULT of the first completion of pair 0. -/
def answer (s : State) : Nat × Nat := (leNat (s.mgrRead 0x20002 1), leNat (s.mgrRead 0x2000C 4))

/-- Every opcode that needs an engine ends UNIT_ABSENT on a variant without engines (R4). -/
theorem test_streamOpen_absent : answer (after (.streamOpen (cmd [])) { up with variant := .k1024B }) = (1, 0) := by decide +kernel
/-- ACU_QUERY of a granted access answers 0 (R205). -/
theorem test_acuQuery : answer (after (.acuQuery (cmd [(24, 2, 64)])) hostUp) = (0, 0) := by decide +kernel
/-- ACU_QUERY without a requester entry answers the reason and offset 0. -/
theorem test_acuQuery_noRequester : answer (after (.acuQuery (cmd [(24, 2, 64), (26, 2, 9)])) hostUp) = (0, 0x10000 * rNoRequester) := by
  decide +kernel
/-- STREAM_QUERY of a handle without a stream is DENIED (R277). -/
theorem test_streamQuery_denied : answer (after (.streamQuery (cmd [(4, 4, 7)])) up) = (5, 0) := by decide +kernel
/-- STREAM_QUERY takes the handle from bytes 4 to 7. -/
theorem test_streamQuery : answer (after (.streamQuery (cmd [(16, 1, 2)])) (streamUp { stream0 with ack := 77 })) = (0, 77) := by decide +kernel
/-- A handle beyond 4,095 is clamped, and the pair counts it (R322). -/
theorem test_streamQuery_clamp : ((after (.streamQuery (cmd [(4, 4, 5000)])) up).pair 0).clamps = 1 := by decide +kernel
/-- A drive's STATUS gives what it has consumed (R261). -/
theorem test_status : ((after (.driveStatusRead 0 { consumed := 64, mediaRate := 300, seqSeen := 0, state := 0 })
    (streamUp { stream0 with statusOpen := true })).stream 0).map (·.ack) = some 64 := by decide +kernel
/-- An extent is accepted by a host of the instance only (R289). -/
theorem test_extent : ((after (.dcExtentAccepted 0 1 17) hostUp).inst 0).accepted = [] := by decide +kernel
/-- VFI_MAIL_CFG writes its three fields (R302). -/
theorem test_mailCfg : (fun x => (x.vec, x.irqEn, x.tenantEn)) ((after (.vfiMailCfg (cmd [(16, 1, 5), (17, 1, 2)])) hostUp).inst 0) =
    ((5, false, true) : Nat × Bool × Bool) := by decide +kernel
/-- A host's request opens a transaction at its slice. -/
theorem test_homeRequest : (((after (.homeRequest 0 read0) homeUp).slice 0).txns.map (·.line)) = [0] := by decide +kernel
/-- A register write of 4 bytes to GLB_SCRATCH (R350). -/
theorem test_scratch : (after (.registerWrite 0x314 4 0xCAFE) up).glb.scratch = 0xCAFE := by decide +kernel
/-- One of 2 bytes is ignored (R7). -/
theorem test_scratch_short : (after (.registerWrite 0x314 2 0xCAFE) up).glb.scratch = up.glb.scratch := by decide +kernel
/-- An idle module: fabric time runs on by 1/16 ns (log entry 5). -/
theorem test_idle : step up = .next up.tick := rfl
theorem test_tick : up.tick.clock = 1600001 := by decide +kernel
/-- The command at the front of the queue runs, and leaves the queue. -/
theorem test_front : step { up with pending := [.registerWrite 0x314 4 0xCAFE] } = exec (.registerWrite 0x314 4 0xCAFE) up := rfl
/-- No row of the table gives bits. -/
theorem test_words (n w : Nat) : decodeTableWord n w = none := rfl

end Sys2Proof.Tests
end

section
/-!
PROOFS. What the frame around a command's effect leaves alone: it writes the last summary, the interrupt messages, the
journal's writes to the LPDDR6 channels and the counters, and no ring pair.
-/

namespace Sys2Proof.Machine

theorem State.memSubmit_writes (s : State) (r : ChReq) :
    ∃ um up, s.memSubmit r = { s with mem := um, pcn := up } := by
  unfold State.memSubmit
  dsimp only
  split <;> exact ⟨_, _, rfl⟩

/-- Requests put into their channels' queues one after another, each made from the state that the last one left. -/
theorem State.foldl_memSubmit_writes {α : Type} (r : State → α → ChReq) (xs : List α) (s : State) :
    ∃ um up, xs.foldl (fun s x => s.memSubmit (r s x)) s = { s with mem := um, pcn := up } := by
  induction xs generalizing s with
  | nil => exact ⟨_, _, rfl⟩
  | cons x xs ih =>
    obtain ⟨m, p, h⟩ := State.memSubmit_writes s (r s x)
    obtain ⟨m', p', h'⟩ := ih (s.memSubmit (r s x))
    exact ⟨m', p', by rw [List.foldl_cons, h', h]⟩

theorem State.journalOut_writes (s : State) (n : Nat) :
    ∃ um up, s.journalOut n = { s with mem := um, pcn := up } :=
  State.foldl_memSubmit_writes _ _ _

@[simp] theorem State.journalOut_cmd (s : State) (n : Nat) : (s.journalOut n).cmd = s.cmd := by
  obtain ⟨m, p, h⟩ := State.journalOut_writes s n; rw [h]

@[simp] theorem State.noteSummary_cmd (s : State) : s.noteSummary.cmd = s.cmd := by
  unfold State.noteSummary
  dsimp only
  split
  · exact State.sendVector_cmd _ _
  · rfl

@[simp] theorem State.framed_cmd (s u : State) : (s.framed u).cmd = u.cmd := by
  simp [State.framed]

@[simp] theorem State.framed_pair (s u : State) (p : Nat) : (s.framed u).pair p = u.pair p := by
  simp [State.pair]

end Sys2Proof.Machine
end

section
/-!
PROOFS. The global opcodes (Table 12-14).
-/

namespace Sys2Proof.Machine

/-- A one-byte field that may hold 0 to `hi` takes the nearest value, and is clamped above `hi` (R10). -/
theorem Cmd.ranged_byte_upTo (c : Cmd) (off hi : Nat) :
    c.ranged off 1 0 hi = (min hi (c.byte off), if c.byte off ≤ hi then none else some off) := by
  by_cases h : c.le off 1 ≤ hi <;> simp [Cmd.ranged, Cmd.byte, clampNat, h]

theorem completes_nop {c : Cmd} {s : State} (h : Instant opNop c s) : Completes (.nop c) 0x00 c s id 0 :=
  OpSpec.completes (o := opNop) rfl h rfl rfl rfl

theorem completes_glbIdentify {c : Cmd} {s : State} (h : Instant opGlbIdentify c s) :
    Completes (.glbIdentify c) 0x01 c s (fun t => t.mgrWrite (c.le 16 8) t.glbImage) (capOf s.variant).toNat :=
  OpSpec.completes (o := opGlbIdentify) rfl h rfl rfl (by simp [opGlbIdentify])

theorem completes_ringClampRead {c : Cmd} {s : State} (h : Instant opRingClampRead c s) :
    Completes (.ringClampRead c) 0x02 c s
      (fun t => if bitOf (c.byte 17) 0 then
          t.modPair (min 63 (c.byte 16)) fun r => { r with clamps := 0, lastClamp := 0 }
        else t)
      ((s.accept c).pair (min 63 (c.byte 16))).clamps (if c.byte 16 ≤ 63 then none else some 16) :=
  OpSpec.completes (o := opRingClampRead) rfl h rfl rfl (by simp [opRingClampRead, Cmd.ranged_byte_upTo])

theorem completes_eventFilterSet {c : Cmd} {s : State} (h : Instant opEventFilterSet c s) :
    Completes (.eventFilterSet c) 0x03 c s
      (fun t => { t with cmd := { t.cmd with evtFilter := BitVec.ofNat 256 (c.le 24 32) } }) 0 :=
  OpSpec.completes (o := opEventFilterSet) rfl h rfl rfl rfl

theorem exec_reservedOpcode {c : Cmd} {s : State} (h : s.held = none) :
    exec (.reservedOpcode c) s =
      .next (s.framed ((s.accept c).complete (c.ticket c.opcode s.ft) stBadOpcode 0)) := by
  rw [show exec (.reservedOpcode c) s = act s (fun t => (t.accept c).badOpcode c) from rfl, act_running h,
    State.badOpcode, State.accept_ft]

/-- Settles O4: each opcode's body answers OK with its effect, and a reserved one completes as it is accepted. -/
theorem globalOpcodesComplete : Obligations.GlobalOpcodesComplete := by
  unfold Obligations.GlobalOpcodesComplete
  exact fun c s => ⟨completes_nop, completes_glbIdentify, completes_ringClampRead, completes_eventFilterSet,
    exec_reservedOpcode⟩

end Sys2Proof.Machine
end

section
/-!
PROOFS. Register writes (R7, R8, R339 to R349): the window that a BAR0 offset falls in, a 64-bit register written in two
halves, and the reset control.
-/

namespace Sys2Proof.Machine

/-! ### The windows -/

theorem windowAt_cmd {a : Nat} (h : 0x10000 ≤ a) (h' : a < 0x20000) : windowAt a = (.cmd, a % 0x10000) := by
  simp (disch := omega) only [windowAt, if_neg, if_pos]

theorem windowAt_ftu {a : Nat} (h : 0x20000 ≤ a) (h' : a < 0x30000) : windowAt a = (.ftu, a % 0x10000) := by
  simp (disch := omega) only [windowAt, if_neg, if_pos]

theorem windowAt_mse {a : Nat} (h : 0x400000 ≤ a) (h' : a < 0x500000) :
    windowAt a = (.mse (a % 0x100000 / 0x40000), a % 0x40000) := by
  simp (disch := omega) only [windowAt, if_neg, if_pos]

theorem State.writeBar0_glb (s : State) {a : Nat} (v : Nat) (h : a < 0x10000) : s.writeBar0 a v = s.glbWrite a v := by
  simp [State.writeBar0, windowAt, h, State.windowAbsent, State.writeGate, State.windowWrite]

theorem State.writeBar0_cmd (s : State) {a : Nat} (v : Nat) (h : 0x10000 ≤ a) (h' : a < 0x20000) :
    s.writeBar0 a v = s.cmdWrite (a % 0x10000) v := by
  simp [State.writeBar0, windowAt_cmd h h', State.windowAbsent, State.writeGate, State.windowWrite]

/-- A write of a register of the FTU window that waits for FTU_RUN is discarded and counted before it (R344). -/
theorem State.writeBar0_ftu_early {s : State} {a : Nat} (v : Nat) (h : 0x20000 ≤ a) (h' : a < 0x30000)
    (hg : s.writeGate (a % 0x10000) .ftu = some s.glb.ftuRun) (hr : s.glb.ftuRun = false) :
    s.writeBar0 a v = { s with glb := { s.glb with notReadyWr := satAdd 32 s.glb.notReadyWr 1 } } := by
  simp [State.writeBar0, windowAt_ftu h h', State.windowAbsent, hg, State.gated, hr]

/-- The engines' windows are absent on a variant without engines (R343). -/
theorem State.writeBar0_mse_absent {s : State} {a : Nat} (v : Nat) (h : 0x400000 ≤ a) (h' : a < 0x500000)
    (hf : s.isF = false) : s.writeBar0 a v = s := by
  simp [State.writeBar0, windowAt_mse h h', State.windowAbsent, hf]

/-- Register `o` of ring pair `p`'s block. -/
theorem State.writeBar0_pair (s : State) (p : Ring) {o : Nat} (v : Nat) (h : o < 0x40) :
    s.writeBar0 (0x11000 + 0x40 * p.val + o) v = s.pairWrite p.val o (0x11000 + 0x40 * p.val) v := by
  have hp := p.isLt
  rw [s.writeBar0_cmd v (by omega) (by omega), State.cmdWrite, if_neg (by omega), if_pos (by omega)]
  congr 1
  · omega
  · omega
  · simp only [alignDown]
    omega

/-! ### An SQ base in two halves -/

@[simp] theorem State.pair_stageLo (s : State) (a v p : Nat) : (s.stageLo a v).pair p = s.pair p := rfl

@[simp] theorem State.pair_regClampIf (s : State) (b : Bool) (p : Nat) : (s.regClampIf b).pair p = s.pair p := by
  cases b <;> rfl

/-- The _LO half of a value, staged, and its _HI half commit the value (R8). -/
theorem State.commit64_stageLo (s : State) (a : Nat) (v : BitVec 64) :
    (s.stageLo a (v.toNat % 2 ^ 32)).commit64 a (v.toNat / 2 ^ 32) = v.toNat := by
  have hv := v.isLt
  simp only [State.commit64, State.stageLo, tget_tset_self, BitVec.toNat_ofNat]
  omega

/-- The _HI register of a disabled pair's SQ base commits the value, aligned to the ring (R311, R312). -/
theorem State.pair_pairWrite_sqBaseHi {s : State} {p : Nat} (a v : Nat) (h : (s.pair p).en = false) :
    (s.pairWrite p 0x04 a v).pair p =
      { s.pair p with sqBase := alignDown (baseAlign (s.pair p).log2 6) (s.commit64 a v) } := by
  simp [State.pairWrite, h]

/-- The two halves of a 64-bit value, written in ascending order, set the SQ base of a disabled pair. -/
theorem State.pair_writeBar0_sqBase {s : State} {p : Ring} (v : BitVec 64) (h : (s.pair p).en = false) :
    ((s.writeBar0 (0x11000 + 0x40 * p.val) (v.toNat % 2 ^ 32)).writeBar0 (0x11000 + 0x40 * p.val + 4)
      (v.toNat / 2 ^ 32)).pair p =
      { s.pair p with sqBase := alignDown (baseAlign (s.pair p).log2 6) v.toNat } := by
  have hlo : s.writeBar0 (0x11000 + 0x40 * p.val) (v.toNat % 2 ^ 32) =
      s.stageLo (0x11000 + 0x40 * p.val) (v.toNat % 2 ^ 32) := s.writeBar0_pair p (o := 0x00) _ (by decide)
  rw [hlo, State.writeBar0_pair _ p _ (by decide), State.pair_pairWrite_sqBaseHi _ _ (by simpa using h),
    State.commit64_stageLo, State.pair_stageLo]

/-! ### The reset control -/

/-- Without the GUARD a write of GLB_RESET_CTRL does nothing (R349). -/
theorem State.resetCtrl_unguarded (s : State) {v : Nat} (h : v / 2 ^ 16 % 2 ^ 16 ≠ 0x4B31) : s.resetCtrl v = s := by
  rw [State.resetCtrl, if_pos h]

/-- KIND 2 with the GUARD, no reset being due: the reset falls due 1 µs later (R349). -/
theorem State.resetCtrl_module {s : State} {v : Nat} (hg : v / 2 ^ 16 % 2 ^ 16 = 0x4B31) (hk : v % 16 = 2)
    (hd : s.glb.resetDue = none) :
    s.resetCtrl v = { s with glb := { s.glb with resetDue := some (2, s.clock + us16 1) } } := by
  rw [State.resetCtrl, if_neg (not_not.mpr hg)]
  simp [hk, hd, State.regClampIf]

/-! ### The rows of the table -/

/-- Two effects that agree on a state are one there. -/
theorem Acts.congr {i : Instr} {s : State} {f g : State → State} (h : Acts i s f) (hfg : f s = g s) : Acts i s g := by
  rwa [Acts, ← hfg]

theorem exec_registerWrite (a : BitVec 25) (n : Nat) (v : BitVec 64) (s : State) :
    exec (.registerWrite a n v) s = actFmp s fun s => s.busWrite a.toNat n v := rfl

theorem exec_moduleResetRequest (w : Word) (s : State) :
    exec (.moduleResetRequest w) s = actFmp s fun s => s.resetCtrl (w.toNat / 16 * 16 + 2) := rfl

section
variable {s : State} (h : s.Alive)
include h

theorem acts_registerWrite (a : BitVec 25) (n : Nat) (v : BitVec 64) :
    Acts (.registerWrite a n v) s fun s => s.busWrite a.toNat n v :=
  (exec_registerWrite a n v s).trans (actFmp_alive h _)

theorem acts_registerWrite_four (a : BitVec 25) (v : BitVec 64) :
    Acts (.registerWrite a 4 v) s fun s => s.writeBar0 a.toNat (v.toNat % 2 ^ 32) :=
  acts_registerWrite h a 4 v

theorem acts_registerWrite_eight (a : BitVec 25) (v : BitVec 64) :
    Acts (.registerWrite a 8 v) s fun s =>
      (s.writeBar0 a.toNat (v.toNat % 2 ^ 32)).writeBar0 (a.toNat + 4) (v.toNat / 2 ^ 32) :=
  acts_registerWrite h a 8 v

/-- A write shorter than a register has no effect (R7). -/
theorem acts_registerWrite_short (a : BitVec 25) {n : Nat} (hn : n < 4) (v : BitVec 64) :
    Acts (.registerWrite a n v) s id :=
  (acts_registerWrite h a n v).congr (by
    rw [State.busWrite, if_neg (by omega), if_neg (by omega), id])

theorem acts_registerWrite_scratch (v : BitVec 64) :
    Acts (.registerWrite 0x314 4 v) s fun s => { s with glb := { s.glb with scratch := v.truncate 32 } } := by
  have hv : BitVec.ofNat 32 (v.toNat % 2 ^ 32) = v.truncate 32 := BitVec.eq_of_toNat_eq (by simp)
  refine (acts_registerWrite_four h 0x314 v).congr ((s.writeBar0_glb _ (by decide)).trans ?_)
  rw [← hv]
  rfl

theorem registerWrite_sqBase {p : Ring} (v : BitVec 64) (hd : (s.pair p).en = false) :
    ∃ t, exec (.registerWrite (BitVec.ofNat 25 (0x11000 + 0x40 * p.val)) 8 v) s = .next t ∧
      (t.pair p).sqBase = alignDown (baseAlign (s.pair p).log2 6) v.toNat ∧ (t.pair p).cqBase = (s.pair p).cqBase := by
  have ha : (BitVec.ofNat 25 (0x11000 + 0x40 * p.val)).toNat = 0x11000 + 0x40 * p.val := by
    have hp := p.isLt
    rw [BitVec.toNat_ofNat, Nat.mod_eq_of_lt (by omega)]
  refine ⟨_, acts_registerWrite_eight h _ v, ?_⟩
  rw [State.framed_pair, ha, State.pair_writeBar0_sqBase v hd]
  exact ⟨rfl, rfl⟩

theorem acts_registerWrite_ftu_early (v : BitVec 64) (hr : s.glb.ftuRun = false) :
    Acts (.registerWrite 0x20010 4 v) s fun s =>
      { s with glb := { s.glb with notReadyWr := satAdd 32 s.glb.notReadyWr 1 } } :=
  (acts_registerWrite_four h 0x20010 v).congr (State.writeBar0_ftu_early _ (by decide) (by decide) rfl hr)

theorem acts_registerWrite_mse_absent (v : BitVec 64) (hf : s.isF = false) :
    Acts (.registerWrite 0x400004 4 v) s id :=
  (acts_registerWrite_four h 0x400004 v).congr (State.writeBar0_mse_absent _ (by decide) (by decide) hf)

theorem acts_moduleResetRequest (w : Word) :
    Acts (.moduleResetRequest w) s fun s => s.resetCtrl (w.toNat / 16 * 16 + 2) :=
  (exec_moduleResetRequest w s).trans (actFmp_alive h _)

theorem acts_moduleResetRequest_guarded {w : Word} (hg : w.toNat / 2 ^ 16 = 0x4B31) (hd : s.glb.resetDue = none) :
    Acts (.moduleResetRequest w) s fun s => { s with glb := { s.glb with resetDue := some (2, s.clock + us16 1) } } :=
  (acts_moduleResetRequest h w).congr (State.resetCtrl_module (by omega) (by omega) hd)

theorem acts_moduleResetRequest_unguarded {w : Word} (hg : w.toNat / 2 ^ 16 ≠ 0x4B31) :
    Acts (.moduleResetRequest w) s id :=
  (acts_moduleResetRequest h w).congr (State.resetCtrl_unguarded s (by have := w.isLt; omega))

end

/-- Settles O26: each clause is the bus write of its size at the window that its address falls in. -/
theorem registerWritesReachTheirWindow : Obligations.RegisterWritesReachTheirWindow := by
  unfold Obligations.RegisterWritesReachTheirWindow
  exact fun a v w p s h => ⟨acts_registerWrite_four h a v, acts_registerWrite_eight h a v,
    acts_registerWrite_short h a (by decide) v, acts_registerWrite_short h a (by decide) v,
    acts_registerWrite_scratch h v, fun hd _ => registerWrite_sqBase h v hd, acts_registerWrite_ftu_early h v,
    acts_registerWrite_mse_absent h v, acts_moduleResetRequest_guarded h, acts_moduleResetRequest_unguarded h⟩

end Sys2Proof.Machine
end

section
/-!
PROOFS. The cells of the switch core (R105 to R117): what a slot of the pattern, a cell's arrival and the loss of an awaited
cell do, each from the rules of the operations on a tile's queues.
-/

namespace Sys2Proof.Machine

/-! ### A tile of the core after the shared operations -/

@[simp] theorem State.journalOut_swc (s : State) (n : Nat) : (s.journalOut n).swc = s.swc := by
  obtain ⟨m, p, h⟩ := State.journalOut_writes s n; rw [h]

@[simp] theorem State.noteSummary_swc (s : State) : s.noteSummary.swc = s.swc := by
  unfold State.noteSummary
  dsimp only
  split
  · exact State.sendVector_swc _ _
  · rfl

@[simp] theorem State.framed_swc (s u : State) : (s.framed u).swc = u.swc := by
  simp [State.framed]

@[simp] theorem State.swcTile_framed (s u : State) (k : Nat) : (s.framed u).swcTile k = u.swcTile k := by
  simp [State.swcTile]

@[simp] theorem State.swcTile_cntTile (s : State) (t code : Nat) (vfi port : Option Nat) (n k : Nat) :
    (s.cntTile t code vfi port n).swcTile k = s.swcTile k := rfl

@[simp] theorem State.cntDie_swc (s : State) (i j : Nat) : (s.cntDie i j).swc = s.swc := by
  unfold State.cntDie
  split <;> rfl

@[simp] theorem State.swcTile_cntDie (s : State) (i j k : Nat) : (s.cntDie i j).swcTile k = s.swcTile k := by
  simp [State.swcTile]

@[simp] theorem State.swcTile_record (s : State) (cause island t64 : Nat) (fields : List (Nat × Nat)) (k : Nat) :
    (s.record cause island t64 fields).swcTile k = s.swcTile k := by
  simp [State.swcTile]

/-- A note of a VFI's quota writes in the tiles alone, and of its own tile the VFIs at their quota alone (R290). -/
theorem State.noteQuota_writes (s : State) (t vfi : Nat) :
    ∃ ts l, s.noteQuota t vfi = { s with swc := { s.swc with tiles := ts } } ∧ tget {} ts t = { s.swcTile t with full := l } := by
  unfold State.noteQuota
  dsimp only
  split
  · split
    · exact ⟨_, _, rfl, tget_tset_self ..⟩
    · exact ⟨s.swc.tiles, _, rfl, rfl⟩
  · split
    · exact ⟨_, _, rfl, tget_tset_self ..⟩
    · exact ⟨s.swc.tiles, _, rfl, rfl⟩

@[simp] theorem State.noteQuota_clock (s : State) (t vfi : Nat) : (s.noteQuota t vfi).clock = s.clock := by
  obtain ⟨ts, l, h, -⟩ := State.noteQuota_writes s t vfi; rw [h]

@[simp] theorem State.noteQuota_flights (s : State) (t vfi : Nat) : (s.noteQuota t vfi).swc.flights = s.swc.flights := by
  obtain ⟨ts, l, h, -⟩ := State.noteQuota_writes s t vfi; rw [h]

theorem State.swcTile_noteQuota (s : State) (t vfi : Nat) :
    ∃ l, (s.noteQuota t vfi).swcTile t = { s.swcTile t with full := l } := by
  obtain ⟨ts, l, h, hl⟩ := State.noteQuota_writes s t vfi
  exact ⟨l, by rw [h]; exact hl⟩

@[simp] theorem State.dropCell_clock (s : State) (t : Nat) (c : Cell) : (s.dropCell t c).clock = s.clock := by
  simp [State.dropCell]

/-- The stop states of any ports of a tile write its limits and stops alone. -/
theorem State.swcTile_foldl_restopPort (t : Nat) (os : List Nat) (s : State) :
    ∃ k, (os.foldl (fun s o => s.restopPort t o) s).swcTile t = { s.swcTile t with caps := k } := by
  induction os generalizing s with
  | nil => exact ⟨_, rfl⟩
  | cons o os ih =>
    obtain ⟨k, hk⟩ := ih (s.restopPort t o)
    exact ⟨k, by rw [List.foldl_cons, hk, State.restopPort, State.swcTile_setSwcTile_self]⟩

theorem State.swcTile_restop (s : State) (t off : Nat) :
    ∃ k, (s.restop t off).swcTile t = { s.swcTile t with caps := k } := by
  unfold State.restop
  dsimp only
  split
  · exact State.swcTile_foldl_restopPort t _ s
  · exact State.swcTile_foldl_restopPort t [off] s

/-! ### A slot of the pattern (R108 to R110) -/

theorem mem_of_mem_heads {c : Cell} {seen cs : List Cell} (h : c ∈ heads seen cs) : c ∈ cs := by
  induction cs generalizing seen with
  | nil => exact h
  | cons d cs ih =>
    rw [heads] at h
    split at h
    · exact List.mem_cons_of_mem _ (ih h)
    · rcases List.mem_cons.1 h with rfl | h
      · exact List.mem_cons_self ..
      · exact List.mem_cons_of_mem _ (ih h)

/-- No head has a property that no cell of the queues has. -/
theorem filter_heads_eq_nil {p : Cell → Bool} {cs : List Cell} (h : ∀ c ∈ cs, p c = false) : (heads [] cs).filter p = [] :=
  List.filter_eq_nil_iff.2 fun c hc => by simp [h c (mem_of_mem_heads hc)]

theorem State.stage2Now_of_empty {s : State} {j : Nat} (h : (s.swcTile j).stage2 = []) : s.stage2Now j = s := by
  simp [State.stage2Now, h]

theorem State.answerRequest_of_unasked {s : State} {j : Nat} (h : (s.swcTile j).asks = []) : s.answerRequest j = s := by
  simp [State.answerRequest, h]

theorem State.sendRequest_of_empty {s : State} {i : Nat} (h : (s.swcTile i).voq = []) : s.sendRequest i = s := by
  simp [State.sendRequest, h, heads]

/-- What a slot counts last: a tile with a stop, and one that withholds a port's credits. -/
def State.slotCounts (s : State) (t : Nat) : State :=
  let s := if s.anyStop t then s.cntTile t 0x48 else s
  if (List.range 16).any fun i => s.portOpen t i && s.creditsShut (16 * t + i) then s.cntTile t 0x4F else s

@[simp] theorem State.slotCounts_swc (s : State) (t : Nat) : (s.slotCounts t).swc = s.swc := by
  unfold State.slotCounts
  dsimp only
  split <;> split <;> rfl

@[simp] theorem State.swcTile_slotCounts (s : State) (t k : Nat) : (s.slotCounts t).swcTile k = s.swcTile k := by
  simp [State.swcTile]

theorem State.slotCounts_of_open {s : State} {t : Nat} (hs : s.anyStop t = false)
    (hc : ∀ i, i < 16 → s.portOpen t i = true → s.creditsShut (16 * t + i) = false) : s.slotCounts t = s := by
  have hno : (List.range 16).any (fun i => s.portOpen t i && s.creditsShut (16 * t + i)) = false := by
    simpa using hc
  simp [State.slotCounts, hs, hno]

theorem State.coreSlot_of_not_running {s : State} {t : Nat} (h : s.glb.coreRun = false ∨ s.tileExists t = false) :
    s.coreSlot t = s := by
  rcases h with h | h <;> simp [State.coreSlot, h]

/-- A slot in which no head is lost and the tile is left with nothing to send, to ask or to answer: its meeting alone. -/
theorem State.coreSlot_of_meeting {s u : State} {t : Nat} (hr : s.glb.coreRun = true) (ht : s.tileExists t = true)
    (hold : ∀ c ∈ (s.swcTile t).voq, s.overAge t c = false)
    (hq : ∀ c ∈ (s.swcTile t).voq, (s.swcTile t).quarantined c.place = false) (hu : s.meetNow t = u)
    (h2 : (u.swcTile t).stage2 = []) (ha : (u.swcTile t).asks = []) (hv : (u.swcTile t).voq = []) :
    s.coreSlot t = u.slotCounts t := by
  simp only [State.coreSlot, hr, ht, Bool.and_self, if_true, filter_heads_eq_nil hold, filter_heads_eq_nil hq,
    List.foldl_nil, hu, State.stage2Now_of_empty h2, State.answerRequest_of_unasked ha, State.sendRequest_of_empty hv]
  rfl

/-- A slot's meeting is over in a tile: no assignment is left to it, and no request up to slot `now`. -/
def State.closeMeeting (s : State) (t now : Nat) : State :=
  s.modSwcTile t fun y => { y with assigned := [], requests := y.requests.filter fun r => decide (now < r.slot) }

@[simp] theorem State.closeMeeting_flights (s : State) (t now : Nat) : (s.closeMeeting t now).swc.flights = s.swc.flights := rfl
@[simp] theorem State.portOpen_closeMeeting (s : State) (t now k i : Nat) :
    (s.closeMeeting t now).portOpen k i = s.portOpen k i := rfl

@[simp] theorem State.swcTile_closeMeeting_self (s : State) (t now : Nat) :
    (s.closeMeeting t now).swcTile t = { s.swcTile t with
      assigned := [], requests := (s.swcTile t).requests.filter fun r => decide (now < r.slot) } :=
  State.swcTile_modSwcTile_self s t _

/-- Of any tile, it leaves what reads neither assignments nor requests. -/
theorem State.swcTile_closeMeeting_keeps {α : Type} (part : TileSwc → α) (s : State) (t now k : Nat)
    (hp : ∀ y as rs, part { y with assigned := as, requests := rs } = part y) :
    part ((s.closeMeeting t now).swcTile k) = part (s.swcTile k) := by
  by_cases h : k = t
  · rw [h, State.swcTile_closeMeeting_self, hp]
  · rw [State.closeMeeting, State.swcTile_modSwcTile_ne s _ h]

@[simp] theorem State.anyStop_closeMeeting (s : State) (t now k : Nat) : (s.closeMeeting t now).anyStop k = s.anyStop k := by
  simp only [State.anyStop, State.swcCounts, State.stopped,
    s.swcTile_closeMeeting_keeps TileSwc.caps t now _ fun _ _ _ => rfl]
  rfl

@[simp] theorem State.creditsShut_closeMeeting (s : State) (t now p : Nat) :
    (s.closeMeeting t now).creditsShut p = s.creditsShut p := by
  simp only [State.creditsShut, State.poolShut, State.inHeld, State.inHeldOf, TileSwc.inCapOf,
    s.swcTile_closeMeeting_keeps TileSwc.caps t now _ fun _ _ _ => rfl,
    s.swcTile_closeMeeting_keeps TileSwc.inCells t now _ fun _ _ _ => rfl,
    s.swcTile_closeMeeting_keeps TileSwc.voq t now _ fun _ _ _ => rfl,
    s.swcTile_closeMeeting_keeps TileSwc.full t now _ fun _ _ _ => rfl]
  rfl

@[simp] theorem State.portOpen_cntTile (s : State) (t code : Nat) (vfi port : Option Nat) (n k i : Nat) :
    (s.cntTile t code vfi port n).portOpen k i = s.portOpen k i := rfl
@[simp] theorem State.anyStop_cntTile (s : State) (t code : Nat) (vfi port : Option Nat) (n k : Nat) :
    (s.cntTile t code vfi port n).anyStop k = s.anyStop k := rfl
@[simp] theorem State.creditsShut_cntTile (s : State) (t code : Nat) (vfi port : Option Nat) (n p : Nat) :
    (s.cntTile t code vfi port n).creditsShut p = s.creditsShut p := rfl

/-- A meeting without an assignment is counted as idle. -/
theorem State.meetNow_of_unassigned {s : State} {t : Nat} (h : (s.swcTile t).assigned = []) :
    s.meetNow t = (s.cntTile t 0x43).closeMeeting t s.slot := by
  simp [State.meetNow, h, State.closeMeeting, State.modSwcTile]

/-- A tile with nothing to do counts its idle meeting, and nothing else. -/
theorem State.coreSlot_of_nothing {s : State} {t : Nat} (hr : s.glb.coreRun = true) (ht : s.tileExists t = true)
    (ha : (s.swcTile t).asks = []) (h2 : (s.swcTile t).stage2 = []) (hv : (s.swcTile t).voq = [])
    (hn : (s.swcTile t).assigned = []) (hs : s.anyStop t = false)
    (hc : ∀ i, i < 16 → s.portOpen t i = true → s.creditsShut (16 * t + i) = false) :
    s.coreSlot t = (s.cntTile t 0x43).closeMeeting t s.slot := by
  rw [State.coreSlot_of_meeting hr ht (by simp [hv]) (by simp [hv]) (State.meetNow_of_unassigned hn) (by simpa using h2)
    (by simpa using ha) (by simpa using hv)]
  exact State.slotCounts_of_open (by simpa using hs) (by simpa using hc)

/-- A cell begins to cross a channel of the core. -/
def State.putOnWay (s : State) (f : Flight) : State := { s with swc := { s.swc with flights := s.swc.flights ++ [f] } }

@[simp] theorem State.putOnWay_flights (s : State) (f : Flight) : (s.putOnWay f).swc.flights = s.swc.flights ++ [f] := rfl
@[simp] theorem State.swcTile_putOnWay (s : State) (f : Flight) (k : Nat) : (s.putOnWay f).swcTile k = s.swcTile k := rfl
@[simp] theorem State.setSwcTile_flights (s : State) (k : Nat) (v : TileSwc) :
    (s.setSwcTile k v).swc.flights = s.swc.flights := rfl

/-- A named cell whose place is not in QUARANTINE is sent with the next SEQ of its pair (R109, R113). -/
theorem State.dispatch_of_found {s : State} {i j : Nat} {c : Cell} {name : Nat × Nat × Nat}
    (hc : (s.swcTile i).voq.find? (·.name == name) = some c) (hq : (s.swcTile i).quarantined c.place = false) :
    s.dispatch i j name =
      ((((s.setSwcTile i { s.swcTile i with
        voq := (s.swcTile i).voq.erase c
        seqOut := tset 0 (s.swcTile i).seqOut c.dstTile ((tget 0 (s.swcTile i).seqOut c.dstTile + 1) % 65536) }).putOnWay
          { stage2 := false, src := i, dst := j, cell := { c with seq := tget 0 (s.swcTile i).seqOut c.dstTile }
            at16 := s.clock }).cntTile i 0x40 (some c.vfi) (some c.srcOff)).cntDie i j).noteQuota i c.vfi := by
  simp only [State.dispatch, hc, hq, Bool.false_eq_true, if_false]
  rfl

/-- The only cell of a tile's ingress queues is sent and keeps its place. -/
theorem State.dispatch_alone {s : State} {i : Nat} {c : Cell} (j : Nat) (hv : (s.swcTile i).voq = [c])
    (hq : (s.swcTile i).quarantined c.place = false) :
    (s.dispatch i j c.name).swc.flights = s.swc.flights ++
        [{ stage2 := false, src := i, dst := j, cell := { c with seq := tget 0 (s.swcTile i).seqOut c.dstTile }, at16 := s.clock }] ∧
      ∃ l, (s.dispatch i j c.name).swcTile i = { s.swcTile i with
        voq := [], full := l
        seqOut := tset 0 (s.swcTile i).seqOut c.dstTile ((tget 0 (s.swcTile i).seqOut c.dstTile + 1) % 65536) } := by
  rw [State.dispatch_of_found (by simp [hv]) hq]
  refine ⟨by simp, ?_⟩
  obtain ⟨l, hl⟩ := State.swcTile_noteQuota _ i c.vfi
  exact ⟨l, hl.trans (by simp [hv])⟩

/-- The meeting that sends the only cell of the tile's queues forgets its assignment. -/
theorem State.meetNow_of_assigned {s : State} {t : Nat} {a : Meeting} {c : Cell} (hv : (s.swcTile t).voq = [c])
    (hn : (s.swcTile t).assigned = [a]) (hs : a.slot = s.slot) (hcs : a.cells = [c.name])
    (hq : (s.swcTile t).quarantined c.place = false) :
    s.meetNow t = (s.dispatch t a.peer c.name).closeMeeting t s.slot := by
  obtain ⟨hf, l, ht⟩ := State.dispatch_alone a.peer hv hq
  simp [State.meetNow, hn, hs, hcs, hf, ht, State.closeMeeting, State.modSwcTile]

/-- A tile with one cell, assigned for this slot's meeting, sends it. -/
theorem State.coreSlot_of_assigned {s : State} {t : Nat} {a : Meeting} {c : Cell} (hr : s.glb.coreRun = true)
    (ht : s.tileExists t = true) (ha : (s.swcTile t).asks = []) (h2 : (s.swcTile t).stage2 = [])
    (hv : (s.swcTile t).voq = [c]) (hn : (s.swcTile t).assigned = [a]) (hs : a.slot = s.slot) (hcs : a.cells = [c.name])
    (hold : s.overAge t c = false) (hq : (s.swcTile t).quarantined c.place = false) :
    s.coreSlot t = ((s.dispatch t a.peer c.name).closeMeeting t s.slot).slotCounts t := by
  obtain ⟨-, l, hd⟩ := State.dispatch_alone a.peer hv hq
  exact State.coreSlot_of_meeting hr ht (by simpa [hv] using hold) (by simpa [hv] using hq)
    (State.meetNow_of_assigned hv hn hs hcs hq) (by simp [hd, h2]) (by simp [hd, ha]) (by simp [hd])

theorem acts_coreSlot {s : State} (h : s.held = none) (t : Tile) : Acts (.coreSlot t) s fun s => s.coreSlot t :=
  (show exec (.coreSlot t) s = act s fun s => s.coreSlot t from rfl).trans (act_running h _)

theorem coreSlots : Sys2Proof.Claims.CoreSlots := by
  intro t a c s h x runs
  refine ⟨fun hr => ?_, fun ht => ?_, ?_, ?_⟩
  · exact (acts_coreSlot h t).congr (State.coreSlot_of_not_running (.inl hr))
  · exact (acts_coreSlot h t).congr (State.coreSlot_of_not_running (.inr ht))
  · rintro ⟨hr, ht, ha, h2⟩ hv hn hs hc
    exact (acts_coreSlot h t).congr (State.coreSlot_of_nothing hr ht ha h2 hv hn hs hc)
  · rintro ⟨hr, ht, ha, h2⟩ hv hn hs hcs hold hq
    obtain ⟨hf, l, hd⟩ := State.dispatch_alone a.peer hv hq
    refine ⟨_, acts_coreSlot h t, ?_⟩
    simp [State.coreSlot_of_assigned hr ht ha h2 hv hn hs hcs hold hq, hf, hd, x]

/-! ### The arrival of a cell (R13, R105, R109, R117) -/

@[simp] theorem State.slot_setSwcTile (s : State) (k : Nat) (v : TileSwc) : (s.setSwcTile k v).slot = s.slot := rfl

/-- Cell `f` is at the end of its channel from tile `src`: the place that it left is free (R105). -/
def State.landed (s : State) (f : Flight) (src : Nat) : State :=
  State.dropCell { s with swc := { s.swc with flights := s.swc.flights.erase f } } src f.cell

/-- What tile `t` finds on a cell that it does not lose: a corrected header, counted, or quarters to poison (R117). -/
def State.inspected (s : State) (t : Nat) (c : Cell) : CellFault → State × Cell
  | .payload q => s.poisonCell t c q
  | .headerCorrected =>
    (((s.modSwcTile t fun x => { x with hdrCorr := satAdd 16 x.hdrCorr 1 }).cntTile t 0x51).sramError t 1 false, c)
  | _ => (s, c)

/-- A cell takes a place where it arrives: in the stage 2 pool of an intermediate tile, or in the resequencer of its
egress tile (R109, R114). -/
def State.placed (s : State) (stage2 : Bool) (t : Nat) (c : Cell) : State :=
  let y := (s.swcTile t).take s.ft
  let u := s.setSwcTile t y.1
  if stage2 then u.reseqIn t { c with place := y.2 }
  else u.modSwcTile t fun x => { x with stage2 := x.stage2 ++ [(s.slot, { c with place := y.2 })] }

section
variable {s : State} {st2 : Bool} {src dst : Nat} {fault : CellFault}

theorem State.cellArrival_of_none
    (h : s.swc.flights.find? (fun f => f.stage2 == st2 && f.src == src && f.dst == dst) = none) :
    s.cellArrival st2 src dst fault = s := by
  simp only [State.cellArrival, h]

variable {f : Flight} (h : s.swc.flights.find? (fun f => f.stage2 == st2 && f.src == src && f.dst == dst) = some f)
include h

/-- A cell with a header that can be read is inspected and takes a place. -/
theorem State.cellArrival_of_readable (hf : fault ≠ .headerUncorrectable) :
    s.cellArrival st2 src dst fault =
      State.placed ((s.landed f src).inspected dst f.cell fault).1 st2 dst ((s.landed f src).inspected dst f.cell fault).2 := by
  cases fault with
  | headerUncorrectable => exact absurd rfl hf
  | none | headerCorrected | payload q =>
    simp only [State.cellArrival, h, reduceCtorEq, if_false, if_true, State.slot_setSwcTile]
    rfl

/-- One whose header cannot be corrected is lost (R117). -/
theorem State.cellArrival_of_unreadable :
    s.cellArrival st2 src dst .headerUncorrectable =
      let r := s.landed f src
      let r := { r with swc := { r.swc with lost := r.swc.lost ++ [f.cell] } }
      ((r.modSwcTile dst fun x => { x with hdrUnc := satAdd 16 x.hdrUnc 1, err := x.err ||| 4 }).sramError dst 1 true).record
        0x52 dst s.now64 [(1, dst), (2, f.cell.place)] := by
  have hclock : (s.landed f src).clock = s.clock := State.dropCell_clock ..
  have hnow : s.now64 = (s.landed f src).now64 := by rw [State.now64, State.now64, hclock]
  simp only [State.cellArrival, h, reduceCtorEq, if_false, if_true, hnow]
  rfl

end

/-! ### The resequencer (R114, R116, R123) -/

/-- Behind cells of which none from another ingress tile entered in its slot, a cell enters last. -/
theorem State.placeBack_last (s : State) {c : Cell} {ds : List Cell}
    (h : ∀ d ∈ ds, d.slotIn = c.slotIn → d.srcTile = c.srcTile) : s.placeBack c ds = c :: ds := by
  cases ds with
  | nil => rfl
  | cons d ds =>
    rw [State.placeBack, if_neg]
    rintro ⟨hs, hne, -⟩
    exact hne (h d (List.mem_cons_self ..) hs)

theorem State.swcTile_queueEgress {s : State} {t : Nat} {c : Cell}
    (h : ∀ d ∈ (s.swcTile t).egress, d.slotIn = s.slot → d.srcTile = c.srcTile) :
    ∃ k l, (s.queueEgress t c).swcTile t = { s.swcTile t with
      egress := (s.swcTile t).egress ++ [{ c with slotIn := s.slot }], caps := k, full := l } := by
  have hlast : s.placeBack { c with slotIn := s.slot } (s.swcTile t).egress.reverse =
      { c with slotIn := s.slot } :: (s.swcTile t).egress.reverse :=
    s.placeBack_last fun d hd => h d (List.mem_reverse.1 hd)
  unfold State.queueEgress
  dsimp only
  obtain ⟨l, hl⟩ := State.swcTile_noteQuota _ t c.vfi
  obtain ⟨k, hk⟩ := State.swcTile_restop _ t c.dstOff
  exact ⟨k, l, hl.trans (by rw [hk]; simp [hlast])⟩

/-- The first cell of a message, of its port's generation, enters its egress queue unless a message is under way at the
port. -/
theorem State.enterEgress_of_first {s : State} {t : Nat} {c : Cell}
    (hg : c.lgen = if c.dstOff = 16 then 0 else (s.port (16 * t + c.dstOff)).gen % 256) (hf : c.first = true)
    (ho : tget none (s.swcTile t).openOut c.dstOff = none) : s.enterEgress t c = s.queueEgress t c := by
  simp only [State.enterEgress, ne_eq, ← hg, not_true_eq_false, if_false, ho, hf, Bool.true_or, if_true]

/-- Nothing is released while the cell awaited is not held. -/
theorem State.release_of_none_due (n : Nat) {s : State} {t src : Nat}
    (h : ∀ y ∈ (s.swcTile t).reseq, y.2.srcTile = src → y.2.seq ≠ tget 0 (s.swcTile t).expect src) :
    State.release n s t src = s := by
  cases n with
  | zero => rfl
  | succ n =>
    have hnone : (s.swcTile t).reseq.find? (fun y => y.2.srcTile == src && y.2.seq == tget 0 (s.swcTile t).expect src) = none :=
      List.find?_eq_none.2 fun y hy => by simpa using h y hy
    simp only [State.release, hnone]

/-- Cell `y`, the one awaited of its pair, leaves the resequencer, and the one after it is awaited. -/
def State.takeHeld (s : State) (t src : Nat) (y : Nat × Cell) : State :=
  (s.setSwcTile t { s.swcTile t with
    reseq := (s.swcTile t).reseq.erase y
    expect := tset 0 (s.swcTile t).expect src ((tget 0 (s.swcTile t).expect src + 1) % 65536)
    holdMax := max (s.swcTile t).holdMax (min 255 (s.slot - y.1)) }).cntTile t 0x46 (some y.2.vfi) none (s.slot - y.1)

@[simp] theorem State.swcTile_takeHeld (s : State) (t src : Nat) (y : Nat × Cell) :
    (s.takeHeld t src y).swcTile t = { s.swcTile t with
      reseq := (s.swcTile t).reseq.erase y
      expect := tset 0 (s.swcTile t).expect src ((tget 0 (s.swcTile t).expect src + 1) % 65536)
      holdMax := max (s.swcTile t).holdMax (min 255 (s.slot - y.1)) } :=
  State.swcTile_setSwcTile_self s t _

@[simp] theorem State.slot_takeHeld (s : State) (t src : Nat) (y : Nat × Cell) : (s.takeHeld t src y).slot = s.slot := rfl

theorem State.release_succ_of_due (n : Nat) {s : State} {t src : Nat} {y : Nat × Cell}
    (h : (s.swcTile t).reseq.find? (fun y => y.2.srcTile == src && y.2.seq == tget 0 (s.swcTile t).expect src) = some y) :
    State.release (n + 1) s t src = State.release n ((s.takeHeld t src y).enterEgress t y.2) t src := by
  simp only [State.release, h]
  rfl

theorem State.reseqIn_late {s : State} {t : Nat} {c : Cell}
    (h : 32768 ≤ (c.seq + 65536 - tget 0 (s.swcTile t).expect c.srcTile) % 65536) : s.reseqIn t c = s.dropCell t c := by
  simp only [State.reseqIn, if_pos h]

/-- A cell ahead of the one awaited is held and counted. -/
theorem State.reseqIn_ahead {s : State} {t : Nat} {c : Cell}
    (h : 0 < (c.seq + 65536 - tget 0 (s.swcTile t).expect c.srcTile) % 65536)
    (h' : (c.seq + 65536 - tget 0 (s.swcTile t).expect c.srcTile) % 65536 < 32768)
    (hr : ∀ y ∈ (s.swcTile t).reseq, y.2.srcTile = c.srcTile → y.2.seq ≠ tget 0 (s.swcTile t).expect c.srcTile) :
    s.reseqIn t c =
      (s.setSwcTile t { s.swcTile t with reseq := (s.swcTile t).reseq ++ [(s.slot, c)] }).cntTile t 0x47 (some c.vfi) := by
  have hne : c.seq ≠ tget 0 (s.swcTile t).expect c.srcTile := fun he => by
    rw [he] at h; omega
  simp only [State.reseqIn, if_neg (Nat.not_le.2 h'), if_neg (Nat.ne_of_gt h)]
  refine State.release_of_none_due _ fun y hy hy' => ?_
  simp only [State.swcTile_cntTile, State.swcTile_setSwcTile_self, List.mem_append, List.mem_singleton] at hy ⊢
  rcases hy with hy | rfl
  · exact hr y hy hy'
  · exact hne

/-! The cell awaited of a pair, first of its message and of its port's generation: the port has no message under way, and no
cell of another ingress tile entered its queues in this slot. -/
section
variable {s : State} {t : Nat} {c : Cell} (he : c.seq = tget 0 (s.swcTile t).expect c.srcTile)
  (hg : c.lgen = if c.dstOff = 16 then 0 else (s.port (16 * t + c.dstOff)).gen % 256) (hf : c.first = true)
  (ho : tget none (s.swcTile t).openOut c.dstOff = none)
  (hs : ∀ d ∈ (s.swcTile t).egress, d.slotIn = s.slot → d.srcTile = c.srcTile)
include he hg hf ho hs

/-- Alone in the resequencer, it goes on into the egress queue of its port. -/
theorem State.swcTile_release_alone (n : Nat) {since : Nat} (hr : (s.swcTile t).reseq = [(since, c)]) :
    ∃ k l, (State.release (n + 1) s t c.srcTile).swcTile t = { s.swcTile t with
      reseq := [], egress := (s.swcTile t).egress ++ [{ c with slotIn := s.slot }]
      expect := tset 0 (s.swcTile t).expect c.srcTile ((tget 0 (s.swcTile t).expect c.srcTile + 1) % 65536)
      holdMax := max (s.swcTile t).holdMax (min 255 (s.slot - since)), caps := k, full := l } := by
  obtain ⟨k, l, hq⟩ := State.swcTile_queueEgress (s := s.takeHeld t c.srcTile (since, c)) (t := t) (c := c) (by simpa using hs)
  have henter : (s.takeHeld t c.srcTile (since, c)).enterEgress t c = (s.takeHeld t c.srcTile (since, c)).queueEgress t c :=
    State.enterEgress_of_first hg hf (by simpa using ho)
  rw [State.release_succ_of_due n (y := (since, c)) (by simp [hr, he]), henter,
    State.release_of_none_due n (by simp [hq, hr])]
  exact ⟨k, l, hq.trans (by simp [hr])⟩

/-- It passes an empty resequencer. -/
theorem State.swcTile_reseqIn_awaited (hr : (s.swcTile t).reseq = []) :
    ∃ k l, (s.reseqIn t c).swcTile t = { s.swcTile t with
      reseq := [], egress := (s.swcTile t).egress ++ [{ c with slotIn := s.slot }]
      expect := tset 0 (s.swcTile t).expect c.srcTile ((tget 0 (s.swcTile t).expect c.srcTile + 1) % 65536)
      caps := k, full := l } := by
  have hd : (c.seq + 65536 - tget 0 (s.swcTile t).expect c.srcTile) % 65536 = 0 := by omega
  obtain ⟨k, l, hu⟩ := State.swcTile_release_alone (s := s.setSwcTile t { s.swcTile t with reseq := [(s.slot, c)] })
    (by simpa using he) hg hf (by simpa using ho) (by simpa using hs) 512 (since := s.slot) (by simp)
  exact ⟨k, l, by simp [State.reseqIn, hd, hr, hu]⟩

end

/-! ### The loss of an awaited cell (R116) -/

/-- The awaited cell of a pair is declared lost, with its count and its record, and the one after it is awaited. -/
def State.declaredLost (s : State) (t src : Nat) : State :=
  (s.setSwcTile t { s.swcTile t with
    expect := tset 0 (s.swcTile t).expect src ((tget 0 (s.swcTile t).expect src + 1) % 65536)
    reseqLost := satAdd 32 (s.swcTile t).reseqLost 1, err := (s.swcTile t).err ||| 16 }).record
      0x50 t s.now64 [(1, t), (1, src), (2, tget 0 (s.swcTile t).expect src)]

/-- A lost cell that is known is taken from the message that it belongs to. -/
def State.lostFrom (s : State) (t : Nat) (c : Cell) : State :=
  State.loseMessage { s with swc := { s.swc with lost := s.swc.lost.erase c } } t c

/-- No cell is declared lost before one has waited 128 slots. -/
theorem State.reseqLoss_of_recent {s : State} {t src : Nat}
    (h : ∀ y ∈ (s.swcTile t).reseq, y.2.srcTile = src → s.slot < y.1 + 128) : s.reseqLoss t src = s := by
  have hany : ((s.swcTile t).reseq.filter (fun y => y.2.srcTile == src)).any (fun y => decide (y.1 + 128 ≤ s.slot)) = false := by
    simpa using h
  simp [State.reseqLoss, hany]

section
variable {s : State} {t src since : Nat} {c : Cell} (hr : (s.swcTile t).reseq = [(since, c)]) (hc : c.srcTile = src)
  (hw : since + 128 ≤ s.slot) (hn : c.seq ≠ tget 0 (s.swcTile t).expect src)
include hr hc hw hn

/-- Once the cell held has waited 128 slots, the awaited one is declared lost, with its message where it is known. -/
theorem State.reseqLoss_of_overdue :
    s.reseqLoss t src = State.release 513 ((s.pairCell t src (tget 0 (s.swcTile t).expect src)).elim (s.declaredLost t src)
      fun y => (s.declaredLost t src).lostFrom t y) t src := by
  have hdue : (((s.swcTile t).reseq.filter (·.2.srcTile == src)).any (fun y => decide (y.1 + 128 ≤ s.slot)) &&
      !((s.swcTile t).reseq.filter (·.2.srcTile == src)).any (·.2.seq == tget 0 (s.swcTile t).expect src)) = true := by
    simp [hr, hc, hw, hn]
  simp only [State.reseqLoss, hdue, if_true]
  cases s.pairCell t src (tget 0 (s.swcTile t).expect src) <;> rfl

/-- A cell that nothing is known of is lost to no message; the one held still waits where it is not the next. -/
theorem State.reseqLoss_of_unknown (hp : s.pairCell t src (tget 0 (s.swcTile t).expect src) = none)
    (hx : c.seq ≠ (tget 0 (s.swcTile t).expect src + 1) % 65536) : s.reseqLoss t src = s.declaredLost t src := by
  rw [State.reseqLoss_of_overdue hr hc hw hn, hp, Option.elim_none]
  exact State.release_of_none_due _ (by simpa [State.declaredLost, hr] using fun _ => hx)

theorem State.reseqLoss_of_known {y : Cell} (hp : s.pairCell t src (tget 0 (s.swcTile t).expect src) = some y) :
    s.reseqLoss t src = State.release 513 ((s.declaredLost t src).lostFrom t y) t src := by
  rw [State.reseqLoss_of_overdue hr hc hw hn, hp, Option.elim_some]

end

/-! ### The claims -/

theorem acts_cellArrival {s : State} (h : s.held = none) (st2 : Bool) (src dst : Tile) (fault : CellFault) :
    Acts (.cellArrival st2 src dst fault) s fun s => s.cellArrival st2 src dst fault :=
  (show exec (.cellArrival st2 src dst fault) s = act s fun s => s.cellArrival st2 src dst fault from rfl).trans
    (act_running h _)

theorem acts_reseqLost {s : State} (h : s.held = none) (dst src : Tile) :
    Acts (.reseqLost dst src) s fun s => s.reseqLoss dst src :=
  (show exec (.reseqLost dst src) s = act s fun s => s.reseqLoss dst src from rfl).trans (act_running h _)

theorem cellsArriveInOrder : Sys2Proof.Claims.CellsArriveInOrder := by
  intro st2 src dst fault f c s h x here e d left got cur late
  refine ⟨fun hn => ?_, fun hf hs hu => ?_, fun hf hs hu => ?_, fun hf hu => ?_, State.reseqIn_late, State.reseqIn_ahead,
    fun hd hc he hr hg hfirst ho hs => ?_, fun hr => ?_, fun since hr hc hw hn => ⟨fun hp hx => ?_, fun y hp => ?_⟩⟩
  · exact (acts_cellArrival h ..).congr (State.cellArrival_of_none hn)
  · subst hs
    exact (acts_cellArrival h ..).congr (State.cellArrival_of_readable hf hu)
  · subst hs
    exact (acts_cellArrival h ..).congr (State.cellArrival_of_readable hf hu)
  · subst hu
    exact (acts_cellArrival h ..).congr (State.cellArrival_of_unreadable hf)
  · have heq : c.seq = tget 0 x.expect c.srcTile := by omega
    obtain ⟨k, l, hy⟩ := State.swcTile_reseqIn_awaited heq hg hfirst ho hs hr
    simp [hy, x]
  · exact (acts_reseqLost h ..).congr (State.reseqLoss_of_recent hr)
  · exact (acts_reseqLost h ..).congr (State.reseqLoss_of_unknown hr hc hw hn hp hx)
  · exact (acts_reseqLost h ..).congr (State.reseqLoss_of_known hr hc hw hn hp)

/-- Settles O49: each clause is the rule of its operation, a slot of the pattern or the arrival or loss of a cell. -/
theorem cellsCrossTheCore : Obligations.CellsCrossTheCore := by
  unfold Obligations.CellsCrossTheCore
  exact ⟨coreSlots, cellsArriveInOrder⟩

end Sys2Proof.Machine
end

section
/-!
PROOFS. The limits of the launch queue (R4, R43, R44) and the clamps that a completion counts (R322).
-/

namespace Sys2Proof.Machine

/-! ### The clamp of a launch time -/

theorem OpSpec.entry_of_far (o : OpSpec) (c : Cmd) (stamp : Nat) (data : List Byte) {a : Nat} (h : a + 2 ^ 46 < c.launch) :
    (o.entry c stamp a c.launch data).launch = a + 2 ^ 46 ∧ (o.entry c stamp a c.launch data).clamped = true :=
  ⟨min_eq_right h.le, decide_eq_true h⟩

theorem OpSpec.entry_of_near (o : OpSpec) (c : Cmd) (stamp : Nat) (data : List Byte) {a : Nat} (h : c.launch ≤ a + 2 ^ 46) :
    (o.entry c stamp a c.launch data).launch = c.launch ∧ (o.entry c stamp a c.launch data).clamped = false :=
  ⟨min_eq_left h, decide_eq_false h.not_gt⟩

/-! ### What a completion leaves of its ring's clamp count -/

@[simp] theorem State.mgrWrite_pair (s : State) (a : Nat) (bs : List Byte) (p : Nat) : (s.mgrWrite a bs).pair p = s.pair p :=
  rfl

@[simp] theorem State.cntCmd_pair (s : State) (code n p : Nat) : (s.cntCmd code n).pair p = s.pair p := rfl

@[simp] theorem State.sendVector_pair (s : State) (v p : Nat) : (s.sendVector v).pair p = s.pair p := by
  simp [State.pair]

/-- A ring's interrupt count leaves its clamp count. -/
@[simp] theorem State.cqInterrupt_clamps (s : State) (p : Nat) (quiet : Bool) :
    ((s.cqInterrupt p quiet).pair p).clamps = (s.pair p).clamps := by
  unfold State.cqInterrupt
  dsimp only
  split
  · rfl
  · split <;> simp

@[simp] theorem State.cqWrite_clamps (s : State) (p : Nat) (x : Completion) :
    ((s.cqWrite p x).pair p).clamps = (s.pair p).clamps := by
  simp [State.cqWrite]

theorem State.noteClamp_clamps (s : State) {tk : Ticket} {p : Ring} (off : Nat) (h : tk.src = .ring p) :
    ((s.noteClamp tk off).pair p).clamps = satAdd 32 (s.pair p).clamps 1 := by
  simp [State.noteClamp, h]

/-- A completion that carries a clamp counts one on its ring (R322). -/
theorem State.complete_clamps {s : State} {tk : Ticket} {p : Ring} {off st res : Nat} (hs : tk.src = .ring p)
    (hc : tk.clamp = some off) : ((s.complete tk st res).pair p).clamps = satAdd 32 (s.pair p).clamps 1 := by
  simp only [State.complete, hs, hc]
  split <;> simp [State.noteClamp_clamps _ _ hs]

/-! ### The places, and who finds none -/

theorem OpSpec.submit_queues_length {o : OpSpec} {c : Cmd} {s : State} (h : Queues o c s)
    (ht : (o.taken c (s.accept c)).ftu = (s.accept c).ftu) :
    (o.submit c s).ftu.launches.length = s.ftu.launches.length + 1 := by
  simp [OpSpec.submit_queues h, ht]

/-- A command that its unit takes does not wait for the sweep of the LPDDR6 (R344). -/
theorem Takes.not_unswept {o : OpSpec} {c : Cmd} {s : State} (h : Takes o c s) :
    (o.needsMem c && !s.glb.memSwept) = false := by
  cases hn : o.needsMem c with
  | false => rfl
  | true => simp [h.swept hn]

/-- A command that finds every place taken completes NO_RESOURCE (R43). -/
theorem OpSpec.submit_of_full {o : OpSpec} {c : Cmd} {s : State} (h : Takes o c s) (hk : o.aligned = true ∨ c.launch ≠ 0)
    (hfull : 4096 ≤ s.ftu.launches.length) :
    o.submit c s = (s.accept c).complete (c.ticket o.code s.ft) stNoResource 0 := by
  rcases hk with hk | hk <;>
    simp [OpSpec.submit, OpSpec.issue, h.here, h.ready, h.not_unswept, h.free, h.granted, hk, hfull]

/-- A command for an absent unit completes UNIT_ABSENT before anything else is looked at (R4). -/
theorem OpSpec.submit_of_absent {o : OpSpec} {c : Cmd} {s : State} (h : o.absent c (s.accept c) = true) :
    o.submit c s = (s.accept c).complete (c.ticket o.code s.ft) stAbsent 0 := by
  simp [OpSpec.submit, OpSpec.issue, h]

/-- Settles O7: each limit is a branch of the entry, of the completion or of the issue. -/
theorem launchQueueKeepsItsLimits : Obligations.LaunchQueueKeepsItsLimits := by
  unfold Obligations.LaunchQueueKeepsItsLimits
  intro o c l stamp a data s
  exact ⟨o.entry_of_far c stamp data, o.entry_of_near c stamp data, rfl, fun _ _ _ _ _ => State.complete_clamps,
    OpSpec.submit_queues_length, OpSpec.submit_of_full,
    fun h => ⟨OpSpec.submit_of_absent h, by simp [OpSpec.submit_of_absent h]⟩⟩

end Sys2Proof.Machine
end

section
/-!
PROOFS. The order of turns: the rotating key (R46), the descriptor taken next (R316), the queue entry of a launched
action (R41, R43) and the due action that executes next (R45).
-/

namespace Sys2Proof.Machine

/-! ### The queue entry -/

theorem launchEntryFollowsTheLead : Claims.LaunchEntryFollowsTheLead := by
  intro o c stamp a t data l
  have haligned : l.aligned = (o.aligned || (!o.aligned && decide (t < a + 256))) := rfl
  refine ⟨rfl, rfl, decide_eq_true_iff, fun h => ?_, fun h => ?_, Nat.le_max_right ..⟩
  · simp [haligned, h]
  · simp [haligned, h]

/-! ### The order of keys -/

/-- The order of R45 is the lexicographic order of the keys. -/
theorem keyLt_iff {a b : Nat × Nat × Nat} :
    keyLt a b = true ↔ toLex (a.1, toLex a.2) < toLex (b.1, toLex b.2) := by
  simp [keyLt, Prod.Lex.toLex_lt_toLex]

theorem keyLt_eq_false_iff {a b : Nat × Nat × Nat} :
    keyLt a b = false ↔ toLex (b.1, toLex b.2) ≤ toLex (a.1, toLex a.2) := by
  rw [← not_lt, ← keyLt_iff, Bool.not_eq_true]

theorem keyLt_irrefl (a : Nat × Nat × Nat) : keyLt a a = false := keyLt_eq_false_iff.2 le_rfl

/-- No key that lies before a third lies after one that does not. -/
theorem keyLt_eq_false_trans {a b c : Nat × Nat × Nat} (hab : keyLt a b = false) (hbc : keyLt b c = false) :
    keyLt a c = false :=
  keyLt_eq_false_iff.2 ((keyLt_eq_false_iff.1 hbc).trans (keyLt_eq_false_iff.1 hab))

theorem keyLt_asymm {a b : Nat × Nat × Nat} (h : keyLt a b = true) : keyLt b a = false :=
  keyLt_eq_false_iff.2 (keyLt_iff.1 h).le

/-! ### The due action that executes -/

theorem pickLaunch_eq_none {s : State} {q : List Launch} (h : pickLaunch s q = none) : ∀ m ∈ q, m.due s = false := by
  induction q with
  | nil => simp
  | cons x xs ih =>
    cases hp : pickLaunch s xs with
    | none =>
      have hx : x.due s = false := by simpa [pickLaunch, hp] using h
      simpa [hx] using ih hp
    | some m => cases hx : (x.due s && !keyLt (m.key s.slot) (x.key s.slot)) <;> simp [pickLaunch, hp, hx] at h

theorem dueActionsExecuteInOrder : Claims.DueActionsExecuteInOrder := by
  intro s q
  induction q with
  | nil => simp [pickLaunch]
  | cons x xs ih =>
    intro l h
    cases hp : pickLaunch s xs with
    | none =>
      obtain ⟨hx, rfl⟩ : x.due s = true ∧ x = l := by simpa [pickLaunch, hp] using h
      refine ⟨List.mem_cons_self, hx, fun m hm hd => ?_⟩
      obtain rfl | hm := List.mem_cons.1 hm
      · exact keyLt_irrefl _
      · simp [pickLaunch_eq_none hp m hm] at hd
    | some y =>
      obtain ⟨hy, hdue, hfirst⟩ := ih y hp
      by_cases hx : x.due s = true ∧ keyLt (y.key s.slot) (x.key s.slot) = false
      · obtain rfl : x = l := by simpa [pickLaunch, hp, hx] using h
        refine ⟨List.mem_cons_self, hx.1, fun m hm hd => ?_⟩
        obtain rfl | hm := List.mem_cons.1 hm
        · exact keyLt_irrefl _
        · exact keyLt_eq_false_trans (hfirst m hm hd) hx.2
      · obtain rfl : y = l := by simpa [pickLaunch, hp, hx] using h
        refine ⟨List.mem_cons_of_mem _ hy, hdue, fun m hm hd => ?_⟩
        obtain rfl | hm := List.mem_cons.1 hm
        · exact keyLt_asymm (by simpa [hd] using hx)
        · exact hfirst m hm hd

/-- Settles O8: the entry is read off its definition, and the pick is the first of the due actions by induction on the
queue. -/
theorem launchedActionsFollowTheirOrder : Obligations.LaunchedActionsFollowTheirOrder := by
  unfold Obligations.LaunchedActionsFollowTheirOrder
  exact ⟨launchEntryFollowsTheLead, dueActionsExecuteInOrder⟩

/-! ### Turns -/

theorem rotatingKeyIsFair : Claims.RotatingKeyIsFair := by
  intro size hpos
  refine ⟨fun p q slot hp hq hne heq => hne ?_, fun p k hp => ?_⟩
  · have hmod : p ≡ q [MOD size] := Nat.ModEq.add_right_cancel' slot heq
    exact hmod.eq_of_lt_of_lt hp hq
  · -- among any S slots in a row one brings `p + slot` to a multiple of S
    have hdiv := Nat.div_add_mod (p + k + size - 1) size
    have hlt := Nat.mod_lt (p + k + size - 1) hpos
    refine ⟨size * ((p + k + size - 1) / size) - p, by omega, by omega, ?_⟩
    rw [tieKey, Nat.add_sub_cancel' (by omega), Nat.mul_mod_right]

/-- The descriptor `x` may be taken before `y`: its stamp is earlier, or the same with no higher rotating key (R46). -/
def WaitDesc.Before (slot : Nat) (x y : Nat × WaitDesc) : Prop :=
  x.2.stamp < y.2.stamp ∨ (x.2.stamp = y.2.stamp ∧ tieKey x.1 slot 64 ≤ tieKey y.1 slot 64)

theorem WaitDesc.Before.refl (slot : Nat) (x : Nat × WaitDesc) : WaitDesc.Before slot x x := .inr ⟨rfl, le_rfl⟩

theorem WaitDesc.Before.trans {slot : Nat} {x y z : Nat × WaitDesc} (hxy : WaitDesc.Before slot x y)
    (hyz : WaitDesc.Before slot y z) : WaitDesc.Before slot x z := by
  unfold WaitDesc.Before at *
  omega

theorem pickTake_eq_none {slot : Nat} {t : Tbl RingPair} (h : pickTake slot t = none) :
    ∀ q r, (q, r) ∈ t → r.takeable q = none := by
  induction t with
  | nil => simp
  | cons x t ih =>
    obtain ⟨p, u⟩ := x
    intro q r hm
    cases hd : u.takeable p <;> cases hp : pickTake slot t <;> simp only [pickTake, hd, hp] at h
    · obtain hm | hm := List.mem_cons.1 hm
      · cases hm; exact hd
      · exact ih hp q r hm
    · cases h
    · cases h
    · split at h <;> cases h

/-- `x` comes before every head of `t` that may be taken. -/
def WaitDesc.FirstOf (slot : Nat) (t : Tbl RingPair) (x : Nat × WaitDesc) : Prop :=
  ∀ q r e, (q, r) ∈ t → r.takeable q = some e → WaitDesc.Before slot x (q, e)

theorem WaitDesc.firstOf_cons {slot p : Nat} {u : RingPair} {t : Tbl RingPair} {x : Nat × WaitDesc} :
    WaitDesc.FirstOf slot ((p, u) :: t) x ↔
      (∀ d, u.takeable p = some d → WaitDesc.Before slot x (p, d)) ∧ WaitDesc.FirstOf slot t x := by
  constructor
  · exact fun h => ⟨fun d => h p u d List.mem_cons_self, fun q r e hm => h q r e (List.mem_cons_of_mem _ hm)⟩
  · rintro ⟨hhead, hrest⟩ q r e hm he
    obtain hm | hm := List.mem_cons.1 hm
    · cases hm
      exact hhead e he
    · exact hrest q r e hm he

/-- The pick is the head of a pair that may be taken, and comes before every other such head. -/
theorem pickTake_eq_some {slot : Nat} {t : Tbl RingPair} {x : Nat × WaitDesc} (h : pickTake slot t = some x) :
    (∃ r, (x.1, r) ∈ t ∧ r.takeable x.1 = some x.2) ∧ WaitDesc.FirstOf slot t x := by
  induction t generalizing x with
  | nil => simp [pickTake] at h
  | cons y t ih =>
    obtain ⟨p, u⟩ := y
    rw [WaitDesc.firstOf_cons]
    cases hd : u.takeable p with
    | none =>
      obtain ⟨⟨r, hr, htake⟩, hfirst⟩ := ih (x := x) (by simpa [pickTake, hd] using h)
      exact ⟨⟨r, List.mem_cons_of_mem _ hr, htake⟩, by simp, hfirst⟩
    | some d =>
      cases hp : pickTake slot t with
      | none =>
        obtain rfl : (p, d) = x := by simpa [pickTake, hd, hp] using h
        refine ⟨⟨u, List.mem_cons_self, hd⟩, fun e he => ?_, fun q r e hm he => ?_⟩
        · rw [Option.some.inj he]
          exact .refl ..
        · simp [pickTake_eq_none hp q r hm] at he
      | some y =>
        obtain ⟨⟨r, hr, htake⟩, hfirst⟩ := ih hp
        simp only [pickTake, hd, hp] at h
        split at h <;> obtain rfl := Option.some.inj h
        next hlt =>
          have hbefore : WaitDesc.Before slot (p, d) y := hlt.imp_right (And.imp_right le_of_lt)
          refine ⟨⟨u, List.mem_cons_self, hd⟩, fun e he => ?_, fun q r e hm he => hbefore.trans (hfirst q r e hm he)⟩
          rw [Option.some.inj he]
          exact .refl ..
        next hge =>
          have hbefore : WaitDesc.Before slot y (p, d) := by
            simp only [WaitDesc.Before]
            omega
          exact ⟨⟨r, List.mem_cons_of_mem _ hr, htake⟩, fun e he => Option.some.inj he ▸ hbefore, hfirst⟩

theorem earliestDescriptorIsTaken : Claims.EarliestDescriptorIsTaken := fun _ _ _ _ h => pickTake_eq_some h

/-- Settles O11: the key adds the slot modulo S, and the pick is the first of the heads by induction on the pairs. -/
theorem turnsAreTakenFairly : Obligations.TurnsAreTakenFairly := by
  unfold Obligations.TurnsAreTakenFairly
  exact ⟨rotatingKeyIsFair, earliestDescriptorIsTaken⟩

end Sys2Proof.Machine
end

section
/-!
PROOFS. The time opcodes (Table 02-9): those that wait for their boundary (R40) and those that act at once.
-/

namespace Sys2Proof.Machine

/-! ### Course-aligned opcodes -/

/-- TIME_SYNC_SET with every field group present and in range sets what its fields say, and clamps nothing (R31). -/
theorem opTimeSyncSet_body_inside {tk : Ticket} {c : Cmd} {s : State} (hpart : ∀ i, partSet c i = true)
    (hpol : bitsOf (c.le 16 4) 2 1 ≠ 3) (hm : 1 ≤ c.le 24 2) (hm' : c.le 24 2 ≤ 4096)
    (hp : (syncRange (c.le 24 2) s.ftu.len).1 ≤ c.le 20 4) (hp' : c.le 20 4 ≤ (syncRange (c.le 24 2) s.ftu.len).2) :
    opTimeSyncSet.body tk c s = .ok { s with
      ftu := s.ftu.setSync (bitOf (c.le 16 4) 0) (bitsOf (c.le 16 4) 2 1) (bitOf (c.le 16 4) 3) (c.le 20 4) (c.le 24 2)
        (c.le 26 2) tk.ft s.clock } := by
  -- two bits that are not 3 hold POL itself
  have hmin : min 2 (bitsOf (c.le 16 4) 2 1) = bitsOf (c.le 16 4) 2 1 := by
    have : bitsOf (c.le 16 4) 2 1 < 4 := Nat.mod_lt _ (by decide)
    omega
  simp [opTimeSyncSet, hpart, hmin, hpol, Cmd.ranged_inside hm hm', Cmd.ranged_inside hp hp']

/-- TIME_SYNC_OUT_SET with both field groups present sets what its fields say, clamped to their ranges (R39). -/
theorem opTimeSyncOutSet_body_whole {tk : Ticket} {c : Cmd} {s : State} (hpart : ∀ i, partSet c i = true) :
    opTimeSyncOutSet.body tk c s = .ok { s with ftu := { s.ftu with
        outEn := bitOf (c.le 16 4) 0
        outFrom := if bitOf (c.le 16 4) 0 && !s.ftu.outEn then tk.ft else s.ftu.outFrom
        adv := min 512 (bitsOf (c.le 16 4) 25 16)
        outDiv := clampNat 1 4096 (c.le 20 2) } } 0
      (minClamp (if 512 < bitsOf (c.le 16 4) 25 16 then some 16 else none)
        (if 1 ≤ c.le 20 2 ∧ c.le 20 2 ≤ 4096 then none else some 20)) := by
  simp [opTimeSyncOutSet, hpart, Cmd.ranged]

theorem alignedTimeOpcodesWaitThenAct : Claims.AlignedTimeOpcodesWaitThenAct := by
  intro c l s
  refine ⟨fun h => OpSpec.takesPlace rfl h rfl, fun h => OpSpec.takesPlace rfl h rfl,
    fun h => OpSpec.takesPlace rfl h rfl, fun h => OpSpec.launches h rfl rfl,
    fun h hpart hpol hm hm' hp hp' => OpSpec.launches h rfl ?_, fun h hpart => OpSpec.launches h rfl ?_⟩
  · exact opTimeSyncSet_body_inside hpart hpol hm hm' hp hp'
  · exact opTimeSyncOutSet_body_whole hpart

/-! ### Instant opcodes -/

@[simp] theorem State.accept_openTickets (s : State) (c : Cmd) : (s.accept c).openTickets = s.openTickets := by
  unfold State.accept
  split <;> rfl

@[simp] theorem Launch.fixed_accept (l : Launch) (s : State) (c : Cmd) : l.fixed (s.accept c) = l.fixed s := by
  simp [Launch.fixed]

/-- Of the actions that match, those not taken out are those that are fixed (R44). -/
theorem length_matching_sub_gone (p fixed : Launch → Bool) (q : List Launch) :
    (q.filter p).length - (q.filter fun l => p l && !fixed l).length = (q.filter fun l => p l && fixed l).length := by
  have h := List.length_eq_length_filter_add (l := q.filter p) fixed
  simp only [List.filter_filter, Bool.and_comm] at h ⊢
  omega

/-- TIME_LAUNCH_CANCEL takes out and aborts the actions that match and are not fixed (R44). -/
theorem opTimeLaunchCancel_body (tk : Ticket) (c : Cmd) (s : State) :
    let mine := fun (l : Launch) => l.matches (min 63 (c.byte 16)) (c.le 18 2)
    let gone := s.ftu.launches.filter fun l => mine l && !l.fixed s
    let kept := s.ftu.launches.filter fun l => !(mine l && !l.fixed s)
    let stays := s.ftu.launches.filter fun l => mine l && l.fixed s
    let begun := s.openTickets.filter fun tk => tk.launched && tk.isOf (min 63 (c.byte 16)) (c.le 18 2)
    opTimeLaunchCancel.body tk c s = .ok (gone.foldl State.abortLaunch { s with ftu := { s.ftu with launches := kept } })
      (gone.length + 2 ^ 16 * (stays.length + begun.length)) (if c.byte 16 ≤ 63 then none else some 16) := by
  intro mine gone kept stays begun
  have hgone : (s.ftu.launches.filter mine).filter (fun l => !l.fixed s) = gone := by
    simp only [gone, List.filter_filter, Bool.and_comm]
  have hstays := length_matching_sub_gone mine (·.fixed s) s.ftu.launches
  simp only [opTimeLaunchCancel, Cmd.ranged_byte_upTo]
  rw [hgone, ← hstays]

theorem instantTimeOpcodes : Claims.InstantTimeOpcodes := by
  intro c s
  refine ⟨fun h => OpSpec.completes (o := opTimeMark) rfl h rfl rfl rfl,
    fun h => OpSpec.completes (o := opTimeLaunchQuery) rfl h rfl rfl (by simp [opTimeLaunchQuery]),
    fun h => OpSpec.holds (o := opTimeIslandCheck) rfl h rfl rfl rfl,
    fun h => OpSpec.completes (o := opTimeLaunchCancel) rfl h rfl rfl ?_⟩
  rw [opTimeLaunchCancel_body]
  simp only [State.accept_ftu, State.accept_openTickets, Launch.fixed_accept]

/-- Settles O9: each opcode takes its place, or its body answers with its effect. -/
theorem timeOpcodes : Obligations.TimeOpcodes := by
  unfold Obligations.TimeOpcodes
  exact ⟨alignedTimeOpcodesWaitThenAct, instantTimeOpcodes⟩

end Sys2Proof.Machine
end

section
/-!
PROOFS. A channel of the LPDDR6: which request its slot serves (R227, R231), the order of the requests of a line (R46),
and what a served request leaves (R237, R243).
-/

namespace Sys2Proof.Machine

/-! ### The order of requests -/

/-- What may be served stands in the queue with its page not held, behind no request for its line, seen or queued. -/
theorem State.mem_servable {s : State} {seen q : List ChReq} {r : ChReq} (h : r ∈ s.servable seen q) :
    s.pageHeld (r.line / 64) = false ∧ ∃ a b, q = a ++ r :: b ∧ ∀ x ∈ a ++ seen, x.line ≠ r.line := by
  induction q generalizing seen with
  | nil => simp [State.servable] at h
  | cons y ys ih =>
    have hlater : r ∈ s.servable (y :: seen) ys → s.pageHeld (r.line / 64) = false ∧
        ∃ a b, y :: ys = a ++ r :: b ∧ ∀ x ∈ a ++ seen, x.line ≠ r.line := fun h => by
      obtain ⟨hp, a, b, rfl, ha⟩ := ih h
      exact ⟨hp, y :: a, b, rfl, fun x hx => ha x (by simp at hx ⊢; tauto)⟩
    simp only [State.servable] at h
    split at h
    · exact hlater h
    next hfirst =>
      obtain rfl | h := List.mem_cons.1 h
      · obtain ⟨hline, hpage⟩ : (∀ x ∈ seen, x.line ≠ r.line) ∧ s.pageHeld (r.line / 64) = false := by simpa using hfirst
        exact ⟨hpage, [], ys, rfl, hline⟩
      · exact hlater h

theorem State.earliest_nil (s : State) : s.earliest [] = none := rfl

theorem State.earliest_concat (s : State) (q : List ChReq) (r : ChReq) :
    s.earliest (q ++ [r]) = some ((s.earliest q).elim r fun x =>
      if r.stamp < x.stamp ∨ (r.stamp = x.stamp ∧ tieKey r.island s.slot 96 < tieKey x.island s.slot 96) then r else x) := by
  simp only [State.earliest, List.foldl_append, List.foldl_cons, List.foldl_nil]
  split
  next h => simp [h]
  next x h => rw [h, Option.elim_some, apply_ite some]

/-- The earliest request is in the queue, with no stamp there before its own; there is none in an empty queue only. -/
theorem State.earliest_spec (s : State) (q : List ChReq) :
    (s.earliest q = none → q = []) ∧ ∀ r, s.earliest q = some r → r ∈ q ∧ ∀ x ∈ q, r.stamp ≤ x.stamp := by
  induction q using List.reverseRecOn with
  | nil => simp [State.earliest_nil]
  | append_singleton q y ih =>
    obtain ⟨hnone, hsome⟩ := ih
    rw [State.earliest_concat]
    refine ⟨by simp, fun r h => ?_⟩
    obtain rfl := Option.some.inj h
    cases hq : s.earliest q with
    | none => simp [hnone hq]
    | some x =>
      obtain ⟨hx, hmin⟩ := hsome x hq
      rw [Option.elim_some]
      split
      next hlt =>
        refine ⟨by simp, fun z hz => ?_⟩
        obtain hz | hz := List.mem_append.1 hz
        · have := hmin z hz
          omega
        · rw [List.mem_singleton.1 hz]
      next hge =>
        refine ⟨by simp [hx], fun z hz => ?_⟩
        obtain hz | hz := List.mem_append.1 hz
        · exact hmin z hz
        · rw [List.mem_singleton.1 hz]
          omega

theorem requestsOfALineKeepTheirOrder : Claims.RequestsOfALineKeepTheirOrder := by
  intro s q r
  refine ⟨fun h => ?_, (s.earliest_spec q).2 r⟩
  obtain ⟨hp, a, b, rfl, ha⟩ := State.mem_servable h
  exact ⟨by simp, hp, a, b, rfl, by simpa using ha⟩

/-! ### A channel's slot -/

theorem acts_channelSlot {s : State} (h : s.held = none) {ch : Chan} {f : State → State} (hf : s.channelSlot ch = f s) :
    Acts (.channelSlot ch) s f := by
  show act s (fun s => s.channelSlot ch) = _
  rw [act_running h, hf]

theorem channelSlotsFollowTheShares : Claims.ChannelSlotsFollowTheShares := by
  intro ch r s h
  dsimp only
  refine ⟨fun hm => acts_channelSlot h ?_, fun hm hb hq => acts_channelSlot h ?_, fun hm hb hq => acts_channelSlot h ?_,
    fun hm hb hother hdir hr => acts_channelSlot h ?_, fun hm hb hother hdir hmse hr => acts_channelSlot h ?_,
    fun hm hb hdir hmse hhot hr => acts_channelSlot h ?_, fun hm hb hhot hturn hdir hmse hr => acts_channelSlot h ?_⟩
  · simp [State.channelSlot, hm]
  · simp [State.channelSlot, hm, hb, hq]
  · simp [State.channelSlot, hm, hb, hq]
  · have hnone : (s.servable [] (s.chan ch).queue).any (·.cls == 2) = false := by simpa using hother
    simp [State.channelSlot, hm, hb, hdir, hr, hnone]
  · have hnone : (s.servable [] (s.chan ch).queue).any (·.cls == 2) = false := by simpa using hother
    simp [State.channelSlot, hm, hb, hdir.not_gt, hmse, hr, hnone]
  · simp [State.channelSlot, hm, hb, hdir, hmse, hhot, hr]
  · simp [State.channelSlot, hm, hb, hdir.not_gt, hmse.not_gt, hhot, hturn, hr]

/-! ### What a served request leaves -/

@[simp] theorem State.line_setLine_self (s : State) (k : Nat) (v : Line) : (s.setLine k v).line k = v := by
  unfold State.line State.setLine
  rw [tget_tset_self]
  split
  next h => exact h.symm
  · rfl

theorem State.line_setLine_ne (s : State) {k j : Nat} (v : Line) (h : j ≠ k) : (s.setLine k v).line j = s.line j := by
  unfold State.line State.setLine
  rw [tget_tset_ne _ _ h]
  rfl

/-- The state in which channel `ch` begins a request: it has left the queue and is counted. -/
def State.beginReq (s : State) (ch : Nat) (r : ChReq) : State :=
  ((s.modChan ch fun x =>
    let x := { x with queue := x.queue.erase r }
    match r.cls with
    | 0 => { x with dirUsed := x.dirUsed + 1 }
    | 1 => { x with mseUsed := x.mseUsed + 1 }
    | _ => { x with otherUsed := x.otherUsed + 1 }).cntMem (ch / 8) (servedCode r.cls)).cntMem (ch / 8)
      (if r.write then 0xB1 else 0xB0)

theorem State.memServe_write {s : State} {ch : Nat} {r : ChReq} (h : r.write = true) :
    s.memServe ch r =
      let t := (s.beginReq ch r).writeLine ch (s.physLine r.line) r.cls r.data r.mask r.poison
      if r.user = .other then t else t.emit (.memAck r.user) := by
  obtain ⟨cls, stamp, island, line, write, user, at16, data, mask, poison⟩ := r
  dsimp only at h
  subst h
  rfl

theorem State.memServe_read {s : State} {ch : Nat} {r : ChReq} (h : r.write = false) :
    s.memServe ch r = (s.beginReq ch r).modChan ch fun x => { x with reading := x.reading ++
      [{ req := r, phys := s.physLine r.line, line := (s.beginReq ch r).line (s.physLine r.line) }] } := by
  obtain ⟨cls, stamp, island, line, write, user, at16, data, mask, poison⟩ := r
  dsimp only at h
  subst h
  rfl

@[simp] theorem State.beginReq_line (s : State) (ch : Nat) (r : ChReq) (k : Nat) : (s.beginReq ch r).line k = s.line k :=
  rfl

@[simp] theorem State.cntMem_chan (s : State) (m code n d : Nat) : (s.cntMem m code n).chan d = s.chan d := rfl

theorem State.beginReq_chan_ne (s : State) {ch d : Nat} (r : ChReq) (h : d ≠ ch) : (s.beginReq ch r).chan d = s.chan d := by
  rw [State.beginReq, State.cntMem_chan, State.cntMem_chan, State.chan_modChan_ne _ _ h]

@[simp] theorem State.beginReq_queue (s : State) (ch : Nat) (r : ChReq) :
    ((s.beginReq ch r).chan ch).queue = (s.chan ch).queue.erase r := by
  rw [State.beginReq, State.cntMem_chan, State.cntMem_chan, State.chan_modChan_self]
  dsimp only
  split <;> rfl

@[simp] theorem State.beginReq_reading (s : State) (ch : Nat) (r : ChReq) :
    ((s.beginReq ch r).chan ch).reading = (s.chan ch).reading := by
  rw [State.beginReq, State.cntMem_chan, State.cntMem_chan, State.chan_modChan_self]
  dsimp only
  split <;> rfl

/-! No channel but the one that serves changes. -/

/-- `t` has every channel but `ch` as `s` has it. -/
structure State.SameBut (ch : Nat) (s t : State) : Prop where
  chan_ne : ∀ {d}, d ≠ ch → t.chan d = s.chan d

section
variable {ch : Nat} {s t u : State}

theorem State.SameBut.refl (ch : Nat) (s : State) : s.SameBut ch s := ⟨fun _ => rfl⟩

theorem State.SameBut.trans (h : s.SameBut ch t) (h' : t.SameBut ch u) : s.SameBut ch u :=
  ⟨fun hd => (h'.chan_ne hd).trans (h.chan_ne hd)⟩

/-- A change that leaves the channels' table as it is. -/
theorem State.SameBut.of_chans (h : t.mem.chans = s.mem.chans) : s.SameBut ch t := ⟨fun _ => by simp [State.chan, h]⟩

theorem State.SameBut.setChan (h : s.SameBut ch t) (v : ChanSt) : s.SameBut ch (t.setChan ch v) :=
  h.trans ⟨fun hd => State.chan_setChan_ne _ _ hd⟩

theorem State.SameBut.modChan (h : s.SameBut ch t) (f : ChanSt → ChanSt) : s.SameBut ch (t.modChan ch f) := h.setChan _

theorem State.SameBut.cntMem (h : s.SameBut ch t) (m code n : Nat) : s.SameBut ch (t.cntMem m code n) := ⟨h.chan_ne⟩

theorem State.SameBut.tally (h : s.SameBut ch t) (i n : Nat) : s.SameBut ch (t.tally i n) := ⟨h.chan_ne⟩

theorem State.SameBut.setLine (h : s.SameBut ch t) (k : Nat) (v : Line) : s.SameBut ch (t.setLine k v) := ⟨h.chan_ne⟩

/-- The error bits of the LPDDR6, and the total of uncorrectable lines, belong to no channel. -/
theorem State.SameBut.setErr (h : s.SameBut ch t) (e : BitVec 6) (n : Nat) :
    s.SameBut ch { t with mem := { t.mem with err := e, ueTotal := n } } := ⟨h.chan_ne⟩

theorem State.SameBut.record (h : s.SameBut ch t) (cause island t64 : Nat) (fields : List (Nat × Nat)) :
    s.SameBut ch (t.record cause island t64 fields) := h.trans (.of_chans (by simp))

theorem State.SameBut.foldl {α : Type} {f : State → α → State} (hf : ∀ s x, State.SameBut ch s (f s x)) (xs : List α)
    (s : State) : s.SameBut ch (xs.foldl f s) :=
  List.foldlRecOn xs f (.refl ch s) fun _ h x _ => h.trans (hf _ x)

end

theorem State.laneError_sameBut (s : State) (ch lane : Nat) : s.SameBut ch (s.laneError ch lane) := by
  unfold State.laneError
  dsimp only
  split
  · exact .record (.setErr (.setChan (.refl ch s) _) ..) ..
  · exact .setChan (.refl ch s) _

theorem State.SameBut.retireStart {s t : State} {ch : Nat} (h : s.SameBut ch t) (page : Nat) (ue : Bool) (hard : List Nat)
    (tk : Option Ticket) : s.SameBut ch (t.retireStart page ue hard tk).1 := by
  unfold State.retireStart
  split
  · exact ⟨h.chan_ne⟩
  · exact .record (.setErr h ..) ..

theorem State.SameBut.autoRetire {s t : State} {ch : Nat} (h : s.SameBut ch t) (page : Nat) (ue : Bool) :
    s.SameBut ch (t.autoRetire page ue) := by
  unfold State.autoRetire
  dsimp only
  split
  · exact h
  split
  · split
    · exact h.retireStart ..
    · exact h
  split
  · exact h
  · exact h.retireStart ..

theorem State.corrected_sameBut (s : State) (ch phys : Nat) (errors : List (Nat × Nat)) :
    s.SameBut ch (s.corrected ch phys errors) := by
  have hlanes : ∀ t : State, t.SameBut ch (errors.foldl (fun s x =>
      if 72 ≤ x.1 then s else s.laneError ch ((71 - x.1) / 3)) t) := .foldl (fun s x => by
    split
    · exact .refl ch s
    · exact State.laneError_sameBut ..) errors
  have hcounted := fun f => State.SameBut.trans (.tally (.cntMem (.cntMem (.modChan (.refl ch s) f) (ch / 8) 0xB6 1) (ch / 8)
    0xB7 errors.length) 12 1) (hlanes _)
  unfold State.corrected
  dsimp only
  split
  · split
    · exact .autoRetire (.record (.setErr (hcounted _) ..) ..) ..
    · exact hcounted _
  · exact hcounted _

theorem State.uncorrected_sameBut (s : State) (ch phys cls found : Nat) (address : Bool) :
    s.SameBut ch (s.uncorrected ch phys cls found address) := by
  cases address <;> simp only [State.uncorrected, if_true, if_false, Bool.false_eq_true] <;> split
  · exact .autoRetire (.record (.setErr (.modChan (.tally (.cntMem (.setErr (.modChan (.refl ch s) _) ..) ..) ..) _) ..) ..) ..
  · exact .tally (.cntMem (.setErr (.modChan (.refl ch s) _) ..) ..) ..
  · exact .record (.setErr (.modChan (.tally (.cntMem (.setErr (.modChan (.refl ch s) _) ..) ..) ..) _) ..) ..
  · exact .tally (.cntMem (.setErr (.modChan (.refl ch s) _) ..) ..) ..

theorem State.resolveRead_sameBut (s : State) (ch phys cls found : Nat) (l : Line) (e : StoredError) (stale : Bool) :
    s.SameBut ch (s.resolveRead ch phys cls found l e stale).st := by
  have hput : ∀ v, s.SameBut ch (if stale then s else s.setLine phys v) := fun v => by
    split
    · exact .refl ch s
    · exact .setLine (.refl ch s) ..
  unfold State.resolveRead
  dsimp only
  split
  · dsimp only
    split
    · exact .cntMem (.modChan (.refl ch s) _) ..
    · exact .refl ch s
  · dsimp only
    split
    · exact .cntMem (.modChan ((hput _).trans (State.corrected_sameBut ..)) _) ..
    · exact (hput _).trans (State.corrected_sameBut ..)
  · exact (hput _).trans (State.uncorrected_sameBut ..)
  · exact (hput _).trans (State.uncorrected_sameBut ..)

theorem State.writeLine_sameBut (s : State) (ch phys cls : Nat) (data : BitVec 512) (mask : BitVec 64) (poison : Bool) :
    s.SameBut ch (s.writeLine ch phys cls data mask poison) := by
  have hmarked := fun f => State.SameBut.modChan (.refl ch s) f
  unfold State.writeLine
  dsimp only
  split
  · exact .setLine (hmarked _) ..
  · exact .setLine (.cntMem ((hmarked _).trans (State.resolveRead_sameBut ..)) ..) ..

theorem State.memServe_sameBut (s : State) (ch : Nat) (r : ChReq) : s.SameBut ch (s.memServe ch r) := by
  have hbegun : s.SameBut ch (s.beginReq ch r) := .cntMem (.cntMem (.modChan (.refl ch s) _) ..) ..
  cases h : r.write with
  | true =>
    have hwritten := hbegun.trans (State.writeLine_sameBut (s.beginReq ch r) ch (s.physLine r.line) r.cls r.data r.mask r.poison)
    rw [State.memServe_write h]
    dsimp only
    split
    · exact hwritten
    · exact ⟨hwritten.chan_ne⟩
  | false =>
    rw [State.memServe_read h]
    exact hbegun.modChan _

/-! The line and the queue of a served request. -/

/-- A write of a whole line (R237): the reads under way that it overtakes are marked, and the line is stored. -/
theorem State.writeLine_whole (s : State) (ch phys cls : Nat) (data : BitVec 512) (poison : Bool) :
    s.writeLine ch phys cls data (BitVec.allOnes 64) poison =
      (s.modChan ch fun x => { x with
        reading := x.reading.map fun r => if r.phys = phys then { r with stale := true } else r }).setLine phys
        { data := data, poison := poison, written := true } := by
  simp [State.writeLine]

@[simp] theorem State.modChan_line (s : State) (ch : Nat) (f : ChanSt → ChanSt) (k : Nat) :
    (s.modChan ch f).line k = s.line k := rfl

@[simp] theorem State.setLine_chan (s : State) (k : Nat) (v : Line) (d : Nat) : (s.setLine k v).chan d = s.chan d := rfl

@[simp] theorem State.emit_line (s : State) (o : Output) (k : Nat) : (s.emit o).line k = s.line k := rfl

@[simp] theorem State.emit_chan (s : State) (o : Output) (d : Nat) : (s.emit o).chan d = s.chan d := rfl

/-- A write of a whole line leaves it as written (R237); a user other than `.other` is acknowledged. -/
theorem State.memServe_write_whole {s : State} {ch : Nat} {r : ChReq} (h : r.write = true) (hmask : r.mask = BitVec.allOnes 64) :
    let t := s.memServe ch r
    let phys := s.physLine r.line
    t.line phys = { data := r.data, poison := r.poison, written := true } ∧ (∀ k, k ≠ phys → t.line k = s.line k) ∧
      (t.chan ch).queue = (s.chan ch).queue.erase r ∧ (r.user ≠ .other → Output.memAck r.user ∈ t.out) := by
  dsimp only
  rw [State.memServe_write h, hmask, State.writeLine_whole]
  dsimp only
  split
  next hu => exact ⟨by simp, fun k hk => by simp [State.line_setLine_ne _ _ hk], by simp, fun hn => absurd hu hn⟩
  · exact ⟨by simp, fun k hk => by simp [State.line_setLine_ne _ _ hk], by simp, fun _ => by simp [State.emit]⟩

/-- A read is on its way with the line as it stood (R243). -/
theorem State.memServe_read_line {s : State} {ch : Nat} {r : ChReq} (h : r.write = false) :
    let t := s.memServe ch r
    (∀ k, t.line k = s.line k) ∧ (t.chan ch).queue = (s.chan ch).queue.erase r ∧
      (t.chan ch).reading = (s.chan ch).reading ++
        [{ req := r, phys := s.physLine r.line, line := s.line (s.physLine r.line) }] := by
  dsimp only
  rw [State.memServe_read h]
  exact ⟨fun k => by simp, by simp, by simp⟩

theorem servedRequestsReachTheirLine : Claims.ServedRequestsReachTheirLine := fun s ch r =>
  ⟨State.memServe_write_whole, State.memServe_read_line, fun _ => (State.memServe_sameBut s ch r).chan_ne⟩

/-- Settles O40: a slot is a branch of its definition, the orders are inductions on the queue, and a served request acts
on its own channel and its own line only. -/
theorem channelsServeInOrder : Obligations.ChannelsServeInOrder := by
  unfold Obligations.ChannelsServeInOrder
  exact ⟨channelSlotsFollowTheShares, requestsOfALineKeepTheirOrder, servedRequestsReachTheirLine⟩

end Sys2Proof.Machine
end

section
/-!
PROOFS. Events of fabric time: the reference clock (R48), SYNC_IN (R32, R36), beacons (R25) and SYNC_OUT (R39).
-/

namespace Sys2Proof.Machine

/-! ### The frame -/

@[simp] theorem State.journalOut_ftu (s : State) (n : Nat) : (s.journalOut n).ftu = s.ftu := by
  obtain ⟨m, p, h⟩ := State.journalOut_writes s n; rw [h]

@[simp] theorem State.journalOut_clock (s : State) (n : Nat) : (s.journalOut n).clock = s.clock := by
  obtain ⟨m, p, h⟩ := State.journalOut_writes s n; rw [h]

@[simp] theorem State.noteSummary_ftu (s : State) : s.noteSummary.ftu = s.ftu := by
  unfold State.noteSummary
  dsimp only
  split
  · exact State.sendVector_ftu _ _
  · rfl

@[simp] theorem State.noteSummary_clock (s : State) : s.noteSummary.clock = s.clock := by
  unfold State.noteSummary
  dsimp only
  split
  · exact State.sendVector_clock _ _
  · rfl

@[simp] theorem State.framed_ftu (s u : State) : (s.framed u).ftu = u.ftu := by simp [State.framed]

@[simp] theorem State.framed_clock (s u : State) : (s.framed u).clock = u.clock := by simp [State.framed]

@[simp] theorem State.framed_devRing (s u : State) (d : Nat) : (s.framed u).devRing d = u.devRing d := by
  simp [State.devRing]

/-! ### The reference clock -/

@[simp] theorem State.cntCmd_devRing (s : State) (code n d : Nat) : (s.cntCmd code n).devRing d = s.devRing d := rfl

/-- An entry that is written does not advance the ring's sequence number again. -/
@[simp] theorem State.devWrite_seq (s : State) (d : Nat) (bs : List Byte) :
    ((s.devWrite d bs).devRing d).seq = (s.devRing d).seq := by
  unfold State.devWrite
  dsimp only
  split <;> simp [State.devRing, State.setDevRing]

/-- An entry produced, written or held or lost, advances its ring's sequence number (R325). -/
theorem State.devProduce_seq (s : State) (d : Nat) (bs : List Byte) :
    ((s.devProduce d bs).devRing d).seq = ((s.devRing d).seq + 1) % 2 ^ 32 := by
  unfold State.devProduce
  dsimp only
  split
  · simp
  split <;> simp

theorem State.record_seq (s : State) (cause island t64 : Nat) (fields : List (Nat × Nat)) :
    ((s.record cause island t64 fields).devRing 1).seq = ((s.devRing 1).seq + 1) % 2 ^ 32 := by
  rw [State.record, State.recordBytes, State.devProduce_seq]
  simp [State.devRing]

theorem exec_refLost {s : State} (h : s.held = none) (hr : s.ftu.refLost = false) :
    ∃ t, exec .refLost s = .next t ∧ t.ftu = { s.ftu with refLost := true } ∧
      (t.devRing 1).seq = ((s.devRing 1).seq + 1) % 2 ^ 32 := by
  have hexec : exec .refLost s =
      .next (s.framed (({ s with ftu := { s.ftu with refLost := true } }).record 0x62 89 s.now64 [])) := by
    show execRefLost s = _
    rw [execRefLost, act_running h, if_neg (by simp [hr])]
  refine ⟨_, hexec, by simp, ?_⟩
  rw [State.framed_devRing, State.record_seq]
  rfl

/-! ### SYNC_IN -/

theorem acts_of_act {i : Instr} {s : State} {f g : State → State} (hi : exec i s = act s f) (h : s.held = none)
    (hf : f s = g s) : Acts i s g := by
  rw [Acts, hi, act_running h, hf]

@[simp] theorem Ftu.sense_inEn (f : Ftu) (e : SyncEdge) (clock : Nat) : (f.sense e clock).inEn = f.inEn := by
  unfold Ftu.sense
  split <;> rfl

@[simp] theorem Ftu.sense_inDelay (f : Ftu) (e : SyncEdge) (clock : Nat) : (f.sense e clock).inDelay = f.inDelay := by
  unfold Ftu.sense
  split <;> rfl

@[simp] theorem Ftu.sense_refEdge (f : Ftu) (e : SyncEdge) (clock : Nat) : (f.sense e clock).refEdge = f.refEdge := by
  unfold Ftu.sense
  split <;> rfl

/-- Without SYNC_IN in use an edge is only captured (log entry 13). -/
theorem State.syncEdge_unused {s : State} {e : SyncEdge} (he : e.second = false) (hin : s.ftu.inEn = false) :
    s.syncEdge e = { s with ftu := s.ftu.sense e s.clock } := by
  simp [State.syncEdge, he, hin]

/-- The first timing edge is a reference only (R31). -/
theorem State.syncEdge_first {s : State} {e : SyncEdge} (he : e.second = false) (hin : s.ftu.inEn = true)
    (ht : (s.ftu.sense e s.clock).timing e = true) (hr : s.ftu.refEdge = none) :
    s.syncEdge e = { s with ftu := { s.ftu.sense e s.clock with refEdge := some (s.clock - 16 * s.ftu.inDelay) } } := by
  simp [State.syncEdge, he, hin, ht, hr]

/-- Three periods without a valid edge of SYNC_IN begin holdover (R36). -/
theorem exec_syncAbsent {s : State} (h : s.held = none) (hin : s.ftu.inEn = true) (hhold : s.ftu.holdover = false)
    (hstand : s.ftu.standby = false) (hsource : s.ftu.source = false) (hpresent : s.ftu.present = true)
    (hlate : s.ftu.lastValid.getD s.ftu.enabledAt + 48 * s.ftu.period ≤ s.clock) :
    ∃ t, exec .syncAbsent s = .next t ∧ t.ftu.present = false ∧ t.ftu.holdover = true ∧ t.ftu.locked = false ∧
      t.ftu.period = s.ftu.period ∧ t.ftu.nextBoundary = s.ftu.nextBoundary := by
  refine ⟨_, act_running h State.syncAbsent, ?_⟩
  simp [State.syncAbsent, hin, hhold, hstand, hsource, hpresent, hlate]

/-! ### Beacons and SYNC_OUT -/

theorem State.islandOff_of_near (s : State) (i : Nat) {off : Int} (h : off.natAbs ≤ 16) : s.islandOff i off = s := by
  simp [State.islandOff, h]

/-- A beacon that finds every island near, with no check waiting, notes its FT (R25). -/
theorem State.beacon_of_near {s : State} {offs : List (Island × Int)} (hoffs : ∀ x ∈ offs, x.2.natAbs ≤ 16)
    (hchecks : s.ftu.checks = []) (hlast : s.ftu.lastBeacon + 1024 ≤ s.ft) :
    s.beacon offs = { s with ftu := { s.ftu with lastBeacon := s.ft / 1024 * 1024 } } := by
  have hislands : offs.foldl (fun s x => s.islandOff x.1 x.2) s = s :=
    List.foldlRecOn (motive := (· = s)) offs _ rfl fun t ht x hx => by rw [ht, State.islandOff_of_near s x.1 (hoffs x hx)]
  simp only [State.beacon, if_neg hlast.not_gt, hislands, hchecks, List.filter_nil, List.foldl_nil]

/-- SYNC_OUT drives the edge of the present boundary when it is due (R39). -/
theorem State.syncOut_of_due {s : State} (hout : s.ftu.outEn = true) (hstand : s.ftu.standby = false)
    (hdue : s.outDue s.ftu.courseNum s.ftu.boundary = true) :
    s.syncOut = { s with
      ftu := { s.ftu with outDone := some s.ftu.courseNum }
      out := s.out ++ [.syncOut (s.ftu.boundary - s.ftu.adv) (s.ftu.outHigh s.ftu.courseNum s.ftu.boundary)] } := by
  simp [State.syncOut, State.emit, hout, hstand, hdue]

theorem State.runBehind_of_none {s : State} (h : s.cmd.behind = []) : s.runBehind = s := by
  rw [State.runBehind, h, List.foldl_nil, ← h]

theorem fabricTimeEvents : Claims.FabricTimeEvents := by
  intro e offs s h
  refine ⟨exec_refLost h, acts_of_act (f := fun s => { s with ftu := { s.ftu with refLost := false } }) rfl h rfl,
    fun he hin => acts_of_act (f := (·.syncEdge e)) rfl h (State.syncEdge_unused he hin),
    fun he hin ht hr => acts_of_act (f := (·.syncEdge e)) rfl h (State.syncEdge_first he hin ht hr), exec_syncAbsent h,
    fun hoffs hchecks hbehind hlast => acts_of_act (f := fun s => (s.beacon offs).runBehind) rfl h ?_,
    fun hout hstand hdue => acts_of_act (f := State.syncOut) rfl h (State.syncOut_of_due hout hstand hdue)⟩
  rw [State.beacon_of_near hoffs hchecks hlast]
  exact State.runBehind_of_none hbehind

end Sys2Proof.Machine
end

section
/-!
PROOFS. What the units do as a course ends and starts (R30) leaves the fabric time and the FTU alone, but for the count of
late actions.
-/

namespace Sys2Proof.Machine

theorem State.foldl_time {α : Type} {f : State → α → State} (hf : ∀ s x, (f s x).ftu = s.ftu ∧ (f s x).clock = s.clock)
    (xs : List α) (s : State) : (xs.foldl f s).ftu = s.ftu ∧ (xs.foldl f s).clock = s.clock := by
  induction xs generalizing s with
  | nil => exact ⟨rfl, rfl⟩
  | cons x xs ih => exact ⟨(ih _).1.trans (hf s x).1, (ih _).2.trans (hf s x).2⟩

/-! ### Stations and the protection table -/

@[simp] theorem State.cntStn_time (s : State) (island code : Nat) (vfi : Option Nat) (n : Nat) :
    (s.cntStn island code vfi n).ftu = s.ftu ∧ (s.cntStn island code vfi n).clock = s.clock := by
  unfold State.cntStn
  dsimp only
  split
  · simp
  split <;> simp

@[simp] theorem State.countAccess_time (s : State) (island epoch : Nat) (d : Int) :
    (s.countAccess island epoch d).ftu = s.ftu ∧ (s.countAccess island epoch d).clock = s.clock := by
  unfold State.countAccess
  dsimp only
  split <;> simp

@[simp] theorem State.settle_time (s : State) (island e : Nat) :
    (s.settle island e).ftu = s.ftu ∧ (s.settle island e).clock = s.clock := State.countAccess_time ..

@[simp] theorem State.tagLookup_time (s : State) (island stamp tag : Nat) :
    (s.tagLookup island stamp tag).ftu = s.ftu ∧ (s.tagLookup island stamp tag).clock = s.clock := by
  unfold State.tagLookup
  dsimp only
  split <;> simp

@[simp] theorem State.tagLookups_time (s : State) (island stamp : Nat) (rid : Option Nat) (kind fma len : Nat) :
    (s.tagLookups island stamp rid kind fma len).ftu = s.ftu ∧
      (s.tagLookups island stamp rid kind fma len).clock = s.clock := by
  unfold State.tagLookups
  split
  · refine State.foldl_time (fun t a => ?_) _ s
    split
    · split <;> simp
    · exact ⟨rfl, rfl⟩
  · exact ⟨rfl, rfl⟩

@[simp] theorem State.violation_time (s : State) (v : Violation) :
    (s.violation v).ftu = s.ftu ∧ (s.violation v).clock = s.clock := by
  unfold State.violation
  dsimp only
  split
  · split <;> simp
  · split <;> simp

theorem State.flushViolations_time (s : State) :
    s.flushViolations.ftu = s.ftu ∧ s.flushViolations.clock = s.clock := by
  refine State.foldl_time (fun t x => ?_) _ s
  split <;> simp

theorem State.drainSlot_time (s : State) (i : Nat) : (s.drainSlot i).ftu = s.ftu ∧ (s.drainSlot i).clock = s.clock := by
  unfold State.drainSlot
  dsimp only
  split
  · exact ⟨rfl, rfl⟩
  split
  · split <;> simp
  · exact ⟨rfl, rfl⟩

/-! ### The core and the ports -/

theorem State.flushAged_time (s : State) (t : Nat) : (s.flushAged t).ftu = s.ftu ∧ (s.flushAged t).clock = s.clock := by
  have h := State.foldl_time (f := fun s (x : Nat × Nat × Nat) =>
    if x.1 < 1024 then s.record 0x53 t (t64Of x.2.2) [(2, x.1), (4, x.2.1)]
    else s.record 0x53 (x.1 - 1024) (t64Of x.2.2) [(2, 0x3FF), (4, x.2.1)]) (fun t x => by split <;> simp)
    (s.swcTile t).aged s
  simpa [State.flushAged] using h

theorem State.restopPort_time (s : State) (t off : Nat) :
    (s.restopPort t off).ftu = s.ftu ∧ (s.restopPort t off).clock = s.clock := by
  simp [State.restopPort]

@[simp] theorem State.restop_time (s : State) (t off : Nat) :
    (s.restop t off).ftu = s.ftu ∧ (s.restop t off).clock = s.clock := by
  unfold State.restop
  dsimp only
  split
  · exact State.foldl_time (fun s o => s.restopPort_time t o) _ s
  · exact s.restopPort_time t off

@[simp] theorem State.setActive_time (s : State) (p : Nat) (on : Bool) :
    (s.setActive p on).ftu = s.ftu ∧ (s.setActive p on).clock = s.clock := by
  unfold State.setActive
  split <;> simp

theorem State.activate_time (s : State) : s.activate.ftu = s.ftu ∧ s.activate.clock = s.clock := by
  refine State.foldl_time (fun t x => ?_) _ s
  split <;> simp

/-- The end of a course writes records and completes drained commits (R120, R217, R221); the FTU is not among its units. -/
theorem State.courseEnd_time (s : State) : s.courseEnd.ftu = s.ftu ∧ s.courseEnd.clock = s.clock := by
  have hdrain := State.foldl_time State.drainSlot_time (List.range 4)
    (s.swc.tiles.foldl (fun s x => s.flushAged x.1) s.flushViolations)
  have haged := State.foldl_time (fun s (x : Nat × TileSwc) => s.flushAged_time x.1) s.swc.tiles s.flushViolations
  exact ⟨hdrain.1.trans (haged.1.trans s.flushViolations_time.1), hdrain.2.trans (haged.2.trans s.flushViolations_time.2)⟩

/-! ### Channel requests -/

@[simp] theorem State.memSubmit_time (s : State) (r : ChReq) :
    (s.memSubmit r).ftu = s.ftu ∧ (s.memSubmit r).clock = s.clock := by
  obtain ⟨m, p, h⟩ := State.memSubmit_writes s r
  simp [h]

@[simp] theorem State.ringLines_time (s : State) (e base log2 p n : Nat) (write poison : Bool) :
    (s.ringLines e base log2 p n write poison).ftu = s.ftu ∧ (s.ringLines e base log2 p n write poison).clock = s.clock := by
  refine State.foldl_time (fun t x => ?_) _ s
  dsimp only
  split <;> simp

/-! ### Streams -/

@[simp] theorem State.modS_time (s : State) (h : Nat) (f : Stream → Stream) :
    (s.modS h f).ftu = s.ftu ∧ (s.modS h f).clock = s.clock := by
  simp [State.modS]

@[simp] theorem State.streamRecord_time (s : State) (h cause t64 : Nat) (fields : List (Nat × Nat)) (flag : BitVec 5) :
    (s.streamRecord h cause t64 fields flag).ftu = s.ftu ∧ (s.streamRecord h cause t64 fields flag).clock = s.clock := by
  unfold State.streamRecord
  split
  · exact ⟨rfl, rfl⟩
  · split <;> simp

@[simp] theorem State.writeControl_time (s : State) (h : Nat) :
    (s.writeControl h).ftu = s.ftu ∧ (s.writeControl h).clock = s.clock := by
  unfold State.writeControl
  split <;> simp

@[simp] theorem State.setAdvice_time (s : State) (h a : Nat) :
    (s.setAdvice h a).ftu = s.ftu ∧ (s.setAdvice h a).clock = s.clock := by
  unfold State.setAdvice
  dsimp only
  split
  · exact ⟨rfl, rfl⟩
  split
  · exact ⟨rfl, rfl⟩
  split <;> simp

@[simp] theorem State.streamCheck_time (s : State) (h : Nat) (d : Stream) (direct : Bool) (kind addr len : Nat) :
    (s.streamCheck h d direct kind addr len).1.ftu = s.ftu ∧ (s.streamCheck h d direct kind addr len).1.clock = s.clock := by
  by_cases hr : (s.check (some (engineRid d.engine)) kind (if direct then s.mse.localBase + addr else addr) len).1 = 0 <;>
    simp [State.streamCheck, hr]

@[simp] theorem State.ringCheck_time (s : State) (h : Nat) (d : Stream) (direct : Bool) (kind base k p n : Nat) :
    (s.ringCheck h d direct kind base k p n).1.ftu = s.ftu ∧ (s.ringCheck h d direct kind base k p n).1.clock = s.clock := by
  refine List.foldlRecOn (motive := fun x : State × Bool => x.1.ftu = s.ftu ∧ x.1.clock = s.clock) _ _ ⟨rfl, rfl⟩
    fun x hx y _ => ?_
  split <;> simp [hx]

@[simp] theorem State.loseBytes_time (s : State) (h p n : Nat) :
    (s.loseBytes h p n).ftu = s.ftu ∧ (s.loseBytes h p n).clock = s.clock := by
  unfold State.loseBytes
  dsimp only
  split
  · exact ⟨rfl, rfl⟩
  split <;> simp

@[simp] theorem State.sayDrop_time (s : State) (h : Nat) : (s.sayDrop h).ftu = s.ftu ∧ (s.sayDrop h).clock = s.clock := by
  unfold State.sayDrop
  split
  · exact ⟨rfl, rfl⟩
  split <;> simp

@[simp] theorem State.advanceProd_time (s : State) (h : Nat) :
    (s.advanceProd h).ftu = s.ftu ∧ (s.advanceProd h).clock = s.clock := by
  unfold State.advanceProd
  split
  · exact ⟨rfl, rfl⟩
  · simp [apply_ite State.ftu, apply_ite State.clock]

@[simp] theorem State.endStream_time (s : State) (h : Nat) :
    (s.endStream h).ftu = s.ftu ∧ (s.endStream h).clock = s.clock := by
  unfold State.endStream
  split
  · exact ⟨rfl, rfl⟩
  next d _ => cases d.closeTicket <;> cases d.moveTicket <;> cases d.readEpoch <;> simp

@[simp] theorem State.tryEnd_time (s : State) (h : Nat) : (s.tryEnd h).ftu = s.ftu ∧ (s.tryEnd h).clock = s.clock := by
  unfold State.tryEnd
  split
  · exact ⟨rfl, rfl⟩
  split
  · exact ⟨rfl, rfl⟩
  · split
    · exact ⟨rfl, rfl⟩
    split
    · simp [apply_ite State.ftu, apply_ite State.clock]
    split
    · exact ⟨rfl, rfl⟩
    · split <;> dsimp only <;> split <;> simp [apply_ite State.ftu, apply_ite State.clock]

@[simp] theorem State.adviseIn_time (s : State) (h : Nat) : (s.adviseIn h).ftu = s.ftu ∧ (s.adviseIn h).clock = s.clock := by
  unfold State.adviseIn
  split
  · exact ⟨rfl, rfl⟩
  split
  · exact ⟨rfl, rfl⟩
  split <;> simp [apply_ite State.ftu, apply_ite State.clock]

@[simp] theorem State.adviseOut_time (s : State) (h : Nat) :
    (s.adviseOut h).ftu = s.ftu ∧ (s.adviseOut h).clock = s.clock := by
  unfold State.adviseOut
  dsimp only
  split <;> simp [apply_ite State.ftu, apply_ite State.clock]

@[simp] theorem State.pace_time (s : State) (h len : Nat) : (s.pace h len).ftu = s.ftu ∧ (s.pace h len).clock = s.clock := by
  unfold State.pace
  split
  · exact ⟨rfl, rfl⟩
  · dsimp only
    split <;> split <;> simp [apply_ite State.ftu, apply_ite State.clock]

@[simp] theorem State.courseReads_time (s : State) (h : Nat) :
    (s.courseReads h).ftu = s.ftu ∧ (s.courseReads h).clock = s.clock := by
  unfold State.courseReads
  split
  · exact ⟨rfl, rfl⟩
  · simp [apply_ite State.ftu, apply_ite State.clock, apply_ite Prod.fst]

@[simp] theorem State.streamCourse_time (s : State) (h len : Nat) :
    (s.streamCourse h len).ftu = s.ftu ∧ (s.streamCourse h len).clock = s.clock := by
  unfold State.streamCourse
  split
  · exact ⟨rfl, rfl⟩
  · dsimp only
    simp only [apply_ite State.ftu, apply_ite State.clock, State.tryEnd_time, State.courseReads_time, State.adviseIn_time,
      State.adviseOut_time, State.pace_time, State.setStream_ftu, State.setStream_clock, State.cntEngine_ftu,
      State.cntEngine_clock, ite_self, and_self]

theorem State.streamsCourse_time (s : State) : s.streamsCourse.ftu = s.ftu ∧ s.streamsCourse.clock = s.clock :=
  State.foldl_time (fun _ _ => by simp [apply_ite State.ftu, apply_ite State.clock]) _ s

theorem State.streamsRelength_time (s : State) : s.streamsRelength.ftu = s.ftu ∧ s.streamsRelength.clock = s.clock :=
  State.foldl_time (fun _ _ => by simp [apply_ite State.ftu, apply_ite State.clock]) _ s

theorem State.vfiBoundary_time (s : State) (v : Nat) : (s.vfiBoundary v).ftu = s.ftu ∧ (s.vfiBoundary v).clock = s.clock := by
  unfold State.vfiBoundary
  dsimp only
  split
  · split <;> simp
  · simp

/-- Nothing that a unit does as a course starts reaches the FTU (R30). -/
theorem State.courseStart_time (s : State) : s.courseStart.ftu = s.ftu ∧ s.courseStart.clock = s.clock := by
  have hvfi := State.foldl_time State.vfiBoundary_time (List.range 256) s.refill.memBoundary.activate.streamsCourse
  have hstreams := s.refill.memBoundary.activate.streamsCourse_time
  have hactive := s.refill.memBoundary.activate_time
  exact ⟨hvfi.1.trans (hstreams.1.trans hactive.1), hvfi.2.trans (hstreams.2.trans hactive.2)⟩

end Sys2Proof.Machine
end

section
/-!
PROOFS. A course boundary (R29, R30): the boundary that is announced, and the launched actions that fall due at it (R45).
-/

namespace Sys2Proof.Machine

/-! ### The boundary and the next -/

/-- The announced boundary becomes the present one (R30). -/
theorem Ftu.pass_eq (f : Ftu) : ∃ a, f.pass = { f with
    courseNum := f.courseNum + 1, boundary := f.nextBoundary, recent := (f.courseNum + 1, f.nextBoundary) :: f.recent,
    lastAligned := a } := by
  unfold Ftu.pass
  dsimp only
  split
  · split <;> exact ⟨_, rfl⟩
  · exact ⟨_, rfl⟩

@[simp] theorem Ftu.pass_courseNum (f : Ftu) : f.pass.courseNum = f.courseNum + 1 := by
  obtain ⟨a, h⟩ := f.pass_eq; rw [h]
@[simp] theorem Ftu.pass_boundary (f : Ftu) : f.pass.boundary = f.nextBoundary := by
  obtain ⟨a, h⟩ := f.pass_eq; rw [h]
@[simp] theorem Ftu.pass_launches (f : Ftu) : f.pass.launches = f.launches := by
  obtain ⟨a, h⟩ := f.pass_eq; rw [h]
@[simp] theorem Ftu.pass_inEn (f : Ftu) : f.pass.inEn = f.inEn := by
  obtain ⟨a, h⟩ := f.pass_eq; rw [h]
@[simp] theorem Ftu.pass_lenLog2 (f : Ftu) : f.pass.lenLog2 = f.lenLog2 := by
  obtain ⟨a, h⟩ := f.pass_eq; rw [h]

/-- Without SYNC_IN in use the next boundary lies one course length later (R29). -/
theorem Ftu.announce_unused {f : Ftu} (h : f.inEn = false) :
    f.announce = { f with nextBoundary := f.boundary + 2 ^ f.lenLog2 } := by
  simp [Ftu.announce, Ftu.base, Ftu.pull, Ftu.len, h]
  norm_cast

theorem Ftu.announce_announce {f : Ftu} (h : f.inEn = false) : f.announce.announce = f.announce := by
  rw [Ftu.announce_unused h]
  exact Ftu.announce_unused h

/-- With SYNC_IN unused a new course length takes effect from the present boundary (R29). -/
theorem Ftu.announce_setLen {f : Ftu} (h : f.inEn = false) (n clock : Nat) :
    (f.setLen n clock).announce.nextBoundary = f.boundary + 2 ^ n ∧
    (f.setLen n clock).announce.boundary = f.boundary ∧ (f.setLen n clock).announce.courseNum = f.courseNum ∧
    (f.setLen n clock).announce.launches = f.launches := by
  unfold Ftu.setLen
  split
  next hn => simp [Ftu.announce_unused h, hn]
  · dsimp only
    rw [Ftu.announce_announce (by exact h), Ftu.announce_unused (by exact h)]
    simp [Ftu.restart]

/-! ### What changes only the count of late actions -/

/-- `t` has the clock of `s`, and its FTU but for the count of late actions (R42). -/
structure State.SameButLate (s t : State) : Prop where
  clock : t.clock = s.clock
  ftu : ∃ n, t.ftu = { s.ftu with lateCount := n }

theorem State.SameButLate.of_time {s t : State} (h : t.ftu = s.ftu ∧ t.clock = s.clock) : s.SameButLate t :=
  ⟨h.2, s.ftu.lateCount, h.1⟩

theorem State.SameButLate.trans {s t u : State} (h : s.SameButLate t) (h' : t.SameButLate u) : s.SameButLate u := by
  obtain ⟨n, hn⟩ := h.ftu
  obtain ⟨m, hm⟩ := h'.ftu
  exact ⟨h'.clock.trans h.clock, m, by rw [hm, hn]⟩

theorem State.SameButLate.launches {s t : State} (h : s.SameButLate t) : t.ftu.launches = s.ftu.launches := by
  obtain ⟨n, hn⟩ := h.ftu
  rw [hn]

theorem State.SameButLate.boundary {s t : State} (h : s.SameButLate t) : t.ftu.boundary = s.ftu.boundary := by
  obtain ⟨n, hn⟩ := h.ftu
  rw [hn]

theorem State.noteLaunched_sameButLate (s : State) (c : Cmd) (ft lag : Nat) : s.SameButLate (s.noteLaunched c ft lag) := by
  unfold State.noteLaunched State.noteLate
  split
  · cases c.src with
    | ring p => exact ⟨by simp, _, by simp; rfl⟩
    | side => exact ⟨rfl, _, rfl⟩
  · exact .of_time (by simp)

theorem State.freezeRun_time (s : State) (tk : Ticket) (range : Option (Nat × Nat)) (b : Nat) (late : Bool) :
    (s.freezeRun tk range b late).ftu = s.ftu ∧ (s.freezeRun tk range b late).clock = s.clock := by
  unfold State.freezeRun State.freezeAt
  cases range <;> dsimp only <;> split <;> simp

/-- The freezes that were put off (R358) change the FTU's count of late actions only. -/
theorem State.freezeBoundary_sameButLate (s : State) (b : Nat) : s.SameButLate (s.freezeBoundary b) := by
  unfold State.freezeBoundary
  split
  · exact .of_time ⟨rfl, rfl⟩
  · refine List.foldlRecOn (motive := s.SameButLate) _ _ (.of_time ⟨rfl, rfl⟩) fun t ht d _ => ?_
    exact (ht.trans (.of_time (State.freezeRun_time ..))).trans (State.noteLaunched_sameButLate ..)

/-! ### Actions that fall due -/

theorem State.launchAligned_of_none {s : State} (h : s.ftu.launches = []) (f : Launch → Bool) : s.launchAligned f = s := by
  rw [State.launchAligned, h, List.foldl_nil]

theorem State.launchAligned_of_one {s : State} {l : Launch} (h : s.ftu.launches = [l]) (f : Launch → Bool) :
    s.launchAligned f = s.launchFirst ([l].filter fun l => l.aligned && f l) := by
  rw [State.launchAligned, h, List.foldl_cons, List.foldl_nil, h]

theorem State.unqueue_ftu_of_one {s : State} {l : Launch} (h : s.ftu.launches = [l]) :
    (s.unqueue l).ftu = { s.ftu with launches := [] } := by
  simp [State.unqueue, h]

theorem Reply.finish_ok_time (s : State) (res : Nat) (clamp : Option Nat) (tk : Ticket) :
    ((Reply.ok s res clamp).finish tk).ftu = s.ftu ∧ ((Reply.ok s res clamp).finish tk).clock = s.clock := by
  simp [Reply.ok, Reply.finish]

/-- TIME_COURSE_SET sets the length, and changes nothing else of the FTU (R29). -/
theorem opTimeCourseSet_run {tk : Ticket} {c : Cmd} {s : State} :
    State.SameButLate { s with ftu := s.ftu.setLen (clampNat 10 17 (c.byte 16)) s.clock } (opTimeCourseSet.run tk c s) := by
  have hbusy : s.mscBusy opTimeCourseSet.code = false := by simp [State.mscBusy, opTimeCourseSet]
  have hbody : opTimeCourseSet.body tk c s =
      .ok (State.streamsRelength { s with ftu := s.ftu.setLen (clampNat 10 17 (c.byte 16)) s.clock }) 0
        (c.ranged 16 1 10 17).2 := rfl
  rw [OpSpec.run, hbusy, hbody]
  exact .trans (.of_time (State.streamsRelength_time _)) (.of_time (Reply.finish_ok_time ..))

/-- The one queued action, a TIME_COURSE_SET, leaves the queue and sets the length (R29). -/
theorem State.launch_timeCourseSet {s : State} {l : Launch} (hop : l.op = opTimeCourseSet.code)
    (hq : s.ftu.launches = [l]) :
    ∃ n, (s.launch l).ftu =
      { ({ s.ftu with launches := [] } : Ftu).setLen (clampNat 10 17 (l.cmd.byte 16)) s.clock with lateCount := n } := by
  have hlaunch : s.launch l = opTimeCourseSet.launchNow l s := by
    rw [State.launch, hop]
    rfl
  have hsame := (opTimeCourseSet_run (tk := opTimeCourseSet.launchTicket l (s.unqueue l)) (c := l.cmd)
    (s := s.unqueue l)).trans (State.noteLaunched_sameButLate _ l.cmd (l.at' (s.unqueue l)) (opTimeCourseSet.lag l (s.unqueue l)))
  obtain ⟨n, hftu⟩ := hsame.ftu
  exact ⟨n, by rw [hlaunch, ← State.unqueue_ftu_of_one hq]; exact hftu⟩

/-! ### The course boundary -/

/-- The state in which the announced boundary has passed, and the put-off freezes have executed (R30, R358). -/
def State.passed (s : State) : State := State.freezeBoundary { s with ftu := s.ftu.pass } s.ftu.pass.boundary

/-- The state in which every action of the boundary has taken effect (R45). -/
def State.courseLaunched (s : State) : State :=
  (s.passed.launchAligned Launch.captures).courseEnd.launchAligned fun l => !l.captures

/-- Once the actions of the boundary have taken effect, the next one is announced (R29). -/
theorem State.courseBoundary_time {s : State} (h : s.boundaryDue = true) :
    s.courseBoundary.ftu = s.courseLaunched.ftu.announce ∧ s.courseBoundary.clock = s.courseLaunched.clock := by
  rw [State.courseBoundary, if_pos h]
  exact State.courseStart_time (s.courseLaunched.cntFtu 0xD8).announceNext

/-- The end of a course leaves the FTU as the boundary found it, but for the course that is counted. -/
theorem State.courseEnd_passed (s : State) : State.SameButLate { s with ftu := s.ftu.pass } s.passed.courseEnd :=
  (State.freezeBoundary_sameButLate _ _).trans (.of_time (State.courseEnd_time _))

theorem State.passed_launches (s : State) : s.passed.ftu.launches = s.ftu.launches :=
  (State.freezeBoundary_sameButLate _ _).launches.trans s.ftu.pass_launches

/-- Without a launched action the boundary counts the course and does nothing else to the FTU. -/
theorem State.courseLaunched_of_none {s : State} (h : s.ftu.launches = []) : s.courseLaunched = s.passed.courseEnd := by
  have hpassed : s.passed.ftu.launches = [] := s.passed_launches.trans h
  have hend : s.passed.courseEnd.ftu.launches = [] := by rw [(State.courseEnd_time _).1, hpassed]
  rw [State.courseLaunched, State.launchAligned_of_none hpassed, State.launchAligned_of_none hend]

/-- The one launched action, no capture and due at the boundary, executes after the end of the course (R45). -/
theorem State.courseLaunched_of_one {s : State} {l : Launch} (h : s.ftu.launches = [l]) (hcap : l.captures = false)
    (hal : l.aligned = true) (hdue : l.e ≤ s.ftu.nextBoundary) : s.courseLaunched = s.passed.courseEnd.launch l := by
  have hpassed : s.passed.ftu.launches = [l] := s.passed_launches.trans h
  have hend : s.passed.courseEnd.ftu.launches = [l] := by rw [(State.courseEnd_time _).1, hpassed]
  have hb : s.passed.courseEnd.ftu.boundary = s.ftu.nextBoundary := s.courseEnd_passed.boundary.trans s.ftu.pass_boundary
  have hnow : l.due s.passed.courseEnd = true := by simp [Launch.due, hal, hb, hdue]
  have hfirst : s.passed.launchAligned Launch.captures = s.passed := by
    rw [State.launchAligned_of_one hpassed]
    simp [hcap, State.launchFirst, pickLaunch]
  rw [State.courseLaunched, hfirst, State.launchAligned_of_one hend]
  simp [hal, hcap, State.launchFirst, pickLaunch, hnow]

/-- COURSE_BOUNDARY at the announced boundary without a launched action. -/
theorem State.courseBoundary_of_none {s : State} (h : s.boundaryDue = true) (hq : s.ftu.launches = []) :
    ∃ n, s.courseBoundary.ftu = { s.ftu.pass.announce with lateCount := n } ∧ s.courseBoundary.clock = s.clock := by
  obtain ⟨hclock, n, hftu⟩ := s.courseEnd_passed
  obtain ⟨hf, hc⟩ := State.courseBoundary_time h
  rw [State.courseLaunched_of_none hq] at hf hc
  exact ⟨n, by rw [hf, hftu]; rfl, hc.trans hclock⟩

/-- The announcement does not look at the count of late actions. -/
theorem Ftu.announce_lateCount (f : Ftu) (n : Nat) :
    Ftu.announce { f with lateCount := n } = { f.announce with lateCount := n } := rfl

/-- COURSE_BOUNDARY at which the one launched action, a TIME_COURSE_SET, falls due: its length already governs the
course that begins (R29). -/
theorem State.courseBoundary_of_timeCourseSet {s : State} {l : Launch} (h : s.boundaryDue = true)
    (hq : s.ftu.launches = [l]) (hop : l.op = opTimeCourseSet.code) (hal : l.aligned = true)
    (hdue : l.e ≤ s.ftu.nextBoundary) (hin : s.ftu.inEn = false) :
    s.courseBoundary.ftu.launches = [] ∧ s.courseBoundary.ftu.courseNum = s.ftu.courseNum + 1 ∧
    s.courseBoundary.ftu.boundary = s.ftu.nextBoundary ∧
    s.courseBoundary.ftu.nextBoundary = s.ftu.nextBoundary + 2 ^ clampNat 10 17 (l.cmd.byte 16) := by
  have hcap : l.captures = false := by simp [Launch.captures, hop, opTimeCourseSet]
  obtain ⟨-, n, hftu⟩ := s.courseEnd_passed
  have hend : s.passed.courseEnd.ftu.launches = [l] := by simp [hftu, hq]
  obtain ⟨m, hm⟩ := State.launch_timeCourseSet hop hend
  have hf := (State.courseBoundary_time h).1
  rw [State.courseLaunched_of_one hq hcap hal hdue, hm, Ftu.announce_lateCount] at hf
  obtain ⟨hnext, hbound, hnum, hlaunches⟩ := Ftu.announce_setLen (f := { s.passed.courseEnd.ftu with launches := [] })
    (by simpa [hftu] using hin) (clampNat 10 17 (l.cmd.byte 16)) s.passed.courseEnd.clock
  rw [hf]
  exact ⟨hlaunches, hnum.trans (by simp [hftu]), hbound.trans (by simp [hftu]), hnext.trans (by simp [hftu])⟩

theorem courseBoundaryPasses : Claims.CourseBoundaryPasses := by
  intro s h
  have hexec : exec .courseBoundary s = .next (s.framed s.courseBoundary) := act_running h State.courseBoundary
  refine ⟨fun hd => acts_of_act (f := State.courseBoundary) rfl h (by simp [State.courseBoundary, hd]),
    fun hd hq => ⟨_, hexec, ?_⟩, fun l hd hq hop hal hdue hin => ⟨_, hexec, ?_⟩⟩
  · obtain ⟨n, hftu, hclock⟩ := State.courseBoundary_of_none hd hq
    rw [State.framed_ftu, State.framed_clock, hftu]
    exact ⟨hclock, s.ftu.pass_courseNum, s.ftu.pass_boundary, rfl, fun hin => by simp [Ftu.announce_unused, hin]⟩
  · rw [State.framed_ftu]
    exact State.courseBoundary_of_timeCourseSet hd hq hop hal hdue hin

/-- Settles O10: each event is a branch of its operation, and what surrounds the actions of a boundary leaves the FTU but
for the course it counts and the late actions. -/
theorem fabricTimeAndBoundaries : Obligations.FabricTimeAndBoundaries := by
  unfold Obligations.FabricTimeAndBoundaries
  exact ⟨fabricTimeEvents, courseBoundaryPasses⟩

end Sys2Proof.Machine
end

section
/-!
PROOFS. What the frame around a command's effect leaves of the Port Logic, the Lane Complex, the manager's memory and the
outputs.
-/

namespace Sys2Proof.Machine

/-- What no step of a fold changes is as it was. -/
theorem State.foldl_keeps {α β : Type} {f : State → α → State} (part : State → β)
    (hf : ∀ s x, part (f s x) = part s) (xs : List α) (s : State) : part (xs.foldl f s) = part s := by
  induction xs generalizing s with
  | nil => rfl
  | cons x xs ih => exact (ih _).trans (hf s x)

theorem State.noteSummary_writes (s : State) :
    ∃ ug uf up uo, s.noteSummary = { s with glb := ug, fmp := uf, pcn := up, out := uo } := by
  unfold State.noteSummary
  dsimp only
  split
  · obtain ⟨f, p, o, h⟩ := State.sendVector_writes { s with glb := { s.glb with lastSummary := s.errSummary } }
      s.glb.irqVec
    exact ⟨_, f, p, o, by rw [h]⟩
  · exact ⟨_, s.fmp, s.pcn, s.out, rfl⟩

theorem State.framed_writes (s u : State) : ∃ ug uf um up uo, s.framed u =
    { u with held := none, variant := s.variant, eeprom := s.eeprom, pending := s.pending
             glb := ug, fmp := uf, mem := um, pcn := up, out := uo } := by
  obtain ⟨g, f, p, o, h⟩ := u.noteSummary_writes
  obtain ⟨m, p', h'⟩ := State.journalOut_writes u.noteSummary s.evr.journalNext
  exact ⟨g, _, m, p', o, by rw [State.framed, h', h]⟩

@[simp] theorem State.framed_prt (s u : State) : (s.framed u).prt = u.prt := by
  obtain ⟨g, f, m, p, o, h⟩ := s.framed_writes u; rw [h]

@[simp] theorem State.framed_lnk (s u : State) : (s.framed u).lnk = u.lnk := by
  obtain ⟨g, f, m, p, o, h⟩ := s.framed_writes u; rw [h]

@[simp] theorem State.framed_mgr (s u : State) : (s.framed u).mgr = u.mgr := by
  obtain ⟨g, f, m, p, o, h⟩ := s.framed_writes u; rw [h]

@[simp] theorem State.port_framed (s u : State) (p : Nat) : (s.framed u).port p = u.port p := by
  simp [State.port]

@[simp] theorem State.lane_framed (s u : State) (l : Nat) : (s.framed u).lane l = u.lane l := by
  simp [State.lane]

@[simp] theorem State.link_framed (s u : State) (c : Nat) : (s.framed u).link c = u.link c := by
  simp [State.link]

@[simp] theorem State.tileLnk_framed (s u : State) (t : Nat) : (s.framed u).tileLnk t = u.tileLnk t := by
  simp [State.tileLnk]

/-! ### The outputs -/

theorem State.sendVector_out (s : State) (v : Nat) : ∃ os, (s.sendVector v).out = s.out ++ os := by
  unfold State.sendVector
  split
  · split
    · exact ⟨[], (List.append_nil _).symm⟩
    · split
      · exact ⟨[], (List.append_nil _).symm⟩
      · exact ⟨_, rfl⟩
  · exact ⟨[], (List.append_nil _).symm⟩

/-- The frame adds to the outputs at most; it takes none back. -/
theorem State.framed_out (s u : State) : ∃ os, (s.framed u).out = u.out ++ os := by
  obtain ⟨m, p, h⟩ := State.journalOut_writes u.noteSummary s.evr.journalNext
  have hout : (s.framed u).out = u.noteSummary.out := by rw [State.framed, h]
  rw [hout, State.noteSummary]
  dsimp only
  split
  · exact State.sendVector_out _ _
  · exact ⟨[], (List.append_nil _).symm⟩

end Sys2Proof.Machine
end

section
/-!
PROOFS. What lanes, ports and links are after an operation of another unit, and changes of the lanes alone.
-/

namespace Sys2Proof.Machine

/-! ### Ports and links after records, events and completions -/

@[simp] theorem State.port_event (s : State) (kind island t64 : Nat) (fields : List (Nat × Nat)) (p : Nat) :
    (s.event kind island t64 fields).port p = s.port p := by
  simp [State.port]

@[simp] theorem State.port_cntTile (s : State) (t code : Nat) (vfi port : Option Nat) (n p : Nat) :
    (s.cntTile t code vfi port n).port p = s.port p := rfl

@[simp] theorem State.link_event (s : State) (kind island t64 : Nat) (fields : List (Nat × Nat)) (c : Nat) :
    (s.event kind island t64 fields).link c = s.link c := by
  simp [State.link]

@[simp] theorem State.link_record (s : State) (cause island t64 : Nat) (fields : List (Nat × Nat)) (c : Nat) :
    (s.record cause island t64 fields).link c = s.link c := by
  simp [State.link]

@[simp] theorem State.link_complete (s : State) (tk : Ticket) (status result c : Nat) :
    (s.complete tk status result).link c = s.link c := by
  simp [State.link]

@[simp] theorem State.link_emit (s : State) (o : Output) (c : Nat) : (s.emit o).link c = s.link c := rfl

@[simp] theorem State.link_modPort (s : State) (p : Nat) (f : PortSt → PortSt) (c : Nat) :
    (s.modPort p f).link c = s.link c := rfl

/-! ### Changes of lanes alone -/

/-- From `s` to `t` the lanes alone change. -/
def State.LanesChange (s t : State) : Prop := ∃ ls, t = { s with lnk := { s.lnk with lanes := ls } }

section
variable {s t u : State}

theorem State.LanesChange.refl (s : State) : s.LanesChange s := ⟨_, rfl⟩

theorem State.LanesChange.trans (h : s.LanesChange t) (h' : t.LanesChange u) : s.LanesChange u := by
  obtain ⟨ls, rfl⟩ := h
  obtain ⟨ls', rfl⟩ := h'
  exact ⟨ls', rfl⟩

theorem State.LanesChange.foldl {α : Type} {f : State → α → State} (hf : ∀ s x, State.LanesChange s (f s x))
    (xs : List α) (s : State) : s.LanesChange (xs.foldl f s) := by
  induction xs generalizing s with
  | nil => exact .refl s
  | cons x xs ih => exact (hf s x).trans (ih _)

theorem State.LanesChange.prt (h : s.LanesChange t) : t.prt = s.prt := by obtain ⟨ls, rfl⟩ := h; rfl
theorem State.LanesChange.clock (h : s.LanesChange t) : t.clock = s.clock := by obtain ⟨ls, rfl⟩ := h; rfl
theorem State.LanesChange.mgr (h : s.LanesChange t) : t.mgr = s.mgr := by obtain ⟨ls, rfl⟩ := h; rfl
theorem State.LanesChange.links (h : s.LanesChange t) : t.lnk.links = s.lnk.links := by obtain ⟨ls, rfl⟩ := h; rfl
theorem State.LanesChange.tiles (h : s.LanesChange t) : t.lnk.tiles = s.lnk.tiles := by obtain ⟨ls, rfl⟩ := h; rfl
theorem State.LanesChange.eq (h : s.LanesChange t) : t.lnk.eq = s.lnk.eq := by obtain ⟨ls, rfl⟩ := h; rfl

end

theorem State.turnLane_lanesChange (s : State) (l : Nat) (f : LaneSt → LaneSt) :
    s.LanesChange (s.turnLane l f) := ⟨_, rfl⟩

theorem State.modLanes_lanesChange (s : State) (p : Nat) (f : LaneSt → LaneSt) : s.LanesChange (s.modLanes p f) :=
  .foldl (fun s l => by
    split
    · exact .refl s
    · exact s.turnLane_lanesChange l f) _ s

@[simp] theorem State.modLanes_prt (s : State) (p : Nat) (f : LaneSt → LaneSt) : (s.modLanes p f).prt = s.prt :=
  (s.modLanes_lanesChange p f).prt

@[simp] theorem State.modLanes_links (s : State) (p : Nat) (f : LaneSt → LaneSt) :
    (s.modLanes p f).lnk.links = s.lnk.links :=
  (s.modLanes_lanesChange p f).links

@[simp] theorem State.port_modLanes (s : State) (p : Nat) (f : LaneSt → LaneSt) (q : Nat) :
    (s.modLanes p f).port q = s.port q := by
  simp [State.port]

end Sys2Proof.Machine
end

section
/-!
PROOFS. New settings of a block, and the events of a port's link (R77, R84, R86, R90).
-/

namespace Sys2Proof.Machine

/-! ### A port changes state -/

@[simp] theorem State.port_portTo_self (s : State) (p : Nat) (st : PortState) :
    (s.portTo p st).port p = { s.port p with state := st } := by
  unfold State.portTo
  split
  next h => rw [← h]
  next => simp

theorem State.port_portTo_ne (s : State) {p q : Nat} (st : PortState) (h : q ≠ p) :
    (s.portTo p st).port q = s.port q := by
  unfold State.portTo
  split
  · rfl
  · simp [State.port_modPort_ne _ _ h]

@[simp] theorem State.portTo_trackers (s : State) (p : Nat) (st : PortState) :
    (s.portTo p st).prt.trackers = s.prt.trackers := by
  unfold State.portTo
  split <;> simp [State.modPort, State.setPort]

@[simp] theorem State.portTo_clock (s : State) (p : Nat) (st : PortState) : (s.portTo p st).clock = s.clock := by
  unfold State.portTo
  split <;> simp [State.modPort]

@[simp] theorem State.portTo_lnk (s : State) (p : Nat) (st : PortState) : (s.portTo p st).lnk = s.lnk := by
  unfold State.portTo
  split <;> simp [State.modPort]

/-! ### A port enters DETECT -/

theorem State.port_toDetect_self (s : State) (p : Nat) :
    ((s.toDetect p).port p).cfg = (s.port p).cfg ∧ ((s.toDetect p).port p).state = .detect := by
  simp [State.toDetect]

theorem State.port_toDetect_ne (s : State) {p q : Nat} (h : q ≠ p) : (s.toDetect p).port q = s.port q := by
  simp [State.toDetect, State.port_portTo_ne _ _ h, State.port_modPort_ne _ _ h]

/-! ### New settings of a block -/

@[simp] theorem State.loopRun_prt (s : State) (p : Nat) : (s.loopRun p).prt = s.prt := by
  unfold State.loopRun
  dsimp only
  split
  · rfl
  · split
    · split <;> simp [State.emit]
    · rfl

@[simp] theorem State.port_loopRun (s : State) (p q : Nat) : (s.loopRun p).port q = s.port q := by
  simp [State.port]

/-- A block that was not UP gives its lanes up and nothing else before it is disabled. -/
theorem State.applyBlock_of_disabled {s : State} {p : Nat} {c : PortCfg} (hc : (s.port p).cfg ≠ c) (hen : c.en = false)
    (hup : (s.port p).state ≠ .up) : ∃ t : State, t.prt = s.prt ∧
      s.applyBlock p c = (t.modPort p fun x => { x with cfg := c }).portTo p .disabled := by
  cases hold : (s.port p).cfg.en with
  | true => exact ⟨s.modLanes p LaneSt.off, by simp, by simp [State.applyBlock, hc, hen, hup, hold]⟩
  | false => exact ⟨s, rfl, by simp [State.applyBlock, hc, hen, hup, hold]⟩

/-- The other ports keep their state under the new settings of a block that was not UP. -/
theorem State.port_applyBlock_ne {s : State} {p q : Nat} (c : PortCfg) (h : q ≠ p) (hup : (s.port p).state ≠ .up) :
    (s.applyBlock p c).port q = s.port q := by
  by_cases hc : (s.port p).cfg = c
  · simp [State.applyBlock, hc]
  cases hen : c.en with
  | false =>
    obtain ⟨t, ht, happly⟩ := State.applyBlock_of_disabled hc hen hup
    rw [happly, State.port_portTo_ne _ _ h, State.port_modPort_ne _ _ h]
    simp [State.port, ht]
  | true =>
    cases hst : (s.port p).state with
    | up => exact absurd hst hup
    | disabled | detect | training | contained | loop =>
      simp [State.applyBlock, hc, hen, hst, State.port_toDetect_ne _ h, State.port_modPort_ne _ _ h]

theorem blockChangeDisturbsOnlyItsPort : Claims.BlockChangeDisturbsOnlyItsPort := by
  intro s p c
  refine ⟨fun h => by simp [State.applyBlock, h], fun hc hen hup => ?_, fun hc hen hst => ?_,
    fun q h hup => State.port_applyBlock_ne c h hup⟩
  · obtain ⟨t, -, happly⟩ := State.applyBlock_of_disabled hc hen hup
    simp [happly]
  · have happly : s.applyBlock p c = (s.modPort p fun x => { x with cfg := c }).toDetect p := by
      simp [State.applyBlock, hc, hen, hst]
    obtain ⟨hcfg, hdetect⟩ := State.port_toDetect_self (s.modPort p fun x => { x with cfg := c }) p
    rw [happly]
    exact ⟨by simpa using hcfg, hdetect⟩

/-! ### The events of a link -/

theorem State.receiverDetected_of_ready {s : State} {p : Nat} (hex : s.portExists p = true) (hen : (s.port p).cfg.en = true)
    (hst : (s.port p).state = .detect) (hpow : (s.tileLnk (p / 16)).powered = true)
    (hlock : (s.tileLnk (p / 16)).pllLock = true) (hgate : s.gateShut p = false) (hquiet : (s.port p).quietUntil ≤ s.clock)
    (hwired : (s.eqLane p).unused = false) :
    s.receiverDetected p = ((s.modPort p fun x => { x with
        shelfHold := false
        from16 := if x.cfg.shelfGate ∧ x.from16 ≠ 0 then x.from16 else s.clock }).modLanes p fun x =>
      { x with rate := 1, idle := false }).portTo p .training := by
  simp [State.receiverDetected, hex, hen, hst, hpow, hlock, hgate, hquiet, hwired]

theorem State.receiverDetected_of_not_detect {s : State} {p : Nat} (h : (s.port p).state ≠ .detect) :
    s.receiverDetected p = s := by
  simp [State.receiverDetected, h]

theorem State.contain_of_up {s : State} {p : Nat} (h : (s.port p).state = .up) :
    s.contain p = ((s.linkDown p).modPort p fun x => { x with err := x.err ||| 16 }).portTo p .contained := by
  simp [State.contain, h]

theorem State.downToDetect_of_up {s : State} {p : Nat} (h : (s.port p).state = .up) :
    s.downToDetect p = (s.linkDown p).toDetect p := by
  simp [State.downToDetect, h]

theorem State.downToDetect_of_training {s : State} {p : Nat} (h : (s.port p).state = .training) :
    s.downToDetect p = (s.quiet p).toDetect p := by
  simp [State.downToDetect, h]

theorem State.downToDetect_of_neither {s : State} {p : Nat} (hup : (s.port p).state ≠ .up)
    (htr : (s.port p).state ≠ .training) : s.downToDetect p = s := by
  simp [State.downToDetect, hup, htr]

theorem State.linkDownEvent_expected (s : State) (p : Nat) : s.linkDownEvent p false = s.downToDetect p := by
  simp [State.linkDownEvent]

theorem State.linkDownEvent_surprise {s : State} {p : Nat} (h : (s.port p).state = .up) :
    s.linkDownEvent p true = if (s.port p).cfg.dpcEn then (s.modPort p fun x => { x with err := x.err ||| 1 }).contain p
      else (s.modPort p fun x => { x with err := x.err ||| 1 }).downToDetect p := by
  simp [State.linkDownEvent, h]

theorem portLinkEvents : Claims.PortLinkEvents := by
  intro p s h
  have hdown (surprise : Bool) : exec (.linkDown p surprise) s = act s (·.linkDownEvent p surprise) := rfl
  have hfatal : exec (.errFatal p) s = act s (·.errFatal p) := rfl
  have hflag (hup : (s.port p).state = .up) : ((s.modPort p fun x => { x with err := x.err ||| 1 }).port p).state = .up := by
    simpa using hup
  refine ⟨fun hex hen hst hpow hlock hgate hquiet hwired => acts_of_act (f := (·.receiverDetected p)) rfl h
      (State.receiverDetected_of_ready hex hen hst hpow hlock hgate hquiet hwired),
    fun hst => acts_of_act (f := (·.receiverDetected p)) rfl h (State.receiverDetected_of_not_detect hst),
    fun hst => acts_of_act (hdown false) h ?_, fun hst => acts_of_act (hdown false) h ?_,
    fun hup htr => acts_of_act (hdown false) h ?_, fun hup hdpc => acts_of_act (hdown true) h ?_,
    fun hup hdpc => acts_of_act (hdown true) h ?_, fun hup hrole => acts_of_act hfatal h ?_,
    fun hrole => acts_of_act hfatal h (by simp [State.errFatal, hrole])⟩
  · rw [State.linkDownEvent_expected, State.downToDetect_of_up hst]
  · rw [State.linkDownEvent_expected, State.downToDetect_of_training hst]
  · rw [State.linkDownEvent_expected, State.downToDetect_of_neither hup htr, id]
  · rw [State.linkDownEvent_surprise hup, if_pos hdpc, State.contain_of_up (hflag hup)]
  · rw [State.linkDownEvent_surprise hup, if_neg (by simp [hdpc]), State.downToDetect_of_up (hflag hup)]
  · rw [State.errFatal, if_neg hrole, State.contain_of_up hup]

end Sys2Proof.Machine
end

section
/-!
PROOFS. LINK_UP of a port whose partner trains without a loop (R78, R98).
-/

namespace Sys2Proof.Machine

/-! ### What training leaves on lanes, and what follows it -/

theorem State.noteMiswired_keeps (s : State) (p n : Nat) (t : TrainResult) :
    (s.noteMiswired p n t).prt = s.prt ∧ (s.noteMiswired p n t).clock = s.clock := by
  unfold State.noteMiswired
  dsimp only
  split
  · exact ⟨rfl, rfl⟩
  · have hlanes := State.LanesChange.foldl (fun s i => s.turnLane_lanesChange (p + i) fun l =>
      { l with miswired := true, rate := 0, idle := true })
      ((List.range (widthLanes (s.port p).cfg.width)).filter fun i => decide (n ≤ i)) s
    exact ⟨(State.recordBytes_prt ..).trans hlanes.prt, (State.recordBytes_clock ..).trans hlanes.clock⟩

theorem State.equalise_lanesChange (s : State) (l rate i : Nat) (t : TrainResult) :
    s.LanesChange (s.equalise l rate i t) := ⟨_, rfl⟩

/-- The answers to the partner's requests are outputs. -/
theorem State.foldl_answerEq_keeps (s : State) (p n : Nat) (rs : List EqRequest) :
    let u := rs.foldl (fun s r => if r.off.val < n then s.answerEq p r else s) s
    u.prt = s.prt ∧ u.clock = s.clock :=
  ⟨State.foldl_keeps State.prt (fun s r => by split <;> rfl) rs s,
    State.foldl_keeps State.clock (fun s r => by split <;> rfl) rs s⟩

@[simp] theorem State.slotNote_prt (s : State) (p : Nat) (link on : Bool) : (s.slotNote p link on).prt = s.prt := by
  unfold State.slotNote
  split
  · rfl
  · refine State.foldl_keeps State.prt (fun t b => ?_) _ s
    rfl

@[simp] theorem State.slotNote_clock (s : State) (p : Nat) (link on : Bool) : (s.slotNote p link on).clock = s.clock := by
  unfold State.slotNote
  split
  · rfl
  · refine State.foldl_keeps State.clock (fun t b => ?_) _ s
    rfl

/-- The streams of a port that comes back post their event and no more. -/
theorem State.streamsPort_up_keeps {β : Type} (part : State → β)
    (hpart : ∀ (s : State) kind island t64 fields, part (s.event kind island t64 fields) = part s) (s : State) (p : Nat) :
    part (s.streamsPort p true) = part s := by
  refine State.foldl_keeps part (fun s x => ?_) _ s
  simp only [Bool.not_true, Bool.false_and, Bool.false_eq_true, if_false, if_true]
  split
  · exact hpart ..
  · rfl

/-! ### The port that comes up -/

/-- The settings of a link that trained at width `w` within 20 ms, put into a port that was `old` when its training ended at
the instant `clock`. -/
def PortSt.trained (x old : PortSt) (t : TrainResult) (w clock : Nat) : PortSt :=
  { x with width := w, rate := min t.rate.val old.cfg.maxRate, mode := 2, cxl := t.cxl, mld := t.mld, dcd := t.dcd
           active := false, ldMap := t.ldMap.toNat, linkupTime := min (2 ^ 24 - 1) ((clock - old.from16) / 16000)
           err := x.err ||| if w < old.cfg.width then 32 else 0, openMsg := none, ideState := 0 }

theorem modeFor_flit {c : PortCfg} {t : TrainResult} (rate : Nat) (h : t.mode.val = 2) : modeFor c rate t = some 2 := by
  simp [modeFor, h]

/-- A port that trained without a loop takes the link's settings on a state whose lanes are equalised, and is UP. -/
theorem State.linkUp_of_trained {s : State} {p : Nat} {t : TrainResult} (hst : (s.port p).state = .training)
    (hrate : 3 ≤ t.rate.val) (hmax : 3 ≤ (s.port p).cfg.maxRate) (hloop : t.loopback = false) (hmode : t.mode.val = 2)
    (hfast : s.clock - (s.port p).from16 ≤ ms16 20) {w : Nat}
    (hw : min t.width.val (s.usableWidth p t.laneOrder (s.port p).cfg.width) = w) :
    ∃ u : State, u.prt = s.prt ∧ u.clock = s.clock ∧ s.linkUp p t =
      (((u.modPort p fun x => x.trained (s.port p) t w s.clock).portTo p .up).slotNote p true true).streamsPort p true := by
  obtain ⟨hprt, hclock⟩ := s.noteMiswired_keeps p (2 ^ w) t
  obtain ⟨hprt', hclock'⟩ := (s.noteMiswired p (2 ^ w) t).foldl_answerEq_keeps p (2 ^ w) t.requests
  have hlanes := State.LanesChange.foldl
    (fun u i => u.equalise_lanesChange (p + i) (min t.rate.val (s.port p).cfg.maxRate) i t) (List.range (2 ^ w))
    (t.requests.foldl (fun s r => if r.off.val < 2 ^ w then s.answerEq p r else s) (s.noteMiswired p (2 ^ w) t))
  have hrate' : ¬ min t.rate.val (s.port p).cfg.maxRate < 3 := by omega
  have hslow : ¬ ms16 20 < s.clock - (s.port p).from16 := by omega
  refine ⟨_, hlanes.prt.trans (hprt'.trans hprt), hlanes.clock.trans (hclock'.trans hclock), ?_⟩
  simp [State.linkUp, hst, hrate', hloop, modeFor_flit _ hmode, hslow, PortSt.trained, hw]

/-- What follows the change of state to UP leaves the ports and the instant. -/
theorem State.upNotes_keeps (s : State) (p : Nat) :
    ((s.slotNote p true true).streamsPort p true).prt = s.prt ∧
      ((s.slotNote p true true).streamsPort p true).clock = s.clock :=
  ⟨(State.streamsPort_up_keeps State.prt State.event_prt ..).trans (s.slotNote_prt p true true),
    (State.streamsPort_up_keeps State.clock State.event_clock ..).trans (s.slotNote_clock p true true)⟩

theorem trainedLinkComesUp : Claims.TrainedLinkComesUp := by
  intro p t s h hst hrate hmax hloop hmode hfast
  generalize hw : min t.width.val (s.usableWidth p t.laneOrder (s.port p).cfg.width) = w
  obtain ⟨u, hprt, hclock, hup⟩ := State.linkUp_of_trained hst hrate hmax hloop hmode hfast hw
  generalize hv : (u.modPort p fun x => x.trained (s.port p) t w s.clock).portTo p .up = v at hup
  obtain ⟨hprt', hclock'⟩ := v.upNotes_keeps p
  have hports (q : Nat) : u.port q = s.port q := by simp [State.port, hprt]
  have hleft (q : Nat) : (s.framed (s.linkUp p t)).port q = v.port q := by simp [State.port, hup, hprt']
  have hself : v.port p = { (s.port p).trained (s.port p) t w s.clock with state := .up } := by
    rw [← hv, State.port_portTo_self, State.port_modPort_self, hports]
  have htime : (s.clock - (s.port p).from16) / 16000 ≤ 2 ^ 24 - 1 := by
    simp only [ms16] at hfast
    omega
  refine ⟨_, act_running h (·.linkUp p t), ?_⟩
  rw [hleft, hself]
  refine ⟨rfl, rfl, rfl, rfl, rfl, rfl, rfl, rfl, Nat.min_eq_right htime, rfl, rfl, fun q hq => ?_, ?_, ?_⟩
  · rw [hleft, ← hv, State.port_portTo_ne _ _ hq, State.port_modPort_ne _ _ hq, hports]
  · rw [State.framed_prt, hup, hprt', ← hv, State.portTo_trackers, ← hprt]
    rfl
  · rw [State.framed_clock, hup, hclock', ← hv, State.portTo_clock, ← hclock]
    rfl

end Sys2Proof.Machine
end

section
/-!
PROOFS. The traffic of a port: flits (R80, R82), tracker entries (R87), tunnels (R93), link IDE (R96) and electrical idle
(R59).
-/

namespace Sys2Proof.Machine

/-! ### Flits -/

theorem State.flitReceive_of_not_up {s : State} {p : Nat} (f : FlitResult) (h : (s.port p).state ≠ .up) :
    s.flitReceive p f = s := by
  simp [State.flitReceive, h]

/-- A good flit that opens no message counts (R80). -/
theorem State.flitReceive_good_alone {s : State} {p : Nat} {f : FlitResult} (h : (s.port p).state = .up)
    (hf : f.outcome = .good) (hleft : f.slotsLeft = 0) (hopen : (s.port p).openMsg = none) : s.flitReceive p f =
      (s.cntTile (p / 16) 0x10 none (some (p % 16))).modPort p fun x => { x with openMsg := none } := by
  simp [State.flitReceive, h, hf, hleft, hopen]

/-- A good flit with no slot left over brings the open message the rest of its slots (R81). -/
theorem State.flitReceive_good_open {s : State} {p : Nat} {f : FlitResult} {o : OpenIn} (h : (s.port p).state = .up)
    (hf : f.outcome = .good) (hleft : f.slotsLeft = 0) (hopen : (s.port p).openMsg = some o) : s.flitReceive p f =
      ((s.cntTile (p / 16) 0x10 none (some (p % 16))).slotsArrive p o.slots false).modPort p fun x =>
        { x with openMsg := none } := by
  simp [State.flitReceive, h, hf, hleft, hopen]

theorem State.flitReceive_crcFail {s : State} {p : Nat} {f : FlitResult} (h : (s.port p).state = .up)
    (hf : f.outcome = .crcFail) : s.flitReceive p f =
      (s.modPort p fun x => { x with replay := satAdd 16 x.replay 1 }).cntTile (p / 16) 0x12 none (some (p % 16)) := by
  simp [State.flitReceive, h, hf]

theorem State.flitReceive_bufferEcc {s : State} {p : Nat} {f : FlitResult} (h : (s.port p).state = .up)
    (hf : f.outcome = .bufferEcc) : s.flitReceive p f =
      (s.cntTile (p / 16) 0x10 none (some (p % 16))).poisonOpen p 3 := by
  simp [State.flitReceive, h, hf]

/-! ### Tracker entries, tunnels and link IDE -/

theorem State.trackerFree_of_found {s : State} {t p tag : Nat} {e : Tracker}
    (h : (s.trackers t).find? (fun e => e.port == p && e.tag == tag) = some e) :
    s.trackerFree t p tag = if e.settled then s.modTrackers t fun l => l.erase e
      else (s.modTrackers t fun l => l.erase e).settle t e.epoch := by
  simp [State.trackerFree, h]

theorem State.tunnelResponse_of_command {s : State} {p : Nat} {u : Tunnel} (body : List Byte)
    (h : (s.port p).tunnel = some u) (hfm : u.fm = false) : s.tunnelResponse p body =
      ((s.modPort p fun x => { x with tunnel := none }).mgrWrite u.respAddr (body.take u.capacity)).complete
        u.ticket stOk body.length := by
  simp [State.tunnelResponse, h, hfm]

theorem State.tunnelTimeout_of_passed {s : State} {p : Nat} {u : Tunnel} (h : (s.port p).tunnel = some u)
    (hfm : u.fm = false) (hdue : u.deadline ≤ s.clock) : s.tunnelTimeout p =
      (s.modPort p fun x => { x with tunnel := none }).complete u.ticket stTimeout 0 := by
  simp [State.tunnelTimeout, h, hfm, hdue]

theorem State.tunnelTimeout_of_early {s : State} {p : Nat} {u : Tunnel} (h : (s.port p).tunnel = some u)
    (hdue : s.clock < u.deadline) : s.tunnelTimeout p = s := by
  simp [State.tunnelTimeout, h, hdue]

theorem State.ideKm_secure {s : State} {p : Nat} (k : Byte) (hF : s.isF = true) (h : (s.port p).state = .up)
    (hide : (s.port p).ideState = 1) :
    s.ideKm p (.secure k) = s.modPort p fun x => { x with ideState := 2, keySet := k.toNat } := by
  simp [State.ideKm, State.modPort, hF, h, hide]

theorem State.ideKm_of_no_ide {s : State} (p : Nat) (e : IdeEvent) (hF : s.isF = false) : s.ideKm p e = s := by
  simp [State.ideKm, hF]

/-! ### Electrical idle -/

@[simp] theorem State.laneNow_idle (s : State) (l : Nat) : (s.laneNow l).idle = (s.lane l).idle := by
  unfold State.laneNow
  dsimp only
  split <;> split <;> rfl

theorem State.lane_turnLane_self (s : State) (l : Nat) (f : LaneSt → LaneSt) :
    (s.turnLane l f).lane l = { f (s.laneNow l) with adaptAt := s.clock } := State.lane_setLane_self ..

theorem State.lane_turnLane_ne (s : State) {l k : Nat} (f : LaneSt → LaneSt) (h : k ≠ l) :
    (s.turnLane l f).lane k = s.lane k := State.lane_setLane_ne _ _ h

/-- The lanes of a list that a test picks enter idle; every other lane is as idle as it was. -/
theorem State.idle_foldl_turnLane (ls : List Nat) (pick : Nat → Bool) (s : State) (k : Nat) :
    ((ls.foldl (fun s l => if pick l then s.turnLane l fun x => { x with idle := true } else s) s).lane k).idle =
      ((s.lane k).idle || (ls.contains k && pick k)) := by
  induction ls generalizing s with
  | nil => simp
  | cons l ls ih =>
    rw [List.foldl_cons, ih, List.contains_cons]
    by_cases hk : k = l
    · subst hk
      cases hp : pick k <;> simp [State.lane_turnLane_self]
    · cases hp : pick l <;> simp [State.lane_turnLane_ne _ _ hk, beq_false_of_ne hk]

theorem exec_electricalIdleEntry {p : Port} {s : State} (h : s.held = none) (lanes : BitVec 16)
    (hup : (s.port p).state = .up) : ∃ t, exec (.electricalIdleEntry p lanes) s = .next t ∧
      ∀ l, (t.lane l).idle = ((s.lane l).idle || (s.portLanes p).contains l && lanes.getLsbD (l - p.val)) ∧
        t.prt = s.prt ∧ t.mgr = s.mgr := by
  have hentry : s.idleEntry p lanes = (s.portLanes p).foldl (fun s l =>
      if lanes.getLsbD (l - p) then s.turnLane l fun x => { x with idle := true } else s) s := by
    simp [State.idleEntry, hup]
  have hlanes : s.LanesChange (s.idleEntry p lanes) := hentry ▸ State.LanesChange.foldl (fun s l => by
    split
    · exact s.turnLane_lanesChange l _
    · exact .refl s) (s.portLanes p) s
  refine ⟨_, act_running h (·.idleEntry p lanes), fun l => ⟨?_, ?_, ?_⟩⟩
  · rw [State.lane_framed, hentry, State.idle_foldl_turnLane _ fun l => lanes.getLsbD (l - p)]
  · rw [State.framed_prt, hlanes.prt]
  · rw [State.framed_mgr, hlanes.mgr]

theorem portTrafficEvents : Claims.PortTrafficEvents := by
  intro p f body s h
  have hflit : exec (.flitReceive p f) s = act s (·.flitReceive p f) := rfl
  have hresponse : exec (.cciTunnelResponse p body) s = act s (·.tunnelResponse p body) := rfl
  have htimeout : exec (.cciTunnelTimeout p) s = act s (·.tunnelTimeout p) := rfl
  have hide (e : IdeEvent) : exec (.ideKmMessage p e) s = act s (·.ideKm p e) := rfl
  refine ⟨fun hup hf hleft hopen => acts_of_act hflit h (State.flitReceive_good_alone hup hf hleft hopen),
    fun o hup hf hleft hopen => acts_of_act hflit h (State.flitReceive_good_open hup hf hleft hopen),
    fun hup hf => acts_of_act hflit h (State.flitReceive_crcFail hup hf),
    fun hup hf => acts_of_act hflit h (State.flitReceive_bufferEcc hup hf),
    fun hup => acts_of_act hflit h (State.flitReceive_of_not_up f hup), fun t tag e hfind => ?_,
    fun u hu hfm => acts_of_act hresponse h (State.tunnelResponse_of_command body hu hfm),
    fun u hu hfm hdue => acts_of_act htimeout h (State.tunnelTimeout_of_passed hu hfm hdue),
    fun u hu hdue => acts_of_act htimeout h (State.tunnelTimeout_of_early hu hdue),
    fun hF hup hst k => acts_of_act (hide _) h (State.ideKm_secure k hF hup hst),
    fun hF e => acts_of_act (hide e) h (State.ideKm_of_no_ide p e hF), fun lanes => exec_electricalIdleEntry h lanes⟩
  have hfree : exec (.trackerFree t p tag) s = act s (·.trackerFree t p tag.toNat) := rfl
  refine ⟨fun hs => acts_of_act hfree h ?_, fun hs => acts_of_act hfree h ?_⟩
  · rw [State.trackerFree_of_found hfind, if_pos hs]
  · rw [State.trackerFree_of_found hfind, if_neg (by simp [hs])]

/-- Settles O19: each event is a branch of its operation; a block's change and a link that comes up are followed through the
writes of their one port. -/
theorem portEvents : Obligations.PortEvents := by
  unfold Obligations.PortEvents
  exact ⟨blockChangeDisturbsOnlyItsPort, portLinkEvents, trainedLinkComesUp, portTrafficEvents⟩

end Sys2Proof.Machine
end

section
/-!
PROOFS. The lane opcodes (Table 03-11): the equalisation table (R54, R56) and lane loops (R60).
-/

namespace Sys2Proof.Machine

/-! ### The equalisation table -/

/-- A table that fails a check leaves no entry (R56). -/
theorem State.loadEq_of_finding {s : State} (h : eqFinding s.eeprom ≠ 0) :
    s.loadEq.lnk.eq = [] ∧ s.loadEq.lnk.slEq = [] := by
  simp only [State.loadEq, if_pos h, State.record_lnk]
  constructor
  · refine (State.foldl_keeps (·.lnk.eq) (fun u t => ?_) _ _).trans ?_ <;> rfl
  · refine (State.foldl_keeps (·.lnk.slEq) (fun u t => ?_) _ _).trans ?_ <;> rfl

/-- LNK_EQ_RELOAD where the EEPROM answers. -/
theorem completes_lnkEqReload {c : Cmd} {s : State} (h : Instant opLnkEqReload c s) (hf : eqFinding s.eeprom ≠ 1) :
    Completes (.lnkEqReload c) 0x1B c s State.loadEq (s.accept c).loadEq.badEntries :=
  OpSpec.completes (o := opLnkEqReload) rfl h rfl rfl (by simp [opLnkEqReload, hf])

theorem answers_lnkEqReload {c : Cmd} {s : State} (h : Instant opLnkEqReload c s) (hf : eqFinding s.eeprom = 1) :
    Answers (.lnkEqReload c) 0x1B c s State.loadEq stTimeout 0 := by
  have hbody : opLnkEqReload.body (c.ticket 0x1B s.ft) c (s.accept c) = .bad (s.accept c).loadEq stTimeout := by
    simp [opLnkEqReload, hf]
  rw [Answers, OpSpec.answers (o := opLnkEqReload) rfl h rfl rfl hbody]
  simp [Reply.finish, Reply.bad, opLnkEqReload]

/-! ### Lane loops -/

theorem targetPort_of_le {c : Cmd} (h : c.target ≤ 1023) : targetPort c = c.target := min_eq_right h

theorem targetClamp_of_le {c : Cmd} {hi : Nat} (h : c.target ≤ hi) : targetClamp c hi = none := if_neg h.not_gt

theorem completes_lnkLoopSet_start {c : Cmd} {s : State} (h : Instant opLnkLoopSet c s) (ht : c.target ≤ 1023)
    (hm : 1 ≤ c.byte 16) (hm' : c.byte 16 ≤ 3) (hp : c.byte 17 ≤ 2) (hr : 3 ≤ c.byte 18) (hr' : c.byte 18 ≤ 6) :
    Completes (.lnkLoopSet c) 0x1C c s (fun t => t.loopStart c.target (c.byte 16) (c.byte 17) (c.byte 18)) 0 := by
  refine OpSpec.completes (o := opLnkLoopSet) rfl h rfl rfl ?_
  have hmode := Cmd.ranged_inside (c := c) (off := 16) (n := 1) (Nat.zero_le _) (hm'.trans (by decide : 3 ≤ 4))
  have hpattern := Cmd.ranged_inside (c := c) (off := 17) (n := 1) (Nat.zero_le _) hp
  have hrate := Cmd.ranged_inside (c := c) (off := 18) (n := 1) hr hr'
  -- modes 1 to 3 are the ones that run a loop
  have hruns : c.byte 16 = 1 ∨ c.byte 16 = 2 ∨ c.byte 16 = 3 := by omega
  rw [Cmd.byte] at hruns
  rcases hruns with hk | hk | hk <;>
    simp [opLnkLoopSet, hmode, hpattern, hrate, Cmd.byte, hk, targetPort_of_le ht, targetClamp_of_le ht]

theorem completes_lnkLoopSet_stop {c : Cmd} {s : State} (h : Instant opLnkLoopSet c s) (ht : c.target ≤ 1023)
    (hm : c.byte 16 = 0) : Completes (.lnkLoopSet c) 0x1C c s (fun t => t.loopStop c.target) 0 := by
  refine OpSpec.completes (o := opLnkLoopSet) rfl h rfl rfl ?_
  simp [opLnkLoopSet, Cmd.ranged_byte_upTo, hm, targetPort_of_le ht, targetClamp_of_le ht]

theorem completes_lnkLoopSet_follow {c : Cmd} {s : State} (h : Instant opLnkLoopSet c s) (ht : c.target ≤ 1023)
    (hm : c.byte 16 = 4) : Completes (.lnkLoopSet c) 0x1C c s
      (fun t => { t with lnk := { t.lnk with follow := c.target :: t.lnk.follow.filter (· ≠ c.target) } }) 0 := by
  refine OpSpec.completes (o := opLnkLoopSet) rfl h rfl rfl ?_
  simp [opLnkLoopSet, Cmd.ranged_byte_upTo, hm, targetPort_of_le ht, targetClamp_of_le ht]

@[simp] theorem State.accept_laneNow (s : State) (c : Cmd) (l : Nat) : (s.accept c).laneNow l = s.laneNow l := by
  simp [State.laneNow]

@[simp] theorem State.accept_portLanes (s : State) (c : Cmd) (p : Nat) : (s.accept c).portLanes p = s.portLanes p := by
  simp [State.portLanes]

theorem completes_lnkLoopRead {c : Cmd} {s : State} (h : Instant opLnkLoopRead c s) (ht : c.target ≤ 1023) :
    Completes (.lnkLoopRead c) 0x1D c s id (((s.portLanes c.target).map fun l => (s.laneNow l).loopErr).foldl max 0) := by
  refine OpSpec.completes (o := opLnkLoopRead) rfl h rfl rfl ?_
  simp [opLnkLoopRead, targetPort_of_le ht, targetClamp_of_le ht]

/-! ### A loop that starts -/

/-- A change of a port's wired lanes gives each of them what the change gives every lane. -/
theorem State.lane_foldl_turnLane {P : LaneSt → Prop} {f : LaneSt → LaneSt} (hf : ∀ x a, P { f x with adaptAt := a })
    (ls : List Nat) {s : State} {l : Nat} (hw : (s.eqLane l).unused = false) (h : l ∈ ls ∨ P (s.lane l)) :
    P ((ls.foldl (fun s l => if (s.eqLane l).unused then s else s.turnLane l f) s).lane l) := by
  induction ls generalizing s with
  | nil => simpa using h
  | cons k ks ih =>
    simp only [List.foldl_cons]
    refine ih (by split <;> exact hw) ?_
    by_cases hk : l = k
    · subst hk
      rw [if_neg (by simp [hw]), State.lane_turnLane_self]
      exact .inr (hf ..)
    · refine h.imp (fun hl => List.mem_of_ne_of_mem hk hl) fun hP => ?_
      split
      · exact hP
      · rwa [State.lane_turnLane_ne _ _ hk]

theorem State.lane_modLanes {P : LaneSt → Prop} {f : LaneSt → LaneSt} (hf : ∀ x a, P { f x with adaptAt := a })
    {s : State} {p l : Nat} (hl : l ∈ s.portLanes p) (hw : (s.eqLane l).unused = false) : P ((s.modLanes p f).lane l) :=
  State.lane_foldl_turnLane hf _ hw (.inl hl)

theorem State.loopStart_of_down {s : State} {p mode pattern rate : Nat} (hd : (s.port p).state ≠ .disabled)
    (hup : (s.port p).state ≠ .up) : s.loopStart p mode pattern rate =
      ((s.modPort p fun x => { x with loopReq := some (mode, pattern, rate) }).portTo p .loop).loopRun p := by
  simp [State.loopStart, hd, hup]

theorem State.lane_loopRun {s : State} {p mode pattern rate l : Nat} (hreq : (s.port p).loopReq = some (mode, pattern, rate))
    (hst : (s.port p).state = .loop) (hlock : (s.tileLnk (p / 16)).pllLock = true) (hl : l ∈ s.portLanes p)
    (hw : (s.eqLane l).unused = false) :
    ((s.loopRun p).lane l).loop = mode ∧ ((s.loopRun p).lane l).loopErr = 0 := by
  have hlane := State.lane_modLanes (P := fun x => x.loop = mode ∧ x.loopErr = 0) (f := fun x => { x with
    loop := mode, pattern := pattern, loopRate := rate, rate := rate, idle := decide (mode < 3), cdrLock := true
    loopErr := 0, loopBits := 0, loopAt := if mode = 4 then none else some s.clock }) (fun x a => ⟨rfl, rfl⟩) hl hw
  simp only [State.loopRun, hreq, hst, hlock, true_and, if_true]
  split <;> exact hlane

theorem State.loopStart_loops {s : State} {p mode pattern rate : Nat} (hd : (s.port p).state ≠ .disabled)
    (hup : (s.port p).state ≠ .up) : ((s.loopStart p mode pattern rate).port p).state = .loop ∧
      ((s.tileLnk (p / 16)).pllLock = true → ∀ l ∈ s.portLanes p, (s.eqLane l).unused = false →
        ((s.loopStart p mode pattern rate).lane l).loop = mode ∧
          ((s.loopStart p mode pattern rate).lane l).loopErr = 0) := by
  rw [State.loopStart_of_down hd hup]
  refine ⟨by simp, fun hlock l hl hw =>
    State.lane_loopRun (pattern := pattern) (rate := rate) (by simp) (by simp) ?_ ?_ ?_⟩
  · simpa [State.tileLnk, State.modPort] using hlock
  · simpa [State.portLanes] using hl
  · simpa [State.eqLane, State.modPort] using hw

theorem laneOpcodes : Claims.LaneOpcodes := fun _ _ =>
  ⟨completes_lnkEqReload, answers_lnkEqReload, completes_lnkLoopSet_start, completes_lnkLoopSet_stop,
    completes_lnkLoopSet_follow, completes_lnkLoopRead, State.loadEq_of_finding, fun _ _ _ _ => State.loopStart_loops⟩

end Sys2Proof.Machine
end

section
/-!
PROOFS. The shelf-link opcodes (R69, R70), the lane banks (R53) and the end of electrical idle (R59).
-/

namespace Sys2Proof.Machine

/-! ### The shelf-link opcodes -/

theorem targetCage_of_le {c : Cmd} (h : c.target ≤ 63) : targetCage c = c.target := min_eq_right h

/-- A far-end loop, a warning or a wake or sleep message of the link stands in the way of a loop command (R70). -/
def ShelfLink.loopBarred (l : ShelfLink) : Bool :=
  l.loopCmd.isSome || l.state == .loop || l.warns != [] || l.queue.any fun m => m.kind == 0x30 || m.kind == 0x31

section
variable {c : Cmd} {s : State} {tk : Ticket} (ht : c.target ≤ 63)
include ht

theorem opLnkSlLoop_body (hm : 1 ≤ c.le 16 2) (hm' : c.le 16 2 ≤ 60000) :
    opLnkSlLoop.body tk c s =
      if (s.link c.target).loopBarred then .bad s stBusy
      else if (s.link c.target).state = .off then .bad s stAborted
      else .later ((s.modLink c.target fun l => { l with loopMs := c.le 16 2, loopEnd := 0, loopCmd := some tk }).slQueue
        c.target 0x50 (leBytes 2 (c.le 16 2))) := by
  simp only [opLnkSlLoop, targetCage_of_le ht, targetClamp_of_le ht, Cmd.ranged_inside hm hm', minClamp_none_right,
    ShelfLink.loopBarred]
  rfl

theorem opLnkSlDelay_body : opLnkSlDelay.body tk c s =
      if (s.link c.target).state ≠ .active then .bad s stTimeout
      else if (s.link c.target).delayCmd.isSome then .bad s stBusy
      else .later ((s.modLink c.target fun l => { l with delayCmd := some tk }).slDelayReq c.target) := by
  simp only [opLnkSlDelay, targetCage_of_le ht, targetClamp_of_le ht, minClamp_none_right]

end

theorem shelfOpcodes : Claims.ShelfOpcodes := by
  intro c s ht g inWay
  refine ⟨fun h hm hm' hway hoff => OpSpec.holds (o := opLnkSlLoop) rfl h rfl rfl ?_,
    fun h hm hm' hway => OpSpec.endsWith (o := opLnkSlLoop) rfl h rfl rfl ?_,
    fun h hm hm' hway hoff => OpSpec.endsWith (o := opLnkSlLoop) rfl h rfl rfl ?_,
    fun h hst hdelay => OpSpec.holds (o := opLnkSlDelay) rfl h rfl rfl ?_,
    fun h hst hdelay => OpSpec.endsWith (o := opLnkSlDelay) rfl h rfl rfl ?_,
    fun h hst => OpSpec.endsWith (o := opLnkSlDelay) rfl h rfl rfl ?_⟩
  · have hfree : (s.link c.target).loopBarred = false := hway
    rw [opLnkSlLoop_body ht hm hm', State.accept_link, hfree, if_neg (by decide), if_neg hoff]
  · have hbarred : (s.link c.target).loopBarred = true := hway
    rw [opLnkSlLoop_body ht hm hm', State.accept_link, if_pos hbarred]
  · have hfree : (s.link c.target).loopBarred = false := hway
    rw [opLnkSlLoop_body ht hm hm', State.accept_link, hfree, if_neg (by decide), if_pos hoff]
  · rw [opLnkSlDelay_body ht, State.accept_link, if_neg (not_not_intro hst), hdelay, if_neg (by decide)]
  · rw [opLnkSlDelay_body ht, State.accept_link, if_neg (not_not_intro hst), if_pos hdelay]
  · rw [opLnkSlDelay_body ht, State.accept_link, if_pos hst]

/-! ### Lane banks -/

/-- A register write to a tile that is there, once the equalisation table is loaded. -/
theorem State.lnkGate_of_loaded {s : State} {t : Nat} (f : State → State) (ht : s.tileExists t = true)
    (heq : s.glb.eqLoaded = true) : s.lnkGate t f = f s := by
  simp [State.lnkGate, State.gated, ht, heq]

/-- Before EQ_LOADED the write is ignored and counted (R344). -/
theorem State.lnkGate_of_early {s : State} {t : Nat} (f : State → State) (ht : s.tileExists t = true)
    (heq : s.glb.eqLoaded = false) :
    s.lnkGate t f = { s with glb := { s.glb with notReadyWr := satAdd 32 s.glb.notReadyWr 1 } } := by
  simp [State.lnkGate, State.gated, ht, heq]

/-- A gated write of the LNK sub-window acts. -/
theorem acts_of_lnkGate {i : Instr} {s : State} {t : Nat} {f g : State → State}
    (hi : exec i s = actFmp s fun s => s.lnkGate t f) (h : s.Alive) (ht : s.tileExists t = true)
    (heq : s.glb.eqLoaded = true) (hfg : f s = g s) : Acts i s g := by
  rw [Acts, hi, actFmp_alive h, State.lnkGate_of_loaded f ht heq, hfg]

/-- A bank is powered while it has an enabled port and is not forced off (R53). -/
def State.bankOn (s : State) (t : Nat) : Bool :=
  !(s.tileLnk t).forceOff && (List.range 16).any fun i => (s.port (16 * t + i)).cfg.en

theorem State.repower_of_same {s : State} {t : Nat} (h : s.bankOn t = (s.tileLnk t).powered) : s.repower t = s := by
  rw [State.bankOn] at h
  simp only [State.repower, if_pos h]

/-- A bank whose power changes writes its own tile, and lanes. -/
theorem State.repower_of_other {s : State} {t : Nat} (h : s.bankOn t ≠ (s.tileLnk t).powered) :
    ∃ at', (s.modTileLnk t fun x => { x with powered := s.bankOn t, pllLock := false, poweredAt := at' }).LanesChange
      (s.repower t) := by
  rw [State.bankOn] at h
  simp only [State.repower, if_neg h]
  refine ⟨_, .foldl (fun u i => ?_) _ _⟩
  split
  · exact u.turnLane_lanesChange _ _
  · split
    · exact u.modLanes_lanesChange _ _
    · exact .refl u

theorem State.LanesChange.tileLnk {s t : State} (h : s.LanesChange t) (k : Nat) : t.tileLnk k = s.tileLnk k := by
  simp [State.tileLnk, h.tiles]

/-- Powering a bank as its ports and FORCE_OFF ask changes no other tile, no port and nothing of the manager's memory. -/
theorem State.repower_keeps (s : State) (t : Nat) :
    ((s.repower t).tileLnk t).forceOff = (s.tileLnk t).forceOff ∧ ((s.repower t).tileLnk t).powered = s.bankOn t ∧
      (∀ k, k ≠ t → (s.repower t).tileLnk k = s.tileLnk k) ∧ (s.repower t).prt = s.prt ∧
      (s.repower t).mgr = s.mgr := by
  by_cases h : s.bankOn t = (s.tileLnk t).powered
  · simp [State.repower_of_same h, h]
  · obtain ⟨at', hlanes⟩ := State.repower_of_other h
    refine ⟨?_, ?_, fun k hk => ?_, hlanes.prt, hlanes.mgr⟩
    · simp [hlanes.tileLnk]
    · simp [hlanes.tileLnk]
    · rw [hlanes.tileLnk, State.tileLnk_modTileLnk_ne _ _ hk]

theorem State.forceOff_taken (s : State) (t : Nat) : s.forceOff t true =
    (((List.range 16).foldl (fun s i => s.downToDetect (16 * t + i)) s).modTileLnk t fun x =>
      { x with forceOff := true }).repower t := by
  simp only [State.forceOff, if_true]

theorem exec_forceOff_back {t : Tile} {s : State} (h : s.Alive) (ht : s.tileExists t = true)
    (heq : s.glb.eqLoaded = true) : ∃ u, exec (.forceOff t false) s = .next u ∧ (u.tileLnk t).forceOff = false ∧
      (u.tileLnk t).powered = ((List.range 16).any fun i => (s.port (16 * t + i)).cfg.en) ∧
      (∀ k, k ≠ t.val → u.tileLnk k = s.tileLnk k) ∧ u.prt = s.prt ∧ u.mgr = s.mgr := by
  have hacts : Acts (.forceOff t false) s fun s => (s.modTileLnk t fun x => { x with forceOff := false }).repower t :=
    acts_of_lnkGate rfl h ht heq (by simp [State.forceOff])
  obtain ⟨hoff, hpowered, htiles, hprt, hmgr⟩ :=
    (s.modTileLnk t fun x => { x with forceOff := false }).repower_keeps t
  refine ⟨_, hacts, ?_, ?_, fun k hk => ?_, ?_, ?_⟩
  · rw [State.tileLnk_framed, hoff, State.tileLnk_modTileLnk_self]
  · rw [State.tileLnk_framed, hpowered, State.bankOn, State.tileLnk_modTileLnk_self]
    rfl
  · rw [State.tileLnk_framed, htiles k hk, State.tileLnk_modTileLnk_ne _ _ hk]
  · rw [State.framed_prt, hprt]
    rfl
  · rw [State.framed_mgr, hmgr]
    rfl

theorem State.bankPllLock_of_due {s : State} {t : Nat} (hpow : (s.tileLnk t).powered = true)
    (hlock : (s.tileLnk t).pllLock = false) (hdue : (s.tileLnk t).poweredAt + us16 50 ≤ s.clock) :
    s.bankPllLock t = (List.range 16).foldl (fun s i => s.loopRun (16 * t + i))
      (s.modTileLnk t fun x => { x with pllLock := true }) := by
  simp [State.bankPllLock, State.modTileLnk, hpow, hlock, hdue]

theorem State.bankPllLock_of_early {s : State} {t : Nat} (h : s.clock < (s.tileLnk t).poweredAt + us16 50) :
    s.bankPllLock t = s := by
  simp [State.bankPllLock, h.not_ge]

theorem bankAndIdleEvents : Claims.BankAndIdleEvents := by
  intro t l s
  have hlock : exec (.bankPllLock t) s = act s (·.bankPllLock t) := rfl
  refine ⟨fun h ht heq => acts_of_lnkGate (f := (·.forceOff t true)) rfl h ht heq (s.forceOff_taken t),
    exec_forceOff_back, fun h ht heq => ?_,
    fun h hpow hpll hdue => acts_of_act hlock h (State.bankPllLock_of_due hpow hpll hdue),
    fun h hearly => acts_of_act hlock h (State.bankPllLock_of_early hearly), fun h hidle hrate => ?_⟩
  · have hexec : exec (.forceOff t true) s = actFmp s fun s => s.lnkGate t fun s => s.forceOff t true := rfl
    rw [Acts, hexec, actFmp_alive h, State.lnkGate_of_early _ ht heq]
  · exact acts_of_act (f := fun s => if (s.lane l).idle && (s.lane l).rate != 0 then
      s.turnLane l fun x => { x with idle := false, cdrLock := true } else s) rfl h (if_pos (by simp [hidle, hrate]))

/-- Settles O20: each opcode's body answers by its guards, and each event is a branch of its operation; a loop is followed
into each lane of its port, and a bank's power through the writes of its tile. -/
theorem laneAndShelfOpcodes : Obligations.LaneAndShelfOpcodes := by
  unfold Obligations.LaneAndShelfOpcodes
  exact ⟨laneOpcodes, shelfOpcodes, bankAndIdleEvents⟩

end Sys2Proof.Machine
end

section
/-!
PROOFS. The link-down actions of a port (R86, R88, R89) reach the core, the stations, the engines and the home slices, and
leave the Lane Complex alone.
-/

namespace Sys2Proof.Machine

/-! ### Cells, accesses and answers -/

@[simp] theorem State.settle_lnk (s : State) (island e : Nat) : (s.settle island e).lnk = s.lnk := by
  unfold State.settle State.countAccess
  dsimp only
  split <;> rfl

@[simp] theorem State.noteQuota_lnk (s : State) (t vfi : Nat) : (s.noteQuota t vfi).lnk = s.lnk := by
  obtain ⟨ts, l, h, -⟩ := State.noteQuota_writes s t vfi; rw [h]

@[simp] theorem State.queueCell_lnk (s : State) (src : Nat) (c : Cell) : (s.queueCell src c).lnk = s.lnk := rfl

@[simp] theorem State.intoCore_lnk (s : State) (src srcOff dst dstOff : Nat) (m : Msg) (slice : Bool) :
    (s.intoCore src srcOff dst dstOff m slice).lnk = s.lnk := by
  simp only [State.intoCore, State.noteQuota_lnk]
  split
  · exact State.foldl_keeps (·.lnk) (fun _ _ => State.queueCell_lnk ..) _ s
  · exact State.foldl_keeps (·.lnk) (fun _ _ => State.queueCell_lnk ..) _ s

@[simp] theorem State.sendMade_lnk (s : State) (tile : Nat) (m : Msg) (cls : Nat) (r : Msg) :
    (s.sendMade tile m cls r).lnk = s.lnk := by
  unfold State.sendMade
  dsimp only
  split
  · rfl
  split
  · rfl
  · exact State.intoCore_lnk ..

@[simp] theorem State.answerLost_lnk (s : State) (tile : Nat) (m : Msg) (ca : Bool) (code : Nat) (counted : Bool)
    (cls : Nat) : (s.answerLost tile m ca code counted cls).lnk = s.lnk := by
  have hsent := State.foldl_keeps (·.lnk) (fun s r => s.sendMade_lnk tile m cls r) (lostReplies m ca) s
  simp only [State.answerLost, State.settleMsg]
  split
  · split <;> split <;> simp [hsent]
  · split <;> simp [hsent]

@[simp] theorem State.answerDown_lnk (s : State) (tile lost cnt : Nat) (m : Msg) (code : Nat) (counted : Bool) (cls : Nat) :
    (s.answerDown tile lost cnt m code counted cls).lnk = s.lnk := by
  unfold State.answerDown
  dsimp only
  split <;> split <;> simp [State.modPort]

@[simp] theorem State.answerTracker_lnk (s : State) (t : Nat) (e : Tracker) : (s.answerTracker t e).lnk = s.lnk := by
  unfold State.answerTracker
  dsimp only
  split <;> simp [State.modTrackers]

@[simp] theorem State.slotsArrive_lnk (s : State) (p n : Nat) (poison : Bool) : (s.slotsArrive p n poison).lnk = s.lnk := by
  unfold State.slotsArrive
  split
  · rfl
  · exact State.foldl_keeps (·.lnk) (fun _ _ => State.queueCell_lnk ..) _ s

@[simp] theorem State.poisonOpen_lnk (s : State) (p cause : Nat) : (s.poisonOpen p cause).lnk = s.lnk := by
  unfold State.poisonOpen
  split
  · rfl
  · simp [State.modPort]

@[simp] theorem State.slotNote_lnk (s : State) (p : Nat) (link on : Bool) : (s.slotNote p link on).lnk = s.lnk := by
  unfold State.slotNote
  split
  · rfl
  · exact State.foldl_keeps (·.lnk) (fun _ _ => State.emit_lnk ..) _ s

@[simp] theorem State.restopPort_lnk (s : State) (t off : Nat) : (s.restopPort t off).lnk = s.lnk := by
  simp [State.restopPort]

@[simp] theorem State.restop_lnk (s : State) (t off : Nat) : (s.restop t off).lnk = s.lnk := by
  unfold State.restop
  dsimp only
  split
  · exact State.foldl_keeps (·.lnk) (fun _ _ => State.restopPort_lnk ..) _ s
  · exact State.restopPort_lnk ..

@[simp] theorem State.dropCell_lnk (s : State) (t : Nat) (c : Cell) : (s.dropCell t c).lnk = s.lnk := by
  simp [State.dropCell]

@[simp] theorem State.detachEgress_lnk (s : State) (p : Nat) : (s.detachEgress p).lnk = s.lnk := by
  simp only [State.detachEgress, State.restop_lnk]
  refine (State.foldl_keeps (·.lnk) (fun _ _ => State.answerDown_lnk ..) _ _).trans ?_
  exact State.foldl_keeps (·.lnk) (fun _ _ => State.dropCell_lnk ..) _ _

/-! ### Stations and engines -/

@[simp] theorem State.cntStn_lnk (s : State) (island code : Nat) (vfi : Option Nat) (n : Nat) :
    (s.cntStn island code vfi n).lnk = s.lnk := by
  unfold State.cntStn
  dsimp only
  split
  · rfl
  split <;> rfl

@[simp] theorem State.tagLookup_lnk (s : State) (island stamp tag : Nat) : (s.tagLookup island stamp tag).lnk = s.lnk := by
  unfold State.tagLookup
  dsimp only
  split <;> exact State.cntStn_lnk ..

@[simp] theorem State.tagLookups_lnk (s : State) (island stamp : Nat) (rid : Option Nat) (kind fma len : Nat) :
    (s.tagLookups island stamp rid kind fma len).lnk = s.lnk := by
  unfold State.tagLookups
  split
  · refine State.foldl_keeps (·.lnk) (fun t a => ?_) _ s
    split
    · split <;> simp
    · rfl
  · rfl

@[simp] theorem State.violation_lnk (s : State) (v : Violation) : (s.violation v).lnk = s.lnk := by
  unfold State.violation
  dsimp only
  split
  · split <;> simp
  · split <;> simp

@[simp] theorem State.modS_lnk (s : State) (h : Nat) (f : Stream → Stream) : (s.modS h f).lnk = s.lnk := rfl

@[simp] theorem State.streamRecord_lnk (s : State) (h cause t64 : Nat) (fields : List (Nat × Nat)) (flag : BitVec 5) :
    (s.streamRecord h cause t64 fields flag).lnk = s.lnk := by
  unfold State.streamRecord
  split
  · rfl
  · split <;> simp

@[simp] theorem State.writeControl_lnk (s : State) (h : Nat) : (s.writeControl h).lnk = s.lnk := by
  unfold State.writeControl
  split <;> rfl

@[simp] theorem State.setAdvice_lnk (s : State) (h a : Nat) : (s.setAdvice h a).lnk = s.lnk := by
  unfold State.setAdvice
  dsimp only
  split
  · rfl
  split
  · rfl
  split <;> simp

@[simp] theorem State.streamCheck_lnk (s : State) (h : Nat) (d : Stream) (direct : Bool) (kind addr len : Nat) :
    (s.streamCheck h d direct kind addr len).1.lnk = s.lnk := by
  by_cases hr : (s.check (some (engineRid d.engine)) kind (if direct then s.mse.localBase + addr else addr) len).1 = 0
  · simp [State.streamCheck, hr]
  · simp [State.streamCheck, hr]

@[simp] theorem State.ringCheck_lnk (s : State) (h : Nat) (d : Stream) (direct : Bool) (kind base k p n : Nat) :
    (s.ringCheck h d direct kind base k p n).1.lnk = s.lnk := by
  refine List.foldlRecOn (motive := fun x : State × Bool => x.1.lnk = s.lnk) _ _ rfl fun x hx y _ => ?_
  split <;> simp [hx]

@[simp] theorem State.ringLines_lnk (s : State) (e base log2 p n : Nat) (write poison : Bool) :
    (s.ringLines e base log2 p n write poison).lnk = s.lnk := by
  have hput (s : State) (r : ChReq) : (s.memSubmit r).lnk = s.lnk := by
    obtain ⟨m, p, h⟩ := State.memSubmit_writes s r; rw [h]
  refine State.foldl_keeps (·.lnk) (fun t x => ?_) _ s
  dsimp only
  split <;> simp [hput]

@[simp] theorem State.loseBytes_lnk (s : State) (h p n : Nat) : (s.loseBytes h p n).lnk = s.lnk := by
  unfold State.loseBytes
  dsimp only
  split
  · rfl
  split <;> simp

@[simp] theorem State.rewrite_lnk (s : State) (h : Nat) : (s.rewrite h).lnk = s.lnk := by
  unfold State.rewrite
  split
  · rfl
  split
  · rfl
  · dsimp only
    split <;> split <;> simp

@[simp] theorem State.streamsPort_lnk (s : State) (p : Nat) (up : Bool) : (s.streamsPort p up).lnk = s.lnk := by
  refine State.foldl_keeps (·.lnk) (fun t x => ?_) _ s
  dsimp only
  split
  · split <;> split <;> simp
  · split <;> simp

/-! ### Messages that wait, moves, and the whole -/

@[simp] theorem State.mailDrop_lnk (s : State) (p : Nat) : (s.mailDrop p).lnk = s.lnk := by
  refine State.foldl_keeps (·.lnk) (fun t x => ?_) _ s
  split
  · dsimp only
    split <;> simp
  · rfl

@[simp] theorem State.settleMove_lnk (s : State) (i : Nat) : (s.settleMove i).lnk = s.lnk := by
  unfold State.settleMove
  split
  · rfl
  next p _ =>
    dsimp only
    split
    · rfl
    split
    · cases p.ticket <;> simp
    split
    · cases p.ticket <;> simp
    · rfl

@[simp] theorem State.stopMoves_lnk (s : State) (port : Nat) : (s.stopMoves port).lnk = s.lnk := by
  refine State.foldl_keeps (·.lnk) (fun t x => ?_) _ s
  split
  · rfl
  · dsimp only
    split <;> simp

/-- What goes down with a link is outside the Lane Complex. -/
@[simp] theorem State.linkDown_lnk (s : State) (p : Nat) : (s.linkDown p).lnk = s.lnk := by
  simp only [State.linkDown, State.stopMoves_lnk, State.mailDrop_lnk, State.streamsPort_lnk]
  refine (State.foldl_keeps (·.lnk) (fun _ _ => State.answerTracker_lnk ..) _ _).trans ?_
  simp [State.quiet, State.modPort]

@[simp] theorem State.link_toDetect (s : State) (p c : Nat) : (s.toDetect p).link c = s.link c := by
  simp [State.toDetect, State.link, State.modPort]

/-- A port's link goes down without a change of any shelf link. -/
@[simp] theorem State.link_downToDetect (s : State) (p c : Nat) : (s.downToDetect p).link c = s.link c := by
  unfold State.downToDetect
  split
  · rw [State.link_toDetect]
    simp [State.link]
  split
  · simp [State.quiet]
  · rfl

end Sys2Proof.Machine
end

section
/-!
PROOFS. The states of a shelf link (Table 03-8): search, alignment, lock, loss and the far-end loop (R65, R70).
-/

namespace Sys2Proof.Machine

/-! ### The rings of events and records after a completion -/

@[simp] theorem State.devRing_modLink (s : State) (c : Nat) (f : ShelfLink → ShelfLink) (d : Nat) :
    (s.modLink c f).devRing d = s.devRing d := rfl

@[simp] theorem State.devRing_setPair (s : State) (p : Nat) (v : RingPair) (d : Nat) :
    (s.setPair p v).devRing d = s.devRing d := rfl

@[simp] theorem State.devRing_modPair (s : State) (p : Nat) (f : RingPair → RingPair) (d : Nat) :
    (s.modPair p f).devRing d = s.devRing d := rfl

@[simp] theorem State.devRing_mgrWrite (s : State) (a : Nat) (bs : List Byte) (d : Nat) :
    (s.mgrWrite a bs).devRing d = s.devRing d := rfl

@[simp] theorem State.devRing_sendVector (s : State) (v d : Nat) : (s.sendVector v).devRing d = s.devRing d := by
  simp [State.devRing]

@[simp] theorem State.devRing_cqInterrupt (s : State) (p : Nat) (quiet : Bool) (d : Nat) :
    (s.cqInterrupt p quiet).devRing d = s.devRing d := by
  unfold State.cqInterrupt
  dsimp only
  split
  · rfl
  · split <;> simp

@[simp] theorem State.devRing_cqWrite (s : State) (p : Nat) (x : Completion) (d : Nat) :
    (s.cqWrite p x).devRing d = s.devRing d := by
  simp [State.cqWrite]

@[simp] theorem State.devRing_noteClamp (s : State) (tk : Ticket) (off d : Nat) :
    (s.noteClamp tk off).devRing d = s.devRing d := by
  unfold State.noteClamp
  split <;> rfl

/-- A completion writes its pair's ring, and no device-written one. -/
@[simp] theorem State.devRing_complete (s : State) (tk : Ticket) (status result d : Nat) :
    (s.complete tk status result).devRing d = s.devRing d := by
  cases hc : tk.clamp <;> cases hs : tk.src <;> simp only [State.complete, hc, hs]
  · split <;> simp
  · split <;> simp
  · simp

/-! ### Search and OFF -/

theorem Cage.ofNat_val (c : Cage) : Fin.ofNat 64 c.val = c := Fin.ext (Nat.mod_eq_of_lt c.isLt)

@[simp] theorem State.link_slSearch (s : State) (c : Nat) : (s.slSearch c).link c =
    { s.link c with state := .search, score := 0, goodRun := 0, inverted := (s.link c).pol == 2 } := by
  simp [State.slSearch]

@[simp] theorem State.devRing_slSearch (s : State) (c d : Nat) : (s.slSearch c).devRing d = s.devRing d := rfl

/-- A command that waits for a delay is forgotten, and the link keeps the rest. -/
@[simp] theorem State.link_slDelayDone (s : State) (c status res : Nat) :
    (s.slDelayDone c status res).link c = { s.link c with delayCmd := none } := by
  unfold State.slDelayDone
  split
  next h => rw [← h]
  next => simp

@[simp] theorem State.devRing_slDelayDone (s : State) (c status res d : Nat) :
    (s.slDelayDone c status res).devRing d = s.devRing d := by
  unfold State.slDelayDone
  split <;> simp

theorem State.slDelayDone_of_none {s : State} {c : Nat} (status res : Nat) (h : (s.link c).delayCmd = none) :
    s.slDelayDone c status res = s := by
  simp [State.slDelayDone, h]

theorem State.slDelayDone_of_some {s : State} {c : Nat} {tk : Ticket} (status res : Nat)
    (h : (s.link c).delayCmd = some tk) :
    s.slDelayDone c status res = (s.modLink c fun l => { l with delayCmd := none }).complete tk status res := by
  simp [State.slDelayDone, h]

theorem State.slSetEn_on {s : State} {c : Nat} (hfeed : s.feedOn c = true) (hoff : (s.link c).state = .off) :
    s.slSetEn c true = (s.modLink c fun l => { l with en := true }).slSearch c := by
  have hfeed' : (s.modLink c fun l => { l with en := true }).feedOn c = true := hfeed
  simp [State.slSetEn, State.slStart, hfeed', hoff]

theorem exec_slEnable {c : Cage} {s : State} (h : s.Alive) (ht : s.tileExists c = true) (heq : s.glb.eqLoaded = true)
    (hfeed : s.feedOn c = true) (hoff : (s.link c).state = .off) :
    ∃ t, exec (.slEnable c) s = .next t ∧ (t.link c).en = true ∧ (t.link c).state = .search ∧ (t.link c).score = 0 ∧
      (t.link c).inverted = ((s.link c).pol == 2) ∧
      t.out.take (s.out.length + 1) = s.out ++ [.slIdle c (idlePair false)] := by
  have hacts : Acts (.slEnable c) s fun s => (s.modLink c fun l => { l with en := true }).slSearch c :=
    acts_of_lnkGate (f := (·.slSetEn c true)) rfl h ht heq (State.slSetEn_on hfeed hoff)
  have hout : ((s.modLink c fun l => { l with en := true }).slSearch c).out = s.out ++ [.slIdle c (idlePair false)] := by
    simp only [State.slSearch, Cage.ofNat_val]
    rfl
  refine ⟨_, hacts, by simp, by simp, by simp, by simp, ?_⟩
  obtain ⟨os, hframed⟩ := s.framed_out ((s.modLink c fun l => { l with en := true }).slSearch c)
  rw [hframed, hout]
  exact List.take_left' (by simp)

theorem State.slSetEn_off_of_off {s : State} {c : Nat} (hoff : (s.link c).state = .off) :
    s.slSetEn c false = s.modLink c fun l => { l with en := false } := by
  simp [State.slSetEn, State.slOff, hoff]

/-- A link with no message and no command that waits goes OFF at once. -/
theorem State.slSetEn_off_of_idle {s : State} {c : Nat} (hst : (s.link c).state = .locked) (hq : (s.link c).queue = [])
    (hloop : (s.link c).loopCmd = none) (hdelay : (s.link c).delayCmd = none) :
    s.slSetEn c false = s.modLink c fun l =>
      { l with en := false, state := .off, queue := [], lastRx := [], t1 := none, lastTime := 0, delays := [], score := 0 } := by
  simp [State.slSetEn, State.slOff, State.slLoopDone, State.slDelayDone, hst, hq, hloop, hdelay]

/-! ### Alignment and lock -/

theorem State.slLock_of_due {s : State} {c : Nat} (hst : (s.link c).state = .aligned) (hscore : (s.link c).score = 0)
    (hdue : (s.link c).alignedAt + us16 100 ≤ s.clock) (hwarn : (s.link c).warns = []) (hloop : (s.link c).loopEnd = 0) :
    s.slLock c = ((s.modLink c fun l =>
      { l with state := .locked, queue := l.queue.filter fun m => m.kind != 0x20 }).slFlush c).slQueue c 0x20 [] := by
  simp [State.slLock, hst, hscore, hdue, hwarn, hloop]

/-! ### Characters -/

theorem ShelfLink.state_of_up {l : ShelfLink} (h : l.up = true) : l.state = .locked ∨ l.state = .active := by
  simpa [ShelfLink.up] using h

section
variable {s : State} {c : Nat}

/-- A link that is aligned or up takes each good character alike. -/
theorem State.slChar_good (h : (s.link c).up = true ∨ (s.link c).state = .aligned) : s.slChar c true =
      if (s.link c).goodRun < 3 then s.modLink c fun l => { l with goodRun := l.goodRun + 1 }
      else s.modLink c fun l =>
        { l with goodRun := 0, score := l.score - 1, alignedAt := if l.score = 1 then s.clock else l.alignedAt } := by
  rcases h.imp_left ShelfLink.state_of_up with (h | h) | h <;> simp [State.slChar, h]

/-- The link with a code error counted and scored. -/
def ShelfLink.erred (l : ShelfLink) : ShelfLink :=
  { l with codeErr := satAdd 16 l.codeErr 1, goodRun := 0, score := l.score + 1 }

theorem State.slChar_bad_aligned (h : (s.link c).state = .aligned) : s.slChar c false =
    if 2 ≤ (s.link c).score + 1 then (s.modLink c ShelfLink.erred).slSearch c else s.modLink c ShelfLink.erred := by
  simp only [State.slChar, h]
  rfl

theorem State.slChar_bad_up (h : (s.link c).up = true) (hlow : (s.link c).score < 3) :
    s.slChar c false = s.modLink c ShelfLink.erred := by
  have hlow' : ¬ 4 ≤ (s.link c).score + 1 := by omega
  rcases ShelfLink.state_of_up h with h | h <;> simp [State.slChar, h, hlow'] <;> rfl

/-- A locked or active link that reaches score 4 loses its lock: it forgets its delay measurement, ends a delay command,
searches again and writes a record. -/
theorem State.slChar_bad_lost (h : (s.link c).up = true) (hhigh : 3 ≤ (s.link c).score) :
    ∃ t64 fields, s.slChar c false =
      (((s.modLink c fun l => { l.erred with lockLost := true, t1 := none, lastTime := 0 }).slDelayDone c stTimeout 0).slSearch
        c).record 0x48 c t64 fields := by
  rcases ShelfLink.state_of_up h with h | h
  · exact ⟨_, _, by simp [State.slChar, h, hhigh, ShelfLink.erred]; rfl⟩
  · exact ⟨_, _, by simp [State.slChar, h, hhigh, ShelfLink.erred]; rfl⟩

end

/-- A link whose score reaches its limit, 2 aligned and 4 up, searches again at score 0. -/
theorem State.slChar_bad_limit {s : State} {c : Nat} (h : (s.link c).up = true ∨ (s.link c).state = .aligned)
    (hlim : (if (s.link c).up then 4 else 2) ≤ (s.link c).score + 1) :
    ((s.slChar c false).link c).state = .search ∧ ((s.slChar c false).link c).score = 0 := by
  cases hup : (s.link c).up with
  | true =>
    rw [if_pos hup] at hlim
    obtain ⟨t64, fields, hlost⟩ := State.slChar_bad_lost hup (by omega)
    simp [hlost]
  | false =>
    rw [if_neg (by simp [hup])] at hlim
    rw [State.slChar_bad_aligned (h.resolve_left (by simp [hup])), if_pos hlim]
    simp

theorem State.slChar_bad_below {s : State} {c : Nat} (h : (s.link c).up = true ∨ (s.link c).state = .aligned)
    (hlim : (s.link c).score + 1 < if (s.link c).up then 4 else 2) : s.slChar c false = s.modLink c ShelfLink.erred := by
  cases hup : (s.link c).up with
  | true =>
    rw [if_pos hup] at hlim
    exact State.slChar_bad_up hup (by omega)
  | false =>
    rw [if_neg (by simp [hup])] at hlim
    rw [State.slChar_bad_aligned (h.resolve_left (by simp [hup])), if_neg (by omega)]

theorem State.slChar_lockLost {s : State} {c : Nat} (h : (s.link c).up = true) (hhigh : 3 ≤ (s.link c).score) :
    ((s.slChar c false).link c).lockLost = true ∧ ((s.slChar c false).link c).t1 = none ∧
      ((s.slChar c false).link c).delayCmd = none ∧
      ((s.slChar c false).devRing 1).seq = ((s.devRing 1).seq + 1) % 2 ^ 32 := by
  obtain ⟨t64, fields, hlost⟩ := State.slChar_bad_lost h hhigh
  rw [hlost]
  refine ⟨by simp, by simp, by simp, ?_⟩
  simp [State.record_seq]

/-! ### The far-end loop -/

theorem State.slLoopEnd_of_due {s : State} {c : Nat} (hst : (s.link c).state = .loop) (hdue : (s.link c).loopEnd ≤ s.clock) :
    s.slLoopEnd c = s.slSearch c := by
  simp [State.slLoopEnd, hst, hdue]

theorem State.slLoopEnd_of_early {s : State} {c : Nat} (h : s.clock < (s.link c).loopEnd) : s.slLoopEnd c = s := by
  simp [State.slLoopEnd, h.not_ge]

theorem State.slLoopTimeout_of_due {s : State} {c : Nat} {tk : Ticket} (hst : (s.link c).state = .search)
    (hend : (s.link c).loopEnd ≠ 0) (hdue : (s.link c).loopEnd + ms16 100 ≤ s.clock) (hcmd : (s.link c).loopCmd = some tk) :
    s.slLoopTimeout c = (s.modLink c fun l => { l with loopEnd := 0, loopCmd := none }).complete tk stTimeout 0 := by
  simp [State.slLoopTimeout, State.slLoopDone, hst, hend, hdue, hcmd]

theorem shelfLinkStates : Claims.ShelfLinkStates := by
  intro c chars s
  have hend : exec (.slLoopEnd c) s = act s (·.slLoopEnd c) := rfl
  refine ⟨exec_slEnable,
    fun h ht heq hoff => acts_of_lnkGate (f := (·.slSetEn c false)) rfl h ht heq (State.slSetEn_off_of_off hoff),
    fun h ht heq hst hq hloop hdelay =>
      acts_of_lnkGate (f := (·.slSetEn c false)) rfl h ht heq (State.slSetEn_off_of_idle hst hq hloop hdelay),
    fun h hst => acts_of_act (f := (·.slCommaAlign c)) rfl h (if_pos hst),
    fun h hst hpol => acts_of_act (f := (·.slPolarity c)) rfl h (if_pos ⟨hst, hpol⟩),
    fun h hst hscore hdue hwarn hloop =>
      acts_of_act (f := (·.slLock c)) rfl h (State.slLock_of_due hst hscore hdue hwarn hloop),
    fun h => acts_of_act (f := (·.slChars c chars)) rfl h rfl,
    fun hup => ⟨fun hrun => ?_, fun hrun => ?_, State.slChar_bad_below hup, State.slChar_bad_limit hup⟩,
    State.slChar_lockLost, fun h hst hdue => acts_of_act hend h (State.slLoopEnd_of_due hst hdue),
    fun h hearly => acts_of_act hend h (State.slLoopEnd_of_early hearly), fun tk h hst hloop hdue hcmd =>
      acts_of_act (f := (·.slLoopTimeout c)) rfl h (State.slLoopTimeout_of_due hst hloop hdue hcmd)⟩
  · rw [State.slChar_good hup, if_pos hrun]
  · rw [State.slChar_good hup, if_neg (by omega)]

end Sys2Proof.Machine
end

section
/-!
PROOFS. Frames of a shelf link: the receiver's checks (R66), and what each frame does on an active link (R67 to R69).
-/

namespace Sys2Proof.Machine

/-! ### The checks of a frame -/

theorem crc16Bits_lt (n : Nat) {c : Nat} (h : c < 2 ^ 16) : crc16Bits n c < 2 ^ 16 := by
  induction n generalizing c with
  | zero => exact h
  | succ n ih =>
    refine ih ?_
    split
    · exact Nat.xor_lt_two_pow (Nat.mod_lt _ (by decide)) (by decide)
    · omega

/-- The CRC of a frame is a number of 16 bits. -/
theorem crc16_lt (bs : List Byte) : crc16 bs < 2 ^ 16 := by
  refine List.foldlRecOn (motive := fun c => c < 2 ^ 16) _ _ (by decide) fun c hc b _ => crc16Bits_lt 8 ?_
  exact Nat.xor_lt_two_pow hc (by have := b.isLt; omega)

theorem frameGood_eq_true_iff {f : SlFrame} {kind : Nat} {payload : List Byte} : frameGood f kind payload = true ↔
    f.codeError = false ∧ f.length.toNat = payload.length ∧ f.length.toNat ≤ 32 ∧
      f.crc.toNat = crc16 (frameHead kind f.seq.toNat payload) := by
  simp [frameGood, and_assoc]

theorem frameGood_eq_false {f : SlFrame} {kind : Nat} {payload : List Byte} (h : ¬ (f.codeError = false ∧
    f.length.toNat = payload.length ∧ f.crc.toNat = crc16 (frameHead kind f.seq.toNat payload))) :
    frameGood f kind payload = false := by
  rw [Bool.eq_false_iff, ne_eq, frameGood_eq_true_iff]
  exact fun ⟨hcode, hlength, _, hcrc⟩ => h ⟨hcode, hlength, hcrc⟩

section
variable {kind seq : Nat} {payload : List Byte} (hseq : seq < 256) (hlen : payload.length ≤ 32)

include hlen in
theorem length_frameOf : (frameOf kind seq payload).length.toNat = payload.length := by
  simp only [frameOf, BitVec.toNat_ofNat]
  omega

include hseq in
theorem seq_frameOf : (frameOf kind seq payload).seq.toNat = seq := by
  simp only [frameOf, BitVec.toNat_ofNat]
  omega

theorem crc_frameOf : (frameOf kind seq payload).crc.toNat = crc16 (frameHead kind seq payload) := by
  simp only [frameOf, BitVec.toNat_ofNat]
  exact Nat.mod_eq_of_lt (crc16_lt _)

include hseq hlen in
theorem frameGood_frameOf : frameGood (frameOf kind seq payload) kind payload = true := by
  rw [frameGood_eq_true_iff, length_frameOf hlen, seq_frameOf hseq, crc_frameOf]
  exact ⟨rfl, rfl, hlen, rfl⟩

end

/-- A frame whose LENGTH or CRC differs from the sender's, or that has a code error, is not good (R66). -/
theorem frameGood_frameOf_changed {kind seq : Nat} {payload : List Byte} (hseq : seq < 256) (hlen : payload.length ≤ 32) :
    (∀ n, n ≠ (frameOf kind seq payload).length →
        frameGood { frameOf kind seq payload with length := n } kind payload = false) ∧
      (∀ r, r ≠ (frameOf kind seq payload).crc →
        frameGood { frameOf kind seq payload with crc := r } kind payload = false) ∧
      frameGood { frameOf kind seq payload with codeError := true } kind payload = false := by
  refine ⟨fun n hn => frameGood_eq_false fun ⟨_, hlength, _⟩ => hn ?_,
    fun r hr => frameGood_eq_false fun ⟨_, _, hcrc⟩ => hr ?_,
    frameGood_eq_false fun ⟨hcode, _⟩ => by simp at hcode⟩
  · exact BitVec.eq_of_toNat_eq (hlength.trans (length_frameOf hlen).symm)
  · refine BitVec.eq_of_toNat_eq (hcrc.trans ?_)
    rw [crc_frameOf, seq_frameOf hseq]

/-! ### The receiver -/

section
variable {s : State} {c kind : Nat} {f : SlFrame} {payload : List Byte} (hup : (s.link c).up = true)
include hup

theorem State.slReceive_bad (ack : Bool) (act : State → State) (hbad : frameGood f kind payload = false) :
    s.slReceive c kind f payload ack act =
      s.modLink c fun l => { l with crcErr := true, crcCount := satAdd 16 l.crcCount 1 } := by
  simp [State.slReceive, hup, hbad]

/-- A good frame of a type that is not acknowledged acts. -/
theorem State.slReceive_unacknowledged (act : State → State) (hgood : frameGood f kind payload = true) :
    s.slReceive c kind f payload false act =
      act (s.modLink c fun l => { l with lastRx := tset none l.lastRx kind (some f.seq.toNat) }) := by
  simp [State.slReceive, hup, hgood]

/-- A good frame of a type that is acknowledged, with another SEQ than the last of its type, is acknowledged and acts. -/
theorem State.slReceive_new (act : State → State) (hgood : frameGood f kind payload = true)
    (hnew : tget none (s.link c).lastRx kind ≠ some f.seq.toNat) : s.slReceive c kind f payload true act =
      act ((s.modLink c fun l => { l with lastRx := tset none l.lastRx kind (some f.seq.toNat) }).slAcknowledge c
        f.seq.toNat kind) := by
  simp [State.slReceive, hup, hgood, hnew]

/-- One that repeats the last SEQ of its type is acknowledged again and does not act (R67). -/
theorem State.slReceive_repeated (act : State → State) (hgood : frameGood f kind payload = true)
    (hold : tget none (s.link c).lastRx kind = some f.seq.toNat) :
    s.slReceive c kind f payload true act = s.slAcknowledge c f.seq.toNat kind := by
  simp [State.slReceive, hup, hgood, hold]

end

/-! ### What the frames do -/

@[simp] theorem State.link_slSend (s : State) (c kind : Nat) (payload : List Byte) :
    (s.slSend c kind payload).link c = { s.link c with txSeq := ((s.link c).txSeq + 1) % 256 } := by
  simp [State.slSend]

@[simp] theorem State.link_slAcknowledge (s : State) (c seq kind : Nat) :
    (s.slAcknowledge c seq kind).link c = { s.link c with txSeq := ((s.link c).txSeq + 1) % 256 } := by
  simp [State.slAcknowledge]

theorem State.slPresent_of_active {s : State} {c : Nat} (kind caps : Nat) (ident : BitVec 128)
    (h : (s.link c).state = .active) : s.slPresent c kind caps ident = s.modLink c fun l =>
      { l with kind := kind, caps := caps, ident := ident, queue := l.queue.filter fun m => m.kind != 0x20 } := by
  simp [State.slPresent, h]

theorem State.slPower_of_same {s : State} {c power : Nat} (current : Nat) (h : power = (s.link c).power) :
    s.slPower c power current = s.modLink c fun l => { l with power := power, current := current } := by
  simp [State.slPower, h]

/-- Power and current are recorded, whatever becomes of the tile's ports (R68). -/
theorem State.link_slPower (s : State) (c power current : Nat) :
    (s.slPower c power current).link c = { s.link c with power := power, current := current } := by
  have hevent : (if power = (s.link c).power then s.modLink c fun l => { l with power := power, current := current }
      else (s.modLink c fun l => { l with power := power, current := current }).event 0x12 c s.now64
        [(1, power), (2, current)]).link c = { s.link c with power := power, current := current } := by
    split <;> simp
  unfold State.slPower
  dsimp only
  split
  · refine (State.foldl_keeps (·.link c) (fun u i => ?_) _ _).trans hevent
    split <;> simp
  split
  · refine (State.foldl_keeps (·.link c) (fun u i => ?_) _ _).trans hevent
    split
    · split <;> simp
    · rfl
  · exact hevent

/-- The answer to the open DELAY_REQ gives a delay, where it fits the last ones (R69). -/
theorem State.slDelayResp_of_open {s : State} {c turnaround answers t1 : Nat} (h : (s.link c).t1 = some (answers, t1))
    (htime : t1 + turnaround ≤ s.clock) (hcmd : (s.link c).delayCmd = none)
    (hfits : delayFits (s.link c).delays ((s.clock - t1 - turnaround) / 2) = true) :
    s.slDelayResp c turnaround answers = s.modLink c fun l => { l with
      t1 := none, delay := (s.clock - t1 - turnaround) / 2 % 2 ^ 24
      delays := ((s.clock - t1 - turnaround) / 2 :: l.delays).take 4 } := by
  simp [State.slDelayResp, State.slDelayDone, h, htime.not_gt, hcmd, hfits]

theorem ShelfLink.up_of_active {l : ShelfLink} (h : l.state = .active) : l.up = true := by
  simp [ShelfLink.up, h]

theorem exec_shelfPowerState {c : Cage} {f : SlFrame} {power : Byte} {current : BitVec 16} {s : State} (h : s.held = none)
    (hst : (s.link c).state = .active) (hgood : frameGood f 0x21 (powerPay power current) = true)
    (hnew : tget none (s.link c).lastRx 0x21 ≠ some f.seq.toNat) :
    ∃ t, exec (.shelfPowerState c f power current) s = .next t ∧ (t.link c).power = power.toNat ∧
      (t.link c).current = current.toNat := by
  refine ⟨_, act_running h fun s => s.slReceive c 0x21 f (powerPay power current) true
    fun s => s.slPower c power.toNat current.toNat, ?_⟩
  rw [State.slReceive_new (ShelfLink.up_of_active hst) _ hgood hnew, State.link_framed, State.link_slPower]
  exact ⟨rfl, rfl⟩

theorem exec_delayResp {c : Cage} {f : SlFrame} {ta : Word} {ans : Byte} {s : State} {t1 : Nat} (h : s.held = none)
    (hst : (s.link c).state = .active) (hgood : frameGood f 0x12 (delayPay ta ans) = true)
    (hopen : (s.link c).t1 = some (ans.toNat, t1)) (htime : t1 + ta.toNat ≤ s.clock) (hcmd : (s.link c).delayCmd = none)
    (hfits : delayFits (s.link c).delays ((s.clock - t1 - ta.toNat) / 2) = true) :
    ∃ t, exec (.delayResp c f ta ans) s = .next t ∧ (t.link c).delay = (s.clock - t1 - ta.toNat) / 2 % 2 ^ 24 ∧
      (t.link c).delays = ((s.clock - t1 - ta.toNat) / 2 :: (s.link c).delays).take 4 ∧ (t.link c).t1 = none ∧
      t.mgr = s.mgr := by
  refine ⟨_, act_running h fun s => s.slReceive c 0x12 f (delayPay ta ans) false
    fun s => s.slDelayResp c ta.toNat ans.toNat, ?_⟩
  have hresp := State.slDelayResp_of_open
    (s := s.modLink c fun l => { l with lastRx := tset none l.lastRx 0x12 (some f.seq.toNat) }) (c := c)
    (answers := ans.toNat) (by simpa using hopen) htime (by simpa using hcmd) (by simpa using hfits)
  rw [State.slReceive_unacknowledged (ShelfLink.up_of_active hst) _ hgood, hresp]
  simp

theorem shelfFramesAct : Claims.ShelfFramesAct := by
  refine ⟨fun kind seq payload _ hseq hlen => ⟨frameGood_frameOf hseq hlen, frameGood_frameOf_changed hseq hlen⟩, ?_⟩
  intro c f a k caps lim power ans id' temp cur ta w s h hst q new took bad temperature present state resp warn
  have hup := ShelfLink.up_of_active hst
  have hack : exec (.slAck c f a) s = act s (·.slReceive c 0x01 f (ackPay a) false
    fun s => s.slAck c a.seq.toNat a.kind.toNat) := rfl
  have htemp : exec (.shelfTemperature c f temp lim) s = act s (·.slReceive c 0x22 f (tempPay temp lim) false
    fun s => s.slTemp c temp.toNat (lim.getLsbD 0)) := rfl
  have hpresent : exec (.shelfPresent c f k caps id') s = act s (·.slReceive c 0x20 f (presentPay k caps id') true
    fun s => s.slPresent c k.toNat caps.toNat id') := rfl
  have hpower : exec (.shelfPowerState c f power cur) s = act s (·.slReceive c 0x21 f (powerPay power cur) true
    fun s => s.slPower c power.toNat cur.toNat) := rfl
  have hresp : exec (.delayResp c f ta ans) s = act s (·.slReceive c 0x12 f (delayPay ta ans) false
    fun s => s.slDelayResp c ta.toNat ans.toNat) := rfl
  have hwarn : exec (.shelfWarn c f w) s = act s (·.slReceive c 0x40 f (warnPay w) false
    fun s => s.shelfWarn c w.toNat) := rfl
  refine ⟨fun hf => acts_of_act hack h (State.slReceive_bad hup _ _ hf),
    fun hf => acts_of_act htemp h (State.slReceive_bad hup _ _ hf),
    fun hf => acts_of_act hpresent h (State.slReceive_bad hup _ _ hf),
    fun hf => acts_of_act hpower h (State.slReceive_bad hup _ _ hf),
    fun hf => acts_of_act hresp h (State.slReceive_bad hup _ _ hf),
    fun hf => acts_of_act hwarn h (State.slReceive_bad hup _ _ hf),
    fun hf => acts_of_act htemp h (State.slReceive_unacknowledged hup _ hf),
    fun hf hnew => acts_of_act hpresent h ?_, fun hf hnew hsame => acts_of_act hpower h ?_,
    fun hf hnew => exec_shelfPowerState h hst hf hnew,
    fun hf hold => acts_of_act hpower h (State.slReceive_repeated hup _ hf hold),
    fun t1 hf hopen htime hcmd hfits => exec_delayResp h hst hf hopen htime hcmd hfits,
    fun hf => acts_of_act hwarn h (State.slReceive_unacknowledged hup _ hf)⟩
  · rw [State.slReceive_new hup _ hf hnew, State.slPresent_of_active _ _ _ (by simpa using hst)]
  · rw [State.slReceive_new hup _ hf hnew, State.slPower_of_same _ (by simpa using hsame)]

end Sys2Proof.Machine
end

section
/-!
PROOFS. Messages to a shelf: acknowledgement and retransmission (R67), time transfer (R69), the far-end loop (R70) and
repeated warnings (R395).
-/

namespace Sys2Proof.Machine

/-! ### Acknowledgement -/

/-- The ACK of a LOOP message that was sent starts the loop (R70). -/
theorem State.slAck_loop {s : State} {c seq : Nat} (hup : (s.link c).up = true)
    (hm : ∃ m ∈ (s.link c).queue, m.seq = seq ∧ m.kind = 0x50 ∧ 0 < m.sent) (hcmd : (s.link c).delayCmd = none) :
    s.slAck c seq 0x50 = (s.modLink c fun l => { l with
      queue := l.queue.filter fun m => m.seq != seq, state := .loop, loopEnd := s.clock + ms16 l.loopMs
      t1 := none }).emit (.slPrbs (Fin.ofNat 64 c)) := by
  have hany : ((s.link c).queue.any fun m => m.seq == seq && m.kind == 0x50 && decide (0 < m.sent)) = true := by
    simpa [and_assoc] using hm
  simp only [State.slAck, hup, hany, Bool.true_and, State.modLink_modLink]
  rw [if_pos (by decide), State.slDelayDone_of_none _ _ (by simpa using hcmd)]
  rfl

/-- An ACK that answers no message does nothing. -/
theorem State.slAck_of_unasked {s : State} {c seq : Nat} (kind : Nat) (h : ∀ m ∈ (s.link c).queue, m.seq ≠ seq) :
    s.slAck c seq kind = s := by
  have hany : ((s.link c).queue.any fun m => m.seq == seq && m.kind == kind && decide (0 < m.sent)) = false := by
    rw [List.any_eq_false]
    intro m hm
    simp [h m hm]
  simp [State.slAck, hany]

/-! ### Retransmission -/

section
variable {s : State} {c : Nat} {m : SlMsg} (hup : (s.link c).up = true) (hq : (s.link c).queue = [m]) (hsent : 0 < m.sent)
  (hdue : m.lastAt + us16 20 ≤ s.clock)
include hup hq hsent hdue

/-- The one queued message, due again, goes up to 16 times and then gives up (R67). -/
theorem State.slRetransmit_of_due :
    s.slRetransmit c = if m.sent < 16 then s.slSendMsg c m else s.slGiveUp c m := by
  simp [State.slRetransmit, hup, hq, hsent, hdue]

end

/-- A PRESENT request gives up with NO_RESPONSE and a record. -/
theorem State.slGiveUp_present {s : State} {c : Nat} {m : SlMsg} (h : m.kind = 0x20) : s.slGiveUp c m =
    (s.modLink c fun l => { l with noResponse := true, queue := l.queue.filter fun x => x.seq != m.seq }).record 0x49 c
      s.now64 [(1, m.kind), (1, m.seq)] := by
  simp only [State.slGiveUp, h]
  rfl

theorem exec_slRetransmit_giveUp {c : Cage} {m : SlMsg} {s : State} (h : s.held = none) (hst : (s.link c).state = .active)
    (hq : (s.link c).queue = [m]) (hsent : m.sent = 16) (hk : m.kind = 0x20) (hdue : m.lastAt + us16 20 ≤ s.clock) :
    ∃ t, exec (.slRetransmit c) s = .next t ∧ (t.link c).noResponse = true ∧ (t.link c).queue = [] ∧
      (t.devRing 1).seq = ((s.devRing 1).seq + 1) % 2 ^ 32 := by
  refine ⟨_, act_running h (·.slRetransmit c), ?_⟩
  rw [State.slRetransmit_of_due (ShelfLink.up_of_active hst) hq (by omega) hdue, if_neg (by omega),
    State.slGiveUp_present hk]
  simp [hq, State.record_seq]

/-! ### Time transfer -/

theorem State.slDelayTick_of_due {s : State} {c : Nat} (hst : (s.link c).state = .active)
    (hdue : (s.link c).lastReq + ms16 2 ≤ s.clock) : s.slDelayTick c = (s.slDelayDone c stTimeout 0).slDelayReq c := by
  simp [State.slDelayTick, hst, hdue]

theorem State.slDelayTick_of_early {s : State} {c : Nat} (h : s.clock < (s.link c).lastReq + ms16 2) :
    s.slDelayTick c = s := by
  simp [State.slDelayTick, h.not_ge]

theorem State.slTime_of_due {s : State} {c : Nat} (hst : (s.link c).state = .active)
    (hdue : (s.link c).lastTime = 0 ∨ (s.link c).lastTime + ns16 131072 ≤ s.clock) :
    s.slTime c = (s.modLink c fun l => { l with lastTime := s.clock }).slSend c 0x10
      (leBytes 8 s.now64 ++ leBytes 4 (s.link c).delay ++ leBytes 8 s.ftu.nextBoundary ++ leBytes 1 s.ftu.lenLog2) := by
  simp only [State.slTime, if_pos (And.intro hst hdue)]

theorem State.slWarnRepeat_of_due {s : State} {c : Nat} {w : Nat × Nat × Nat} (hw : (s.link c).warns = [w])
    (hdue : w.2.2 + us16 20 ≤ s.clock) : s.slWarnRepeat c = s.slWarn c w.1 w.2.1 := by
  simp [State.slWarnRepeat, hw, hdue]

theorem shelfMessagesGoOut : Claims.ShelfMessagesGoOut := by
  intro c f a s h hst seq took
  have hup := ShelfLink.up_of_active hst
  have hack : exec (.slAck c f a) s = act s (·.slReceive c 0x01 f (ackPay a) false
    fun s => s.slAck c a.seq.toNat a.kind.toNat) := rfl
  have hdelay : exec (.delayReq c) s = act s (·.slDelayTick c) := rfl
  refine ⟨fun hf hk hm hcmd => acts_of_act hack h ?_, fun hf hm => acts_of_act hack h ?_,
    fun m hq hsent hfew hdue => acts_of_act (f := (·.slRetransmit c)) rfl h ?_,
    fun m hq hsent hk hdue => exec_slRetransmit_giveUp h hst hq hsent hk hdue,
    fun hdue hcmd => acts_of_act hdelay h ?_, fun tk hdue hcmd => acts_of_act hdelay h ?_,
    fun hearly => acts_of_act hdelay h (State.slDelayTick_of_early hearly),
    fun hdue => acts_of_act (f := (·.slTime c)) rfl h (State.slTime_of_due hst hdue),
    fun w hw hdue => acts_of_act (f := (·.slWarnRepeat c)) rfl h (State.slWarnRepeat_of_due hw hdue)⟩
  · have hkind : a.kind.toNat = 0x50 := by rw [hk]; rfl
    rw [State.slReceive_unacknowledged hup _ hf, hkind,
      State.slAck_loop (ShelfLink.up_of_active (by simpa using hst)) (by simpa using hm) (by simpa using hcmd),
      Cage.ofNat_val]
    rfl
  · rw [State.slReceive_unacknowledged hup _ hf, State.slAck_of_unasked _ (by simpa using hm)]
  · rw [State.slRetransmit_of_due hup hq hsent hdue, if_pos hfew]
  · rw [State.slDelayTick_of_due hst hdue, State.slDelayDone_of_none _ _ hcmd]
  · rw [State.slDelayTick_of_due hst hdue, State.slDelayDone_of_some _ _ hcmd]

/-- Settles O21: each event is a branch of its operation on a link in its state; the CRC of a frame stays within 16 bits, and
no link-down of a port reaches a shelf link. -/
theorem laneAndShelfEvents : Obligations.LaneAndShelfEvents := by
  unfold Obligations.LaneAndShelfEvents
  exact ⟨shelfLinkStates, shelfFramesAct, shelfMessagesGoOut⟩

end Sys2Proof.Machine
end

section
/-!
PROOFS. The layout of a tile's blocks (R75, R76): each block is put on its widest legal width and enabled unless an earlier
enabled one reaches over it.
-/

namespace Sys2Proof.Machine

theorem widthAt_le (i w : Nat) : widthAt i w ≤ w := by
  induction w with
  | zero => exact le_rfl
  | succ w ih =>
    rw [widthAt]
    split
    · exact le_rfl
    · exact ih.trans w.le_succ

/-- The width that a block takes divides its lane offset (R75). -/
theorem mod_widthAt (i w : Nat) : i % 2 ^ widthAt i w = 0 := by
  induction w with
  | zero => exact Nat.mod_one i
  | succ w ih =>
    rw [widthAt]
    split
    next h => exact h
    · exact ih

/-- An enabled block among those resolved reaches over lane offset `i`. -/
def lapped (got : List (Nat × PortCfg)) (i : Nat) : Bool := got.any fun x => x.2.en && decide (i < x.1 + 2 ^ x.2.width)

theorem lapped_eq_false {got : List (Nat × PortCfg)} {i : Nat} :
    lapped got i = false ↔ ∀ x ∈ got, x.2.en = true → x.1 + 2 ^ x.2.width ≤ i := by
  simp [lapped]

/-- Block `b` as it is resolved behind the blocks `got` (R76). -/
def resolveBlock (got : List (Nat × PortCfg)) (b : Nat × PortCfg) : Nat × PortCfg :=
  (b.1, { b.2 with width := widthAt b.1 b.2.width, en := b.2.en && !lapped got b.1 })

theorem resolveLayout_cons (got bs : List (Nat × PortCfg)) (b : Nat × PortCfg) :
    resolveLayout got (b :: bs) = resolveLayout (got ++ [resolveBlock got b]) bs := rfl

theorem resolveLayout_map_fst (got bs : List (Nat × PortCfg)) :
    (resolveLayout got bs).map (·.1) = got.map (·.1) ++ bs.map (·.1) := by
  induction bs generalizing got with
  | nil => simp [resolveLayout]
  | cons b bs ih => simp [resolveLayout_cons, ih, resolveBlock]

/-- Each resolved block is one resolved before, or a block asked for behind some others. -/
theorem mem_resolveLayout {got bs : List (Nat × PortCfg)} {x : Nat × PortCfg} (h : x ∈ resolveLayout got bs) :
    x ∈ got ∨ ∃ before, ∃ b ∈ bs, x = resolveBlock before b := by
  induction bs generalizing got with
  | nil => exact .inl h
  | cons b bs ih =>
    rcases ih h with hgot | ⟨before, c, hc, hx⟩
    · rcases List.mem_append.1 hgot with hgot | hb
      · exact .inl hgot
      · exact .inr ⟨got, b, List.mem_cons_self, List.mem_singleton.1 hb⟩
    · exact .inr ⟨before, c, List.mem_cons_of_mem _ hc, hx⟩

/-- The enabled blocks stay apart as each next one is resolved. -/
theorem pairwise_resolveLayout {got bs : List (Nat × PortCfg)}
    (h : (got.filter (·.2.en)).Pairwise fun x y => x.1 + 2 ^ x.2.width ≤ y.1) :
    ((resolveLayout got bs).filter (·.2.en)).Pairwise fun x y => x.1 + 2 ^ x.2.width ≤ y.1 := by
  induction bs generalizing got with
  | nil => exact h
  | cons b bs ih =>
    rw [resolveLayout_cons]
    refine ih ?_
    rw [List.filter_append, List.pairwise_append]
    refine ⟨h, (List.pairwise_singleton ..).sublist List.filter_sublist, fun x hx y hy => ?_⟩
    obtain ⟨hx, hen⟩ := List.mem_filter.1 hx
    obtain ⟨hy, hyen⟩ := List.mem_filter.1 hy
    obtain rfl := List.mem_singleton.1 hy
    obtain ⟨-, hfree⟩ : b.2.en = true ∧ lapped got b.1 = false := by simpa [resolveBlock] using hyen
    exact lapped_eq_false.1 hfree x hx hen

/-- Settles O18: blocks are resolved one after another, each at its widest legal width and apart from the enabled ones
before it. -/
theorem resolvedLayoutIsLegal : Obligations.ResolvedLayoutIsLegal := by
  unfold Obligations.ResolvedLayoutIsLegal
  intro blocks _
  have hfrom {x : Nat × PortCfg} (hx : x ∈ resolveLayout [] blocks) : ∃ before, ∃ b ∈ blocks, x = resolveBlock before b :=
    (mem_resolveLayout hx).resolve_left List.not_mem_nil
  refine ⟨resolveLayout_map_fst [] blocks, pairwise_resolveLayout List.Pairwise.nil, fun x hx => ?_, fun x hx => ?_⟩
  · obtain ⟨before, b, -, rfl⟩ := hfrom hx
    exact mod_widthAt b.1 b.2.width
  · obtain ⟨before, b, hb, rfl⟩ := hfrom hx
    exact ⟨b, hb, rfl, widthAt_le .., fun hen => (Bool.and_eq_true_iff.1 hen).1, rfl⟩

end Sys2Proof.Machine
end

section
/-!
PROOFS. Module resets (R380, R404, R405): the reset puts every island at its reset value, and the gates that go off before it
change nothing but the outputs.
-/

namespace Sys2Proof.Machine

/-! ### What a module reset leaves -/

@[simp] theorem State.moduleReset_held (s : State) (cause : Nat) (h : Hold) : (s.moduleReset cause h).held = some h := rfl

@[simp] theorem State.moduleReset_causeModule (s : State) (cause : Nat) (h : Hold) :
    (s.moduleReset cause h).glb.causeModule = cause := rfl

@[simp] theorem State.moduleReset_mgr (s : State) (cause : Nat) (h : Hold) : (s.moduleReset cause h).mgr = s.mgr := rfl

@[simp] theorem State.moduleReset_eeprom (s : State) (cause : Nat) (h : Hold) : (s.moduleReset cause h).eeprom = s.eeprom := rfl

@[simp] theorem State.moduleReset_evr (s : State) (cause : Nat) (h : Hold) :
    (s.moduleReset cause h).evr = { log := s.evr.log, archive := s.evr.archive, times := s.evr.times } := rfl

@[simp] theorem State.moduleReset_rampDone (s : State) (cause : Nat) (h : Hold) :
    (s.moduleReset cause h).ppu.rampDone = decide (h ≠ .supply) := rfl

theorem State.moduleReset_prt_supply (s : State) (cause : Nat) : (s.moduleReset cause .supply).prt = {} := rfl

/-- While the Port Logic keeps its power, its link generations stay (R85, R404). -/
theorem State.moduleReset_prt_powered (s : State) (cause : Nat) {h : Hold} (hh : h ≠ .supply) :
    (s.moduleReset cause h).prt = { ports := keepGens s.prt.ports } := if_neg hh

/-- Outside a trial the NOR stays as it is. -/
theorem State.moduleReset_nor_confirmed {s : State} (cause : Nat) (h : Hold) (ht : s.msc.onTrial = false) :
    (s.moduleReset cause h).msc.nor = s.msc.nor := by
  simp [State.moduleReset, ht]

/-- A trial in progress has failed, which the NOR notes (R413). -/
theorem State.moduleReset_nor_trial {s : State} (cause : Nat) (h : Hold) (ht : s.msc.onTrial = true) :
    (s.moduleReset cause h).msc.nor = { s.msc.nor with trial := none } ∧
      (s.moduleReset cause h).msc.revert = some (s.msc.runB, 2) := by
  simp [State.moduleReset, ht]

theorem State.moduleReset_atRest (s : State) (cause : Nat) (h : Hold) : (s.moduleReset cause h).AtRest where
  clock := rfl
  glb := rfl
  fmp := rfl
  cmd := rfl
  ftu := rfl
  lnk := rfl
  swc := rfl
  acu := rfl
  home := rfl
  mem := rfl
  mse := rfl
  vfi := rfl
  pcn := rfl
  evr := rfl
  ppu := rfl
  msc := rfl

/-! ### The gates, and the time entry before a thermal hold -/

/-- The gates that go off are outputs. -/
theorem State.gatesOff_keeps {β : Type} (part : State → β) (hpart : ∀ (s : State) (o : Output), part (s.emit o) = part s)
    (s : State) : part s.gatesOff = part s := by
  refine State.foldl_keeps part (fun t x => ?_) _ s
  split
  · exact hpart ..
  · rfl

@[simp] theorem State.gatesOff_prt (s : State) : s.gatesOff.prt = s.prt := State.gatesOff_keeps _ State.emit_prt s
@[simp] theorem State.gatesOff_evr (s : State) : s.gatesOff.evr = s.evr := State.gatesOff_keeps _ State.emit_evr s
@[simp] theorem State.gatesOff_msc (s : State) : s.gatesOff.msc = s.msc := State.gatesOff_keeps _ State.emit_msc s
@[simp] theorem State.gatesOff_mgr (s : State) : s.gatesOff.mgr = s.mgr := State.gatesOff_keeps _ State.emit_mgr s
@[simp] theorem State.gatesOff_eeprom (s : State) : s.gatesOff.eeprom = s.eeprom := State.gatesOff_keeps _ State.emit_eeprom s

@[simp] theorem State.tally_times (s : State) (i n : Nat) : (s.tally i n).evr.times = s.evr.times := by
  cases h : s.evr.second <;> simp [State.tally, h]

@[simp] theorem State.tally_log (s : State) (i n : Nat) : (s.tally i n).evr.log = s.evr.log := by
  cases h : s.evr.second <;> simp [State.tally, h]

/-- A thermal shutdown's entry stands last, behind a log that it leaves alone (R370). -/
theorem State.timeEntry_thermal (s : State) :
    ((s.timeEntry .thermal).evr.times.getLast?).map (·.cause) = some 3 ∧ (s.timeEntry .thermal).evr.log = s.evr.log := by
  simp only [State.timeEntry, State.tally_times, State.tally_log, and_true]
  rw [List.getLast?_drop, if_neg (by simp only [List.length_append, List.length_singleton]; omega), List.getLast?_concat]
  rfl

/-! ### The resets of a running module -/

theorem State.resetPin_of_running {s : State} (h : s.held = none) : s.resetPin = s.gatesOff.moduleReset 2 .resetPin := by
  rw [State.resetPin, h]

theorem State.takeReset_resetCtrl_of_due {s : State} {d : Nat} (h : s.held = none) (hd : s.glb.resetDue = some (2, d))
    (hdue : d ≤ s.clock) : s.takeReset .resetCtrl = s.gatesOff.moduleReset 3 .resetCtrl := by
  simp [State.takeReset, State.kind2Due, h, hd, hdue]

theorem State.takeReset_resetCtrl_of_none {s : State} (hd : s.glb.resetDue = none) : s.takeReset .resetCtrl = s := by
  simp [State.takeReset, State.kind2Due, hd]

theorem State.takeReset_thermal_of_running {s : State} (h : s.held = none) :
    s.takeReset .thermal = s.gatesOff.moduleReset 4 .thermal := by
  simp [State.takeReset, h]

theorem State.thermalShutdown_of_running {s : State} (h : s.held = none) :
    s.thermalShutdown = (s.timeEntry .thermal).gatesOff.moduleReset 4 .thermal := by
  rw [State.thermalShutdown, h]

/-- Six commands are losses of the supply (Table 15-1). -/
theorem exec_supplyLoss {i : Instr} (s : State) (hi : i ∈ [.runningOvercurrent, .fastOvercurrent, .overvoltage, .brownOut,
    .moduleReset .inputPower, .moduleReset .inputFailure]) : exec i s = .next s.supplyLoss := by
  simp only [List.mem_cons, List.not_mem_nil, or_false] at hi
  rcases hi with rfl | rfl | rfl | rfl | rfl | rfl <;> rfl

theorem supplyLossHoldsTheModule : Claims.SupplyLossHoldsTheModule := by
  intro i s hi
  have hreset : s.supplyLoss = s.gatesOff.moduleReset s.supplyCause .supply := rfl
  refine ⟨_, exec_supplyLoss s hi, rfl, State.moduleReset_atRest .., rfl, rfl, rfl, ?_⟩
  simp only [hreset, State.moduleReset_evr, State.moduleReset_eeprom, State.moduleReset_mgr, State.gatesOff_evr,
    State.gatesOff_eeprom, State.gatesOff_mgr, true_and]
  refine ⟨fun ht => ?_, fun ht => ?_⟩
  · rw [State.moduleReset_nor_confirmed _ _ (by rwa [State.gatesOff_msc]), State.gatesOff_msc]
  · simpa only [State.gatesOff_msc] using
      State.moduleReset_nor_trial (s := s.gatesOff) s.supplyCause .supply (by rwa [State.gatesOff_msc])

theorem otherResetsKeepLinkGenerations : Claims.OtherResetsKeepLinkGenerations := by
  intro s h
  have hprt {cause : Nat} {k : Hold} (hk : k ≠ .supply) :
      (s.gatesOff.moduleReset cause k).prt = { ports := keepGens s.prt.ports } := by
    rw [State.moduleReset_prt_powered _ _ hk, State.gatesOff_prt]
  refine ⟨⟨_, congrArg Host.Outcome.next (State.resetPin_of_running h), ?_⟩, ⟨_, congrArg Host.Outcome.next (State.resetPin_of_running h), ?_⟩,
    fun d hd hdue => ⟨_, congrArg Host.Outcome.next (State.takeReset_resetCtrl_of_due h hd hdue), ?_⟩,
    fun hd => congrArg Host.Outcome.next (State.takeReset_resetCtrl_of_none hd), ⟨_, congrArg Host.Outcome.next (State.takeReset_thermal_of_running h), ?_⟩,
    ⟨_, congrArg Host.Outcome.next (State.thermalShutdown_of_running h), ?_⟩⟩
  · exact ⟨rfl, State.moduleReset_atRest .., rfl, hprt (by decide), rfl, by simp⟩
  · exact ⟨rfl, State.moduleReset_atRest .., rfl⟩
  · exact ⟨rfl, State.moduleReset_atRest .., rfl, hprt (by decide)⟩
  · exact ⟨rfl, State.moduleReset_atRest .., rfl⟩
  · obtain ⟨hlast, hlog⟩ := s.timeEntry_thermal
    exact ⟨rfl, State.moduleReset_atRest .., rfl, by simpa using hlast, by simpa using hlog⟩

/-- Settles O27: each reset is the module reset with its hold and its cause, on a state in which the gates are off. -/
theorem resetsClearAllButWhatStays : Obligations.ResetsClearAllButWhatStays := by
  unfold Obligations.ResetsClearAllButWhatStays
  exact ⟨supplyLossHoldsTheModule, otherResetsKeepLinkGenerations⟩

end Sys2Proof.Machine
end

section
/-!
PROOFS. The port opcodes (Table 04-7): those that change a port's state (R76, R90, R99).
-/

namespace Sys2Proof.Machine

@[simp] theorem State.port_emit (s : State) (o : Output) (p : Nat) : (s.emit o).port p = s.port p := rfl

/-! ### The bodies, for a port in range -/

section
variable {c : Cmd} {tk : Ticket} (ht : c.target ≤ 1023)
include ht

/-- The clamp of PORT_CONFIG's settings, where `image` are those that resulted. -/
theorem opPortConfig_body_of_some {s t : State} (h : s.configure c.target (PortCfg.of (c.le 16 4)) = some t) :
    opPortConfig.body tk c s = .ok t (t.port c.target).cfg.image
      (if (t.port c.target).cfg.image ≠ c.le 16 4 % 2 ^ 15 then some 16 else none) := by
  simp only [opPortConfig, targetPort_of_le ht, targetClamp_of_le ht, h, minClamp_none_left]

theorem opPortConfig_body_of_none {s : State} (h : s.configure c.target (PortCfg.of (c.le 16 4)) = none) :
    opPortConfig.body tk c s = .bad s stNoResource
      (if (PortCfg.of (c.le 16 4)).image ≠ c.le 16 4 % 2 ^ 15 then some 16 else none) := by
  simp only [opPortConfig, targetPort_of_le ht, targetClamp_of_le ht, h, minClamp_none_left]

theorem opPortDisable_body {s t : State}
    (h : s.configure c.target { (s.port c.target).cfg with en := false } = some t) :
    opPortDisable.body tk c s = .ok t (t.port c.target).gen := by
  simp only [opPortDisable, targetPort_of_le ht, targetClamp_of_le ht, h, Option.getD_some]

theorem opPortRetrain_body (s : State) (hm : c.byte 16 ≤ 1) : opPortRetrain.body tk c s =
    if (s.port c.target).cfg.en = false then .ok s noPort
    else if c.byte 16 = 0 then .ok (if (s.port c.target).state = .up then s.emit (.retrain (Fin.ofNat 1024 c.target)) else s) 0
    else .ok (s.downToDetect c.target) 0 := by
  simp only [opPortRetrain, targetPort_of_le ht, targetClamp_of_le ht, Cmd.ranged_byte_upTo, if_pos hm, min_eq_right hm,
    minClamp_none_left, Bool.not_eq_true']

theorem opPortDpcRelease_body (s : State) : opPortDpcRelease.body tk c s =
    .ok (s.dpcRelease c.target) (bit ((s.port c.target).state != .contained)) := by
  simp only [opPortDpcRelease, targetPort_of_le ht, targetClamp_of_le ht]

theorem opPortHotReset_body (s : State) : opPortHotReset.body tk c s =
    if (s.port c.target).cfg.en = false then .ok s noPort
    else if (s.port c.target).cfg.role ≠ 0 then .bad s stDenied
    else .ok ((s.emit (.hotReset (Fin.ofNat 1024 c.target))).downToDetect c.target) 0 := by
  simp only [opPortHotReset, targetPort_of_le ht, targetClamp_of_le ht, Bool.not_eq_true']

/-- PORT_RETRAIN on a port that is not enabled, or for Recovery, or to take the link down. -/
theorem opPortRetrain_body_disabled {s : State} (hm : c.byte 16 ≤ 1) (hen : (s.port c.target).cfg.en = false) :
    opPortRetrain.body tk c s = .ok s noPort := by
  rw [opPortRetrain_body ht s hm, if_pos hen]

theorem opPortRetrain_body_recovery {s : State} (hm : c.byte 16 = 0) (hen : (s.port c.target).cfg.en = true) :
    opPortRetrain.body tk c s =
      .ok (if (s.port c.target).state = .up then s.emit (.retrain (Fin.ofNat 1024 c.target)) else s) 0 := by
  rw [opPortRetrain_body ht s (by omega), if_neg (by simp [hen]), if_pos hm]

theorem opPortRetrain_body_detect {s : State} (hm : c.byte 16 = 1) (hen : (s.port c.target).cfg.en = true) :
    opPortRetrain.body tk c s = .ok (s.downToDetect c.target) 0 := by
  rw [opPortRetrain_body ht s (by omega), if_neg (by simp [hen]), if_neg (by omega)]

theorem opPortHotReset_body_downstream {s : State} (hen : (s.port c.target).cfg.en = true)
    (hrole : (s.port c.target).cfg.role = 0) : opPortHotReset.body tk c s =
      .ok ((s.emit (.hotReset (Fin.ofNat 1024 c.target))).downToDetect c.target) 0 := by
  rw [opPortHotReset_body ht, if_neg (by simp [hen]), if_neg (by simp [hrole])]

end

theorem State.dpcRelease_of_contained {s : State} {p : Nat} (h : (s.port p).state = .contained) :
    s.dpcRelease p = s.toDetect p := if_pos h

theorem State.dpcRelease_of_other {s : State} {p : Nat} (h : (s.port p).state ≠ .contained) : s.dpcRelease p = s := if_neg h

theorem portStateOpcodes : Claims.PortStateOpcodes := by
  intro c s ht p
  have hretrain {f : State → State} {res : Nat} (h : Instant opPortRetrain c s)
      (hb : opPortRetrain.body (c.ticket 0x12 s.ft) c (s.accept c) = .ok (f (s.accept c)) res) :
      Completes (.portRetrain c) 0x12 c s f res := OpSpec.completes (o := opPortRetrain) rfl h rfl rfl hb
  have hhot {f : State → State} {res : Nat} (h : Instant opPortHotReset c s)
      (hb : opPortHotReset.body (c.ticket 0x19 s.ft) c (s.accept c) = .ok (f (s.accept c)) res) :
      Completes (.portHotReset c) 0x19 c s f res := OpSpec.completes (o := opPortHotReset) rfl h rfl rfl hb
  have hen {b : Bool} (h : (s.port p).cfg.en = b) : ((s.accept c).port p).cfg.en = b := by rwa [State.accept_port]
  have hst {x : PortState} (h : (s.port p).state = x) : ((s.accept c).port p).state = x := by rwa [State.accept_port]
  have hne {x : PortState} (h : (s.port p).state ≠ x) : ((s.accept c).port p).state ≠ x := by rwa [State.accept_port]
  have hrole {n : Nat} (h : (s.port p).cfg.role = n) : ((s.accept c).port p).cfg.role = n := by rwa [State.accept_port]
  refine ⟨fun t h hc => ?_, fun h hc => ?_, fun t h hc => ?_, fun h hm he => ?_, fun h hm he hu => ?_, fun h hm he hu => ?_,
    fun h hm he hu => ?_, fun h hm he hu => ?_, fun h hm he hu hn => ?_, fun h hc => ?_, fun h hc => ?_, fun h he => ?_,
    fun h he hr => ?_, fun h he hr hu => ?_, fun h he hr hu hn => ?_⟩
  · exact OpSpec.completes (o := opPortConfig) rfl h rfl rfl (opPortConfig_body_of_some ht hc)
  · exact OpSpec.endsWith (o := opPortConfig) rfl h rfl rfl (opPortConfig_body_of_none ht hc)
  · exact OpSpec.completes (o := opPortDisable) rfl h rfl rfl (opPortDisable_body ht (by rwa [State.accept_port]))
  · exact hretrain h (opPortRetrain_body_disabled ht hm (hen he))
  · exact hretrain h (by rw [opPortRetrain_body_recovery ht hm (hen he), if_pos (hst hu)])
  · exact hretrain h (by rw [opPortRetrain_body_recovery ht hm (hen he), if_neg (hne hu), id])
  · exact hretrain h (by rw [opPortRetrain_body_detect ht hm (hen he), State.downToDetect_of_up (hst hu)])
  · exact hretrain h (by rw [opPortRetrain_body_detect ht hm (hen he), State.downToDetect_of_training (hst hu)])
  · exact hretrain h (by rw [opPortRetrain_body_detect ht hm (hen he), State.downToDetect_of_neither (hne hu) (hne hn), id])
  · refine OpSpec.completes (o := opPortDpcRelease) rfl h rfl rfl ?_
    rw [opPortDpcRelease_body ht, State.dpcRelease_of_contained (hst hc), hst hc]
    rfl
  · refine OpSpec.completes (o := opPortDpcRelease) rfl h rfl rfl ?_
    rw [opPortDpcRelease_body ht, State.dpcRelease_of_other (hne hc), bne_iff_ne.2 (hne hc)]
    rfl
  · exact hhot h (by rw [opPortHotReset_body ht, if_pos (hen he), id])
  · refine OpSpec.endsWith (o := opPortHotReset) rfl h rfl rfl ?_
    rw [opPortHotReset_body ht, if_neg (by simpa using he), if_pos (by rwa [State.accept_port])]
  · exact hhot h (by
      rw [opPortHotReset_body_downstream ht (hen he) (hrole hr),
        State.downToDetect_of_up (s := (s.accept c).emit _) (hst hu)])
  · exact hhot h (by
      rw [opPortHotReset_body_downstream ht (hen he) (hrole hr),
        State.downToDetect_of_neither (s := (s.accept c).emit _) (hne hu) (hne hn)])

end Sys2Proof.Machine
end


section
/-!
PROOFS. The port opcodes (Table 04-7): those that read or set a port's registers (R91, R93, R94, R96, R99).
-/

namespace Sys2Proof.Machine

/-- This device's number, which no port has a part in (R94). -/
theorem opPortPbrSet_body_device {c : Cmd} {tk : Ticket} (s : State) (hf : c.byte 16 = 0) (hdev : c.byte 17 ≤ 7) : opPortPbrSet.body tk c s =
    .ok (State.markDirty { s with prt := { s.prt with pbrDev := some (c.byte 17) } } 2) 0 := by
  simp [opPortPbrSet, Cmd.ranged_byte_upTo, hf, hdev]

section
variable {c : Cmd} {tk : Ticket} (ht : c.target ≤ 1023)
include ht

theorem opPortStatus_body (s : State) : opPortStatus.body tk c s = .ok s (s.port c.target).status := by
  simp only [opPortStatus, targetPort_of_le ht, targetClamp_of_le ht]

theorem opPortLdQuery_body (s : State) : opPortLdQuery.body tk c s =
    .ok s ((s.port c.target).ldMap + 2 ^ 16 * popCount16 (s.port c.target).ldMap) := by
  simp only [opPortLdQuery, targetPort_of_le ht, targetClamp_of_le ht]

theorem opPortErrClear_body (s : State) : opPortErrClear.body tk c s = .ok (s.modPort c.target fun x =>
    { x with err := 0, replay := 0, fec := 0, poisonOut := 0, npSynth := 0, ideFail := 0 }) 0 := by
  simp only [opPortErrClear, targetPort_of_le ht, targetClamp_of_le ht]

/-! ### A tunnelled request -/

/-- A request of 4 to 4,096 bytes, for an LD or for the whole device (R93). -/
theorem opPortCciTunnel_body (s : State) (hn : 4 ≤ c.le 24 4) (hn' : c.le 24 4 ≤ 4096)
    (hld : c.le 40 2 ≤ 15 ∨ c.le 40 2 = 0xFFFF) : opPortCciTunnel.body tk c s =
      if (s.port c.target).cfg.en = false then .ok s noPort
      else if (s.port c.target).tunnel.isSome then .bad s stBusy
      else .later (s.openTunnel c.target tk false (c.le 40 2) (c.le 28 8) (c.le 36 4) (s.mgrRead (c.le 16 8) (c.le 24 4))) := by
  have hraw : (if c.le 40 2 = 0xFFFF then c.le 40 2 else min 15 (c.le 40 2)) = c.le 40 2 := by
    split <;> omega
  simp only [opPortCciTunnel, targetPort_of_le ht, targetClamp_of_le ht, Cmd.ranged_inside hn hn', hraw, ne_eq,
    not_true_eq_false, if_false, minClamp_none_right, Bool.not_eq_true']

/-! ### PORT_PBR_SET: each field that it sets (R94) -/

theorem opPortPbrSet_body_index (s : State) (hf : c.byte 16 = 1) (hi : c.le 18 2 ≤ 511) : opPortPbrSet.body tk c s =
    .ok ((s.dropEdge (c.le 18 2)).modPort c.target fun x => { x with edge := some (c.le 18 2) }) 0 := by
  have hone : c.le 18 2 ≠ 0xFFFF := by omega
  simp [opPortPbrSet, targetPort_of_le ht, targetClamp_of_le ht, Cmd.ranged_byte_upTo, hf, hi, hi.not_gt, hone]

theorem opPortPbrSet_body_noIndex (s : State) (hf : c.byte 16 = 1) (hi : c.le 18 2 = 0xFFFF) :
    opPortPbrSet.body tk c s = .ok (s.modPort c.target fun x => { x with edge := none }) 0 := by
  simp [opPortPbrSet, targetPort_of_le ht, targetClamp_of_le ht, Cmd.ranged_byte_upTo, hf, hi]

theorem opPortPbrSet_body_route (s : State) (hf : c.byte 16 = 2) (hdev : c.byte 17 ≤ 7) (hg : c.byte 18 ≤ 7) :
    opPortPbrSet.body tk c s =
      .ok { s with prt := { s.prt with routes := tset none s.prt.routes (c.byte 17) (some (c.byte 18)) } } 0 := by
  simp [opPortPbrSet, targetClamp_of_le ht, Cmd.ranged_byte_upTo, hf, hdev, hg]

/-- A port that is no member of the group yet finds a place in it, or does not. -/
theorem opPortPbrSet_body_group {s : State} (hf : c.byte 16 = 3) (hg : c.byte 18 ≤ 7)
    (hnew : (s.port c.target).group ≠ some (c.byte 18)) : opPortPbrSet.body tk c s =
      if 8 ≤ (s.prt.ports.filter fun x => x.2.group == some (c.byte 18)).length then .bad s stNoResource
      else .ok (s.modPort c.target fun x => { x with group := some (c.byte 18) }) 0 := by
  simp [opPortPbrSet, targetPort_of_le ht, targetClamp_of_le ht, Cmd.ranged_byte_upTo, hf, hg, hnew]

theorem opPortPbrSet_body_noGroup (s : State) (hf : c.byte 16 = 4) :
    opPortPbrSet.body tk c s = .ok (s.modPort c.target fun x => { x with group := none }) 0 := by
  simp [opPortPbrSet, targetPort_of_le ht, targetClamp_of_le ht, Cmd.ranged_byte_upTo, hf]

/-! ### PORT_IDE_CTRL: the session ends, starts or refreshes (R96) -/

theorem opPortIdeCtrl_body_end (s : State) (hf : c.byte 16 = 0) (hr : c.byte 17 ≤ 1) : opPortIdeCtrl.body tk c s =
    .ok ((s.modPort c.target fun x => { x with ideRequired := c.byte 17 == 1, ideState := 0 }).emit
      (.ideKm (Fin.ofNat 1024 c.target) false)) (2 ^ 8 * (s.port c.target).keySet) := by
  simp [opPortIdeCtrl, targetPort_of_le ht, targetClamp_of_le ht, Cmd.ranged_byte_upTo, hf, hr, PortSt.ideStatus]

theorem opPortIdeCtrl_body_start (s : State) (hf : c.byte 16 = 1) (hr : c.byte 17 ≤ 1) : opPortIdeCtrl.body tk c s =
    .ok ((s.modPort c.target fun x => { x with ideRequired := c.byte 17 == 1, ideState := 1 }).emit
      (.ideKm (Fin.ofNat 1024 c.target) true)) (1 + 2 ^ 8 * (s.port c.target).keySet) := by
  simp [opPortIdeCtrl, targetPort_of_le ht, targetClamp_of_le ht, Cmd.ranged_byte_upTo, hf, hr, PortSt.ideStatus]

theorem opPortIdeCtrl_body_refresh (s : State) (hf : c.byte 16 = 2) (hr : c.byte 17 ≤ 1) : opPortIdeCtrl.body tk c s =
    .ok ((s.modPort c.target fun x => { x with ideRequired := c.byte 17 == 1 }).emit
      (.ideKm (Fin.ofNat 1024 c.target) true)) (s.port c.target).ideStatus := by
  simp [opPortIdeCtrl, targetPort_of_le ht, targetClamp_of_le ht, Cmd.ranged_byte_upTo, hf, hr, PortSt.ideStatus]

end

theorem portSettingOpcodes : Claims.PortSettingOpcodes := by
  intro c s ht p
  have hpbr {f : State → State} (h : Instant opPortPbrSet c s)
      (hb : opPortPbrSet.body (c.ticket 0x17 s.ft) c (s.accept c) = .ok (f (s.accept c)) 0) :
      Completes (.portPbrSet c) 0x17 c s f 0 := OpSpec.completes (o := opPortPbrSet) rfl h rfl rfl hb
  have hide {f : State → State} {res : Nat} (h : Instant opPortIdeCtrl c s)
      (hb : opPortIdeCtrl.body (c.ticket 0x18 s.ft) c (s.accept c) = .ok (f (s.accept c)) res) :
      Completes (.portIdeCtrl c) 0x18 c s f res := OpSpec.completes (o := opPortIdeCtrl) rfl h rfl rfl hb
  refine ⟨fun h => ?_, fun h => ?_, fun h => ?_, fun h hen hfree hn hn' hld => ?_, fun h hen hbusy hn hn' hld => ?_,
    fun h hen hn hn' hld => ?_, fun h hf hdev => hpbr h (opPortPbrSet_body_device _ hf hdev),
    fun h hf hi => hpbr h (opPortPbrSet_body_index ht _ hf hi),
    fun h hf hi => hpbr h (opPortPbrSet_body_noIndex ht _ hf hi),
    fun h hf hdev hg => hpbr h (opPortPbrSet_body_route ht _ hf hdev hg), fun h hf hg hnew hroom => hpbr h ?_,
    fun h hf hg hnew hfull => ?_, fun h hf => hpbr h (opPortPbrSet_body_noGroup ht _ hf), fun h hf hr => hide h ?_,
    fun h hf hr => hide h ?_, fun h hf hr => hide h ?_⟩
  · exact OpSpec.completes (o := opPortStatus) rfl h rfl rfl (by rw [opPortStatus_body ht, State.accept_port, id])
  · exact OpSpec.completes (o := opPortLdQuery) rfl h rfl rfl (by rw [opPortLdQuery_body ht, State.accept_port, id])
  · exact OpSpec.completes (o := opPortErrClear) rfl h rfl rfl (opPortErrClear_body ht _)
  · refine OpSpec.holds (o := opPortCciTunnel) rfl h rfl rfl ?_
    rw [opPortCciTunnel_body ht _ hn hn' hld, State.accept_port, if_neg (by simp [p, hen]), if_neg (by simp [p, hfree]),
      State.accept_mgrRead]
  · refine OpSpec.endsWith (o := opPortCciTunnel) rfl h rfl rfl ?_
    rw [opPortCciTunnel_body ht _ hn hn' hld, State.accept_port, if_neg (by simp [p, hen]), if_pos hbusy]
  · refine OpSpec.completes (o := opPortCciTunnel) rfl h rfl rfl ?_
    rw [opPortCciTunnel_body ht _ hn hn' hld, State.accept_port, if_pos hen, id]
  · rw [opPortPbrSet_body_group ht hf hg (by rwa [State.accept_port]), State.accept_prt, if_neg (Nat.not_le.2 hroom)]
  · refine OpSpec.endsWith (o := opPortPbrSet) rfl h rfl rfl ?_
    rw [opPortPbrSet_body_group ht hf hg (by rwa [State.accept_port]), State.accept_prt, if_pos hfull]
  · rw [opPortIdeCtrl_body_end ht _ hf hr, State.accept_port]
  · rw [opPortIdeCtrl_body_start ht _ hf hr, State.accept_port]
  · rw [opPortIdeCtrl_body_refresh ht _ hf hr, State.accept_port]

/-- Settles O17: each opcode's body, for a port and fields in range, answers by the port's state. -/
theorem portOpcodes : Obligations.PortOpcodes := by
  unfold Obligations.PortOpcodes
  exact ⟨portStateOpcodes, portSettingOpcodes⟩

end Sys2Proof.Machine
end

section
/-!
PROOFS. A message becomes cells (R101 to R106): each cell that is formed takes the lowest free place of its tile, which no
other cell holds, and enters the ingress queues last.
-/

namespace Sys2Proof.Machine

/-! ### The place that a cell takes (R105) -/

theorem le_firstFree {α : Type} (i : Nat) (t : Tbl α) : i ≤ firstFree i t := by
  induction t generalizing i with
  | nil => exact le_rfl
  | cons x t ih =>
    rw [firstFree]
    split
    · exact i.le_succ.trans (ih (i + 1))
    · exact le_rfl

/-- A table in canonical form whose keys do not lie below `i` does not list the first free index from `i` on. -/
theorem firstFree_not_listed {α : Type} [DecidableEq α] {d : α} {t : Tbl α} (h : twf d t = true) {i : Nat}
    (hi : ∀ x ∈ t, i ≤ x.1) : ∀ x ∈ t, x.1 ≠ firstFree i t := by
  induction t generalizing i with
  | nil => simp
  | cons y t ih =>
    obtain ⟨j, a⟩ := y
    obtain ⟨-, habove, ht⟩ := twf_cons.1 h
    have hij : i ≤ j := hi (j, a) List.mem_cons_self
    rw [firstFree]
    split
    next hj =>
      have hfirst := le_firstFree (i + 1) t
      refine List.forall_mem_cons.2 ⟨by dsimp only; omega, ih ht fun x hx => ?_⟩
      have := habove x hx
      omega
    next hj =>
      refine List.forall_mem_cons.2 ⟨hj, fun x hx => ?_⟩
      have := habove x hx
      omega

/-- The place that the next cell of a tile takes. -/
def State.nextPlace (s : State) (t : Nat) : Nat := firstFree 0 (s.swcTile t).places

theorem State.nextPlace_free {s : State} {t : Nat} (h : twf none (s.swcTile t).places = true) :
    tget none (s.swcTile t).places (s.nextPlace t) = none :=
  tget_of_not_mem (firstFree_not_listed h fun _ _ => Nat.zero_le _)

theorem State.swcTile_queueCell (s : State) (src : Nat) (c : Cell) :
    (s.queueCell src c).swcTile src = { s.swcTile src with
      places := tset none (s.swcTile src).places (s.nextPlace src) (some { held := true, takenAt := s.ft })
      freeCount := (s.swcTile src).freeCount - 1, heldCount := (s.swcTile src).heldCount + 1
      voq := (s.swcTile src).voq ++ [{ c with place := s.nextPlace src, lgen := s.heldGen src c.dstTile c.dstOff }] } :=
  State.swcTile_setSwcTile_self ..

@[simp] theorem State.port_queueCell (s : State) (src : Nat) (c : Cell) (p : Nat) : (s.queueCell src c).port p = s.port p := rfl

@[simp] theorem State.heldGen_queueCell (s : State) (src : Nat) (c : Cell) (t off : Nat) :
    (s.queueCell src c).heldGen src t off = s.heldGen src t off := by
  simp only [State.heldGen, State.swcTile_queueCell, State.port_queueCell]

/-! ### Cells formed one after another -/

/-- The state after the first `k` of the cells that `cell` numbers have been formed at tile `src`. -/
def State.queueCells (s : State) (src : Nat) (cell : Nat → Cell) : Nat → State
  | 0 => s
  | k + 1 => (s.queueCells src cell k).queueCell src (cell k)

theorem State.foldl_queueCell (s : State) (src : Nat) (cell : Nat → Cell) (k : Nat) :
    (List.range k).foldl (fun s i => s.queueCell src (cell i)) s = s.queueCells src cell k := by
  induction k with
  | zero => rfl
  | succ k ih => rw [List.range_succ, List.foldl_concat, ih]; rfl

/-- Cell `i` of them as it is queued. -/
def State.queuedCell (s : State) (src : Nat) (cell : Nat → Cell) (i : Nat) : Cell :=
  { cell i with
    place := (s.queueCells src cell i).nextPlace src, lgen := s.heldGen src (cell i).dstTile (cell i).dstOff }

section
variable (s : State) (src : Nat) (cell : Nat → Cell)

@[simp] theorem State.port_queueCells (k p : Nat) : (s.queueCells src cell k).port p = s.port p := by
  induction k with
  | zero => rfl
  | succ k ih => exact ih

@[simp] theorem State.heldGen_queueCells (k t off : Nat) :
    (s.queueCells src cell k).heldGen src t off = s.heldGen src t off := by
  induction k with
  | zero => rfl
  | succ k ih => rw [State.queueCells, State.heldGen_queueCell, ih]

theorem State.voq_queueCells (k : Nat) : ((s.queueCells src cell k).swcTile src).voq =
    (s.swcTile src).voq ++ (List.range k).map (s.queuedCell src cell) := by
  induction k with
  | zero => simp [State.queueCells]
  | succ k ih =>
    rw [State.queueCells, State.swcTile_queueCell, List.range_succ, List.map_append, ← List.append_assoc, ← ih]
    simp [State.queuedCell]

/-- Each cell moves one place from the free ones to those held. -/
theorem State.placeCounts_queueCells {k : Nat} (h : k ≤ (s.swcTile src).freeCount) :
    ((s.queueCells src cell k).swcTile src).freeCount + k = (s.swcTile src).freeCount ∧
      ((s.queueCells src cell k).swcTile src).heldCount = (s.swcTile src).heldCount + k := by
  induction k with
  | zero => exact ⟨rfl, rfl⟩
  | succ k ih =>
    obtain ⟨hfree, hheld⟩ := ih (by omega)
    rw [State.queueCells, State.swcTile_queueCell]
    dsimp only
    omega

/-- A cell keeps its place while later ones are formed. -/
theorem State.place_queuedCell_held {i k : Nat} (hik : i < k) :
    (tget none ((s.queueCells src cell k).swcTile src).places (s.queuedCell src cell i).place).isSome = true := by
  induction k with
  | zero => omega
  | succ k ih =>
    rw [State.queueCells, State.swcTile_queueCell]
    dsimp only
    by_cases heq : (s.queuedCell src cell i).place = (s.queueCells src cell k).nextPlace src
    · rw [heq, tget_tset_self]
      rfl
    · rw [tget_tset_ne _ _ heq]
      exact ih (Nat.lt_of_le_of_ne (Nat.le_of_lt_succ hik) fun hi => heq (by rw [hi]; rfl))

variable {s src} (h : twf none (s.swcTile src).places = true)
include h

theorem State.places_queueCells_wf (k : Nat) : twf none ((s.queueCells src cell k).swcTile src).places = true := by
  induction k with
  | zero => exact h
  | succ k ih =>
    rw [State.queueCells, State.swcTile_queueCell]
    dsimp only
    exact twf_tset ih

/-- No two cells have one place: that of the later is free until it is formed. -/
theorem State.place_queuedCell_ne {i j : Nat} (hij : i < j) :
    (s.queuedCell src cell i).place ≠ (s.queuedCell src cell j).place := fun heq => by
  have hheld := s.place_queuedCell_held src cell hij
  rw [heq, show (s.queuedCell src cell j).place = (s.queueCells src cell j).nextPlace src from rfl,
    State.nextPlace_free (State.places_queueCells_wf cell h j)] at hheld
  cases hheld

theorem State.nodup_places_queueCells (k : Nat) : (((List.range k).map (s.queuedCell src cell)).map (·.place)).Nodup := by
  rw [List.map_map]
  refine List.Nodup.map (fun i j heq => ?_) List.nodup_range
  by_contra hne
  rcases Nat.lt_or_gt_of_ne hne with hlt | hlt
  · exact State.place_queuedCell_ne cell h hlt heq
  · exact State.place_queuedCell_ne cell h hlt heq.symm

end

/-! ### The cells of a message -/

/-- Cell `i` of a message, without its place and its generation (R101 to R103). -/
def messageCell (src srcOff dst dstOff : Nat) (m : Msg) (slice : Bool) (i : Nat) : Cell :=
  { dstTile := dst, dstOff := dstOff, srcTile := src, srcOff := srcOff
    cls := msgClass m slice (m.engine && srcOff == 16), vfi := m.vfi.toNat, stamp := m.stamp.toNat, seq := 0, lgen := 0
    poison := if m.poison && decide (0 < i) then 15 else 0, type := msgType m, first := i == 0
    last := i + 1 == msgCells m, quarters := min 4 (msgQuarters m - 4 * i) - 1, msg := m, left := msgCells m - i, place := 0 }

/-- The cells of the slots that have arrived are queued, and those of the others wait with the port's open message (R81). -/
theorem State.intoCore_eq (s : State) (src srcOff dst dstOff : Nat) (m : Msg) (slice : Bool) :
    let w := s.slotsToCome src srcOff m
    let cell := messageCell src srcOff dst dstOff m slice
    let q := s.queueCells src cell (msgCells m - w)
    s.intoCore src srcOff dst dstOff m slice = State.noteQuota (if w = 0 then q else q.modPort (16 * src + srcOff) fun x =>
      { x with openMsg := x.openMsg.map fun o =>
          { o with slots := w, rest := (List.range w).map fun i => cell (msgCells m - w + i) } }) src m.vfi.toNat := by
  intro w cell q
  simp only [q, ← State.foldl_queueCell]
  rfl

@[simp] theorem State.port_noteQuota (s : State) (t vfi p : Nat) : (s.noteQuota t vfi).port p = s.port p := by
  obtain ⟨ts, l, h, -⟩ := State.noteQuota_writes s t vfi
  rw [h]
  rfl

theorem State.swcTile_intoCore (s : State) (src srcOff dst dstOff : Nat) (m : Msg) (slice : Bool) :
    ∃ l, (s.intoCore src srcOff dst dstOff m slice).swcTile src =
      { (s.queueCells src (messageCell src srcOff dst dstOff m slice) (msgCells m - s.slotsToCome src srcOff m)).swcTile src with
        full := l } := by
  rw [State.intoCore_eq]
  dsimp only
  obtain ⟨l, hl⟩ := State.swcTile_noteQuota (if s.slotsToCome src srcOff m = 0 then _ else _) src m.vfi.toNat
  exact ⟨l, by rw [hl]; split <;> rfl⟩

/-- Not all of a message's cells wait: its head has arrived. -/
theorem State.slotsToCome_lt {s : State} {src srcOff : Nat} {m : Msg} (h : s.slotsToCome src srcOff m ≠ 0) :
    s.slotsToCome src srcOff m < msgCells m := by
  have hle : s.slotsToCome src srcOff m ≤ msgCells m - 1 := by
    unfold State.slotsToCome
    split
    · exact Nat.zero_le _
    · split
      · split
        · exact min_le_right ..
        · exact Nat.zero_le _
      · exact Nat.zero_le _
  omega

/-- The open message of a port keeps the cells of the slots still to come. -/
theorem State.openMsg_intoCore {s : State} {src srcOff : Nat} (dst dstOff : Nat) {m : Msg} (slice : Bool) {o : OpenIn}
    (hw : s.slotsToCome src srcOff m ≠ 0) (ho : (s.port (16 * src + srcOff)).openMsg = some o) :
    ((s.intoCore src srcOff dst dstOff m slice).port (16 * src + srcOff)).openMsg =
      some { o with
        slots := s.slotsToCome src srcOff m
        rest := (List.range (s.slotsToCome src srcOff m)).map fun i =>
          messageCell src srcOff dst dstOff m slice (msgCells m - s.slotsToCome src srcOff m + i) } := by
  rw [State.intoCore_eq, if_neg hw, State.port_noteQuota, State.port_modPort_self, State.port_queueCells, ho]
  rfl

/-- Settles O51: the cells whose slots have arrived are formed one after another by induction on their number, and the
others wait with the open message. -/
theorem messagesBecomeCells : Obligations.MessagesBecomeCells := by
  unfold Obligations.MessagesBecomeCells
  intro s src srcOff dst dstOff m slice x u y w n hwf hfree
  obtain ⟨l, hy⟩ := State.swcTile_intoCore s src srcOff dst dstOff m slice
  have hy : y = _ := hy
  obtain ⟨hfree', hheld'⟩ := s.placeCounts_queueCells src (messageCell src srcOff dst dstOff m slice) hfree
  refine ⟨⟨?_, ?_, (List.range n).map (s.queuedCell src (messageCell src srcOff dst dstOff m slice)), ?_, by simp,
    State.nodup_places_queueCells _ hwf n, fun c hc => ?_, fun i hi => ?_⟩, fun o hw ho =>
    ⟨_, State.openMsg_intoCore dst dstOff slice hw ho, by simp [w], fun c hc => ?_⟩⟩
  · rw [hy]; exact hfree'
  · rw [hy]; exact hheld'
  · rw [hy]; exact State.voq_queueCells ..
  · obtain ⟨i, hi, rfl⟩ := List.mem_map.1 hc
    refine ⟨rfl, rfl, rfl, rfl, rfl, rfl, rfl, rfl, rfl, rfl, ?_⟩
    rw [hy]
    exact s.place_queuedCell_held src _ (List.mem_range.1 hi)
  · have hi : i < n := by simpa using hi
    simp [List.getElem?_range hi, State.queuedCell, messageCell]
  · obtain ⟨i, -, rfl⟩ := List.mem_map.1 hc
    have hlt := State.slotsToCome_lt hw
    exact ⟨rfl, beq_eq_false_iff_ne.2 (by omega)⟩

end Sys2Proof.Machine
end

section
/-!
PROOFS. Head checks (R119, R120) and the audit of the places (R128).
-/

namespace Sys2Proof.Machine

/-! ### Head checks -/

/-- The cells of `c`'s message in the ingress queues, aged (R120). -/
def State.agedVoq (s : State) (t : Nat) (c : Cell) : State :=
  ((s.swcTile t).voq.filter (·.same c)).foldl (fun s y => s.ageCell t y)
    (s.setSwcTile t { s.swcTile t with voq := (s.swcTile t).voq.filter fun y => !y.same c })

/-- A message whose head has gone on loses the cells that are aged behind it. -/
theorem State.ageVoq_eq (s : State) (t : Nat) (c : Cell) :
    s.ageVoq t c = if c.first then s.agedVoq t c else (s.agedVoq t c).loseMessage c.dstTile c := rfl

section
variable {s : State} {t : Nat} {d : Tile} {o : Fin 17} {k : Fin 3} {v : Vfi}

theorem State.headCheck_voq_of_none
    (h : (s.swcTile t).voq.find? (fun c => c.dstTile == d.val && c.dstOff == o.val && c.cls == k.val) = none) :
    s.headCheck t (.voq d o k) = s := by
  simp only [State.headCheck, h]

theorem State.headCheck_voq_of_some {c : Cell}
    (h : (s.swcTile t).voq.find? (fun c => c.dstTile == d.val && c.dstOff == o.val && c.cls == k.val) = some c) :
    s.headCheck t (.voq d o k) = if s.overAge t c then s.ageVoq t c else s := by
  simp only [State.headCheck, h]

theorem State.headCheck_egress_of_none (h : (s.swcTile t).egress.find? (fun c =>
    c.dstOff == o.val && c.cls == k.val && (k.val != 0 || c.vfi == v.val)) = none) :
    s.headCheck t (.egress o k v) = s := by
  simp only [State.headCheck, h]

theorem State.headCheck_egress_of_some {c : Cell} (h : (s.swcTile t).egress.find? (fun c =>
    c.dstOff == o.val && c.cls == k.val && (k.val != 0 || c.vfi == v.val)) = some c) :
    s.headCheck t (.egress o k v) = if s.overAge t c then s.ageEgress t c else s := by
  simp only [State.headCheck, h]

end

theorem State.overAge_iff (s : State) (t : Nat) (c : Cell) : s.overAge t c = true ↔
    s.headLeft c = false ∧ 16 * 2 ^ (s.swcTile t).ageLog2 < s.clock - restoreT52 s.clock c.stamp := by
  simp [State.overAge]

/-! ### The audit -/

@[simp] theorem State.swcTile_tally (s : State) (i n k : Nat) : (s.tally i n).swcTile k = s.swcTile k := by
  simp [State.swcTile]

/-- A place in QUARANTINE goes to the free list. -/
theorem TileSwc.free_of_quarantined {x : TileSwc} {p : Nat} {pl : Place} (h : tget none x.places p = some pl)
    (hq : pl.held = false) : x.free p = { x with
      places := tset none x.places p none, freeCount := x.freeCount + 1, quarCount := x.quarCount - 1 } := by
  simp [TileSwc.free, h, hq, bit]

/-- What the audit makes of the place that its pointer names (R128). -/
def State.auditPlace (s : State) (t : Nat) : State :=
  let x := s.swcTile t
  match tget none x.places x.auditPtr with
  | some q =>
    if q.held then
      if 2 ^ x.ageLog2 + 20480 < s.ft - q.takenAt then
        (((s.setSwcTile t { x with
          places := tset none x.places x.auditPtr (some { q with held := false, qLap := x.lap })
          heldCount := x.heldCount - 1, quarCount := x.quarCount + 1
          leakCount := satAdd 32 x.leakCount 1, err := x.err ||| 1 }).record 0x54 t (t64Ns q.takenAt)
            [(1, t), (2, x.auditPtr)]).cntTile t 0x50).tally 17
      else s
    else if q.qLap < x.lap then s.setSwcTile t (x.free x.auditPtr) else s
  | none => s

/-- Before the last place the pointer goes on by one. -/
theorem State.auditStep_inside {s : State} {t : Nat} (h : (s.swcTile t).auditPtr + 1 < 16384) :
    s.auditStep t =
      (s.auditPlace t).setSwcTile t { (s.auditPlace t).swcTile t with auditPtr := (s.swcTile t).auditPtr + 1 } := by
  rw [State.auditStep]
  dsimp only
  rw [if_neg (Nat.ne_of_lt h)]
  rfl

/-- The end of a lap: a new one begins, and a sum of places that does not come to 16,384 is recorded. -/
def State.endLap (s : State) (t : Nat) : State :=
  let x := s.swcTile t
  let bad := x.freeCount + x.heldCount + x.quarCount ≠ 16384
  let s := s.setSwcTile t { x with auditPtr := 0, lap := x.lap + 1, err := if bad then x.err ||| 2 else x.err }
  if bad then s.record 0x55 t s.now64 [(1, t), (2, x.freeCount), (2, x.heldCount)] else s

theorem State.auditStep_last {s : State} {t : Nat} (h : (s.swcTile t).auditPtr = 16383) :
    s.auditStep t = (s.auditPlace t).endLap t := by
  rw [State.auditStep]
  dsimp only
  rw [if_pos (by omega)]
  rfl

section
variable {s : State} {t : Nat}

theorem State.endLap_of_sum
    (h : (s.swcTile t).freeCount + (s.swcTile t).heldCount + (s.swcTile t).quarCount = 16384) :
    s.endLap t = s.setSwcTile t { s.swcTile t with auditPtr := 0, lap := (s.swcTile t).lap + 1 } := by
  simp [State.endLap, h]

theorem State.endLap_of_wrong_sum
    (h : (s.swcTile t).freeCount + (s.swcTile t).heldCount + (s.swcTile t).quarCount ≠ 16384) :
    s.endLap t = (s.setSwcTile t { s.swcTile t with
      auditPtr := 0, lap := (s.swcTile t).lap + 1, err := (s.swcTile t).err ||| 2 }).record 0x55 t s.now64
        [(1, t), (2, (s.swcTile t).freeCount), (2, (s.swcTile t).heldCount)] := by
  simp [State.endLap, h]
  rfl

end

section
variable {s : State} {t : Nat} {pl : Place}

theorem State.auditPlace_of_free (h : tget none (s.swcTile t).places (s.swcTile t).auditPtr = none) :
    s.auditPlace t = s := by
  simp only [State.auditPlace, h]

variable (h : tget none (s.swcTile t).places (s.swcTile t).auditPtr = some pl)
include h

theorem State.auditPlace_of_held (hh : pl.held = true)
    (hage : s.ft - pl.takenAt ≤ 2 ^ (s.swcTile t).ageLog2 + 20480) : s.auditPlace t = s := by
  simp only [State.auditPlace, h, hh, if_true, if_neg hage.not_gt]

/-- A place held too long goes to QUARANTINE. -/
theorem State.swcTile_auditPlace_of_leak (hh : pl.held = true)
    (hage : 2 ^ (s.swcTile t).ageLog2 + 20480 < s.ft - pl.takenAt) : (s.auditPlace t).swcTile t = { s.swcTile t with
      places := tset none (s.swcTile t).places (s.swcTile t).auditPtr
        (some { pl with held := false, qLap := (s.swcTile t).lap })
      heldCount := (s.swcTile t).heldCount - 1, quarCount := (s.swcTile t).quarCount + 1
      leakCount := satAdd 32 (s.swcTile t).leakCount 1, err := (s.swcTile t).err ||| 1 } := by
  simp only [State.auditPlace, h, hh, if_true, if_pos hage, State.swcTile_tally, State.swcTile_cntTile,
    State.swcTile_record, State.swcTile_setSwcTile_self]

/-- One in QUARANTINE since an earlier lap is freed. -/
theorem State.swcTile_auditPlace_of_quarantined (hq : pl.held = false) (hlap : pl.qLap < (s.swcTile t).lap) :
    (s.auditPlace t).swcTile t = { s.swcTile t with
      places := tset none (s.swcTile t).places (s.swcTile t).auditPtr none
      freeCount := (s.swcTile t).freeCount + 1, quarCount := (s.swcTile t).quarCount - 1 } := by
  simp only [State.auditPlace, h, hq, Bool.false_eq_true, if_false, if_pos hlap, TileSwc.free_of_quarantined h hq,
    State.swcTile_setSwcTile_self]

end

/-- AUDIT_STEP of a tile that is there, while the core runs. -/
theorem exec_auditStep_of_running {s : State} {t : Tile} (h : s.held = none)
    (hr : s.glb.coreRun = true ∧ s.tileExists t = true) : exec (.auditStep t) s = .next (s.framed (s.auditStep t)) :=
  acts_of_act (f := fun s => if s.glb.coreRun && s.tileExists t then s.auditStep t else s) (g := (·.auditStep t)) rfl h
    (by simp [hr])

theorem headsAgeAndPlacesAreAudited : Claims.HeadsAgeAndPlacesAreAudited := by
  intro t d o k v c pl s h x inVoq inEgress runs aged
  have hcheck (q : QueueId) {f : State → State} (hf : s.headCheck t q = f s) : Acts (.headCheck t q) s f :=
    acts_of_act (f := (·.headCheck t q)) rfl h hf
  have hyoung {b : Bool} (hb : b = false) (u : State) : (if b then u else s) = s := by rw [hb]; rfl
  refine ⟨fun hn => hcheck _ (State.headCheck_voq_of_none hn),
    fun hc ho => hcheck _ ((State.headCheck_voq_of_some hc).trans (hyoung ho _)), fun hc ho hf => hcheck _ ?_,
    fun hc ho hf => hcheck _ ?_, fun hn => hcheck _ (State.headCheck_egress_of_none hn),
    fun hc ho => hcheck _ ((State.headCheck_egress_of_some hc).trans (hyoung ho _)), fun hc ho => hcheck _ ?_,
    s.overAge_iff t c, fun hr => ?_, fun hr hp hl => ?_, fun hr hp hh hl ha => ?_,
    fun hr hp hh hl ha => ⟨_, exec_auditStep_of_running h hr, ?_⟩,
    fun hr hp hh hlap hl => ⟨_, exec_auditStep_of_running h hr, ?_⟩, fun hr hp hl hsum => ?_, fun hr hp hl hsum => ?_⟩
  · rw [State.headCheck_voq_of_some hc, if_pos ho, State.ageVoq_eq, if_pos hf]
    rfl
  · rw [State.headCheck_voq_of_some hc, if_pos ho, State.ageVoq_eq, if_neg (by simp [hf])]
    rfl
  · rw [State.headCheck_egress_of_some hc, if_pos ho]
    rfl
  · exact acts_of_act (f := fun s => if s.glb.coreRun && s.tileExists t then s.auditStep t else s) rfl h
      (if_neg (by rcases hr with hr | hr <;> simp [hr]))
  · refine (exec_auditStep_of_running h hr).trans ?_
    rw [State.auditStep_inside hl, State.auditPlace_of_free hp]
  · refine (exec_auditStep_of_running h hr).trans ?_
    rw [State.auditStep_inside hl, State.auditPlace_of_held hp hh ha]
  · rw [State.swcTile_framed, State.auditStep_inside hl, State.swcTile_setSwcTile_self,
      State.swcTile_auditPlace_of_leak hp hh ha]
  · rw [State.swcTile_framed, State.auditStep_inside hl, State.swcTile_setSwcTile_self,
      State.swcTile_auditPlace_of_quarantined hp hh hlap]
  · refine (exec_auditStep_of_running h hr).trans ?_
    rw [State.auditStep_last hl, State.auditPlace_of_free hp, State.endLap_of_sum hsum]
  · refine (exec_auditStep_of_running h hr).trans ?_
    rw [State.auditStep_last hl, State.auditPlace_of_free hp, State.endLap_of_wrong_sum hsum]

end Sys2Proof.Machine
end

section
/-!
PROOFS. What a port sends (R117, R118, R124) and what a tile learns of a port (R123).
-/

namespace Sys2Proof.Machine

@[simp] theorem Cell.same_self (c : Cell) : c.same c = true := by
  simp [Cell.same]

/-! ### A port that sends nothing -/

section
variable {s : State} {t off credits : Nat}

theorem State.egressSend_of_shut (h : s.portOpen t off = false) : s.egressSend t off credits = s := by
  simp [State.egressSend, h]

theorem State.egressSend_of_openOut (h : (tget none (s.swcTile t).openOut off).isSome = true) :
    s.egressSend t off credits = s := by
  simp [State.egressSend, h]

theorem State.sendNormal_of_no_heads (h : s.normalHeads t off = []) : s.sendNormal t off credits = s := by
  simp [State.sendNormal, h]

theorem State.sendFirst_none (send : State → Cell → State) (next : State → State) :
    s.sendFirst t off credits none send next = next s := rfl

/-- At a port that takes traffic and has nothing under way, a pool without aged cells and without cells in QUARANTINE
is served by class (R124). -/
theorem State.egressSend_of_sound (ho : s.portOpen t off = true) (hout : tget none (s.swcTile t).openOut off = none)
    (hage : ∀ c ∈ (s.swcTile t).egress, s.overAge t c = false)
    (hquar : ∀ c ∈ (s.swcTile t).egress, (s.swcTile t).quarantined c.place = false) :
    s.egressSend t off credits =
      s.sendFirst t off credits (if s.inQuota t off then s.classHead t off 2 else none) (fun s c => s.sendReserved t off c)
        fun s => s.sendFirst t off credits (s.classHead t off 1) (fun s c => s.sendOrDiscard t off c)
          fun s => s.sendNormal t off credits := by
  have hold : ((s.swcTile t).egress.filter fun c => c.dstOff == off && s.overAge t c) = [] := by
    simpa using fun c hc _ => hage c hc
  have hgone : ((s.swcTile t).egress.filter fun c => c.dstOff == off && (s.swcTile t).quarantined c.place) = [] := by
    simpa using fun c hc _ => hquar c hc
  rw [State.egressSend, if_neg (by simp [ho, hout])]
  simp only [hold, hgone, List.foldl_nil]

/-! ### A Control message alone -/

theorem State.egressSend_of_empty (ho : s.portOpen t off = true) (he : (s.swcTile t).egress = []) :
    s.egressSend t off credits = s := by
  cases hout : tget none (s.swcTile t).openOut off with
  | some o => exact State.egressSend_of_openOut (by simp [hout])
  | none =>
    rw [State.egressSend_of_sound ho hout (by simp [he]) (by simp [he])]
    simp [State.classHead, he, State.sendFirst_none, State.sendNormal_of_no_heads, State.normalHeads]

variable {c : Cell} (he : (s.swcTile t).egress = [c])
include he

theorem State.classHead_other_of_singleton {k : Nat} (h : c.cls ≠ k) : s.classHead t off k = none := by
  simp [State.classHead, he, h]

theorem State.normalHeads_of_control (h : c.cls = 1) : s.normalHeads t off = [] := by
  simp [State.normalHeads, he, h]

theorem State.classHead_of_singleton (hoff : c.dstOff = off) (hf : c.first = true) :
    s.classHead t off c.cls = some c := by
  simp [State.classHead, he, hoff, hf]

/-- A Control message alone in the pool is sent or discarded once it is ready, and waits before. -/
theorem State.egressSend_of_control (ho : s.portOpen t off = true) (hout : tget none (s.swcTile t).openOut off = none)
    (hoff : c.dstOff = off) (hcls : c.cls = 1) (hf : c.first = true) (hage : s.overAge t c = false)
    (hquar : (s.swcTile t).quarantined c.place = false) (htrk : s.trackerFull t off c.msg = false) :
    s.egressSend t off credits = if s.headReady t off credits c then s.sendOrDiscard t off c else s := by
  have hhead : s.classHead t off 1 = some c := by rw [← hcls, State.classHead_of_singleton he hoff hf]
  have hwait : s.noteTrkWait t off c = s := by simp [State.noteTrkWait, htrk]
  rw [State.egressSend_of_sound ho hout (by simpa [he] using hage) (by simpa [he] using hquar),
    State.classHead_other_of_singleton he (by omega), ite_self, State.sendFirst_none, hhead, State.sendFirst]
  simp only [hwait, State.sendNormal_of_no_heads (State.normalHeads_of_control he hcls)]

theorem State.sendOrDiscard_of_singleton (h : c.poison % 2 = 1 ∨ s.ldShut t off c.msg = true) :
    s.sendOrDiscard t off c =
      (((s.setSwcTile t { s.swcTile t with egress := [] }).dropCell t c).answerCell t c (s.cplCa t off)).restop t off := by
  rw [State.sendOrDiscard, if_pos h]
  simp only [he, List.filter_cons, List.filter_nil, Cell.same_self, if_true, List.foldl_cons, List.foldl_nil,
    Bool.not_true, Bool.false_eq_true, if_false]
  rfl

end

theorem State.sendOrDiscard_of_sound {s : State} {t off : Nat} {c : Cell} (hp : c.poison % 2 = 0)
    (hl : s.ldShut t off c.msg = false) : s.sendOrDiscard t off c = s.sendMsg t off c :=
  if_neg (by simp [hp, hl])

theorem egressAndPortStates : Claims.EgressAndPortStates := by
  intro t off credits p c s h x alone known mineOf mine
  have hsend {f : State → State} (hf : s.egressSend t off credits = f s) : Acts (.egressSend t off credits) s f :=
    acts_of_act (f := (·.egressSend t off credits)) rfl h hf
  have hlearn {f : State → State} (hf : s.learnPort t p = f s) : Acts (.portStateLearned t p) s f :=
    acts_of_act (f := (·.learnPort t p)) rfl h hf
  have hcontrol (ha : alone) : s.egressSend t off credits =
      if c.left ≤ credits then s.sendOrDiscard t off c else s := by
    obtain ⟨ho, hout, he, hoff, hcls, hf, hage, hquar, howed, htrk⟩ := ha
    rw [State.egressSend_of_control he ho hout hoff hcls hf hage hquar htrk]
    simp [State.headReady, howed, htrk]
  refine ⟨fun hs => hsend (State.egressSend_of_shut hs), fun ho he => hsend (State.egressSend_of_empty ho he),
    fun ho => hsend (State.egressSend_of_openOut ho), fun ha hcr => hsend ((hcontrol ha).trans (if_neg hcr.not_ge)),
    fun ha hcr hp hl => hsend (((hcontrol ha).trans (if_pos hcr)).trans (State.sendOrDiscard_of_sound hp hl)),
    fun ⟨ho, hout, he, hrest⟩ hcr hb => hsend (((hcontrol ⟨ho, hout, he, hrest⟩).trans (if_pos hcr)).trans
      (State.sendOrDiscard_of_singleton he hb)), fun hup => hlearn (if_pos (beq_iff_eq.2 hup)),
    fun hup => hlearn (if_neg (mt beq_iff_eq.1 hup))⟩

/-- Settles O50: head checks and the audit by one visited place, EGRESS_SEND by its classes, and learned port states. -/
theorem queuesAgeAndPortsSend : Obligations.QueuesAgeAndPortsSend :=
  ⟨headsAgeAndPlacesAreAudited, egressAndPortStates⟩

end Sys2Proof.Machine
end

section
/-!
PROOFS. A speculative read that is marked as made by the module does not stop at its count (R103, Table 05-2).
-/

namespace Sys2Proof.Machine

/-- An instruction whose step is known both as `f` and as `g` leaves the same tiles by both. -/
theorem Acts.swcTile_eq {i : Instr} {s : State} {f g : State → State} (h : Acts i s f) (hg : exec i s = act s g)
    (hheld : s.held = none) (t : Nat) : (g s).swcTile t = (f s).swcTile t := by
  rw [Acts, hg, act_running hheld] at h
  simpa using congrArg (State.swcTile · t) (Host.Outcome.next.inj h)

theorem exec_messageIngress (src : IngressSrc) (m : Msg) (s : State) :
    exec (.messageIngress src m) s = act s (·.ingress src m) := rfl

/-- A speculative read toward port 8, marked as a response that the module made: its cells' TYPE is 8. -/
def madeSpecRead : Msg := { kind := .memSpecRd, reqPort := 16, dst := 8, made := some 0 }

/-- The host's port takes it, its link IDE lets it pass, and no reset of its VFI is under way. -/
theorem hostUp_takes_madeSpecRead :
    let s := Tests.hostUp
    let m := s.stampIn 16 madeSpecRead
    (s.glb.coreRun = true ∧ s.portOpen 1 0 = true ∧ s.creditsShut 16 = false) ∧ s.ideShut 16 m = false ∧
      (s.inst m.vfi.toNat).resetting = false := by
  decide +kernel

/-- The tile of that port holds no cell, and then the message's. -/
theorem madeSpecRead_enters :
    (Tests.hostUp.swcTile 1).voq.length = 0 ∧
      ((Tests.hostUp.ingress (.lanePort 16) madeSpecRead).swcTile 1).voq.length = 1 := by
  decide +kernel

/-- Refutes O52: the clause of the speculative read asks for its kind only. Ingress looks at the TYPE first, and a
message of that kind which is marked as made by the module has TYPE 8 (Table 05-2): it goes on past its count, by the
rows of CXL.io, and enters the core toward port 8. -/
theorem not_ingressRoutesMessages : ¬ Obligations.IngressRoutesMessages := by
  unfold Obligations.IngressRoutesMessages
  intro h
  have hheld : Tests.hostUp.held = none := by decide +kernel
  obtain ⟨-, -, -, hspec, -⟩ := h 16 0 0 madeSpecRead Tests.win0 0 Tests.hostUp Tests.hostUp hheld
  have hcounted := (hspec hostUp_takes_madeSpecRead rfl).swcTile_eq (exec_messageIngress _ _ _) hheld 1
  obtain ⟨hempty, henters⟩ := madeSpecRead_enters
  rw [hcounted, State.swcTile_cntTile, hempty] at henters
  exact absurd henters (by decide)

end Sys2Proof.Machine
end


section
/-!
PROOFS. The slice function (R136): the bits above FMA[9:6] fold into one mask, and the slice of a line is FMA[9:6] under it.
-/

namespace Sys2Proof.Machine

/-- The `k`th group of four bits above FMA[9:6], an odd one rotated right by one bit (R136). -/
def sliceGroup (fma k : Nat) : Nat :=
  let g := fma / 2 ^ (10 + 4 * k) % 16
  if k % 2 = 1 then g / 2 + 8 * (g % 2) else g

theorem sliceGroup_lt (fma k : Nat) : sliceGroup fma k < 16 := by
  simp only [sliceGroup]
  split <;> omega

/-- The groups see FMA[55:10] alone. -/
theorem sliceGroup_div {a b : Nat} (h : a / 1024 = b / 1024) (k : Nat) : sliceGroup a k = sliceGroup b k := by
  have hdiv (x : Nat) : x / 2 ^ (10 + 4 * k) = x / 1024 / 2 ^ (4 * k) := by
    rw [Nat.pow_add, Nat.div_div_eq_div_mul]
  simp only [sliceGroup, hdiv, h]

/-- What the twelve groups fold to: the mask that FMA[9:6] is under. -/
def sliceMask (fma : Nat) : Nat := (List.range 12).foldl (fun n k => n ^^^ sliceGroup fma k) 0

theorem foldl_xor_eq (g : Nat → Nat) (ks : List Nat) (n : Nat) :
    ks.foldl (fun n k => n ^^^ g k) n = n ^^^ ks.foldl (fun n k => n ^^^ g k) 0 := by
  induction ks generalizing n with
  | nil => simp
  | cons k ks ih =>
    rw [List.foldl_cons, List.foldl_cons, ih, ih (0 ^^^ g k), Nat.zero_xor, Nat.xor_assoc]

theorem foldl_xor_lt {g : Nat → Nat} {w : Nat} (hg : ∀ k, g k < 2 ^ w) (ks : List Nat) {n : Nat} (hn : n < 2 ^ w) :
    ks.foldl (fun n k => n ^^^ g k) n < 2 ^ w := by
  induction ks generalizing n with
  | nil => exact hn
  | cons k ks ih => exact ih (Nat.xor_lt_two_pow hn (hg k))

theorem sliceMask_lt (fma : Nat) : sliceMask fma < 16 :=
  foldl_xor_lt (w := 4) (sliceGroup_lt fma) _ (by decide)

theorem sliceOf_eq_foldl (fma : Nat) :
    sliceOf fma = (List.range 12).foldl (fun n k => n ^^^ sliceGroup fma k) (fma / 64 % 16) := by
  simp only [sliceOf, sliceGroup, Nat.shiftRight_eq_div_pow, Nat.mul_comm 8]

theorem sliceOf_eq_xor (fma : Nat) : sliceOf fma = (fma / 64 % 16) ^^^ sliceMask fma := by
  rw [sliceOf_eq_foldl, foldl_xor_eq, sliceMask]

/-- Addresses of one KiB have one mask. -/
theorem sliceMask_div {a b : Nat} (h : a / 1024 = b / 1024) : sliceMask a = sliceMask b := by
  simp only [sliceMask, sliceGroup_div h]

/-- Line `i` of an aligned KiB lies in slice `i` under the block's mask. -/
theorem sliceOf_line (fma : Nat) {i : Nat} (hi : i < 16) :
    sliceOf (fma / 1024 * 1024 + 64 * i) = i ^^^ sliceMask fma := by
  rw [sliceOf_eq_xor, sliceMask_div (b := fma) (by omega)]
  congr 1
  omega

/-- Settles O37: a XOR with a fixed mask below 16 permutes 0 to 15. -/
theorem sliceFunctionSpreadsEveryBlock : Obligations.SliceFunctionSpreadsEveryBlock := by
  unfold Obligations.SliceFunctionSpreadsEveryBlock
  intro fma _
  refine ⟨sliceOf_eq_foldl fma, ?_, fun n hn => ⟨n ^^^ sliceMask fma, ?_⟩⟩
  · rw [sliceOf_eq_xor, sliceOf_eq_xor (fma / 64 * 64), sliceMask_div (a := fma / 64 * 64) (b := fma) (by omega)]
    congr 1
    omega
  · have hlt : n ^^^ sliceMask fma < 16 := Nat.xor_lt_two_pow (n := 4) hn (sliceMask_lt fma)
    refine ⟨hlt, ?_, fun j hj hjn => ?_⟩
    · rw [sliceOf_line fma hlt, Nat.xor_assoc, Nat.xor_self, Nat.xor_zero]
    · rw [← hjn, sliceOf_line fma hj, Nat.xor_assoc, Nat.xor_self, Nat.xor_zero]

end Sys2Proof.Machine
end


section
/-!
PROOFS. Rows of Table 06-4: the snoop that a class causes, and the holders that the entry records after it (R144, R150).
-/

namespace Sys2Proof.Machine

/-! ### The snoop -/

theorem planSnoop_invalid (c : ReqClass) (own : Bool) : planSnoop 0 c own = .none := rfl

theorem planSnoop_shared_inv (c : ReqClass) :
    planSnoop 1 c false = .inv ↔ c = .rdA ∨ c = .invA ∨ c = .invI ∨ c = .wr := by
  cases c <;> decide

theorem planSnoop_owner (c : ReqClass) : planSnoop 2 c true = .none := rfl

theorem planSnoop_modified_data (c : ReqClass) : planSnoop 2 c false = .data ↔ c = .rdS ∨ c = .rdD := by
  cases c <;> decide

theorem planSnoop_modified_cur (c : ReqClass) : planSnoop 2 c false = .cur ↔ c = .rdCur := by
  cases c <;> decide

/-! ### The holders -/

/-- The group bits of a list of hosts (R144). -/
def groupBits (l : List Nat) : BitVec 64 := l.foldl (fun g c => g ||| BitVec.ofNat 64 (2 ^ (c / 16))) 0

theorem getLsbD_foldl_groups (l : List Nat) (g : BitVec 64) (i : Nat) :
    (l.foldl (fun g c => g ||| BitVec.ofNat 64 (2 ^ (c / 16))) g).getLsbD i =
      (g.getLsbD i || l.any fun c => decide (i < 64) && decide (c / 16 = i)) := by
  induction l generalizing g with
  | nil => simp
  | cons c l ih =>
    rw [List.foldl_cons, ih, BitVec.getLsbD_or, BitVec.getLsbD_ofNat, Nat.testBit_two_pow, List.any_cons, Bool.or_assoc]

theorem getLsbD_groupBits {l : List Nat} {c : Nat} (hc : c ∈ l) (hlt : c < 1024) : (groupBits l).getLsbD (c / 16) = true := by
  rw [groupBits, getLsbD_foldl_groups, Bool.or_eq_true, List.any_eq_true]
  exact .inr ⟨c, hc, by simp; omega⟩

section
variable {s : State} {e : DirEntry} {q : Nat} (hf : e.coarse = false) (hq : q ∉ s.livePtrs e)
include hf hq

/-- A sharer that the four pointers have room for (R144). -/
theorem State.addSharer_of_room (hl : (s.livePtrs e).length < 4) : s.addSharer e q =
    { e with state := 1, ptrs := (s.livePtrs e).map (fun c => (c, (s.host c).inc)) ++ [(q, (s.host q).inc)] } := by
  simp [State.addSharer, hf, hq, hl]

/-- A fifth sharer makes the entry coarse (R144). -/
theorem State.addSharer_of_full (hl : 4 ≤ (s.livePtrs e).length) : s.addSharer e q =
    { e with state := 1, coarse := true, ptrs := [], groups := groupBits (q :: s.livePtrs e) } := by
  simp [State.addSharer, groupBits, hf, hq, hl.not_gt]

end

@[simp] theorem State.livePtrs_empty (s : State) : s.livePtrs {} = [] := rfl

@[simp] theorem State.livePtrs_oneHost (s : State) (st c : Nat) : s.livePtrs (s.oneHost st c) = [c] := by
  simp [State.livePtrs, State.oneHost]

@[simp] theorem State.livePtrs_fresh (s : State) (e : DirEntry) (cs : List Nat) :
    s.livePtrs { e with ptrs := cs.map fun c => (c, (s.host c).inc) } = cs := by
  simp [State.livePtrs, List.filterMap_map]

/-- The entry with a first sharer. -/
theorem State.addSharer_empty (s : State) (q : Nat) : s.addSharer {} q = s.oneHost 1 q := by
  rw [State.addSharer_of_room rfl List.not_mem_nil (by simp [-State.livePtrs_empty, State.livePtrs])]
  rfl

/-- The entry with a second sharer. -/
theorem State.addSharer_oneHost {s : State} {o q : Nat} (st : Nat) (h : q ≠ o) : s.addSharer (s.oneHost st o) q =
    { state := 1, ptrs := [o, q].map fun c => (c, (s.host c).inc) } := by
  rw [State.addSharer_of_room rfl (by simpa using h) (by simp), State.livePtrs_oneHost]
  rfl

/-! ### The entry after a read to share or a write -/

theorem classOf_memRdData {m : Msg} (h : m.kind = .memRdData) : classOf m = .rdD := by simp [classOf, h]

theorem classOf_memWr {m : Msg} (h : m.kind = .memWr) : classOf m = .wr := by simp [classOf, h]

section
variable {s : State} {t : Txn} {e : DirEntry}

theorem State.nextEntry_rdD_invalid {q : Nat} (hc : classOf t.msg = .rdD) (hb : t.before = 0) :
    s.nextEntry t e (some q) = s.oneHost 2 q := by
  simp [State.nextEntry, hc, hb]

theorem State.nextEntry_rdD_shared {q : Nat} (hc : classOf t.msg = .rdD) (hb : t.before = 1) :
    s.nextEntry t e (some q) = s.addSharer e q := by
  simp [State.nextEntry, hc, hb]

/-- The reader joins what the snooped owner kept: S after the answer S, and nothing otherwise. -/
theorem State.nextEntry_rdD_modified {q o : Nat} (hc : classOf t.msg = .rdD) (hb : t.before = 2) (hown : t.own = false)
    (ho : t.owner = some o) :
    s.nextEntry t e (some q) = s.addSharer (if t.answer = 1 then s.oneHost 1 o else {}) q := by
  simp [State.nextEntry, hc, hb, hown, ho]

/-- A write leaves its requester with what its MetaValue says, whatever the line was in. -/
theorem State.nextEntry_wr {q : Option Nat} (hc : classOf t.msg = .wr) : s.nextEntry t e q = s.holding t.msg.mv q := by
  unfold State.nextEntry
  rw [hc]
  match t.before with
  | 0 => rfl
  | 1 => rfl
  | _ + 2 => rfl

end

/-- Settles O45: `planSnoop` by its classes, and `nextEntry` by the STATE that a read to share found. -/
theorem homeDecisionTable : Obligations.HomeDecisionTable := by
  unfold Obligations.HomeDecisionTable
  refine ⟨planSnoop_invalid, planSnoop_shared_inv, planSnoop_owner, planSnoop_modified_data, planSnoop_modified_cur,
    fun s t e q hb hk => ⟨State.nextEntry_rdD_invalid (classOf_memRdData hk) hb, rfl⟩,
    fun s t e q hb hk hf hl hq => ?_, fun s t e q hb hk hf hl hq => ?_, fun s t e q o hb hown ho hne hk => ?_,
    fun s t e q hk hmv => ?_⟩
  · rw [State.nextEntry_rdD_shared (classOf_memRdData hk) hb, State.addSharer_of_room hf hq hl]
    exact ⟨rfl, rfl, rfl⟩
  · rw [State.nextEntry_rdD_shared (classOf_memRdData hk) hb, State.addSharer_of_full hf hq hl]
    exact ⟨rfl, rfl, getLsbD_groupBits List.mem_cons_self, fun c hc => getLsbD_groupBits (List.mem_cons_of_mem _ hc)⟩
  · rw [State.nextEntry_rdD_modified (classOf_memRdData hk) hb hown ho]
    by_cases ha : t.answer = 1
    · rw [if_pos ha, State.addSharer_oneHost 1 hne]
      exact ⟨fun h0 => absurd ha (by omega), fun _ => State.livePtrs_fresh s { state := 1 } [o, q], rfl⟩
    · rw [if_neg ha, State.addSharer_empty]
      exact ⟨fun _ => State.livePtrs_oneHost s 1 q, fun h1 => absurd h1 ha, rfl⟩
  · rw [State.nextEntry_wr (classOf_memWr hk), hmv]
    cases q <;> rfl

end Sys2Proof.Machine
end


section
/-!
PROOFS. The read of an untracked line at a module whose error summary has risen since it was last looked at: the summary
interrupt follows the read (R350).
-/

namespace Sys2Proof.Machine

theorem exec_homeRequest (k : Slice) (m : Msg) (s : State) : exec (.homeRequest k m) s = act s (·.homeRequest k m) := rfl

/-- A module with a host whose memory flag has set since the last look at the summary, with the summary interrupt on and
its vector unmasked. -/
def summaryRisesUp : State :=
  { Tests.homeUp with glb := { Tests.homeUp.glb with irqMask := 64, irqEn := true }
                      mem := { Tests.homeUp.mem with err := 1 }
                      fmp := { Tests.homeUp.fmp with table := [(0, { masked := false })] } }

/-- Nothing has left that module; with the host's read, the read and the interrupt message do. -/
theorem summaryRisesUp_sends_two : summaryRisesUp.out = [] ∧
    (summaryRisesUp.framed (summaryRisesUp.homeRequest 0 Tests.read0)).out.length = 2 := by
  decide +kernel

/-- Refutes O44: the claim about the read of an untracked line says that the read alone leaves, for any state. Where a bit
of the summary has risen since it was last looked at, the frame of the command sends the summary's vector after it. -/
theorem not_homeTakesRequests : ¬ Obligations.HomeTakesRequests := by
  unfold Obligations.HomeTakesRequests
  rintro ⟨-, hread⟩
  have hheld : summaryRisesUp.held = none := by decide +kernel
  obtain ⟨t, a, hexec, -, -, -, -, -, -, -, -, -, -, -, -, -, -, -, hout, -⟩ :=
    hread 0 Tests.read0 { base := 0, n := 30, target := { port := 8 } } 0 7 0 summaryRisesUp hheld (by decide +kernel)
      (by decide +kernel) (by decide +kernel) (by decide +kernel) (by decide +kernel) (by decide +kernel) (by decide +kernel)
      (by decide +kernel) (by decide +kernel) (by decide +kernel) (by decide +kernel) (by decide +kernel) (by decide +kernel)
      (by decide +kernel) (by decide +kernel) (by decide +kernel) (by decide +kernel) (by decide +kernel) (by decide +kernel)
      (by decide +kernel) (by decide +kernel)
  rw [exec_homeRequest, act_running hheld] at hexec
  obtain ⟨hempty, htwo⟩ := summaryRisesUp_sends_two
  have hone : t.out.length = 1 := by rw [hout, hempty]; rfl
  rw [← Host.Outcome.next.inj hexec] at hone
  exact absurd (htwo.symm.trans hone) (by decide)

end Sys2Proof.Machine
end


section
/-!
PROOFS. Rules of a home slice: its part through what writes other parts, its transactions, and what keeps one open.
-/

namespace Sys2Proof.Machine

/-! ### The home through the writes of other parts -/

@[simp] theorem State.framed_home (s u : State) : (s.framed u).home = u.home := by
  obtain ⟨g, f, m, p, o, h⟩ := s.framed_writes u; rw [h]

@[simp] theorem State.slice_framed (s u : State) (k : Nat) : (s.framed u).slice k = u.slice k := by simp [State.slice]

@[simp] theorem State.slice_cntSlice (s : State) (j code : Nat) (vfi : Option Nat) (n k : Nat) :
    (s.cntSlice j code vfi n).slice k = s.slice k := rfl

@[simp] theorem State.slice_record (s : State) (cause island t64 : Nat) (fields : List (Nat × Nat)) (k : Nat) :
    (s.record cause island t64 fields).slice k = s.slice k := by simp [State.slice]

@[simp] theorem State.backWrite_home (s : State) (k line : Nat) (t : Target) (d : BitVec 512) (mask : BitVec 64) (p : Bool)
    (vfi : Nat) : (s.backWrite k line t d mask p vfi).home = s.home := by
  unfold State.backWrite
  dsimp only
  split
  · obtain ⟨m, p, h⟩ := State.memSubmit_writes (s.cntSlice k 0x8D) _; rw [h]; rfl
  · rfl

@[simp] theorem State.slice_backWrite (s : State) (k line : Nat) (t : Target) (d : BitVec 512) (mask : BitVec 64) (p : Bool)
    (vfi j : Nat) : (s.backWrite k line t d mask p vfi).slice j = s.slice j := by simp [State.slice]

@[simp] theorem State.chnOf_cntSlice (s : State) (j code : Nat) (vfi : Option Nat) (n : Nat) (m : Msg) :
    (s.cntSlice j code vfi n).chnOf m = s.chnOf m := rfl

@[simp] theorem State.chnOf_modSlice (s : State) (k : Nat) (f : SliceSt → SliceSt) (m : Msg) :
    (s.modSlice k f).chnOf m = s.chnOf m := rfl

/-- What is written to a slice depends on what it holds alone. -/
theorem State.modSlice_congr {s : State} {k : Nat} {f g : SliceSt → SliceSt} (h : f (s.slice k) = g (s.slice k)) :
    s.modSlice k f = s.modSlice k g := by rw [State.modSlice, h, State.modSlice]

/-! ### Transactions -/

theorem State.id_of_txn {s : State} {k id : Nat} {t : Txn} (h : s.txn k id = some t) : t.id = id := by
  simpa using List.find?_some h

@[simp] theorem State.txn_cntSlice (s : State) (j code : Nat) (vfi : Option Nat) (n k id : Nat) :
    (s.cntSlice j code vfi n).txn k id = s.txn k id := rfl

theorem find?_map_changed {l : List Txn} {id : Nat} {t : Txn} {f : Txn → Txn} (h : l.find? (·.id == id) = some t)
    (hid : (f t).id = id) : (l.map fun t => if t.id = id then f t else t).find? (·.id == id) = some (f t) := by
  induction l with
  | nil => exact nomatch h
  | cons a l ih =>
    by_cases ha : a.id = id
    · obtain rfl : a = t := by simpa [ha] using h
      simp [ha, hid]
    · have hl : l.find? (·.id == id) = some t := by simpa [ha] using h
      simpa [ha] using ih hl

/-- A transaction after a change that keeps its number. -/
theorem State.txn_modTxn {s : State} {k id : Nat} {t : Txn} {f : Txn → Txn} (h : s.txn k id = some t) (hid : (f t).id = id) :
    (s.modTxn k id f).txn k id = some (f t) := by
  rw [State.txn, State.modTxn, State.slice_modSlice_self]
  exact find?_map_changed h hid

/-- A transaction that is alone with its number is changed as any other change changes it. -/
theorem State.modTxn_congr {s : State} {k id : Nat} {t : Txn} {f g : Txn → Txn}
    (halone : ∀ y ∈ (s.slice k).txns, y.id = id → y = t) (h : f t = g t) : s.modTxn k id f = s.modTxn k id g := by
  refine State.modSlice_congr ?_
  have hmap : ((s.slice k).txns.map fun t => if t.id = id then f t else t) =
      (s.slice k).txns.map fun t => if t.id = id then g t else t := by
    refine List.map_congr_left fun y hy => ?_
    split
    next hid => rw [halone y hy hid, h]
    · rfl
  simp only [hmap]

/-! ### What keeps a transaction open -/

section
variable {s : State} {k id : Nat} {t : Txn} (ht : s.txn k id = some t)
include ht

/-- A transaction with hosts awaited stays open. -/
theorem State.tryClose_of_await (h : t.await ≠ []) : s.tryClose k id = s := by
  have hready : s.finishIfReady k id = s := by simp [State.finishIfReady, ht, h]
  simp only [State.tryClose, ht]
  cases hkind : t.kind <;> simp [h, hready]

/-- A request that needs data and has none stays open. -/
theorem State.tryClose_of_dataless (hkind : t.kind = .request) (hrec : t.recover = false) (hneed : t.needData = true)
    (hdata : t.data = none) : s.tryClose k id = s := by
  simp [State.tryClose, State.finishIfReady, ht, hkind, hrec, hneed, hdata]

end

end Sys2Proof.Machine
end

section
/-!
PROOFS. Snoop responses and conflicts at a home slice (R151, R152, R154, R159).
-/

namespace Sys2Proof.Machine

/-- What a BIRsp that its snoop does not allow leaves before it is taken: a count, a flag and a record. -/
def State.protocolError (s : State) (k line c code sent : Nat) : State :=
  (s.modSlice k fun x => { x with protoErr := satAdd 32 x.protoErr 1, err := x.err ||| 16 }).record 0x07 (sliceIsland k)
    s.now64 [(8, line * 64), (2, c), (1, code), (1, sent)]

@[simp] theorem State.slice_protocolError (s : State) (k line c code sent : Nat) :
    (s.protocolError k line c code sent).slice k =
      { s.slice k with protoErr := satAdd 32 (s.slice k).protoErr 1, err := (s.slice k).err ||| 16 } := by
  simp [State.protocolError]

@[simp] theorem State.txn_protocolError (s : State) (k line c code sent id : Nat) :
    (s.protocolError k line c code sent).txn k id = s.txn k id := by
  simp [State.protocolError, State.txn]

/-- What the check of a BIRsp against its snoop leaves (R151). -/
def State.responseChecked (s : State) (k : Nat) (m : Msg) (c : Nat) (sn : Snoop) : State :=
  if (readAnswer sn m.kind).2 then s
  else s.protocolError k (m.addr.toNat / 64) c (match m.kind with | .biRspS => 1 | .biRspE => 2 | _ => 0)
    (match sn with | .data => 1 | .cur => 2 | _ => 0)

theorem State.responseChecked_of_allowed {s : State} {k : Nat} {m : Msg} {c : Nat} {sn : Snoop}
    (h : (readAnswer sn m.kind).2 = true) : s.responseChecked k m c sn = s := if_pos h

/-- A response that its snoop does not allow is counted as a protocol error (R151). -/
theorem State.slice_responseChecked_of_refused {s : State} {k : Nat} {m : Msg} {c : Nat} {sn : Snoop}
    (h : (readAnswer sn m.kind).2 ≠ true) : (s.responseChecked k m c sn).slice k =
      { s.slice k with protoErr := satAdd 32 (s.slice k).protoErr 1, err := (s.slice k).err ||| 16 } :=
  (congrArg (State.slice · k) (if_neg h)).trans (State.slice_protocolError ..)

@[simp] theorem State.txn_responseChecked (s : State) (k : Nat) (m : Msg) (c : Nat) (sn : Snoop) (id : Nat) :
    (s.responseChecked k m c sn).txn k id = s.txn k id := by
  unfold State.responseChecked
  split <;> simp

@[simp] theorem State.txns_responseChecked (s : State) (k : Nat) (m : Msg) (c : Nat) (sn : Snoop) :
    ((s.responseChecked k m c sn).slice k).txns = (s.slice k).txns := by
  unfold State.responseChecked
  split <;> simp

section
variable {s : State} {k : Nat} {m : Msg}

theorem State.birsp_of_stopped (hrun : (s.slice k).running = false) : s.birsp k m = s := by
  simp [State.birsp, hrun]

theorem State.biconflict_of_stopped (hrun : (s.slice k).running = false) : s.biconflict k m = s := by
  simp [State.biconflict, hrun]

variable (hrun : (s.slice k).running = true)
include hrun

theorem State.birsp_of_lost (hlost : s.fromLost m = true) :
    s.birsp k m = s.modSlice k fun x => { x with lossDiscard := satAdd 16 x.lossDiscard 1 } := by
  simp [State.birsp, hrun, hlost]

theorem State.biconflict_of_lost (hlost : s.fromLost m = true) :
    s.biconflict k m = s.modSlice k fun x => { x with lossDiscard := satAdd 16 x.lossDiscard 1 } := by
  simp [State.biconflict, hrun, hlost]

variable (hlost : s.fromLost m = false)
include hlost

theorem State.birsp_of_unknown (hchn : s.chnOf m = none) :
    s.birsp k m = (s.cntSlice k 0x88).modSlice k fun x => { x with lateBirsp := x.lateBirsp + 1 } := by
  simp [State.birsp, hrun, hlost, hchn]

theorem State.birsp_of_late {c : Nat} (hchn : s.chnOf m = some c)
    (hnone : (s.slice k).txns.find? (fun t => t.line == m.addr.toNat / 64 && t.await.contains c) = none) :
    s.birsp k m = (s.cntSlice k 0x88).modSlice k fun x => { x with lateBirsp := x.lateBirsp + 1 } := by
  simp only [State.birsp, hrun, hlost, Bool.not_true, Bool.false_eq_true, if_false, State.chnOf_cntSlice, hchn,
    State.slice_cntSlice, hnone]

/-- A response of a host that is not the owner, with other hosts awaited: it takes the host off the list, whatever else it
would set stays as it is, and the transaction waits on. -/
theorem State.birsp_of_awaited {c : Nat} {t : Txn} (hchn : s.chnOf m = some c)
    (hfind : (s.slice k).txns.find? (fun t => t.line == m.addr.toNat / 64 && t.await.contains c) = some t)
    (howner : t.owner ≠ some c) (hmore : ∃ d ∈ t.await, d ≠ c) (htxn : s.txn k t.id = some t)
    (halone : ∀ y ∈ (s.slice k).txns, y.id = t.id → y = t) :
    s.birsp k m = ((s.cntSlice k 0x88).responseChecked k m c t.snoop).modTxn k t.id
      fun t => { t with await := t.await.filter (· != c) } := by
  have hleft : t.await.filter (· != c) ≠ [] := by
    obtain ⟨d, hd, hne⟩ := hmore
    exact List.ne_nil_of_mem (List.mem_filter.mpr ⟨hd, by simpa using hne⟩)
  have hmine : (t.owner == some c) = false := by simpa using howner
  simp only [State.birsp, hrun, hlost, Bool.not_true, Bool.false_eq_true, if_false, State.chnOf_cntSlice, hchn,
    State.slice_cntSlice, hfind, hmine, Bool.false_and, Bool.or_false]
  change ((((s.cntSlice k 0x88).responseChecked k m c t.snoop).modTxn k t.id fun t => { t with
    await := t.await.filter (· != c), snoopEnd := if t.await.filter (· != c) = [] then none else t.snoopEnd }).tryClose
      k t.id) = _
  rw [State.modTxn_congr (t := t) (g := fun t => { t with await := t.await.filter (· != c) }) (by simpa using halone)
    (by simp only [if_neg hleft])]
  exact State.tryClose_of_await (State.txn_modTxn (by simpa using htxn) rfl) hleft

end

/-- A conflict in a slice without transactions is acknowledged at once (R154). -/
theorem State.biconflict_of_empty {s : State} {k : Nat} {m : Msg} (hrun : (s.slice k).running = true)
    (hlost : s.fromLost m = false) (h : (s.slice k).txns = []) :
    s.biconflict k m =
      (s.modSlice k fun x => { x with conflictCount := satAdd 32 x.conflictCount 1 }).conflictAck k m m.tag := by
  simp [State.biconflict, hrun, hlost, h]

/-- A conflict with the host's own request, the only transaction, is kept for its close (R154). -/
theorem State.biconflict_of_own {s : State} {k c : Nat} {m : Msg} {t : Txn} (hrun : (s.slice k).running = true)
    (hlost : s.fromLost m = false) (h : (s.slice k).txns = [t]) (hline : t.line = m.addr.toNat / 64)
    (hkind : t.kind = .request) (hread : t.storeRead = false) (hrec : t.recover = false) (hown : t.chn = some c)
    (hchn : s.chnOf m = some c) :
    s.biconflict k m = (s.modSlice k fun x => { x with conflictCount := satAdd 32 x.conflictCount 1 }).modTxn k t.id
      fun t => { t with ack := some m.tag } := by
  simp [State.biconflict, hrun, hlost, h, hline, hkind, hread, hrec, hown, hchn]

theorem exec_birsp (k : Slice) (m : Msg) (s : State) : exec (.birsp k m) s = act s (·.birsp k m) := rfl

theorem exec_biconflict (k : Slice) (m : Msg) (s : State) : exec (.biconflict k m) s = act s (·.biconflict k m) := rfl

/-- An invalidating snoop allows BIRspI alone. -/
theorem readAnswer_inv (kind : MsgKind) :
    (readAnswer .inv kind).2 = true ↔ (match kind with | .biRspS => 1 | .biRspE => 2 | _ => 0) = 0 := by
  cases kind <;> decide

theorem snoopResponsesAreTaken : Claims.SnoopResponsesAreTaken := by
  intro k m c t s h x line awaits code
  refine ⟨fun hrun => ⟨acts_of_act (exec_birsp k m s) h (State.birsp_of_stopped hrun),
      acts_of_act (exec_biconflict k m s) h (State.biconflict_of_stopped hrun)⟩,
    fun hrun hlost => ⟨acts_of_act (exec_birsp k m s) h (State.birsp_of_lost hrun hlost),
      acts_of_act (exec_biconflict k m s) h (State.biconflict_of_lost hrun hlost)⟩,
    fun hrun hlost hchn hnone => acts_of_act (exec_birsp k m s) h (State.birsp_of_late hrun hlost hchn hnone),
    fun hrun hlost hchn => acts_of_act (exec_birsp k m s) h (State.birsp_of_unknown hrun hlost hchn),
    fun hrun hlost hchn hfind hsn hcode howner hmore htxn halone => acts_of_act (exec_birsp k m s) h ?_,
    fun hrun hlost hchn hfind hsn hcode howner hmore htxn halone => ?_,
    fun hrun hlost hempty => acts_of_act (exec_biconflict k m s) h (State.biconflict_of_empty hrun hlost hempty),
    fun hrun hlost hone hline hkind hread hrec hown hchn => acts_of_act (exec_biconflict k m s) h
      (State.biconflict_of_own hrun hlost hone hline hkind hread hrec hown hchn), rfl, rfl, rfl, rfl, rfl⟩
  · rw [State.birsp_of_awaited hrun hlost hchn hfind howner hmore htxn halone,
      State.responseChecked_of_allowed (by rw [hsn]; exact (readAnswer_inv _).mpr hcode)]
  · refine ⟨_, (exec_birsp k m s).trans (act_running h _), ?_⟩
    rw [State.slice_framed, State.birsp_of_awaited hrun hlost hchn hfind howner hmore htxn halone, State.modTxn,
      State.slice_modSlice_self,
      State.slice_responseChecked_of_refused (by rw [hsn]; exact fun hok => hcode ((readAnswer_inv _).mp hok)),
      State.slice_cntSlice]

end Sys2Proof.Machine
end


section
/-!
PROOFS. What backing memory answers (R149, R182, R184): read data, and the acknowledgement of a write.
-/

namespace Sys2Proof.Machine

/-! ### Read data -/

section
variable {s : State} {k id : Nat} {d : BitVec 512} {p : Bool}

theorem State.backingRead_of_idle {t : Txn} (ht : s.txn k id = some t) (h : t.reading = false) :
    s.backingRead k id d p = s := by
  simp [State.backingRead, ht, h]

/-- A change that gives a transaction data, and leaves it waiting for hosts. -/
theorem State.tryClose_of_awaiting {t : Txn} {f : Txn → Txn} (ht : s.txn k id = some t) (hid : (f t).id = t.id)
    (h : (f t).await ≠ []) : (s.modTxn k id f).tryClose k id = s.modTxn k id f :=
  State.tryClose_of_await (State.txn_modTxn ht (hid.trans (State.id_of_txn ht))) h

theorem State.backingRead_of_awaiting {t : Txn} (ht : s.txn k id = some t) (hread : t.reading = true)
    (hmove : ∀ i, t.kind ≠ .move i) (h : t.await ≠ []) :
    s.backingRead k id d p = s.modTxn k id fun y =>
      { y with reading := false, readEnd := none, data := y.data <|> some (s.overlaid k t d p) } := by
  simp only [State.backingRead, ht, hread, Bool.not_true, Bool.false_eq_true, if_false]
  exact State.tryClose_of_awaiting ht rfl h

theorem State.backingRead_of_unknown (ht : s.txn k id = none) (h : ∀ o ∈ (s.slice k).orphans, o.1 ≠ id) :
    s.backingRead k id d p = s := by
  have hfind : (s.slice k).orphans.find? (fun o => o.1 == id) = none := by simpa using h
  simp only [State.backingRead, ht, hfind]

/-- An answer to a closed transaction of a placement that is gone goes, and counts. -/
theorem State.backingRead_of_unplaced {o : Nat × Nat × Nat} (ht : s.txn k id = none)
    (h : (s.slice k).orphans.find? (fun o => o.1 == id) = some o) (hplace : s.placeOf o.2.1 = none) :
    s.backingRead k id d p = s.modSlice k fun x =>
      { x with orphans := x.orphans.erase o, oldDiscard := satAdd 32 x.oldDiscard 1 } := by
  simp only [State.backingRead, ht, h, hplace, if_true]

/-- An answer to a closed transaction goes, and counts where its placement has another generation by now. -/
theorem State.backingRead_of_placed {o : Nat × Nat × Nat} {i : Nat} {q : Placement} (ht : s.txn k id = none)
    (h : (s.slice k).orphans.find? (fun o => o.1 == id) = some o) (hplace : s.placeOf o.2.1 = some (i, q)) :
    s.backingRead k id d p = s.modSlice k fun x =>
      { x with orphans := x.orphans.erase o
               oldDiscard := if q.gen = o.2.2 then x.oldDiscard else satAdd 32 x.oldDiscard 1 } := by
  simp only [State.backingRead, ht, h, hplace, bne_iff_ne, ne_eq, ite_not]

end

/-! ### The bytes over the data -/

@[simp] theorem byteMask_zero : byteMask 0#64 = 0#512 := by decide +kernel

/-- No byte laid over the data leaves it. -/
@[simp] theorem overlay_zero (a b : BitVec 512) : overlay a b 0#64 = a := by
  rw [overlay, if_neg (by decide), byteMask_zero, BitVec.and_zero, BitVec.or_zero, BitVec.not_zero, BitVec.and_allOnes]

theorem SliceSt.bufView_of_empty {x : SliceSt} {line : Nat} (hbuf : x.buffered line = none)
    (hwait : ∀ w ∈ x.wwait, w.line ≠ line) : x.bufView line = (0, 0, false) := by
  have hnone : x.wwait.filter (·.line == line) = [] := by simpa using hwait
  simp only [SliceSt.bufView, hbuf, hnone, List.map_nil, overWrites, List.foldl_nil]

/-- With nothing buffered, read data is under the bytes buffered when the read was issued. -/
theorem State.overlaid_of_empty {s : State} {k : Nat} {t : Txn} {d : BitVec 512} {p : Bool}
    (hbuf : (s.slice k).buffered t.line = none) (hwait : ∀ w ∈ (s.slice k).wwait, w.line ≠ t.line) :
    s.overlaid k t d p = (overlay d t.overData t.overMask,
      if t.overMask = BitVec.allOnes 64 then t.overPoison else p || t.overPoison) := by
  simp [State.overlaid, SliceSt.bufView_of_empty hbuf hwait, overWrites]

/-! ### A write's acknowledgement -/

theorem WEntry.next_of_last {e : WEntry} (hlater : e.later = 0) (hparts : e.parts = []) : e.next = none := by
  simp [WEntry.next, hlater, hparts]

/-- Bytes that came since a first issue follow with those of the write itself. -/
theorem WEntry.next_of_later {e : WEntry} (hlater : e.later ≠ 0) (hcopy : e.copyEpoch = none) (hre : e.reissued = false) :
    e.next = some e := by
  have hsame : { e with copyEpoch := none } = e := by rw [← hcopy]
  rw [WEntry.next, if_pos hlater, if_neg (by simp [hre]), hsame]

/-- With no byte since, those for the next target follow. -/
theorem WEntry.next_of_parts {e : WEntry} {y : WPart} {l : List WPart} (hlater : e.later = 0) (hparts : e.parts = y :: l) :
    e.next = some { data := y.data, mask := y.mask, poison := y.poison, gen := y.gen, tgt := y.tgt
                    copyEpoch := y.copyEpoch, vfi := y.vfi, parts := l } := by
  simp [WEntry.next, hlater, hparts]

section
variable {s : State} {k line : Nat}

theorem State.zeroLine_of_none (h : s.zeroEntry k (line / 64) = none) : s.zeroLine k line = s := by
  simp [State.zeroLine, h]

theorem State.zeroEntry_setBuf (e : Option WEntry) (page : Nat) : (s.setBuf k line e).zeroEntry k page = s.zeroEntry k page := by
  simp [State.zeroEntry, State.setBuf]

theorem State.drainWaits_of_empty (h : (s.slice k).wwait = []) (n : Nat) : s.drainWaits n k = s := by
  cases n <;> simp [State.drainWaits, h]

/-- A write with nothing after it leaves its place in the buffer. -/
theorem State.bufFreed_of_last (hzero : s.zeroEntry k (line / 64) = none) (hwait : (s.slice k).wwait = [])
    (hmove : ∀ y ∈ (s.slice k).txns, y.line = line → y.settling = false) : s.bufFreed k line = s.setBuf k line none := by
  have hfind : ((s.setBuf k line none).slice k).txns.find? (fun t => t.line == line && t.settling) = none := by
    simpa [State.setBuf] using hmove
  have hnone : (s.setBuf k line none).zeroEntry k (line / 64) = none := by rwa [State.zeroEntry_setBuf]
  simp only [State.bufFreed, State.zeroLine_of_none hnone,
    State.drainWaits_of_empty (s := s.setBuf k line none) (k := k) (by simpa [State.setBuf] using hwait), hfind]

theorem State.zeroEntry_bufIssue (e : WEntry) (page : Nat) : (s.bufIssue k line e).zeroEntry k page = s.zeroEntry k page := by
  simp [State.zeroEntry, State.bufIssue, State.setBuf]

/-- The end of a write that is no copy's and has bytes after it issues those. -/
theorem State.writeEnd_of_next {e e' : WEntry} (hcopy : e.copyEpoch = none) (hnext : e.next = some e')
    (hzero : s.zeroEntry k (line / 64) = none) : s.writeEnd k line e = s.bufIssue k line e' := by
  have hline : (s.bufIssue k line e').zeroLine k line = s.bufIssue k line e' :=
    State.zeroLine_of_none (by rwa [State.zeroEntry_bufIssue])
  simp only [State.writeEnd, State.settleCopy, hcopy, hnext, hline, ite_self]

theorem State.writeEnd_of_last {e : WEntry} (hcopy : e.copyEpoch = none) (hnext : e.next = none) :
    s.writeEnd k line e = s.bufFreed k line := by
  simp only [State.writeEnd, State.settleCopy, hcopy, hnext]

theorem State.writeAck_of_none (h : (s.slice k).buffered line = none) : s.writeAck k line = s := by
  simp [State.writeAck, h]

theorem State.writeAck_of_entry {e : WEntry} (h : (s.slice k).buffered line = some e) :
    s.writeAck k line = s.writeEnd k line e := by
  simp [State.writeAck, h]

end

theorem exec_backingReadResponse (k : Slice) (id' : Nat) (d : BitVec 512) (p : Bool) (s : State) :
    exec (.backingReadResponse k id' d p) s = act s (·.backingRead k id' d p) := rfl

theorem exec_backingWriteAck (k : Slice) (line : Line56) (s : State) :
    exec (.backingWriteAck k line) s = act s (·.writeAck k line) := rfl

theorem backingAnswersArrive : Claims.BackingAnswersArrive := by
  intro k id' d p line t e s h x expiry
  have hread := exec_backingReadResponse k id' d p s
  have hack := exec_backingWriteAck k line s
  refine ⟨fun ht hr hm ha => acts_of_act hread h (State.backingRead_of_awaiting ht hr hm ha),
    fun hbuf hwait hmask hpoison => ?_, fun hbuf hwait => ?_,
    fun ht hr => acts_of_act hread h (State.backingRead_of_idle ht hr),
    fun ht ho => acts_of_act hread h (State.backingRead_of_unknown ht ho),
    fun o ht ho hplace => acts_of_act hread h (State.backingRead_of_unplaced ht ho hplace),
    fun o i q ht ho hplace => acts_of_act hread h (State.backingRead_of_placed ht ho hplace),
    fun hbuf => acts_of_act hack h (State.writeAck_of_none hbuf),
    fun hbuf hcopy hlater hparts hzero hwait hmove => acts_of_act hack h ?_,
    fun hbuf hcopy hlater hre hzero => acts_of_act hack h ?_,
    fun y l hbuf hcopy hlater hparts hzero => acts_of_act hack h ?_⟩
  · rw [State.overlaid_of_empty hbuf hwait, hmask, hpoison]
    simp
  · rw [State.overlaid_of_empty hbuf hwait]
  · rw [State.writeAck_of_entry hbuf, State.writeEnd_of_last hcopy (WEntry.next_of_last hlater hparts),
      State.bufFreed_of_last hzero hwait hmove]
  · rw [State.writeAck_of_entry hbuf, State.writeEnd_of_next hcopy (WEntry.next_of_later hlater hcopy hre) hzero,
      State.bufIssue, ← hre]
  · rw [State.writeAck_of_entry hbuf, State.writeEnd_of_next hcopy (WEntry.next_of_parts hlater hparts) hzero]
    rfl

end Sys2Proof.Machine
end


section
/-!
PROOFS. The home's timeouts (R156, R157) and its queues (R138, R148, R173).
-/

namespace Sys2Proof.Machine

@[simp] theorem State.now64_modSlice (s : State) (k : Nat) (f : SliceSt → SliceSt) : (s.modSlice k f).now64 = s.now64 := rfl

/-! ### Timeouts of a transaction -/

section
variable {s : State} {k id : Nat}

theorem State.snoopTimeout_of_none (ht : s.txn k id = none) : s.snoopTimeout k id = s := by simp [State.snoopTimeout, ht]

theorem State.wbTimeout_of_none (ht : s.txn k id = none) : s.wbTimeout k id = s := by simp [State.wbTimeout, ht]

theorem State.readTimeout_of_none (ht : s.txn k id = none) : s.readTimeout k id = s := by simp [State.readTimeout, ht]

variable {t : Txn} (ht : s.txn k id = some t)
include ht

theorem State.snoopTimeout_of_early (h : s.due t.snoopEnd = false) : s.snoopTimeout k id = s := by
  simp [State.snoopTimeout, ht, h]

theorem State.wbTimeout_of_early (h : s.due t.wbEnd = false) : s.wbTimeout k id = s := by simp [State.wbTimeout, ht, h]

theorem State.readTimeout_of_early (h : s.due t.readEnd = false) : s.readTimeout k id = s := by
  simp [State.readTimeout, ht, h]

/-- The records of the hosts that a transaction awaited in vain. -/
def State.silentRecords (s : State) (k : Nat) (t : Txn) : State :=
  t.await.foldl (fun s c => s.record 0x01 (sliceIsland k) s.now64
    [(8, t.line * 64), (2, c), (1, if t.before = 2 then 2 else 1)]) s

omit ht in
@[simp] theorem State.slice_silentRecords (s : State) (k : Nat) (t : Txn) (j : Nat) :
    (s.silentRecords k t).slice j = s.slice j :=
  State.foldl_keeps (·.slice j) (fun s _ => s.slice_record ..) _ s

/-- Silent hosts of a read that none owns count as having let go; without data the read stays open. -/
theorem State.snoopTimeout_of_silent (hdue : s.due t.snoopEnd = true) (hawait : t.await ≠ []) (howner : t.owner = none)
    (hkind : t.kind = .request) (hrec : t.recover = false) (hneed : t.needData = true) (hdata : t.data = none) :
    s.snoopTimeout k id = ((s.modSlice k fun x => { x with
      snoopToCount := satAdd 32 x.snoopToCount 1, err := x.err ||| 1 }).silentRecords k t).modTxn k id fun y =>
        { y with await := [], snoopEnd := none } := by
  have hopen : (((s.modSlice k fun x => { x with
      snoopToCount := satAdd 32 x.snoopToCount 1, err := x.err ||| 1 }).silentRecords k t)).txn k id = some t := by
    simpa [State.txn] using ht
  have hid : t.id = id := State.id_of_txn ht
  simp only [State.snoopTimeout, ht, hdue, hawait, howner, Bool.not_true, Bool.or_false, decide_false, Bool.false_eq_true,
    if_false, Bool.false_and]
  exact State.tryClose_of_dataless (State.txn_modTxn hopen hid) hkind hrec hneed hdata

/-- A writeback that does not come: the filter takes its line and its owner, the line is poisoned, and the transaction goes on
without it. -/
theorem State.wbTimeout_of_due (howed : t.wbOwed = true) (hdue : s.due t.wbEnd = true) : s.wbTimeout k id =
    (((((s.modSlice k fun x =>
      let f := x.filter ++ [(t.line, t.owner.getD 0, s.clock + us16 (10 * x.wbTo))]
      { x with wbToCount := satAdd 32 x.wbToCount 1, err := x.err ||| 2
               filter := if 64 < f.length then f.drop 1 else f }).record 0x02 (sliceIsland k) s.now64
        [(8, t.line * 64), (2, t.owner.getD 0)]).poisonLine k t.line none
          (if t.placed then some (t.tgt, t.gen) else none) t.charged).modTxn k id fun t =>
          { t with wbOwed := false, wbEnd := none, data := if t.needData then some (0, true) else t.data })).tryClose k id := by
  simp only [State.wbTimeout, ht, howed, hdue, Bool.not_true, Bool.or_false, Bool.false_eq_true, if_false]
  rfl

/-- An overdue read, of no move, that still awaits hosts has poison for its data. -/
theorem State.readTimeout_of_awaiting (hread : t.reading = true) (hdue : s.due t.readEnd = true)
    (hmove : ∀ i, t.kind ≠ .move i) (hawait : t.await ≠ []) : s.readTimeout k id =
    ((s.modSlice k fun x => { x with err := x.err ||| 4, orphans := x.orphans ++ [(t.id, t.line, t.gen)] }).record 0x03
      (sliceIsland k) s.now64 [(8, t.line * 64), (2, t.tgt.code)]).modTxn k id fun t =>
        { t with reading := false, readEnd := none, data := t.data <|> some (0, true) } := by
  simp only [State.readTimeout, ht, hread, hdue, Bool.not_true, Bool.or_false, Bool.false_eq_true, if_false]
  exact State.tryClose_of_awaiting (by simpa [State.txn] using ht) rfl hawait

end

/-! ### Timeouts of a write -/

section
variable {s : State} {k line : Nat}

theorem State.writeTimeout_of_none (h : (s.slice k).buffered line = none) : s.writeTimeout k line = s := by
  simp [State.writeTimeout, h]

variable {e : WEntry} (h : (s.slice k).buffered line = some e)
include h

theorem State.writeTimeout_of_early (hearly : s.clock < e.ackEnd) : s.writeTimeout k line = s := by
  simp [State.writeTimeout, h, hearly]

/-- The flag and the record of a write that expired. -/
def State.writeExpired (s : State) (k line : Nat) (e : WEntry) : State :=
  (s.modSlice k fun x => { x with err := x.err ||| 4 }).record 0x04 (sliceIsland k) s.now64
    [(8, line * 64), (2, e.tgt.code), (1, bit e.reissued)]

theorem State.writeTimeout_of_first (hdue : e.ackEnd ≤ s.clock) (hre : e.reissued = false) : s.writeTimeout k line =
    ((s.writeExpired k line e).setBuf k line (some { e with reissued := true, ackEnd := s.clock + us16 (s.slice k).memTo
      })).backWrite k line e.tgt 0 (BitVec.allOnes 64) true e.vfi := by
  simp [State.writeTimeout, h, hdue.not_gt, State.writeExpired, hre]

theorem State.writeTimeout_of_second (hdue : e.ackEnd ≤ s.clock) (hre : e.reissued = true) :
    s.writeTimeout k line = (s.writeExpired k line e).writeEnd k line e := by
  simp [State.writeTimeout, h, hdue.not_gt, State.writeExpired, hre]

end

theorem homeTimeouts : Claims.HomeTimeouts := by
  intro k id' line t e s h x expired
  have hsnoop : exec (.snoopTimeout k id') s = act s (·.snoopTimeout k id') := rfl
  have hwb : exec (.wbTimeout k id') s = act s (·.wbTimeout k id') := rfl
  have hread : exec (.memReadTimeout k id') s = act s (·.readTimeout k id') := rfl
  have hwrite : exec (.memWriteTimeout k line) s = act s (·.writeTimeout k line) := rfl
  have hfilter : exec (.lateWbFilterExpiry k) s = act s (·.filterExpiry k) := rfl
  refine ⟨fun ht => ⟨acts_of_act hsnoop h (State.snoopTimeout_of_none ht), acts_of_act hwb h (State.wbTimeout_of_none ht),
      acts_of_act hread h (State.readTimeout_of_none ht)⟩,
    fun ht hearly => acts_of_act hsnoop h (State.snoopTimeout_of_early ht hearly),
    fun ht hdue hawait howner hkind hrec hneed hdata => ⟨_, hsnoop.trans (act_running h _), ?_⟩,
    fun ht hearly => acts_of_act hwb h (State.wbTimeout_of_early ht hearly),
    fun ht howed hdue => acts_of_act hwb h (State.wbTimeout_of_due ht howed hdue),
    fun ht hearly => acts_of_act hread h (State.readTimeout_of_early ht hearly),
    fun ht hreading hdue hmove hawait => ⟨_, hread.trans (act_running h _), ?_⟩,
    fun hnone => acts_of_act hwrite h (State.writeTimeout_of_none hnone),
    fun hbuf hearly => acts_of_act hwrite h (State.writeTimeout_of_early hbuf hearly),
    fun hbuf hdue hre => acts_of_act hwrite h (State.writeTimeout_of_first hbuf hdue hre),
    fun hbuf hdue hre => acts_of_act hwrite h (State.writeTimeout_of_second hbuf hdue hre),
    acts_of_act hfilter h rfl⟩
  · rw [State.slice_framed, State.snoopTimeout_of_silent ht hdue hawait howner hkind hrec hneed hdata, State.modTxn,
      State.slice_modSlice_self, State.slice_silentRecords, State.slice_modSlice_self]
  · rw [State.slice_framed, State.readTimeout_of_awaiting ht hreading hdue hmove hawait, State.modTxn,
      State.slice_modSlice_self, State.slice_record, State.slice_modSlice_self]

/-! ### The first of the waiting requests -/

/-- The earlier of two waiting requests. -/
def State.firstOf (s : State) (m : Option Waiter) (w : Waiter) : Option Waiter :=
  match m with
  | none => some w
  | some x => if s.waitFirst w x then some w else some x

/-- The first of a list is found from none on, one request after the other. -/
theorem State.firstWaiter_eq (s : State) (l : List Waiter) : s.firstWaiter l = l.foldl s.firstOf none := rfl

/-- A request that comes first has no greater stamp than one it comes before, and no less than one that it comes after. -/
theorem State.stamp_le_of_waitFirst {s : State} {a b : Waiter} :
    (s.waitFirst a b = true → s.stampOf a.msg ≤ s.stampOf b.msg) ∧
      (s.waitFirst a b = false → s.stampOf b.msg ≤ s.stampOf a.msg) := by
  simp only [State.waitFirst, Bool.or_eq_true, Bool.and_eq_true, decide_eq_true_eq, beq_iff_eq, Bool.or_eq_false_iff,
    decide_eq_false_iff_not]
  omega

/-- What is found from one request on is that request or one of the list, and none has a lesser stamp. -/
theorem State.foldl_firstOf_some {s : State} (l : List Waiter) (v w : Waiter) (h : l.foldl s.firstOf (some v) = some w) :
    (w = v ∨ w ∈ l) ∧ s.stampOf w.msg ≤ s.stampOf v.msg ∧ ∀ y ∈ l, s.stampOf w.msg ≤ s.stampOf y.msg := by
  induction l generalizing v with
  | nil =>
    obtain rfl : v = w := by simpa using h
    simp
  | cons a l ih =>
    obtain ⟨hless, hmore⟩ := State.stamp_le_of_waitFirst (s := s) (a := a) (b := v)
    rw [List.foldl_cons, State.firstOf] at h
    split at h
    next hfirst =>
      obtain ⟨hmem, hle, hall⟩ := ih a h
      exact ⟨.inr (List.mem_cons.mpr hmem), hle.trans (hless hfirst), by simpa using ⟨hle, hall⟩⟩
    next hlast =>
      obtain ⟨hmem, hle, hall⟩ := ih v h
      exact ⟨hmem.imp_right (List.mem_cons_of_mem a), hle, by
        simpa using ⟨hle.trans (hmore (by simpa using hlast)), hall⟩⟩

/-- The first of the waiting requests is one of them, and none has a lesser stamp (R148). -/
theorem State.firstWaiter_least {s : State} {l : List Waiter} {w : Waiter} (h : s.firstWaiter l = some w) :
    w ∈ l ∧ ∀ y ∈ l, s.stampOf w.msg ≤ s.stampOf y.msg := by
  rw [State.firstWaiter_eq] at h
  cases l with
  | nil => exact nomatch h
  | cons a l =>
    obtain ⟨hmem, hle, hall⟩ := State.foldl_firstOf_some l a w h
    exact ⟨List.mem_cons.mpr hmem, by simpa using ⟨hle, hall⟩⟩

/-! ### WAIT_LIST_TAKE -/

section
variable {s : State} {k line : Nat}

theorem State.waitTake_of_blocked (h : (s.slice k).blocked line = true) : s.waitTake k line = s := by simp [State.waitTake, h]

variable (hfree : (s.slice k).blocked line = false)
include hfree

theorem State.waitTake_of_none (h : ∀ y ∈ (s.slice k).waits, y.line ≠ line) : s.waitTake k line = s := by
  have hnone : (s.slice k).waits.filter (·.line == line) = [] := by simpa using h
  simp [State.waitTake, hfree, hnone, State.firstWaiter]

variable {w : Waiter} (hfirst : s.firstWaiter ((s.slice k).waits.filter (·.line == line)) = some w) (hkind : w.kind = .request)
include hfirst hkind

theorem State.waitTake_of_request (hroom : classOf w.msg ≠ .wr ∨ (s.slice k).room line = true) :
    s.waitTake k line = ((s.setSlice k { s.slice k with waits := (s.slice k).waits.erase w }).cntSlice k 0x84 none
      ((s.clock - w.since) / 8)).decideOrWait k w := by
  have hgo : (classOf w.msg == .wr && !(s.slice k).room line) = false := by
    rcases hroom with hclass | hroom <;> simp [*]
  simp only [State.waitTake, hfree, hfirst, hkind, SliceSt.reserveFull, beq_self_eq_true, Bool.true_and, hgo,
    Bool.false_eq_true, if_false, Bool.or_false, State.begin]
  rfl

theorem State.waitTake_of_full (hclass : classOf w.msg = .wr) (hroom : (s.slice k).room line = false) :
    s.waitTake k line = s := by
  simp [State.waitTake, hfree, hfirst, hkind, hclass, hroom]

end

/-! ### RETRY_QUEUE_GRANT -/

section
variable {s : State} {k : Nat} {w : Waiter} (hone : (s.slice k).retry = [w])
include hone

/-- A queue of one grants its request, or leaves it. -/
theorem State.grantRetry_of_one : s.grantRetry (s.slice k).retry.length k (s.slice k).retry = (s.tryRetry k w).getD s := by
  have hfirst : s.firstWaiter [w] = some w := rfl
  rw [hone]
  simp only [List.length_singleton, State.grantRetry, hfirst]
  cases s.tryRetry k w <;> rfl

theorem State.tryRetry_of_full (hfull : w.full = true) : s.tryRetry k w =
    if (SliceSt.pin { s.slice k with retry := [] } w.line) < 255 then
      some ((s.setSlice k { s.slice k with retry := [] }).joinWaits k w) else none := by
  simp [State.tryRetry, hone, hfull]

variable (hfull : w.full = false) (hfree : SliceSt.blocked { s.slice k with retry := [] } w.line = false)
include hfull hfree

theorem State.tryRetry_of_done {u : State} (h : (s.setSlice k { s.slice k with retry := [] }).decideReq k w = .done u) :
    s.tryRetry k w = some u := by
  simp [State.tryRetry, hone, hfull, hfree, h]

theorem State.tryRetry_of_retry (h : (s.setSlice k { s.slice k with retry := [] }).decideReq k w = .retry) :
    s.tryRetry k w = none := by
  simp [State.tryRetry, hone, hfull, hfree, h]

end

theorem homeQueuesAdvance : Claims.HomeQueuesAdvance := by
  intro k line w p s u h x s'
  have hwait : exec (.waitListTake k line) s = act s (·.waitTake k line) := rfl
  have hretry : exec (.retryQueueGrant k) s =
    act s (fun s => s.grantRetry (s.slice k).retry.length k (s.slice k).retry) := rfl
  have hallow : exec (.allowanceRelease p k) s = act s (·.allowanceRelease p k) := rfl
  have hslice : s'.slice k = { x with retry := [] } := State.slice_setSlice_self ..
  rw [hslice]
  refine ⟨fun hblocked => acts_of_act hwait h (State.waitTake_of_blocked hblocked),
    fun hfree hnone => acts_of_act hwait h (State.waitTake_of_none hfree hnone),
    fun hfree hfirst hkind hroom => acts_of_act hwait h (State.waitTake_of_request hfree hfirst hkind hroom),
    fun hfree hfirst hkind hclass hroom => acts_of_act hwait h (State.waitTake_of_full hfree hfirst hkind hclass hroom),
    fun hempty => acts_of_act hretry h ?_,
    fun hone hfull hfree hdone => acts_of_act hretry h ?_,
    fun hone hfull hfree hstay => acts_of_act hretry h ?_,
    fun hone hfull hpin => acts_of_act hretry h ?_,
    fun hone hfull hpin => acts_of_act hretry h ?_,
    fun l w hfirst => State.firstWaiter_least hfirst,
    fun hnone => acts_of_act hallow h (if_pos hnone), fun hsome => acts_of_act hallow h (if_neg hsome)⟩
  · rw [show (s.slice k).retry = [] from hempty]
    rfl
  · rw [State.grantRetry_of_one hone, State.tryRetry_of_done hone hfull hfree hdone, Option.getD_some]
  · rw [State.grantRetry_of_one hone, State.tryRetry_of_retry hone hfull hfree hstay, Option.getD_none, id]
  · rw [State.grantRetry_of_one hone, State.tryRetry_of_full hone hfull, if_pos hpin, Option.getD_some]
  · rw [State.grantRetry_of_one hone, State.tryRetry_of_full hone hfull, if_neg (Nat.not_lt.mpr hpin), Option.getD_none, id]

/-- Settles O46: each event is a branch of its operation; what a transaction awaits keeps it open through the close that
every answer tries. -/
theorem homeTransactionsProgress : Obligations.HomeTransactionsProgress := by
  unfold Obligations.HomeTransactionsProgress
  exact ⟨snoopResponsesAreTaken, backingAnswersArrive, homeTimeouts, homeQueuesAdvance⟩

end Sys2Proof.Machine
end


section
/-!
PROOFS. The opcodes of the Coherence Home (Table 06-8).
-/

namespace Sys2Proof.Machine

/-! ### Fields, and what acceptance leaves of the home -/

theorem Cmd.ranged_byte {c : Cmd} {off lo hi : Nat} (h : lo ≤ c.byte off) (h' : c.byte off ≤ hi) :
    c.ranged off 1 lo hi = (c.byte off, none) := Cmd.ranged_inside h h'

theorem Cmd.le_lt (c : Cmd) (off n : Nat) : c.le off n < 2 ^ (8 * n) := Nat.mod_lt _ (by positivity)

theorem chnField_of_le {c : Cmd} (h : c.le 16 2 ≤ 1023) : chnField c = (c.le 16 2, none) :=
  Cmd.ranged_inside (Nat.zero_le _) h

@[simp] theorem State.unqueue_allowSum (s : State) (l : Launch) (p : Nat) : (s.unqueue l).allowSum p = s.allowSum p := by
  simp [State.allowSum]

/-! ### HOME_HOST_SET and HOME_HOST_LOST -/

section
variable {c : Cmd} {s : State} {tk : Ticket} (hn : c.le 16 2 ≤ 1023)
include hn

theorem opHomeHostSet_body_clear (hkind : c.byte 18 = 0) : opHomeHostSet.body tk c s =
    if (s.host (c.le 16 2)).valid then
      .ok ((s.applyLoss (c.le 16 2) s.clock).modHost (c.le 16 2) fun h => { h with valid := false }) (c.le 16 2)
    else .ok s (c.le 16 2) := by
  have hzero : c.ranged 18 1 0 2 = (0, none) := (Cmd.ranged_byte (Nat.zero_le _) (by omega)).trans (by rw [hkind])
  simp [opHomeHostSet, chnField_of_le hn, hzero]

variable (hhost : c.byte 18 = 1 ∧ c.le 20 2 ≤ 1023 ∨ c.byte 18 = 2 ∧ c.le 20 2 ≤ 0xFFF)
include hhost

/-- A host's own number is answered; another's is BUSY, and a free one is assigned (R134, R441). -/
theorem opHomeHostSet_body_set : opHomeHostSet.body tk c s =
    (s.home.hosts.find? fun x => x.2.valid && x.2.remote == (c.byte 18 == 2) && x.2.who == c.le 20 2).elim
      (if (s.host (c.le 16 2)).valid then .bad s stBusy else
        .ok (s.modHost (c.le 16 2) fun h => { h with valid := true, remote := c.byte 18 == 2, who := c.le 20 2 }) (c.le 16 2))
      fun x => .ok s x.1 := by
  obtain ⟨hkind, hwho⟩ | ⟨hkind, hwho⟩ := hhost
  · have hone : c.ranged 18 1 0 2 = (1, none) := (Cmd.ranged_byte (Nat.zero_le _) (by omega)).trans (by rw [hkind])
    simp only [opHomeHostSet, chnField_of_le hn, hone, hkind, Nat.reduceEqDiff, if_false, Nat.min_eq_right hwho,
      hwho.not_gt, and_false, minClamp_none_left, Nat.one_ne_zero, Nat.reduceBEq]
    cases s.home.hosts.find? _ <;> rfl
  · have htwo : c.ranged 18 1 0 2 = (2, none) := (Cmd.ranged_byte (Nat.zero_le _) (by omega)).trans (by rw [hkind])
    simp only [opHomeHostSet, chnField_of_le hn, htwo, hkind, if_true, Nat.min_eq_right hwho, hwho.not_gt, and_false, if_false,
      minClamp_none_left, beq_self_eq_true, OfNat.ofNat_ne_zero]
    cases s.home.hosts.find? _ <;> rfl

end

theorem opHomeHostLost_body {c : Cmd} {s : State} {tk : Ticket} (hn : c.le 16 2 ≤ 1023) : opHomeHostLost.body tk c s =
    .ok (if (s.host (c.le 16 2)).valid then s.applyLoss (c.le 16 2) s.clock else s)
      ((if (s.host (c.le 16 2)).valid then s.applyLoss (c.le 16 2) s.clock else s).host (c.le 16 2)).inc := by
  simp [opHomeHostLost, chnField_of_le hn]

/-! ### HOME_ALLOW_SET and HOME_TIMEOUT_SET -/

theorem opHomeAllowSet_body {c : Cmd} {s : State} {tk : Ticket} (hp : c.le 16 2 ≤ 1023) :
    opHomeAllowSet.body tk c s = .ok
      ((s.modPort (c.le 16 2) fun x => { x with allow := min (min 64 (c.byte 18)) (3584 - s.allowSum (c.le 16 2)) }).admitHeld
        (c.le 16 2)) (min (min 64 (c.byte 18)) (3584 - s.allowSum (c.le 16 2)))
      (if min (min 64 (c.byte 18)) (3584 - s.allowSum (c.le 16 2)) = c.byte 18 then none else some 18) := by
  simp only [opHomeAllowSet, Cmd.ranged_inside (Nat.zero_le _) hp, minClamp_none_left, ne_eq, ite_not]

theorem opHomeTimeoutSet_body {c : Cmd} {s : State} {tk : Ticket} {q : Ring} (hsrc : c.src = .ring q) (hsn : 10 ≤ c.le 16 2)
    (hlo : 1 ≤ c.le 18 2) (hhi : c.le 18 2 ≤ 1000) (hmem : 100 ≤ c.le 20 2) : opHomeTimeoutSet.body tk c s =
    .ok ((List.range 16).foldl (fun t k =>
      t.modSlice k fun x => { x with snoopTo := c.le 16 2, wbTo := c.le 18 2, memTo := c.le 20 2 }) s) 0 := by
  have hall (i : Nat) : partSet c i = true := by simp [partSet, hsrc]
  have hword (off : Nat) : c.le off 2 ≤ 65535 := Nat.le_of_lt_succ (Cmd.le_lt c off 2)
  simp only [opHomeTimeoutSet, hall, Cmd.ranged_inside hsn (hword 16), Cmd.ranged_inside hlo hhi,
    Cmd.ranged_inside hmem (hword 20), if_true, minClamp_none_left]

/-! ### The queries -/

/-- Without a store a line has no entry there. -/
theorem State.storeEntry_of_none {s : State} (h : s.home.storeLog2 = 0) (k line : Nat) : s.storeEntry k line = none := by
  simp [State.storeEntry, h]

section
variable {s : State} {line : Nat} (hnone : (s.slice (sliceOf (line * 64))).txns.find? (·.line == line) = none)
include hnone

theorem SliceSt.fetching_of_none : (s.slice (sliceOf (line * 64))).fetching line = none := by
  rw [List.find?_eq_none] at hnone
  exact List.find?_eq_none.mpr fun t ht hread => hnone t ht (by simpa using (Bool.and_eq_true_iff.mp hread).1)

variable (hstore : s.home.storeLog2 = 0)
include hstore

/-- What stands of a line in a way. -/
theorem State.lineWord_of_way {key : Nat} {w : Way} (hway : (s.slice (sliceOf (line * 64))).wayOf line = some (key, w)) :
    s.lineWord line = w.entry.state + 2 ^ 4 * bit w.entry.coarse + 2 ^ 5
      + 2 ^ 7 * bit ((s.slice (sliceOf (line * 64))).blocked line) + 2 ^ 8 * min 255 ((s.slice (sliceOf (line * 64))).pin line)
      + 2 ^ 16 * (if w.entry.coarse then 0xFFF else (w.entry.ptrs.head?).elim 0xFFF (·.1)) := by
  have hheld : s.heldEntry (sliceOf (line * 64)) line = some w.entry := by
    simp only [State.heldEntry, SliceSt.fetching_of_none hnone, hway]
  simp [State.lineWord, State.lineState, hnone, hheld, hway, State.storeEntry_of_none hstore, bit]

/-- What stands of a line that is nowhere. -/
theorem State.lineWord_of_nowhere (hway : (s.slice (sliceOf (line * 64))).wayOf line = none)
    (hvictim : (s.slice (sliceOf (line * 64))).victimOf line = none) : s.lineWord line =
      2 ^ 7 * bit ((s.slice (sliceOf (line * 64))).blocked line) + 2 ^ 8 * min 255 ((s.slice (sliceOf (line * 64))).pin line)
        + 2 ^ 16 * 0xFFF := by
  have hheld : s.heldEntry (sliceOf (line * 64)) line = none := by
    simp [State.heldEntry, SliceSt.fetching_of_none hnone, hway, hvictim, State.storeEntry_of_none hstore]
  simp [State.lineWord, State.lineState, hnone, hheld, hway, State.storeEntry_of_none hstore, bit]

end

/-- Of a line that a transaction holds, the low bits are its blocked state. -/
theorem State.lineWord_of_txn {s : State} {line : Nat} {t : Txn}
    (h : (s.slice (sliceOf (line * 64))).txns.find? (·.line == line) = some t) : s.lineWord line % 16 = t.block % 16 := by
  simp only [State.lineWord, State.lineState, h]
  omega

theorem opHomeLineQuery_body {c : Cmd} {s : State} {tk : Ticket} (h : c.le 16 8 < 2 ^ 56) :
    opHomeLineQuery.body tk c s = .ok s (s.lineWord (c.le 16 8 / 64)) := by
  simp only [opHomeLineQuery, Cmd.ranged_inside (Nat.zero_le _) (Nat.le_sub_one_of_lt h)]

theorem opHomeSweepQuery_body {c : Cmd} {s : State} {tk : Ticket} (h : c.byte 16 ≤ 15) :
    opHomeSweepQuery.body tk c s = .ok s (s.slice (c.byte 16)).sweepLap := by
  simp only [opHomeSweepQuery, Cmd.ranged_byte (Nat.zero_le _) h]

theorem homeOpcodes : Claims.HomeOpcodes := by
  intro c l s n p who remote host here allow
  refine ⟨fun h hn hhost hnone hfree => OpSpec.completes (o := opHomeHostSet) rfl h rfl rfl ?_,
    fun h hn hhost hnone hused => OpSpec.endsWith (o := opHomeHostSet) rfl h rfl rfl ?_,
    fun x h hn hhost hsome => OpSpec.completes (o := opHomeHostSet) rfl h rfl rfl ?_,
    fun h hn hkind hfree => OpSpec.completes (o := opHomeHostSet) rfl h rfl rfl ?_,
    fun h hn hkind hused => OpSpec.completes (o := opHomeHostSet) rfl h rfl rfl ?_,
    fun h hn hfree => OpSpec.completes (o := opHomeHostLost) rfl h rfl rfl ?_,
    fun h hn hused => OpSpec.completes (o := opHomeHostLost) rfl h rfl rfl ?_,
    fun h => OpSpec.takesPlace (o := opHomeAllowSet) rfl h rfl,
    fun h hp => OpSpec.launches (o := opHomeAllowSet) h rfl ?_,
    fun q h hsrc hsn hlo hhi hmem => OpSpec.completes (o := opHomeTimeoutSet) rfl h rfl rfl
      (opHomeTimeoutSet_body hsrc hsn hlo hhi hmem),
    fun h hfma => ?_,
    fun h hk => OpSpec.completes (o := opHomeSweepQuery) rfl h rfl rfl ?_⟩
  · rw [opHomeHostSet_body_set hn hhost, State.accept_home, State.accept_host, if_neg (by simpa using hfree)]
    exact congrArg (Option.elim · _ _) hnone
  · rw [opHomeHostSet_body_set hn hhost, State.accept_home, State.accept_host, if_pos hused]
    exact congrArg (Option.elim · _ _) hnone
  · rw [opHomeHostSet_body_set hn hhost, State.accept_home]
    exact congrArg (Option.elim · _ _) hsome
  · rw [opHomeHostSet_body_clear hn hkind, State.accept_host, if_neg (by simpa using hfree), id]
  · rw [opHomeHostSet_body_clear hn hkind, State.accept_host, if_pos hused, State.accept_clock]
  · rw [opHomeHostLost_body hn, State.accept_host, if_neg (by simpa using hfree), State.accept_host, id]
  · rw [opHomeHostLost_body hn, State.accept_host, if_pos hused, State.accept_clock]
  · rw [opHomeAllowSet_body hp, State.unqueue_allowSum]
  · intro line x
    have hword : Completes (.homeLineQuery c) 0x44 c s id ((s.accept c).lineWord line) :=
      OpSpec.completes (o := opHomeLineQuery) rfl h rfl rfl (opHomeLineQuery_body hfma)
    have hslice : (s.accept c).slice (sliceOf (line * 64)) = x := State.accept_slice ..
    have hlog : (s.accept c).home.storeLog2 = s.home.storeLog2 := by rw [State.accept_home]
    refine ⟨fun key w hnone hway hstore => ?_, fun hnone hway hvictim hstore => ?_,
      fun t ht => ⟨_, hword, State.lineWord_of_txn (by rwa [hslice])⟩⟩
    · rwa [State.lineWord_of_way (by rwa [hslice]) (by rwa [hlog]) (by rwa [hslice]), hslice] at hword
    · rwa [State.lineWord_of_nowhere (by rwa [hslice]) (by rwa [hlog]) (by rwa [hslice]) (by rwa [hslice]), hslice] at hword
  · rw [opHomeSweepQuery_body hk, State.accept_slice, id]

end Sys2Proof.Machine
end


section
/-!
PROOFS. The directory opcodes (Tables 07-4 to 07-6).
-/

namespace Sys2Proof.Machine

/-! ### What acceptance leaves of the directory -/

section
variable (s : State) (c : Cmd)

@[simp] theorem State.accept_laReserve : (s.accept c).laReserve = s.laReserve := by
  unfold State.accept
  split <;> rfl

@[simp] theorem State.accept_placeAtBase (base : Nat) : (s.accept c).placeAtBase base = s.placeAtBase base := by
  simp [State.placeAtBase]

@[simp] theorem State.accept_placeOf (line : Nat) : (s.accept c).placeOf line = s.placeOf line := by simp [State.placeOf]

@[simp] theorem State.accept_moves : (s.accept c).moves = s.moves := by simp [State.moves]

@[simp] theorem State.accept_targetOkay (t : Target) : (s.accept c).targetOkay t = s.targetOkay t := by
  simp [State.targetOkay, State.boundLd]

@[simp] theorem State.accept_zeroCount : (s.accept c).zeroCount = s.zeroCount := by simp [State.zeroCount]

@[simp] theorem State.accept_bitmapBit (p : Placement) (page : Nat) : (s.accept c).bitmapBit p page = s.bitmapBit p page := by
  unfold State.accept
  split <;> rfl

end

/-! ### Areas and targets -/

theorem alignDown_of_aligned {k v : Nat} (h : v % 2 ^ k = 0) : alignDown k v = v :=
  Nat.div_mul_cancel (Nat.dvd_of_mod_eq_zero h)

/-- An aligned area below the reserve stands where it is asked for. -/
theorem State.areaBase_of_below {s : State} {k size base : Nat} (h : base % 2 ^ k = 0) (h' : base + size ≤ s.laReserve) :
    s.areaBase k size base = base := by
  simp [State.areaBase, alignDown_of_aligned h, h']

/-- The target that a command names. -/
def namedTarget (c : Cmd) : Target :=
  if c.byte 25 = 2 then { pool := true, base := c.le 32 8 } else { port := c.le 26 2, ld := c.byte 28, base := c.le 32 8 }

/-- A target of a port or of the pool, with its fields in range, for `size` bytes. -/
def State.TargetInRange (s : State) (c : Cmd) (size : Nat) : Prop :=
  c.le 32 8 % 64 = 0 ∧
    (c.byte 25 = 1 ∧ c.le 26 2 ≤ 1023 ∧ c.byte 28 ≤ 15 ∨ c.byte 25 = 2 ∧ c.le 32 8 + size ≤ s.laReserve)

section
variable {s : State} {c : Cmd} {size : Nat} (h : s.TargetInRange c size)
include h

theorem State.TargetInRange.kind_pos : 1 ≤ c.byte 25 := by
  obtain ⟨-, ⟨hkind, -⟩ | ⟨hkind, -⟩⟩ := h <;> omega

theorem State.TargetInRange.kind_le : c.byte 25 ≤ 2 := by
  obtain ⟨-, ⟨hkind, -⟩ | ⟨hkind, -⟩⟩ := h <;> omega

/-- Such a target is taken as it is named. -/
theorem State.TargetInRange.targetOf : s.targetOf c (c.byte 25) size = ((namedTarget c), none) := by
  obtain ⟨halign, ⟨hkind, hport, hld⟩ | ⟨hkind, hbelow⟩⟩ := h
  · simp [State.targetOf, namedTarget, hkind, Cmd.ranged_inside (Nat.zero_le _) hport,
      Cmd.ranged_byte (Nat.zero_le _) hld, alignDown_of_aligned (k := 6) halign]
  · simp [State.targetOf, namedTarget, hkind, State.areaBase_of_below (k := 6) halign hbelow]

theorem State.TargetInRange.accept : (s.accept c).TargetInRange c size := by
  rwa [State.TargetInRange, State.accept_laReserve]

end

/-! ### DIR_STORE_SET -/

/-- The slices without their stored entries. -/
def State.storeCleared (s : State) : State :=
  (List.range 16).foldl (fun t j => t.modSlice j fun x => { x with suspects := 0, storeLive := 0, stored := [] }) s

theorem storeLog_of_legal {n : Nat} (h : n = 0 ∨ 20 ≤ n ∧ n ≤ 28) : storeLog n = n := by
  obtain rfl | ⟨hlo, hhi⟩ := h
  · rfl
  · rw [storeLog, if_neg (by omega), clampNat, Nat.min_eq_right hhi, Nat.max_eq_right hlo]

section
variable {c : Cmd} {s : State} {tk : Ticket}

theorem opDirStoreSet_body_live (hlive : (s.home.slices.any fun x => x.2.anyLive) = true)
    (hn : c.byte 24 = 0 ∨ 20 ≤ c.byte 24 ∧ c.byte 24 ≤ 28) : opDirStoreSet.body tk c s = .bad s stBusy := by
  simp [opDirStoreSet, hlive, storeLog_of_legal hn]

variable (hdead : (s.home.slices.any fun x => x.2.anyLive) = false)
include hdead

theorem opDirStoreSet_body_end (hn : c.byte 24 = 0) : opDirStoreSet.body tk c s =
    .ok { s.storeCleared with home := { s.storeCleared.home with storeBase := 0, storeLog2 := 0 } } 0 := by
  simp only [opDirStoreSet, hdead, Bool.false_eq_true, if_false, hn, storeLog_of_legal (Or.inl rfl), ne_eq,
    not_true_eq_false, false_and, if_true, minClamp_none_left]
  rfl

theorem opDirStoreSet_body_set (hlo : 20 ≤ c.byte 24) (hhi : c.byte 24 ≤ 28) (halign : c.le 16 8 % 2 ^ (c.byte 24 + 8) = 0)
    (hbelow : c.le 16 8 + 2 ^ (c.byte 24 + 8) ≤ s.laReserve) : opDirStoreSet.body tk c s =
    .ok (State.fillArea
      { s.storeCleared with home := { s.storeCleared.home with storeBase := c.le 16 8, storeLog2 := c.byte 24 } }
      (c.le 16 8) (2 ^ (c.byte 24 + 8)) false) (c.byte 24) := by
  have hne : c.byte 24 ≠ 0 := by omega
  simp only [opDirStoreSet, hdead, Bool.false_eq_true, if_false, storeLog_of_legal (Or.inr ⟨hlo, hhi⟩), hne,
    State.areaBase_of_below halign hbelow, ne_eq, not_true_eq_false, and_false, minClamp_none_left]
  rfl

end

/-! ### DIR_PLACE_SET -/

/-- A placement overlaps a range of `2 ^ n` bytes. -/
def State.lapped (s : State) (base n : Nat) : Bool :=
  s.home.places.any fun x => match x.2 with
    | some p => decide (base < p.base + 2 ^ p.n) && decide (p.base < base + 2 ^ n)
    | none => false

theorem State.lapped_iff {s : State} {base n : Nat} : s.lapped base n = true ↔
    ∃ x ∈ s.home.places, ∃ q, x.2 = some q ∧ base < q.base + 2 ^ q.n ∧ q.base < base + 2 ^ n := by
  rw [State.lapped, List.any_eq_true]
  refine exists_congr fun x => and_congr_right fun _ => ?_
  cases x.2 <;> simp

/-- What DIR_PLACE_SET answers on the entry that starts at the base (R442). -/
def State.placeAgain (s : State) (n : Nat) (t : Target) (i : Nat) (p : Placement) : Reply :=
  if p.n ≠ n then .bad s stNoResource
  else if p.moving || p.split then .bad s stBusy
  else .ok (s.setPlace i (some { p with target := t, gen := (p.gen + 1) % 256 })) i

/-- What it answers where none does. -/
def State.placeNew (s : State) (base n : Nat) (t : Target) : Reply :=
  if s.lapped base n then .bad s stNoResource
  else ((List.range 1024).find? fun i => s.place i = none).elim (.bad s stNoResource)
    fun i => .ok (s.freshPlace i (some { base := base, n := n, target := t })) i

theorem State.placeAgain_of_size {s : State} {n i : Nat} {t : Target} {p : Placement} (h : p.n ≠ n) :
    s.placeAgain n t i p = .bad s stNoResource := if_pos h

/-- An entry of the same size that neither moves nor is split takes the new target and the next generation. -/
theorem State.placeAgain_of_still {s : State} {n i : Nat} {t : Target} {p : Placement} (h : p.n = n)
    (hmoving : p.moving = false) (hsplit : p.split = false) :
    s.placeAgain n t i p = .ok (s.setPlace i (some { p with target := t, gen := (p.gen + 1) % 256 })) i := by
  rw [State.placeAgain, if_neg (not_not_intro h), if_neg (by simp [hmoving, hsplit])]

theorem State.placeNew_of_lapped {s : State} {base n : Nat} {t : Target} (h : s.lapped base n = true) :
    s.placeNew base n t = .bad s stNoResource := if_pos h

/-- A range that no placement overlaps takes the first free index. -/
theorem State.placeNew_of_free {s : State} {base n i : Nat} {t : Target} (h : s.lapped base n = false)
    (hfree : (List.range 1024).find? (fun j => s.place j = none) = some i) :
    s.placeNew base n t = .ok (s.freshPlace i (some { base := base, n := n, target := t })) i := by
  rw [State.placeNew, if_neg (by simp [h]), hfree, Option.elim_some]

section
variable {c : Cmd} {s : State} {tk : Ticket} (hlo : 30 ≤ c.byte 24) (hhi : c.byte 24 ≤ 40)
include hlo hhi

theorem opDirPlaceSet_body_remove (hkind : c.byte 25 = 0) : opDirPlaceSet.body tk c s =
    (s.placeAtBase (c.le 16 8)).elim (.ok s 0xFFFFFFFF) fun x =>
      if x.2.moving || x.2.split then .bad s stBusy else .ok (s.freshPlace x.1 none) x.1 := by
  have hzero : c.ranged 25 1 0 2 = (0, none) := (Cmd.ranged_byte (Nat.zero_le _) (by omega)).trans (by rw [hkind])
  simp only [opDirPlaceSet, Cmd.ranged_byte hlo hhi, hzero, if_true, minClamp_none_left]
  cases s.placeAtBase _ <;> rfl

theorem opDirPlaceSet_body_set (htarget : s.TargetInRange c (2 ^ c.byte 24)) (halign : c.le 16 8 % 2 ^ c.byte 24 = 0)
    (hbelow : c.le 16 8 + 2 ^ c.byte 24 ≤ 2 ^ 56) : opDirPlaceSet.body tk c s =
    if s.targetOkay (namedTarget c) then
      (s.placeAtBase (c.le 16 8)).elim (s.placeNew (c.le 16 8) (c.byte 24) (namedTarget c)) fun x =>
        s.placeAgain (c.byte 24) (namedTarget c) x.1 x.2
    else .bad s stDenied := by
  have hbase : alignDown (c.byte 24) (min (c.le 16 8) (2 ^ 56 - 2 ^ c.byte 24)) = c.le 16 8 := by
    rw [Nat.min_eq_left (Nat.le_sub_of_add_le hbelow), alignDown_of_aligned halign]
  have hkind : c.byte 25 ≠ 0 := Nat.one_le_iff_ne_zero.mp htarget.kind_pos
  simp only [opDirPlaceSet, Cmd.ranged_byte hlo hhi, Cmd.ranged_byte (Nat.zero_le _) htarget.kind_le, hkind, if_false,
    hbase, htarget.targetOf, ne_eq, not_true_eq_false, minClamp_none_left]
  cases s.targetOkay (namedTarget c)
  · rfl
  · simp only [Bool.not_true, Bool.false_eq_true, if_false, if_true]
    cases s.placeAtBase (c.le 16 8)
    · simp only [Option.elim_none, State.placeNew]
      cases (List.range 1024).find? fun i => s.place i = none <;> rfl
    · rfl

end

/-! ### DIR_MOVE and DIR_MOVE_QUERY -/

/-- The depths of the moves that run. -/
def State.depths (s : State) : Nat := s.moves.foldl (fun n q => n + q.depth) 0

/-- An entry that a move starts on. -/
def movedPlace (c : Cmd) (p : Placement) (tk : Ticket) : Placement :=
  { p with moving := true, newTarget := namedTarget c, depth := c.byte 40, copied := 0, moveVfi := c.target, stopping := none
           ticket := some tk }

theorem opDirMove_body {c : Cmd} {s : State} {tk : Ticket} {i : Nat} {p : Placement} (htarget : s.TargetInRange c (2 ^ p.n))
    (hvfi : c.target ≤ 255) (hplace : s.placeAtBase (c.le 16 8) = some (i, p)) (hokay : s.targetOkay (namedTarget c) = true)
    (hdepth : 1 ≤ c.byte 40) (hsum : s.depths + c.byte 40 ≤ 128) : opDirMove.body tk c s =
    if p.moving || (p.split && p.newTarget != namedTarget c) then .bad s stBusy
    else if 8 ≤ s.moves.length then .bad s stNoResource
    else if p.split then .later ((s.setPlace i (some { movedPlace c p tk with split := false })).settleMove i)
    else .later (s.freshPlace i (some { movedPlace c p tk with gen := (p.gen + 1) % 256 })) := by
  have hleft : min (c.byte 40) (128 - s.depths) = c.byte 40 := Nat.min_eq_left (by omega)
  rw [State.depths] at hleft
  simp only [opDirMove, Cmd.ranged_byte htarget.kind_pos htarget.kind_le, Cmd.ranged_byte hdepth (by omega : c.byte 40 ≤ 128),
    hplace, htarget.targetOf, hokay, hleft, Nat.min_eq_right hvfi, hvfi.not_gt, (Nat.one_le_iff_ne_zero.mp hdepth),
    minClamp_none_right, Bool.not_true, Bool.false_eq_true, if_false, ne_eq, not_true_eq_false, or_false]
  rfl

theorem opDirMoveQuery_body {c : Cmd} {s : State} {tk : Ticket} {i : Nat} {p : Placement} (hk : c.byte 24 ≤ 15)
    (hplace : s.placeAtBase (c.le 16 8) = some (i, p)) :
    opDirMoveQuery.body tk c s = .ok s (tget 0 (s.slice (c.byte 24)).cut i % 2 ^ 32) := by
  simp only [opDirMoveQuery, Cmd.ranged_byte (Nat.zero_le _) hk, hplace]

/-! ### DIR_ZERO_SET and DIR_ZERO_QUERY -/

/-- What modes 1 and 2 of DIR_ZERO_SET leave of entry `i`, its bitmap at `b` (R191). -/
def State.zeroFilled (s : State) (i m b : Nat) (p : Placement) : State :=
  let u := (s.fillArea b (2 ^ (p.n - 15)) (m == 2)).setPlace i (some { p with zeroFill := true, bitmap := b })
  let v := if m = 1 then (List.range 16).foldl (fun u k => u.zeroBuffered k p) u else u
  (List.range 16).foldl (fun v k => v.zeroDrop k p) v

section
variable {c : Cmd} {s : State} {tk : Ticket} {i : Nat} {p : Placement} (hmode : c.byte 24 ≤ 2)
  (hplace : s.placeAtBase (c.le 16 8) = some (i, p))
include hmode hplace

theorem opDirZeroSet_body_busy (h : p.moving = true ∨ p.split = true ∨ p.zeroOff ≠ none) :
    opDirZeroSet.body tk c s = .bad s stBusy := by
  have hbusy : (p.moving || p.split || p.zeroOff.isSome) = true := by
    simpa [Option.isSome_iff_ne_none, or_assoc] using h
  simp only [opDirZeroSet, Cmd.ranged_byte (Nat.zero_le _) hmode, hplace, hbusy, if_true]

variable (hstill : p.moving = false ∧ p.split = false ∧ p.zeroOff = none)
include hstill

theorem opDirZeroSet_body_off (hm : c.byte 24 = 0) : opDirZeroSet.body tk c s =
    if p.zeroFill then .later ((s.setPlace i (some { p with zeroOff := some 0, zeroTicket := some tk })).zeroStep i)
    else .ok s 0 := by
  obtain ⟨hmoving, hsplit, hoff⟩ := hstill
  simp only [opDirZeroSet, Cmd.ranged_byte (Nat.zero_le _) hmode, hplace, hmoving, hsplit, hoff, Option.isSome_none,
    Bool.or_false, Bool.false_eq_true, if_false, hm, if_true, minClamp_none_right]

theorem opDirZeroSet_body_fill (hm : c.byte 24 = 1 ∨ c.byte 24 = 2) (hcount : p.zeroFill = true ∨ s.zeroCount < 64)
    (halign : c.le 32 8 % 64 = 0) (hbelow : c.le 32 8 + 2 ^ (p.n - 15) ≤ s.laReserve) :
    opDirZeroSet.body tk c s = .ok (s.zeroFilled i (c.byte 24) (c.le 32 8) p) 0 := by
  obtain ⟨hmoving, hsplit, hoff⟩ := hstill
  have hne : c.byte 24 ≠ 0 := by omega
  have hroom : (!p.zeroFill && decide (64 ≤ s.zeroCount)) = false := by
    obtain hfill | hlt := hcount
    · simp [hfill]
    · simp [hlt]
  simp only [opDirZeroSet, Cmd.ranged_byte (Nat.zero_le _) hmode, hplace, hmoving, hsplit, hoff, Option.isSome_none,
    Bool.or_false, Bool.false_eq_true, if_false, hne, State.areaBase_of_below (k := 6) halign hbelow, hroom, ne_eq,
    not_true_eq_false, minClamp_none_left, State.zeroFilled]

end

section
variable {c : Cmd} {s : State} {tk : Ticket} (hfma : c.le 16 8 < 2 ^ 56)
include hfma

theorem opDirZeroQuery_body_placed {i : Nat} {p : Placement} (hplace : s.placeOf (c.le 16 8 / 64) = some (i, p)) :
    opDirZeroQuery.body tk c s = .ok s (bit (p.zeroFill && s.bitmapBit p (c.le 16 8 / 4096))
      + 2 * bit (s.home.slices.any fun x => x.2.zeroing.any fun z => z.page == c.le 16 8 / 4096) + 4 * bit p.zeroFill) := by
  simp only [opDirZeroQuery, Cmd.ranged_inside (Nat.zero_le _) (Nat.le_sub_one_of_lt hfma), hplace]

theorem opDirZeroQuery_body_unplaced (hplace : s.placeOf (c.le 16 8 / 64) = none) :
    opDirZeroQuery.body tk c s = .ok s 0 := by
  simp only [opDirZeroQuery, Cmd.ranged_inside (Nat.zero_le _) (Nat.le_sub_one_of_lt hfma), hplace]

end

/-! ### DIR_STATUS -/

/-- The eleven counts of Table 07-6. -/
def SliceSt.dirCounts (x : SliceSt) : List Nat :=
  [x.retry.length, x.retryMax, x.retryCount, x.storeLive, x.fullInval, x.trimCount, x.suspects,
   x.victims.length + 2 ^ 16 * x.victimsMax, x.initiated + 2 ^ 16 * (x.zeroing.length - x.initiated), x.oldDiscard,
   x.poisonCopies]

theorem SliceSt.dirCount_of_get {x : SliceSt} {i v : Nat} (h : x.dirCounts[i]? = some v) : i ≤ 10 ∧ x.dirCount i = v := by
  obtain ⟨hlt, hv⟩ := List.getElem?_eq_some_iff.mp h
  have hi : i < 11 := hlt
  refine ⟨Nat.le_of_lt_succ hi, ?_⟩
  rw [← hv]
  interval_cases i <;> rfl

theorem opDirStatus_body {c : Cmd} {s : State} {tk : Ticket} {v : Nat} (hk : c.byte 16 ≤ 15)
    (h : (s.slice (c.byte 16)).dirCounts[c.byte 17]? = some v) : opDirStatus.body tk c s = .ok s v := by
  obtain ⟨hi, hv⟩ := SliceSt.dirCount_of_get h
  simp only [opDirStatus, Cmd.ranged_byte (Nat.zero_le _) hk, Cmd.ranged_byte (Nat.zero_le _) hi, hv, minClamp_none_left]

end Sys2Proof.Machine
end


section
/-!
PROOFS. The claims about the home and directory opcodes.
-/

namespace Sys2Proof.Machine

theorem directoryOpcodes : Claims.DirectoryOpcodes := by
  intro c i p s base n tgt target range depths still cleared
  have htake {size : Nat} (h : target size) : (s.accept c).TargetInRange c size := State.TargetInRange.accept h
  have hlive (h : ∃ x ∈ s.home.slices, x.2.anyLive = true) :
      ((s.accept c).home.slices.any fun x => x.2.anyLive) = true := by simpa using h
  have hdead (h : ∀ x ∈ s.home.slices, x.2.anyLive = false) :
      ((s.accept c).home.slices.any fun x => x.2.anyLive) = false := by simpa using h
  have hplace (b : Nat) : (s.accept c).placeAtBase b = s.placeAtBase b := s.accept_placeAtBase c b
  have hlapped (b m : Nat) : (s.accept c).lapped b m = s.lapped b m := by rw [State.lapped, State.accept_home, State.lapped]
  have hset {tk : Ticket} (ht : target (2 ^ n)) (hr : range) : opDirPlaceSet.body tk c (s.accept c) =
      if s.targetOkay tgt then (s.placeAtBase base).elim ((s.accept c).placeNew base n tgt) fun x =>
        (s.accept c).placeAgain n tgt x.1 x.2
      else .bad (s.accept c) stDenied := by
    obtain ⟨hlo, hhi, halign, hbelow⟩ := hr
    rw [opDirPlaceSet_body_set hlo hhi (htake ht) halign hbelow, hplace, State.accept_targetOkay]
    rfl
  refine ⟨fun h hnone hlo hhi halign hbelow => OpSpec.completes (o := opDirStoreSet) rfl h rfl rfl
      (opDirStoreSet_body_set (hdead hnone) hlo hhi halign (by simpa using hbelow)),
    fun h hnone hn => OpSpec.completes (o := opDirStoreSet) rfl h rfl rfl (opDirStoreSet_body_end (hdead hnone) hn),
    fun h hsome hn => OpSpec.endsWith (o := opDirStoreSet) rfl h rfl rfl (opDirStoreSet_body_live (hlive hsome) hn),
    fun h ht hr hokay hnone hapart hindex => OpSpec.completes (o := opDirPlaceSet) rfl h rfl rfl ?_,
    fun h ht hr hokay hnone hover => OpSpec.endsWith (o := opDirPlaceSet) rfl h rfl rfl ?_,
    fun h ht hr hokay hat hsize hmoving hsplit => OpSpec.completes (o := opDirPlaceSet) rfl h rfl rfl ?_,
    fun h ht hr hokay hat hsize => OpSpec.endsWith (o := opDirPlaceSet) rfl h rfl rfl ?_,
    fun h ht hr hdenied => OpSpec.endsWith (o := opDirPlaceSet) rfl h rfl rfl ?_,
    fun h hkind hlo hhi hat hmoving hsplit => OpSpec.completes (o := opDirPlaceSet) rfl h rfl rfl ?_,
    fun h hkind hlo hhi hat hbusy => OpSpec.endsWith (o := opDirPlaceSet) rfl h rfl rfl ?_,
    fun h hkind hlo hhi hnone => OpSpec.completes (o := opDirPlaceSet) rfl h rfl rfl ?_,
    fun h ht hvfi hat hokay hdepth hsum => ?_,
    fun h hk hat => OpSpec.completes (o := opDirMoveQuery) rfl h rfl rfl ?_,
    fun h hm hat hstill hcount halign hbelow => OpSpec.completes (o := opDirZeroSet) rfl h rfl rfl ?_,
    fun h hm hat hstill hfill => OpSpec.completes (o := opDirZeroSet) rfl h rfl rfl ?_,
    fun h hm hat hstill hfill => OpSpec.holds (o := opDirZeroSet) rfl h rfl rfl ?_,
    fun h hm hat hbusy => OpSpec.endsWith (o := opDirZeroSet) rfl h rfl rfl
      (opDirZeroSet_body_busy hm ((hplace _).trans hat) hbusy),
    fun h hfma hat => OpSpec.completes (o := opDirZeroQuery) rfl h rfl rfl ?_,
    fun h hfma hnone => OpSpec.completes (o := opDirZeroQuery) rfl h rfl rfl
      (opDirZeroQuery_body_unplaced hfma (by simpa using hnone)),
    fun v h hk hv => OpSpec.completes (o := opDirStatus) rfl h rfl rfl
      (opDirStatus_body hk (by rw [State.accept_slice]; exact hv))⟩
  · rw [hset ht hr, if_pos hokay, hnone, Option.elim_none, State.placeNew_of_free ?_ (by simpa using hindex)]
    rw [hlapped, Bool.eq_false_iff, ne_eq, State.lapped_iff]
    rintro ⟨x, hx, q, hq, hover, hover'⟩
    have := hapart x hx q hq
    omega
  · rw [hset ht hr, if_pos hokay, hnone, Option.elim_none,
      State.placeNew_of_lapped ((hlapped _ _).trans (State.lapped_iff.mpr hover))]
  · rw [hset ht hr, if_pos hokay, hat, Option.elim_some, State.placeAgain_of_still hsize hmoving hsplit]
  · rw [hset ht hr, if_pos hokay, hat, Option.elim_some, State.placeAgain_of_size hsize]
  · rw [hset ht hr, if_neg (by simp [hdenied])]
  · rw [opDirPlaceSet_body_remove hlo hhi hkind, hplace, hat, Option.elim_some, if_neg (by simp [hmoving, hsplit])]
  · rw [opDirPlaceSet_body_remove hlo hhi hkind, hplace, hat, Option.elim_some, if_pos (by simpa using hbusy)]
  · rw [opDirPlaceSet_body_remove hlo hhi hkind, hplace, hnone, Option.elim_none, id]
  · have hbody (tk : Ticket) := opDirMove_body (tk := tk) (htake ht) hvfi ((hplace _).trans hat)
      ((s.accept_targetOkay c _).trans hokay) hdepth (by rw [State.depths, State.accept_moves]; exact hsum)
    simp only [State.accept_moves] at hbody
    refine ⟨fun hmoving hsplit hroom => OpSpec.holds (o := opDirMove) rfl h rfl rfl ?_,
      fun hmoving hsplit hsame hroom => OpSpec.holds (o := opDirMove) rfl h rfl rfl ?_,
      fun hmoving => OpSpec.endsWith (o := opDirMove) rfl h rfl rfl ?_,
      fun hmoving hsplit hfull => OpSpec.endsWith (o := opDirMove) rfl h rfl rfl ?_⟩
    · rw [hbody, if_neg (by simp [hmoving, hsplit]), if_neg hroom.not_ge, if_neg (by simp [hsplit])]
      rfl
    · rw [hbody, if_neg (by simp [hmoving, show p.newTarget = namedTarget c from hsame]), if_neg hroom.not_ge, if_pos hsplit]
      rfl
    · rw [hbody, if_pos (by simp [hmoving])]
    · rw [hbody, if_neg (by simp [hmoving, hsplit]), if_pos hfull]
  · rw [opDirMoveQuery_body hk ((hplace _).trans hat), State.accept_slice, id]
  · rw [opDirZeroSet_body_fill (by omega) ((hplace _).trans hat) hstill hm (by simpa using hcount) halign
      (by simpa using hbelow)]
    rfl
  · rw [opDirZeroSet_body_off (by omega) ((hplace _).trans hat) hstill hm, if_neg (by simp [hfill]), id]
  · rw [opDirZeroSet_body_off (by omega) ((hplace _).trans hat) hstill hm, if_pos hfill]
  · rw [opDirZeroQuery_body_placed hfma ((s.accept_placeOf c _).trans hat), State.accept_bitmapBit, State.accept_home, id]

/-- Settles O43: each opcode's body answers by its guards, with the fields in range. -/
theorem homeAndDirectoryOpcodes : Obligations.HomeAndDirectoryOpcodes := by
  unfold Obligations.HomeAndDirectoryOpcodes
  exact ⟨homeOpcodes, directoryOpcodes⟩

end Sys2Proof.Machine
end


section
/-!
PROOFS. What a home slice does to its lines, its transactions and the write buffer leaves the table of hosts, and the instants
of their losses, as they are (R134, R135, R159).
-/

namespace Sys2Proof.Machine

/-- The table of hosts, and the instants of their last losses. -/
def State.hostBook (s : State) : Tbl HostEntry × Tbl Nat := (s.home.hosts, s.home.lostAt)

/-- What writes no part of the home leaves the book. -/
theorem State.hostBook_of_home {s t : State} (h : t.home = s.home) : t.hostBook = s.hostBook := by
  rw [State.hostBook, h, State.hostBook]

/-- Steps that each leave the book leave it together. -/
theorem State.hostBook_foldl {α : Type} {f : State → α → State} (hf : ∀ s x, (f s x).hostBook = s.hostBook) (xs : List α)
    (s : State) : (xs.foldl f s).hostBook = s.hostBook :=
  State.foldl_keeps (·.hostBook) hf xs s

section
variable (s : State)

/-! ### Primitive writes -/

@[simp] theorem State.hostBook_setSlice (k : Nat) (v : SliceSt) : (s.setSlice k v).hostBook = s.hostBook := rfl

@[simp] theorem State.hostBook_modSlice (k : Nat) (f : SliceSt → SliceSt) : (s.modSlice k f).hostBook = s.hostBook := rfl

@[simp] theorem State.hostBook_modTxn (k id : Nat) (f : Txn → Txn) : (s.modTxn k id f).hostBook = s.hostBook := rfl

@[simp] theorem State.hostBook_setBuf (k line : Nat) (e : Option WEntry) : (s.setBuf k line e).hostBook = s.hostBook := rfl

@[simp] theorem State.hostBook_bufHold (k : Nat) (w : WWait) : (s.bufHold k w).hostBook = s.hostBook := rfl

@[simp] theorem State.hostBook_cntSlice (k code : Nat) (vfi : Option Nat) (n : Nat) :
    (s.cntSlice k code vfi n).hostBook = s.hostBook := rfl

@[simp] theorem State.hostBook_modPort (p : Nat) (f : PortSt → PortSt) : (s.modPort p f).hostBook = s.hostBook := rfl

@[simp] theorem State.hostBook_emit (o : Output) : (s.emit o).hostBook = s.hostBook := rfl

@[simp] theorem State.hostBook_tally (i n : Nat) : (s.tally i n).hostBook = s.hostBook :=
  State.hostBook_of_home (s.tally_home i n)

@[simp] theorem State.hostBook_record (cause island t64 : Nat) (fields : List (Nat × Nat)) :
    (s.record cause island t64 fields).hostBook = s.hostBook := State.hostBook_of_home (s.record_home ..)

@[simp] theorem State.hostBook_dirDraw (la n : Nat) : (s.dirDraw la n).hostBook = s.hostBook := rfl

@[simp] theorem State.hostBook_memSubmit (r : ChReq) : (s.memSubmit r).hostBook = s.hostBook := by
  obtain ⟨m, p, h⟩ := s.memSubmit_writes r
  rw [h]
  rfl

@[simp] theorem State.hostBook_settle (island e : Nat) : (s.settle island e).hostBook = s.hostBook := by
  unfold State.settle State.countAccess
  dsimp only
  split <;> rfl

/-! ### The write buffer -/

@[simp] theorem State.hostBook_backWrite (k line : Nat) (t : Target) (d : BitVec 512) (mask : BitVec 64) (p : Bool) (vfi : Nat) :
    (s.backWrite k line t d mask p vfi).hostBook = s.hostBook := State.hostBook_of_home (s.backWrite_home ..)

@[simp] theorem State.hostBook_backRead (k id line : Nat) (t : Target) (vfi : Nat) (engine : Bool) :
    (s.backRead k id line t vfi engine).hostBook = s.hostBook := by
  unfold State.backRead
  dsimp only
  split <;> simp

@[simp] theorem State.hostBook_bufRaw (k : Nat) (w : WWait) : (s.bufRaw k w).hostBook = s.hostBook := by
  simp only [State.bufRaw, State.bufPlace]
  split
  · split <;> simp
  · rfl

@[simp] theorem State.hostBook_bitDraw (k page : Nat) : (s.bitDraw k page).hostBook = s.hostBook := by
  unfold State.bitDraw
  split
  · rfl
  · dsimp only
    split <;> simp

@[simp] theorem State.hostBook_zeroWrite (k line vfi : Nat) : (s.zeroWrite k line vfi).hostBook = s.hostBook := by
  unfold State.zeroWrite
  dsimp only
  split
  · rfl
  · split <;> simp

/-- The first-write procedure leaves the book where what it writes first does. -/
theorem State.hostBook_startZero {f : State → State} (hf : ∀ t, (f t).hostBook = t.hostBook) (k page vfi : Nat) :
    (s.startZero k page vfi f).hostBook = s.hostBook := by
  refine (State.hostBook_foldl (fun t j => t.hostBook_emit _) _ _).trans ?_
  exact (State.hostBook_foldl (fun t l => t.hostBook_zeroWrite k l vfi) _ _).trans (hf _)

@[simp] theorem State.hostBook_bufPut (k : Nat) (w : WWait) : (s.bufPut k w).hostBook = s.hostBook := by
  unfold State.bufPut State.bufWith
  dsimp only
  split
  · simp
  · split
    · exact (State.hostBook_startZero _ (fun t => t.hostBook_bufRaw k _) k _ _).trans (s.hostBook_bitDraw ..)
    · simp

@[simp] theorem State.hostBook_putWrite (k : Nat) (m : Msg) (t : Target) (gen : Nat) (own : Bool) (vfi : Nat) :
    (s.putWrite k m t gen own vfi).hostBook = s.hostBook := by
  unfold State.putWrite
  dsimp only
  split <;> simp

@[simp] theorem State.hostBook_poisonLine (k line : Nat) (chn : Option Nat) (tgt : Option (Target × Nat)) (vfi : Nat) :
    (s.poisonLine k line chn tgt vfi).hostBook = s.hostBook := by
  unfold State.poisonLine
  dsimp only
  split <;> simp

/-! ### The directory store -/

@[simp] theorem State.hostBook_writeSlot (k b i v : Nat) : (s.writeSlot k b i v).hostBook = s.hostBook := by
  simp only [State.writeSlot, State.writeLine_whole]
  rfl

@[simp] theorem State.hostBook_putStoreSlot (k b i line : Nat) (old new : Option DirEntry) :
    (s.putStoreSlot k b i line old new).hostBook = s.hostBook := by
  simp [State.putStoreSlot, State.countDir]

@[simp] theorem State.hostBook_markSuspect (k b line : Nat) : (s.markSuspect k b line).hostBook = s.hostBook := by
  have hslots : ((List.range 8).foldl (fun s i => s.writeSlot k b i (if i = 0 then suspectBits else 0)) s).hostBook =
      s.hostBook := State.hostBook_foldl (fun t i => t.hostBook_writeSlot ..) _ s
  unfold State.markSuspect
  dsimp only
  rw [State.hostBook_record, State.hostBook_modSlice, State.countDir, State.hostBook_dirDraw, hslots]

@[simp] theorem State.hostBook_storeUpdate (k line : Nat) (new : Option DirEntry) :
    (s.storeUpdate k line new).hostBook = s.hostBook := by
  unfold State.storeUpdate
  dsimp only
  split
  · rfl
  · split
    · simp
    · split <;> simp [State.countDir]

/-! ### Entries and ways -/

@[simp] theorem State.hostBook_putEntry (k line : Nat) (new : DirEntry) (vfi : Nat) :
    (s.putEntry k line new vfi).hostBook = s.hostBook := by
  obtain ⟨u, hu, hbook⟩ : ∃ u : State, (if new.coarse && !((s.heldEntry k line).getD {}).coarse then
      (s.setSlice k ((s.slice k).recharge ((s.heldEntry k line).getD {}) new vfi).1).cntSlice k 0x8E
    else s.setSlice k ((s.slice k).recharge ((s.heldEntry k line).getD {}) new vfi).1) = u ∧ u.hostBook = s.hostBook :=
    ⟨_, rfl, by split <;> rfl⟩
  simp only [State.putEntry, hu]
  split
  · rfl
  split
  · simp [hbook]
  split
  · simp [hbook]
  split
  · split
    · simp [hbook]
    split <;> simp [hbook]
  · split <;> simp [hbook]

@[simp] theorem State.hostBook_freeWay (k line : Nat) : (s.freeWay k line).hostBook = s.hostBook := by
  unfold State.freeWay
  dsimp only
  split
  · rfl
  split
  · rfl
  split
  · rfl
  split <;> simp

@[simp] theorem State.hostBook_purge (k line : Nat) (e : DirEntry) (tgt : Option (Target × Nat)) :
    (s.purge k line e tgt).1.hostBook = s.hostBook := by
  unfold State.purge
  dsimp only
  split
  · rfl
  split
  · rfl
  split <;> simp

/-! ### Messages and closes -/

@[simp] theorem State.hostBook_respond (k : Nat) (m : Msg) (kind : MsgKind) (mv : Meta) (d : BitVec 512) (p : Bool) :
    (s.respond k m kind mv d p).hostBook = s.hostBook := by
  unfold State.respond
  dsimp only
  split <;> rfl

@[simp] theorem State.hostBook_conflictAck (k : Nat) (m : Msg) (tag : BitVec 16) :
    (s.conflictAck k m tag).hostBook = s.hostBook := by
  simp [State.conflictAck]

@[simp] theorem State.hostBook_settleHome (k : Nat) (m : Msg) : (s.settleHome k m).hostBook = s.hostBook := by
  unfold State.settleHome State.settleMsg
  split <;> simp

@[simp] theorem State.hostBook_closeSignal (k : Nat) (m : Msg) (lost : Bool) :
    (s.closeSignal k m lost).hostBook = s.hostBook := by
  unfold State.closeSignal
  dsimp only
  split
  · rfl
  split
  · rfl
  split <;> rfl

@[simp] theorem State.hostBook_dropTxn (k : Nat) (t : Txn) : (s.dropTxn k t).hostBook = s.hostBook := by
  simp [State.dropTxn]

@[simp] theorem State.hostBook_snoopHosts (k line : Nat) (kind : MsgKind) (vfi : Nat) (hosts : List Nat) :
    (s.snoopHosts k line kind vfi hosts).hostBook = s.hostBook := by
  refine State.hostBook_foldl (fun t c => ?_) hosts s
  dsimp only
  split <;> rfl

@[simp] theorem State.hostBook_startRead (k id : Nat) : (s.startRead k id).hostBook = s.hostBook := by
  unfold State.startRead
  split
  · rfl
  next t _ =>
    obtain ⟨u, hu, hbook⟩ : ∃ u : State, (if t.kind = .direct then s else s.bitDraw k (t.line / 64)) = u ∧
        u.hostBook = s.hostBook := ⟨_, rfl, by split <;> simp⟩
    simp only [hu]
    split
    · simp [hbook]
    split <;> simp [hbook]

end

end Sys2Proof.Machine
end


section
/-!
PROOFS. The loss of a host (R135, R159, R161) and steps of the sweep (R160, R161).
-/

namespace Sys2Proof.Machine

section
variable (s : State)

/-! ### Closes and decisions leave the table of hosts -/

@[simp] theorem State.hostBook_finishReq (k : Nat) (t : Txn) : (s.finishReq k t).hostBook = s.hostBook := by
  unfold State.finishReq
  dsimp only
  rw [State.hostBook_dropTxn, State.hostBook_closeSignal]
  cases t.ack <;> simp only [apply_ite State.hostBook, State.hostBook_conflictAck, State.hostBook_settleHome,
    State.hostBook_respond, State.hostBook_putWrite, State.hostBook_putEntry, ite_self] <;> split <;> simp

@[simp] theorem State.hostBook_finishDirect (k : Nat) (t : Txn) : (s.finishDirect k t).hostBook = s.hostBook := by
  simp only [State.finishDirect, State.hostBook_dropTxn, State.hostBook_closeSignal, apply_ite State.hostBook,
    State.hostBook_settleHome, State.hostBook_respond, State.hostBook_putWrite, ite_self]

@[simp] theorem State.hostBook_finishIfReady (k id : Nat) : (s.finishIfReady k id).hostBook = s.hostBook := by
  unfold State.finishIfReady
  split
  · rfl
  split
  · rfl
  split <;> simp

@[simp] theorem State.hostBook_actOn (k id : Nat) (e : DirEntry) : (s.actOn k id e).hostBook = s.hostBook := by
  unfold State.actOn
  split
  · rfl
  · simp only [State.hostBook_finishIfReady, State.hostBook_startRead, State.hostBook_snoopHosts, State.hostBook_modTxn,
      State.hostBook_cntSlice, State.hostBook_putEntry, State.hostBook_purge, apply_ite State.hostBook, ite_self]

@[simp] theorem State.hostBook_finishInval (k : Nat) (t : Txn) : (s.finishInval k t).hostBook = s.hostBook := by
  simp [State.finishInval]

@[simp] theorem State.hostBook_tryClose (k id : Nat) : (s.tryClose k id).hostBook = s.hostBook := by
  unfold State.tryClose
  split
  · rfl
  split
  · split <;> simp
  · split <;> simp
  · rfl
  · split
    · split <;> simp
    · simp

@[simp] theorem State.hostBook_loseOwner (k : Nat) (t : Txn) (chn : Option Nat) :
    (s.loseOwner k t chn).hostBook = s.hostBook := by
  simp [State.loseOwner]

@[simp] theorem State.hostBook_lossTxn (k chn : Nat) (t : Txn) : (s.lossTxn k chn t).1.hostBook = s.hostBook := by
  unfold State.lossTxn
  dsimp only
  split
  · rfl
  · simp only [State.hostBook_tryClose, State.hostBook_modTxn, apply_ite State.hostBook, State.hostBook_loseOwner, ite_self]

@[simp] theorem State.hostBook_lossSlice (k chn id : Nat) (counted : Bool) :
    (s.lossSlice k chn id counted).hostBook = s.hostBook := by
  unfold State.lossSlice
  dsimp only
  rw [State.hostBook_record]
  refine List.foldlRecOn (motive := fun y : State × Nat => y.1.hostBook = s.hostBook) _ _ rfl fun y hy t _ => ?_
  split
  · simpa using hy
  · exact hy

/-! ### Held messages that enter leave it -/

@[simp] theorem State.hostBook_intoCore (src srcOff dst dstOff : Nat) (m : Msg) (slice : Bool) :
    (s.intoCore src srcOff dst dstOff m slice).hostBook = s.hostBook := by
  have hqueue (u : State) (t : Nat) (c : Cell) : (u.queueCell t c).hostBook = u.hostBook := rfl
  have hquota (u : State) (t vfi : Nat) : (u.noteQuota t vfi).hostBook = u.hostBook := by
    obtain ⟨ts, l, h, -⟩ := u.noteQuota_writes t vfi
    rw [h]
    rfl
  simp only [State.intoCore, hquota, apply_ite State.hostBook, State.hostBook_modPort, ite_self]
  exact State.hostBook_foldl (fun t _ => hqueue t _ _) _ s

@[simp] theorem State.hostBook_enterHome (p : Nat) (m : Msg) : (s.enterHome p m).hostBook = s.hostBook := by
  simp only [State.enterHome, State.hostBook_intoCore]
  split <;> rfl

@[simp] theorem State.hostBook_admitHeld (p : Nat) : (s.admitHeld p).hostBook = s.hostBook := by
  unfold State.admitHeld
  dsimp only
  rw [State.hostBook_modPort]
  refine List.foldlRecOn (motive := fun y : State × List Nat × List Msg => y.1.hostBook = s.hostBook) _ _ rfl
    fun y hy m _ => ?_
  split
  · simpa using hy
  · exact hy

/-! ### The loss of a host -/

/-- What a loss makes of its host: a new incarnation and one more PENDING, unless 15 are (R135, R161). -/
def HostEntry.lost (h : HostEntry) : HostEntry :=
  { h with inc := if h.pending < 15 then (h.inc + 1) % 16 else h.inc, pending := min 15 (h.pending + 1)
           valid := h.valid && !h.leaving, leaving := false }

/-- A loss writes the host's entry and the instant of the loss, and nothing else of the book. -/
theorem State.hostBook_applyLoss (chn at' : Nat) : (s.applyLoss chn at').hostBook =
    (tset {} s.home.hosts chn (s.host chn).lost,
      tset 0 s.home.lostAt (if (s.host chn).remote then 1024 + (s.host chn).who else (s.host chn).who) at') := by
  unfold State.applyLoss
  dsimp only
  rw [apply_ite State.hostBook, State.hostBook_admitHeld, ite_self]
  refine (State.hostBook_foldl (fun t k => t.hostBook_lossSlice ..) _ _).trans ?_
  simp only [State.hostBook, State.setHost, HostEntry.lost, decide_eq_true_eq]

theorem State.host_applyLoss (chn at' : Nat) : (s.applyLoss chn at').host chn = (s.host chn).lost := by
  have hbook := congrArg Prod.fst (s.hostBook_applyLoss chn at')
  rw [State.host, show (s.applyLoss chn at').home.hosts = _ from hbook, tget_tset_self]

theorem State.lostAt_applyLoss (chn at' : Nat) : tget 0 (s.applyLoss chn at').home.lostAt
    (if (s.host chn).remote then 1024 + (s.host chn).who else (s.host chn).who) = at' := by
  have hbook := congrArg Prod.snd (s.hostBook_applyLoss chn at')
  rw [show (s.applyLoss chn at').home.lostAt = _ from hbook, tget_tset_self]

theorem State.hostLoss_of_none {chn : Nat} (h : ∀ y ∈ s.home.lossDue, y.1 ≠ chn) : s.hostLoss chn = s := by
  have hnone : s.home.lossDue.find? (fun x => x.1 == chn) = none := by simpa using h
  simp only [State.hostLoss, hnone]

theorem State.hostLoss_of_due {chn at' : Nat} (h : s.home.lossDue.find? (fun y => y.1 == chn) = some (chn, at')) :
    s.hostLoss chn = s.applyLoss chn at' := by
  simp only [State.hostLoss, h]

end

/-! ### Steps of the sweep -/

section
variable {s : State} {k : Nat}

/-- An entry without a stale pointer is left as it is (R160). -/
theorem State.purge_of_fresh {line : Nat} {e : DirEntry} (tgt : Option (Target × Nat))
    (h : e.coarse = true ∨ ∀ x ∈ e.ptrs, (s.host x.1).inc = x.2) : s.purge k line e tgt = (s, e) := by
  obtain hcoarse | hfresh := h
  · simp [State.purge, hcoarse]
  · have hnone : e.ptrs.filter (fun x => (s.host x.1).inc != x.2) = [] := by simpa using hfresh
    simp [State.purge, hnone]

/-- A way whose line is live or pinned is not freed. -/
theorem State.freeWay_of_held {line key : Nat} {w : Way} (hway : (s.slice k).wayOf line = some (key, w))
    (h : w.entry.live = true ∨ (s.slice k).pin line ≠ 0) : s.freeWay k line = s := by
  have hstays : (w.entry.live || (s.slice k).pin line != 0) = true := by simpa using h
  simp only [State.freeWay, hway, hstays, if_true]

/-- The sweep leaves a way whose entry has no stale pointer, and whose line is live or pinned. -/
theorem State.sweepWay_of_fresh {key : Nat} {w : Way} (hget : tget none (s.slice k).ways key = some w)
    (hway : (s.slice k).wayOf w.line = some (key, w))
    (hfresh : w.entry.coarse = true ∨ ∀ x ∈ w.entry.ptrs, (s.host x.1).inc = x.2)
    (hheld : w.entry.live = true ∨ (s.slice k).pin w.line ≠ 0) : s.sweepWay k key = s := by
  have hentry : s.sweepEntry k w.line w.entry = s := by simp [State.sweepEntry, State.purge_of_fresh _ hfresh]
  simp only [State.sweepWay, hget, hentry, State.freeWay_of_held hway hheld, ite_self]

theorem State.sweepStep_of_stopped (hrun : (s.slice k).running = false) : s.sweepStep k = s := by
  simp [State.sweepStep, hrun]

variable (hrun : (s.slice k).running = true)
include hrun

/-- A slice that holds nothing, and applies no loss, begins a new lap (R161). -/
theorem State.sweepStep_of_empty (hways : (s.slice k).ways = []) (hvictims : (s.slice k).victims = [])
    (hstore : s.home.storeLog2 = 0) (hlosses : (s.slice k).losses = []) : s.sweepStep k =
    s.setSlice k { s.slice k with sweepLap := ((s.slice k).sweepLap + 1) % 2 ^ 32, sweepPos := 0, losses := [] } := by
  have hpos (n : Nat) : s.nextPos k n = none := by simp [State.nextPos, State.nextBucket, hways, hstore]
  have hnone : s.sweepVictims k = s := by simp [State.sweepVictims, hvictims]
  simp only [State.sweepStep, hrun, Bool.not_true, Bool.false_eq_true, if_false, hpos, State.sweepLapEnd, hnone, hlosses,
    List.filter_nil, List.foldl_nil]

theorem State.sweepStep_of_way {y : Nat × Option Way}
    (hfind : (s.slice k).ways.find? (fun v => decide ((s.slice k).sweepPos ≤ v.1)) = some y) (hlt : y.1 < scanStore) :
    s.sweepStep k = (s.modSlice k fun x => { x with sweepPos := y.1 + 1 }).sweepWay k y.1 := by
  have hpos : s.nextPos k (s.slice k).sweepPos = some y.1 := by simp only [State.nextPos, hfind]
  simp only [State.sweepStep, hrun, Bool.not_true, Bool.false_eq_true, if_false, hpos, hlt, if_true]

end

/-- Settles O47: the events are branches of their operations; the loss is followed through all that it does to the slices'
lines and transactions, which leaves the table of hosts as the loss itself wrote it. -/
theorem hostLossIsSwept : Obligations.HostLossIsSwept := by
  unfold Obligations.HostLossIsSwept
  intro k chn s h x
  have hloss : exec (.hostLoss chn) s = act s (·.hostLoss chn) := rfl
  have hsweep : exec (.sweepStep k) s = act s (·.sweepStep k) := rfl
  refine ⟨fun hnone => acts_of_act hloss h (s.hostLoss_of_none hnone),
    fun at' hdue => acts_of_act hloss h (s.hostLoss_of_due hdue), fun at' hpending => ?_, fun at' hpending => ?_,
    fun at' => s.lostAt_applyLoss chn at', fun hrun => acts_of_act hsweep h (State.sweepStep_of_stopped hrun),
    fun hrun hways hvictims hstore hlosses => acts_of_act hsweep h
      (State.sweepStep_of_empty hrun hways hvictims hstore hlosses),
    fun y w hrun hfind hlt hget hway hfresh hheld => acts_of_act hsweep h ?_⟩
  · rw [State.host_applyLoss, HostEntry.lost, if_pos hpending]
    exact ⟨rfl, Nat.min_eq_right hpending⟩
  · rw [State.host_applyLoss, HostEntry.lost, if_neg (by omega), hpending]
    exact ⟨rfl, rfl⟩
  · rw [State.sweepStep_of_way hrun hfind hlt]
    refine State.sweepWay_of_fresh (w := w) ?_ ?_ hfresh ?_ <;> rw [State.slice_modSlice_self]
    · exact hget
    · exact hway
    · exact hheld

end Sys2Proof.Machine
end

section
/-!
PROOFS. The directory's capacity: the read of a bucket, the victim buffer, trims and the lines of a move (R176 to R178, R181,
R183).
-/

namespace Sys2Proof.Machine

/-! ### STORE_BUCKET_READ -/

/-- The transaction has read its bucket: it reads no more, and what it knew of the line's entry is gone. -/
def State.bucketKnown (s : State) (k id : Nat) : State :=
  s.modTxn k id fun t => { t with storeRead := false, wbSeen := false, entry := {} }

@[simp] theorem State.wayOf_bucketKnown (s : State) (k id line : Nat) :
    ((s.bucketKnown k id).slice k).wayOf line = (s.slice k).wayOf line := by
  rw [State.bucketKnown, State.modTxn, State.slice_modSlice_self]
  rfl

section
variable {s : State} {k id : Nat} {t : Txn}

theorem State.bucketRead_of_none (ht : s.txn k id = none) (unc : Bool) : s.bucketRead k id unc = s := by
  simp only [State.bucketRead, ht]

theorem State.bucketRead_of_idle (ht : s.txn k id = some t) (hread : t.storeRead = false) (unc : Bool) :
    s.bucketRead k id unc = s := by
  simp [State.bucketRead, ht, hread]

variable (ht : s.txn k id = some t) (hread : t.storeRead = true)
include ht hread

/-- A bucket that cannot be corrected is marked, and its line recovered (R179). -/
theorem State.bucketRead_of_uncorrectable (hsettled : t.settled = false) :
    s.bucketRead k id true = (s.markSuspect k (s.bucketOf t.line) t.line).startRecover k id := by
  simp [State.bucketRead, ht, hread, hsettled]

variable (hwb : t.wbSeen = false) (hcheck : (t.settled && s.recheckFails t.msg) = false) {l : List SlotView}
  (hbucket : s.bucket k (s.bucketOf t.line) = some l)
include hwb hcheck hbucket

/-- No slot holds the line, the bucket says so, and the request may create an entry: it acts on an empty one (R176). -/
theorem State.bucketRead_of_missing (hfind : (slotEntries l).find? (fun y => y.2.1 == t.line) = none)
    (hclean : isSuspect l = false) (hmay : createsEntry t.msg = false ∨ s.overage k t.msg.vfi.toNat = false) :
    s.bucketRead k id false =
      (s.bucketKnown k id).actOn k id (((s.bucketKnown k id).heldEntry k t.line).getD {}) := by
  have hcreate : ¬ (createsEntry t.msg = true ∧ s.overage k t.msg.vfi.toNat = true) := by
    rintro ⟨hcreates, hover⟩
    simp [hcreates, hover] at hmay
  simp [State.bucketRead, ht, hread, hwb, hcheck, hbucket, hfind, hclean, hcreate, State.bucketKnown]

/-- The entry of the slot goes into the line's way, unless the victim buffer holds the line (R170, R176). -/
theorem State.bucketRead_of_found {y : Nat × Nat × DirEntry} {key : Nat} {w : Way}
    (hfind : (slotEntries l).find? (fun y => y.2.1 == t.line) = some y)
    (hway : (s.slice k).wayOf t.line = some (key, w)) (hvictims : ∀ z ∈ (s.slice k).victims, z.line ≠ t.line) {u : State}
    (hu : u = (s.bucketKnown k id).modSlice k fun x =>
      { x with ways := tset none x.ways key (some { w with entry := y.2.2, stored := true, changed := false }) }) :
    s.bucketRead k id false = u.actOn k id ((u.heldEntry k t.line).getD {}) := by
  have hvoid : (s.slice k).victims.any (·.line == t.line) = false := by simpa using hvictims
  have hway' : ((s.bucketKnown k id).slice k).wayOf t.line = some (key, w) := (s.wayOf_bucketKnown ..).trans hway
  subst hu
  simp only [State.bucketRead, ht, hread, hwb, hcheck, hbucket, hfind, hvoid, ← State.bucketKnown.eq_def, hway',
    Bool.not_true, Bool.false_eq_true, if_false, reduceCtorEq, false_and]

end

/-! ### VICTIM_WRITE -/

section
variable {s : State} {k : Nat} {v : Victim}

theorem State.victimWrite_of_none (h : (s.slice k).nextVictim = none) (unc : Bool) : s.victimWrite k unc = s := by
  simp only [State.victimWrite, h]

/-- An entry without a stale pointer is swept without effect (R160). -/
theorem State.sweepEntry_of_fresh {e : DirEntry} (line : Nat) (h : e.coarse = true ∨ ∀ x ∈ e.ptrs, (s.host x.1).inc = x.2) :
    s.sweepEntry k line e = s := by
  simp [State.sweepEntry, State.purge_of_fresh _ h]

variable (hnext : (s.slice k).nextVictim = some v)
include hnext

/-- Without a store there is nothing to clear. -/
theorem State.victimWrite_of_clear (hstore : s.home.storeLog2 = 0) (hclear : v.clear = true) (unc : Bool) :
    s.victimWrite k unc = s.dropVictim k v := by
  simp [State.victimWrite, hnext, hstore, hclear]

variable (hclear : v.clear = false) (hfresh : v.entry.coarse = true ∨ ∀ x ∈ v.entry.ptrs, (s.host x.1).inc = x.2)
include hclear hfresh

/-- Without a store the hosts of a victim are invalidated (R178). -/
theorem State.victimWrite_of_storeless (hstore : s.home.storeLog2 = 0) (unc : Bool) :
    s.victimWrite k unc = s.makeRoom k v v.line := by
  simp [State.victimWrite, hnext, hclear, State.sweepEntry_of_fresh _ hfresh, hstore]

/-- A victim that its bucket does not hold goes into the lowest empty slot (R177). -/
theorem State.victimWrite_of_empty {l : List SlotView} {j : Nat} (hstore : s.home.storeLog2 ≠ 0)
    (hbucket : s.bucket k (s.bucketOf v.line) = some l) (hwrite : v.stored = false ∨ v.changed = true ∨ isSuspect l = true)
    (hfind : (slotEntries l).find? (fun z => z.2.1 == v.line) = none) (hempty : emptySlot l = some j) :
    s.victimWrite k false = s.storeVictim k (s.bucketOf v.line) j v none := by
  have hkeep : (v.stored && !v.changed && !isSuspect l) = false := by
    obtain h | h | h := hwrite <;> simp [h]
  simp only [State.victimWrite, hnext, hclear, State.sweepEntry_of_fresh _ hfresh, if_neg hstore, hbucket, hkeep, hfind,
    hempty, Option.isNone_some, Bool.or_self, Bool.false_eq_true, if_false]

end

/-! ### TRIM -/

section
variable {s : State} {k vfi : Nat}

/-- No trim starts without a quota, within the limit and the running trims, or with 16 trims running (R181). -/
theorem State.trim_of_within (h : (s.inst vfi).dirQuota = 0 ∨
    tget 0 (s.slice k).charges vfi ≤ (s.inst vfi).dirQuota / 16 + (s.slice k).trims.count vfi ∨
    16 ≤ (s.slice k).trims.length) : s.trim k vfi = s := by
  by_cases hquota : (s.inst vfi).dirQuota = 0
  · simp [State.trim, State.dirLimit, hquota]
  · have hstill : (!decide ((s.inst vfi).dirQuota / 16 + (s.slice k).trims.count vfi < tget 0 (s.slice k).charges vfi) ||
        decide (16 ≤ (s.slice k).trims.length)) = true := by simpa [hquota] using h
    simp only [State.trim, State.dirLimit, if_neg hquota, hstill, if_true]

/-- Above the limit and the running trims, a trim starts on the entry that the scanner finds (R181). -/
theorem State.trim_of_found {pos line : Nat} (hquota : (s.inst vfi).dirQuota ≠ 0)
    (hover : (s.inst vfi).dirQuota / 16 + (s.slice k).trims.count vfi < tget 0 (s.slice k).charges vfi)
    (hfew : (s.slice k).trims.length < 16)
    (hscan : (s.trimScan ((s.slice k).ways.length + s.mem.lines.length + 1) k vfi (s.slice k).trimPos <|>
      s.trimScan ((s.slice k).ways.length + s.mem.lines.length + 1) k vfi 0) = some (pos, line)) :
    s.trim k vfi = (s.modSlice k fun x => { x with trimPos := pos, trimCount := satAdd 32 x.trimCount 1 }).startJob k line
      (.hostInval true) vfi := by
  simp only [State.trim, State.dirLimit, if_neg hquota, hover, decide_true, Bool.not_true, Bool.false_or,
    decide_eq_true_eq, Nat.not_le.mpr hfew, if_false, hscan]

end

/-! ### MOVE_LINE_START -/

section
variable {s : State} {k i : Nat} {p : Placement}

theorem State.moveStart_of_none (hplace : s.place i = none) : s.moveStart k i = s := by
  simp only [State.moveStart, hplace]

/-- No line starts for a placement that does not move, that stops, or with as many lines in flight as its depth (R183). -/
theorem State.moveStart_of_idle (hplace : s.place i = some p)
    (h : p.moving = false ∨ p.stopping ≠ none ∨ p.depth ≤ (s.slice k).inMove i) : s.moveStart k i = s := by
  have hidle : (!p.moving || p.stopping.isSome || decide (p.depth ≤ (s.slice k).inMove i)) = true := by
    simpa [Option.isSome_iff_ne_none, or_assoc] using h
  simp only [State.moveStart, hplace, hidle, if_true]

variable (hplace : s.place i = some p) (hmoving : p.moving = true) (hstop : p.stopping = none)
  (hdepth : (s.slice k).inMove i < p.depth)
include hplace hmoving hstop hdepth

/-- A block left behind comes first (log entry 47). -/
theorem State.moveStart_of_skipped {y : Nat × Nat} (hskip : (s.slice k).skipped.find? (fun y => y.1 == i) = some y) :
    s.moveStart k i = (s.setSlice k { s.slice k with skipped := (s.slice k).skipped.erase y }).startJob k (p.lineAt k y.2)
      (.move i) p.moveVfi := by
  simp [State.moveStart, hplace, hmoving, hstop, hdepth, hskip]

variable (hskip : ∀ y ∈ (s.slice k).skipped, y.1 ≠ i)
include hskip

/-- With none left behind, the cursor advances over the range, to its end. -/
theorem State.moveStart_of_cursor {c : Nat} (hc : c = tget 0 (s.slice k).cursors i) : s.moveStart k i =
    if p.blocks ≤ c then s
    else (s.setSlice k { s.slice k with cursors := tset 0 (s.slice k).cursors i (c + 1) }).startJob k (p.lineAt k c) (.move i)
      p.moveVfi := by
  have hnone : (s.slice k).skipped.find? (fun y => y.1 == i) = none := by simpa using hskip
  simp [State.moveStart, hplace, hmoving, hstop, hdepth, hnone, hc]

end

theorem directoryWorkProceeds : Claims.DirectoryWorkProceeds := by
  intro k id' unc v i t p s h x c known limit scan
  have hread : exec (.storeBucketRead k id' unc) s = act s (·.bucketRead k id' unc) := rfl
  have hvictim : exec (.victimWrite k unc) s = act s (·.victimWrite k unc) := rfl
  have htrim : exec (.trimStep k v) s = act s (·.trim k v) := rfl
  have hmove : exec (.moveLineStart k i) s = act s (·.moveStart k i) := rfl
  refine ⟨fun ht => acts_of_act hread h (State.bucketRead_of_none ht unc),
    fun ht hidle => acts_of_act hread h (State.bucketRead_of_idle ht hidle unc),
    fun l ht hwait hwb hcheck hunc hbucket => ⟨fun hfind hclean hmay => acts_of_act hread h ?_,
      fun y key w hfind hway hvictims => acts_of_act hread h ?_⟩,
    fun ht hwait hsettled hunc => acts_of_act hread h ?_,
    fun hnone => acts_of_act hvictim h (State.victimWrite_of_none hnone unc),
    fun y hnext hstore hclear => acts_of_act hvictim h (State.victimWrite_of_clear hnext hstore hclear unc),
    fun y hnext hclear hfresh => ⟨fun hstore => acts_of_act hvictim h
        (State.victimWrite_of_storeless hnext hclear hfresh hstore unc),
      fun l j hstore hunc hbucket hwrite hfind hempty => acts_of_act hvictim h ?_⟩,
    fun hwithin => acts_of_act htrim h (State.trim_of_within hwithin),
    fun pos line hquota hover hfew hscan => acts_of_act htrim h (State.trim_of_found hquota hover hfew hscan),
    fun hnone => acts_of_act hmove h (State.moveStart_of_none hnone),
    fun hplace hidle => acts_of_act hmove h (State.moveStart_of_idle hplace hidle),
    fun hplace hmoving hstop hdepth => ⟨fun y hskip => acts_of_act hmove h
        (State.moveStart_of_skipped hplace hmoving hstop hdepth hskip),
      fun hskip hlt => acts_of_act hmove h ?_, fun hskip hle => acts_of_act hmove h ?_⟩⟩
  · rw [hunc]
    exact State.bucketRead_of_missing ht hwait hwb hcheck hbucket hfind hclean hmay
  · rw [hunc]
    exact State.bucketRead_of_found ht hwait hwb hcheck hbucket hfind hway hvictims rfl
  · rw [hunc]
    exact State.bucketRead_of_uncorrectable ht hwait hsettled
  · rw [hunc]
    exact State.victimWrite_of_empty hnext hclear hfresh hstore hbucket hwrite hfind hempty
  · rw [State.moveStart_of_cursor hplace hmoving hstop hdepth hskip rfl, if_neg (Nat.not_le.mpr hlt)]
  · rw [State.moveStart_of_cursor hplace hmoving hstop hdepth hskip rfl, if_pos hle, id]

end Sys2Proof.Machine
end

section
/-!
PROOFS. The messages of the first-write procedure (R187, R190): what a slice hears, answers and counts, and its own lines of
a page (R136).
-/

namespace Sys2Proof.Machine

/-! ### The lines of a page -/

/-- Of the 16 lines of an aligned KiB a slice owns one. -/
theorem countP_sliceOf_block (b : Nat) (k : Slice) :
    (List.range 16).countP (fun i => decide (sliceOf (b * 1024 + 64 * i) = k)) = 1 := by
  have hmask : sliceMask (b * 1024) < 16 := sliceMask_lt _
  have howner : ∀ i ∈ List.range 16, decide (sliceOf (b * 1024 + 64 * i) = k) = true ↔
      (i == k.val ^^^ sliceMask (b * 1024)) = true := by
    intro i hi
    have hslice : sliceOf (b * 1024 + 64 * i) = i ^^^ sliceMask (b * 1024) := by
      simpa using sliceOf_line (b * 1024) (List.mem_range.mp hi)
    rw [decide_eq_true_iff, beq_iff_eq, hslice]
    constructor
    · intro hk
      rw [← hk, Nat.xor_assoc, Nat.xor_self, Nat.xor_zero]
    · rintro rfl
      rw [Nat.xor_assoc, Nat.xor_self, Nat.xor_zero]
  rw [List.countP_congr howner]
  exact List.count_eq_one_of_mem List.nodup_range (List.mem_range.mpr (Nat.xor_lt_two_pow (n := 4) k.isLt hmask))

/-- Of `n` KiB in a row a slice owns `n` lines. -/
theorem countP_sliceOf_blocks (b : Nat) (k : Slice) (n : Nat) :
    (List.range (16 * n)).countP (fun i => decide (sliceOf (b * 1024 + 64 * i) = k)) = n := by
  induction n with
  | zero => rfl
  | succ n ih =>
    have hlast : ((fun i => decide (sliceOf (b * 1024 + 64 * i) = k)) ∘ (16 * n + ·)) =
        fun i => decide (sliceOf ((b + n) * 1024 + 64 * i) = k) := by
      funext i
      rw [Function.comp_apply, show b * 1024 + 64 * (16 * n + i) = (b + n) * 1024 + 64 * i by omega]
    rw [Nat.mul_succ 16, List.range_add, List.countP_append, ih, List.countP_map, hlast, countP_sliceOf_block]

theorem length_pageLines (k : Slice) (page : Nat) : (pageLines k page).length = 4 := by
  rw [pageLines, List.length_filterMap_eq_countP, ← countP_sliceOf_blocks (4 * page) k 4]
  refine List.countP_congr fun j _ => ?_
  rw [show (page * 64 + j) * 64 = 4 * page * 1024 + 64 * j by omega, decide_eq_true_iff]
  split <;> simp [*]

/-- The lines of a page that a slice lists lie in the page, and are the slice's own. -/
theorem mem_pageLines {k : Slice} {page l : Nat} (h : l ∈ pageLines k page) : l / 64 = page ∧ sliceOf (l * 64) = k := by
  obtain ⟨j, hj, hl⟩ := List.mem_filterMap.mp h
  have hlt : j < 64 := List.mem_range.mp hj
  obtain ⟨hslice, rfl⟩ : sliceOf ((page * 64 + j) * 64) = k ∧ page * 64 + j = l := by simpa using hl
  exact ⟨by omega, hslice⟩

/-! ### The home through the read of a bitmap word and a change of a zeroing entry (R187) -/

section
variable (s : State) (k j page : Nat)

/-- The read of a bitmap word changes the slice's cache of words and what its channel counts, if it changes anything. -/
theorem State.bitDraw_cases : s.bitDraw k page = s ∨ ∃ (f : SliceSt → SliceSt) (la : Nat),
    s.bitDraw k page = (s.modSlice k f).dirDraw la 1 ∧ ∀ x, (f x).zeroing = x.zeroing := by
  unfold State.bitDraw
  split
  · exact .inl rfl
  · dsimp only
    split
    · exact .inl rfl
    · exact .inr ⟨_, _, rfl, fun _ => rfl⟩

@[simp] theorem State.zeroEntry_dirDraw (la n : Nat) : (s.dirDraw la n).zeroEntry k page = s.zeroEntry k page := rfl

@[simp] theorem State.zeroEntry_bitDraw (page' : Nat) : (s.bitDraw k page).zeroEntry j page' = s.zeroEntry j page' := by
  obtain h | ⟨f, la, h, hf⟩ := s.bitDraw_cases k page
  · rw [h]
  · rw [h, State.zeroEntry_dirDraw, State.zeroEntry, State.zeroEntry]
    by_cases hj : j = k
    · rw [hj, State.slice_modSlice_self, hf]
    · rw [State.slice_modSlice_ne _ _ hj]

@[simp] theorem State.placeOf_modZero (f : Zeroing → Zeroing) (line : Nat) :
    (s.modZero k page f).placeOf line = s.placeOf line := rfl

@[simp] theorem State.placeOf_bitDraw (line : Nat) : (s.bitDraw k page).placeOf line = s.placeOf line := by
  obtain h | ⟨_, _, h, _⟩ := s.bitDraw_cases k page <;> rw [h]
  rfl

@[simp] theorem State.bitmapBit_modZero (f : Zeroing → Zeroing) (p : Placement) (page' : Nat) :
    (s.modZero k page f).bitmapBit p page' = s.bitmapBit p page' := rfl

@[simp] theorem State.bitmapBit_bitDraw (p : Placement) (page' : Nat) :
    (s.bitDraw k page).bitmapBit p page' = s.bitmapBit p page' := by
  obtain h | ⟨_, _, h, _⟩ := s.bitDraw_cases k page <;> rw [h]
  rfl

end

section
variable {s : State} {k j page : Nat}

theorem State.zeroEntry_modZero_ne (f : Zeroing → Zeroing) (hne : k ≠ j) :
    (s.modZero j page f).zeroEntry k page = s.zeroEntry k page := by
  rw [State.zeroEntry, State.modZero, State.slice_modSlice_ne _ _ hne, State.zeroEntry]

/-- The entry of a page after a change that leaves it the page's. -/
theorem State.zeroEntry_modZero {z : Zeroing} {f : Zeroing → Zeroing} (h : s.zeroEntry k page = some z)
    (hf : ∀ z, (f z).page = z.page) : (s.modZero k page f).zeroEntry k page = some (f z) := by
  have hsame : ((fun z : Zeroing => z.page == page) ∘ fun z => if z.page = page then f z else z) =
      fun z => z.page == page := by
    funext z
    simp only [Function.comp_apply]
    split <;> simp [*]
  have hpage : z.page = page := by simpa using List.find?_some h
  rw [State.zeroEntry] at h
  rw [State.zeroEntry, State.modZero, State.slice_modSlice_self, List.find?_map, hsame, h, Option.map_some, if_pos hpage]

end

/-! ### ZERO_P -/

/-- Slice `x` has initiated the page, and slice `k` has not heard so (R190). -/
def unheardBy (k page : Nat) (x : Nat × SliceSt) : Bool :=
  x.1 != k && x.2.zeroing.any fun z => z.page == page && z.initiated && !z.heard.contains k

/-- Slice `k` has heard that slice `j` initiates the page, and has read the page's bitmap word. -/
def State.hears (s : State) (k j page : Nat) : State :=
  (s.modZero j page fun z => { z with heard := z.heard ++ [k] }).bitDraw k page

@[simp] theorem State.placeOf_hears (s : State) (k j page line : Nat) : (s.hears k j page).placeOf line = s.placeOf line :=
  (State.placeOf_bitDraw ..).trans (State.placeOf_modZero ..)

@[simp] theorem State.bitmapBit_hears (s : State) (k j page : Nat) (p : Placement) (page' : Nat) :
    (s.hears k j page).bitmapBit p page' = s.bitmapBit p page' :=
  (State.bitmapBit_bitDraw ..).trans (State.bitmapBit_modZero ..)

@[simp] theorem sliceFin_val (k : Slice) : sliceFin k.val = k := Fin.ofNat_val_eq_self k

theorem State.zeroHear_of_none {s : State} (h : ∀ y ∈ s.home.slices, y.2.zeroing = []) (k page vfi : Nat) :
    s.zeroHear k page vfi = s := by
  have hnone : s.home.slices.find? (unheardBy k page) = none :=
    List.find?_eq_none.mpr fun y hy => by simp [unheardBy, h y hy]
  unfold unheardBy at hnone
  simp only [State.zeroHear, hnone]

section
variable {s : State} {k j : Slice} {page : Nat} {y : SliceSt}
  (hfind : s.home.slices.find? (unheardBy k page) = some (j.val, y)) (hzero : s.zeroEntry k page = none)
include hfind hzero

/-- The slice has no entry for the page after it has heard the initiator, which is another slice. -/
theorem State.zeroEntry_hears : (s.hears k j page).zeroEntry k page = none := by
  have hunheard : (unheardBy k page (j.val, y)) = true := List.find?_some hfind
  have hkj : k.val ≠ j.val := by
    simp only [unheardBy, Bool.and_eq_true, bne_iff_ne] at hunheard
    exact hunheard.1.symm
  rw [State.hears, State.zeroEntry_bitDraw, State.zeroEntry_modZero_ne _ hkj, hzero]

/-- A page that is written, or in no placement, is answered at once. -/
theorem State.zeroHear_of_written (hset : ∀ i p, s.placeOf (page * 64) = some (i, p) → s.bitmapBit p page = true)
    (vfi : Nat) : s.zeroHear k page vfi = ((s.hears k j page).emit (.zeroAnswer k j page)).modZero j page fun z =>
      { z with replied := z.replied ++ [k.val] } := by
  have hentry := State.zeroEntry_hears hfind hzero
  unfold unheardBy at hfind
  cases hplace : s.placeOf (page * 64) with
  | none =>
    simp only [State.zeroHear, hfind, ← State.hears.eq_def, hentry, State.placeOf_hears, hplace, if_true, sliceFin_val]
  | some q =>
    simp only [State.zeroHear, hfind, ← State.hears.eq_def, hentry, State.placeOf_hears, hplace, State.bitmapBit_hears,
      hset _ _ hplace, if_true, sliceFin_val]

/-- A page that is not written gets an entry, and its lines of this slice are written as zeros. -/
theorem State.zeroHear_of_unwritten {i : Nat} {p : Placement} (hplace : s.placeOf (page * 64) = some (i, p))
    (hclear : s.bitmapBit p page = false) (vfi : Nat) {z : Zeroing}
    (hz : z = { page := page, initiated := false, owed := pageLines k page, asked := [j.val], vfi := vfi }) :
    s.zeroHear k page vfi = ((pageLines k page).foldl (fun u l => u.zeroWrite k l vfi)
      ((s.hears k j page).modSlice k fun x => { x with zeroing := x.zeroing ++ [z] })).zeroAnswers k page := by
  have hentry := State.zeroEntry_hears hfind hzero
  unfold unheardBy at hfind
  simp only [State.zeroHear, hfind, ← State.hears.eq_def, hentry, State.placeOf_hears, hplace, State.bitmapBit_hears, hclear,
    Bool.false_eq_true, if_false, hz]

end

/-! ### ZERO_ANSWER and DONE_P -/

section
variable {s : State} {k from' page : Nat} {z : Zeroing}

theorem State.zeroGot_of_none (h : s.zeroEntry k page = none) : s.zeroGot k from' page = s := by simp only [State.zeroGot, h]

/-- An answer to a slice that does not initiate the page, or that was not sent, does nothing. -/
theorem State.zeroGot_of_unsent (h : s.zeroEntry k page = some z) (hunsent : z.initiated = false ∨ from' ∉ z.replied) :
    s.zeroGot k from' page = s := by
  have hnot : (z.initiated && z.replied.contains from') = false := by
    obtain hpart | hnever := hunsent
    · simp [hpart]
    · simp [hnever]
  simp only [State.zeroGot, h, hnot, Bool.false_eq_true, if_false]

/-- A zeroing that has not all 15 answers goes on. -/
theorem State.zeroFinish_of_unanswered (h : s.zeroEntry k page = some z) (hmore : z.answered.length ≠ 15) :
    s.zeroFinish k page = s := by
  simp [State.zeroFinish, h, hmore]

/-- An answer that was sent is counted, and leaves the zeroing open unless it is the last of the 15 (R190). -/
theorem State.zeroGot_of_sent (h : s.zeroEntry k page = some z) (hinit : z.initiated = true) (hsent : from' ∈ z.replied)
    (hmore : z.answered.length ≠ 14) : s.zeroGot k from' page = s.modZero k page fun z =>
      { z with replied := z.replied.erase from', answered := z.answered ++ [from'] } := by
  have hgot : (z.initiated && z.replied.contains from') = true := by simp [hinit, hsent]
  simp only [State.zeroGot, h, hgot, if_true]
  exact State.zeroFinish_of_unanswered (State.zeroEntry_modZero h fun _ => rfl) (by simpa using hmore)

variable {i : Nat} {p : Placement} (hplace : s.placeOf (page * 64) = some (i, p))
include hplace

/-- DONE_P waits for the page's bit, and then removes the entries of slices that take part (R190). -/
theorem State.zeroDone_of_placed : s.zeroDone k page = if s.bitmapBit p page then
    s.modSlice k fun x => { x with zeroing := x.zeroing.filter fun z => z.page != page || z.initiated } else s := by
  simp only [State.zeroDone, hplace]

end

theorem zeroFillMessages : Claims.ZeroFillMessages := by
  intro k j page v z s h g unheard heard
  have hhear : exec (.zeroP k page v) s = act s (·.zeroHear k page v) := rfl
  have hgot : exec (.zeroAnswer k j page) s = act s (·.zeroGot k j page) := rfl
  have hdone : exec (.doneP k page) s = act s (·.zeroDone k page) := rfl
  refine ⟨fun hnone => acts_of_act hhear h (State.zeroHear_of_none hnone ..),
    fun y hfind hzero hset => acts_of_act hhear h (State.zeroHear_of_written hfind hzero hset v),
    fun y i p hfind hzero hplace hclear => acts_of_act hhear h
      (State.zeroHear_of_unwritten hfind hzero hplace hclear v rfl),
    fun hnone => acts_of_act hgot h (State.zeroGot_of_none hnone),
    fun hzero hunsent => acts_of_act hgot h (State.zeroGot_of_unsent hzero hunsent),
    fun hzero hinit hsent hmore => acts_of_act hgot h (State.zeroGot_of_sent hzero hinit hsent hmore),
    fun i p hplace hclear => acts_of_act hdone h ?_, fun i p hplace hset => acts_of_act hdone h ?_,
    fun page => ⟨length_pageLines k page, fun l hl => mem_pageLines hl⟩⟩
  · rw [State.zeroDone_of_placed hplace, hclear]
    rfl
  · rw [State.zeroDone_of_placed hplace, if_pos hset]

/-- Settles O48: each event is a branch of its operation; a page's four KiB hold one line of a slice each, and hearing an
initiator leaves the slice's own entry, the placements and the bitmap as they are. -/
theorem directoryAndZeroFillProceed : Obligations.DirectoryAndZeroFillProceed := by
  unfold Obligations.DirectoryAndZeroFillProceed
  exact ⟨directoryWorkProceeds, zeroFillMessages⟩

end Sys2Proof.Machine
end

section
/-!
PROOFS. The decision of the Access Control Unit: an access by its lines (R205), Service regions (R201) and colours
(R203, R204).
-/

namespace Sys2Proof.Machine

/-! ### Lines -/

theorem firstBad_eq_none_iff {f : Nat → Nat} {l n : Nat} :
    firstBad f l n = none ↔ ∀ k, l ≤ k → k < l + n → f (64 * k) = 0 := by
  induction n generalizing l with
  | zero => simp only [firstBad, true_iff]; omega
  | succ n ih =>
    by_cases h0 : f (64 * l) = 0
    · simp only [firstBad, h0, if_true, ih]
      refine ⟨fun h k hl hk => ?_, fun h k hl hk => h k (by omega) (by omega)⟩
      obtain rfl | hne := eq_or_ne k l
      · exact h0
      · exact h k (by omega) (by omega)
    · simp only [firstBad, h0, if_false, reduceCtorEq, false_iff]
      exact fun h => h0 (h l le_rfl (by omega))

/-- What is found is a line that is not granted, after lines that all are. -/
theorem firstBad_eq_some {f : Nat → Nat} {l n : Nat} {x : Nat × Nat} (h : firstBad f l n = some x) :
    ∃ k, l ≤ k ∧ k < l + n ∧ x = (64 * k, f (64 * k)) ∧ f (64 * k) ≠ 0 ∧ ∀ j, l ≤ j → j < k → f (64 * j) = 0 := by
  induction n generalizing l with
  | zero => simp [firstBad] at h
  | succ n ih =>
    by_cases h0 : f (64 * l) = 0
    · obtain ⟨k, hl, hk, hx, hbad, hbefore⟩ := ih (by simpa [firstBad, h0] using h)
      refine ⟨k, by omega, by omega, hx, hbad, fun j hlj hjk => ?_⟩
      obtain rfl | hne := eq_or_ne j l
      · exact h0
      · exact hbefore j (by omega) hjk
    · obtain rfl : (64 * l, f (64 * l)) = x := by simpa [firstBad, h0] using h
      exact ⟨l, le_rfl, by omega, rfl, h0, by omega⟩

/-- The first line of a memory access that is not permitted, with its reason (R205). -/
def State.firstRejected (s : State) (rid : Option Nat) (kind fma len : Nat) : Option (Nat × Nat) :=
  firstBad (verdictAt s.acu.service s.acu.active s.acu.bad rid kind) (fma / 64) ((fma + len - 1) / 64 + 1 - fma / 64)

section
variable {s : State} {rid : Option Nat} {kind fma len : Nat} (hkind : kind < 3)
include hkind

theorem State.check_of_permitted (h : s.firstRejected rid kind fma len = none) : s.check rid kind fma len = (0, 0) := by
  rw [State.firstRejected] at h
  simp only [State.check, decideAccess, Nat.ne_of_lt hkind, if_false, h]

theorem State.check_of_rejected {x : Nat × Nat} (h : s.firstRejected rid kind fma len = some x) :
    s.check rid kind fma len = (x.2, max fma x.1 - fma) := by
  rw [State.firstRejected] at h
  simp only [State.check, decideAccess, Nat.ne_of_lt hkind, if_false, h]

end

/-- Settles O14: the search for the first line that is not granted finds none, or the first. -/
theorem accessIsGrantedWholeOrRejected : Obligations.AccessIsGrantedWholeOrRejected := by
  unfold Obligations.AccessIsGrantedWholeOrRejected
  intro s rid kind fma len hkind hlen verdict
  have hlines : fma / 64 + ((fma + len - 1) / 64 + 1 - fma / 64) = (fma + len - 1) / 64 + 1 := by omega
  cases hfirst : s.firstRejected rid kind fma len with
  | none =>
    rw [State.check_of_permitted hkind hfirst]
    rw [State.firstRejected, firstBad_eq_none_iff, hlines] at hfirst
    exact ⟨⟨fun _ k hl hk => hfirst k hl (by omega), fun _ => rfl⟩, fun h => absurd rfl h⟩
  | some x =>
    rw [State.check_of_rejected hkind hfirst]
    obtain ⟨k, hl, hk, rfl, hbad, hbefore⟩ := firstBad_eq_some hfirst
    rw [hlines] at hk
    exact ⟨⟨fun h => absurd h hbad, fun h => h k hl (by omega)⟩,
      fun _ => ⟨k, hl, by omega, rfl, rfl, hbefore⟩⟩

/-! ### Service regions -/

theorem regionGrants_iff {v vfi p fma : Nat} : regionGrants v vfi p fma = true ↔
    bitOf v 0 = true ∧ (bitOf v 4 = true ∨ bitsOf v 15 8 = vfi) ∧ fma / 2 ^ rgLog2 v = rgBase v / 2 ^ rgLog2 v ∧
      bitOf v p = true := by
  simp only [regionGrants, Bool.and_eq_true, Bool.or_eq_true, beq_iff_eq]
  tauto

section
variable {b : AcuBank} {e : ReqEntry} {p fma : Nat}

/-- Where no region grants, the access is rejected (R201). -/
theorem servicePerm_of_ungranted (h : ∀ x ∈ b.regions, regionGrants x.2.toNat e.vfi p fma = false) :
    servicePerm b e p fma = rNoRegion := by
  have hnone : (b.regions.filter fun x => regionGrants x.2.toNat e.vfi p fma) = [] :=
    List.filter_eq_nil_iff.2 fun x hx => by simp [h x hx]
  simp [servicePerm, hnone]

/-- A region that grants without a colour check permits (R201). -/
theorem servicePerm_of_uncoloured {x : Nat × BitVec 128} (hx : x ∈ b.regions)
    (hgrants : regionGrants x.2.toNat e.vfi p fma = true) (hclr : bitOf x.2.toNat 3 = false) :
    servicePerm b e p fma = rPermitted := by
  have hmem : x ∈ b.regions.filter fun x => regionGrants x.2.toNat e.vfi p fma := List.mem_filter.2 ⟨hx, hgrants⟩
  have hany : ((b.regions.filter fun x => regionGrants x.2.toNat e.vfi p fma).any fun x => !bitOf x.2.toNat 3) = true :=
    List.any_eq_true.2 ⟨x, hmem, by simp [hclr]⟩
  simp only [servicePerm, List.isEmpty_eq_false_iff.2 (List.ne_nil_of_mem hmem), hany, Bool.false_eq_true, if_false, if_true]

/-- Where every region that grants asks for the colour, keys and colour mask decide (R203, R204). -/
theorem servicePerm_of_coloured (hsome : ∃ x ∈ b.regions, regionGrants x.2.toNat e.vfi p fma = true)
    (hall : ∀ x ∈ b.regions, regionGrants x.2.toNat e.vfi p fma = true → bitOf x.2.toNat 3 = true) :
    servicePerm b e p fma =
      if b.colour fma = 0 then rUnassigned
      else if ((if p = 1 then e.rd else e.wr) &&& b.colourMask e.vfi).getLsbD (b.colour fma) = true then rPermitted
      else rColourKey := by
  obtain ⟨x, hx, hgrants⟩ := hsome
  have hmem : x ∈ b.regions.filter fun x => regionGrants x.2.toNat e.vfi p fma := List.mem_filter.2 ⟨hx, hgrants⟩
  have hany : ((b.regions.filter fun x => regionGrants x.2.toNat e.vfi p fma).any fun x => !bitOf x.2.toNat 3) = false :=
    List.any_eq_false.2 fun y hy => by
      obtain ⟨hmem, hgrants⟩ := List.mem_filter.1 hy
      simp [hall y hmem hgrants]
  simp only [servicePerm, List.isEmpty_eq_false_iff.2 (List.ne_nil_of_mem hmem), hany, Bool.false_eq_true, if_false]

/-- A byte outside every window has colour 0 (R203). -/
theorem AcuBank.colour_of_no_window (h : b.window fma = none) : b.colour fma = 0 := by
  simp [AcuBank.colour, AcuBank.tagIndex, h]

/-- The colour is read from the windows and the tags. -/
theorem AcuBank.colour_congr {b' : AcuBank} (hw : b'.windows = b.windows) (ht : b'.tags = b.tags) :
    b'.colour fma = b.colour fma := by
  simp only [AcuBank.colour, AcuBank.tagIndex, AcuBank.window, hw, ht]

/-- The order of the regions does not matter (R201). -/
theorem servicePerm_of_perm {b' : AcuBank} (hperm : b'.regions.Perm b.regions) (hw : b'.windows = b.windows)
    (ht : b'.tags = b.tags) (hc : b'.colours = b.colours) : servicePerm b' e p fma = servicePerm b e p fma := by
  have hmask : b'.colourMask e.vfi = b.colourMask e.vfi := by simp only [AcuBank.colourMask, hc]
  have hgrant := hperm.filter fun x => regionGrants x.2.toNat e.vfi p fma
  simp only [servicePerm, hgrant.isEmpty_eq, hgrant.any_eq, AcuBank.colour_congr hw ht, hmask]

/-- A permission is granted exactly when one region grants it with no colour check or on a byte that passes it. -/
theorem servicePerm_eq_permitted_iff : servicePerm b e p fma = rPermitted ↔
    ∃ x ∈ b.regions, regionGrants x.2.toNat e.vfi p fma = true ∧ (bitOf x.2.toNat 3 = false ∨
      b.colour fma ≠ 0 ∧
        ((if p = 1 then e.rd else e.wr) &&& b.colourMask e.vfi).getLsbD (b.colour fma) = true) := by
  by_cases hopen : ∃ x ∈ b.regions, regionGrants x.2.toNat e.vfi p fma = true ∧ bitOf x.2.toNat 3 = false
  · obtain ⟨x, hx, hgrants, hclr⟩ := hopen
    exact iff_of_true (servicePerm_of_uncoloured hx hgrants hclr) ⟨x, hx, hgrants, .inl hclr⟩
  by_cases hsome : ∃ x ∈ b.regions, regionGrants x.2.toNat e.vfi p fma = true
  · have hall : ∀ x ∈ b.regions, regionGrants x.2.toNat e.vfi p fma = true → bitOf x.2.toNat 3 = true :=
      fun x hx hgrants => by
        cases hclr : bitOf x.2.toNat 3 with
        | true => rfl
        | false => exact absurd ⟨x, hx, hgrants, hclr⟩ hopen
    rw [servicePerm_of_coloured hsome hall]
    generalize (if p = 1 then e.rd else e.wr) &&& b.colourMask e.vfi = keys
    obtain ⟨x, hx, hgrants⟩ := hsome
    constructor
    · intro h
      split_ifs at h with h0 hkey
      exact ⟨x, hx, hgrants, .inr ⟨h0, hkey⟩⟩
    · rintro ⟨y, hy, hg, hclr | ⟨h0, hkey⟩⟩
      · exact absurd ⟨y, hy, hg, hclr⟩ hopen
      · rw [if_neg h0, if_pos hkey]
  · have hnone : ∀ x ∈ b.regions, regionGrants x.2.toNat e.vfi p fma = false :=
      fun x hx => Bool.eq_false_iff.2 fun hgrants => hsome ⟨x, hx, hgrants⟩
    rw [servicePerm_of_ungranted hnone]
    exact iff_of_false (by decide) fun ⟨x, hx, hgrants, _⟩ => hsome ⟨x, hx, hgrants⟩

end

theorem regionsGrantAlone : Claims.RegionsGrantWithoutPriority := by
  intro b e p fma keys passes
  refine ⟨servicePerm_eq_permitted_iff.trans ?_, fun b' => servicePerm_of_perm⟩
  simp only [regionGrants_iff, and_assoc, keys, passes]

theorem colourMatchDecides : Claims.ColourMatchDecides := fun _ _ _ _ =>
  ⟨AcuBank.colour_of_no_window, servicePerm_of_coloured, servicePerm_of_ungranted⟩

/-- Settles O15: whether a region that grants asks for no colour, some does, or none is there, decides a permission. -/
theorem regionsGrantWithoutPriority : Obligations.RegionsGrantWithoutPriority := by
  unfold Obligations.RegionsGrantWithoutPriority
  exact ⟨regionsGrantAlone, colourMatchDecides⟩

end Sys2Proof.Machine
end

section
/-!
PROOFS. The staging opcodes (R213): what each writes into the staged bank, the tag write that ends with its last tag, and
the opcodes that are BUSY while a commit is pending (R214).
-/

namespace Sys2Proof.Machine

/-! ### Fields -/

/-- A field that may hold 0 to `hi` takes the nearest value, and is clamped above `hi` (R10). -/
theorem Cmd.ranged_upTo (c : Cmd) (off n hi : Nat) :
    c.ranged off n 0 hi = (min hi (c.le off n), if c.le off n ≤ hi then none else some off) := by
  simp [Cmd.ranged, clampNat]

/-! ### Entries -/

section
variable {c : Cmd} {tk : Ticket} {s : State}

theorem opAcuRegionSet_body : opAcuRegionSet.body tk c s =
    .ok (s.stage fun b => { b with
        regions := tset 0 b.regions (min 2047 (c.le 16 2)) (BitVec.ofNat 128 (regionLegal (c.le 24 16))) })
      (min 2047 (c.le 16 2)) (minClamp (if c.le 16 2 ≤ 2047 then none else some 16) (regionClamp 6 (c.le 24 16))) := by
  simp only [opAcuRegionSet, Cmd.ranged_upTo c 16 2]

theorem opAcuPlinthSet_body : opAcuPlinthSet.body tk c s =
    .ok (s.stage fun b => { b with
        plinth := tset 0 b.plinth (min 63 (c.byte 16)) (BitVec.ofNat 128 (plinthLegal (c.le 24 16))) })
      (min 63 (c.byte 16)) (minClamp (if c.byte 16 ≤ 63 then none else some 16) (regionClamp 9 (c.le 24 16))) := by
  simp only [opAcuPlinthSet, Cmd.ranged_byte_upTo]

/-- A window that overlaps no other enabled one is written (R202). -/
theorem opAcuWindowSet_body_apart {i : Nat} {w : CWin} (hi : i = min 63 (c.byte 16)) (hw : w = (CWin.of (c.le 24 16)).legal)
    (h : ∀ x ∈ s.acu.staged.windows, x.1 ≠ i → (CWin.of x.2.toNat).en = true → w.overlaps (CWin.of x.2.toNat) = false) :
    opAcuWindowSet.body tk c s =
      .ok (s.stage fun b => { b with windows := tset 0 b.windows i (BitVec.ofNat 128 w.image) }) (if w.en then w.count else 0)
        (minClamp (if c.byte 16 ≤ 63 then none else some 16) (CWin.of (c.le 24 16)).clamp) := by
  have hany : (s.acu.staged.windows.any fun x =>
      x.1 != i && (CWin.of x.2.toNat).en && w.overlaps (CWin.of x.2.toNat)) = false :=
    List.any_eq_false.2 fun x hx hall => by
      simp only [Bool.and_eq_true, bne_iff_ne] at hall
      obtain ⟨⟨hne, hen⟩, hlap⟩ := hall
      simp [h x hx hne hen] at hlap
  subst hi hw
  simp only [opAcuWindowSet, Cmd.ranged_byte_upTo, hany, Bool.and_false, Bool.false_eq_true, if_false]

theorem opAcuReqSet_body : opAcuReqSet.body tk c s =
    .ok (s.stage fun b => { b with
        req := tset {} b.req (min 4095 (c.le 16 2)) { tget {} b.req (min 4095 (c.le 16 2)) with
          valid := bitOf (c.byte 18) 0, hostDma := bitOf (c.byte 18) 1, vfi := c.byte 19 } })
      (min 4095 (c.le 16 2)) (if c.le 16 2 ≤ 4095 then none else some 16) := by
  simp only [opAcuReqSet, Cmd.ranged_upTo c 16 2]

/-- ACU_KEYS_SET writes the masks that byte 18 names, bit 0 of each 0 (R199). -/
theorem opAcuKeysSet_body {e : ReqEntry} {mask : BitVec 256} (he : e = tget {} s.acu.staged.req (min 4095 (c.le 16 2)))
    (hmask : mask = BitVec.ofNat 256 (c.le 24 32 / 2 * 2)) : opAcuKeysSet.body tk c s =
    .ok (s.stage fun b => { b with
        req := tset {} b.req (min 4095 (c.le 16 2)) { e with
          rd := if min 2 (c.byte 18) = 1 then e.rd else mask, wr := if min 2 (c.byte 18) = 0 then e.wr else mask } })
      (min 4095 (c.le 16 2))
      (minClamp (if c.le 16 2 ≤ 4095 then none else some 16) (if c.byte 18 ≤ 2 then none else some 18)) := by
  simp only [opAcuKeysSet, Cmd.ranged_upTo c 16 2, Cmd.ranged_byte_upTo, he, hmask]

theorem opAcuPortMapSet_body {n base : Nat} (hn : n = min 16 (c.byte 20)) (hbase : base = min (c.le 18 2) (3836 - n)) :
    opAcuPortMapSet.body tk c s =
      .ok (s.stage fun b => { b with portMap := tset (0, 0) b.portMap (min 1023 (c.le 16 2)) (base, n) }) (base + 2 ^ 16 * n)
        (minClamp (if c.le 16 2 ≤ 1023 then none else some 16)
          (minClamp (if base ≠ c.le 18 2 then some 18 else none) (if c.byte 20 ≤ 16 then none else some 20))) := by
  subst hn hbase
  simp only [opAcuPortMapSet, Cmd.ranged_upTo c 16 2, Cmd.ranged_byte_upTo]

/-- ACU_TAG_SET in range, with its tag in the descriptor, is kept until its last tag is written (R213). -/
theorem opAcuTagSet_body_fill {stop : Nat} (hfirst : c.le 16 4 ≤ 1048575) (hpos : 1 ≤ c.le 20 4)
    (hend : c.le 16 4 + c.le 20 4 ≤ 1048576) (hsrc : c.byte 25 = 0) (hclamp : tk.clamp = none)
    (hstop : stop = max s.acu.stagedAt tk.ft + ceilDiv (c.le 20 4 * 1000) 2048) :
    opAcuTagSet.body tk c s = .later { s with acu := { s.acu with
        stagedAt := stop
        writes := s.acu.writes ++ [{ ticket := { tk with ft := stop }, first := c.le 16 4,
                                     tags := List.replicate (c.le 20 4) (BitVec.ofNat 8 (c.byte 24)), at' := stop }] } } := by
  have hcount : min (c.le 20 4) (1048576 - c.le 16 4) = c.le 20 4 := by omega
  have hzero : c.ranged 25 1 0 1 = (0, none) := by rw [Cmd.ranged_byte_upTo, hsrc]; rfl
  subst hstop
  simp [opAcuTagSet, tagRange, tagSetNs, Cmd.ranged_inside (Nat.zero_le _) hfirst,
    Cmd.ranged_inside (c := c) (off := 20) (n := 4) hpos (by omega : c.le 20 4 ≤ 1048576), hcount, hzero, hclamp]

end

theorem stagingWritesGoToTheStagedBank : Claims.StagingWritesGoToTheStagedBank := by
  intro c s
  refine ⟨fun h => OpSpec.completes (o := opAcuRegionSet) rfl h rfl rfl opAcuRegionSet_body,
    fun h => OpSpec.completes (o := opAcuPlinthSet) rfl h rfl rfl opAcuPlinthSet_body,
    fun h hapart => OpSpec.completes (o := opAcuWindowSet) rfl h rfl rfl (opAcuWindowSet_body_apart rfl rfl ?_),
    fun h => OpSpec.completes (o := opAcuReqSet) rfl h rfl rfl opAcuReqSet_body,
    fun h => OpSpec.completes (o := opAcuKeysSet) rfl h rfl rfl (opAcuKeysSet_body ?_ rfl),
    fun h => OpSpec.completes (o := opAcuPortMapSet) rfl h rfl rfl (opAcuPortMapSet_body rfl rfl),
    fun h hfirst hpos hend hsrc => OpSpec.holds (o := opAcuTagSet) rfl h rfl rfl
      (opAcuTagSet_body_fill hfirst hpos hend hsrc rfl rfl)⟩
  · simpa only [State.accept_acu] using hapart
  · rw [State.accept_acu]

/-! ### Tags -/

theorem tget_append {α : Type} (d : α) (t u : Tbl α) (k : Nat) : tget d (t ++ u) k = tget (tget d u k) t k := by
  induction t with
  | nil => rfl
  | cons x t ih => simp only [List.cons_append, tget, ih]

/-- A selection by key keeps what its keys hold. -/
theorem tget_filter_key {α : Type} (d : α) (p : Nat → Bool) (t : Tbl α) (k : Nat) :
    tget d (t.filter fun x => p x.1) k = if p k then tget d t k else d := by
  induction t with
  | nil => simp [tget]
  | cons x t ih =>
    obtain ⟨j, a⟩ := x
    by_cases hj : j = k
    · subst hj
      cases hp : p j <;> simp [hp, tget, ih]
    · cases hp : p j <;> simp [hp, tget, ih, hj]

/-- The table of the tags `vs` from tag `i` on, tags of colour 0 left out. -/
def tagRun (vs : List Byte) (i : Nat) : Tbl Byte :=
  (vs.zipIdx i).filterMap fun v => if v.1 = 0 then none else some (v.2, v.1)

/-- A run holds its tags that are not 0. -/
theorem tget_tagRun (d : Byte) (vs : List Byte) (i k : Nat) :
    tget d (tagRun vs i) k = if i ≤ k ∧ vs.getD (k - i) 0 ≠ 0 then vs.getD (k - i) 0 else d := by
  induction vs generalizing i with
  | nil => simp [tagRun, tget]
  | cons v vs ih =>
    have hcons : tget d (tagRun (v :: vs) i) k = if i = k ∧ v ≠ 0 then v else tget d (tagRun vs (i + 1)) k := by
      by_cases hv : v = 0
      · simp [tagRun, hv]
      · simp only [tagRun, List.zipIdx_cons, List.filterMap_cons, hv, if_false, tget, ne_eq, not_false_eq_true, and_true]
    rw [hcons, ih]
    obtain hlt | rfl | hgt := lt_trichotomy k i
    · rw [if_neg (by omega), if_neg (by omega), if_neg (by omega)]
    · simp
    · have hsub : k - i = k - (i + 1) + 1 := by omega
      rw [if_neg (by omega), hsub, List.getD_cons_succ]
      simp only [Nat.succ_le_of_lt hgt, hgt.le]

/-- The tags of the range are the new ones, and the others are as they were. -/
theorem tget_setTags (vs : List Byte) (t : Tbl Byte) (i k : Nat) :
    tget 0 (setTags vs t i) k = if i ≤ k ∧ k < i + vs.length then vs.getD (k - i) 0 else tget 0 t k := by
  have hread : tget 0 (setTags vs t i) k =
      tget (tget (if i + vs.length ≤ k then tget 0 t k else 0) (tagRun vs i) k) (t.filter fun x => decide (x.1 < i)) k := by
    have hfilter := tget_filter_key 0 (fun j => decide (i + vs.length ≤ j)) t k
    simp only [decide_eq_true_eq] at hfilter
    rw [← hfilter, ← tget_append, ← tget_append]
    rfl
  rw [hread, tget_filter_key _ (fun j => decide (j < i)), tget_tagRun]
  obtain hbelow | hfrom := Nat.lt_or_ge k i
  · have hnot : ¬ i ≤ k := Nat.not_le.2 hbelow
    have hfar : ¬ i + vs.length ≤ k := by omega
    simp [hbelow, hnot, hfar]
  obtain hin | hbeyond := Nat.lt_or_ge k (i + vs.length)
  · generalize vs.getD (k - i) 0 = v
    simp only [Nat.not_lt.2 hfrom, Nat.not_le.2 hin, hfrom.le, hin, decide_false, Bool.false_eq_true, if_false, true_and,
      and_self, if_true]
    split
    next => rfl
    next hzero => exact (not_not.1 hzero).symm
  · rw [List.getD_eq_default _ _ (by omega)]
    simp [hbeyond, Nat.not_lt.2 hfrom, Nat.not_lt.2 hbeyond]

theorem tagWriteEndsWithItsLastTag : Claims.TagWriteEndsWithItsLastTag := by
  intro s w ws h
  refine ⟨fun hearly => ?_, fun hdue => ?_, fun k => tget_setTags ..⟩
  · simp only [State.tagsWritten, h, Nat.not_le.2 hearly, if_false]
  · simp only [State.tagsWritten, h, hdue, if_true]

/-! ### During a commit -/

/-- What the take refuses ends with the status of the refusal, and has no other effect (R214). -/
theorem OpSpec.submit_of_refused {o : OpSpec} {c : Cmd} {s : State} {st : Nat} (here : o.absent c (s.accept c) = false)
    (ready : s.opReady o.code = true) (hmem : o.needsMem c = false) (free : s.mscBusy o.code = false)
    (h : o.refuse c (s.accept c) = some st) :
    o.submit c s = (s.accept c).complete (c.ticket o.code s.ft) st 0 := by
  simp [OpSpec.submit, OpSpec.issue, here, ready, hmem, free, h]

/-- The opcodes that write the staged bank, discard it or commit it. -/
def stagingOps : List OpSpec :=
  [opAcuRegionSet, opAcuPlinthSet, opAcuWindowSet, opAcuTagSet, opAcuReqSet, opAcuKeysSet, opAcuPortMapSet, opVfiColourSet,
    opAcuDiscard, opAcuCommit]

/-- They wait for the sweep of the SRAM alone, and their take refuses them while a commit is pending. -/
theorem stagingOps_gate {o : OpSpec} (ho : o ∈ stagingOps) (c : Cmd) (s : State) :
    s.opReady o.code = s.glb.sramSwept ∧ o.needsMem c = false ∧ s.mscBusy o.code = false ∧
      (s.acu.commitPending = true → o.refuse c s = some stBusy) := by
  have hbusy : ∀ op, op < 0xB0 → op ≠ 0x93 → s.mscBusy op = false := fun op hlt hne => by simp [State.mscBusy, hlt, hne]
  simp only [stagingOps, List.mem_cons, List.not_mem_nil, or_false] at ho
  rcases ho with rfl | rfl | rfl | rfl | rfl | rfl | rfl | rfl | rfl | rfl <;>
    refine ⟨rfl, rfl, hbusy _ (by decide) (by decide), fun h => ?_⟩
  iterate 9 exact if_pos h
  simp [opAcuCommit, h]

theorem stagingIsBusyDuringACommit : Claims.StagingIsBusyDuringACommit := by
  intro c s
  refine ⟨fun o ho here hswept hpending => ?_, fun hswept hdrain => ?_⟩
  · obtain ⟨hready, hmem, hfree, -⟩ := stagingOps_gate ho c s
    obtain ⟨-, -, -, hrefuse⟩ := stagingOps_gate ho c (s.accept c)
    exact OpSpec.submit_of_refused here (hready.trans hswept) hmem hfree (hrefuse (by rwa [State.accept_acu]))
  · obtain ⟨hready, hmem, hfree, -⟩ := stagingOps_gate (o := opAcuCommit) (by simp [stagingOps]) c s
    have hrefuse : opAcuCommit.refuse c (s.accept c) = some stBusy := by
      have hdraining : (s.accept c).draining = s.draining := by simp only [State.draining, State.accept_acu]
      simp [opAcuCommit, hdraining, hdrain]
    exact OpSpec.submit_of_refused rfl (hready.trans hswept) hmem hfree hrefuse

/-- Settles O12: each opcode's body writes its entry, the tags of a write replace those of its range, and the take of a
staging opcode asks for the pending commit. -/
theorem stagingWrites : Obligations.StagingWrites := by
  unfold Obligations.StagingWrites
  exact ⟨stagingWritesGoToTheStagedBank, tagWriteEndsWithItsLastTag, stagingIsBusyDuringACommit⟩

end Sys2Proof.Machine
end

section
/-!
PROOFS. Commit and drain (R214 to R219): the epoch slots, the commit at its boundary, and the zero sum that ends it.
-/

namespace Sys2Proof.Machine

/-! ### Epoch slots -/

@[simp] theorem Acu.slotAt_setSlot_self (a : Acu) (i : Nat) (v : EpochSlot) : (a.setSlot i v).slotAt i = v := by
  have hlt : i % 4 < 4 := Nat.mod_lt _ (by decide)
  simp only [Acu.setSlot, Acu.slotAt]
  interval_cases i % 4 <;> rfl

/-- A write of the next slot leaves the slot, as there are four. -/
theorem Acu.slotAt_setSlot_succ (a : Acu) (i : Nat) (v : EpochSlot) : (a.setSlot (i + 1) v).slotAt i = a.slotAt i := by
  have hlt : i % 4 < 4 := Nat.mod_lt _ (by decide)
  have hsucc : (i + 1) % 4 = (i % 4 + 1) % 4 := by omega
  simp only [Acu.setSlot, Acu.slotAt, hsucc]
  interval_cases i % 4 <;> rfl

@[simp] theorem Acu.setSlot_staged (a : Acu) (i : Nat) (v : EpochSlot) : (a.setSlot i v).staged = a.staged := by
  unfold Acu.setSlot
  split <;> rfl

@[simp] theorem Acu.setSlot_service (a : Acu) (i : Nat) (v : EpochSlot) : (a.setSlot i v).service = a.service := by
  unfold Acu.setSlot
  split <;> rfl

/-! ### The frame and the FTU's notes -/

@[simp] theorem State.framed_acu (s u : State) : (s.framed u).acu = u.acu := by
  obtain ⟨g, f, m, p, o, h⟩ := s.framed_writes u; rw [h]

@[simp] theorem OpSpec.noted_acu (o : OpSpec) (l : Launch) (s t : State) : (o.noted l s t).acu = t.acu := by
  unfold OpSpec.noted State.noteLaunched
  split
  · rfl
  · split <;> simp

/-! ### The commit -/

/-- The slot of the epoch that a commit ends: it drains from the action's instant on, and holds the ticket (R215, R217). -/
def Acu.endedSlot (a : Acu) (tk : Ticket) : EpochSlot :=
  { a.slotAt a.epoch with
    epoch := some a.epoch, endedAt := some tk.ft, zeroSeen := false, forced := 0, ticket := some tk
    newEpoch := (a.epoch + 1) % 2 ^ 32, cutDone := false, ct := a.commitCt, latched := (a.slotAt a.epoch).total }

/-- The unit after a commit: the slots, the banks, the mode and the epoch (R215). -/
theorem State.commit_acu (s : State) (tk : Ticket) (mode : Nat) : (s.commit tk mode).acu =
    { (s.acu.setSlot s.acu.epoch (s.acu.endedSlot tk)).setSlot (s.acu.epoch + 1) {} with
      active := s.acu.staged, service := commitService s.acu.service mode, epoch := (s.acu.epoch + 1) % 2 ^ 32
      commitPending := false, bad := [] } := by
  simp only [State.commit, State.cntAcu_acu, State.event_acu, Acu.setSlot_staged, Acu.setSlot_service, Acu.endedSlot]

theorem State.commit_staged (s : State) (tk : Ticket) (mode : Nat) : (s.commit tk mode).acu.staged = s.acu.staged := by
  simp [State.commit_acu]

theorem State.commit_endedSlot (s : State) (tk : Ticket) (mode : Nat) :
    (s.commit tk mode).acu.slotAt s.acu.epoch = s.acu.endedSlot tk := by
  rw [State.commit_acu]
  exact (Acu.slotAt_setSlot_succ ..).trans (Acu.slotAt_setSlot_self ..)

/-- A due commit is executed with the mode of byte 16, and its epoch's slot holds the ticket. -/
theorem launchHolds_acuCommit {l : Launch} {s : State} (h : Due opAcuCommit l s) :
    LaunchHolds opAcuCommit l s fun tk t =>
      t.commit { tk with clamp := minClamp tk.clamp (if l.cmd.byte 16 ≤ 2 then none else some 16) } (min 2 (l.cmd.byte 16)) :=
  OpSpec.launchHolds h rfl (by simp only [opAcuCommit, Cmd.ranged_byte_upTo])

theorem commitMakesTheStagedBankActive : Claims.CommitMakesTheStagedBankActive := by
  intro c l s
  refine ⟨fun h => OpSpec.takesPlace rfl h rfl, fun h => ⟨_, launchHolds_acuCommit h, ?_⟩⟩
  simp only [State.framed_acu, OpSpec.noted_acu]
  refine ⟨?_, ?_, ?_, ?_, ?_, ?_, ?_⟩
  · rw [State.commit_acu]; rfl
  · exact State.commit_staged ..
  · rw [State.commit_acu]; rfl
  · rw [State.commit_acu]
  · rw [State.commit_acu]; rfl
  · exact congrArg EpochSlot.endedAt (State.commit_endedSlot ..)
  · exact congrArg (fun x : EpochSlot => x.ticket.isSome) (State.commit_endedSlot ..)

/-! ### The drain -/

section
variable {s : State} {i b : Nat} {tk : Ticket} (hend : (s.acu.slotAt i).endedAt = some b)
include hend

/-- After a zero sum the slot is free and its ticket completes (R219). -/
theorem State.drainSlot_of_zeroSeen (htk : (s.acu.slotAt i).ticket = some tk) (hseen : (s.acu.slotAt i).zeroSeen = true) :
    s.drainSlot i = ({ s with acu := s.acu.setSlot i {} } : State).complete tk stOk
      ((s.acu.slotAt i).newEpoch % 65536 * 65536 + min 65535 (s.acu.slotAt i).forced) := by
  simp only [State.drainSlot, hend, hseen, htk, if_true]

/-- Before it the sum is latched, and a zero after the boundary of the commit is noted (R217, R219). -/
theorem State.drainSlot_of_unseen (hseen : (s.acu.slotAt i).zeroSeen = false) :
    (s.drainSlot i).acu.slotAt i = { s.acu.slotAt i with
      latched := (s.acu.slotAt i).total, zeroSeen := decide ((s.acu.slotAt i).total = 0 ∧ b < s.ftu.boundary) } := by
  simp only [State.drainSlot, hend, hseen, Bool.false_eq_true, if_false, Acu.slotAt_setSlot_self]

end

theorem commitCompletesAfterAZeroSum : Claims.CommitCompletesAfterAZeroSum := by
  intro s i b tk _ hend htk
  refine ⟨State.drainSlot_of_zeroSeen hend htk, fun hseen => ?_⟩
  rw [State.drainSlot_of_unseen hend hseen]
  exact ⟨decide_eq_true_iff, rfl, htk⟩

/-- Settles O13: the commit writes its epoch's slot and the next one, and a drain frees the slot or latches its sum. -/
theorem commitSwitchesAndDrains : Obligations.CommitSwitchesAndDrains := by
  unfold Obligations.CommitSwitchesAndDrains
  exact ⟨commitMakesTheStagedBankActive, commitCompletesAfterAZeroSum⟩

end Sys2Proof.Machine
end

section
/-!
PROOFS. The queries of the Access Control Unit (R205, R222), the entries that the central table answers (R210, R212), and
forced settlement (R218).
-/

namespace Sys2Proof.Machine

/-! ### Queries -/

@[simp] theorem State.accept_check (s : State) (c : Cmd) (rid : Option Nat) (kind fma len : Nat) :
    (s.accept c).check rid kind fma len = s.check rid kind fma len := by
  simp only [State.check, State.accept_acu]

@[simp] theorem State.accept_oldestDrain (s : State) (c : Cmd) : (s.accept c).oldestDrain = s.oldestDrain := by
  simp only [State.oldestDrain, State.accept_acu]

/-- ACU_QUERY of fields within their ranges, for a requester or for none (R205). -/
theorem opAcuQuery_body_inside {c : Cmd} {tk : Ticket} {s : State} (hfma : c.le 16 8 < 2 ^ 56) (hlen : 1 ≤ c.le 24 2)
    (hlen' : c.le 24 2 ≤ 4096) (hrid : c.le 26 2 ≤ 4095 ∨ c.le 26 2 = 0xFFFF) (hkind : c.byte 28 ≤ 3) (hbank : c.byte 29 ≤ 1)
    {rid : Option Nat} (hr : rid = if c.le 26 2 = 0xFFFF then none else some (c.le 26 2)) {r : Nat × Nat}
    (hres : r = if c.byte 29 = 0 then s.check rid (c.byte 28) (c.le 16 8) (c.le 24 2)
      else decideAccess (if s.acu.commitPending then commitService s.acu.service s.acu.commitMode else s.acu.service)
        s.acu.plinthDma s.acu.staged [] rid (c.byte 28) (c.le 16 8) (c.le 24 2)) :
    opAcuQuery.body tk c s = .ok s (if r.1 = 0 then 0 else r.2 % 4096 + 2 ^ 16 * r.1) := by
  have hnamed : (if c.le 26 2 = 0xFFFF then none else some (min 4095 (c.le 26 2))) = rid := by
    rw [hr]
    split
    · rfl
    · rw [Nat.min_eq_right (by omega)]
  have hunclamped : ¬ (c.le 26 2 ≠ 0xFFFF ∧ 4095 < c.le 26 2) := by omega
  have hlast : c.le 16 8 ≤ 2 ^ 56 - 1 := by omega
  simp only [opAcuQuery, Cmd.ranged_inside (Nat.zero_le _) hlast, Cmd.ranged_inside hlen hlen',
    Cmd.ranged_byte (Nat.zero_le _) hkind, Cmd.ranged_byte (Nat.zero_le _) hbank, hnamed, if_neg hunclamped, ← hres,
    minClamp_none_left]

theorem accessQueriesAnswerTheDecision : Claims.AccessQueriesAnswerTheDecision := by
  intro c s
  refine ⟨fun h => OpSpec.completes (o := opAcuDiscard) rfl h rfl rfl rfl,
    fun h hfma hlen hlen' hrid hkind hbank => OpSpec.completes (o := opAcuQuery) rfl h rfl rfl
      (opAcuQuery_body_inside hfma hlen hlen' hrid hkind hbank rfl ?_),
    fun h hfma => OpSpec.completes (o := opAcuTagQuery) rfl h rfl rfl ?_,
    fun h => OpSpec.completes (o := opAcuDrainQuery) rfl h rfl rfl ?_⟩
  · simp only [State.accept_check, State.accept_acu]
  · have hlast : c.le 16 8 ≤ 2 ^ 56 - 1 := by omega
    simp only [opAcuTagQuery, Cmd.ranged_inside (Nat.zero_le _) hlast, State.accept_acu]
    rfl
  · simp only [opAcuDrainQuery, State.accept_oldestDrain]
    rfl

/-! ### Fetched entries -/

@[simp] theorem State.cntStn_acu (s : State) (island code : Nat) (vfi : Option Nat) (n : Nat) :
    (s.cntStn island code vfi n).acu = s.acu := by
  unfold State.cntStn
  dsimp only
  split
  · simp
  split <;> simp

/-- Where at most two fetches are open, each has its turn (R46). -/
theorem State.fetchTurn_of_few {s : State} (h : s.acu.fetches.length ≤ 2) {f : TagFetch} (hf : f ∈ s.acu.fetches) :
    s.fetchTurn f = true := by
  have hfewer : (s.acu.fetches.filter fun g => keyLt (g.key s.slot) (f.key s.slot)).length < s.acu.fetches.length :=
    List.length_filter_lt_length_iff_exists.2 ⟨f, hf, by simp [keyLt_irrefl]⟩
  simp only [State.fetchTurn, decide_eq_true_iff]
  omega

/-- The unit after a line has entered a station's cache (R210). -/
theorem State.loadTags_acu (s : State) (island line : Nat) : (s.loadTags island line).acu = { s.acu with
    fetches := s.acu.fetches.filter fun f => !(f.island == island && f.line == line)
    cached := tset [] s.acu.cached island ((line :: (tget [] s.acu.cached island).erase line).take 256) } := by
  unfold State.loadTags
  dsimp only
  split <;> simp

theorem State.fetchAnswer_tag_of_few {s : State} (h : s.acu.fetches.length ≤ 2) (island : Nat) (i : Fin 1048576) :
    s.fetchAnswer island (.tag i) false = s.loadTags island (i.val / 64) := by
  have hturn : ((s.acu.fetchOf island (i.val / 64)).any fun f => !s.fetchTurn f) = false := by
    cases hopen : s.acu.fetchOf island (i.val / 64) with
    | none => rfl
    | some f => simp [State.fetchTurn_of_few h (List.mem_of_find?_eq_some hopen)]
  simp only [State.fetchAnswer, hturn, Bool.false_eq_true, if_false]

/-- An uncorrectable entry is marked bad, once (R212). -/
theorem State.entryBad_acu (s : State) (table index : Nat) : (s.entryBad table index).acu =
    if s.acu.bad.contains (table, index) then s.acu
    else { s.acu with bad := (table, index) :: s.acu.bad, err := s.acu.err ||| 2 } := by
  unfold State.entryBad
  split <;> simp

theorem State.mem_bad_entryBad (s : State) (table index : Nat) : (table, index) ∈ (s.entryBad table index).acu.bad := by
  rw [State.entryBad_acu]
  split
  next hin => exact List.contains_iff_mem.1 hin
  next => exact List.mem_cons_self

theorem State.entryBad_banks (s : State) (table index : Nat) : (s.entryBad table index).acu.active = s.acu.active ∧
    (s.entryBad table index).acu.staged = s.acu.staged := by
  rw [State.entryBad_acu]
  split <;> exact ⟨rfl, rfl⟩

theorem exec_acuFetchResponse {s : State} (h : s.held = none) (island : Island) (want : AcuEntryId) (unc : Bool) :
    exec (.acuFetchResponse island want unc) s = .next (s.framed (s.fetchAnswer island want unc)) :=
  act_running h fun s => s.fetchAnswer island want unc

/-! ### Forced settlement -/

/-- Every open access of epoch `e` settled: tracker entries, home requests, relocation and staging reads (Table 08-12). -/
def State.forceEpoch (s : State) (e : Nat) : State :=
  ((List.range 16).foldl (fun s k =>
    (s.forceHome k (fun w => !w.recheck && isCounted w.msg && s.epochFor w.msg == e)
      (fun t => !t.settled && isCounted t.msg && s.epochFor t.msg == e) false).1)
    (s.forceTrackers (fun t => !t.settled && t.epoch == e) false).1).forceRest e

/-- Slot `i` with its counts cleared and `n` settlements noted (R218). -/
def State.noteCut (s : State) (i n : Nat) : State :=
  let a := s.acu.setSlot i { s.acu.slotAt i with counts := [], forced := (s.acu.slotAt i).forced + n, cutDone := true }
  let u := { s with acu := { a with forced := satAdd 32 a.forced n, err := if n = 0 then a.err else a.err ||| 4 } }
  if n = 0 then u else u.cntAcu 0xA7 none n

theorem State.cutSlot_of_due {s : State} {i e : Nat} (h : s.cutDue i = some e) :
    s.cutSlot i = (s.forceEpoch e).noteCut i (s.acu.slotAt i).total.toNat := by
  simp only [State.cutSlot, h]
  rfl

theorem State.slotAt_noteCut (s : State) (i n : Nat) : (s.noteCut i n).acu.slotAt i =
    { s.acu.slotAt i with counts := [], forced := (s.acu.slotAt i).forced + n, cutDone := true } := by
  have hslot := s.acu.slotAt_setSlot_self i
    { s.acu.slotAt i with counts := [], forced := (s.acu.slotAt i).forced + n, cutDone := true }
  simp only [State.noteCut]
  split <;> exact hslot

theorem accessEvents : Claims.AccessEvents := by
  intro isl i s h
  refine ⟨fun hfew => ⟨_, exec_acuFetchResponse h .., ?_⟩, ⟨_, exec_acuFetchResponse h .., ?_⟩,
    fun r => exec_acuFetchResponse h .., act_running h _, fun u k e hdue => ?_⟩
  · rw [State.framed_acu, State.fetchAnswer_tag_of_few hfew, State.loadTags_acu]
    refine ⟨?_, rfl, rfl⟩
    rw [tget_tset_self]
    exact List.mem_cons_self
  · rw [State.framed_acu]
    exact ⟨s.mem_bad_entryBad 4 i, s.entryBad_banks 4 i⟩
  · rw [State.cutSlot_of_due hdue, State.slotAt_noteCut]
    exact ⟨rfl, rfl⟩

/-- Settles O16: the queries' bodies leave the state, an answered fetch writes the station's cache or the bad entries
alone, and a forced slot has its counts cleared. -/
theorem accessQueriesAndEvents : Obligations.AccessQueriesAndEvents := by
  unfold Obligations.AccessQueriesAndEvents
  exact ⟨accessQueriesAnswerTheDecision, accessEvents⟩

end Sys2Proof.Machine
end

section
/-!
PROOFS. Local addresses (R229): the channel of a granule is its number within its 8 KiB block under a mask that the bits
above fold into, so that channel and channel address together are the local address. Slices, directory sets and store
buckets are in range (R136, R168, R175).
-/

namespace Sys2Proof.Machine

/-! ### The maps in terms of the granule's number, its block and the offset in the granule -/

theorem fold5_eq_foldl (x : Nat) : fold5 x = (List.range 6).foldl (fun c i => c ^^^ x / 2 ^ (5 * i) % 32) 0 := by
  simp only [fold5, Nat.shiftRight_eq_div_pow]

theorem fold5_lt (x : Nat) : fold5 x < 32 := by
  rw [fold5_eq_foldl]
  exact foldl_xor_lt (w := 5) (fun _ => Nat.mod_lt _ (by decide)) _ (by decide)

/-- The groups above the lowest one are those of the number without its lowest five bits. -/
theorem fold5_step {x : Nat} (hx : x < 2 ^ 30) : fold5 x = (x % 32) ^^^ fold5 (x / 32) := by
  have hgroup (i : Nat) : x / 32 / 2 ^ (5 * i) = x / 2 ^ (5 * (i + 1)) := by
    rw [Nat.div_div_eq_div_mul, ← Nat.pow_add 2 5, Nat.mul_add, Nat.add_comm]
  have htop : x / 1073741824 = 0 := Nat.div_eq_of_lt hx
  simp [fold5_eq_foldl, List.range_succ, hgroup, htop, Nat.xor_assoc]

theorem channelOf_eq (la : Nat) : channelOf la = (la / 256 % 32) ^^^ fold5 (la / 8192) := by
  simp only [channelOf, Nat.shiftRight_eq_div_pow, Nat.reducePow]

theorem caOf_eq (la : Nat) : caOf la = la / 8192 * 256 + la % 256 := by
  simp only [caOf, Nat.shiftRight_eq_div_pow, Nat.reducePow]

theorem channelOf_lt (la : Nat) : channelOf la < 32 := by
  rw [channelOf_eq]
  exact Nat.xor_lt_two_pow (n := 5) (Nat.mod_lt _ (by decide)) (fold5_lt _)

theorem bankOf_eq (ca : Nat) : bankOf ca = (ca / 2 ^ 11 % 16) ^^^ (ca / 2 ^ 15 % 16) := rfl

/-- Granule `i` of block `base` lies on channel `i` under the block's mask. -/
theorem channelOf_granule (base : Nat) {i : Nat} (hi : i < 32) : channelOf (8192 * base + 256 * i) = i ^^^ fold5 base := by
  rw [channelOf_eq]
  congr 1
  · omega
  · congr 1
    omega

/-- The lines of a granule share their channel. -/
theorem channelOf_in_granule (g : Nat) {off : Nat} (h : off < 256) : channelOf (256 * g + off) = channelOf (256 * g) := by
  rw [channelOf_eq, channelOf_eq, show (256 * g + off) / 256 = 256 * g / 256 by omega,
    show (256 * g + off) / 8192 = 256 * g / 8192 by omega]

/-- The lines of a granule have their channel addresses in one run of 256 bytes. -/
theorem caOf_in_granule (g : Nat) {off : Nat} (h : off < 256) : caOf (256 * g + off) = 256 * (g / 32) + off := by
  rw [caOf_eq]
  omega

theorem localAddressesMapToChannels : Claims.LocalAddressesMapToChannels := by
  refine ⟨fun la => ⟨channelOf_eq la, caOf_eq la⟩, ⟨rfl, fun x => fold5_step⟩, fun base c hc => ?_,
    fun g off hoff => ?_, bankOf_eq⟩
  · have hlt : c ^^^ fold5 base < 32 := Nat.xor_lt_two_pow (n := 5) hc (fold5_lt base)
    refine ⟨c ^^^ fold5 base, hlt, ?_, fun j hj hjc => ?_⟩
    · rw [channelOf_granule base hlt, Nat.xor_xor_cancel_right]
    · rw [← hjc, channelOf_granule base hj, Nat.xor_xor_cancel_right]
  · have hca := caOf_in_granule g hoff
    have hca₀ : caOf (256 * g) = 256 * (g / 32) := caOf_in_granule g (off := 0) (by decide)
    refine ⟨channelOf_in_granule g hoff, ?_, ?_⟩
    · rw [bankOf_eq, bankOf_eq, hca, hca₀, show (256 * (g / 32) + off) / 2 ^ 11 = 256 * (g / 32) / 2 ^ 11 by omega,
        show (256 * (g / 32) + off) / 2 ^ 15 = 256 * (g / 32) / 2 ^ 15 by omega]
    · rw [rowOf, rowOf, hca, hca₀]
      omega

/-! ### The maps lose nothing -/

/-- A local address is recovered from its channel and channel address. -/
theorem laOf_channelOf_caOf (la : Nat) : laOf (channelOf la) (caOf la) = la := by
  have hblock : caOf la / 256 = la / 8192 := by rw [caOf_eq]; omega
  have hoff : caOf la % 256 = la % 256 := by rw [caOf_eq]; omega
  rw [laOf, hblock, hoff, channelOf_eq, Nat.xor_xor_cancel_right]
  omega

/-- The channel address and the granule's number in its block, of a local address put together from a pair. -/
theorem channelOf_caOf_laOf {ch : Nat} (ca : Nat) (h : ch < 32) :
    channelOf (laOf ch ca) = ch ∧ caOf (laOf ch ca) = ca := by
  have hlt : ch ^^^ fold5 (ca / 256) < 32 := Nat.xor_lt_two_pow (n := 5) h (fold5_lt _)
  have hla : laOf ch ca = 256 * (32 * (ca / 256) + (ch ^^^ fold5 (ca / 256))) + ca % 256 := by
    rw [laOf]
    omega
  have hoff : ca % 256 < 256 := Nat.mod_lt _ (by decide)
  constructor
  · rw [hla, channelOf_in_granule _ hoff, Nat.mul_add, ← Nat.mul_assoc, channelOf_granule _ hlt, Nat.xor_xor_cancel_right]
  · rw [hla, caOf_in_granule _ hoff]
    omega

/-! ### Slices, directory sets and store buckets -/

theorem sliceOf_lt (fma : Nat) : sliceOf fma < 16 := by
  rw [sliceOf_eq_xor]
  exact Nat.xor_lt_two_pow (n := 4) (Nat.mod_lt _ (by decide)) (sliceMask_lt fma)

/-- The lines of an aligned KiB lie in different slices. -/
theorem sliceOf_line_inj {base i j : Nat} (hi : i < 16) (hj : j < 16)
    (h : sliceOf (1024 * base + 64 * i) = sliceOf (1024 * base + 64 * j)) : i = j := by
  have hbase : 1024 * base = 1024 * base / 1024 * 1024 := by omega
  rw [hbase, sliceOf_line _ hi, sliceOf_line _ hj] at h
  rw [← Nat.xor_xor_cancel_right i (sliceMask (1024 * base)), h, Nat.xor_xor_cancel_right]

/-- A set number is one of the 4,096 of one of the `b` arrays (R168). -/
theorem setOf_lt {b : Nat} (fma : Nat) (hb : 0 < b) : Machine.setOf b fma < b * 4096 := by
  have harray : bitsOf fma 55 22 % b < b := Nat.mod_lt _ hb
  have hset : bitsOf fma 21 10 ^^^ (bitsOf fma 55 22 ^^^ bitsOf fma 55 22 >>> 12 ^^^ bitsOf fma 55 22 >>> 24) % 4096 < 4096 :=
    Nat.xor_lt_two_pow (n := 12) (Nat.mod_lt _ (by decide)) (Nat.mod_lt _ (by decide))
  have hall : (bitsOf fma 55 22 % b + 1) * 4096 ≤ b * 4096 := Nat.mul_le_mul_right _ harray
  simp only [Machine.setOf]
  omega

theorem addressMapsLoseNothing : Claims.AddressMapsAreExact :=
  ⟨laOf_channelOf_caOf, fun _ => channelOf_caOf_laOf, channelOf_lt, fun _ _ _ => sliceOf_line_inj, sliceOf_lt,
    fun _ => setOf_lt, fun _ _ => Nat.mod_lt _⟩

/-- Settles O38: XOR with the mask of a block permutes its 32 channels, and with that of a KiB its 16 slices. -/
theorem addressMapsAreExact : Obligations.AddressMapsAreExact := by
  unfold Obligations.AddressMapsAreExact
  exact ⟨localAddressesMapToChannels, addressMapsLoseNothing⟩

end Sys2Proof.Machine
end

section
/-!
PROOFS. Reads under the line code: what the decoder's verdict does to the read and its line (R235, R236, R243), and what is
counted, recorded and retired on its account (R245, R246, R248).
-/

namespace Sys2Proof.Machine

/-! ### A line as it is read without an error on the way -/

/-- A line's byte 7 of metadata gives its bits back. -/
theorem Line.withMeta7_meta7 (l : Line) : l.withMeta7 l.meta7 = l := by
  obtain ⟨data, poison, written, rsv, chk⟩ := l
  have hrsv : BitVec.ofNat 6 ((bit poison + 2 * bit written + 4 * rsv.toNat) / 4) = rsv := by
    apply BitVec.eq_of_toNat_eq
    have hlt := rsv.isLt
    cases poison <;> cases written <;> simp [bit] <;> omega
  have hpoison : (bit poison + 2 * bit written + 4 * rsv.toNat) % 2 = 1 ↔ poison = true := by
    cases poison <;> cases written <;> simp [bit] <;> omega
  have hwritten : (bit poison + 2 * bit written + 4 * rsv.toNat) / 2 % 2 = 1 ↔ written = true := by
    cases poison <;> cases written <;> simp [bit] <;> omega
  simp [Line.withMeta7, Line.meta7, hpoison, hwritten, hrsv]

@[simp] theorem Line.read_intact (l : Line) : (l.read {}).1 = l := by
  have hdata : ({ l with data := l.data ^^^ 0 } : Line) = l := by simp
  have hmeta : l.meta7 ^^^ (0 : BitVec 64).toNat >>> 56 = l.meta7 := by simp
  simp only [Line.read, hdata, hmeta, Line.withMeta7_meta7]

/-! ### What counting and recording leave alone -/

/-- What a verdict writes before anything follows from it: the lines of the LPDDR6, the count of uncorrectable lines, and the
error counts of channel `ch`. -/
def State.readBook (s : State) (ch : Nat) : Tbl (Option Line) × List (Nat × Nat × Bool) × Nat × Nat × Nat :=
  (s.mem.lines, s.mem.fills, s.mem.ueTotal, (s.chan ch).ce, (s.chan ch).ue)

/-- The book says what every line is, and the counts. -/
theorem State.readBook_eq {s t : State} {ch : Nat} (h : t.readBook ch = s.readBook ch) :
    (∀ k, t.line k = s.line k) ∧ t.mem.ueTotal = s.mem.ueTotal ∧ (t.chan ch).ce = (s.chan ch).ce ∧
      (t.chan ch).ue = (s.chan ch).ue := by
  simp only [State.readBook, Prod.mk.injEq] at h
  obtain ⟨hlines, hfills, htotal, hce, hue⟩ := h
  exact ⟨fun k => by simp only [State.line, Mem.unlisted, hlines, hfills], htotal, hce, hue⟩

section
variable (s : State) (ch : Nat)

@[simp] theorem State.readBook_cntMem (m code n : Nat) : (s.cntMem m code n).readBook ch = s.readBook ch := rfl

@[simp] theorem State.readBook_tally (i n : Nat) : (s.tally i n).readBook ch = s.readBook ch := by
  simp [State.readBook, State.chan]

@[simp] theorem State.readBook_record (cause island t64 : Nat) (fields : List (Nat × Nat)) :
    (s.record cause island t64 fields).readBook ch = s.readBook ch := by
  simp [State.readBook, State.chan]

@[simp] theorem State.readBook_setRetire (i : Nat) (v : Retire) : (s.setRetire i v).readBook ch = s.readBook ch := rfl

/-- The error bits of the LPDDR6 are not in the book. -/
@[simp] theorem State.readBook_setErr (e : BitVec 6) :
    ({ s with mem := { s.mem with err := e } } : State).readBook ch = s.readBook ch := rfl

theorem State.readBook_setChan {v : ChanSt} (hce : v.ce = (s.chan ch).ce) (hue : v.ue = (s.chan ch).ue) :
    (s.setChan ch v).readBook ch = s.readBook ch := by
  simp only [State.readBook, State.chan_setChan_self, hce, hue]
  rfl

@[simp] theorem State.readBook_laneError (lane : Nat) : (s.laneError ch lane).readBook ch = s.readBook ch := by
  unfold State.laneError
  dsimp only
  split
  · rw [State.readBook_record, State.readBook_setErr, State.readBook_setChan] <;> rfl
  · rw [State.readBook_setChan] <;> rfl

@[simp] theorem State.readBook_retireStart (page : Nat) (ue : Bool) (hard : List Nat) (tk : Option Ticket) :
    (s.retireStart page ue hard tk).1.readBook ch = s.readBook ch := by
  unfold State.retireStart
  split
  · exact s.readBook_setRetire ..
  · rw [State.readBook_record, State.readBook_setErr]

@[simp] theorem State.readBook_autoRetire (page : Nat) (ue : Bool) : (s.autoRetire page ue).readBook ch = s.readBook ch := by
  unfold State.autoRetire
  dsimp only
  split
  · rfl
  split
  · split
    · exact s.readBook_retireStart ..
    · rfl
  split
  · rfl
  · exact s.readBook_retireStart ..

/-- The channel's count and log of a corrected event (R246). -/
def State.countCorrected (phys : Nat) (errors : List (Nat × Nat)) : State :=
  s.modChan ch fun x => { x with ce := satAdd 32 x.ce 1, log := ceLog x.log (phys / 64) (laneMap errors) s.now64 }

/-- After the channel's count, a corrected event leaves the book as it is. -/
theorem State.readBook_corrected (phys : Nat) (errors : List (Nat × Nat)) :
    (s.corrected ch phys errors).readBook ch = (s.countCorrected ch phys errors).readBook ch := by
  have hlanes (t : State) : (errors.foldl (fun s x =>
      if 72 ≤ x.1 then s else s.laneError ch ((71 - x.1) / 3)) t).readBook ch = t.readBook ch :=
    State.foldl_keeps (·.readBook ch) (fun s x => by split <;> simp) errors t
  unfold State.corrected
  dsimp only
  split
  · split
    · rw [State.readBook_autoRetire, State.readBook_record, State.readBook_setErr, hlanes]
      simp [State.countCorrected]
    · rw [hlanes]
      simp [State.countCorrected]
  · rw [hlanes]
    simp [State.countCorrected]

/-- The channel's and the whole count of an uncorrectable line (R245). -/
def State.countUncorrectable : State :=
  let s := s.modChan ch fun x => { x with ue := satAdd 16 x.ue 1 }
  { s with mem := { s.mem with ueTotal := satAdd 32 s.mem.ueTotal 1 } }

/-- After these counts, an uncorrectable line leaves the book as it is. -/
theorem State.readBook_uncorrected (phys cls found : Nat) :
    (s.uncorrected ch phys cls found false).readBook ch = (s.countUncorrectable ch).readBook ch := by
  simp only [State.uncorrected, Bool.false_eq_true, if_false]
  split
  · rw [State.readBook_autoRetire, State.readBook_record, State.readBook_setErr, State.modChan, State.readBook_setChan] <;>
      simp [State.countUncorrectable]
  · simp [State.countUncorrectable]

end

/-! ### The verdicts -/

/-- What a read writes back into its line, unless a write has overtaken it (R243). -/
def State.writeBack (s : State) (phys : Nat) (v : Line) (stale : Bool) : State := if stale then s else s.setLine phys v

@[simp] theorem State.writeBack_fresh (s : State) (phys : Nat) (v : Line) : s.writeBack phys v false = s.setLine phys v := rfl

@[simp] theorem State.writeBack_stale (s : State) (phys : Nat) (v : Line) : s.writeBack phys v true = s := rfl

@[simp] theorem State.writeBack_chan (s : State) (phys : Nat) (v : Line) (stale : Bool) (d : Nat) :
    (s.writeBack phys v stale).chan d = s.chan d := by cases stale <;> rfl

@[simp] theorem State.writeBack_ueTotal (s : State) (phys : Nat) (v : Line) (stale : Bool) :
    (s.writeBack phys v stale).mem.ueTotal = s.mem.ueTotal := by cases stale <;> rfl

section
variable {s : State} {ch phys cls found : Nat} {l : Line} {e : StoredError} {stale : Bool}

theorem State.resolveRead_clean (h : (l.read e).2 = .clean) (hp : (l.read e).1.poison = false) :
    s.resolveRead ch phys cls found l e stale = { st := s, data := (l.read e).1.data, poison := false } := by
  simp [State.resolveRead, h, hp]

theorem State.resolveRead_corrected_data {errs : List (Nat × Nat)} (h : (l.read e).2 = .corrected errs) :
    (s.resolveRead ch phys cls found l e stale).data = ((l.read e).1.fix errs).data := by
  simp only [State.resolveRead, h]

/-- A corrected line is written back and counted; what follows leaves lines and counts. -/
theorem State.readBook_resolveRead_corrected {errs : List (Nat × Nat)} (h : (l.read e).2 = .corrected errs) :
    (s.resolveRead ch phys cls found l e stale).st.readBook ch =
      ((s.writeBack phys ((l.read e).1.fix errs) stale).countCorrected ch phys errs).readBook ch := by
  have hst : (s.resolveRead ch phys cls found l e stale).st =
      let t := (s.writeBack phys ((l.read e).1.fix errs) stale).corrected ch phys errs
      if ((l.read e).1.fix errs).poison then
        (t.modChan ch fun x => { x with poisonRead := satAdd 32 x.poisonRead 1 }).cntMem (ch / 8) 0xB9
      else t := by
    simp only [State.resolveRead, h]
    rfl
  rw [hst, ← State.readBook_corrected]
  dsimp only
  split
  · rw [State.readBook_cntMem, State.modChan, State.readBook_setChan] <;> rfl
  · rfl

/-- An uncorrectable line is left poisoned, and delivered so (R236). -/
theorem State.resolveRead_uncorrectable (h : (l.read e).2 = .uncorrectable) :
    s.resolveRead ch phys cls found l e stale =
      { st := (s.writeBack phys { poison := true, written := true } stale).uncorrected ch phys cls found false
        data := 0, poison := true } := by
  simp only [State.resolveRead, h]
  rfl

end

section
variable (s : State) (ch phys : Nat) (errs : List (Nat × Nat)) (k : Nat)

@[simp] theorem State.line_countCorrected : (s.countCorrected ch phys errs).line k = s.line k := rfl

@[simp] theorem State.line_countUncorrectable : (s.countUncorrectable ch).line k = s.line k := rfl

theorem State.ce_countCorrected : ((s.countCorrected ch phys errs).chan ch).ce = satAdd 32 (s.chan ch).ce 1 := by
  rw [State.countCorrected, State.chan_modChan_self]

theorem State.ue_countUncorrectable : ((s.countUncorrectable ch).chan ch).ue = satAdd 16 (s.chan ch).ue 1 :=
  congrArg ChanSt.ue (State.chan_modChan_self s ch fun x => { x with ue := satAdd 16 x.ue 1 })

theorem State.ueTotal_countUncorrectable : (s.countUncorrectable ch).mem.ueTotal = satAdd 32 s.mem.ueTotal 1 := rfl

end

/-- Settles O41: a verdict writes its line, unless it is stale, then counts, and what follows leaves lines and counts. -/
theorem readVerdictsActOnTheLine : Obligations.ReadVerdictsActOnTheLine := by
  unfold Obligations.ReadVerdictsActOnTheLine
  intro s ch phys cls found l e stale
  dsimp only
  refine ⟨fun h hp => ?_, fun errs h => ?_, fun h => ?_⟩
  · rw [State.resolveRead_clean h hp]
    exact ⟨rfl, rfl, rfl⟩
  · obtain ⟨hline, -, hce, -⟩ := State.readBook_eq (State.readBook_resolveRead_corrected (s := s) (ch := ch) (phys := phys)
      (cls := cls) (found := found) (stale := stale) h)
    refine ⟨State.resolveRead_corrected_data h, fun hs => ?_, fun hs => ?_, ?_⟩
    · rw [hline, hs, State.line_countCorrected, State.writeBack_fresh, State.line_setLine_self]
    · rw [hline, hs, State.line_countCorrected, State.writeBack_stale]
    · rw [hce, State.ce_countCorrected, State.writeBack_chan]
  · obtain ⟨hline, htotal, -, hue⟩ := State.readBook_eq
      ((s.writeBack phys { poison := true, written := true } stale).readBook_uncorrected ch phys cls found)
    rw [State.resolveRead_uncorrectable h]
    refine ⟨rfl, rfl, ?_, fun hs => ?_, ?_⟩
    · rw [htotal, State.ueTotal_countUncorrectable, State.writeBack_ueTotal]
    · rw [hline, hs, State.line_countUncorrectable, State.writeBack_fresh, State.line_setLine_self]
    · rw [hue, State.ue_countUncorrectable, State.writeBack_chan]

end Sys2Proof.Machine
end

section
/-!
PROOFS. What the frame around a command's effect leaves of the LPDDR6: the journal's writes enter the channels' queues, and
nothing else of it changes (R373).
-/

namespace Sys2Proof.Machine

/-- `t` has the LPDDR6 as `s` has it, but for the requests in the channels' queues. -/
structure State.SameButQueues (s t : State) : Prop where
  mem : t.mem = { s.mem with chans := t.mem.chans }
  chan : ∀ d, t.chan d = { s.chan d with queue := (t.chan d).queue }

section
variable {s t u : State}

theorem State.SameButQueues.of_mem (h : t.mem = s.mem) : s.SameButQueues t :=
  ⟨by rw [h], fun d => by simp only [State.chan, h]⟩

theorem State.SameButQueues.trans (h : s.SameButQueues t) (h' : t.SameButQueues u) : s.SameButQueues u :=
  ⟨h'.mem.trans (by rw [h.mem]), fun d => (h'.chan d).trans (by rw [h.chan d])⟩

end

theorem State.SameButQueues.cntMem {s t : State} (h : s.SameButQueues t) (m code n : Nat) :
    s.SameButQueues (t.cntMem m code n) := h.trans (.of_mem (by simp))

theorem State.modQueue_sameButQueues (s : State) (ch : Nat) (f : ChanSt → List ChReq) :
    s.SameButQueues (s.modChan ch fun x => { x with queue := f x }) := by
  refine ⟨rfl, fun d => ?_⟩
  by_cases hd : d = ch
  · rw [hd, State.chan_modChan_self]
  · rw [State.chan_modChan_ne _ _ hd]

theorem State.memSubmit_sameButQueues (s : State) (r : ChReq) : s.SameButQueues (s.memSubmit r) := by
  unfold State.memSubmit
  dsimp only
  split
  · exact .cntMem (s.modQueue_sameButQueues ..) ..
  · exact s.modQueue_sameButQueues ..

theorem State.journalOut_sameButQueues (s : State) (n : Nat) : s.SameButQueues (s.journalOut n) :=
  List.foldlRecOn _ _ (.of_mem rfl) fun _ h _ _ => h.trans (State.memSubmit_sameButQueues ..)

@[simp] theorem State.noteSummary_mem (s : State) : s.noteSummary.mem = s.mem := by
  obtain ⟨g, f, p, o, h⟩ := s.noteSummary_writes
  rw [h]

theorem State.framed_sameButQueues (s u : State) : u.SameButQueues (s.framed u) := by
  have hout := (State.SameButQueues.of_mem (s := u) u.noteSummary_mem).trans
    (u.noteSummary.journalOut_sameButQueues s.evr.journalNext)
  exact ⟨hout.mem, hout.chan⟩

section
variable (s u : State)

@[simp] theorem State.line_framed (k : Nat) : (s.framed u).line k = u.line k := by
  rw [State.line, (s.framed_sameButQueues u).mem]
  rfl

@[simp] theorem State.retire_framed (i : Nat) : (s.framed u).retire i = u.retire i := by
  rw [State.retire, (s.framed_sameButQueues u).mem]
  rfl

@[simp] theorem State.framed_retireTable : (s.framed u).mem.retire = u.mem.retire := by
  rw [(s.framed_sameButQueues u).mem]

@[simp] theorem State.framed_repairs : (s.framed u).mem.repairs = u.mem.repairs := by
  rw [(s.framed_sameButQueues u).mem]

/-- A channel after the frame, but for its queue. -/
theorem State.chan_framed (d : Nat) :
    (s.framed u).chan d = { u.chan d with queue := ((s.framed u).chan d).queue } := (s.framed_sameButQueues u).chan d

@[simp] theorem State.framed_msc : (s.framed u).msc = u.msc := by
  obtain ⟨g, f, m, p, o, h⟩ := s.framed_writes u
  rw [h]

end

end Sys2Proof.Machine
end

section
/-!
PROOFS. The memory opcodes (Table 09-8): scrub rate, retirement and repair (R242, R248, R249), raw access (R250), and the
queries and logs (R232, R251).
-/

namespace Sys2Proof.Machine

/-! ### What acceptance leaves of the LPDDR6 -/

section
variable (s : State) (c : Cmd)

@[simp] theorem State.accept_laCapacity : (s.accept c).laCapacity = s.laCapacity := by
  simp only [State.laCapacity, State.accept_variant]

@[simp] theorem State.accept_lineLa (la : Nat) : (s.accept c).lineLa la = s.lineLa la := by simp [State.lineLa]

@[simp] theorem State.accept_laClamp (la : Nat) : (s.accept c).laClamp la = s.laClamp la := by simp [State.laClamp]

@[simp] theorem State.accept_sparePage (i : Nat) : (s.accept c).sparePage i = s.sparePage i := by simp [State.sparePage]

@[simp] theorem State.accept_isSpare (page : Nat) : (s.accept c).isSpare page = s.isSpare page := by simp [State.isSpare]

@[simp] theorem State.accept_pageHeld (page : Nat) : (s.accept c).pageHeld page = s.pageHeld page := by
  simp [State.pageHeld]

@[simp] theorem State.accept_spareOf (page : Nat) : (s.accept c).spareOf page = s.spareOf page := by
  simp [State.spareOf]

@[simp] theorem State.accept_freeSpare : (s.accept c).freeSpare = s.freeSpare := by simp [State.freeSpare]

@[simp] theorem State.accept_physLine (line : Nat) : (s.accept c).physLine line = s.physLine line := by
  simp [State.physLine]

@[simp] theorem State.accept_line (k : Nat) : (s.accept c).line k = s.line k := by simp [State.line]

@[simp] theorem State.accept_granted : (s.accept c).granted = s.granted := by simp [State.granted]

@[simp] theorem State.accept_freeValue : (s.accept c).freeValue = s.freeValue := by simp [State.freeValue]

end

/-! ### Lines within the capacity -/

section
variable {s : State} {la : Nat} (h : la + 64 ≤ s.laCapacity)
include h

/-- A line within the capacity is the one that is meant (R251). -/
theorem State.lineLa_inside : s.lineLa la = la / 64 * 64 := by
  rw [State.lineLa, Nat.min_eq_left (by omega)]
  rfl

theorem State.lineLa_div_inside : s.lineLa la / 64 = la / 64 := by
  rw [State.lineLa_inside h, Nat.mul_div_cancel _ (by decide)]

theorem State.laClamp_inside : s.laClamp la = none := by
  rw [State.laClamp, if_neg (by omega)]

end

/-- No copy of the line's page is under way, and its channel has no request for the line. -/
def State.LineIdle (s : State) (line : Nat) : Prop :=
  s.pageHeld (line / 64) = false ∧ ∀ r ∈ (s.chan (channelOf (s.physLine line * 64))).queue, r.line ≠ line

/-- A line without requests has nothing to be served before a command (R250). -/
theorem State.flushLine_idle {s : State} {line : Nat} (h : s.LineIdle line) : s.flushLine line = s := by
  obtain ⟨hheld, hqueue⟩ := h
  have hnone : (s.chan (channelOf (s.physLine line * 64))).queue.filter (·.line == line) = [] :=
    List.filter_eq_nil_iff.2 (by simpa using hqueue)
  simp [State.flushLine, hheld, hnone]

theorem State.LineIdle.accept {s : State} {line : Nat} (h : s.LineIdle line) (c : Cmd) : (s.accept c).LineIdle line := by
  simpa [State.LineIdle] using h

/-! ### Scrub, retirement -/

/-- Where a spare is free, the page's copy to it begins (R248). -/
theorem State.retireStart_of_free {s : State} {page i : Nat} {ue : Bool} {hard : List Nat} {tk : Option Ticket}
    (h : s.freeSpare = some i) : s.retireStart page ue hard tk =
      (s.setRetire i { page := page, hold := true, ue := ue, hard := hard, ticket := tk }, some i) := by
  unfold State.retireStart
  split
  next j hj => cases h.symm.trans hj; rfl
  next hj => cases h.symm.trans hj

section
variable {tk : Ticket} {c : Cmd} {s : State}

theorem opMemScrubSet_body (hlo : 6 ≤ c.byte 16) (hhi : c.byte 16 ≤ 16) (halarm : 1 ≤ c.byte 17) :
    opMemScrubSet.body tk c s = .ok { s with mem := { s.mem with rateLog2 := c.byte 16, lapAlarm := c.byte 17 } } := by
  have hbyte : c.byte 17 < 256 := Cmd.le_lt c 17 1
  simp [opMemScrubSet, Cmd.ranged_byte hlo hhi, Cmd.ranged_byte halarm (Nat.le_of_lt_succ hbyte)]

variable (hla : c.le 16 8 + 64 ≤ s.laCapacity) (hmode : c.byte 24 ≤ 1)
include hla hmode

theorem opMemRetire_body_spare (hspare : s.isSpare (c.le 16 8 / 64 * 64 / 4096) = true) :
    opMemRetire.body tk c s = .bad s stDenied := by
  simp [opMemRetire, State.lineLa_inside hla, State.laClamp_inside hla, Cmd.ranged_byte (Nat.zero_le _) hmode, hspare]

theorem opMemRetire_body_held (hspare : s.isSpare (c.le 16 8 / 64 * 64 / 4096) = false)
    (hheld : s.pageHeld (c.le 16 8 / 64 * 64 / 4096) = true) : opMemRetire.body tk c s = .bad s stBusy := by
  simp [opMemRetire, State.lineLa_inside hla, State.laClamp_inside hla, Cmd.ranged_byte (Nat.zero_le _) hmode, hspare, hheld]

/-- A page that a spare serves: its spare is answered, or its release begins (R248). -/
theorem opMemRetire_body_served {i : Nat} (hspare : s.isSpare (c.le 16 8 / 64 * 64 / 4096) = false)
    (hheld : s.pageHeld (c.le 16 8 / 64 * 64 / 4096) = false) (hserved : s.spareOf (c.le 16 8 / 64 * 64 / 4096) = some i) :
    opMemRetire.body tk c s = if c.byte 24 = 0 then .ok s i else .later (s.releaseStart i (some tk)) := by
  simp only [opMemRetire, State.lineLa_inside hla, State.laClamp_inside hla, Cmd.ranged_byte (Nat.zero_le _) hmode, hspare,
    hheld, hserved, minClamp_none_right, Bool.false_eq_true, if_false]

omit hmode in
/-- A page that no spare serves takes a free one (R248). -/
theorem opMemRetire_body_unserved {i : Nat} (hretire : c.byte 24 = 0) (hspare : s.isSpare (c.le 16 8 / 64 * 64 / 4096) = false)
    (hheld : s.pageHeld (c.le 16 8 / 64 * 64 / 4096) = false) (hnone : s.spareOf (c.le 16 8 / 64 * 64 / 4096) = none)
    (hfree : s.freeSpare = some i) : opMemRetire.body tk c s = .later (s.setRetire i
      { page := c.le 16 8 / 64 * 64 / 4096, hold := true, ue := false, hard := [], ticket := some tk }) := by
  simp only [opMemRetire, State.lineLa_inside hla, State.laClamp_inside hla, hretire,
    Cmd.ranged_byte (Nat.zero_le _) (hretire.trans_le (Nat.zero_le 1)), hspare, hheld, hnone, State.retireStart_of_free hfree,
    minClamp_none_right, Bool.false_eq_true, if_false, Nat.zero_ne_one]

end

/-! ### Repair -/

/-- Where a spare is free and there are pages to copy, some copy begins; `f` begins that of one page, and notes its spare. -/
theorem State.foldl_retireStart_ne_nil {s : State} {i : Nat} (h : s.freeSpare = some i)
    {f : State × List Nat → Nat → State × List Nat}
    (hf : ∀ x p, (f x p).2 = x.2 ++ (x.1.retireStart p false [] none).2.toList) {pages : List Nat} (hp : pages ≠ []) :
    (pages.foldl f (s, [])).2 ≠ [] := by
  obtain ⟨p, ps, rfl⟩ := List.exists_cons_of_ne_nil hp
  have hfirst : (f (s, []) p).2 ≠ [] := by
    rw [hf, State.retireStart_of_free h]
    exact List.cons_ne_nil i []
  rw [List.foldl_cons]
  refine List.foldlRecOn (motive := fun x => x.2 ≠ []) ps f hfirst fun x hx q _ => ?_
  rw [hf]
  exact List.append_ne_nil_of_left_ne_nil hx _

/-- Some spare is free where one is counted free. -/
theorem State.freeSpare_of_count {s : State} (h : 0 < ((List.range 1024).filter fun i => s.retire i = {}).length) :
    ∃ i, s.freeSpare = some i := by
  obtain ⟨i, hi⟩ := List.exists_mem_of_length_pos h
  obtain ⟨hrange, hfree⟩ := List.mem_filter.1 hi
  exact Option.isSome_iff_exists.1 (List.find?_isSome.2 ⟨i, hrange, hfree⟩)

/-- A row whose pages are neither spare nor held, on a channel without a repair, enters one while spares last (R249). -/
theorem opMemRepair_body {tk : Ticket} {c : Cmd} {s : State} (hla : c.le 16 8 + 64 ≤ s.laCapacity) (hmode : c.byte 24 ≤ 1)
    {ch row : Nat} (hch : ch = channelOf (64 * (c.le 16 8 / 64))) (hrow : row = rowOf (64 * (c.le 16 8 / 64)))
    (hspare : (rowPages ch row).any s.isSpare = false) (hheld : (rowPages ch row).any s.pageHeld = false)
    (hrepair : (s.mem.repairs.any fun r => r.ch == ch) = false) (htodo : ∃ p ∈ rowPages ch row, s.spareOf p = none)
    (hfree : 8 ≤ ((List.range 1024).filter fun i => s.retire i = {}).length) :
    ∃ t, opMemRepair.body tk c s = .later t ∧
      ∃ r ∈ t.mem.repairs, r.ch = ch ∧ r.row = row ∧ r.hard = (c.byte 24 == 1) ∧ r.waiting ≠ [] := by
  let todo := (rowPages ch row).filter fun p => (s.spareOf p).isNone
  have hpages : todo ≠ [] := by
    obtain ⟨p, hp, hnone⟩ := htodo
    exact List.ne_nil_of_mem (List.mem_filter.2 ⟨hp, by simp [hnone]⟩)
  have hlength : todo.length ≤ 8 := (List.length_filter_le _ _).trans (by simp [rowPages])
  obtain ⟨i, hi⟩ := State.freeSpare_of_count (lt_of_lt_of_le (by decide) hfree)
  have hline : s.lineLa (c.le 16 8) = 64 * (c.le 16 8 / 64) := by rw [State.lineLa_inside hla, Nat.mul_comm]
  simp only [opMemRepair, hline, State.laClamp_inside hla, Cmd.ranged_byte (Nat.zero_le _) hmode, minClamp_none_right, ← hch,
    ← hrow, hspare, hheld, hrepair, Bool.or_self, Bool.false_eq_true, if_false]
  generalize hx : List.foldl _ (s, ([] : List Nat)) _ = x
  have hfresh : x.2 ≠ [] := hx ▸ State.foldl_retireStart_ne_nil hi (fun x p => by split <;> simp [*]) hpages
  exact ⟨_, (if_neg (hlength.trans hfree).not_gt).trans (congrArg Reply.later (if_neg hfresh)),
    _, List.mem_append_right _ List.mem_cons_self, rfl, rfl, rfl, hfresh⟩

/-! ### Raw access, and the query of a line -/

section
variable {tk : Ticket} {c : Cmd} {s : State} (hla : c.le 16 8 + 64 ≤ s.laCapacity)
include hla

theorem opMemRawWrite_body_service (hmode : c.byte 40 ≤ 1) (hservice : s.acu.service = true) :
    opMemRawWrite.body tk c s = .bad s stDenied := by
  simp only [opMemRawWrite, State.laClamp_inside hla, Cmd.ranged_byte (Nat.zero_le _) hmode, hservice, minClamp_none_right,
    if_true]

theorem opMemRawRead_body_service (hservice : s.acu.service = true) : opMemRawRead.body tk c s = .bad s stDenied := by
  simp only [opMemRawRead, State.laClamp_inside hla, hservice, if_true]

variable (hidle : s.LineIdle (c.le 16 8 / 64)) {phys : Nat} (hphys : s.physLine (c.le 16 8 / 64) = phys)
include hidle hphys

/-- The 72 bytes are stored as they are, and reads under way of the line do not write it back (R243, R250). -/
theorem opMemRawWrite_body (hmode : c.byte 40 = 0) (hservice : s.acu.service = false) : opMemRawWrite.body tk c s = .ok
    ((s.modChan (channelOf (phys * 64)) fun x => { x with
      reading := x.reading.map fun r => if r.phys = phys then { r with stale := true } else r }).setLine phys
        (rawLine (codeAddr (phys * 64)) (s.mgrRead (c.le 24 8) 72))) := by
  simp only [opMemRawWrite, State.laClamp_inside hla, State.lineLa_div_inside hla,
    Cmd.ranged_byte (Nat.zero_le _) (hmode.trans_le (Nat.zero_le 1)), hmode, hservice, State.flushLine_idle hidle, hphys,
    minClamp_none_right, Bool.false_eq_true, if_false, if_true]

theorem opMemRawRead_body (hservice : s.acu.service = false) : opMemRawRead.body tk c s = .ok
    (State.useFree (s.mgrWrite (c.le 24 8) ((s.line phys).raw (codeAddr (phys * 64)))))
    (verdictWord ((s.line phys).read {}).2 s.freeValue) := by
  simp only [opMemRawRead, State.laClamp_inside hla, State.lineLa_div_inside hla, hservice, State.flushLine_idle hidle, hphys,
    Bool.false_eq_true, if_false]
  rfl

/-- A clean line is read without an effect (R236, R251). -/
theorem opMemLineQuery_body (hclean : ((s.line phys).read {}).2 = .clean) (hpoison : (s.line phys).poison = false) :
    opMemLineQuery.body tk c s = .ok s (2 * bit (s.line phys).written +
      4 * bit (s.spareOf (c.le 16 8 / 64 / 64)).isSome + 2 ^ 8 * channelOf (phys * 64)) := by
  have hread := State.resolveRead_clean (s := s) (ch := channelOf (phys * 64)) (phys := phys) (cls := 2) (found := byRead)
    (stale := false) hclean (by rw [Line.read_intact, hpoison])
  simp only [opMemLineQuery, State.laClamp_inside hla, State.lineLa_div_inside hla, State.flushLine_idle hidle, hphys, hread,
    hclean, hidle.1]
  simp [bit]

end

/-! ### Logs and counts -/

/-- An entry of a changed table is the change of one. -/
theorem exists_of_mem_tmap {α : Type} [DecidableEq α] {d : α} {f : Nat → α → α} {t : Tbl α} {x : Nat × α}
    (h : x ∈ tmap d f t) : ∃ a, x.2 = f x.1 a := by
  induction t with
  | nil => simp [tmap] at h
  | cons y t ih =>
    simp only [tmap] at h
    split at h
    · exact ih h
    · obtain rfl | h := List.mem_cons.1 h
      · exact ⟨y.2, rfl⟩
      · exact ih h

/-- The state with the memory's error flags and the channels' error counts zero (R251). -/
def State.clearMemErrors (s : State) : State :=
  let cleared (_ : Nat) (x : ChanSt) : ChanSt := { x with lanes := 0, ce := 0, ue := 0, addrErr := 0, poisonRead := 0 }
  { s with mem := { s.mem with err := 0, chans := tmap {} cleared s.mem.chans } }

theorem State.clearMemErrors_chans {s : State} {x : Nat × ChanSt} (hx : x ∈ s.clearMemErrors.mem.chans) :
    x.2.ce = 0 ∧ x.2.ue = 0 ∧ x.2.addrErr = 0 ∧ x.2.poisonRead = 0 ∧ x.2.lanes = 0 := by
  obtain ⟨a, ha⟩ := exists_of_mem_tmap hx
  rw [ha]
  exact ⟨rfl, rfl, rfl, rfl, rfl⟩

theorem opMemCeLog_body {tk : Ticket} {c : Cmd} {s : State} (hch : c.byte 16 ≤ 31) : opMemCeLog.body tk c s = .ok
    (s.mgrWrite (c.le 24 8) ((s.chan (c.byte 16)).log.flatMap CeEntry.bytes)) (s.chan (c.byte 16)).log.length := by
  simp only [opMemCeLog, Cmd.ranged_byte (Nat.zero_le _) hch]

/-! ### The claim -/

/-- Settles O39: each opcode's body on the accepted command's state, whose LPDDR6 is that of the state before. -/
theorem memoryOpcodes : Obligations.MemoryOpcodes := by
  unfold Obligations.MemoryOpcodes
  intro c s hcap
  have hla : c.le 16 8 + 64 ≤ (s.accept c).laCapacity := by rwa [State.accept_laCapacity]
  refine ⟨fun h hlo hhi halarm => ?_, fun i h hm hspare hheld hnone hfree => ?_, fun i h hm hspare hheld hserved => ?_,
    fun i h hm hspare hheld hserved => ?_, fun h hm hspare => ?_, fun h hm hspare hheld => ?_,
    fun h hm hspare hheld hrepair htodo hfree => ?_, fun h hm hservice hidle => ?_, fun h hservice hidle => ?_,
    fun h hm hservice => ?_, fun h hservice => ?_, fun h hidle hclean hpoison => ?_, fun h hch => ?_, fun h => ?_,
    fun h => ?_⟩
  · exact OpSpec.completes (o := opMemScrubSet) rfl h rfl rfl (opMemScrubSet_body hlo hhi halarm)
  · exact OpSpec.holds (o := opMemRetire) rfl h rfl rfl (opMemRetire_body_unserved hla hm (by simpa using hspare)
      (by simpa using hheld) (by simpa using hnone) (by simpa using hfree))
  · exact OpSpec.completes (o := opMemRetire) rfl h rfl rfl ((opMemRetire_body_served hla (by omega) (by simpa using hspare)
      (by simpa using hheld) (by simpa using hserved)).trans (if_pos hm))
  · exact OpSpec.holds (o := opMemRetire) rfl h rfl rfl ((opMemRetire_body_served hla (by omega) (by simpa using hspare)
      (by simpa using hheld) (by simpa using hserved)).trans (if_neg (by omega)))
  · exact OpSpec.endsWith (o := opMemRetire) rfl h rfl rfl (opMemRetire_body_spare hla hm (by simpa using hspare))
  · exact OpSpec.endsWith (o := opMemRetire) rfl h rfl rfl (opMemRetire_body_held hla hm (by simpa using hspare)
      (by simpa using hheld))
  · obtain ⟨t, hbody, r, hr, hch, hrow, hhard, hwait⟩ := opMemRepair_body (tk := c.ticket 0x52 s.ft) hla hm rfl rfl
      (by simpa using hspare) (by simpa using hheld) (by simpa using hrepair) (by simpa using htodo) (by simpa using hfree)
    refine ⟨_, OpSpec.answers (o := opMemRepair) rfl h rfl rfl hbody, r, ?_, hch, hrow, hhard, hwait⟩
    rwa [State.framed_repairs]
  · have hbody := opMemRawWrite_body (tk := c.ticket 0x53 s.ft) hla (State.LineIdle.accept hidle c)
      (State.accept_physLine ..) hm (by simpa using hservice)
    rw [State.accept_mgrRead] at hbody
    exact OpSpec.completes (o := opMemRawWrite) rfl h rfl rfl hbody
  · have hbody := opMemRawRead_body (tk := c.ticket 0x54 s.ft) hla (State.LineIdle.accept hidle c) (State.accept_physLine ..)
      (by simpa using hservice)
    rw [State.accept_line, State.accept_freeValue] at hbody
    exact OpSpec.completes (o := opMemRawRead) rfl h rfl rfl hbody
  · exact OpSpec.endsWith (o := opMemRawWrite) rfl h rfl rfl (opMemRawWrite_body_service hla hm (by simpa using hservice))
  · exact OpSpec.endsWith (o := opMemRawRead) rfl h rfl rfl (opMemRawRead_body_service hla (by simpa using hservice))
  · have hbody := opMemLineQuery_body (tk := c.ticket 0x55 s.ft) hla (State.LineIdle.accept hidle c) (State.accept_physLine ..)
      (by simpa using hclean) (by simpa using hpoison)
    rw [State.accept_line, State.accept_spareOf] at hbody
    exact OpSpec.completes (o := opMemLineQuery) rfl h rfl rfl hbody
  · have hbody := opMemCeLog_body (tk := c.ticket 0x56 s.ft) (s := s.accept c) hch
    rw [State.accept_chan] at hbody
    exact OpSpec.completes (o := opMemCeLog) rfl h rfl rfl hbody
  · refine OpSpec.completes (o := opMemRsvQuery) rfl h rfl rfl ?_
    simp only [opMemRsvQuery, State.accept_granted, id_eq]
  · exact ⟨State.clearMemErrors, OpSpec.completes (o := opMemErrClear) rfl h rfl rfl rfl, rfl,
      fun _ => State.clearMemErrors_chans⟩

end Sys2Proof.Machine
end

section
/-!
PROOFS. Events of an LPDDR6 channel: reads that come back (R236), the scrubber (R242, R244), temperature, retraining and
refresh (R227).
-/

namespace Sys2Proof.Machine

/-! ### Reads that come back -/

section
variable {s : State} {ch : Nat} {e : StoredError}

theorem State.memReadDone_nil (h : (s.chan ch).reading = []) : s.memReadDone ch e = s := by
  simp only [State.memReadDone, h]

/-- The oldest read, clean and without poison, is delivered as it was read (R236). -/
theorem State.memReadDone_clean {m : MemRead} {ms : List MemRead} (h : (s.chan ch).reading = m :: ms)
    (hclean : (m.line.read e).2 = .clean) (hpoison : (m.line.read e).1.poison = false) (huser : m.req.user ≠ .other) :
    s.memReadDone ch e =
      ((s.modChan ch fun x => { x with reading := ms }).cntMem (ch / 8) 0xBB ((s.clock - m.req.at16) / 16)).emit
        (.memData m.req.user (m.line.read e).1.data false) := by
  simp only [State.memReadDone, h, State.resolveRead_clean hclean hpoison, if_neg huser]
  rfl

/-! ### The scrubber -/

/-- A channel with requests is not scrubbed (R242). -/
theorem State.scrubRead_busy (h : (s.chan ch).queue ≠ []) : s.scrubRead ch e = s := by
  simp [State.scrubRead, h]

/-- The state in which the scrubber has taken its read of the channel's next line. -/
def State.scrubBegin (s : State) (ch : Nat) : State :=
  (s.setChan ch { s.chan ch with
    lastScrub := s.clock, scrubPos := (s.chan ch).scrubPos + 1, scrubUsed := (s.chan ch).scrubUsed + 1 }).cntMem (ch / 8) 0xB5

/-- A scrub read that is due reads the channel's next line, and ends the lap after the last one (R242, R244). -/
theorem State.scrubRead_due (hswept : s.glb.memSwept = true) (hblocked : s.chanBlocked ch = false)
    (hidle : (s.chan ch).queue = []) (hdue : (s.chan ch).lastScrub + ns16 (2 ^ s.mem.rateLog2) ≤ s.clock) {phys : Nat}
    (hphys : laOf ch ((s.chan ch).scrubPos * 64) / 64 = phys) :
    s.scrubRead ch e =
      let t := ((s.scrubBegin ch).resolveRead ch phys 3 byScrub (s.line phys) e false).st
      if t.chanLines ≤ (t.chan ch).scrubPos then t.lapEnd ch else t := by
  subst hphys
  exact if_pos (by simp [hswept, hblocked, hidle, hdue])

/-- The scrub read of a clean line within the lap goes on to the next line (R242). -/
theorem State.scrubRead_clean (hswept : s.glb.memSwept = true) (hblocked : s.chanBlocked ch = false)
    (hidle : (s.chan ch).queue = []) (hdue : (s.chan ch).lastScrub + ns16 (2 ^ s.mem.rateLog2) ≤ s.clock) {phys : Nat}
    (hphys : laOf ch ((s.chan ch).scrubPos * 64) / 64 = phys) (hclean : ((s.line phys).read e).2 = .clean)
    (hpoison : ((s.line phys).read e).1.poison = false) (hlap : (s.chan ch).scrubPos + 1 < s.chanLines) :
    s.scrubRead ch e = s.scrubBegin ch := by
  have hpos : ((s.scrubBegin ch).chan ch).scrubPos = (s.chan ch).scrubPos + 1 := by
    rw [State.scrubBegin, State.cntMem_chan, State.chan_setChan_self]
  rw [State.scrubRead_due hswept hblocked hidle hdue hphys, State.resolveRead_clean hclean hpoison]
  exact if_neg (hpos ▸ hlap.not_ge)

/-- A lap that takes longer than the alarm is flagged, with a record (R244). -/
theorem State.scrubLate_due (hswept : s.glb.memSwept = true) (hsaid : (s.chan ch).scrubLate = false)
    (hdue : (s.chan ch).lapStart + s.mem.lapAlarm * 3600000 * 16000000 < s.clock) :
    s.scrubLate ch = (s.setChan ch { s.chan ch with scrubLate := true }).record 0x28 (80 + ch / 8) s.now64
      [(1, ch), (4, (s.chan ch).scrubPos)] := by
  simp only [State.scrubLate, hswept, hsaid, hdue]
  rfl

theorem State.scrubLate_said (hsaid : (s.chan ch).scrubLate = true) : s.scrubLate ch = s := by
  simp [State.scrubLate, hsaid]

@[simp] theorem State.record_chan (s : State) (cause island t64 : Nat) (fields : List (Nat × Nat)) (d : Nat) :
    (s.record cause island t64 fields).chan d = s.chan d := by simp [State.chan]

/-! ### Temperature, retraining, refresh -/

theorem State.memTemp_cool {temp : BitVec 8} (rate : BitVec 4) (h : temp.toInt < 105) : s.memTemp ch temp rate =
    s.setChan ch { s.chan ch with temp := temp.toNat, refreshRate := rate.toNat, hot := false } := by
  simp [State.memTemp, h.not_ge]

/-- A channel at 105 degrees or more is hot, recorded or not (R227). -/
theorem State.memTemp_hot {temp : BitVec 8} (rate : BitVec 4) (h : 105 ≤ temp.toInt) :
    (s.memTemp ch temp rate).chan ch =
      { s.chan ch with temp := temp.toNat, refreshRate := rate.toNat, hot := true } := by
  have hset (t : State) (ht : t.mem.chans = (s.setChan ch { s.chan ch with
      temp := temp.toNat, refreshRate := rate.toNat, hot := true }).mem.chans) :
      t.chan ch = { s.chan ch with temp := temp.toNat, refreshRate := rate.toNat, hot := true } := by
    rw [State.chan, ht]
    exact State.chan_setChan_self ..
  simp only [State.memTemp, h, decide_true]
  split
  · exact hset _ (by rw [State.record_mem])
  · exact hset _ rfl

theorem State.memRetrain_due (htrained : (s.chan ch).trained = true) (hdue : (s.chan ch).lastRetrain + ms16 256 ≤ s.clock) :
    s.memRetrain ch = s.setChan ch { s.chan ch with lastRetrain := s.clock, blockedUntil := s.clock + us16 2 } := by
  simp [State.memRetrain, htrained, hdue]

theorem State.memRetrain_untrained (h : (s.chan ch).trained = false) : s.memRetrain ch = s := by
  simp [State.memRetrain, h]

end

theorem memoryChannelEvents : Claims.MemoryChannelEvents := by
  intro ch e m ms temp rate bank s h
  have hdone : exec (.memReadDone ch e) s = act s (·.memReadDone ch e) := rfl
  have hscrub : exec (.scrubRead ch e) s = act s (·.scrubRead ch e) := rfl
  have hlate : exec (.scrubLate ch) s = act s (·.scrubLate ch) := rfl
  have htemp : exec (.memTemperatureRead ch temp rate) s = act s (·.memTemp ch temp rate) := rfl
  have hretrain : exec (.memRetrain ch) s = act s (·.memRetrain ch) := rfl
  have hrefresh : exec (.memRefresh ch bank) s = act s (·.memRefresh ch bank) := rfl
  have hrfm : exec (.refreshManagement ch bank) s = act s (·.memRfm ch bank) := rfl
  refine ⟨fun hread hclean hpoison huser => acts_of_act hdone h (State.memReadDone_clean hread hclean hpoison huser),
    fun hread => acts_of_act hdone h (State.memReadDone_nil hread),
    fun hswept hblocked hidle hdue hclean hpoison hlap => acts_of_act hscrub h
      (State.scrubRead_clean hswept hblocked hidle hdue rfl hclean hpoison hlap),
    fun hbusy => acts_of_act hscrub h (State.scrubRead_busy hbusy), fun hswept hsaid hdue => ?_,
    fun hsaid => acts_of_act hlate h (State.scrubLate_said hsaid),
    fun hcool => acts_of_act htemp h (State.memTemp_cool rate hcool),
    fun hhot => ⟨_, htemp.trans (act_running h _), ?_⟩,
    fun htrained hdue => acts_of_act hretrain h (State.memRetrain_due htrained hdue),
    fun htrained => acts_of_act hrefresh h (if_pos htrained), fun htrained => acts_of_act hrfm h (if_pos htrained),
    fun htrained => ?_⟩
  · refine ⟨_, hlate.trans (act_running h _), ?_, ?_⟩
    · refine (State.chan_framed ..).trans ?_
      rw [State.scrubLate_due hswept hsaid hdue, State.record_chan, State.chan_setChan_self]
    · rw [State.framed_devRing, State.scrubLate_due hswept hsaid hdue, State.record_seq]
      rfl
  · refine (State.chan_framed ..).trans ?_
    rw [State.memTemp_hot rate hhot]
  · have hnot : ¬ (s.chan ch).trained = true := by simp [htrained]
    exact ⟨acts_of_act hretrain h (State.memRetrain_untrained htrained), acts_of_act hrefresh h (if_neg hnot),
      acts_of_act hrfm h (if_neg hnot)⟩

end Sys2Proof.Machine
end

section
/-!
PROOFS. Retirement and repair: a page's copy to its spare line by line, what follows it, releases (R248), and the ends of soft
and hard repairs (R249, R408).
-/

namespace Sys2Proof.Machine

/-! ### The copy of a page -/

/-- What a line becomes as it is copied, by the decoder's verdict (R248). -/
def copiedLine (l : Line) : Verdict → Line
  | .clean => if l.poison then { poison := true, written := true } else { l with rsv := 0 }
  | .corrected e => if (l.fix e).poison then { poison := true, written := true } else l.fix e
  | .uncorrectable | .address _ => { poison := true, written := true }

theorem copiedLine_clean {l : Line} (h : l.poison = false) : copiedLine l .clean = { l with rsv := 0 } := by
  simp only [copiedLine, h, Bool.false_eq_true, if_false]

/-- A verdict under which a line is lost as it is copied. -/
def Verdict.loses : Verdict → Bool
  | .clean | .corrected _ => false
  | .uncorrectable | .address _ => true

/-- The decoder's verdict on a line as it is stored. -/
def Line.verdict (l : Line) : Verdict := (l.read {}).2

theorem State.copyLine_eq (x : Copied) (src dst : Nat) :
    let l := x.st.line src
    State.copyLine x src dst =
      { st := x.st.setLine dst (copiedLine l l.verdict)
        poisoned := x.poisoned + bit (copiedLine l l.verdict).poison, lost := x.lost || l.verdict.loses } := by
  simp only [State.copyLine, Line.verdict, Line.read_intact]
  generalize ((x.st.line src).read {}).2 = v
  cases v <;> rfl

@[simp] theorem State.setLine_repairs (s : State) (k : Nat) (v : Line) : (s.setLine k v).mem.repairs = s.mem.repairs := rfl

@[simp] theorem State.setRetire_repairs (s : State) (i : Nat) (v : Retire) :
    (s.setRetire i v).mem.repairs = s.mem.repairs := rfl

@[simp] theorem State.setRetire_line (s : State) (i : Nat) (v : Retire) (k : Nat) : (s.setRetire i v).line k = s.line k := rfl

/-- What the copy of the first `n` lines of a page to another one leaves. -/
structure Copied.Holds (s : State) (src dst n : Nat) (x : Copied) : Prop where
  repairs : x.st.mem.repairs = s.mem.repairs
  line_ne : ∀ k, k / 64 ≠ dst → x.st.line k = s.line k
  line : ∀ j, j < n → x.st.line (64 * dst + j) = copiedLine (s.line (64 * src + j)) (s.line (64 * src + j)).verdict
  lost : x.lost = true ↔ ∃ j, j < n ∧ (s.line (64 * src + j)).verdict.loses = true

theorem Copied.Holds.step {s : State} {src dst n : Nat} {x : Copied} (h : x.Holds s src dst n) (hn : n < 64)
    (hne : dst ≠ src) : (State.copyLine x (src * 64 + n) (dst * 64 + n)).Holds s src dst (n + 1) := by
  have hsrc : x.st.line (src * 64 + n) = s.line (64 * src + n) := by
    rw [Nat.mul_comm src]
    exact h.line_ne _ (by omega)
  rw [State.copyLine_eq, hsrc]
  refine ⟨(State.setLine_repairs ..).trans h.repairs, fun k hk => ?_, fun j hj => ?_, ?_⟩
  · exact (State.line_setLine_ne _ _ (by omega)).trans (h.line_ne k hk)
  · obtain hj | rfl := Nat.lt_succ_iff_lt_or_eq.1 hj
    · exact (State.line_setLine_ne _ _ (by omega)).trans (h.line j hj)
    · rw [Nat.mul_comm dst]
      exact State.line_setLine_self ..
  · simp only [Bool.or_eq_true, h.lost, Nat.exists_lt_succ_right]

theorem State.copyPage_holds (s : State) {src dst : Nat} (hne : dst ≠ src) : (s.copyPage src dst).Holds s src dst 64 := by
  have hcopy : ∀ n ≤ 64, Copied.Holds s src dst n ((List.range n).foldl
      (fun x i => State.copyLine x (src * 64 + i) (dst * 64 + i)) { st := s }) := fun n => by
    induction n with
    | zero => exact fun _ => ⟨rfl, fun _ _ => rfl, fun _ hj => absurd hj (Nat.not_lt_zero _), by simp⟩
    | succ n ih =>
      intro hn
      rw [List.range_succ, List.foldl_append]
      exact (ih (by omega)).step hn hne
  exact hcopy 64 le_rfl

/-! ### The end of a copy -/

section
variable {s t : State}

theorem State.line_of_mem (h : t.mem = s.mem) (k : Nat) : t.line k = s.line k := by simp only [State.line, h]

theorem State.retire_of_mem (h : t.mem = s.mem) (k : Nat) : t.retire k = s.retire k := by simp only [State.retire, h]

/-- Without an open repair nothing waits for a spare (R249). -/
theorem State.repairsNote_none (h : s.mem.repairs = []) (spare : Nat) : s.repairsNote spare = s := by
  simp only [State.repairsNote, h, List.foldl_nil]

variable {i : Nat}

theorem State.retired_unheld (h : (s.retire i).hold = false) : s.retired i = s := by simp [State.retired, h]

/-- A release ends with its entry free, and the copy back done (R248). -/
theorem State.retired_release_mem (hhold : (s.retire i).hold = true) (hrel : (s.retire i).releasing = true) :
    (s.retired i).mem = ((s.copyPage (s.sparePage i) (s.retire i).page).st.setRetire i {}).mem := by
  generalize hx : s.copyPage (s.sparePage i) (s.retire i).page = x
  simp only [State.retired, hhold, hrel, hx]
  cases (s.retire i).ticket <;> simp

/-- A copy of a page that no spare serves ends with its entry valid, where no repair is open (R248). -/
theorem State.retired_copy_mem {x : Copied} (hhold : (s.retire i).hold = true) (hrel : (s.retire i).releasing = false)
    (hnone : s.spareOf (s.retire i).page = none) (hx : s.copyPage (s.retire i).page (s.sparePage i) = x)
    (hopen : x.st.mem.repairs = []) :
    (s.retired i).mem = (x.st.setRetire i { s.retire i with
      hold := false, valid := true, ticket := none, ue := (s.retire i).ue || x.lost }).mem := by
  simp only [State.retired, hhold, hrel, hnone, hx]
  cases (s.retire i).ticket with
  | none => rw [State.repairsNote_none] <;> simp [hopen]
  | some tk => rw [State.repairsNote_none] <;> simp [hopen]

/-! ### The ends of repairs -/

variable {ch row : Nat} {r : Repair}

/-- A channel that takes commands again after a soft repair, counted unless it was refused (R249). -/
def ChanSt.unblocked (x : ChanSt) (refused : Bool) : ChanSt :=
  { x with blocked := false, softPpr := if refused then x.softPpr else satAdd 8 x.softPpr 1 }

/-- The one repair of a channel ends: none is open, and the channel takes commands again (R249). -/
theorem State.repairDone_mem (refused : Bool) (hopen : s.mem.repairs = [r]) (hch : r.ch = ch) (hsoft : r.hard = false)
    (hwait : r.waiting = []) (hfresh : r.fresh = []) :
    (s.repairDone ch refused).mem = { (s.modChan ch (·.unblocked refused)).mem with repairs := [] } := by
  have hfind : s.mem.repairs.find? (fun r => r.ch == ch && !r.hard && r.waiting == []) = some r := by
    simp [hopen, hch, hsoft, hwait]
  have hnone : (s.mem.repairs.erase r) = [] := by simp [hopen]
  simp only [State.repairDone, hfind, State.repairDoneWith, hfresh, List.foldl_nil, ite_self, State.complete_mem,
    State.record_mem]
  exact congrArg (fun l => { (s.modChan ch _).mem with repairs := l }) hnone

theorem State.repairDone_none (h : s.mem.repairs = []) (refused : Bool) : s.repairDone ch refused = s := by
  simp [State.repairDone, h]

@[simp] theorem State.markDirty_nor (s : State) (sec : Nat) : (s.markDirty sec).msc.nor = s.msc.nor := by
  unfold State.markDirty
  split <;> rfl

/-- A hard repair of the one entry that asks for it frees the entry, and is counted in NOR (R249, R408). -/
theorem State.hardRepair_due {e : Retire} (hlist : s.mem.retire = [(i, e)]) (hvalid : e.valid = true) (hhard : e.hard = [ch])
    (hrow : rowOf (e.page * 4096) = row) (hloaded : s.mem.listLoaded = true) (htrained : s.glb.memTrained = true)
    (hswept : s.glb.memSwept = false) :
    (s.hardRepair ch row false).mem.retire = [] ∧ tget 0 (s.hardRepair ch row false).msc.nor.hardRepairs ch =
      satAdd 8 (tget 0 s.msc.nor.hardRepairs ch) 1 := by
  have hdue : s.mem.retire.filter (fun x => x.2.valid && x.2.hard.contains ch && decide (rowOf (x.2.page * 4096) = row)) =
      [(i, e)] := by simp [hlist, hvalid, hhard, hrow]
  have hfree : (s.setRetire i {}).mem.retire = [] := by simp [State.setRetire, hlist, tset, terase]
  have hnow : (s.mem.listLoaded && s.glb.memTrained && !s.glb.memSwept && [(i, e)] != []) = true := by
    simp [hloaded, htrained, hswept]
  simp only [State.hardRepair, hdue, hnow, if_true, Bool.false_eq_true, if_false, List.foldl_cons, List.foldl_nil, hhard,
    List.erase_cons_head, and_self]
  simp [hfree]

theorem State.hardRepair_swept (h : s.glb.memSwept = true) (refused : Bool) : s.hardRepair ch row refused = s := by
  simp [State.hardRepair, h]

end

theorem retirementAndRepairEnd : Claims.RetirementAndRepairEnd := by
  intro i ch row s h
  have hcomplete : exec (.retirementComplete i) s = act s (·.retired i) := rfl
  have hdone (refused : Bool) : exec (.repairDone ch refused) s = act s (·.repairDone ch refused) := rfl
  have hhard : exec (.hardRepair ch row false) s = act s (·.hardRepair ch row false) := rfl
  refine ⟨fun hhold hrel hnone hrepairs hne => ⟨_, hcomplete.trans (act_running h _), ?_⟩,
    fun hhold hrel => ⟨_, hcomplete.trans (act_running h _), ?_⟩,
    fun hhold => acts_of_act hcomplete h (State.retired_unheld hhold),
    fun r refused hopen hch hsoft hwait hfresh => ⟨_, (hdone refused).trans (act_running h _), ?_⟩,
    fun hnone => acts_of_act (hdone false) h (State.repairDone_none hnone false),
    fun hlist hvalid hask hrow hloaded htrained hswept => ⟨_, hhard.trans (act_running h _), ?_⟩,
    fun hswept => acts_of_act hhard h (State.hardRepair_swept hswept false)⟩
  · have hcopy := s.copyPage_holds hne
    have hmem := State.retired_copy_mem hhold hrel hnone rfl (hcopy.repairs.trans hrepairs)
    have hentry : (s.framed (s.retired i)).retire i = { s.retire i with
        hold := false, valid := true, ticket := none
        ue := (s.retire i).ue || (s.copyPage (s.retire i).page (s.sparePage i)).lost } := by
      rw [State.retire_framed, State.retire_of_mem hmem, State.retire_setRetire_self]
    have hline (k : Nat) : (s.framed (s.retired i)).line k = (s.copyPage (s.retire i).page (s.sparePage i)).st.line k := by
      rw [State.line_framed, State.line_of_mem hmem, State.setRetire_line]
    refine ⟨by rw [hentry], fun j hj hlost => ?_, fun hclean => ?_, fun j hj hclean hpoison => ?_, fun k hk => ?_⟩
    · have hlose : (s.line (64 * (s.retire i).page + j)).verdict.loses = true := by rw [Line.verdict, hlost]; rfl
      rw [hentry, hcopy.lost.2 ⟨j, hj, hlose⟩, Bool.or_true]
    · have hkept : (s.copyPage (s.retire i).page (s.sparePage i)).lost = false := by
        rw [Bool.eq_false_iff, ne_eq, hcopy.lost]
        rintro ⟨j, hj, hlose⟩
        rw [Line.verdict, hclean j hj] at hlose
        cases hlose
      rw [hentry, hkept, Bool.or_false]
    · rw [hline, hcopy.line j hj, Line.verdict, hclean, copiedLine_clean hpoison]
    · rw [hline, hcopy.line_ne k hk]
  · rw [State.retire_framed, State.retire_of_mem (State.retired_release_mem hhold hrel), State.retire_setRetire_self]
  · have hmem := State.repairDone_mem refused hopen hch hsoft hwait hfresh
    have hchan : (s.repairDone ch refused).chan ch = (s.chan ch).unblocked refused :=
      (congrArg (fun m : Mem => tget ({} : ChanSt) m.chans ch) hmem).trans (State.chan_modChan_self s ch (·.unblocked refused))
    refine ⟨?_, ?_, ?_⟩
    · rw [State.framed_repairs, hmem]
    · rw [State.chan_framed, hchan]
      rfl
    · rw [State.chan_framed, hchan]
      rfl
  · rw [State.framed_retireTable, State.framed_msc]
    exact State.hardRepair_due hlist hvalid hask hrow hloaded htrained hswept

end Sys2Proof.Machine
end

section
/-!
PROOFS. The background pass over the on-chip arrays (R240, R241), and the claims about the memory's events.
-/

namespace Sys2Proof.Machine

section
variable {s : State} {island array : Nat} {w : SramWord}

theorem State.sramPass_absent (h : s.arrayAt island array = false) : s.sramPass island array w = s := by
  simp only [State.sramPass, h]
  rfl

theorem State.sramPass_unswept (h : s.glb.sramSwept = false) : s.sramPass island array w = s := by
  simp [State.sramPass, h]

theorem State.sramPass_clean : s.sramPass island array .clean = s := by
  simp [State.sramPass]

variable (hhere : s.arrayAt island array = true) (hswept : s.glb.sramSwept = true)
include hhere hswept

/-- A corrected word of an array without a count of its own is counted in its island (R240). -/
theorem State.sramPass_corrected (hdir : array ≠ 2) (hacu : array ≠ 5) :
    s.sramPass island array .corrected = s.sramError island array false := by
  simp [State.sramPass, hhere, hswept]

/-- A corrected word of the directory is counted in its slice as well (R163, R240). -/
theorem State.sramPass_corrected_directory (ha : array = 2) : s.sramPass island array .corrected =
    (s.sramError island 2 false).modSlice (island - 64) fun x => { x with eccC := satAdd 16 x.eccC 1 } := by
  subst ha
  simp [State.sramPass, hhere, hswept]

/-- An uncorrectable word is counted and recorded, and the action of Table 09-5 taken; which data are lost is open. -/
theorem State.sramPass_uncorrectable (hacu : array ≠ 5) (hrecorder : array ≠ 10) :
    s.sramPass island array .uncorrectable =
      (s.useFree.sramError island array true).sramAction island array s.freeValue := by
  simp [State.sramPass, hhere, hswept, hacu, hrecorder]

end

theorem State.sramAction_msc {s : State} (h : s.msc.state = .running) (island n : Nat) :
    s.sramAction island 9 n = s.mscRestart 3 none := if_pos h

theorem backgroundPassCountsErrors : Claims.BackgroundPassCountsErrors := by
  intro isl a w s h
  have hpass : exec (.sramBackgroundPass isl a w) s = act s (·.sramPass isl a w) := rfl
  refine ⟨fun hnot => acts_of_act hpass h (State.sramPass_absent hnot),
    fun hnot => acts_of_act hpass h (State.sramPass_unswept hnot), fun hw => acts_of_act hpass h ?_,
    fun hhere hswept hw hdir hacu => acts_of_act hpass h ?_, fun hhere hswept hw ha => acts_of_act hpass h ?_,
    fun hhere hswept hw ha hrun => acts_of_act hpass h ?_, fun hhere hswept hw ha => acts_of_act hpass h ?_⟩
  · rw [hw, State.sramPass_clean]
    rfl
  · rw [hw, State.sramPass_corrected hhere hswept hdir hacu]
  · rw [hw, State.sramPass_corrected_directory hhere hswept ha]
  · rw [ha] at hhere ⊢
    rw [hw, State.sramPass_uncorrectable hhere hswept (by decide) (by decide), State.sramAction_msc (by simpa using hrun)]
  · rw [ha] at hhere ⊢
    rw [hw, State.sramPass_uncorrectable hhere hswept (by decide) (by decide)]
    rfl

/-- Settles O42: each event is one branch of its operation; a copy is an induction over the lines of a page. -/
theorem memoryEvents : Obligations.MemoryEvents := by
  unfold Obligations.MemoryEvents
  exact ⟨memoryChannelEvents, retirementAndRepairEnd, backgroundPassCountsErrors⟩

end Sys2Proof.Machine
end

section
/-!
PROOFS. The pacing of an outbound stream (R266): the bounds of one course's share.
-/

namespace Sys2Proof.Machine

/-- Whole lines of what a course could send, unless all that is staged goes (R266). -/
def wholeLines (n avail : Nat) : Nat := if n < avail then n - n % 64 else n

theorem wholeLines_le (n avail : Nat) : wholeLines n avail ≤ n := by
  unfold wholeLines
  split <;> omega

theorem wholeLines_mod_of_lt {n avail : Nat} (h : wholeLines n avail < avail) : wholeLines n avail % 64 = 0 := by
  by_cases hn : n < avail
  · simp only [wholeLines, if_pos hn]
    omega
  · rw [wholeLines, if_neg hn] at h
    exact absurd h hn

/-- Staged bytes that a course may reach. -/
def Stream.avail (d : Stream) : Nat := d.limit - d.pos

/-- Room in the drive's buffer. -/
def Stream.driveRoom (d : Stream) : Nat := 2 ^ d.dbufLog2 - (d.pos - d.ack)

/-- Credit after a course's share. -/
def Stream.courseCredit (d : Stream) (l len : Nat) : Nat := min (d.credit + d.rate * len) (1000 * rateBytes d.rate l)

/-- Bytes that a course sends. -/
def Stream.courseShare (d : Stream) (l len : Nat) : Nat :=
  wholeLines (min (d.courseCredit l len / 1000) (min d.avail d.driveRoom)) d.avail

theorem Stream.share_eq (d : Stream) (l len : Nat) : d.share l len =
    (d.courseCredit l len, d.courseShare l len,
      if d.avail < d.courseCredit l len / 1000 ∧ d.avail ≤ d.driveRoom then 1
      else if d.driveRoom < d.courseCredit l len / 1000 then 2 else 0) := rfl

theorem Stream.courseShare_le (d : Stream) (l len : Nat) : d.courseShare l len ≤ d.courseCredit l len / 1000 ∧
    d.courseShare l len ≤ d.avail ∧ d.courseShare l len ≤ d.driveRoom := by
  simpa only [Stream.courseShare, le_min_iff] using
    wholeLines_le (min (d.courseCredit l len / 1000) (min d.avail d.driveRoom)) d.avail

theorem Stream.limit_le_of_close {d : Stream} {c : Nat} (h : d.closeAt = some c) : d.limit ≤ c := by
  simp [Stream.limit, h]

theorem Stream.limit_le_of_move {d : Stream} (h : d.moveTo.isSome = true) : d.limit ≤ d.pSwitch := by
  cases hc : d.closeAt <;> simp [Stream.limit, h, hc]

/-- Settles O55: each bound is one of the minima that make up a course's share. -/
theorem pacingKeepsItsBounds : Obligations.PacingKeepsItsBounds := by
  unfold Obligations.PacingKeepsItsBounds
  intro d l len
  rw [d.share_eq]
  obtain ⟨hcredit, havail, hroom⟩ := d.courseShare_le l len
  refine ⟨min_le_right .., min_le_left .., by omega, havail, hroom, wholeLines_mod_of_lt, fun hwhy => ?_,
    fun c hc => Stream.limit_le_of_close hc, Stream.limit_le_of_move⟩
  split at hwhy
  next hshort => exact hshort.1
  next => split at hwhy <;> omega

end Sys2Proof.Machine
end

section
/-!
PROOFS. The streams of the engines: what comes back to an outbound one and what it sends (R259, R261, R267).
-/

namespace Sys2Proof.Machine

/-! ### A stream's entry -/

@[simp] theorem State.stream_cntEngine (s : State) (e code : Nat) (vfi : Option Nat) (n k : Nat) :
    (s.cntEngine e code vfi n).stream k = s.stream k := rfl

@[simp] theorem State.stream_emit (s : State) (o : Output) (k : Nat) : (s.emit o).stream k = s.stream k := rfl

theorem State.modS_of_stream {s : State} {h : Nat} {d : Stream} (hd : s.stream h = some d) (f : Stream → Stream) :
    s.modS h f = s.setStream h (some (f d)) := by
  simp only [State.modS, State.modStream, hd, Option.map_some]

/-- A stream that does not close does not end (R276). -/
theorem State.tryEnd_of_unclosed {s : State} {h : Nat} {d : Stream} (hd : s.stream h = some d) (hclose : d.closeAt = none) :
    s.tryEnd h = s := by
  simp only [State.tryEnd, hd, hclose]

theorem State.tryEnd_setStream {s : State} {h : Nat} {d : Stream} (hclose : d.closeAt = none) :
    (s.setStream h (some d)).tryEnd h = s.setStream h (some d) :=
  State.tryEnd_of_unclosed (State.stream_setStream_self ..) hclose

/-- A TLP of `k` bytes, due at `at16`, leaves when its bytes are ready, its time has come and the port is UP (R267). -/
def State.MaySend (s : State) (d : Stream) (k at16 : Nat) : Prop :=
  d.inbound = false ∧ d.ended = false ∧ d.state ≠ .denied ∧ 0 < d.unsent ∧ k ≤ d.ready ∧ at16 ≤ s.clock ∧
    (s.port d.port).state = .up

theorem State.maySend_iff (s : State) (d : Stream) (k at16 : Nat) : s.MaySend d k at16 ↔
    (d.inbound || d.ended || d.state == .denied || d.unsent == 0 || decide (d.ready < k) || decide (s.clock < at16) ||
      (s.port d.port).state != .up) = false := by
  simp [State.MaySend, and_assoc, Nat.pos_iff_ne_zero]

/-! ### Without a stream -/

section
variable {s : State} {h : Nat} (hd : s.stream h = none)
include hd

theorem State.statusRead_of_none (st : DriveStatus) : s.statusRead h st = s := by simp only [State.statusRead, hd]
theorem State.driveSilent_of_none : s.driveSilent h = s := by simp only [State.driveSilent, hd]
theorem State.stagingBack_of_none (n : Nat) (poison : Bool) : s.stagingBack h n poison = s := by
  simp only [State.stagingBack, hd]
theorem State.tlpIssue_of_none : s.tlpIssue h = s := by simp only [State.tlpIssue, hd]

end

section
variable {s : State} {h : Nat} {d : Stream} (hd : s.stream h = some d)
include hd

/-! ### STATUS and CTRL -/

/-- The STATUS of an outbound stream's drive, awaited. -/
theorem State.statusRead_outbound (st : DriveStatus) (hend : d.ended = false) (hopen : d.statusOpen = true)
    (hin : d.inbound = false) (hclose : d.closeAt = none) : s.statusRead h st = s.setStream h (some { d with
      statusOpen := false, missed := 0, silent := false, mediaRate := st.mediaRate.toNat
      driveHalted := st.state.getLsbD 2, ack := st.consumed.toNat
      pos := if d.state = .waitPort then st.consumed.toNat else d.pos
      courseFrom := if d.state = .waitPort then st.consumed.toNat else d.courseFrom
      state := if d.state = .waitPort then .running else d.state }) := by
  simp [State.statusRead, hd, hend, hopen, hin, State.tryEnd_setStream, hclose]

/-- The STATUS of an inbound stream's drive that has not halted, awaited. -/
theorem State.statusRead_inbound {st : DriveStatus} (hend : d.ended = false) (hopen : d.statusOpen = true)
    (hin : d.inbound = true) (hclose : d.closeAt = none) (hrun : st.state.getLsbD 2 = false) :
    s.statusRead h st = s.setStream h (some { d with
      statusOpen := false, missed := 0, silent := false, mediaRate := st.mediaRate.toNat, driveHalted := false
      state := if d.state = .waitPort then .running else d.state }) := by
  simp only [State.statusRead, hd, hrun]
  simp [hend, hopen, hin, State.tryEnd_setStream, hclose]

/-- An answer to the engine that a hand-over left behind. -/
theorem State.statusRead_late (st : DriveStatus) {e : Nat} {l : List Nat} (hend : d.ended = false)
    (hopen : d.statusOpen = false) (hlate : d.late = e :: l) : s.statusRead h st =
      (s.setStream h (some { d with late := l })).modEngine e fun x => { x with lateCpl := satAdd 32 x.lateCpl 1 } := by
  simp [State.statusRead, hd, hend, hopen, hlate]

theorem State.driveSilent_of_heard (h' : d.missed < 16 ∨ d.silent = true) : s.driveSilent h = s := by
  simp only [State.driveSilent, hd]
  rw [if_pos (by simpa using .inl h')]

theorem State.driveSilent_of_missed (hmiss : 16 ≤ d.missed) (hsilent : d.silent = false) (hend : d.ended = false) :
    s.driveSilent h =
      (s.setStream h (some { d with silent := true })).streamRecord h 0x33 s.now64 [(2, d.port), (8, d.ack)] 4 := by
  simp only [State.driveSilent, hd]
  rw [if_neg (by simp [hmiss, hsilent, hend])]

theorem State.ctrlValue_outbound (v : Nat) (hend : d.ended = false) (hin : d.inbound = false) :
    s.ctrlValue h v = s.setStream h (some { d with prod := v }) := by
  simp [State.ctrlValue, State.modS_of_stream hd, hend, hin]

theorem State.ctrlValue_inbound (v : Nat) (hend : d.ended = false) (hin : d.inbound = true) :
    s.ctrlValue h v = s.setStream h (some { d with cons := v }) := by
  simp [State.ctrlValue, State.modS_of_stream hd, hend, hin]

/-! ### Staged bytes -/

theorem State.stagingBack_inbound (n : Nat) (poison : Bool) (hin : d.inbound = true) : s.stagingBack h n poison = s := by
  simp only [State.stagingBack, hd, if_pos hin]

section
variable {n : Nat} (hin : d.inbound = false) (hend : d.ended = false)
include hin hend

/-- Bytes that are not the last awaited become ready, and poisoned ones are recorded (R267). -/
theorem State.stagingBack_more (poison : Bool) (hmore : d.ready + n < d.unsent) : s.stagingBack h n poison =
    let p := d.pos - d.unsent + d.ready
    let t := s.setStream h (some ({ d with
      ready := d.ready + n, poisoned := if poison then d.poisoned ++ [(p, n)] else d.poisoned }.enter s.t52 p n))
    if poison then t.streamRecord h 0x34 s.now64 [(8, p), (4, n), (1, 0)] 8 else t := by
  simp only [State.stagingBack, hd, hin, hend, Nat.min_eq_right hmore.le, hmore.ne, Nat.add_sub_cancel_left, if_false,
    Bool.false_eq_true]
  cases d.readEpoch <;> rfl

/-- With the last byte awaited the reads settle in their epoch. -/
theorem State.stagingBack_last {e : Nat} (hlast : d.unsent ≤ d.ready + n) (hread : d.readEpoch = some e) :
    s.stagingBack h n false = (s.setStream h (some ({ d with ready := d.unsent, readEpoch := none }.enter s.t52
      (d.pos - d.unsent + d.ready) (d.unsent - d.ready)))).settle (84 + d.engine) e := by
  simp [State.stagingBack, hd, hin, hend, Nat.min_eq_left hlast, hread]

end

/-! ### TLPs -/

section
variable {p k at16 : Nat} (hnext : s.nextTlp d = (p, k, at16))
include hnext

theorem State.tlpIssue_of_waiting (hwait : ¬ s.MaySend d k at16) : s.tlpIssue h = s := by
  rw [State.maySend_iff, Bool.not_eq_false] at hwait
  simp only [State.tlpIssue, hd, hnext, hwait, if_true]

/-- A TLP of sound bytes of a stream that does not close. -/
theorem State.tlpIssue_of_going (hgoes : s.MaySend d k at16) (hsound : meets d.poisoned p k = false)
    (hclose : d.closeAt = none) : s.tlpIssue h =
      let t := (s.setStream h (some { d with unsent := d.unsent - k, ready := d.ready - k }.leave)).cntEngine d.engine 0xC0 (some d.vfi) k
      (if (p + k) % d.chunk = 0 then t.cntEngine d.engine 0xC6 (some d.vfi) else t).emit (.streamTlp h p k false) := by
  rw [State.maySend_iff] at hgoes
  simp only [State.tlpIssue, hd, hnext, hgoes, Bool.false_eq_true, if_false, hsound]
  refine State.tryEnd_of_unclosed (d := { d with unsent := d.unsent - k, ready := d.ready - k }.leave) ?_ hclose
  split <;> simp

end
end

/-! ### The claim -/

theorem exec_driveStatusRead (h : Handle) (st : DriveStatus) (s : State) :
    exec (.driveStatusRead h st) s = act s fun s => s.statusRead h st := rfl

theorem exec_driveSilent (h : Handle) (s : State) : exec (.driveSilent h) s = act s fun s => s.driveSilent h := rfl

theorem exec_ctrlRead (h : Handle) (pos : BitVec 64) (s : State) :
    exec (.ctrlRead h pos) s = act s fun s => s.ctrlValue h pos.toNat := rfl

theorem exec_stagingReadResponse (h : Handle) (n : Nat) (poison : Bool) (s : State) :
    exec (.stagingReadResponse h n poison) s = act s fun s => s.stagingBack h n poison := rfl

theorem exec_streamTlpIssue (h : Handle) (s : State) : exec (.streamTlpIssue h) s = act s fun s => s.tlpIssue h := rfl

theorem outboundStreamEvents : Claims.OutboundStreamEvents := by
  intro h st pos n bad d s hheld
  generalize hnext : s.nextTlp d = next
  obtain ⟨p, k, at16⟩ := next
  refine ⟨fun hd => ⟨?_, ?_, ?_, ?_⟩, fun hd hend hopen hin hclose => ?_, fun hd hend hopen hin hclose hrun => ?_,
    fun e l hd hend hopen hlate => ?_, fun hd hheard => ?_, fun hd hmiss hsilent hend => ?_, fun hd hend hin => ?_,
    fun hd hend hin => ?_, fun hd hin => ?_, fun hd hin hend hmore => ⟨?_, ?_⟩, fun e hd hin hend hlast hread => ?_,
    fun hd hwait => ?_, fun hd hgoes hsound hclose => ?_⟩
  · exact acts_of_act (exec_driveStatusRead h _ s) hheld (State.statusRead_of_none hd st)
  · exact acts_of_act (exec_driveSilent h s) hheld (State.driveSilent_of_none hd)
  · exact acts_of_act (exec_stagingReadResponse h n _ s) hheld (State.stagingBack_of_none hd n bad)
  · exact acts_of_act (exec_streamTlpIssue h s) hheld (State.tlpIssue_of_none hd)
  · exact acts_of_act (exec_driveStatusRead h _ s) hheld (State.statusRead_outbound hd st hend hopen hin hclose)
  · exact acts_of_act (exec_driveStatusRead h _ s) hheld (State.statusRead_inbound hd hend hopen hin hclose hrun)
  · exact acts_of_act (exec_driveStatusRead h _ s) hheld (State.statusRead_late hd st hend hopen hlate)
  · exact acts_of_act (exec_driveSilent h s) hheld (State.driveSilent_of_heard hd hheard)
  · exact acts_of_act (exec_driveSilent h s) hheld (State.driveSilent_of_missed hd hmiss hsilent hend)
  · exact acts_of_act (exec_ctrlRead h pos s) hheld (State.ctrlValue_outbound hd _ hend hin)
  · exact acts_of_act (exec_ctrlRead h pos s) hheld (State.ctrlValue_inbound hd _ hend hin)
  · exact acts_of_act (exec_stagingReadResponse h n _ s) hheld (State.stagingBack_inbound hd n bad hin)
  · exact acts_of_act (exec_stagingReadResponse h n _ s) hheld (State.stagingBack_more hd hin hend false hmore)
  · exact acts_of_act (exec_stagingReadResponse h n _ s) hheld (State.stagingBack_more hd hin hend true hmore)
  · exact acts_of_act (exec_stagingReadResponse h n _ s) hheld (State.stagingBack_last hd hin hend hlast hread)
  · exact acts_of_act (exec_streamTlpIssue h s) hheld (State.tlpIssue_of_waiting hd hnext hwait)
  · exact acts_of_act (exec_streamTlpIssue h s) hheld (State.tlpIssue_of_going hd hnext hgoes hsound hclose)

end Sys2Proof.Machine
end

section
/-!
PROOFS. The streams of the engines: what an inbound one takes in, delivers and drains, and the hand-over of a move
(R262, R269 to R275).
-/

namespace Sys2Proof.Machine

/-! ### Without a stream -/

section
variable {s : State} {h : Nat} (hd : s.stream h = none)
include hd

theorem State.inletWrite_of_none (off n : Nat) (poison noSlot : Bool) : s.inletWrite h off n poison noSlot = s := by
  simp only [State.inletWrite, hd]
theorem State.deliveryDone_of_none : s.deliveryDone h = s := by simp only [State.deliveryDone, hd]
theorem State.siltDrain_of_none (poison : Bool) : s.siltDrain h poison = s := by simp only [State.siltDrain, hd]
theorem State.handover_of_none : s.handover h = s := by simp only [State.handover, hd]

end

/-- Offset `off` of the inlet lies no bytes past position `pos` when it is the position's (R262). -/
theorem inletGap_eq_zero_iff {off : Nat} (hoff : off < 2 ^ 22) (pos : Nat) :
    (off + 2 ^ 22 - pos % 2 ^ 22) % 2 ^ 22 = 0 ↔ pos % 2 ^ 22 = off := by omega

/-- Bytes at the head of the silt, up to the end of their chunk. -/
def Stream.siltRun (d : Stream) : Nat := min d.occupancy (d.chunk - d.siltHead % d.chunk)

theorem Stream.min_occupancy (d : Stream) : min d.occupancy (d.chunk - d.siltHead % d.chunk) = d.siltRun := rfl

section
variable {s : State} {h : Nat} {d : Stream} (hd : s.stream h = some d)
include hd

/-! ### The inlet -/

theorem State.inletWrite_outbound (off n : Nat) (poison noSlot : Bool) (hin : d.inbound = false) :
    s.inletWrite h off n poison noSlot = s := by
  simp [State.inletWrite, hd, hin]

section
variable {off : Nat} (n : Nat) (poison noSlot : Bool) (hoff : off < 2 ^ 22) (hin : d.inbound = true) (hend : d.ended = false)
include hoff hin hend

theorem State.inletWrite_misplaced (hplace : ¬ d.pos % 2 ^ 22 = off) (hresume : d.resumeWait = false) :
    s.inletWrite h off n poison noSlot = s.streamRecord h 0x35 s.now64 [(8, d.pos), (4, off)] 16 := by
  have hgap := mt (inletGap_eq_zero_iff hoff d.pos).1 hplace
  simp only [State.inletWrite, hd, hin, hend, hgap, hresume, Bool.not_true, Bool.or_false, Bool.false_eq_true, if_false]

theorem State.inletWrite_placed (hplace : d.pos % 2 ^ 22 = off) :
    s.inletWrite h off n poison noSlot = s.inletTake h d.pos n poison noSlot := by
  have hgap := (inletGap_eq_zero_iff hoff d.pos).2 hplace
  simp only [State.inletWrite, hd, hin, hend, hgap, Bool.not_true, Bool.or_false, Bool.false_eq_true, if_false, if_true,
    Nat.add_zero]

end

/-- Bytes of a stream that neither closes nor moves are all taken, and disposed of (R270). -/
theorem State.inletTake_of_steady {n : Nat} (poison noSlot : Bool) (hn : n ≠ 0) (hclose : d.closeAt = none)
    (hmove : d.moveTo = none) : s.inletTake h d.pos n poison noSlot =
      ((((s.modS h fun d => { d with pos := d.pos + n, courseBytes := d.courseBytes + n, resumeWait := false }.enter s.t52
        d.pos n).cntEngine d.engine 0xC1 (some d.vfi) n).dispose h d.pos n poison noSlot).modS h Stream.leave).tryEnd h := by
  simp only [State.inletTake, hd, hclose, hmove, if_neg hn, Option.isSome_none, Bool.false_eq_true, if_false,
    Option.getD_none, State.modS_of_stream hd]

/-! ### Deliveries -/

theorem State.deliveryDone_of_nothing (hwrites : d.writes = []) (hlate : d.late = []) : s.deliveryDone h = s := by
  simp only [State.deliveryDone, hd, hwrites, hlate]

theorem State.deliveryDone_of_write {p n : Nat} {rest : List (Nat × Nat)} (hwrites : d.writes = (p, n) :: rest) :
    s.deliveryDone h = (((((s.setStream h (some { d with writes := rest, ack := p + n })).cntEngine d.engine 0xCD
      (some d.vfi)).cntEngine d.engine 0xC2 (some d.vfi) n).advanceProd h).modS h Stream.leave).tryEnd h := by
  simp only [State.deliveryDone, hd, hwrites]

/-! ### The silt -/

/-- The silt waits: it is empty, an access was denied, or the destination takes nothing (R271). -/
theorem State.siltDrain_of_waiting (poison : Bool) (hwait : d.siltRun = 0 ∨ d.deliveryDenied = true ∨ d.siltDenied = true ∨
    s.targetOpen d = false ∨ d.destRoom d.siltHead d.siltRun = false) : s.siltDrain h poison = s := by
  have hguard : (d.siltRun = 0 || d.deliveryDenied || d.siltDenied || d.ended || !s.targetOpen d ||
      !d.destRoom d.siltHead d.siltRun) = true := by
    rcases hwait with hw | hw | hw | hw | hw <;> simp [hw]
  simp only [State.siltDrain, hd]
  exact if_pos hguard

theorem State.siltDrain_of_granted {s1 s2 : State} (hrun : 0 < d.siltRun) (hdeliv : d.deliveryDenied = false)
    (hsilt : d.siltDenied = false) (hend : d.ended = false) (hopen : s.targetOpen d = true)
    (hroom : d.destRoom d.siltHead d.siltRun = true)
    (hread : s.ringCheck h d true 0 d.silt d.siltLog2 d.siltHead d.siltRun = (s1, true))
    (hwrite : s1.deliver h d.siltHead d.siltRun false = (s2, true)) : s.siltDrain h false =
      (((s2.modS h fun x => { x with siltHead := x.siltHead + d.siltRun, inSilt := decide (x.siltHead + d.siltRun < x.siltTail) }).ringLines
        d.engine d.silt d.siltLog2 d.siltHead d.siltRun false false).cntEngine
        d.engine 0xC4 (some d.vfi) d.siltRun |>.emit (.siltRead h d.siltHead d.siltRun)).tryEnd h := by
  have hguard : (d.siltRun = 0 || d.deliveryDenied || d.siltDenied || d.ended || !s.targetOpen d ||
      !d.destRoom d.siltHead d.siltRun) = false := by
    simp [hrun.ne', hdeliv, hsilt, hend, hopen, hroom]
  simp only [State.siltDrain, hd, Stream.min_occupancy, hread, hwrite, Bool.not_true, Bool.false_eq_true, if_false]
  exact if_neg (Bool.eq_false_iff.1 hguard)

/-! ### The hand-over -/

/-- The hand-over waits while the old engine holds bytes of the stream (R275). -/
theorem State.handover_of_waiting (hwait : d.moveTo = none ∨ d.pos < d.pSwitch ∨ d.inbound = false ∧ d.unsent ≠ 0 ∨
    d.inbound = true ∧ ∃ w ∈ d.writes, w.1 < d.pSwitch) : s.handover h = s := by
  cases hmove : d.moveTo with
  | none => simp only [State.handover, hd, hmove]
  | some x =>
    obtain hstays | hpos | ⟨hin, hsent⟩ | ⟨hin, w, hw, hold⟩ := hwait
    · rw [hmove] at hstays
      cases hstays
    · simp [State.handover, hd, hmove, hpos.not_ge]
    · simp [State.handover, hd, hmove, hin, hsent]
    · have hall : d.writes.all (fun w => decide (d.pSwitch ≤ w.1)) = false :=
        List.all_eq_false.2 ⟨w, hw, by simpa using hold⟩
      simp [State.handover, hd, hmove, hin, hall]

theorem State.handover_outbound {e sl : Nat} {tk : Ticket} (hmove : d.moveTo = some (e, sl)) (hin : d.inbound = false)
    (hpos : d.pSwitch ≤ d.pos) (hsent : d.unsent = 0) (hend : d.ended = false) (hread : d.readEpoch = none)
    (hstatus : d.statusOpen = false) (hearly : d.early = []) (htk : d.moveTicket = some tk) (hst : d.state = .moving) :
    s.handover h = ((s.setStream h (some { d with
      engine := e, slot := sl, moveTo := none, moveTicket := none, state := .running })).complete tk stOk e).modS h Stream.leave := by
  simp only [State.handover, hd, hmove, hin, hpos, hsent, hend, hread, hstatus, hearly, htk, hst]
  simp

end

/-! ### The claim -/

theorem exec_inletWrite (h : Handle) (off : BitVec 22) (n : Nat) (poison noSlot : Bool) (s : State) :
    exec (.inletWrite h off n poison noSlot) s = act s fun s => s.inletWrite h off.toNat n poison noSlot := rfl

theorem exec_deliveryWriteComplete (h : Handle) (s : State) :
    exec (.deliveryWriteComplete h) s = act s fun s => s.deliveryDone h := rfl

theorem exec_siltDrain (h : Handle) (poison : Bool) (s : State) :
    exec (.siltDrain h poison) s = act s fun s => s.siltDrain h poison := rfl

theorem exec_streamHandover (h : Handle) (s : State) : exec (.streamHandover h) s = act s fun s => s.handover h := rfl

theorem inboundStreamEvents : Claims.InboundStreamEvents := by
  intro h off n e sl bad noSlot d tk s s1 s2 hheld inPlace k
  have inlet {f : State → State} (hf : s.inletWrite h off.toNat n bad noSlot = f s) :
      Acts (.inletWrite h off n bad noSlot) s f :=
    acts_of_act (exec_inletWrite h off n bad noSlot s) hheld hf
  have delivery {f : State → State} (hf : s.deliveryDone h = f s) : Acts (.deliveryWriteComplete h) s f :=
    acts_of_act (exec_deliveryWriteComplete h s) hheld hf
  have drain {poison : Bool} {f : State → State} (hf : s.siltDrain h poison = f s) : Acts (.siltDrain h poison) s f :=
    acts_of_act (exec_siltDrain h poison s) hheld hf
  have handover {f : State → State} (hf : s.handover h = f s) : Acts (.streamHandover h) s f :=
    acts_of_act (exec_streamHandover h s) hheld hf
  refine ⟨fun hd => ⟨inlet (State.inletWrite_of_none hd ..), delivery (State.deliveryDone_of_none hd),
      drain (State.siltDrain_of_none hd bad), handover (State.handover_of_none hd)⟩,
    fun hd hin => inlet (State.inletWrite_outbound hd _ n bad noSlot hin),
    fun hd hin hend hplace hresume => inlet (State.inletWrite_misplaced hd n bad noSlot off.isLt hin hend hplace hresume),
    fun hd hin hend hplace hn hclose hmove => inlet ?_,
    fun hd hwrites hlate => delivery (State.deliveryDone_of_nothing hd hwrites hlate),
    fun p rest hd hwrites => delivery (State.deliveryDone_of_write hd hwrites),
    fun hd hempty => drain (State.siltDrain_of_waiting hd bad (.inl (by rw [Stream.siltRun, hempty, Nat.zero_min]))),
    fun hd hdenied => drain (State.siltDrain_of_waiting hd bad (.inr (or_assoc.1 (.inl hdenied)))),
    fun hd hshut => drain (State.siltDrain_of_waiting hd bad (.inr (.inr (.inr hshut)))),
    fun hd hrun hdeliv hsilt hend hopen hroom hread hwrite => drain
      (State.siltDrain_of_granted hd hrun hdeliv hsilt hend hopen hroom hread hwrite),
    fun hd hstays => handover (State.handover_of_waiting hd (.inl hstays)),
    fun hd hpos => handover (State.handover_of_waiting hd (.inr (.inl hpos))),
    fun hd hin hsent => handover (State.handover_of_waiting hd (.inr (.inr (.inl ⟨hin, hsent⟩)))),
    fun hd hin hwrites => handover (State.handover_of_waiting hd (.inr (.inr (.inr ⟨hin, hwrites⟩)))),
    fun hd hmove hin hpos hsent hend hread hstatus hearly htk hst => handover
      (State.handover_outbound hd hmove hin hpos hsent hend hread hstatus hearly htk hst)⟩
  rw [State.inletWrite_placed hd n bad noSlot off.isLt hin hend hplace,
    State.inletTake_of_steady hd bad noSlot hn hclose hmove]

/-- Settles O54: each event is one branch of its operation on the stream. -/
theorem streamEvents : Obligations.StreamEvents := by
  unfold Obligations.StreamEvents
  exact ⟨outboundStreamEvents, inboundStreamEvents⟩

end Sys2Proof.Machine
end

section
/-!
PROOFS. The stream opcodes (Table 10-10): the reservations of OPEN, CHANGE, CLOSE and MOVE at their boundary (R264, R275, R276),
and the instant ones (R262, R274, R277).
-/

namespace Sys2Proof.Machine

/-! ### The handle -/

theorem handleOf_of_le {c : Cmd} (h : c.target ≤ 4095) : handleOf c = c.target := min_eq_right h

theorem handleClamp_of_le {c : Cmd} (h : c.target ≤ 4095) : handleClamp c = none := if_neg h.not_gt

/-! ### STREAM_OPEN -/

/-- The clamp of a descriptor's fields. -/
def State.shapeClamp (s : State) (b : List Byte) : Option Nat := if s.streamLegal b = true then none else some 24

/-- The stream that descriptor `b` describes, at the lowest free slot of engine `e`. -/
def State.asked (s : State) (b : List Byte) (e : Nat) : Stream :=
  s.streamFrom b e ((s.freeSlot e).getD 0) s.mse.opens

theorem State.asked_of_slot {s : State} {e n : Nat} (b : List Byte) (h : s.freeSlot e = some n) :
    s.asked b e = s.streamFrom b e n s.mse.opens := by rw [State.asked, h, Option.getD_some]

/-- The stream opens, with its course's reads (R259, R264). -/
def State.opened (s : State) (h : Nat) (d : Stream) : State :=
  State.courseReads { s.setStream h (some d) with mse := { (s.setStream h (some d)).mse with opens := s.mse.opens + 1 } } h

/-- STREAM_OPEN, for a handle and an engine in range (R264). -/
theorem opStreamOpen_body {c : Cmd} (tk : Ticket) (s : State) (ht : c.target ≤ 4095) (he : c.byte 16 ≤ 3) :
    opStreamOpen.body tk c s =
      let d := s.asked tk.data (c.byte 16)
      if (s.stream c.target).isSome || (s.inst d.vfi).resetting then .bad s stBusy (s.shapeClamp tk.data)
      else if (s.port d.port).cfg.role ≠ 0 then .bad s stDenied (s.shapeClamp tk.data)
      else if (s.freeSlot (c.byte 16)).isNone || decide ((s.inst d.vfi).streamsMax ≤ s.streamsOf d.vfi) then
        .bad s stNoResource (s.shapeClamp tk.data)
      else (s.fitRate c.target d d.rate).elim (.bad s stNoResource (s.shapeClamp tk.data)) fun r =>
        .ok (s.opened c.target { d with rate := r }) r
          (minClamp (s.shapeClamp tk.data) (if r = d.rate then none else some 24)) := by
  simp only [opStreamOpen, handleOf_of_le ht, handleClamp_of_le ht, Cmd.ranged_byte_upTo, if_pos he, min_eq_right he,
    minClamp_none_left, State.asked, State.shapeClamp]
  cases s.fitRate c.target _ _ <;> rfl

section
variable {c : Cmd} {tk : Ticket} {s : State} {d : Stream} (ht : c.target ≤ 4095) (he : c.byte 16 ≤ 3)
  (hask : s.asked tk.data (c.byte 16) = d)
include ht he hask

theorem opStreamOpen_body_busy (hbusy : s.stream c.target ≠ none ∨ (s.inst d.vfi).resetting = true) :
    opStreamOpen.body tk c s = .bad s stBusy (s.shapeClamp tk.data) := by
  rw [opStreamOpen_body tk s ht he, hask]
  exact if_pos (by simpa [Option.isSome_iff_ne_none] using hbusy)

variable (hfree : (s.inst d.vfi).resetting = false ∧ s.stream c.target = none)
include hfree

theorem opStreamOpen_body_denied (hrole : (s.port d.port).cfg.role ≠ 0) :
    opStreamOpen.body tk c s = .bad s stDenied (s.shapeClamp tk.data) := by
  rw [opStreamOpen_body tk s ht he, hask]
  dsimp only
  rw [if_neg (by simp [hfree]), if_pos hrole]

variable (hrole : (s.port d.port).cfg.role = 0)
include hrole

/-- Without a slot, beyond the limit of streams, or where no rate fits (R264, R292). -/
theorem opStreamOpen_body_full (hfull : s.freeSlot (c.byte 16) = none ∨ (s.inst d.vfi).streamsMax ≤ s.streamsOf d.vfi ∨
    s.fitRate c.target d d.rate = none) : opStreamOpen.body tk c s = .bad s stNoResource (s.shapeClamp tk.data) := by
  rw [opStreamOpen_body tk s ht he, hask]
  dsimp only
  rw [if_neg (by simp [hfree]), if_neg (not_not.2 hrole)]
  split
  next => rfl
  next hroom =>
    simp only [Bool.or_eq_true, Option.isNone_iff_eq_none, decide_eq_true_eq, not_or] at hroom
    rw [(hfull.resolve_left hroom.1).resolve_left hroom.2, Option.elim_none]

theorem opStreamOpen_body_granted {n r : Nat} (hslot : s.freeSlot (c.byte 16) = some n)
    (hmax : s.streamsOf d.vfi < (s.inst d.vfi).streamsMax) (hfit : s.fitRate c.target d d.rate = some r) :
    opStreamOpen.body tk c s = .ok (s.opened c.target { d with rate := r }) r
      (minClamp (s.shapeClamp tk.data) (if r = d.rate then none else some 24)) := by
  rw [opStreamOpen_body tk s ht he, hask]
  dsimp only
  rw [if_neg (by simp [hfree]), if_neg (not_not.2 hrole), if_neg (by simp [hslot, hmax]), hfit, Option.elim_some]

end

/-! ### STREAM_CHANGE -/

/-- The RATE that STREAM_CHANGE asks for; 0 leaves it. -/
def wantedRate (c : Cmd) : Nat := min 65535 (c.le 16 4)

/-- The clamp of the RATE that STREAM_CHANGE asks for. -/
def rateClamp (c : Cmd) : Option Nat := if 65535 < c.le 16 4 then some 16 else none

/-- The LEAD that STREAM_CHANGE leaves: its own, if it gives one. -/
def Stream.leadAfter (d : Stream) (c : Cmd) : Nat := if c.le 20 2 = 0 then d.lead else c.le 20 2

/-- The rate and the lead of a stream change (R264). -/
def State.rerated (s : State) (c : Cmd) (d : Stream) (r : Nat) : State :=
  s.setStream c.target (some { d with rate := r, lead := d.leadAfter c })

/-- STREAM_CHANGE, for a handle in range (R264). -/
theorem opStreamChange_body {c : Cmd} {tk : Ticket} {s : State} (ht : c.target ≤ 4095) : opStreamChange.body tk c s =
    (s.stream c.target).elim (.bad s stDenied (rateClamp c)) fun d =>
      if wantedRate c = 0 ∨ wantedRate c ≤ d.rate then
        .ok (s.rerated c d (if wantedRate c = 0 then d.rate else wantedRate c))
          (if wantedRate c = 0 then d.rate else wantedRate c) (rateClamp c)
      else (s.fitRate c.target d (wantedRate c)).elim (.bad s stNoResource (rateClamp c)) fun r =>
        .ok (s.rerated c d (max r d.rate)) (max r d.rate)
          (minClamp (rateClamp c) (if max r d.rate = wantedRate c then none else some 16)) := by
  simp only [opStreamChange, handleOf_of_le ht, handleClamp_of_le ht, minClamp_none_left]
  cases s.stream c.target with
  | none => rfl
  | some d =>
    simp only [Option.elim_some, wantedRate]
    cases s.fitRate c.target d (min 65535 (c.le 16 4)) <;> rfl

section
variable {c : Cmd} {tk : Ticket} {s : State} {d : Stream} (ht : c.target ≤ 4095) (hd : s.stream c.target = some d)
include ht hd

theorem opStreamChange_body_lower (hwant : wantedRate c = 0 ∨ wantedRate c ≤ d.rate) : opStreamChange.body tk c s =
    .ok (s.rerated c d (if wantedRate c = 0 then d.rate else wantedRate c))
      (if wantedRate c = 0 then d.rate else wantedRate c) (rateClamp c) := by
  rw [opStreamChange_body ht, hd, Option.elim_some, if_pos hwant]

/-- A rate above the stream's takes what fits. -/
theorem opStreamChange_body_higher (hwant : d.rate < wantedRate c) : opStreamChange.body tk c s =
    (s.fitRate c.target d (wantedRate c)).elim (.bad s stNoResource (rateClamp c)) fun r =>
      .ok (s.rerated c d (max r d.rate)) (max r d.rate)
        (minClamp (rateClamp c) (if max r d.rate = wantedRate c then none else some 16)) := by
  rw [opStreamChange_body ht, hd, Option.elim_some, if_neg (by omega)]

end

/-! ### STREAM_CLOSE -/

/-- STREAM_CLOSE, for a handle and a kind in range (R276). -/
theorem opStreamClose_body {c : Cmd} {tk : Ticket} {s : State} (ht : c.target ≤ 4095) (he : c.byte 16 ≤ 2) :
    opStreamClose.body tk c s = (s.stream c.target).elim (.bad s stDenied) fun d =>
      if d.closeAt.isSome then .bad s stBusy
      else .later (s.startClose c.target (if c.byte 16 = 0 then d.keepSilt else c.byte 16 == 1) (some tk) false) := by
  simp only [opStreamClose, handleOf_of_le ht, handleClamp_of_le ht, Cmd.ranged_byte_upTo, if_pos he, min_eq_right he,
    minClamp_none_right]
  cases s.stream c.target <;> rfl

/-! ### STREAM_MOVE -/

/-- STREAM_MOVE, for a handle and an engine in range (R275). -/
theorem opStreamMove_body {c : Cmd} {tk : Ticket} {s : State} (ht : c.target ≤ 4095) (he : c.byte 16 ≤ 3) :
    opStreamMove.body tk c s = (s.stream c.target).elim (.bad s stDenied) fun d =>
      if d.moveTo.isSome || d.closeAt.isSome then .bad s stBusy
      else if d.engine = c.byte 16 then .ok s (c.byte 16)
      else (s.freeSlot (c.byte 16)).elim (.bad s stNoResource) fun n =>
        if !s.engineFits c.target (c.byte 16) d.rate then .bad s stNoResource
        else .later (s.setStream c.target (some { d with
          moveTo := some (c.byte 16, n), pSwitch := d.chunkEnd d.pos, moveTicket := some tk
          state := if d.state = .running then .moving else d.state })) := by
  simp only [opStreamMove, handleOf_of_le ht, handleClamp_of_le ht, Cmd.ranged_byte_upTo, if_pos he, min_eq_right he,
    minClamp_none_right]
  cases s.stream c.target <;> cases s.freeSlot (c.byte 16) <;> rfl

section
variable {c : Cmd} {tk : Ticket} {s : State} {d : Stream} (ht : c.target ≤ 4095) (he : c.byte 16 ≤ 3)
  (hd : s.stream c.target = some d)
include ht he hd

theorem opStreamMove_body_busy (hbusy : d.moveTo ≠ none ∨ d.closeAt ≠ none) :
    opStreamMove.body tk c s = .bad s stBusy := by
  rw [opStreamMove_body ht he, hd, Option.elim_some, if_pos (by simpa [Option.isSome_iff_ne_none] using hbusy)]

variable (hrests : d.moveTo = none ∧ d.closeAt = none)
include hrests

theorem opStreamMove_body_same (heng : d.engine = c.byte 16) : opStreamMove.body tk c s = .ok s (c.byte 16) := by
  rw [opStreamMove_body ht he, hd, Option.elim_some, if_neg (by simp [hrests]), if_pos heng]

variable (heng : d.engine ≠ c.byte 16)
include heng

theorem opStreamMove_body_held {n : Nat} (hslot : s.freeSlot (c.byte 16) = some n)
    (hfits : s.engineFits c.target (c.byte 16) d.rate = true) :
    opStreamMove.body tk c s = .later (s.setStream c.target (some { d with
      moveTo := some (c.byte 16, n), pSwitch := d.chunkEnd d.pos, moveTicket := some tk
      state := if d.state = .running then .moving else d.state })) := by
  rw [opStreamMove_body ht he, hd, Option.elim_some, if_neg (by simp [hrests]), if_neg heng, hslot, Option.elim_some,
    if_neg (by simp [hfits])]

theorem opStreamMove_body_full (hfull : s.freeSlot (c.byte 16) = none ∨ s.engineFits c.target (c.byte 16) d.rate = false) :
    opStreamMove.body tk c s = .bad s stNoResource := by
  rw [opStreamMove_body ht he, hd, Option.elim_some, if_neg (by simp [hrests]), if_neg heng]
  cases hslot : s.freeSlot (c.byte 16) with
  | none => rfl
  | some n =>
    have hfits := hfull.resolve_left (by simp [hslot])
    rw [Option.elim_some, if_pos (by simp [hfits])]

end

/-! ### STREAM_RESUME and STREAM_QUERY -/

/-- The six words of a stream (R277). -/
def Stream.words (d : Stream) (g : Nat) : List Nat :=
  [d.word g, d.pos % 2 ^ 32, d.ack % 2 ^ 32, min (2 ^ 32 - 1) (d.occupancy / 1024), min (2 ^ 32 - 1) d.lost, d.runway32]

section
variable {c : Cmd} {tk : Ticket} {s : State} (ht : c.target ≤ 4095)
include ht

theorem opStreamResume_body_none (hd : s.stream c.target = none) : opStreamResume.body tk c s = .bad s stDenied := by
  simp only [opStreamResume, handleOf_of_le ht, handleClamp_of_le ht, hd]

theorem opStreamQuery_body_none (hd : s.stream c.target = none) (hk : c.byte 16 ≤ 5) :
    opStreamQuery.body tk c s = .bad s stDenied := by
  simp only [opStreamQuery, handleOf_of_le ht, handleClamp_of_le ht, Cmd.ranged_byte_upTo, if_pos hk, minClamp_none_left, hd]

variable {d : Stream} (hd : s.stream c.target = some d)
include hd

/-- What was denied is cleared; RESULT 1 says that nothing was (R274). -/
theorem opStreamResume_body : opStreamResume.body tk c s = .ok
    (s.setStream c.target (some { d with
      deliveryDenied := false, siltDenied := false
      state := if d.state = .denied then (if d.moveTo.isSome then .moving else .running) else d.state }))
    (if d.state = .denied ∨ d.deliveryDenied = true ∨ d.siltDenied = true then 0 else 1) := by
  have hdenied : (d.state == .denied || d.deliveryDenied || d.siltDenied) = true ↔
      d.state = .denied ∨ d.deliveryDenied = true ∨ d.siltDenied = true := by simp [or_assoc]
  have hwas : bit (!(d.state == .denied || d.deliveryDenied || d.siltDenied)) =
      if d.state = .denied ∨ d.deliveryDenied = true ∨ d.siltDenied = true then 0 else 1 := by
    split
    next h => rw [hdenied.2 h]; rfl
    next h => rw [Bool.eq_false_iff.2 (mt hdenied.1 h)]; rfl
  simp only [opStreamResume, handleOf_of_le ht, handleClamp_of_le ht, hd, hwas]

theorem opStreamQuery_body {v : Nat} (hv : (d.words c.target)[c.byte 16]? = some v) :
    opStreamQuery.body tk c s = .ok s v := by
  have hk : c.byte 16 ≤ 5 := Nat.le_of_lt_succ (List.getElem?_eq_some_iff.1 hv).1
  simp only [opStreamQuery, handleOf_of_le ht, handleClamp_of_le ht, Cmd.ranged_byte_upTo, if_pos hk, min_eq_right hk,
    minClamp_none_left, hd]
  generalize c.byte 16 = k at hk hv
  interval_cases k <;> exact congrArg (Reply.ok s ·) (Option.some.inj hv)

end

/-! ### MSE_SETUP -/

section
variable {c : Cmd} {tk : Ticket} {s : State}
  (hbases : c.le 16 8 % 2 ^ 34 = 0 ∧ c.le 16 8 + 2 ^ 34 ≤ 2 ^ 56 ∧ c.le 24 8 < 2 ^ 56)
include hbases

/-- MSE_SETUP, with its two bases in range (R262). -/
theorem opMseSetup_body : opMseSetup.body tk c s =
    if s.streamList != [] then .bad s stBusy
    else .ok { s with mse := { s.mse with inletBase := c.le 16 8, localBase := c.le 24 8 } } 0 := by
  obtain ⟨halign, hbelow, hlocal⟩ := hbases
  have hinlet : alignDown 34 (min (c.le 16 8) (2 ^ 56 - 2 ^ 34)) = c.le 16 8 := by
    rw [min_eq_left (by omega), alignDown_of_aligned halign]
  have hlocal' : min (c.le 24 8) (2 ^ 56 - 1) = c.le 24 8 := min_eq_left (by omega)
  simp only [opMseSetup, hinlet, hlocal', ne_eq, not_true_eq_false, if_false]

end

/-- Settles O53: each opcode's body, for a handle in range, answers by the stream's entry and by what the reservations leave. -/
theorem streamOpcodes : Obligations.StreamOpcodes := by
  unfold Obligations.StreamOpcodes
  intro c l d n r s hg hh h e g new shape free want lead cut rests bases
  refine ⟨fun hq => OpSpec.takesPlace (o := opStreamOpen) rfl hq rfl,
    fun hq => OpSpec.takesPlace (o := opStreamChange) rfl hq rfl,
    fun hq => OpSpec.takesPlace (o := opStreamClose) rfl hq rfl, fun hq => OpSpec.takesPlace (o := opStreamMove) rfl hq rfl,
    fun hdue he hfree hrole hslot hmax hfit => ?_, fun hdue he hbusy => ?_, fun hdue he hfree hrole => ?_,
    fun hdue he hfree hrole hslot => ?_, fun hdue he hfree hrole hslot hfull => ?_, fun hdue hd => ?_, fun hdue hd hwant => ?_,
    fun hdue hd hwant hfit => ?_, fun hdue hd hwant hfit => ?_, fun hdue he hd => ?_, fun hdue he hd hclose => ?_,
    fun hdue he hd hclose => ?_, fun hdue he hd => ?_, fun hdue he hd hbusy => ?_, fun hdue he hd hrests heng => ?_,
    fun hdue he hd hrests heng hslot hfits => ?_, fun hdue he hd hrests heng hfull => ?_, fun hi hd => ?_, fun hi hd => ?_,
    fun hi hd hk => ?_, fun v hi hd hv => ?_, fun hi hnone hb => ?_, fun hi hsome hb => ?_⟩
  · exact OpSpec.launches hdue rfl (opStreamOpen_body_granted (s := s.unqueue l) hh he
      (State.asked_of_slot (s := s.unqueue l) l.data hslot) hfree hrole hslot hmax hfit)
  · exact OpSpec.launchEnds hdue rfl (opStreamOpen_body_busy (s := s.unqueue l) hh he rfl hbusy)
  · exact OpSpec.launchEnds hdue rfl (opStreamOpen_body_denied (s := s.unqueue l) hh he rfl hfree hrole)
  · exact OpSpec.launchEnds hdue rfl (opStreamOpen_body_full (s := s.unqueue l) hh he rfl hfree hrole (.inl hslot))
  · exact OpSpec.launchEnds hdue rfl (opStreamOpen_body_full (s := s.unqueue l) hh he
      (State.asked_of_slot (s := s.unqueue l) l.data hslot) hfree hrole (.inr hfull))
  · refine OpSpec.launchEnds hdue rfl ?_
    rw [opStreamChange_body hh, State.unqueue_stream, hd, Option.elim_none]
    rfl
  · exact OpSpec.launches hdue rfl (opStreamChange_body_lower (s := s.unqueue l) hh hd hwant)
  · exact OpSpec.launches hdue rfl ((opStreamChange_body_higher (s := s.unqueue l) hh hd hwant).trans
      (congrArg (Option.elim · _ _) hfit))
  · exact OpSpec.launchEnds hdue rfl ((opStreamChange_body_higher (s := s.unqueue l) hh hd hwant).trans
      (congrArg (Option.elim · _ _) hfit))
  · refine OpSpec.launchEnds hdue rfl ?_
    rw [opStreamClose_body hh he, State.unqueue_stream, hd, Option.elim_none]
  · refine OpSpec.launchHolds hdue rfl ?_
    rw [opStreamClose_body hh he, State.unqueue_stream, hd, Option.elim_some, hclose, Option.isSome_none,
      if_neg Bool.false_ne_true]
  · refine OpSpec.launchEnds hdue rfl ?_
    rw [opStreamClose_body hh he, State.unqueue_stream, hd, Option.elim_some, if_pos (Option.isSome_iff_ne_none.2 hclose)]
  · refine OpSpec.launchEnds hdue rfl ?_
    rw [opStreamMove_body hh he, State.unqueue_stream, hd, Option.elim_none]
  · exact OpSpec.launchEnds hdue rfl (opStreamMove_body_busy (s := s.unqueue l) hh he hd hbusy)
  · exact OpSpec.launches hdue rfl (opStreamMove_body_same (s := s.unqueue l) hh he hd hrests heng)
  · exact OpSpec.launchHolds hdue rfl (opStreamMove_body_held (s := s.unqueue l) hh he hd hrests heng hslot hfits)
  · exact OpSpec.launchEnds hdue rfl (opStreamMove_body_full (s := s.unqueue l) hh he hd hrests heng hfull)
  · exact OpSpec.completes (o := opStreamResume) rfl hi rfl rfl (opStreamResume_body hg (by rwa [State.accept_stream]))
  · exact OpSpec.endsWith (o := opStreamResume) rfl hi rfl rfl (opStreamResume_body_none hg (by rwa [State.accept_stream]))
  · exact OpSpec.endsWith (o := opStreamQuery) rfl hi rfl rfl (opStreamQuery_body_none hg (by rwa [State.accept_stream]) hk)
  · exact OpSpec.completes (o := opStreamQuery) rfl hi rfl rfl (opStreamQuery_body hg (by rwa [State.accept_stream]) hv)
  · refine OpSpec.completes (o := opMseSetup) rfl hi rfl rfl ?_
    rw [opMseSetup_body hb, State.accept_streamList, if_neg (by simp [hnone])]
  · refine OpSpec.endsWith (o := opMseSetup) rfl hi rfl rfl ?_
    rw [opMseSetup_body hb, State.accept_streamList, if_pos (by simp [hsome])]

end Sys2Proof.Machine
end

section
/-!
PROOFS. The VFI opcodes that wait for their boundary (Table 11-8, R285, R288 to R290, R293, R296, R301).
-/

namespace Sys2Proof.Machine

theorem vfiOf_of_le {c : Cmd} (h : c.target ≤ 255) : vfiOf c = c.target := min_eq_right h

theorem vfiClamp_of_le {c : Cmd} (h : c.target ≤ 255) : vfiClamp c = none := if_neg h.not_gt

/-- A list of numbered entries has one with the number `i`. -/
theorem any_fst_eq_true {α : Type} {xs : List (Nat × α)} {i : Nat} : xs.any (·.1 == i) = true ↔ ∃ x ∈ xs, x.1 = i := by
  simp only [List.any_eq_true, beq_iff_eq]

theorem any_fst_eq_false {α : Type} {xs : List (Nat × α)} {i : Nat} :
    xs.any (·.1 == i) = false ↔ ∀ x ∈ xs, x.1 ≠ i := by
  simp only [List.any_eq_false, beq_iff_eq, ne_eq]

/-! ### VFI_BIND -/

/-- A port that nothing holds has no binding, neither as a whole nor of an LD. -/
theorem State.binding_of_free {s : State} {p i : Nat} (h : s.blockBindings p = []) (hi : i < 17) :
    s.binding (17 * p + i) = none := by
  simpa using List.filterMap_eq_nil_iff.1 h i (List.mem_range.2 hi)

/-- The key of the block that VFI_BIND names, for a port and an LD in range. -/
def bindKey (c : Cmd) : Nat := if c.byte 18 = 0xFF then 17 * c.le 16 2 + 16 else 17 * c.le 16 2 + c.byte 18

/-- The key that VFI_BIND reckons, of a whole port or of LD 0 to 15. -/
theorem bindKey_eq {c : Cmd} (h : c.byte 18 = 0xFF ∨ c.byte 18 ≤ 15) :
    17 * c.le 16 2 + (if c.byte 18 = 255 then 16 else min 15 (c.byte 18)) = bindKey c := by
  rw [bindKey]
  split <;> omega

/-- VFI_BIND names a whole port by LD-ID 0xFF alone. -/
theorem bindLd_eq_whole (c : Cmd) : (if c.byte 18 = 255 then 16 else min 15 (c.byte 18)) = 16 ↔ c.byte 18 = 255 := by
  split <;> omega

/-- OWNER is an upstream port of the VFI, and VPPB a number of a virtual switch. -/
def State.bindUp (s : State) (c : Cmd) : Bool :=
  decide (c.le 20 2 < 1024 ∧ c.byte 22 < 64) && (s.port (c.le 20 2)).cfg.role == 1 &&
    (s.binding (17 * c.le 20 2 + 16)).any fun b => b.vfi == c.target

theorem State.bindUp_iff {s : State} {c : Cmd} : s.bindUp c = true ↔
    c.le 20 2 < 1024 ∧ c.byte 22 < 64 ∧ (s.port (c.le 20 2)).cfg.role = 1 ∧
      ∃ b, s.binding (17 * c.le 20 2 + 16) = some b ∧ b.vfi = c.target := by
  simp [State.bindUp, Option.any_eq_true, and_assoc]

/-- The vPPB number asked for, unless it is in use, or the lowest free one. -/
def State.bindPick (s : State) (c : Cmd) : Option Nat :=
  if c.byte 22 ≠ 0 then (if (s.vppbs (c.le 20 2) (bindKey c)).contains (c.byte 22) then none else some (c.byte 22))
  else ((List.range 63).map (· + 1)).find? fun n => !(s.vppbs (c.le 20 2) (bindKey c)).contains n

theorem State.bindPick_of_used {s : State} {c : Cmd} (hasked : c.byte 22 ≠ 0)
    (hused : c.byte 22 ∈ s.vppbs (c.le 20 2) (bindKey c)) : s.bindPick c = none := by
  rw [State.bindPick, if_pos hasked, if_pos (List.contains_iff_mem.2 hused)]

theorem State.bindPick_of_free {s : State} {c : Cmd} {n : Nat} (h :
    c.byte 22 ≠ 0 ∧ n = c.byte 22 ∧ n ∉ s.vppbs (c.le 20 2) (bindKey c) ∨ c.byte 22 = 0 ∧
      ((List.range 63).map (· + 1)).find? (fun n => !(s.vppbs (c.le 20 2) (bindKey c)).contains n) = some n) :
    s.bindPick c = some n := by
  obtain ⟨hasked, rfl, hfree⟩ | ⟨hasked, hfind⟩ := h
  · rw [State.bindPick, if_pos hasked, if_neg (mt List.contains_iff_mem.1 hfree)]
  · rw [State.bindPick, if_neg (not_not.2 hasked), hfind]

section
variable {c : Cmd} {tk : Ticket} {s : State} (ht : c.target ≤ 255) (hp : c.le 16 2 ≤ 1023)
include ht hp

/-- VFI_BIND binds no LD of a port that is not a downstream port. -/
theorem opVfiBind_body_ldDenied (hld : c.byte 18 ≤ 15) (hon : c.byte 19 = 1) (hrole : (s.port (c.le 16 2)).cfg.role ≠ 0) :
    opVfiBind.body tk c s = .bad s stDenied := by
  have hpart : c.byte 18 ≠ 255 := by omega
  have hone : c.byte 18 ≠ 16 := by omega
  have hcl : ¬ 15 < c.byte 18 := by omega
  simp [opVfiBind, vfiClamp_of_le ht, Cmd.ranged_inside (Nat.zero_le _) hp, Cmd.ranged_byte_upTo, hon, hpart, hone, hcl,
    hrole, hld]

variable (hblock : c.byte 18 = 0xFF ∨ c.byte 18 ≤ 15)
include hblock

/-- VFI_BIND that binds a block of a port that nothing holds (R296). -/
theorem opVfiBind_body_free (hon : c.byte 19 = 1) (hfree : s.blockBindings (c.le 16 2) = []) :
    opVfiBind.body tk c s =
      let role := (s.port (c.le 16 2)).cfg.role
      if c.byte 18 ≠ 0xFF ∧ role ≠ 0 then .bad s stDenied
      else if role ≠ 0 then
        .ok (s.bindNow (bindKey c) { vfi := c.target, owner := c.le 16 2, vppb := 0, role := role }) (c.target + 2 ^ 8)
      else if !s.bindUp c then .bad s stDenied
      else (s.bindPick c).elim (.bad s stNoResource) fun n =>
        .ok (s.bindNow (bindKey c) { vfi := c.target, owner := c.le 20 2, vppb := n, role := 0 })
          (c.target + 2 ^ 8 + 2 ^ 9 * n) := by
  have hcl : ¬ (c.byte 18 ≠ 255 ∧ 15 < c.byte 18) := by omega
  have hnone : s.binding (bindKey c) = none := bindKey_eq hblock ▸ State.binding_of_free hfree (by split <;> omega)
  simp only [opVfiBind, vfiOf_of_le ht, vfiClamp_of_le ht, Cmd.ranged_inside (Nat.zero_le _) hp, Cmd.ranged_byte_upTo, hon,
    bindKey_eq hblock, ne_eq, bindLd_eq_whole, hcl, hfree, hnone, List.filter_nil, ite_self]
  rw [← State.bindPick]
  cases hup : s.binding (17 * c.le 20 2 + 16) <;> cases s.bindPick c <;>
    simp [State.bindUp, hup, Reply.ok, bindImage]

section
variable (hon : c.byte 19 = 1) (hfree : s.blockBindings (c.le 16 2) = [])
include hon hfree

/-- An upstream or trunk port is given whole. -/
theorem opVfiBind_body_whole (hwhole : c.byte 18 = 0xFF) (hrole : (s.port (c.le 16 2)).cfg.role ≠ 0) :
    opVfiBind.body tk c s = .ok (s.bindNow (17 * c.le 16 2 + 16)
      { vfi := c.target, owner := c.le 16 2, vppb := 0, role := (s.port (c.le 16 2)).cfg.role }) (c.target + 2 ^ 8) := by
  rw [opVfiBind_body_free ht hp hblock hon hfree, bindKey, if_pos hwhole]
  simp [hwhole, hrole]

variable (hrole : (s.port (c.le 16 2)).cfg.role = 0)
include hrole

/-- A downstream port, or an LD of it, needs an upstream port of the VFI. -/
theorem opVfiBind_body_ownerDenied (hup : s.bindUp c = false) : opVfiBind.body tk c s = .bad s stDenied := by
  simp [opVfiBind_body_free ht hp hblock hon hfree, hrole, hup]

variable (hup : s.bindUp c = true)
include hup

theorem opVfiBind_body_vppb {n : Nat} (hpick : s.bindPick c = some n) :
    opVfiBind.body tk c s = .ok (s.bindNow (bindKey c) { vfi := c.target, owner := c.le 20 2, vppb := n, role := 0 })
      (c.target + 2 ^ 8 + 2 ^ 9 * n) := by
  simp [opVfiBind_body_free ht hp hblock hon hfree, hrole, hup, hpick]

theorem opVfiBind_body_noVppb (hpick : s.bindPick c = none) : opVfiBind.body tk c s = .bad s stNoResource := by
  simp [opVfiBind_body_free ht hp hblock hon hfree, hrole, hup, hpick]

end

/-- VFI_BIND that unbinds a block that alone of its port is held, by the VFI (R296). -/
theorem opVfiBind_body_unbind {b : Binding} (hoff : c.byte 19 = 0) (hone : s.blockBindings (c.le 16 2) = [(bindKey c, b)])
    (hb : s.binding (bindKey c) = some b) (hv : b.vfi = c.target) (hup : (s.port (c.le 16 2)).state ≠ .up) :
    opVfiBind.body tk c s = .ok (s.unbindNow (bindKey c)) c.target := by
  have hcl : ¬ (c.byte 18 ≠ 255 ∧ 15 < c.byte 18) := by omega
  have hnear : (if c.byte 18 = 255 then (s.blockBindings (c.le 16 2)).filter (·.1 != bindKey c)
      else (s.blockBindings (c.le 16 2)).filter fun y => y.1 == 17 * c.le 16 2 + 16) = [] := by
    rw [hone]
    split
    · simp
    next hpart =>
      have hkey : bindKey c ≠ 17 * c.le 16 2 + 16 := by
        rw [bindKey, if_neg hpart]
        omega
      simp [hkey]
  simp only [opVfiBind, vfiOf_of_le ht, vfiClamp_of_le ht, Cmd.ranged_inside (Nat.zero_le _) hp, Cmd.ranged_byte_upTo, hoff,
    bindKey_eq hblock, bindLd_eq_whole, hcl, hnear, hb]
  simp [hv, hup, bindImage, Reply.ok]

/-- VFI_BIND that unbinds a block of a port that nothing holds answers at once (R296). -/
theorem opVfiBind_body_unbound (hoff : c.byte 19 = 0) (hfree : s.blockBindings (c.le 16 2) = [])
    (hb : s.binding (bindKey c) = none) : opVfiBind.body tk c s = .ok s c.target := by
  have hcl : ¬ (c.byte 18 ≠ 255 ∧ 15 < c.byte 18) := by omega
  simp [opVfiBind, vfiOf_of_le ht, vfiClamp_of_le ht, Cmd.ranged_inside (Nat.zero_le _) hp, Cmd.ranged_byte_upTo, hoff,
    bindKey_eq hblock, hcl, hfree, hb, bindImage, Reply.ok]

end

/-! ### VFI_WINDOW_SET -/

/-- A window that is legal as asked for is not clamped. -/
theorem winClamp_of (bits : Nat) : winClamp bits (Win.of bits) = none := by
  simp [winClamp]

section
variable {s : State} {v i : Nat} {tk : Ticket}

/-- A window of which no extent is accepted goes at once. -/
theorem State.winRemove_of_unaccepted (hacc : ∀ a ∈ (s.inst v).accepted, a.1 ≠ i) :
    s.winRemove v i tk = .ok (s.putWindow v i 0) i := by
  have hnone : (s.inst v).accepted.any (·.1 == i) = false := any_fst_eq_false.2 hacc
  simp [State.winRemove, hnone]

/-- The accepted extents of a dynamic-capacity window are asked back before it goes (R289). -/
theorem State.winRemove_of_accepted (hdc : (s.winNow v i).dc = true) (hvalid : (s.winNow v i).valid = true)
    (hacc : ∃ a ∈ (s.inst v).accepted, a.1 = i) :
    s.winRemove v i tk = .later ((s.offer v i false).modInst v fun x =>
      { x with releasing := x.releasing ++ [(i, s.clock + ms16 10000, tk)] }) := by
  have hsome : (s.inst v).accepted.any (·.1 == i) = true := any_fst_eq_true.2 hacc
  simp only [State.winRemove, hdc, hvalid, hsome, Bool.and_true, if_true]
  rfl

end

section
variable {c : Cmd} {tk : Ticket} {s : State} (ht : c.target ≤ 255) (hi : c.byte 16 ≤ 31)
include ht hi

theorem opVfiWindowSet_body_busy (hbusy : ¬ ∀ r ∈ (s.inst c.target).releasing, r.1 ≠ c.byte 16) :
    opVfiWindowSet.body tk c s = .bad s stBusy := by
  have hany : (s.inst c.target).releasing.any (·.1 == c.byte 16) = true := eq_true_of_ne_false (mt any_fst_eq_false.1 hbusy)
  simp [opVfiWindowSet, vfiOf_of_le ht, vfiClamp_of_le ht, Cmd.ranged_byte_upTo, hi, hany]

variable (hcalm : ∀ r ∈ (s.inst c.target).releasing, r.1 ≠ c.byte 16)
include hcalm

/-- VFI_WINDOW_SET without VALID removes the window (log entry 57). -/
theorem opVfiWindowSet_body_remove (hoff : (Win.of (c.le 32 32)).valid = false) :
    opVfiWindowSet.body tk c s = { s.winRemove c.target (c.byte 16) tk with clamp := none } := by
  have hany : (s.inst c.target).releasing.any (·.1 == c.byte 16) = false := any_fst_eq_false.2 hcalm
  have hvalid : (s.winLegal (c.le 32 32)).valid = false := hoff
  simp [opVfiWindowSet, vfiOf_of_le ht, vfiClamp_of_le ht, Cmd.ranged_byte_upTo, hi, hany, hvalid]

/-- VFI_WINDOW_SET of a legal window (R288). -/
theorem opVfiWindowSet_body_legal {w : Win} (hw : Win.of (c.le 32 32) = w) (hvalid : w.valid = true)
    (hlegal : s.winLegal (c.le 32 32) = w) :
    opVfiWindowSet.body tk c s =
      let old := s.winNow c.target (c.byte 16)
      let t := if old.valid && old.dc && (s.inst c.target).accepted.any (·.1 == c.byte 16) then
        s.offer c.target (c.byte 16) false else s
      let u := t.putWindow c.target (c.byte 16) w.image
      if w.kind = 2 ∧ s.winTarget c.target w = false then .bad s stDenied
      else if s.winOverlap c.target (c.byte 16) w then .bad s stNoResource
      else .ok (if w.dc then u.offer c.target (c.byte 16) true else u) (c.byte 16) := by
  have hany : (s.inst c.target).releasing.any (·.1 == c.byte 16) = false := any_fst_eq_false.2 hcalm
  have hclamp : winClamp (c.le 32 32) w = none := hw ▸ winClamp_of _
  dsimp only [opVfiWindowSet]
  rw [vfiOf_of_le ht, vfiClamp_of_le ht, Cmd.ranged_byte (Nat.zero_le _) hi]
  simp [hany, hlegal, hvalid, hclamp]

section
variable {w : Win} (hw : Win.of (c.le 32 32) = w) (hvalid : w.valid = true) (hlegal : s.winLegal (c.le 32 32) = w)
include hw hvalid hlegal

/-- The target of a window of KIND 2 is a downstream port of the VFI. -/
theorem opVfiWindowSet_body_denied (htarget : ¬ (w.kind = 2 → s.winTarget c.target w = true)) :
    opVfiWindowSet.body tk c s = .bad s stDenied := by
  rw [opVfiWindowSet_body_legal ht hi hcalm hw hvalid hlegal]
  exact if_pos (by simpa using htarget)

variable (htarget : w.kind = 2 → s.winTarget c.target w = true)
include htarget

theorem opVfiWindowSet_body_overlap (hmeet : s.winOverlap c.target (c.byte 16) w = true) :
    opVfiWindowSet.body tk c s = .bad s stNoResource := by
  rw [opVfiWindowSet_body_legal ht hi hcalm hw hvalid hlegal]
  dsimp only
  rw [if_neg (by simpa using htarget), if_pos hmeet]

theorem opVfiWindowSet_body_put (hmeet : s.winOverlap c.target (c.byte 16) w = false)
    (hacc : ∀ a ∈ (s.inst c.target).accepted, a.1 ≠ c.byte 16) :
    opVfiWindowSet.body tk c s = .ok (if w.dc = true then
        (s.putWindow c.target (c.byte 16) w.image).offer c.target (c.byte 16) true
      else s.putWindow c.target (c.byte 16) w.image) (c.byte 16) := by
  have hnone : (s.inst c.target).accepted.any (·.1 == c.byte 16) = false := any_fst_eq_false.2 hacc
  rw [opVfiWindowSet_body_legal ht hi hcalm hw hvalid hlegal, hnone]
  dsimp only
  rw [if_neg (by simpa using htarget), hmeet, Bool.and_false, if_neg Bool.false_ne_true, if_neg Bool.false_ne_true]

end

end

/-! ### Quotas, weights and counter windows -/

section
variable {c : Cmd} {tk : Ticket} {s : State} (ht : c.target ≤ 255)
include ht

/-- VFI_QUOTA_SET, with its fields in range (R290). -/
theorem opVfiQuotaSet_body (hbuf : c.le 18 2 ≤ 984) (hstreams : c.le 24 2 ≤ 4096) (hrate : c.le 28 4 ≤ 262143) :
    opVfiQuotaSet.body tk c s =
      let t := s.modInst c.target fun x => { x with
        bufQuota := if bitOf (c.byte 16) 0 then c.le 18 2 else x.bufQuota
        dirQuota := if bitOf (c.byte 16) 1 then c.le 20 4 else x.dirQuota
        streamsMax := if bitOf (c.byte 16) 2 then c.le 24 2 else x.streamsMax
        rateMax := if bitOf (c.byte 16) 3 then c.le 28 4 else x.rateMax }
      .ok (t.swc.tiles.foldl (fun t y => t.noteQuota y.1 c.target) t) 0 := by
  simp [opVfiQuotaSet, vfiOf_of_le ht, vfiClamp_of_le ht, Cmd.ranged_inside, hbuf, hstreams, hrate]

/-- VFI_WEIGHT_SET of the VFI's own weight (R293). -/
theorem opVfiWeightSet_body_own (hp : c.le 16 2 = 0xFFFF) (hweight : 1 ≤ c.byte 18) :
    opVfiWeightSet.body tk c s = .ok (s.setInst c.target { s.inst c.target with weight := c.byte 18 }) (c.byte 18) := by
  have hzero : c.byte 18 ≠ 0 := by omega
  simp [opVfiWeightSet, vfiOf_of_le ht, vfiClamp_of_le ht, hp, hweight, hzero]

/-- A VFI's own weight 0 is clamped to 1 (R293). -/
theorem opVfiWeightSet_body_ownZero (hp : c.le 16 2 = 0xFFFF) (hweight : c.byte 18 = 0) :
    opVfiWeightSet.body tk c s = .ok (s.setInst c.target { s.inst c.target with weight := 1 }) 1 (some 18) := by
  simp [opVfiWeightSet, vfiOf_of_le ht, vfiClamp_of_le ht, hp, hweight]

/-- VFI_WEIGHT_SET of a port's override; weight 0 takes it away (R293). -/
theorem opVfiWeightSet_body_override (hp : c.le 16 2 ≤ 1023) :
    opVfiWeightSet.body tk c s =
      let x := s.inst c.target
      if c.byte 18 = 0 then
        .ok (s.setInst c.target { x with overrides := x.overrides.filter (·.1 != c.le 16 2) }) x.weight
      else if x.overrides.any (·.1 == c.le 16 2) then
        .ok (s.setInst c.target { x with
          overrides := x.overrides.map fun o => if o.1 = c.le 16 2 then (c.le 16 2, c.byte 18) else o }) (c.byte 18)
      else if 16 ≤ x.overrides.length then .bad s stNoResource
      else .ok (s.setInst c.target { x with overrides := x.overrides ++ [(c.le 16 2, c.byte 18)] }) (c.byte 18) := by
  have hport : c.le 16 2 ≠ 0xFFFF := by omega
  simp only [opVfiWeightSet, vfiOf_of_le ht, vfiClamp_of_le ht, if_neg hport, Cmd.ranged_inside (Nat.zero_le _) hp,
    minClamp_none_left]

section
variable (hp : c.le 16 2 ≤ 1023) (hweight : 1 ≤ c.byte 18)
include hp hweight

theorem opVfiWeightSet_body_changed (hold : ∃ o ∈ (s.inst c.target).overrides, o.1 = c.le 16 2) :
    opVfiWeightSet.body tk c s = .ok (s.setInst c.target { s.inst c.target with
      overrides := (s.inst c.target).overrides.map fun o => if o.1 = c.le 16 2 then (c.le 16 2, c.byte 18) else o })
      (c.byte 18) := by
  rw [opVfiWeightSet_body_override ht hp]
  dsimp only
  rw [if_neg (by omega), if_pos (any_fst_eq_true.2 hold)]

variable (hnew : ∀ o ∈ (s.inst c.target).overrides, o.1 ≠ c.le 16 2)
include hnew

/-- A seventeenth override finds no place. -/
theorem opVfiWeightSet_body_full (hfull : 16 ≤ (s.inst c.target).overrides.length) :
    opVfiWeightSet.body tk c s = .bad s stNoResource := by
  rw [opVfiWeightSet_body_override ht hp]
  dsimp only
  rw [if_neg (by omega), if_neg (Bool.eq_false_iff.1 (any_fst_eq_false.2 hnew)), if_pos hfull]

theorem opVfiWeightSet_body_added (hroom : (s.inst c.target).overrides.length < 16) :
    opVfiWeightSet.body tk c s = .ok (s.setInst c.target { s.inst c.target with
      overrides := (s.inst c.target).overrides ++ [(c.le 16 2, c.byte 18)] }) (c.byte 18) := by
  rw [opVfiWeightSet_body_override ht hp]
  dsimp only
  rw [if_neg (by omega), if_neg (Bool.eq_false_iff.1 (any_fst_eq_false.2 hnew)), if_neg hroom.not_ge]

end

/-- VFI_CNT_MAP of a counter that there is, to a place of the window (R301). -/
theorem opVfiCntMap_body_map (hi : c.byte 16 ≤ 31) (hcnt : c.le 18 2 < pcnCount) :
    opVfiCntMap.body tk c s = .ok (s.modInst c.target fun x =>
      { x with cntMap := tset none x.cntMap (c.byte 16) (some (c.le 18 2)) }) (c.le 18 2) := by
  have hmap : c.le 18 2 ≠ 0xFFFF := (hcnt.trans (by decide)).ne
  have hin : min (pcnCount - 1) (c.le 18 2) = c.le 18 2 := min_eq_right (Nat.le_pred_of_lt hcnt)
  simp only [opVfiCntMap, vfiOf_of_le ht, vfiClamp_of_le ht, Cmd.ranged_byte (Nat.zero_le _) hi, hmap, hin, if_false, if_true,
    minClamp_none_left]

/-- VFI_CNT_MAP of 0xFFFF empties a place of the window (R301). -/
theorem opVfiCntMap_body_unmap (hi : c.byte 16 ≤ 31) (hcnt : c.le 18 2 = 0xFFFF) :
    opVfiCntMap.body tk c s = .ok (s.modInst c.target fun x =>
      { x with cntMap := tset none x.cntMap (c.byte 16) none }) 0xFFFF := by
  simp only [opVfiCntMap, vfiOf_of_le ht, vfiClamp_of_le ht, Cmd.ranged_byte (Nat.zero_le _) hi, hcnt, if_true,
    minClamp_none_left]

end

/-! ### The opcodes that wait for their boundary -/

theorem vfiBoundaryOpcodes : Claims.VfiBoundaryOpcodes := by
  intro c l b s ht v p ld whole key block free bits w i x calm legal target owner asked used mine
  have hmine : (s.unqueue l).bindUp l.cmd = true ↔ mine := State.bindUp_iff (s := s)
  refine ⟨fun hq => OpSpec.takesPlace (o := opVfiBind) rfl hq rfl,
    fun hq => OpSpec.takesPlace (o := opVfiWindowSet) rfl hq rfl, fun hq => OpSpec.takesPlace (o := opVfiQuotaSet) rfl hq rfl,
    fun hq => OpSpec.takesPlace (o := opVfiWeightSet) rfl hq rfl, fun hq => OpSpec.takesPlace (o := opVfiCntMap) rfl hq rfl,
    fun hdue hp hon hfree => ⟨fun hwhole hrole => ?_, fun n hblock hrole hup hpick => ?_,
      fun hblock hrole hup hasked hused => ?_, fun hblock hrole hup => ?_⟩,
    fun hdue hp hld hon hrole => ?_, fun hdue hp hblock hoff hone hb hv hup => ?_, fun hdue hp hblock hoff hfree hb => ?_,
    fun hdue hi hcalm => ⟨fun ⟨hset, hlegal⟩ htarget hmeet hacc => ?_, fun ⟨hset, hlegal⟩ htarget hmeet => ?_,
      fun ⟨hset, hlegal⟩ htarget => ?_, fun hoff hacc => ?_, fun hoff hdc hvalid hacc => ?_⟩,
    fun hdue hi hbusy => ?_, fun hdue hbuf hstreams hrate => ?_, fun hdue hp hld => ?_, fun hdue hp hld => ?_,
    fun hdue hp hld => ⟨fun hnew hroom => ?_, fun hnew hfull => ?_, fun hold => ?_⟩,
    fun hdue hp hld => ?_, fun hdue hi hcnt => ?_, fun hdue hi hcnt => ?_⟩
  · exact OpSpec.launches hdue rfl (opVfiBind_body_whole (s := s.unqueue l) ht hp (.inl hwhole) hon hfree hwhole hrole)
  · exact OpSpec.launches hdue rfl (opVfiBind_body_vppb (s := s.unqueue l) ht hp hblock hon hfree hrole (hmine.2 hup)
      (State.bindPick_of_free hpick))
  · exact OpSpec.launchEnds hdue rfl (opVfiBind_body_noVppb (s := s.unqueue l) ht hp hblock hon hfree hrole (hmine.2 hup)
      (State.bindPick_of_used hasked hused))
  · exact OpSpec.launchEnds hdue rfl (opVfiBind_body_ownerDenied (s := s.unqueue l) ht hp hblock hon hfree hrole
      (Bool.eq_false_iff.2 (mt hmine.1 hup)))
  · exact OpSpec.launchEnds hdue rfl (opVfiBind_body_ldDenied (s := s.unqueue l) ht hp hld hon hrole)
  · exact OpSpec.launches hdue rfl (opVfiBind_body_unbind (s := s.unqueue l) ht hp hblock hoff hone hb hv hup)
  · exact OpSpec.launches hdue rfl (opVfiBind_body_unbound (s := s.unqueue l) ht hp hblock hoff hfree hb)
  · exact OpSpec.launches hdue rfl (opVfiWindowSet_body_put (s := s.unqueue l) ht hi hcalm rfl hset hlegal htarget hmeet hacc)
  · exact OpSpec.launchEnds hdue rfl (opVfiWindowSet_body_overlap (s := s.unqueue l) ht hi hcalm rfl hset hlegal htarget hmeet)
  · exact OpSpec.launchEnds hdue rfl (opVfiWindowSet_body_denied (s := s.unqueue l) ht hi hcalm rfl hset hlegal htarget)
  · refine OpSpec.launches hdue rfl ?_
    rw [opVfiWindowSet_body_remove (s := s.unqueue l) ht hi hcalm hoff, State.winRemove_of_unaccepted (s := s.unqueue l) hacc]
    rfl
  · refine OpSpec.launchHolds hdue rfl ?_
    rw [opVfiWindowSet_body_remove (s := s.unqueue l) ht hi hcalm hoff,
      State.winRemove_of_accepted (s := s.unqueue l) hdc hvalid hacc]
    rfl
  · exact OpSpec.launchEnds hdue rfl (opVfiWindowSet_body_busy (s := s.unqueue l) ht hi hbusy)
  · exact OpSpec.launches hdue rfl (opVfiQuotaSet_body ht hbuf hstreams hrate)
  · exact OpSpec.launches hdue rfl (opVfiWeightSet_body_own (s := s.unqueue l) ht hp hld)
  · exact OpSpec.launches hdue rfl (opVfiWeightSet_body_ownZero (s := s.unqueue l) ht hp hld)
  · exact OpSpec.launches hdue rfl (opVfiWeightSet_body_added (s := s.unqueue l) ht hp hld hnew hroom)
  · exact OpSpec.launchEnds hdue rfl (opVfiWeightSet_body_full (s := s.unqueue l) ht hp hld hnew hfull)
  · exact OpSpec.launches hdue rfl (opVfiWeightSet_body_changed (s := s.unqueue l) ht hp hld hold)
  · exact OpSpec.launches hdue rfl ((opVfiWeightSet_body_override (s := s.unqueue l) ht hp).trans (if_pos hld))
  · exact OpSpec.launches hdue rfl (opVfiCntMap_body_map ht hi hcnt)
  · exact OpSpec.launches hdue rfl (opVfiCntMap_body_unmap ht hi hcnt)

end Sys2Proof.Machine
end

section
/-!
PROOFS. The VFI opcodes that act at once (Table 11-8, R294, R297, R299, R302, R306).
-/

namespace Sys2Proof.Machine

/-! ### What acceptance leaves of the VFIs -/

section
variable (s : State) (c : Cmd)

@[simp] theorem State.accept_vcsOf (p : Nat) : (s.accept c).vcsOf p = s.vcsOf p := by simp [State.vcsOf]

@[simp] theorem State.accept_hostsOfVfi (v : Nat) : (s.accept c).hostsOfVfi v = s.hostsOfVfi v := by simp [State.hostsOfVfi]

@[simp] theorem State.accept_vfiStatus (v : Nat) : (s.accept c).vfiStatus v = s.vfiStatus v := by
  simp [State.vfiStatus, State.portsBound, State.regionsOwned]

@[simp] theorem State.accept_dirCharged (v : Nat) : (s.accept c).dirCharged v = s.dirCharged v := by simp [State.dirCharged]

end

/-! ### The mailbox -/

/-- VFI_MAIL_SEND takes a port number, or 0xFFFF for all, as it is. -/
theorem mailPort_of_le {p : Nat} (h : p ≤ 1023 ∨ p = 0xFFFF) : (if p = 0xFFFF then p else min 1023 p) = p := by
  split <;> omega

/-- VFI_MAIL_SEND stores the message of SEQ `seq` for the hosts `who`, and signals each (R299). -/
def State.mailSent (s : State) (v seq : Nat) (who : List Nat) (x : VfiSt) : State :=
  let t := who.foldl (fun t q => t.emit (.mailIrq v q)) (s.setInst v x)
  if who = [] then t.event 0x71 90 t.now64 [(1, v), (2, seq)] else t

section
variable {c : Cmd} {tk : Ticket} {s : State} (ht : c.target ≤ 255)
include ht

theorem opVfiMailSend_body_busy (hp : c.le 24 2 ≤ 1023 ∨ c.le 24 2 = 0xFFFF) (hbusy : (s.inst c.target).outPending = true) :
    opVfiMailSend.body tk c s = .bad s stBusy := by
  simp only [opVfiMailSend, vfiOf_of_le ht, vfiClamp_of_le ht, mailPort_of_le hp, hbusy, if_true, minClamp_none_left]

theorem opVfiMailSend_body_sent (hp : c.le 24 2 ≤ 1023 ∨ c.le 24 2 = 0xFFFF) (hfree : (s.inst c.target).outPending = false) :
    opVfiMailSend.body tk c s =
      let x := s.inst c.target
      let seq := (x.outSeq + 1) % 65536
      let who := (s.hostsOfVfi c.target).filter fun q => c.le 24 2 == 0xFFFF || q == c.le 24 2
      let body := s.mgrRead (c.le 16 8 + 16) (min 1008 (leNat (s.mgrRead (c.le 16 8) 2)))
      .ok (s.mailSent c.target seq who { x with
        mailOut := mailBytes seq (c.le 24 2) s.now64 body, outSeq := seq, outPending := who != [], outWait := who }) seq := by
  simp only [opVfiMailSend, vfiOf_of_le ht, vfiClamp_of_le ht, mailPort_of_le hp, hfree, if_true, minClamp_none_left]
  rfl

theorem opVfiMailRead_body_empty (hempty : (s.inst c.target).inFull = false) : opVfiMailRead.body tk c s = .ok s := by
  simp [opVfiMailRead, vfiOf_of_le ht, vfiClamp_of_le ht, hempty]

theorem opVfiMailRead_body_full (hfull : (s.inst c.target).inFull = true) :
    opVfiMailRead.body tk c s = .ok ((s.mgrWrite (c.le 16 8) (fitTo 1024 (s.inst c.target).mailIn)).setInst c.target
      { s.inst c.target with inFull := false }) (leNat ((s.inst c.target).mailIn.take 2)) := by
  simp [opVfiMailRead, vfiOf_of_le ht, vfiClamp_of_le ht, hfull]

theorem opVfiMailCfg_body : opVfiMailCfg.body tk c s = .ok (s.modInst c.target fun x =>
    { x with vec := c.byte 16, irqEn := bitOf (c.byte 17) 0, tenantEn := bitOf (c.byte 17) 1 }) := by
  simp only [opVfiMailCfg, vfiOf_of_le ht, vfiClamp_of_le ht]

/-! ### Colours, the reset and the query -/

theorem opVfiColourSet_body : opVfiColourSet.body tk c s = .ok (s.stage fun b =>
    { b with colours := tset (BitVec.allOnes 256 <<< 1) b.colours c.target (BitVec.ofNat 256 (c.le 24 32 / 2 * 2)) }) := by
  simp only [opVfiColourSet, vfiOf_of_le ht, vfiClamp_of_le ht]

theorem opVfiReset_body_busy (hbusy : (s.inst c.target).resetting = true) : opVfiReset.body tk c s = .bad s stBusy := by
  simp only [opVfiReset, vfiOf_of_le ht, vfiClamp_of_le ht, hbusy, if_true]

theorem opVfiReset_body_taken (hcalm : (s.inst c.target).resetting = false) :
    opVfiReset.body tk c s = .later (s.vfiReset c.target (bitOf (c.byte 16) 0) tk) := by
  simp [opVfiReset, vfiOf_of_le ht, vfiClamp_of_le ht, hcalm]

end

/-- The word that VFI_QUERY answers, by its selector and index (R306). -/
def State.vfiWord (s : State) (v : Nat) : Nat → Nat → Nat
  | 0, _ => s.vfiStatus v
  | 1, q => (s.binding (17 * q + 16)).elim 0 fun b => b.vfi + 2 ^ 8 + 2 ^ 9 * b.vppb
  | 2, q => (s.swcTile q).charged v
  | 3, _ => min (2 ^ 32 - 1) (s.dirCharged v)
  | _, _ => min (2 ^ 32 - 1) (s.inst v).outstanding

@[simp] theorem State.accept_vfiWord (s : State) (c : Cmd) (v k q : Nat) : (s.accept c).vfiWord v k q = s.vfiWord v k q := by
  unfold State.vfiWord
  split <;> simp

section
variable {c : Cmd} {tk : Ticket} {s : State} (ht : c.target ≤ 255)
include ht

theorem opVfiQuery_body (hk : c.byte 16 ≤ 4) (hq : c.byte 16 = 1 → c.le 18 2 ≤ 1023)
    (hq' : c.byte 16 = 2 → c.le 18 2 ≤ 63) :
    opVfiQuery.body tk c s = .ok s (s.vfiWord c.target (c.byte 16) (c.le 18 2)) := by
  simp only [opVfiQuery, vfiOf_of_le ht, vfiClamp_of_le ht, Cmd.ranged_byte (Nat.zero_le _) hk, minClamp_none_left]
  generalize c.byte 16 = k at *
  interval_cases k
  · rfl
  · cases hb : s.binding (17 * c.le 18 2 + 16) <;> simp [State.vfiWord, hb, hq, bindImage]
  · simp [State.vfiWord, hq']
  · rfl
  · rfl

end

theorem vfiInstantOpcodes : Claims.VfiInstantOpcodes := by
  intro c s ht v x seq p body who sent
  have query {k w : Nat} (h : Instant opVfiQuery c s) (hk : c.byte 16 = k) (hin : k ≤ 4) (hq : k = 1 → c.le 18 2 ≤ 1023)
      (hq' : k = 2 → c.le 18 2 ≤ 63) (hw : s.vfiWord v k (c.le 18 2) = w) : Completes (.vfiQuery c) 0x79 c s id w := by
    subst hk hw
    rw [← State.accept_vfiWord s c]
    exact OpSpec.completes (o := opVfiQuery) rfl h rfl rfl (opVfiQuery_body (s := s.accept c) ht hin hq hq')
  refine ⟨fun h => OpSpec.completes (o := opVfiColourSet) rfl h rfl rfl (opVfiColourSet_body ht),
    fun h hcalm => OpSpec.holds (o := opVfiReset) rfl h rfl rfl (opVfiReset_body_taken ht (by rwa [State.accept_inst])),
    fun h hbusy => OpSpec.endsWith (o := opVfiReset) rfl h rfl rfl (opVfiReset_body_busy ht (by rwa [State.accept_inst])),
    fun h hp hfree => ?_,
    fun h hp hbusy => OpSpec.endsWith (o := opVfiMailSend) rfl h rfl rfl
      (opVfiMailSend_body_busy ht hp (by rwa [State.accept_inst])),
    fun h hempty => OpSpec.completes (o := opVfiMailRead) rfl h rfl rfl
      (opVfiMailRead_body_empty ht (by rwa [State.accept_inst])),
    fun h hfull => ?_, fun h => OpSpec.completes (o := opVfiMailCfg) rfl h rfl rfl (opVfiMailCfg_body ht), fun h =>
      ⟨fun hk => query h hk (by decide) nofun nofun rfl, fun hk hq hb => query h hk (by decide) (fun _ => hq) nofun ?_,
      fun b hk hq hb => query h hk (by decide) (fun _ => hq) nofun ?_, fun hk hq => query h hk (by decide) nofun (fun _ => hq) rfl,
      fun hk => query h hk (by decide) nofun nofun rfl, fun hk => query h hk (by decide) nofun nofun rfl⟩⟩
  · have hbody := opVfiMailSend_body_sent (tk := c.ticket 0x76 s.ft) (s := s.accept c) ht hp (by rwa [State.accept_inst])
    simp only [State.accept_inst, State.accept_hostsOfVfi, State.accept_mgrRead, State.accept_now64] at hbody
    exact OpSpec.completes (o := opVfiMailSend) rfl h rfl rfl hbody
  · have hbody := opVfiMailRead_body_full (tk := c.ticket 0x77 s.ft) (s := s.accept c) ht (by rwa [State.accept_inst])
    rw [State.accept_inst] at hbody
    exact OpSpec.completes (o := opVfiMailRead) rfl h rfl rfl hbody
  · rw [State.vfiWord, hb, Option.elim_none]
  · rw [State.vfiWord, hb, Option.elim_some]

/-- Settles O56: each opcode's body, for its fields in range, answers by what its VFI and its port hold. -/
theorem vfiOpcodes : Obligations.VfiOpcodes := by
  unfold Obligations.VfiOpcodes
  exact ⟨vfiBoundaryOpcodes, vfiInstantOpcodes⟩

end Sys2Proof.Machine
end

section
/-!
PROOFS. Dynamic capacity (R289), the reset of a VFI (R304, R305) and a tenant's commands (R298, R299, R301).
-/

namespace Sys2Proof.Machine

/-! ### Extents -/

section
variable {s : State} {v i p : Nat}

/-- An extent of window `i` may be accepted by the host at `p`, which has not yet done so (R289). -/
def State.Offers (s : State) (v i p : Nat) : Prop :=
  (s.winNow v i).valid = true ∧ (s.winNow v i).dc = true ∧ s.vcsOf p = some v ∧ s.offered (s.winNow v i) p = true ∧
    (∀ r ∈ (s.inst v).releasing, r.1 ≠ i) ∧ (i, p) ∉ (s.inst v).accepted

theorem State.offers_iff : ((s.winNow v i).valid && (s.winNow v i).dc && s.vcsOf p == some v && s.offered (s.winNow v i) p &&
    !(s.inst v).releasing.any (·.1 == i) && !(s.inst v).accepted.contains (i, p)) = true ↔ s.Offers v i p := by
  simp only [State.Offers, Bool.and_eq_true, beq_iff_eq, Bool.not_eq_true', any_fst_eq_false, List.contains_eq_mem,
    decide_eq_false_iff_not, and_assoc]

theorem State.extentAccepted_of_offers (h : s.Offers v i p) : s.extentAccepted v i p =
    s.modInst v fun x => { x with accepted := x.accepted ++ [(i, p)] } :=
  if_pos (State.offers_iff.2 h)

theorem State.extentAccepted_of_not_offers (h : ¬ s.Offers v i p) : s.extentAccepted v i p = s :=
  if_neg (mt State.offers_iff.1 h)

/-- The release of a window ends: the window goes, and its command completes. -/
def State.releaseEnded (s : State) (v i st : Nat) (r : Nat × Nat × Ticket) : State :=
  ((s.putWindow v i 0).modInst v fun x => { x with releasing := x.releasing.erase r }).complete r.2.2 st
    (if st = stOk then i else 0)

theorem State.releaseEnd_of_one {due st : Nat} {tk : Ticket} (h : (s.inst v).releasing = [(i, due, tk)]) :
    s.releaseEnd v i st = s.releaseEnded v i st (i, due, tk) := by
  simp [State.releaseEnd, h, State.releaseEnded]

theorem State.extentReleased_of_others (h : ∃ q, (i, q) ∈ (s.inst v).accepted.erase (i, p)) :
    s.extentReleased v i p = s.modInst v fun x => { x with accepted := x.accepted.erase (i, p) } := by
  obtain ⟨q, hq⟩ := h
  exact if_pos (any_fst_eq_true.2 ⟨(i, q), by rwa [State.inst_modInst_self], rfl⟩)

theorem State.extentReleased_of_last {due : Nat} {tk : Ticket} (h : ∀ q, (i, q) ∉ (s.inst v).accepted.erase (i, p))
    (hr : (s.inst v).releasing = [(i, due, tk)]) : s.extentReleased v i p =
      (s.modInst v fun x => { x with accepted := x.accepted.erase (i, p) }).releaseEnded v i stOk (i, due, tk) := by
  have hnone : ((s.inst v).accepted.erase (i, p)).any (·.1 == i) = false :=
    any_fst_eq_false.2 fun ⟨j, q⟩ hq hj => h q (hj ▸ hq)
  simp only [State.extentReleased, State.inst_modInst_self, hnone, Bool.false_eq_true, if_false]
  exact State.releaseEnd_of_one (by rw [State.inst_modInst_self, hr])

theorem State.releaseTimeout_of_none (h : ∀ r ∈ (s.inst v).releasing, r.1 ≠ i) : s.releaseTimeout v i = s := by
  have hfind : (s.inst v).releasing.find? (·.1 == i) = none := List.find?_eq_none.2 (by simpa only [beq_iff_eq] using h)
  rw [State.releaseTimeout, hfind]

/-- The release of the only window that is asked back ends 10 s after it began (R289). -/
theorem State.releaseTimeout_of_one {due : Nat} {tk : Ticket} (h : (s.inst v).releasing = [(i, due, tk)]) :
    s.releaseTimeout v i = if due ≤ s.clock then s.releaseEnded v i stTimeout (i, due, tk) else s := by
  rw [← State.releaseEnd_of_one h, State.releaseTimeout, h]
  simp

/-! ### The reset of a VFI -/

theorem State.vfiForced_of_due (hreset : (s.inst v).resetting = true) (hdone : (s.inst v).forcedDone = false)
    (hdue : (s.inst v).resetAt + ms16 s.ctMs ≤ s.clock) : s.vfiForced v = s.forceVfi v := by
  simp [State.vfiForced, hreset, hdone, hdue]

theorem State.vfiForced_of_not_due (h : (s.inst v).resetting = false ∨ (s.inst v).forcedDone = true ∨
    s.clock < (s.inst v).resetAt + ms16 s.ctMs) : s.vfiForced v = s := by
  obtain hcalm | hdone | hearly := h
  · simp [State.vfiForced, hcalm]
  · simp [State.vfiForced, hdone]
  · simp [State.vfiForced, hearly.not_ge]

theorem State.vfiBoundary_of_zero {tk : Ticket} (hreset : (s.inst v).resetting = true) (hzero : (s.inst v).resetZero = true)
    (htk : (s.inst v).resetTicket = some tk) : s.vfiBoundary v = (s.setInst v { s.inst v with
      resetting := false, hot := false, resetTicket := none, outstanding := s.openWork v }).complete tk stOk
        (s.inst v).resetForced := by
  simp [State.vfiBoundary, hreset, hzero, htk]

theorem State.vfiBoundary_of_open (hzero : (s.inst v).resetZero = false) : s.vfiBoundary v = s.setInst v { s.inst v with
    outstanding := s.openWork v, resetZero := (s.inst v).resetting && s.openWork v == 0 } := by
  simp [State.vfiBoundary, hzero]

end

theorem exec_dcExtentAccepted (v : Vfi) (i : Fin 32) (p : Port) (s : State) :
    exec (.dcExtentAccepted v i p) s = act s fun s => s.extentAccepted v i p := rfl

theorem exec_dcExtentReleased (v : Vfi) (i : Fin 32) (p : Port) (s : State) :
    exec (.dcExtentReleased v i p) s = act s fun s => s.extentReleased v i p := rfl

theorem exec_dcReleaseTimeout (v : Vfi) (i : Fin 32) (s : State) :
    exec (.dcReleaseTimeout v i) s = act s fun s => s.releaseTimeout v i := rfl

theorem exec_vfiForcedSettlement (v : Vfi) (s : State) :
    exec (.vfiForcedSettlement v) s = act s fun s => s.vfiForced v := rfl

theorem capacityAndResetEvents : Claims.VfiEvents := by
  intro v i p tk due s hheld x w ended offers
  have accepted {f : State → State} (hf : s.extentAccepted v i p = f s) : Acts (.dcExtentAccepted v i p) s f :=
    acts_of_act (exec_dcExtentAccepted v i p s) hheld hf
  have released {f : State → State} (hf : s.extentReleased v i p = f s) : Acts (.dcExtentReleased v i p) s f :=
    acts_of_act (exec_dcExtentReleased v i p s) hheld hf
  have timeout {f : State → State} (hf : s.releaseTimeout v i = f s) : Acts (.dcReleaseTimeout v i) s f :=
    acts_of_act (exec_dcReleaseTimeout v i s) hheld hf
  have forced {f : State → State} (hf : s.vfiForced v = f s) : Acts (.vfiForcedSettlement v) s f :=
    acts_of_act (exec_vfiForcedSettlement v s) hheld hf
  exact ⟨fun h => accepted (State.extentAccepted_of_not_offers h), fun h => accepted (State.extentAccepted_of_offers h),
    fun h => released (State.extentReleased_of_others h), fun h hr => released (State.extentReleased_of_last h hr),
    fun h => timeout (State.releaseTimeout_of_none h),
    fun h hearly => timeout ((State.releaseTimeout_of_one h).trans (if_neg hearly.not_ge)),
    fun h hlate => timeout ((State.releaseTimeout_of_one h).trans (if_pos hlate)),
    fun h => forced (State.vfiForced_of_not_due h), fun hreset hdone hdue => forced (State.vfiForced_of_due hreset hdone hdue),
    State.vfiBoundary_of_zero, fun hreset hzero => by
      rw [State.vfiBoundary_of_open hzero, State.inst_setInst_self, hreset, Bool.true_and, beq_iff_eq]
      exact ⟨rfl, Iff.rfl⟩⟩

/-! ### A tenant's commands -/

section
variable {s : State} {p : Port} {op v : Nat} {f : Nat → VfiSt → State}

/-- A port that presents no virtual switch has no tenant. -/
theorem State.tenant_of_none (h : s.vcsOf p = none) : s.tenant p op f = s := by
  simp only [State.tenant, h]

section
variable (hv : s.vcsOf p = some v)
include hv

theorem State.tenant_disabled (hoff : (s.inst v).tenantEn = false) :
    s.tenant p op f = s.emit (.cciReply p op .unsupported []) := by
  simp [State.tenant, hv, hoff]

theorem State.tenant_resetting (hon : (s.inst v).tenantEn = true) (hreset : (s.inst v).resetting = true) :
    s.tenant p op f = s.emit (.cciReply p op .busy []) := by
  simp [State.tenant, hv, hon, hreset]

end

variable (hserves : s.vcsOf p = some v ∧ (s.inst v).tenantEn = true ∧ (s.inst v).resetting = false)
include hserves

theorem State.tenant_served : s.tenant p op f = f v (s.inst v) := by
  obtain ⟨hv, hon, hcalm⟩ := hserves
  simp [State.tenant, hv, hon, hcalm]

theorem State.tenantSend_full (body : List Byte) (hfull : (s.inst v).inFull = true) :
    s.tenantSend p body = s.emit (.cciReply p 0xC100 .busy []) := by
  rw [State.tenantSend, State.tenant_served hserves, if_pos hfull, Fin.ofNat_val_eq_self]

/-- A message that finds the mailbox empty is in it, with its event and, if enabled, its interrupt (R299). -/
theorem State.tenantSend_taken (body : List Byte) (hempty : (s.inst v).inFull = false) : s.tenantSend p body =
    let x := s.inst v
    let seq := (x.inSeq + 1) % 65536
    let t := (s.setInst v { x with
      mailIn := mailBytes seq p s.now64 (body.take 1008), inFull := true, inSeq := seq }).event 0x70 90 s.now64 [(1, v), (2, seq)]
    (if x.irqEn = true then t.sendVector x.vec else t).emit (.cciReply p 0xC100 .success (leBytes 2 seq)) := by
  rw [State.tenantSend, State.tenant_served hserves, if_neg (by simp [hempty]), Fin.ofNat_val_eq_self]
  rfl

/-- A host that no message waits for receives an empty one (R299). -/
theorem State.tenantGet_empty (hnot : (s.inst v).outPending = false ∨ p.val ∉ (s.inst v).outWait) :
    s.tenantGet p = s.emit (.cciReply p 0xC101 .success (mailBytes 0 0 0 [])) := by
  rw [State.tenantGet, State.tenant_served hserves, if_neg (by simpa [or_iff_not_imp_left] using hnot), Fin.ofNat_val_eq_self]

/-- A host that is waited for fetches the message; the last to do so ends the wait (R299). -/
theorem State.tenantGet_awaited (hopen : (s.inst v).outPending = true) (hwait : p.val ∈ (s.inst v).outWait) : s.tenantGet p =
    let x := s.inst v
    let w := x.outWait.erase p.val
    let t := s.setInst v { x with outWait := w, outPending := w != [] }
    (if w = [] then t.event 0x71 90 t.now64 [(1, v), (2, x.outSeq)] else t).emit (.cciReply p 0xC101 .success x.mailOut) := by
  rw [State.tenantGet, State.tenant_served hserves, if_pos (by simp [hopen, hwait]), Fin.ofNat_val_eq_self]

theorem State.tenantCounter_read {k n t g : Nat} (h : s.tenantValue v (tget none (s.inst v).cntMap k) = (n, t, g)) :
    s.tenantCounter p k = s.emit (.cciReply p 0xC102 .success (leBytes 8 n ++ leBytes 8 t ++ leBytes 1 g)) := by
  rw [State.tenantCounter, State.tenant_served hserves, h, Fin.ofNat_val_eq_self]

end

section
variable {s : State} {i : Nat}

theorem State.tenantValue_of_mine {v : Nat} (h : s.counterHere i = true ∧ (s.counter i).vfiEn = true ∧ (s.counter i).vfi = v) :
    s.tenantValue v (some i) = if s.pcn.frozen then ((s.counter i).image, t64Ns s.pcn.freezeFt, 0)
      else ((s.counter i).value, s.now64, 0) := by
  obtain ⟨hhere, hen, hvfi⟩ := h
  simp [State.tenantValue, hhere, hen, hvfi]

theorem State.tenantValue_of_not_mine {v : Nat}
    (h : ¬ (s.counterHere i = true ∧ (s.counter i).vfiEn = true ∧ (s.counter i).vfi = v)) :
    s.tenantValue v (some i) = (0, s.now64, 2) :=
  if_neg (by simpa only [Bool.and_eq_true, beq_iff_eq, and_assoc] using h)

end

theorem exec_tenantMessageSend (p : Port) (body : List Byte) (s : State) :
    exec (.tenantMessageSend p body) s = act s fun s => s.tenantSend p body := rfl

theorem exec_tenantMessageGet (p : Port) (s : State) : exec (.tenantMessageGet p) s = act s fun s => s.tenantGet p := rfl

theorem exec_tenantCounterRead (p : Port) (k : Fin 32) (s : State) :
    exec (.tenantCounterRead p k) s = act s fun s => s.tenantCounter p k := rfl

theorem tenantCommands : Claims.TenantCommands := by
  intro p body k v s hheld x serves seq say
  have send {f : State → State} (hf : s.tenantSend p body = f s) : Acts (.tenantMessageSend p body) s f :=
    acts_of_act (exec_tenantMessageSend p body s) hheld hf
  have get {f : State → State} (hf : s.tenantGet p = f s) : Acts (.tenantMessageGet p) s f :=
    acts_of_act (exec_tenantMessageGet p s) hheld hf
  have read {f : State → State} (hf : s.tenantCounter p k = f s) : Acts (.tenantCounterRead p k) s f :=
    acts_of_act (exec_tenantCounterRead p k s) hheld hf
  refine ⟨fun h => ⟨send (State.tenant_of_none h), get (State.tenant_of_none h), read (State.tenant_of_none h)⟩,
    fun hv hoff => ⟨send (State.tenant_disabled hv hoff), get (State.tenant_disabled hv hoff),
      read (State.tenant_disabled hv hoff)⟩,
    fun hv hon hreset => ⟨send (State.tenant_resetting hv hon hreset), get (State.tenant_resetting hv hon hreset),
      read (State.tenant_resetting hv hon hreset)⟩,
    fun hserves hfull => send (State.tenantSend_full hserves body hfull),
    fun hserves hempty => send (State.tenantSend_taken hserves body hempty),
    fun hserves hnot => get (State.tenantGet_empty hserves hnot),
    fun hserves hopen hwait => get (State.tenantGet_awaited hserves hopen hwait),
    fun hserves hmap => read (State.tenantCounter_read hserves (by rw [hmap, State.tenantValue])),
    fun j hserves hmap => ⟨fun hmine hlive => read (State.tenantCounter_read hserves ?_),
      fun hmine hfrozen => read (State.tenantCounter_read hserves ?_),
      fun hother => read (State.tenantCounter_read hserves ?_)⟩⟩
  · rw [hmap, State.tenantValue_of_mine hmine, hlive, if_neg Bool.false_ne_true]
  · rw [hmap, State.tenantValue_of_mine hmine, if_pos hfrozen]
  · rw [hmap, State.tenantValue_of_not_mine hother]

/-- Settles O57: each event is one branch of its operation on the VFI. -/
theorem vfiEvents : Obligations.VfiEvents := by
  unfold Obligations.VfiEvents
  exact ⟨capacityAndResetEvents, tenantCommands⟩

end Sys2Proof.Machine
end

section
/-!
PROOFS. What one command can do: it acts within the frame, or it is one of those that reach a held module (R380, R404, R405,
R407). The invariants of the hold and of the step's own rules follow from that.
-/

namespace Sys2Proof.Machine

/-! ### The commands that reach a held module -/

/-- What a command does that reaches a held module as well: the input stage moves, the hold ends, or a module reset begins,
of a state `u` of the same part and with the same queue. -/
inductive State.HoldStep (s : State) : State → Prop
  | stays : s.HoldStep s
  | input (ramped : Bool) (failed : Nat) :
      s.HoldStep { s with ppu := { s.ppu with rampDone := ramped, failedRamps := failed } }
  | ends : s.HoldStep { s with held := none }
  | reset {u : State} (cause : Nat) (h : Hold) (hv : u.variant = s.variant) (hp : u.pending = s.pending) :
      s.HoldStep (u.moduleReset cause h)

@[simp] theorem State.gatesOff_variant (s : State) : s.gatesOff.variant = s.variant :=
  State.gatesOff_keeps _ State.emit_variant s

@[simp] theorem State.gatesOff_pending (s : State) : s.gatesOff.pending = s.pending :=
  State.gatesOff_keeps _ State.emit_pending s

theorem State.HoldStep.gatesOff (s : State) (cause : Nat) (h : Hold) : s.HoldStep (s.gatesOff.moduleReset cause h) :=
  .reset cause h s.gatesOff_variant s.gatesOff_pending

theorem State.inputTurnOn_holdStep (s : State) : s.HoldStep s.inputTurnOn := by
  unfold State.inputTurnOn
  split
  · exact .input ..
  · exact .stays

theorem State.inrushFault_holdStep (s : State) : s.HoldStep s.inrushFault := by
  unfold State.inrushFault
  split
  · exact .input ..
  · exact .stays

theorem State.resetPin_holdStep (s : State) : s.HoldStep s.resetPin := by
  unfold State.resetPin
  split
  · exact .stays
  · exact .stays
  · exact .gatesOff ..

theorem State.takeReset_holdStep (s : State) (cause : ResetCause) : s.HoldStep (s.takeReset cause) := by
  cases cause with
  | inputPower => exact .gatesOff ..
  | inputFailure => exact .gatesOff ..
  | resetPin => exact s.resetPin_holdStep
  | resetCtrl =>
    simp only [State.takeReset]
    split
    · exact .gatesOff ..
    · exact .stays
  | thermal =>
    simp only [State.takeReset]
    split
    · exact .stays
    · exact .gatesOff ..

theorem State.thermalShutdown_holdStep (s : State) : s.HoldStep s.thermalShutdown := by
  unfold State.thermalShutdown
  split
  · exact .stays
  · exact .reset 4 .thermal (by simp [State.timeEntry]) (by simp [State.timeEntry])

theorem State.startUp_holdStep (s : State) : s.HoldStep s.startUp := by
  unfold State.startUp
  split
  · exact .stays
  · split
    · exact .ends
    · exact .stays
  · exact .stays

theorem State.thermalRecovery_holdStep (s : State) :
    s.HoldStep (if s.held = some .thermal then { s with held := none } else s) := by
  split
  · exact .ends
  · exact .stays

/-- Every command acts within the frame, and on a running module alone, but for eleven. -/
theorem exec_act_or_holdStep (i : Instr) (s : State) :
    (∃ f, exec i s = act s f) ∨ ∃ t, exec i s = .next t ∧ s.HoldStep t := by
  delta exec
  cases i
  case inputTurnOn => exact .inr ⟨_, rfl, s.inputTurnOn_holdStep⟩
  case inrushFault => exact .inr ⟨_, rfl, s.inrushFault_holdStep⟩
  case runningOvercurrent => exact .inr ⟨_, rfl, .gatesOff ..⟩
  case fastOvercurrent => exact .inr ⟨_, rfl, .gatesOff ..⟩
  case overvoltage => exact .inr ⟨_, rfl, .gatesOff ..⟩
  case brownOut => exact .inr ⟨_, rfl, .gatesOff ..⟩
  case resetN => exact .inr ⟨_, rfl, s.resetPin_holdStep⟩
  case moduleReset cause => exact .inr ⟨_, rfl, s.takeReset_holdStep cause⟩
  case thermalShutdown => exact .inr ⟨_, rfl, s.thermalShutdown_holdStep⟩
  case thermalRecovery => exact .inr ⟨_, rfl, s.thermalRecovery_holdStep⟩
  case startUp => exact .inr ⟨_, rfl, s.startUp_holdStep⟩
  all_goals
    dsimp only
    exact .inl ⟨_, rfl⟩

/-- What a command answers: the frame of an effect on a running module, the state as it is on a held one, or the step of a
hold. -/
theorem exec_cases (i : Instr) (s : State) :
    ∃ t, exec i s = .next t ∧ ((s.held = none ∧ ∃ u, t = s.framed u) ∨ s.HoldStep t) := by
  rcases exec_act_or_holdStep i s with ⟨f, hf⟩ | ⟨t, ht, hstep⟩
  · cases hh : s.held with
    | none => exact ⟨_, hf.trans (act_running hh f), .inl ⟨rfl, _, rfl⟩⟩
    | some h => exact ⟨s, by rw [hf, act, hh], .inr .stays⟩
  · exact ⟨t, ht, .inr hstep⟩

/-! ### A held module stands at rest -/

@[simp] theorem State.framed_held (s u : State) : (s.framed u).held = none := rfl

/-- The input stage is no island of the module (R380). -/
theorem State.AtRest.input {s : State} (h : s.AtRest) (ramped : Bool) (failed : Nat) :
    State.AtRest { s with ppu := { s.ppu with rampDone := ramped, failedRamps := failed } } :=
  { h with ppu := by rw [h.ppu] }

theorem State.HoldStep.heldRests {s t : State} (h : s.HoldStep t) (hs : s.HeldRests) : t.HeldRests := by
  cases h with
  | stays => exact hs
  | input ramped failed => exact fun hh => (hs hh).input ramped failed
  | ends => exact fun hh => absurd rfl hh
  | reset cause h => exact fun _ => State.moduleReset_atRest ..

theorem State.HeldRests.exec {i : Instr} {s t : State} (hs : s.HeldRests) (h : exec i s = .next t) : t.HeldRests := by
  obtain ⟨u, hu, hcase⟩ := exec_cases i s
  obtain rfl : u = t := Host.Outcome.next.inj (hu.symm.trans h)
  rcases hcase with ⟨-, v, rfl⟩ | hstep
  · exact fun hh => absurd (State.framed_held s v) hh
  · exact hstep.heldRests hs

/-- The queue is no island of the module. -/
theorem State.HeldRests.setPending {s : State} (hs : s.HeldRests) (q : List Instr) :
    State.HeldRests { s with pending := q } := fun hh => { hs hh with }

theorem State.HeldRests.tick {s : State} (hs : s.HeldRests) : s.tick.HeldRests := by
  unfold State.tick
  split
  · exact fun hh => absurd (State.framed_held s _) hh
  · exact hs

/-- Settles O59: a command acts on a running module alone, whose frame is not held, or is a step of the hold. -/
theorem everyStepKeepsHeldRests : Obligations.EveryStepKeepsHeldRests := by
  unfold Obligations.EveryStepKeepsHeldRests
  intro s t hs ht
  unfold step at ht
  split at ht
  · obtain rfl := Host.Outcome.next.inj ht
    exact hs.tick
  · exact (hs.setPending _).exec ht

/-- Settles O1: the two branches of a step. -/
theorem stepRunsFrontCommand : Obligations.StepRunsFrontCommand := by
  unfold Obligations.StepRunsFrontCommand
  refine ⟨fun i rest s h => by simp only [step, h], fun s h hh => ?_⟩
  obtain ⟨c, hc⟩ := Option.ne_none_iff_exists'.1 hh
  simp only [step, h, State.tick, hc]

/-- Settles O60: the state after reset is given field by field. -/
theorem resetSatisfiesTheInvariants : Obligations.ResetSatisfiesTheInvariants := by
  unfold Obligations.ResetSatisfiesTheInvariants
  have hrest : State.reset.AtRest := by constructor <;> rfl
  exact ⟨hrest, rfl, fun _ => hrest, rfl, rfl, rfl, rfl⟩

/-! ### Seven commands on a held module, and the ends of the holds -/

theorem act_held {s : State} (h : s.held ≠ none) (f : State → State) : act s f = .next s := by
  obtain ⟨c, hc⟩ := Option.ne_none_iff_exists'.1 h
  rw [act, hc]

theorem heldModuleIgnoresCommands : Claims.HeldModuleIgnoresCommands := by
  intro s c r w p m k h
  exact ⟨act_held h (opNop.submit c), act_held h (opAcuCommit.submit c),
    act_held h (fun s => if s.fmpAlive then s.sqDoorbell r w.toNat else s), act_held h (fun s => s.ingress (.lanePort p) m),
    act_held h (fun s => s.homeRequest k m), act_held h State.courseBoundary, act_held h State.descriptorTake,
    act_held h State.launchExecute⟩

theorem State.startUp_of_ramped {s : State} {h : Hold} (hh : s.held = some h) (ht : h ≠ .thermal)
    (hr : s.ppu.rampDone = true) : s.startUp = { s with held := none } := by
  cases h with
  | thermal => exact absurd rfl ht
  | resetPin => simp [State.startUp, hh, hr]
  | resetCtrl => simp [State.startUp, hh, hr]
  | supply => simp [State.startUp, hh, hr]

theorem State.startUp_of_not_ramped {s : State} {h : Hold} (hh : s.held = some h) (hr : s.ppu.rampDone = false) :
    s.startUp = s := by
  cases h <;> simp [State.startUp, hh, hr]

theorem holdsEndAsTheyMust : Claims.HoldsEndAsTheyMust := by
  intro s
  refine ⟨fun h hh ht hr => congrArg Host.Outcome.next (State.startUp_of_ramped hh ht hr),
    fun h hh hr => congrArg Host.Outcome.next (State.startUp_of_not_ramped hh hr),
    fun hh => congrArg Host.Outcome.next (by simp [State.startUp, hh]),
    fun hh => congrArg Host.Outcome.next (if_pos hh), fun hh => congrArg Host.Outcome.next (if_neg hh),
    fun hr hf => congrArg Host.Outcome.next (if_pos ⟨hr, hf⟩),
    fun hf => congrArg Host.Outcome.next (if_neg fun h => absurd h.2 (by omega)),
    fun hr => congrArg Host.Outcome.next (if_pos hr)⟩

/-- Settles O3: a held module's commands answer the state as it is, and each hold's end is a branch of its command. -/
theorem heldModuleWaits : Obligations.HeldModuleWaits := by
  unfold Obligations.HeldModuleWaits
  exact ⟨heldModuleIgnoresCommands, holdsEndAsTheyMust⟩

end Sys2Proof.Machine
end

section
/-!
PROOFS. The frame around a command's effect, part by part (R350, R373), and the step of an empty queue (R23, R349). The frame
sends the summary vector at most, and the journal's writes go to the queues of the memory channels.
-/

namespace Sys2Proof.Machine

/-! ### What the frame writes -/

/-- A vector changes the FMP's pending and waiting vectors and those sent in the cycle; it goes out once at most. -/
theorem State.sendVector_parts (s : State) (v : Nat) : ∃ pend waiting sent up uo,
    s.sendVector v = { s with fmp := { s.fmp with pend := pend, waiting := waiting, sent := sent }, pcn := up, out := uo } ∧
      (uo = s.out ∨ uo = s.out ++ [.msix v]) := by
  unfold State.sendVector
  split
  · split
    · exact ⟨_, s.fmp.waiting, s.fmp.sent, s.pcn, s.out, rfl, .inl rfl⟩
    · split
      · exact ⟨s.fmp.pend, s.fmp.waiting, s.fmp.sent, s.pcn, s.out, rfl, .inl rfl⟩
      · exact ⟨s.fmp.pend, s.fmp.waiting, _, _, _, rfl, .inr rfl⟩
  · exact ⟨s.fmp.pend, _, s.fmp.sent, s.pcn, s.out, rfl, .inl rfl⟩

/-- The interrupt rule notes the present summary, and sends its vector at most (R350). -/
theorem State.noteSummary_parts (s : State) : ∃ pend waiting sent up uo,
    s.noteSummary = { s with glb := { s.glb with lastSummary := s.errSummary }
                             fmp := { s.fmp with pend := pend, waiting := waiting, sent := sent }, pcn := up, out := uo } ∧
      (uo = s.out ∨ uo = s.out ++ [.msix s.glb.irqVec]) := by
  unfold State.noteSummary
  dsimp only
  split
  · exact State.sendVector_parts { s with glb := { s.glb with lastSummary := s.errSummary } } s.glb.irqVec
  · exact ⟨s.fmp.pend, s.fmp.waiting, s.fmp.sent, s.pcn, s.out, rfl, .inl rfl⟩

/-- A request joins the queue of its channel. -/
theorem State.memSubmit_parts (s : State) (r : ChReq) :
    ∃ uc up, s.memSubmit r = { s with mem := { s.mem with chans := uc }, pcn := up } := by
  unfold State.memSubmit
  dsimp only
  split <;> exact ⟨_, _, rfl⟩

theorem State.journalOut_parts (s : State) (n : Nat) :
    ∃ uc up, s.journalOut n = { s with mem := { s.mem with chans := uc }, pcn := up } := by
  refine List.foldlRecOn (motive := fun t => ∃ uc up, t = { s with mem := { s.mem with chans := uc }, pcn := up }) _ _
    ?_ ?_
  · exact ⟨_, _, rfl⟩
  · rintro _ ⟨c, p, rfl⟩ i -
    exact State.memSubmit_parts _ _

/-- The frame writes the summary seen, the vectors, the channels' queues, the counters and the summary vector alone. -/
theorem State.framed_parts (s u : State) : ∃ pend waiting uc up uo,
    s.framed u = { u with held := none, variant := s.variant, eeprom := s.eeprom, pending := s.pending
                          glb := { u.glb with lastSummary := u.errSummary }
                          fmp := { u.fmp with pend := pend, waiting := waiting, sent := [] }
                          mem := { u.mem with chans := uc }, pcn := up, out := uo } ∧
      (uo = u.out ∨ uo = u.out ++ [.msix u.glb.irqVec]) := by
  obtain ⟨pend, waiting, sent, p, o, h, ho⟩ := u.noteSummary_parts
  obtain ⟨c, p', h'⟩ := State.journalOut_parts u.noteSummary s.evr.journalNext
  exact ⟨pend, waiting, c, p', o, by rw [State.framed, h', h], ho⟩

theorem frameAddsOnlyTheSummaryInterrupt : Claims.FrameAddsOnlyTheSummaryInterrupt := by
  intro s u
  obtain ⟨pend, waiting, c, p, o, h, ho⟩ := State.framed_parts s u
  dsimp only
  rw [h]
  exact ⟨rfl, ho⟩

theorem State.HoldStep.keeps {s t : State} (h : s.HoldStep t) : t.variant = s.variant ∧ t.pending = s.pending := by
  cases h with
  | stays => exact ⟨rfl, rfl⟩
  | input => exact ⟨rfl, rfl⟩
  | ends => exact ⟨rfl, rfl⟩
  | reset cause h hv hp => exact ⟨hv, hp⟩

theorem commandsKeepPartAndQueue : Claims.CommandsKeepPartAndQueue := by
  intro i s
  obtain ⟨t, ht, ⟨-, u, rfl⟩ | hstep⟩ := exec_cases i s
  · exact ⟨_, ht, rfl, rfl⟩
  · exact ⟨t, ht, hstep.keeps⟩

/-! ### One phase unit -/

theorem State.countSlot_writes (s : State) : ∃ up, s.countSlot = { s with pcn := up } := by
  refine List.foldlRecOn (motive := fun t => ∃ up, t = { s with pcn := up }) _ _ ?_ ?_
  · exact ⟨_, rfl⟩
  · rintro _ ⟨p, rfl⟩ x -
    exact ⟨_, rfl⟩

theorem State.countNs_writes (s : State) : ∃ up, s.countNs = { s with pcn := up } := by
  have hif (u : State) (b : Bool) (code : Nat) (hu : ∃ up, u = { s with pcn := up }) :
      ∃ up, (if b then u.countEvery code 1 else u) = { s with pcn := up } := by
    obtain ⟨p, rfl⟩ := hu
    cases b
    · exact ⟨p, rfl⟩
    · exact ⟨_, rfl⟩
  unfold State.countNs
  refine List.foldlRecOn (motive := fun t => ∃ up, t = { s with pcn := up }) _ _ ?_ ?_
  · refine hif _ _ _ (hif _ _ _ (hif _ _ _ ?_))
    split <;> exact ⟨_, rfl⟩
  · rintro _ ⟨p, rfl⟩ x -
    split <;> exact ⟨_, rfl⟩

/-- Fabric time counts, and what is summed over time goes to the counters. -/
theorem State.advance_writes (s : State) : ∃ up, s.advance = { s with clock := s.clock + 1, pcn := up } := by
  have hslot (u : State) : ∃ up, (if u.clock % 10 = 0 then u.countSlot else u) = { u with pcn := up } := by
    split
    · exact u.countSlot_writes
    · exact ⟨_, rfl⟩
  have hns (u : State) : ∃ up, (if u.clock % 16 = 0 then u.countNs else u) = { u with pcn := up } := by
    split
    · exact u.countNs_writes
    · exact ⟨_, rfl⟩
  obtain ⟨p, hp⟩ := hslot { s with clock := s.clock + 1 }
  obtain ⟨q, hq⟩ := hns { s with clock := s.clock + 1, pcn := p }
  refine ⟨q, ?_⟩
  unfold State.advance
  dsimp only at hp hq ⊢
  rw [hp]
  exact hq

/-- A write of the persistent store is the MSC's. -/
theorem State.storeWrite_writes (s : State) : ∃ uz, s.storeWrite = { s with msc := uz } := by
  refine List.foldlRecOn (motive := fun t => ∃ uz, t = { s with msc := uz }) _ _ ?_ ?_
  · exact ⟨_, rfl⟩
  · rintro _ ⟨z, rfl⟩ x -
    exact ⟨_, rfl⟩

theorem State.mscRestart_writes (s : State) (cause : Nat) (tk : Option Ticket) :
    ∃ ug ue uz, s.mscRestart cause tk = { s with glb := ug, evr := ue, msc := uz } := by
  obtain ⟨z, h⟩ := s.storeWrite_writes
  unfold State.mscRestart
  rw [h]
  exact ⟨_, _, _, rfl⟩

theorem State.fireKind1_writes (s : State) : ∃ ug ue uz, s.fireKind1 = { s with glb := ug, evr := ue, msc := uz } := by
  unfold State.fireKind1
  split
  · split
    · dsimp only
      split
      · exact State.mscRestart_writes _ _ _
      · exact ⟨_, s.evr, s.msc, rfl⟩
    · exact ⟨s.glb, s.evr, s.msc, rfl⟩
  · exact ⟨s.glb, s.evr, s.msc, rfl⟩

theorem State.stagingTime_of_none {s : State} (h : s.acu.writes = []) : s.stagingTime = s := by
  simp [State.stagingTime, h]

/-- What one phase unit does without a staging write in progress. -/
theorem State.elapse_writes {s : State} (h : s.acu.writes = []) :
    ∃ ug up ue uz, s.elapse = { s with clock := s.clock + 1, glb := ug, pcn := up, evr := ue, msc := uz } := by
  obtain ⟨p, hp⟩ := s.advance_writes
  obtain ⟨g, e, z, hz⟩ := s.advance.fireKind1_writes
  have hpass : s.pass = { s with clock := s.clock + 1, glb := g, pcn := p, evr := e, msc := z } := by
    rw [State.pass, hz, hp]
  exact ⟨g, p, e, z, by rw [State.elapse, State.stagingTime_of_none (by rw [hpass]; exact h), hpass]⟩

theorem idleStepAddsOnePhaseUnit : Claims.IdleStepAddsOnePhaseUnit := by
  intro s hq hh hw
  obtain ⟨g, p, e, z, h⟩ := State.elapse_writes hw
  have hstep : step s = .next (s.framed s.elapse) := by simp only [step, hq, State.tick, hh]
  refine ⟨_, hstep, ?_, hq, ?_, ?_⟩
  · rw [State.framed_clock, h]
  · rw [State.framed_mgr, h]
  · rw [State.ft, State.framed_clock, h]

/-- Settles O2: the frame written out, the steps of a hold, and the passage of one phase unit. -/
theorem effectsStayWithinTheFrame : Obligations.EffectsStayWithinTheFrame := by
  unfold Obligations.EffectsStayWithinTheFrame
  exact ⟨idleStepAddsOnePhaseUnit, commandsKeepPartAndQueue, frameAddsOnlyTheSummaryInterrupt⟩

end Sys2Proof.Machine
end

section
/-!
PROOFS. The error summary that the interrupt rule saw (R350) and a channel that the table of the LPDDR6 channels lists twice.
-/

namespace Sys2Proof.Machine

/-- The channel of the journal's first line (R373). -/
def journalChannel : Nat := channelOf (State.reset.laReserve / 64 * 64)

/-- A running module whose table of channels, not in canonical form, lists the journal's channel twice, the second time with
a failed lane that the summary shows. REF_LOST is next. -/
def twiceListedChannel : State :=
  { glb := { memSwept := true, lastSummary := 64 }
    mem := { chans := [(journalChannel, {}), (journalChannel, { lanes := 1 })] }
    pending := [.refLost] }

/-- The record of REF_LOST goes to the journal, whose write to its channel leaves one entry of the channel, the first: the
failed lane is gone from the summary after the interrupt rule has seen it. -/
def afterRefLost : State :=
  State.framed { twiceListedChannel with pending := [] }
    (State.record { twiceListedChannel with pending := [], ftu := { refLost := true } } 0x62 89 twiceListedChannel.now64 [])

theorem step_twiceListedChannel : step twiceListedChannel = .next afterRefLost := rfl

theorem summarySeen_twiceListedChannel : twiceListedChannel.SummarySeen := by
  unfold State.SummarySeen
  decide

theorem not_summarySeen_afterRefLost : ¬ afterRefLost.SummarySeen := by
  unfold State.SummarySeen
  decide

/-- Refutes O58: the statement ranges over every state, also over one whose table of channels lists a channel twice. There
the journal's write to the channel, which comes after the interrupt rule, drops the second entry and its failed lane. -/
theorem not_everyStepKeepsSummarySeen : ¬ Obligations.EveryStepKeepsSummarySeen := by
  unfold Obligations.EveryStepKeepsSummarySeen
  exact fun h => not_summarySeen_afterRefLost (h _ _ summarySeen_twiceListedChannel step_twiceListedChannel)

end Sys2Proof.Machine
end

section
/-!
PROOFS. A completion (R320, R322): the 16 bytes of Table 12-4 at the CQ tail, what it leaves of its pair and of the others, and
where a clamp is counted; a command of an absent or unready unit (R4, R344).
-/

namespace Sys2Proof.Machine

/-! ### The completion of a running pair whose interrupt is off -/

@[simp] theorem Completion.bytes_length (c : Completion) (phase : Bool) (sqHead : Nat) : (c.bytes phase sqHead).length = 16 := by
  simp [Completion.bytes]

/-- A ring whose interrupt is off counts no entry toward it (R329). -/
theorem State.cqInterrupt_of_off {s : State} {p : Nat} (quiet : Bool) (h : (s.pair p).irqEn = false) :
    s.cqInterrupt p quiet = s := by
  simp [State.cqInterrupt, h]

theorem State.pair_cqInterrupt_ne (s : State) {p q : Nat} (quiet : Bool) (h : q ≠ p) :
    (s.cqInterrupt p quiet).pair q = s.pair q := by
  unfold State.cqInterrupt
  dsimp only
  split
  · rfl
  · split <;> simp [State.pair_setPair_ne _ _ h]

theorem State.pair_cqWrite_ne (s : State) {p q : Nat} (x : Completion) (h : q ≠ p) : (s.cqWrite p x).pair q = s.pair q := by
  simp [State.cqWrite, State.pair_cqInterrupt_ne _ _ h, State.pair_setPair_ne _ _ h]

theorem State.noteClamp_pair_ne (s : State) {tk : Ticket} {p : Ring} (off : Nat) {q : Nat} (hs : tk.src = .ring p)
    (h : q ≠ p) : (s.noteClamp tk off).pair q = s.pair q := by
  simp [State.noteClamp, hs, State.pair_modPair_ne _ _ h]

/-- The entry that a completion without a clamp makes. -/
def Ticket.entry (tk : Ticket) (status result : Nat) : Completion :=
  { tag := tk.tag, status := status, late := tk.late, ft := tk.ft % 2 ^ 48, result := BitVec.ofNat 32 result, quiet := tk.quiet }

/-- The state that a running pair's completion is written to: the command no longer counts as in flight. -/
def State.landing (s : State) (p : Nat) : State := s.modPair p fun r => { r with inflight := r.inflight - 1 }

@[simp] theorem State.pair_landing_self (s : State) (p : Nat) :
    (s.landing p).pair p = { s.pair p with inflight := (s.pair p).inflight - 1 } := State.pair_modPair_self ..

/-- The completion of a running pair that holds none is written (R320, Table 12-11). -/
theorem State.complete_of_running {s : State} {tk : Ticket} {p : Ring} {st res : Nat} (hs : tk.src = .ring p)
    (hc : tk.clamp = none) (hr : (s.pair p).state = .running) (hh : (s.pair p).held = []) :
    s.complete tk st res = (s.landing p).cqWrite p (tk.entry st res) := by
  have hwrites : (((s.landing p).pair p).state = .running ∨ ((s.landing p).pair p).state = .stopped) ∧
      ((s.landing p).pair p).held = [] := by simp [hr, hh]
  simp only [State.complete, hs, hc]
  exact if_pos hwrites

/-- A completion written without an interrupt: its bytes go to the CQ tail, which advances, and PHASE inverts as it wraps. -/
theorem State.cqWrite_of_irq_off {s : State} {p : Nat} (x : Completion) (h : (s.pair p).irqEn = false) :
    s.cqWrite p x =
      ((s.mgrWrite ((s.pair p).cqBase + (s.pair p).cqTail * 16) (x.bytes (s.pair p).phase (s.pair p).sqHead)).setPair p
        { s.pair p with cqTail := ((s.pair p).cqTail + 1) % 2 ^ (s.pair p).log2
                        phase := if ((s.pair p).cqTail + 1) % 2 ^ (s.pair p).log2 = 0 then !(s.pair p).phase
                          else (s.pair p).phase }).cntCmd 0xD1 := by
  unfold State.cqWrite
  exact State.cqInterrupt_of_off _ (by simp [h])

/-- The bytes of an entry without a clamp, in the numbers that the ticket holds (Table 12-4). -/
theorem Ticket.entry_bytes (tk : Ticket) (st res : Nat) (phase : Bool) (sqHead : Nat) :
    (tk.entry st res).bytes phase sqHead = leBytes 2 tk.tag ++ leBytes 1 st ++
      [BitVec.ofNat 8 (bit phase + 4 * bit tk.late)] ++ leBytes 6 tk.ft ++ leBytes 2 sqHead ++ leBytes 4 res := by
  have hft : leBytes 6 (tk.ft % 2 ^ 48) = leBytes 6 tk.ft := leBytes_mod 6 tk.ft 6 le_rfl
  have hres : leBytes 4 (BitVec.ofNat 32 res).toNat = leBytes 4 res := by
    rw [BitVec.toNat_ofNat]
    exact leBytes_mod 4 res 4 le_rfl
  have hbits : bit phase + 2 * bit false + 4 * bit tk.late = bit phase + 4 * bit tk.late := rfl
  simp only [Completion.bytes, Ticket.entry, hft, hres, hbits]

/-- Settles O5: the completion is written to the pair that the command has left, and its interrupt is off. -/
theorem completionIsWrittenAtTheCqTail : Obligations.CompletionIsWrittenAtTheCqTail := by
  unfold Obligations.CompletionIsWrittenAtTheCqTail
  intro s tk p st res hs hc hr hh hirq
  have hlanded : ((s.landing p).pair p).irqEn = false := by simp [hirq]
  dsimp only
  rw [State.complete_of_running hs hc hr hh]
  refine ⟨?_, fun b _ hb => ?_, ?_, ?_, ?_, ?_, fun q hq => ?_⟩
  · rw [State.cqWrite_of_irq_off _ hlanded, ← Ticket.entry_bytes]
    have hread := State.mgrRead_mgrWrite (s.landing p) ((s.pair p).cqBase + (s.pair p).cqTail * 16)
      ((tk.entry st res).bytes (s.pair p).phase (s.pair p).sqHead) (by simp)
    rw [Completion.bytes_length] at hread
    rw [State.pair_landing_self]
    exact hread
  · rw [State.cqWrite_of_irq_off _ hlanded, State.pair_landing_self]
    exact tget_mgrPut_ne fun k hk => hb k (by simpa using hk)
  · rw [State.cqWrite_of_irq_off _ hlanded]; simp
  · rw [State.cqWrite_of_irq_off _ hlanded]; simp
  · rw [State.cqWrite_of_irq_off _ hlanded]; simp
  · rw [State.cqWrite_of_irq_off _ hlanded]; simp
  · rw [State.pair_cqWrite_ne _ _ hq]
    exact State.pair_modPair_ne _ _ hq

/-! ### Where a clamp is counted -/

@[simp] theorem State.cqInterrupt_lastClamp (s : State) (p : Nat) (quiet : Bool) :
    ((s.cqInterrupt p quiet).pair p).lastClamp = (s.pair p).lastClamp := by
  unfold State.cqInterrupt
  dsimp only
  split
  · rfl
  · split <;> simp

@[simp] theorem State.cqWrite_lastClamp (s : State) (p : Nat) (x : Completion) :
    ((s.cqWrite p x).pair p).lastClamp = (s.pair p).lastClamp := by
  simp [State.cqWrite]

@[simp] theorem State.cqInterrupt_regClamp (s : State) (p : Nat) (quiet : Bool) :
    (s.cqInterrupt p quiet).cmd.regClamp = s.cmd.regClamp := by
  unfold State.cqInterrupt
  dsimp only
  split
  · rfl
  · split
    · rw [State.sendVector_cmd]
      rfl
    · rfl

@[simp] theorem State.cqWrite_regClamp (s : State) (p : Nat) (x : Completion) :
    (s.cqWrite p x).cmd.regClamp = s.cmd.regClamp := by
  unfold State.cqWrite
  rw [State.cqInterrupt_regClamp]
  rfl

/-- The clamp of a ring's command is its ring's (R322). -/
theorem State.complete_ring_clamp {s : State} {tk : Ticket} {p : Ring} {off st res : Nat} (hs : tk.src = .ring p)
    (hc : tk.clamp = some off) :
    ((s.complete tk st res).pair p).lastClamp = tk.op + off * 2 ^ 8 + tk.tag * 2 ^ 16 ∧
      (s.complete tk st res).cmd.regClamp = s.cmd.regClamp := by
  simp only [State.complete, hs, hc, State.noteClamp]
  split
  · simp only [State.cqWrite_lastClamp, State.cqWrite_regClamp, State.pair_modPair_self, State.cntCmd_pair]
    exact ⟨trivial, rfl⟩
  · simp only [State.pair_modPair_self, State.cntCmd_pair]
    exact ⟨trivial, rfl⟩

/-- The completion of a clamped register write counts its clamp and does nothing else (R317, R322). -/
theorem State.complete_side_clamp {s : State} {tk : Ticket} {off st res : Nat} (hs : tk.src = .side)
    (hc : tk.clamp = some off) :
    s.complete tk st res = { s with cmd := { s.cmd with regClamp := satAdd 32 s.cmd.regClamp 1 } } := by
  simp [State.complete, hs, hc, State.noteClamp]

theorem absentOrNotReadyHasNoEffect : Claims.AbsentOrNotReadyHasNoEffect := by
  intro o c s
  exact ⟨OpSpec.submit_of_absent, fun ha hr => by simp [OpSpec.submit, OpSpec.issue, ha, hr],
    fun ha hr hm hs => by simp [OpSpec.submit, OpSpec.issue, ha, hr, hm, hs]⟩

/-- Settles O6: a clamp is noted before the completion, which leaves it, and the refusals come first at the issue. -/
theorem clampIsCountedOnItsRing : Obligations.ClampIsCountedOnItsRing := by
  unfold Obligations.ClampIsCountedOnItsRing
  exact ⟨⟨fun _ _ _ _ _ _ hs hc => ⟨State.complete_clamps hs hc, State.complete_ring_clamp hs hc⟩,
    fun _ _ _ _ _ => State.complete_side_clamp⟩, absentOrNotReadyHasNoEffect⟩

end Sys2Proof.Machine
end

section
/-!
PROOFS. Entries of the device-written rings (R323 to R325): written at the tail, held, or lost. What a vector, an entry, an
event and an error record leave of the state is one relation, `State.Notes`.
-/

namespace Sys2Proof.Machine

/-! ### What vectors, counts and entries write -/

/-- `t` is `s` after vectors, counts and entries of the device-written rings: the device rings, the pending, waiting and sent
vectors, the journal, the counters, the manager's memory and the outputs may differ. -/
def State.Notes (s t : State) : Prop :=
  ∃ dev pend waiting sent journal next counters mgr out,
    t = { s with cmd := { s.cmd with dev := dev }, fmp := { s.fmp with pend := pend, waiting := waiting, sent := sent }
                 evr := { s.evr with journal := journal, journalNext := next }
                 pcn := { s.pcn with counters := counters }, mgr := mgr, out := out }

theorem State.Notes.refl (s : State) : s.Notes s := ⟨_, _, _, _, _, _, _, _, _, rfl⟩

theorem State.Notes.trans {s t u : State} (h : s.Notes t) (h' : t.Notes u) : s.Notes u := by
  obtain ⟨_, _, _, _, _, _, _, _, _, rfl⟩ := h
  obtain ⟨d, p, w, n, j, k, c, m, o, rfl⟩ := h'
  exact ⟨d, p, w, n, j, k, c, m, o, rfl⟩

theorem State.countAt_notes (s : State) (lo n code : Nat) (vfi port : Option Nat) (amount : Nat) :
    s.Notes (s.countAt lo n code vfi port amount) := ⟨_, _, _, _, _, _, _, _, _, rfl⟩

theorem State.setDevRing_notes (s : State) (d : Nat) (r : DevRing) : s.Notes (s.setDevRing d r) :=
  ⟨_, _, _, _, _, _, _, _, _, rfl⟩

theorem State.mgrWrite_notes (s : State) (a : Nat) (bs : List Byte) : s.Notes (s.mgrWrite a bs) :=
  ⟨_, _, _, _, _, _, _, _, _, rfl⟩

theorem State.sendVector_notes (s : State) (v : Nat) : s.Notes (s.sendVector v) := by
  unfold State.sendVector
  split
  · split
    · exact ⟨_, _, _, _, _, _, _, _, _, rfl⟩
    · split
      · exact .refl s
      · exact ⟨_, _, _, _, _, _, _, _, _, rfl⟩
  · exact ⟨_, _, _, _, _, _, _, _, _, rfl⟩

theorem State.devWrite_notes (s : State) (d : Nat) (bs : List Byte) : s.Notes (s.devWrite d bs) := by
  unfold State.devWrite
  dsimp only
  have hput : ∀ a xs r, s.Notes (((s.mgrWrite a xs).setDevRing d r).cntCmd 0xD3) := fun a xs r =>
    ((s.mgrWrite_notes a xs).trans (State.setDevRing_notes _ d r)).trans (State.countAt_notes ..)
  split
  · exact (hput _ _ _).trans (State.sendVector_notes _ _)
  · exact hput _ _ _

theorem State.devProduce_notes (s : State) (d : Nat) (bs : List Byte) : s.Notes (s.devProduce d bs) := by
  unfold State.devProduce
  dsimp only
  have hseq := s.setDevRing_notes d { s.devRing d with seq := ((s.devRing d).seq + 1) % 2 ^ 32 }
  split
  · exact hseq.trans (State.devWrite_notes ..)
  · split
    · exact hseq.trans (State.setDevRing_notes ..)
    · exact (hseq.trans (State.setDevRing_notes ..)).trans (State.countAt_notes ..)

theorem State.journalAdd_notes (s : State) (bs : List Byte) : s.Notes (s.journalAdd bs) := by
  unfold State.journalAdd
  split
  · exact ⟨_, _, _, _, _, _, _, _, _, rfl⟩
  · exact .refl s

theorem State.recordBytes_notes (s : State) (cause island t64 : Nat) (payload : List Byte) :
    s.Notes (s.recordBytes cause island t64 payload) := (s.journalAdd_notes _).trans (State.devProduce_notes ..)

theorem State.record_notes (s : State) (cause island t64 : Nat) (fields : List (Nat × Nat)) :
    s.Notes (s.record cause island t64 fields) := s.recordBytes_notes ..

theorem State.event_notes (s : State) (kind island t64 : Nat) (fields : List (Nat × Nat)) :
    s.Notes (s.event kind island t64 fields) := by
  unfold State.event
  split
  · exact (s.journalAdd_notes _).trans (State.devProduce_notes ..)
  · exact .refl s

theorem State.Notes.pairs {s t : State} (h : s.Notes t) : t.cmd.pairs = s.cmd.pairs := by
  obtain ⟨_, _, _, _, _, _, _, _, _, rfl⟩ := h
  rfl

theorem State.Notes.pair {s t : State} (h : s.Notes t) (p : Nat) : t.pair p = s.pair p := by rw [State.pair, h.pairs, State.pair]

/-! ### The three fates of an entry -/

/-- A device ring after an entry has been written at its tail. -/
def DevRing.wrote (r : DevRing) : DevRing :=
  { r with tail := (r.tail + 1) % 2 ^ r.log2, lostBefore := false
           phase := if (r.tail + 1) % 2 ^ r.log2 = 0 then !r.phase else r.phase }

@[simp] theorem State.cmd_devWrite (s : State) (d : Nat) (bs : List Byte) :
    (s.devWrite d bs).cmd = { s.cmd with dev := tset {} s.cmd.dev d (s.devRing d).wrote } := by
  unfold State.devWrite
  dsimp only
  split
  · rw [State.sendVector_cmd]; rfl
  · rfl

@[simp] theorem State.devRing_devWrite_self (s : State) (d : Nat) (bs : List Byte) :
    (s.devWrite d bs).devRing d = (s.devRing d).wrote := by simp [State.devRing]

theorem State.devRing_devWrite_ne (s : State) {d e : Nat} (bs : List Byte) (h : e ≠ d) :
    (s.devWrite d bs).devRing e = s.devRing e := by simp [State.devRing, tget_tset_ne _ _ h]

@[simp] theorem State.mgr_devWrite (s : State) (d : Nat) (bs : List Byte) :
    (s.devWrite d bs).mgr = (s.mgrWrite ((s.devRing d).base + (s.devRing d).tail * devEntrySize d)
      (withFlags bs (s.devRing d).phase (s.devRing d).lostBefore)).mgr := by
  unfold State.devWrite
  dsimp only
  split
  · rw [State.sendVector_mgr]; rfl
  · rfl

/-- A running ring with room and nothing held writes. -/
theorem State.devProduce_of_room {s : State} {d : Nat} (bs : List Byte) (hr : (s.devRing d).state = .running)
    (hf : (s.devRing d).full = false) (hh : (s.devRing d).held = []) :
    s.devProduce d bs = (s.setDevRing d { s.devRing d with seq := ((s.devRing d).seq + 1) % 2 ^ 32 }).devWrite d bs :=
  if_pos ⟨hr, hf, hh⟩

/-- An entry that cannot be written is held while the hold has room. -/
theorem State.devProduce_of_hold {s : State} {d : Nat} (bs : List Byte)
    (hw : ¬ ((s.devRing d).state = .running ∧ (s.devRing d).full = false ∧ (s.devRing d).held = []))
    (hc : (s.devRing d).held.length < devHoldCap d) :
    s.devProduce d bs = s.setDevRing d
      { s.devRing d with seq := ((s.devRing d).seq + 1) % 2 ^ 32, held := (s.devRing d).held ++ [bs] } := by
  have h : s.devProduce d bs = (s.setDevRing d { s.devRing d with seq := ((s.devRing d).seq + 1) % 2 ^ 32 }).modDevRing d
      fun r => { r with held := r.held ++ [bs] } := (if_neg hw).trans (if_pos hc)
  rw [h]
  simp only [State.modDevRing, State.devRing_setDevRing_self]
  simp [State.setDevRing, tset_tset]

/-- An entry that neither the ring nor the hold has room for is lost. -/
theorem State.devProduce_of_loss {s : State} {d : Nat} (bs : List Byte)
    (hw : ¬ ((s.devRing d).state = .running ∧ (s.devRing d).full = false ∧ (s.devRing d).held = []))
    (hc : devHoldCap d ≤ (s.devRing d).held.length) :
    s.devProduce d bs = ((s.setDevRing d { s.devRing d with seq := ((s.devRing d).seq + 1) % 2 ^ 32 }).modDevRing d
      fun r => { r with lost := true, lostCount := satAdd 32 r.lostCount 1, lostBefore := true }).cntCmd 0xD4 :=
  (if_neg hw).trans (if_neg (Nat.not_lt.2 hc))

theorem State.devRing_devProduce_ne (s : State) {d e : Nat} (bs : List Byte) (h : e ≠ d) :
    (s.devProduce d bs).devRing e = s.devRing e := by
  unfold State.devProduce
  dsimp only
  split
  · rw [State.devRing_devWrite_ne _ _ h, State.devRing_setDevRing_ne _ _ h]
  · split
    · rw [State.devRing_modDevRing_ne _ _ h, State.devRing_setDevRing_ne _ _ h]
    · rw [State.cntCmd_devRing, State.devRing_modDevRing_ne _ _ h, State.devRing_setDevRing_ne _ _ h]

/-- Settles O23: an entry is written, held or lost, and each fate is a rule of its own. -/
theorem entriesAreWrittenHeldOrLost : Obligations.EntriesAreWrittenHeldOrLost := by
  unfold Obligations.EntriesAreWrittenHeldOrLost
  intro d bs s
  refine ⟨State.devProduce_seq s d bs, fun hr hf hh => ?_, State.devProduce_of_hold bs, fun hw hc => ?_,
    fun e he => State.devRing_devProduce_ne s bs he⟩
  · rw [State.devProduce_of_room bs hr hf hh]
    simp [DevRing.wrote, State.mgrWrite, hh]
  · rw [State.devProduce_of_loss bs hw hc]
    exact ⟨by simp, by simp, by simp, by simp, rfl⟩

end Sys2Proof.Machine
end

section
/-!
PROOFS. The fetch of descriptors (R314, R316, R330), and what the pipeline takes in a cycle (R316, R317, R319).
-/

namespace Sys2Proof.Machine

/-! ### Fetching -/

theorem State.fetchIssue_of_pick {s : State} {b k q : Nat} (hp : pickFetch s.slot s.cmd.pairs = some (b, k, q))
    (hopen : (s.cmd.pairs.filter fun x => x.2.fetch.isSome).length < 16) (hfull : s.inflight + s.fetching < 8192)
    (hq : 0 < (s.pair q).fetchable) :
    s.fetchIssue = s.setPair q { s.pair q with
      fetch := some { first := (s.pair q).sqHead, count := min (s.pair q).fetchable (8192 - (s.inflight + s.fetching))
                      at16 := s.clock } } := by
  have hn : min (s.pair q).fetchable (8192 - (s.inflight + s.fetching)) ≠ 0 := by omega
  unfold State.fetchIssue
  rw [if_neg (Nat.not_le.2 hopen), hp]
  exact if_neg hn

theorem State.fetchIssue_of_none {s : State} (hp : pickFetch s.slot s.cmd.pairs = none) : s.fetchIssue = s := by
  unfold State.fetchIssue
  rw [hp]
  exact ite_self s

/-- A fetch of a running pair that fails stops the pair and makes a record (R330). -/
theorem State.fetchFail_pair {s : State} {p : Nat} (kind : Nat) (h : (s.pair p).state = .running) :
    (s.fetchFail p kind).pair p = { s.pair p with fetch := none, fetchErr := true, state := .stopped } := by
  simp only [State.fetchFail]
  rw [(State.record_notes _ _ _ _ _).pair, State.pair_setPair_self, if_pos h]

theorem State.fetchFail_seq (s : State) (p kind : Nat) :
    ((s.fetchFail p kind).devRing 1).seq = ((s.devRing 1).seq + 1) % 2 ^ 32 := by
  rw [State.fetchFail, State.record_seq]
  rfl

/-- What FETCH_TIMEOUT does to a pair with an open fetch. -/
theorem acts_fetchTimeout {s : State} {p : Ring} {f : Fetch} (hs : s.held = none) (hf : (s.pair p).fetch = some f) :
    Acts (.fetchTimeout p) s fun s => if f.at16 + ms16 50 ≤ s.clock then s.fetchFail p 3 else s :=
  acts_of_act (f := fun s => match (s.pair p).fetch with
    | none => s
    | some f => if f.at16 + ms16 50 ≤ s.clock then s.fetchFail p 3 else s) rfl hs (by simp only [hf])

/-- What DESCRIPTOR_FETCH_COMPLETE does to a pair with an open fetch, by the fetch's result. -/
theorem acts_fetchComplete {s : State} {p : Ring} {f : Fetch} (hs : s.held = none) (hf : (s.pair p).fetch = some f)
    (res : FetchResult) :
    Acts (.descriptorFetchComplete p res) s fun s => match res with
      | .data => s.fetchData p f
      | .completionError => s.fetchFail p 1
      | .poisoned => s.fetchFail p 2 :=
  acts_of_act (f := fun s => match (s.pair p).fetch with
    | none => s
    | some f => match res with
      | .data => s.fetchData p f
      | .completionError => s.fetchFail p 1
      | .poisoned => s.fetchFail p 2) rfl hs (by simp only [hf])

theorem State.fetchData_pair_ne (s : State) {p j : Nat} (f : Fetch) (h : j ≠ p) : (s.fetchData p f).pair j = s.pair j :=
  State.pair_setPair_ne s _ h

theorem State.fetchData_pair (s : State) (p : Nat) (f : Fetch) : (s.fetchData p f).pair p =
    { s.pair p with
      fetch := none, inflight := (s.pair p).inflight + f.count, sqHead := (f.first + f.count) % 2 ^ (s.pair p).log2
      bells := (s.pair p).bellsAfter f.count s.clock
      waiting := (s.pair p).waiting ++ (List.range f.count).map fun i =>
        { desc := s.descAt (s.pair p) (f.first + i), stamp := s.clock } } := State.pair_setPair_self ..

theorem descriptorFetching : Claims.DescriptorFetching := by
  intro p f b k q s hs
  refine ⟨fun hp hopen hfull hq => acts_of_act (f := State.fetchIssue) rfl hs (State.fetchIssue_of_pick hp hopen hfull hq),
    fun hp => acts_of_act (f := State.fetchIssue) rfl hs (State.fetchIssue_of_none hp), fun hf => ?_, fun hf hr => ?_,
    fun hf hr ht => ?_, fun hf ht => (acts_fetchTimeout hs hf).congr (if_neg (Nat.not_le.2 ht)), fun r => ?_⟩
  · refine ⟨_, acts_fetchComplete hs hf .data, ?_, ?_, ?_, ?_, ?_, ?_, fun j hj => ?_⟩
    · rw [State.framed_pair, State.fetchData_pair]; rfl
    · rw [State.framed_pair, State.fetchData_pair]
    · rw [State.framed_pair, State.fetchData_pair]
    · rw [State.framed_pair, State.fetchData_pair]
    · rw [State.framed_mgr]; rfl
    · rw [State.framed_cmd]; rfl
    · rw [State.framed_pair, State.fetchData_pair_ne _ _ hj]
  · refine ⟨_, acts_fetchComplete hs hf .poisoned, ?_, ?_⟩
    · rw [State.framed_pair, State.fetchFail_pair _ hr]
    · rw [State.framed_devRing, State.fetchFail_seq]
  · refine ⟨_, (acts_fetchTimeout hs hf).congr (g := fun s => s.fetchFail p 3) (if_pos ht), ?_⟩
    rw [State.framed_pair, State.fetchFail_pair _ hr]
  · unfold RingPair.fetchable
    omega

/-! ### The pipeline -/

theorem State.sideCycle_iff (s : State) : s.sideCycle = true ↔ s.cmd.cycle % 8 = 7 := by simp [State.sideCycle]

theorem State.descriptorTake_of_sideCycle {s : State} (h : s.cmd.cycle % 8 = 7) : s.descriptorTake = s.nextCycle :=
  if_pos (s.sideCycle_iff.2 h)

/-- In a cycle of its own the descriptor picked leaves its pair and is passed on. -/
theorem State.descriptorTake_of_pick {s : State} {p : Nat} {d : WaitDesc} (hc : s.cmd.cycle % 8 ≠ 7)
    (hp : pickTake s.slot s.cmd.pairs = some (p, d)) :
    s.descriptorTake = ((s.modPair p fun r => { r with waiting := r.waiting.drop 1 }).nextCycle).passOn
      { src := .ring (Fin.ofNat 64 p), desc := d.desc } d.stamp := by
  unfold State.descriptorTake
  rw [if_neg (mt s.sideCycle_iff.1 hc), hp]

theorem State.passOn_of_opOf {s : State} {c : Cmd} {o : OpSpec} (stamp : Nat) (h : opOf c.opcode = some o) :
    s.passOn c stamp = o.issue c stamp s := by
  simp only [State.passOn, h]

theorem State.passOn_of_reserved {s : State} {c : Cmd} (stamp : Nat) (h : opOf c.opcode = none) :
    s.passOn c stamp = s.badOpcode c := by
  simp only [State.passOn, h]

theorem State.sideTake_of_turn {s : State} {x : SideCmd} {xs : List SideCmd} (hx : s.cmd.side = x :: xs)
    (h : s.cmd.cycle % 8 = 7 ∨ pickTake s.slot s.cmd.pairs = none) :
    s.sideTake = (State.nextCycle { s with cmd := { s.cmd with side := xs } }).sidePass x := by
  have hturn : (s.sideCycle || (pickTake s.slot s.cmd.pairs).isNone) = true := by
    simpa [s.sideCycle_iff] using h
  simp only [State.sideTake, hx, hturn, if_true]

theorem State.sideTake_of_descriptor {s : State} {x : SideCmd} {xs : List SideCmd} {y : Nat × WaitDesc}
    (hx : s.cmd.side = x :: xs) (hc : s.cmd.cycle % 8 ≠ 7) (hp : pickTake s.slot s.cmd.pairs = some y) : s.sideTake = s := by
  have hturn : (s.sideCycle || (pickTake s.slot s.cmd.pairs).isNone) = false := by
    simpa [hp] using mt s.sideCycle_iff.1 hc
  simp [State.sideTake, hx, hturn]

theorem State.sidePass_of_opOf {s : State} {x : SideCmd} {o : OpSpec} (hm : x.mctp = false) (ho : opOf x.op = some o) :
    s.sidePass x = o.issue x.cmd (s.accept x.cmd).clock (s.accept x.cmd) := by
  simp [State.sidePass, hm, ho]

/-- A fenced head waits for every earlier command of its pair (R319). -/
theorem RingPair.takeable_iff_of_fence {r : RingPair} {p : Nat} {e : WaitDesc} {es : List WaitDesc} (hw : r.waiting = e :: es)
    (hf : ({ src := .ring (Fin.ofNat 64 p), desc := e.desc } : Cmd).fence = true) :
    r.takeable p = some e ↔ r.inflight ≤ r.waiting.length := by
  simp only [RingPair.takeable, hw, hf, Bool.true_and, decide_eq_true_eq]
  split
  case isTrue hlt => simpa using hlt
  case isFalse hle => simpa using hle

theorem pipelineTakesOneCommandPerCycle : Claims.PipelineTakesOneCommandPerCycle := by
  intro p d o x xs s hs
  refine ⟨fun hc hp ho => ?_, fun hc hp ho => ?_, fun hc => ?_, fun hx ht hm ho => ?_, fun hx hc hp => ?_,
    fun r e es hw hf => RingPair.takeable_iff_of_fence hw hf⟩
  · refine acts_of_act (f := State.descriptorTake) rfl hs ?_
    rw [State.descriptorTake_of_pick hc hp, State.passOn_of_opOf _ ho]
    rfl
  · refine acts_of_act (f := State.descriptorTake) rfl hs ?_
    rw [State.descriptorTake_of_pick hc hp, State.passOn_of_reserved _ ho]
    rfl
  · exact acts_of_act (f := State.descriptorTake) rfl hs (State.descriptorTake_of_sideCycle hc)
  · refine acts_of_act (f := State.sideTake) rfl hs ?_
    rw [State.sideTake_of_turn hx ht, State.sidePass_of_opOf hm ho, State.accept_clock]
    rfl
  · exact acts_of_act (f := State.sideTake) rfl hs (State.sideTake_of_descriptor hx hc hp)

/-- Settles O24: a fetch is issued, returns or fails, and a cycle takes one command at most. -/
theorem descriptorsAreFetchedAndTaken : Obligations.DescriptorsAreFetchedAndTaken := by
  unfold Obligations.DescriptorsAreFetchedAndTaken
  exact ⟨descriptorFetching, pipelineTakesOneCommandPerCycle⟩

end Sys2Proof.Machine
end

section
/-!
PROOFS. Vectors sent, waiting or pending (R329, R350), and the loss and return of the FMP (R309, R310, R330).
-/

namespace Sys2Proof.Machine

/-! ### Vectors -/

/-- While a master enable is 0 a vector waits. -/
theorem State.sendVector_of_off {s : State} (n : Nat) (h : (s.fmp.bme && s.fmp.msixEn) = false) :
    s.sendVector n = { s with fmp := { s.fmp with waiting := n :: s.fmp.waiting.filter (· ≠ n) } } := by
  rw [State.sendVector, h]
  rfl

theorem State.sendVector_of_masked {s : State} {n : Nat} (h : (s.fmp.bme && s.fmp.msixEn) = true)
    (hm : (tget {} s.fmp.table n).masked = true) :
    s.sendVector n = { s with fmp := { s.fmp with pend := n :: s.fmp.pend.filter (· ≠ n) } } := by
  rw [State.sendVector, if_pos h, if_pos hm]

theorem State.sendVector_of_free {s : State} {n : Nat} (h : (s.fmp.bme && s.fmp.msixEn) = true)
    (hm : (tget {} s.fmp.table n).masked = false) (hn : n ∉ s.fmp.sent) :
    s.sendVector n = (State.emit { s with fmp := { s.fmp with sent := n :: s.fmp.sent } } (.msix n)).cntCmd 0xD5 := by
  rw [State.sendVector, if_pos h, if_neg (hm ▸ Bool.false_ne_true), if_neg (by simpa using hn)]

theorem State.sendVector_of_sent {s : State} {n : Nat} (h : (s.fmp.bme && s.fmp.msixEn) = true)
    (hm : (tget {} s.fmp.table n).masked = false) (hn : n ∈ s.fmp.sent) : s.sendVector n = s := by
  rw [State.sendVector, if_pos h, if_neg (hm ▸ Bool.false_ne_true), if_pos (by simpa using hn)]

/-- A register access acts on a module whose FMP answers. -/
theorem acts_of_actFmp {i : Instr} {s : State} {f g : State → State} (hi : exec i s = actFmp s f) (h : s.Alive)
    (hf : f s = g s) : Acts i s g := by
  rw [Acts, hi, actFmp_alive h, hf]

theorem exec_completionIrqDelay (p : Ring) (s : State) :
    exec (.completionIrqDelay p) s = execCompletionIrqDelay p s := rfl

/-- A ring's interrupt that has waited its DELAY is sent (R329). -/
theorem acts_irqDelay_of_due {p : Ring} {s : State} {t : Nat} (hs : s.held = none) (ht : (s.pair p).firstAt = some t)
    (hdue : (s.pair p).irqEn = true ∧ (s.pair p).irqDelay ≠ 0 ∧ t + us16 (s.pair p).irqDelay ≤ s.clock) :
    Acts (.completionIrqDelay p) s fun s =>
      (s.setPair p { s.pair p with sinceIrq := 0, firstAt := none }).sendVector (s.pair p).vec := by
  rw [Acts, exec_completionIrqDelay, execCompletionIrqDelay, act_running hs]
  simp only [ht]
  rw [if_pos hdue]

theorem acts_irqDelay_of_idle {p : Ring} {s : State} (hs : s.held = none)
    (h : (s.pair p).firstAt = none ∨ (s.pair p).irqEn = false) : Acts (.completionIrqDelay p) s id := by
  rw [Acts, exec_completionIrqDelay, execCompletionIrqDelay, act_running hs]
  cases ht : (s.pair p).firstAt with
  | none => simp only [ht]; rfl
  | some t =>
    have he : (s.pair p).irqEn = false := h.resolve_left (by simp [ht])
    simp only [ht]
    rw [if_neg (by simp [he])]
    rfl

theorem vectorsAreSentWaitOrPend : Claims.VectorsAreSentWaitOrPend := by
  intro v p s hs
  refine ⟨fun n h => State.sendVector_of_off n h, fun n h hm => State.sendVector_of_masked h hm, fun n h hm hn => ?_,
    fun n h hm hn => State.sendVector_of_sent h hm hn, fun ha hp => ?_, fun ha hp => ?_, fun ha hw => ?_, fun n ha hw => ?_,
    fun t he ht hd hle => acts_irqDelay_of_due hs ht ⟨he, hd, hle⟩, acts_irqDelay_of_idle hs⟩
  · rw [State.sendVector_of_free h hm hn]
    exact ⟨rfl, rfl⟩
  · refine acts_of_actFmp (f := fun s => s.msixUnmask v.toNat) rfl ⟨hs, ha⟩ ?_
    simp only [State.msixUnmask, hp, Bool.false_eq_true, if_false]
  · refine acts_of_actFmp (f := fun s => s.msixUnmask v.toNat) rfl ⟨hs, ha⟩ ?_
    simp only [State.msixUnmask, hp, if_true]
  · refine acts_of_actFmp (f := State.masterEnable) rfl ⟨hs, ha⟩ ?_
    simp only [State.masterEnable, hw, List.foldr_nil]
  · refine acts_of_actFmp (f := State.masterEnable) rfl ⟨hs, ha⟩ ?_
    simp only [State.masterEnable, hw, List.foldr_cons, List.foldr_nil]

/-! ### The loss of the FMP -/

@[simp] theorem State.journalOut_fmp (s : State) (n : Nat) : (s.journalOut n).fmp = s.fmp := by
  obtain ⟨c, p, h⟩ := s.journalOut_parts n
  rw [h]

theorem State.framed_fmp (s u : State) : (s.framed u).fmp = { u.noteSummary.fmp with sent := [] } := by
  simp [State.framed]

/-- Without the master enables the interrupt rule lets its vector wait. -/
theorem State.noteSummary_fmp_of_off {u : State} (h : (u.fmp.bme && u.fmp.msixEn) = false) :
    ∃ waiting, u.noteSummary.fmp = { u.fmp with waiting := waiting } := by
  unfold State.noteSummary
  dsimp only
  split
  · rw [State.sendVector_of_off (s := { u with glb := { u.glb with lastSummary := u.errSummary } }) _ h]
    exact ⟨_, rfl⟩
  · exact ⟨u.fmp.waiting, rfl⟩

/-- The state of a ring pair after a loss of the FMP: a running or stopped one is suspended. -/
def RingPair.lost (r : RingPair) : RingPair :=
  if r.state = .running ∨ r.state = .stopped then { r with state := .suspended, fetch := none, bells := [] } else r

/-- The state of a device ring after a loss of the FMP. -/
def DevRing.suspend (r : DevRing) : DevRing := if r.state = .running then { r with state := .suspended } else r

theorem State.fmpReset_eq (s : State) : s.fmpReset =
    { s with fmp := { s.fmp with linkUp := false, bme := false, msixEn := false, table := [], pend := [], waiting := [] }
             cmd := { s.cmd with lossFt := some (s.cmd.lossFt.getD s.now64)
                                 pairs := s.cmd.pairs.map fun x => (x.1, x.2.lost)
                                 dev := s.cmd.dev.map fun x => (x.1, x.2.suspend) } } := by
  unfold State.fmpReset
  cases s.cmd.lossFt <;> rfl

theorem RingPair.lost_state (r : RingPair) : r.lost.state ≠ .running ∧ r.lost.state ≠ .stopped := by
  unfold RingPair.lost
  split
  case isTrue => exact ⟨nofun, nofun⟩
  case isFalse h => exact not_or.1 h

@[simp] theorem RingPair.lost_held (r : RingPair) : r.lost.held = r.held := by
  unfold RingPair.lost
  split <;> rfl

@[simp] theorem RingPair.lost_waiting (r : RingPair) : r.lost.waiting = r.waiting := by
  unfold RingPair.lost
  split <;> rfl

theorem DevRing.suspend_state (r : DevRing) : r.suspend.state ≠ .running := by
  unfold DevRing.suspend
  split
  case isTrue => exact nofun
  case isFalse h => exact h

theorem fmpLossSuspendsRings : Claims.FmpLossSuspendsRings := by
  intro s hs
  refine ⟨⟨_, act_running hs State.fmpReset, ?_⟩, acts_of_act (f := fun s => { s with fmp := { s.fmp with linkUp := true } })
    rfl hs rfl⟩
  obtain ⟨w, hw⟩ := State.noteSummary_fmp_of_off (u := s.fmpReset) rfl
  rw [State.framed_fmp, hw, State.framed_mgr, State.framed_ftu, State.framed_cmd, State.fmpReset_eq]
  refine ⟨rfl, rfl, rfl, rfl, rfl, rfl, rfl, rfl, fun x hx => ?_, fun x hx => ?_, ?_, ?_⟩
  · obtain ⟨y, -, rfl⟩ := List.mem_map.1 hx
    exact y.2.lost_state
  · obtain ⟨y, -, rfl⟩ := List.mem_map.1 hx
    exact y.2.suspend_state
  · simp
  · simp

/-- Settles O25: a vector's four fates, and what the loss of the FMP writes. -/
theorem vectorsAndTheLossOfTheFmp : Obligations.VectorsAndTheLossOfTheFmp := by
  unfold Obligations.VectorsAndTheLossOfTheFmp
  exact ⟨vectorsAreSentWaitOrPend, fmpLossSuspendsRings⟩

end Sys2Proof.Machine
end

section
/-!
PROOFS. Doorbells (R313), and the states of ring pairs and of device-written rings (R312, R325, R330).
-/

namespace Sys2Proof.Machine

/-! ### The bits of a control register's value -/

/-- A word without its `k` low bits. -/
theorem toNat_and_shifted (v : Word) (k : Nat) : (v &&& (BitVec.allOnes 32 <<< k)).toNat = v.toNat / 2 ^ k * 2 ^ k := by
  have h : v &&& (BitVec.allOnes 32 <<< k) = (v >>> k) <<< k := by
    apply BitVec.eq_of_getLsbD_eq
    intro i hi
    by_cases hk : i < k
    · simp [hi, hk]
    · have e : k + (i - k) = i := by omega
      have hlt : i - k < 32 := by omega
      simp only [BitVec.getLsbD_and, BitVec.getLsbD_shiftLeft, BitVec.getLsbD_allOnes, BitVec.getLsbD_ushiftRight, e]
      simp [hi, hk, hlt]
  have hle : v.toNat / 2 ^ k * 2 ^ k ≤ v.toNat := Nat.div_mul_le_self _ _
  rw [h, BitVec.toNat_shiftLeft, BitVec.toNat_ushiftRight, Nat.shiftLeft_eq, Nat.shiftRight_eq_div_pow,
    Nat.mod_eq_of_lt (by omega)]

/-- The value of RING_DISABLE: bit 0 is 0, the others are as written. -/
theorem toNat_and_not_one (v : Word) : (v &&& (~~~1 : Word)).toNat = v.toNat / 2 * 2 := by
  have h : (~~~1 : Word) = BitVec.allOnes 32 <<< 1 := by decide
  rw [h, toNat_and_shifted, Nat.pow_one]

/-- The value of RING_ENABLE: bit 0 is 1, the others are as written. -/
theorem toNat_or_one (v : Word) : (v ||| 1).toNat = v.toNat / 2 * 2 + 1 := by
  have hsplit : v.toNat = 2 ^ 1 * (v.toNat / 2) ||| v.toNat % 2 := by
    rw [← Nat.two_pow_add_eq_or_of_lt (Nat.mod_lt _ (by decide))]
    omega
  have hlow : v.toNat % 2 ||| 1 = 1 := by
    rcases Nat.mod_two_eq_zero_or_one v.toNat with h | h <;> rw [h] <;> rfl
  calc (v ||| 1).toNat = v.toNat ||| 1 := by simp
    _ = (2 ^ 1 * (v.toNat / 2) ||| v.toNat % 2) ||| 1 := by rw [← hsplit]
    _ = 2 ^ 1 * (v.toNat / 2) ||| 1 := by rw [Nat.or_assoc, hlow]
    _ = v.toNat / 2 * 2 + 1 := by rw [← Nat.two_pow_add_eq_or_of_lt (by decide), Nat.pow_one, Nat.mul_comm]

/-- The value of RING_RESUME on an enabled ring: bits 0 and 1 are 1, the others are as written. -/
theorem toNat_resume (v : Word) : ((v &&& (~~~3 : Word)) ||| 2).toNat + bit true = v.toNat / 4 * 4 + 3 := by
  have h : (~~~3 : Word) = BitVec.allOnes 32 <<< 2 := by decide
  have hor : v.toNat / 2 ^ 2 * 2 ^ 2 ||| 2 = v.toNat / 2 ^ 2 * 2 ^ 2 + 2 := by
    rw [Nat.mul_comm, ← Nat.two_pow_add_eq_or_of_lt (by decide)]
  have htwo : (2 : Word).toNat = 2 := rfl
  rw [BitVec.toNat_or, h, toNat_and_shifted, htwo, hor, bit]
  rfl

/-- What a written value `x` of a control register and the word `v` that it was made of have in common: the bits from 2 on. -/
structure SameControl (x v : Nat) : Prop where
  keep : bitOf x 2 = bitOf v 2
  vec : bitsOf x 15 8 = bitsOf v 15 8
  irqEn : bitOf x 16 = bitOf v 16

theorem SameControl.of_div {x v : Nat} (h : x / 4 = v / 4) : SameControl x v := by
  have hdiv : ∀ k, x / 2 ^ (k + 2) = v / 2 ^ (k + 2) := fun k => by
    rw [Nat.pow_add, Nat.mul_comm, ← Nat.div_div_eq_div_mul, ← Nat.div_div_eq_div_mul]
    exact congrArg (· / 2 ^ k) h
  exact ⟨by rw [bitOf, bitOf, hdiv 0], by rw [bitsOf, bitsOf, hdiv 6], by rw [bitOf, bitOf, hdiv 14]⟩

theorem sameControl_enable (v : Word) : SameControl (v ||| 1).toNat v.toNat := .of_div (by rw [toNat_or_one]; omega)
theorem sameControl_disable (v : Word) : SameControl (v &&& (~~~1 : Word)).toNat v.toNat :=
  .of_div (by rw [toNat_and_not_one]; omega)
theorem sameControl_resume (v : Word) : SameControl (((v &&& (~~~3 : Word)) ||| 2).toNat + bit true) v.toNat :=
  .of_div (by rw [toNat_resume]; omega)

theorem bitOf_enable (v : Word) : bitOf (v ||| 1).toNat 0 = true := by
  rw [toNat_or_one, bitOf, beq_iff_eq]
  omega

theorem bitOf_disable (v : Word) : bitOf (v &&& (~~~1 : Word)).toNat 0 = false := by
  rw [toNat_and_not_one, bitOf, beq_eq_false_iff_ne]
  omega

theorem bitOf_resume_enable (v : Word) : bitOf (((v &&& (~~~3 : Word)) ||| 2).toNat + bit true) 0 = true := by
  rw [toNat_resume, bitOf, beq_iff_eq]
  omega

theorem bitOf_resume (v : Word) : bitOf (((v &&& (~~~3 : Word)) ||| 2).toNat + bit true) 1 = true := by
  rw [toNat_resume, bitOf, beq_iff_eq]
  omega

/-! ### Doorbells -/

theorem doorbellsMoveTheirIndex : Claims.DoorbellsMoveTheirIndex := by
  intro p v s ha
  refine ⟨fun he hn => ?_, fun he hn => ?_, fun he => ?_⟩
  · have hi : doorbellIndex (s.pair p).log2 v.toNat = v.toNat % 65536 := by unfold doorbellIndex; omega
    have hc : (s.pair p).bellClamp v.toNat = s.pair p := if_neg (Nat.not_le.2 hn)
    exact ⟨acts_of_actFmp (f := fun s => s.sqDoorbell p v.toNat) rfl ha (by simp only [State.sqDoorbell, he, hi, hc, if_true]),
      acts_of_actFmp (f := fun s => s.cqDoorbell p v.toNat) rfl ha (by simp only [State.cqDoorbell, he, hi, hc, if_true])⟩
  · have hi : doorbellIndex (s.pair p).log2 v.toNat = 2 ^ (s.pair p).log2 - 1 := by unfold doorbellIndex; omega
    have hc : (s.pair p).bellClamp v.toNat =
        { s.pair p with dbClamp := true, clamps := satAdd 32 (s.pair p).clamps 1 } := if_pos hn
    exact ⟨acts_of_actFmp (f := fun s => s.sqDoorbell p v.toNat) rfl ha (by simp only [State.sqDoorbell, he, hi, hc, if_true]),
      acts_of_actFmp (f := fun s => s.cqDoorbell p v.toNat) rfl ha (by simp only [State.cqDoorbell, he, hi, hc, if_true])⟩
  · exact ⟨acts_of_actFmp (f := fun s => s.sqDoorbell p v.toNat) rfl ha (by simp [State.sqDoorbell, he]),
      acts_of_actFmp (f := fun s => s.cqDoorbell p v.toNat) rfl ha (by simp [State.cqDoorbell, he])⟩

/-! ### Held completions written in the order held -/

theorem State.pair_cqInterrupt_self (s : State) (p : Nat) (quiet : Bool) :
    ∃ n t, (s.cqInterrupt p quiet).pair p = { s.pair p with sinceIrq := n, firstAt := t } := by
  unfold State.cqInterrupt
  dsimp only
  split
  · exact ⟨_, _, rfl⟩
  · split
    · exact ⟨_, _, by rw [State.sendVector_pair, State.pair_setPair_self]⟩
    · exact ⟨_, _, State.pair_setPair_self ..⟩

theorem State.pair_cqWrite_self (s : State) (p : Nat) (x : Completion) :
    ∃ n t, (s.cqWrite p x).pair p = { s.pair p with
      cqTail := ((s.pair p).cqTail + 1) % 2 ^ (s.pair p).log2
      phase := if ((s.pair p).cqTail + 1) % 2 ^ (s.pair p).log2 = 0 then !(s.pair p).phase else (s.pair p).phase
      sinceIrq := n, firstAt := t } := by
  unfold State.cqWrite
  dsimp only
  obtain ⟨n, t, h⟩ := State.pair_cqInterrupt_self _ p x.quiet
  rw [h, State.cntCmd_pair, State.pair_setPair_self]
  exact ⟨n, t, rfl⟩

@[simp] theorem State.cqInterrupt_lossFt (s : State) (p : Nat) (quiet : Bool) :
    (s.cqInterrupt p quiet).cmd.lossFt = s.cmd.lossFt := by
  unfold State.cqInterrupt
  dsimp only
  split
  · rfl
  · split
    · rw [State.sendVector_cmd]
      rfl
    · rfl

@[simp] theorem State.cqWrite_lossFt (s : State) (p : Nat) (x : Completion) : (s.cqWrite p x).cmd.lossFt = s.cmd.lossFt := by
  unfold State.cqWrite
  rw [State.cqInterrupt_lossFt]
  rfl

/-- As many steps as completions are held write them all: the tail moves on by their number, the pair's state stays. -/
theorem State.cqDrain_all {n : Nat} {s : State} {p : Nat} (hn : (s.pair p).held.length = n) :
    ((s.cqDrain n p).pair p).held = [] ∧ ((s.cqDrain n p).pair p).state = (s.pair p).state ∧
      ((s.pair p).cqTail < 2 ^ (s.pair p).log2 →
        ((s.cqDrain n p).pair p).cqTail = ((s.pair p).cqTail + n) % 2 ^ (s.pair p).log2) ∧
      ((s.cqDrain n p).pair p).discard = (s.pair p).discard ∧ (s.cqDrain n p).cmd.lossFt = s.cmd.lossFt := by
  induction n generalizing s with
  | zero => exact ⟨List.length_eq_zero_iff.1 hn, rfl, fun ht => (Nat.mod_eq_of_lt ht).symm, rfl, rfl⟩
  | succ n ih =>
    obtain ⟨x, xs, hx⟩ : ∃ x xs, (s.pair p).held = x :: xs := List.exists_cons_of_length_eq_add_one hn
    obtain ⟨k, t, hw⟩ := State.pair_cqWrite_self (s.modPair p fun r => { r with held := xs }) p x
    rw [State.pair_modPair_self] at hw
    have hstep : s.cqDrain (n + 1) p = State.cqDrain n ((s.modPair p fun r => { r with held := xs }).cqWrite p x) p := by
      simp only [State.cqDrain, hx]
    have hlen : xs.length = n := by simpa [hx] using hn
    obtain ⟨hh, hs, hc, hd, hl⟩ := ih (s := (s.modPair p fun r => { r with held := xs }).cqWrite p x) (by rw [hw]; exact hlen)
    rw [hw] at hs hc hd
    rw [hstep]
    refine ⟨hh, hs, fun _ => ?_, hd, by rw [hl, State.cqWrite_lossFt]; rfl⟩
    rw [hc (Nat.mod_lt _ (Nat.two_pow_pos _)), Nat.mod_add_mod, Nat.add_assoc, Nat.add_comm 1 n]

/-! ### The states of a ring pair -/

@[simp] theorem State.setPair_modPair (s : State) (p : Nat) (f : RingPair → RingPair) (v : RingPair) :
    (s.modPair p f).setPair p v = s.setPair p v := by
  simp [State.modPair, State.setPair]

/-- A pair whose HOLD_KEEP has been written. -/
def State.withKeep (s : State) (p : Nat) (keep : Bool) : State := s.modPair p fun r => { r with holdKeep := keep }

@[simp] theorem State.pair_withKeep (s : State) (p : Nat) (keep : Bool) :
    (s.withKeep p keep).pair p = { s.pair p with holdKeep := keep } := State.pair_modPair_self ..

@[simp] theorem State.setPair_withKeep (s : State) (p : Nat) (keep : Bool) (v : RingPair) :
    (s.withKeep p keep).setPair p v = s.setPair p v := State.setPair_modPair ..

section
variable {s : State} {p x : Nat}

theorem State.ringCtrl_of_enable (he : (s.pair p).en = false) (h : bitOf x 0 = true) :
    s.ringCtrl p x = (s.withKeep p (bitOf x 2)).pairEnable p := by
  simp only [State.ringCtrl, he, h, Bool.not_false, Bool.and_self, if_true]
  rfl

theorem State.ringCtrl_of_disable (he : (s.pair p).en = true) (h : bitOf x 0 = false) :
    s.ringCtrl p x = (s.withKeep p (bitOf x 2)).pairDisable p := by
  simp only [State.ringCtrl, he, h, Bool.not_true, Bool.not_false, Bool.and_self, Bool.false_eq_true, if_false,
    if_true]
  rfl

theorem State.ringCtrl_of_resume (he : (s.pair p).en = true) (h : bitOf x 0 = true) (h1 : bitOf x 1 = true) :
    s.ringCtrl p x = (s.withKeep p (bitOf x 2)).pairResume p := by
  simp only [State.ringCtrl, he, h, h1, Bool.not_true, Bool.false_and, Bool.and_false, Bool.false_eq_true, if_false, if_true]
  rfl

end

theorem State.pairEnable_of_none_held {s : State} {p : Nat} (h : (s.pair p).held = []) :
    s.pairEnable p = s.setPair p { s.pair p with
      en := true, sqHead := 0, sqTail := 0, cqHead := 0, cqTail := 0, phase := true, state := .running, bells := []
      fetch := none } := by
  unfold State.pairEnable
  dsimp only
  split
  · rw [h]
    rfl
  · rw [if_pos (by rw [h]; rfl)]

theorem State.pairEnable_of_discard {s : State} {p : Nat} (h : (s.pair p).held ≠ []) (hk : (s.pair p).holdKeep = false) :
    s.pairEnable p = State.record (s.setPair p { s.pair p with
      en := true, sqHead := 0, sqTail := 0, cqHead := 0, cqTail := 0, phase := true, state := .running, bells := []
      fetch := none, held := [], discard := satAdd 32 (s.pair p).discard (s.pair p).held.length })
      0xB1 90 s.now64 [(1, p), (2, min 65535 (s.pair p).held.length)] := by
  unfold State.pairEnable
  dsimp only
  rw [hk, if_neg Bool.false_ne_true, if_neg (by simpa using h)]
  rfl

theorem State.pairEnable_of_keep {s : State} {p : Nat} (hk : (s.pair p).holdKeep = true) :
    s.pairEnable p = State.cqDrain (s.pair p).held.length (s.setPair p { s.pair p with
      en := true, sqHead := 0, sqTail := 0, cqHead := 0, cqTail := 0, phase := true, state := .running, bells := []
      fetch := none }) p := by
  unfold State.pairEnable
  dsimp only
  rw [hk, if_pos rfl]

theorem State.pairResume_of_stopped {s : State} {p : Nat} (hup : s.fmpUp = true) (h : (s.pair p).state = .stopped) :
    s.pairResume p = s.setPair p ((s.pair p).rebell s.clock) := by
  simp only [State.pairResume, hup, h, if_true]

theorem State.pairResume_of_suspended {s : State} {p : Nat} (hup : s.fmpUp = true) (h : (s.pair p).state = .suspended) :
    s.pairResume p = State.cqDrain (s.pair p).held.length
      (s.ringsRestored.setPair p ((s.ringsRestored.pair p).rebell s.ringsRestored.clock)) p := by
  simp only [State.pairResume, hup, h, if_true]

theorem State.pairResume_of_down {s : State} {p : Nat} (hup : s.fmpUp = false) : s.pairResume p = s := by
  simp [State.pairResume, hup]

theorem State.ringsRestored_of_none {s : State} (h : s.cmd.lossFt = none) : s.ringsRestored = s := by
  simp only [State.ringsRestored, h]

theorem State.Notes.lossFt {s t : State} (h : s.Notes t) : t.cmd.lossFt = s.cmd.lossFt := by
  obtain ⟨_, _, _, _, _, _, _, _, _, rfl⟩ := h
  rfl

/-- The loss is noted once (R330). -/
theorem State.ringsRestored_lossFt (s : State) : s.ringsRestored.cmd.lossFt = none := by
  unfold State.ringsRestored
  split
  case h_1 h => exact h
  case h_2 => exact (State.event_notes _ _ _ _ _).lossFt

theorem State.ringsRestored_pair (s : State) (p : Nat) : s.ringsRestored.pair p = s.pair p := by
  unfold State.ringsRestored
  split
  · rfl
  · exact (State.event_notes _ _ _ _ _).pair p

/-- RING_ENABLE writes HOLD_KEEP, and enables the pair. -/
theorem acts_ringEnable {p : Ring} {v : Word} {s : State} (ha : s.Alive) (he : (s.pair p).en = false) :
    Acts (.ringEnable p v) s fun s => (s.withKeep p (bitOf v.toNat 2)).pairEnable p :=
  acts_of_actFmp (f := fun s => s.ringCtrl p (v ||| 1).toNat) rfl ha (by
    rw [State.ringCtrl_of_enable he (bitOf_enable v), (sameControl_enable v).keep])

theorem acts_ringDisable {p : Ring} {v : Word} {s : State} (ha : s.Alive) (he : (s.pair p).en = true) :
    Acts (.ringDisable p v) s fun s => (s.withKeep p (bitOf v.toNat 2)).pairDisable p :=
  acts_of_actFmp (f := fun s => s.ringCtrl p (v &&& (~~~1 : Word)).toNat) rfl ha (by
    rw [State.ringCtrl_of_disable he (bitOf_disable v), (sameControl_disable v).keep])

/-- RING_RESUME on an enabled pair writes HOLD_KEEP, and resumes the pair. -/
theorem acts_ringResume {p : Ring} {v : Word} {s : State} (ha : s.Alive) (he : (s.pair p).en = true) :
    Acts (.ringResume p v) s fun s => (s.withKeep p (bitOf v.toNat 2)).pairResume p :=
  acts_of_actFmp (f := fun s => s.ringCtrl p (((v &&& (~~~3 : Word)) ||| 2).toNat + bit (s.pair p).en)) rfl ha (by
    rw [he, State.ringCtrl_of_resume he (bitOf_resume_enable v) (bitOf_resume v), (sameControl_resume v).keep])

theorem ringPairStates : Claims.RingPairStates := by
  intro p v s ha r keep fresh
  have hpair : (s.withKeep p keep).pair p = { r with holdKeep := keep } := State.pair_withKeep ..
  have hkeep : (s.withKeep p keep).fmpUp = s.fmpUp := rfl
  refine ⟨fun he hh => (acts_ringEnable ha he).congr ?_, fun he hh hk => ⟨_, acts_ringEnable ha he, ?_⟩,
    fun he hk => ⟨_, acts_ringEnable ha he, ?_⟩, fun he => (acts_ringDisable ha he).congr ?_,
    fun he hst hup => (acts_ringResume ha he).congr ?_, fun he hst hup hh hl => (acts_ringResume ha he).congr ?_,
    fun he hst hup hl => ⟨_, acts_ringResume ha he, ?_⟩, fun he hup => (acts_ringResume ha he).congr ?_⟩
  · rw [State.pairEnable_of_none_held (by rw [hpair]; exact hh), State.setPair_withKeep, hpair]
  · dsimp only
    rw [State.framed_pair, State.framed_devRing, State.pairEnable_of_discard (by rw [hpair]; exact hh) (by rw [hpair]; exact hk),
      (State.record_notes _ _ _ _ _).pair, State.record_seq, hpair, State.pair_setPair_self]
    exact ⟨rfl, rfl⟩
  · dsimp only
    rw [State.framed_pair, State.pairEnable_of_keep (by rw [hpair]; exact hk), State.setPair_withKeep, hpair]
    obtain ⟨hheld, hst, htail, hd, -⟩ := State.cqDrain_all (n := r.held.length) (p := p) (s := s.setPair p fresh)
      (by rw [State.pair_setPair_self])
    rw [State.pair_setPair_self] at hst htail hd
    exact ⟨hheld, hst, by rw [htail (Nat.two_pow_pos _), Nat.zero_add], hd⟩
  · rw [State.pairDisable, State.withKeep, State.modPair_modPair]
    rfl
  · rw [State.pairResume_of_stopped (hkeep.trans hup) (by rw [hpair]; exact hst), State.setPair_withKeep, hpair]
    rfl
  · rw [State.pairResume_of_suspended (hkeep.trans hup) (by rw [hpair]; exact hst), 
      State.ringsRestored_of_none (s := s.withKeep p keep) hl, State.setPair_withKeep,
      hpair, hh]
    rfl
  · dsimp only
    rw [State.framed_cmd, State.framed_pair, State.pairResume_of_suspended (hkeep.trans hup) (by rw [hpair]; exact hst),
      State.ringsRestored_pair, hpair]
    obtain ⟨hheld, hst, -, -, hloss⟩ := State.cqDrain_all (n := r.held.length) (p := p)
      (s := (s.withKeep p keep).ringsRestored.setPair p
        (RingPair.rebell { r with holdKeep := keep } (s.withKeep p keep).ringsRestored.clock)) (by
          rw [State.pair_setPair_self]; rfl)
    rw [State.pair_setPair_self] at hst
    exact ⟨hloss.trans (State.ringsRestored_lossFt _), hst, hheld⟩
  · rw [State.pairResume_of_down (hkeep.trans hup)]
    rfl

/-! ### The states of a device-written ring -/

/-- The control fields that a value of CMD_DR_CTRL sets. -/
def DevRing.controlled (r : DevRing) (w : Nat) : DevRing :=
  { r with holdKeep := bitOf w 2, vec := bitsOf w 15 8, irqEn := bitOf w 16 }

theorem SameControl.controlled {x w : Nat} (h : SameControl x w) (r : DevRing) : r.controlled x = r.controlled w := by
  rw [DevRing.controlled, h.keep, h.vec, h.irqEn, DevRing.controlled]

@[simp] theorem State.setDevRing_setDevRing (s : State) (d : Nat) (v w : DevRing) :
    (s.setDevRing d v).setDevRing d w = s.setDevRing d w := by
  simp [State.setDevRing]

section
variable {s : State} {d x : Nat}

theorem State.devCtrl_of_enable (he : (s.devRing d).en = false) (h : bitOf x 0 = true) :
    s.devCtrl d x = (s.setDevRing d ((s.devRing d).controlled x)).devEnable d := by
  simp only [State.devCtrl, he, h, Bool.not_false, Bool.and_self, if_true]
  rfl

theorem State.devCtrl_of_disable (he : (s.devRing d).en = true) (h : bitOf x 0 = false) :
    s.devCtrl d x = (s.setDevRing d ((s.devRing d).controlled x)).devDisable d := by
  simp only [State.devCtrl, he, h, Bool.not_true, Bool.not_false, Bool.and_self, Bool.false_eq_true, if_false, if_true]
  rfl

theorem State.devCtrl_of_resume (he : (s.devRing d).en = true) (h : bitOf x 0 = true) (h1 : bitOf x 1 = true) :
    s.devCtrl d x = (s.setDevRing d ((s.devRing d).controlled x)).devResume d := by
  simp only [State.devCtrl, he, h, h1, Bool.not_true, Bool.false_and, Bool.and_false, Bool.false_eq_true, if_false, if_true]
  rfl

theorem State.devEnable_of_none_held (h : (s.devRing d).held = []) :
    s.devEnable d = s.setDevRing d { s.devRing d with en := true, head := 0, tail := 0, phase := true, state := .running } := by
  unfold State.devEnable
  dsimp only
  rw [h]
  exact ite_self _

theorem State.devEnable_of_loss (h : (s.devRing d).held ≠ []) (hk : (s.devRing d).holdKeep = false) :
    s.devEnable d = (s.setDevRing d { s.devRing d with
      en := true, head := 0, tail := 0, phase := true, state := .running, held := [], lost := true
      lostCount := satAdd 32 (s.devRing d).lostCount (s.devRing d).held.length, lostBefore := true }).cntCmd 0xD4
        (s.devRing d).held.length := by
  unfold State.devEnable
  dsimp only
  rw [hk, if_neg Bool.false_ne_true, if_neg (by simpa using h)]

theorem State.devResume_of_suspended (hup : s.fmpUp = true) (hst : (s.devRing d).state = .suspended)
    (hl : s.cmd.lossFt = none) (hh : (s.devRing d).held = []) :
    s.devResume d = s.setDevRing d { s.devRing d with state := .running } := by
  unfold State.devResume
  rw [if_pos (by rw [hup, hst]; rfl), State.ringsRestored_of_none hl]
  have hn : (s.devRing d).held.length = 0 := by rw [hh]; rfl
  dsimp only
  rw [hn]
  rfl

theorem State.devResume_of_down (hup : s.fmpUp = false) : s.devResume d = s :=
  if_neg (by rw [hup, Bool.false_and]; exact Bool.false_ne_true)

end

section
variable {d : Fin 3} {v : Word} {s : State} (ha : s.Alive)
include ha

theorem acts_deviceRingEnable (he : (s.devRing d).en = false) : Acts (.deviceRingEnable d v) s fun s =>
    (s.setDevRing d ((s.devRing d).controlled v.toNat)).devEnable d :=
  acts_of_actFmp (f := fun s => s.devCtrl d (v ||| 1).toNat) rfl ha (by
    rw [State.devCtrl_of_enable he (bitOf_enable v), (sameControl_enable v).controlled])

theorem acts_deviceRingDisable (he : (s.devRing d).en = true) : Acts (.deviceRingDisable d v) s fun s =>
    (s.setDevRing d ((s.devRing d).controlled v.toNat)).devDisable d :=
  acts_of_actFmp (f := fun s => s.devCtrl d (v &&& (~~~1 : Word)).toNat) rfl ha (by
    rw [State.devCtrl_of_disable he (bitOf_disable v), (sameControl_disable v).controlled])

theorem acts_deviceRingResume (he : (s.devRing d).en = true) : Acts (.deviceRingResume d v) s fun s =>
    (s.setDevRing d ((s.devRing d).controlled v.toNat)).devResume d :=
  acts_of_actFmp (f := fun s => s.devCtrl d (((v &&& (~~~3 : Word)) ||| 2).toNat + bit (s.devRing d).en)) rfl ha (by
    rw [he, State.devCtrl_of_resume he (bitOf_resume_enable v) (bitOf_resume v), (sameControl_resume v).controlled])

end

theorem deviceRingStates : Claims.DeviceRingStates := by
  intro d v s ha r w ctl
  have hring : (s.setDevRing d (r.controlled w)).devRing d = r.controlled w := State.devRing_setDevRing_self ..
  have hup' : (s.setDevRing d (r.controlled w)).fmpUp = s.fmpUp := rfl
  refine ⟨fun he hh => (acts_deviceRingEnable ha he).congr ?_, fun he hk hh => ⟨_, acts_deviceRingEnable ha he, ?_⟩,
    fun he => (acts_deviceRingDisable ha he).congr ?_, fun he hst hup hl hh => (acts_deviceRingResume ha he).congr ?_,
    fun he hup => (acts_deviceRingResume ha he).congr ?_,
    fun hw hh => acts_of_actFmp (f := fun s => s.devHead d v.toNat) rfl ha ?_,
    fun hw hh => acts_of_actFmp (f := fun s => s.devHead d v.toNat) rfl ha ?_⟩
  · rw [State.devEnable_of_none_held (by rw [hring]; exact hh),
      State.setDevRing_setDevRing, hring]
    rfl
  · dsimp only
    rw [State.framed_devRing, State.framed_mgr, State.devEnable_of_loss (by rw [hring]; exact hh) (by rw [hring]; exact hk),
      State.cntCmd_devRing, State.devRing_setDevRing_self, hring]
    exact ⟨rfl, rfl, rfl, rfl, rfl⟩
  · rw [State.devDisable, State.modDevRing, State.setDevRing_setDevRing, hring]
    rfl
  · rw [State.devResume_of_suspended (hup'.trans hup) (by rw [hring]; exact hst) hl (by rw [hring]; exact hh),
      State.setDevRing_setDevRing,
      hring]
    rfl
  · rw [State.devResume_of_down (hup'.trans hup)]
    rfl
  · have hmin : min (v.toNat % 65536) (2 ^ (s.devRing d).log2 - 1) = v.toNat % 65536 := Nat.min_eq_left (Nat.le_sub_one_of_lt hw)
    have hclamp : decide (2 ^ (s.devRing d).log2 ≤ v.toNat % 65536) = false := decide_eq_false (Nat.not_le.2 hw)
    simp only [State.devHead, hh, hmin, hclamp, r, w]
    rfl
  · have hmin : min (v.toNat % 65536) (2 ^ (s.devRing d).log2 - 1) = 2 ^ (s.devRing d).log2 - 1 :=
      Nat.min_eq_right ((Nat.sub_le _ _).trans hw)
    have hclamp : decide (2 ^ (s.devRing d).log2 ≤ v.toNat % 65536) = true := decide_eq_true hw
    simp only [State.devHead, hh, hmin, hclamp, r]
    rfl

/-- Settles O22: the doorbells, the states of a ring pair, and those of a device-written ring. -/
theorem ringRegisters : Obligations.RingRegisters := by
  unfold Obligations.RingRegisters
  exact ⟨doorbellsMoveTheirIndex, ringPairStates, deviceRingStates⟩

end Sys2Proof.Machine
end

section
/-!
PROOFS. The start-up steps (R407, Table 16-2) and what the boot ROM runs (R412, R413, R416).
-/

namespace Sys2Proof.Machine

/-! ### What the frame leaves of GLB and of the memory -/

@[simp] theorem State.framed_glb (s u : State) : (s.framed u).glb = { u.glb with lastSummary := u.errSummary } := by
  obtain ⟨_, _, _, _, _, h, -⟩ := s.framed_parts u
  rw [h]

theorem State.framed_mem (s u : State) : ∃ chans, (s.framed u).mem = { u.mem with chans := chans } := by
  obtain ⟨_, _, c, _, _, h, -⟩ := s.framed_parts u
  exact ⟨c, by rw [h]⟩

/-! ### Readiness -/

/-- READY is GLB's alone. -/
theorem State.noteReady_writes (s : State) :
    ∃ ready at', s.noteReady = { s with glb := { s.glb with ready := ready, readyFt := at' } } := by
  unfold State.noteReady
  dsimp only
  split
  · exact ⟨_, _, rfl⟩
  · exact ⟨_, _, rfl⟩

/-- A start-up step whose turn has come. -/
theorem State.stepOnce_of_turn {s : State} {before done : Bool} (f : State → State) (hb : before = true) (hd : done = false) :
    s.stepOnce before done f = (f s).noteReady := by
  rw [State.stepOnce, hb, hd]
  rfl

theorem State.stepOnce_of_early {s : State} {before done : Bool} (f : State → State) (hb : before = false) :
    s.stepOnce before done f = s := by
  rw [State.stepOnce, hb]
  rfl

/-! ### A change of every entry of a table -/

/-- A fold that sets every key of a list to what has `P`, and no other key, leaves each of them with `P`. -/
theorem State.foldl_sets {β : Type} {P : β → Prop} {f : State → Nat → State} (get : State → Nat → β)
    (hself : ∀ s k, P (get (f s k) k)) (hne : ∀ s j k, k ≠ j → get (f s j) k = get s k) {k : Nat} (ks : List Nat) (s : State)
    (hk : k ∈ ks) : P (get (ks.foldl f s) k) := by
  induction ks using List.reverseRecOn with
  | nil => exact absurd hk List.not_mem_nil
  | append_singleton js j ih =>
    rw [List.foldl_append]
    by_cases hkj : k = j
    · exact hkj ▸ hself _ k
    · have hk' : k ∈ js := by simpa [hkj] using hk
      exact (hne _ j k hkj).symm ▸ ih hk'

/-- A change of the slices of a list. -/
def State.modSlices (s : State) (ks : List Nat) (f : SliceSt → SliceSt) : State := ks.foldl (fun s k => s.modSlice k f) s

/-- A change of the memory channels of a list. -/
def State.modChans (s : State) (ks : List Nat) (f : ChanSt → ChanSt) : State := ks.foldl (fun s k => s.modChan k f) s

theorem State.modSlices_writes (s : State) (ks : List Nat) (f : SliceSt → SliceSt) :
    ∃ slices, s.modSlices ks f = { s with home := { s.home with slices := slices } } := by
  refine List.foldlRecOn (motive := fun t => ∃ x, t = { s with home := { s.home with slices := x } }) _ _ ?_ ?_
  · exact ⟨_, rfl⟩
  · rintro _ ⟨x, rfl⟩ k -
    exact ⟨_, rfl⟩

theorem State.foldl_modChan_writes (s : State) (ks : List Nat) (f : State → ChanSt → ChanSt) :
    ∃ chans, ks.foldl (fun s k => s.modChan k (f s)) s = { s with mem := { s.mem with chans := chans } } := by
  refine List.foldlRecOn (motive := fun t => ∃ x, t = { s with mem := { s.mem with chans := x } }) _ _ ?_ ?_
  · exact ⟨_, rfl⟩
  · rintro _ ⟨x, rfl⟩ k -
    exact ⟨_, rfl⟩

theorem State.modChans_writes (s : State) (ks : List Nat) (f : ChanSt → ChanSt) :
    ∃ chans, s.modChans ks f = { s with mem := { s.mem with chans := chans } } := s.foldl_modChan_writes ks fun _ => f

theorem State.foldl_modEngine_writes (s : State) (ks : List Nat) (f : EngineSt → EngineSt) :
    ∃ engines, ks.foldl (fun s k => s.modEngine k f) s = { s with mse := { s.mse with engines := engines } } := by
  refine List.foldlRecOn (motive := fun t => ∃ x, t = { s with mse := { s.mse with engines := x } }) _ _ ?_ ?_
  · exact ⟨_, rfl⟩
  · rintro _ ⟨x, rfl⟩ k -
    exact ⟨_, rfl⟩

theorem State.slice_modSlices {P : SliceSt → Prop} {f : SliceSt → SliceSt} (hf : ∀ x, P (f x)) {k : Nat} {ks : List Nat}
    (s : State) (hk : k ∈ ks) : P ((s.modSlices ks f).slice k) :=
  State.foldl_sets State.slice (fun s k => by rw [State.slice_modSlice_self]; exact hf _)
    (fun s _ _ hk => State.slice_modSlice_ne s _ hk) ks s hk

theorem State.chan_modChans {P : ChanSt → Prop} {f : ChanSt → ChanSt} (hf : ∀ x, P (f x)) {k : Nat} {ks : List Nat}
    (s : State) (hk : k ∈ ks) : P ((s.modChans ks f).chan k) :=
  State.foldl_sets State.chan (fun s k => by rw [State.chan_modChan_self]; exact hf _)
    (fun s _ _ hk => State.chan_modChan_ne s _ hk) ks s hk

/-! ### The steps -/

/-- SRAM_SWEPT once the FTU runs (R240). -/
theorem State.startSram_eq {s : State} (hf : s.glb.ftuRun = true) (hs : s.glb.sramSwept = false) : ∃ ready at' slices,
    (∀ k, k < 16 → (tget {} slices k).running = true) ∧ s.startSram =
      { s with home := { s.home with slices := slices }
               glb := { s.glb with sramSwept := true, coreRun := true, homeRun := true, ready := ready, readyFt := at' } } := by
  obtain ⟨xs, hxs⟩ := s.modSlices_writes (List.range 16) fun x => { x with running := true }
  have hrun : ∀ k, k < 16 → (tget {} xs k).running = true := fun k hk => by
    have h := State.slice_modSlices (P := fun x => x.running = true) (f := fun x => { x with running := true })
      (fun _ => rfl) s (List.mem_range.2 hk)
    rwa [hxs] at h
  have hstart : s.startSram = State.noteReady
      { s.modSlices (List.range 16) fun x => { x with running := true } with
        glb := { (s.modSlices (List.range 16) fun x => { x with running := true }).glb with
          sramSwept := true, coreRun := true, homeRun := true } } := State.stepOnce_of_turn _ hf hs
  rw [hxs] at hstart
  obtain ⟨r, a, hr⟩ := State.noteReady_writes _
  exact ⟨r, a, xs, hrun, hstart.trans hr⟩

theorem exec_sramSwept {s : State} (h : s.held = none) (hf : s.glb.ftuRun = true) (hs : s.glb.sramSwept = false) :
    ∃ t, exec .sramSwept s = .next t ∧ t.glb.sramSwept = true ∧ t.glb.coreRun = true ∧ t.glb.homeRun = true ∧
      (∀ k, k < 16 → (t.slice k).running = true) ∧ t.mgr = s.mgr := by
  refine ⟨_, act_running h State.startSram, ?_⟩
  obtain ⟨r, a, xs, hrun, hstart⟩ := State.startSram_eq hf hs
  rw [State.framed_glb, State.framed_mgr, hstart]
  exact ⟨rfl, rfl, rfl, fun k hk => by rw [State.slice_framed]; exact hrun k hk, rfl⟩

/-- MEM_TRAINED once the FTU runs (R227). -/
theorem State.startTrained_eq {s : State} (hf : s.glb.ftuRun = true) (hm : s.glb.memTrained = false) : ∃ ready at' chans,
    (∀ k, k < 32 → (tget {} chans k).trained = true) ∧ s.startTrained =
      { s with mem := { s.mem with chans := chans, trained := true }
               glb := { s.glb with memTrained := true, ready := ready, readyFt := at' } } := by
  obtain ⟨xs, hxs⟩ := s.modChans_writes (List.range 32) fun x => { x with trained := true }
  have htrained : ∀ k, k < 32 → (tget {} xs k).trained = true := fun k hk => by
    have h := State.chan_modChans (P := fun x => x.trained = true) (f := fun x => { x with trained := true })
      (fun _ => rfl) s (List.mem_range.2 hk)
    rwa [hxs] at h
  have hstart : s.startTrained = State.noteReady
      { s.modChans (List.range 32) fun x => { x with trained := true } with
        glb := { (s.modChans (List.range 32) fun x => { x with trained := true }).glb with memTrained := true }
        mem := { (s.modChans (List.range 32) fun x => { x with trained := true }).mem with trained := true } } :=
    State.stepOnce_of_turn _ hf hm
  rw [hxs] at hstart
  obtain ⟨r, a, hr⟩ := State.noteReady_writes _
  exact ⟨r, a, xs, htrained, hstart.trans hr⟩

theorem exec_memTrained {s : State} (h : s.held = none) (hf : s.glb.ftuRun = true) (hm : s.glb.memTrained = false) :
    ∃ t, exec .memTrained s = .next t ∧ t.glb.memTrained = true ∧ t.mem.trained = true ∧
      (∀ k, k < 32 → (t.chan k).trained = true) ∧ t.mgr = s.mgr := by
  refine ⟨_, act_running h State.startTrained, ?_⟩
  obtain ⟨r, a, xs, htrained, hstart⟩ := State.startTrained_eq hf hm
  obtain ⟨c, hc⟩ := s.framed_mem s.startTrained
  rw [State.framed_glb, State.framed_mgr, hc, hstart]
  refine ⟨rfl, rfl, fun k hk => ?_, rfl⟩
  rw [State.chan_framed]
  exact htrained k hk

theorem State.loadFeeds_writes (s : State) (cfg : Tbl FeedCfg) :
    ∃ ppu, cfg.foldl (fun s x => s.modFeed x.1 x.2.load) s = { s with ppu := ppu } := by
  refine List.foldlRecOn (motive := fun t => ∃ x, t = { s with ppu := x }) _ _ ?_ ?_
  · exact ⟨_, rfl⟩
  · rintro _ ⟨x, rfl⟩ k -
    exact ⟨_, rfl⟩

/-- FMP_READY of a stored copy that passes its checks (R398, R409). -/
theorem State.startFmp_eq {s : State} (hm : s.msc.state = .running) (hf : s.glb.fmpReady = false) : ∃ ready at' ppu,
    s.startFmp {} = { s with mem := { s.mem with retire := s.msc.nor.retire, listLoaded := true }
                             prt := { s.prt with pbrDev := s.msc.nor.pbrDev }, ppu := ppu
                             glb := { s.glb with fmpReady := true, ready := ready, readyFt := at' } } := by
  obtain ⟨p, hp⟩ := State.loadFeeds_writes { s with mem := { s.mem with retire := s.msc.nor.retire } } s.msc.nor.feeds
  have hstart := State.stepOnce_of_turn (s := s) (before := s.msc.state == .running || s.msc.state == .recovery)
    (fun s =>
      let n := s.msc.nor
      let s := { s with mem := { s.mem with retire := n.retire } }
      let s := n.feeds.foldl (fun s x => s.modFeed x.1 x.2.load) s
      let s := { s with prt := { s.prt with pbrDev := n.pbrDev } }
      { s with glb := { s.glb with fmpReady := true }, mem := { s.mem with listLoaded := true } }) (by rw [hm]; rfl) hf
  dsimp only at hstart
  rw [hp] at hstart
  obtain ⟨r, a, hr⟩ := State.noteReady_writes _
  exact ⟨r, a, p, hstart.trans hr⟩

theorem exec_fmpReady {s : State} (h : s.held = none) (hm : s.msc.state = .running) (hf : s.glb.fmpReady = false) :
    ∃ t, exec (.fmpReady {}) s = .next t ∧ t.glb.fmpReady = true ∧ t.mem.retire = s.msc.nor.retire ∧
      t.prt.pbrDev = s.msc.nor.pbrDev ∧ t.mem.listLoaded = true := by
  refine ⟨_, act_running h fun s => s.startFmp {}, ?_⟩
  obtain ⟨r, a, p, hstart⟩ := State.startFmp_eq hm hf
  obtain ⟨c, hc⟩ := s.framed_mem (s.startFmp {})
  rw [State.framed_glb, State.framed_prt, hc, hstart]
  exact ⟨rfl, rfl, rfl, rfl⟩

/-- The engines run, on a part that has them. -/
theorem State.runEngines_writes (s : State) : ∃ mse,
    (if s.isF then (List.range 4).foldl (fun s k => s.modEngine k fun x => { x with running := true }) s else s) =
      { s with mse := mse } := by
  split
  · obtain ⟨_, h⟩ := s.foldl_modEngine_writes (List.range 4) fun x => { x with running := true }
    exact ⟨_, h⟩
  · exact ⟨s.mse, rfl⟩

/-- Powering the banks of a list of tiles writes lanes and banks. -/
theorem State.foldl_repower_writes (s : State) (ks : List Nat) :
    ∃ tiles lanes, ks.foldl (fun s t => s.repower t) s = { s with lnk := { s.lnk with tiles := tiles, lanes := lanes } } := by
  refine List.foldlRecOn
    (motive := fun u => ∃ tiles lanes, u = { s with lnk := { s.lnk with tiles := tiles, lanes := lanes } }) _ _ ?_ ?_
  · exact ⟨_, _, rfl⟩
  · rintro _ ⟨ts, ls, rfl⟩ k -
    by_cases h : State.bankOn { s with lnk := { s.lnk with tiles := ts, lanes := ls } } k =
        (State.tileLnk { s with lnk := { s.lnk with tiles := ts, lanes := ls } } k).powered
    · exact ⟨ts, ls, State.repower_of_same h⟩
    · obtain ⟨at', ls', h'⟩ := State.repower_of_other h
      exact ⟨_, ls', h'⟩

@[simp] theorem State.loadEq_eeprom (s : State) : s.loadEq.eeprom = s.eeprom := by
  have hfold : ∀ (ks : List Nat) (src : Nat → Bool) (bad : Nat → Nat) (u : State),
      (ks.foldl (fun s t => s.modTileLnk t fun x => { x with src := src t, badEntries := bad t }) u).eeprom = u.eeprom :=
    fun ks src bad u => State.foldl_keeps (f := fun s t => s.modTileLnk t fun x =>
      { x with src := src t, badEntries := bad t }) (·.eeprom) (fun _ _ => rfl) ks u
  unfold State.loadEq
  dsimp only
  split
  · rw [State.record_eeprom, hfold]
  · rw [hfold]

/-- EQ_LOADED once the FMP is ready (R54, R56). -/
theorem State.startEq_eq {s : State} (hf : s.glb.fmpReady = true) (he : s.glb.eqLoaded = false) : ∃ ready at' tiles lanes,
    s.startEq = { s.loadEq with lnk := { s.loadEq.lnk with tiles := tiles, lanes := lanes }
                                msc := { s.loadEq.msc with eqDigest := Config.sha3 s.loadEq.eeprom }
                                glb := { s.loadEq.glb with eqLoaded := true, ready := ready, readyFt := at' } } := by
  have hstart : s.startEq = State.noteReady _ := State.stepOnce_of_turn _ hf he
  obtain ⟨ts, ls, h⟩ := State.foldl_repower_writes { s.loadEq with
    glb := { s.loadEq.glb with eqLoaded := true }, msc := { s.loadEq.msc with eqDigest := Config.sha3 s.loadEq.eeprom } }
    (List.range (State.tileCount { s.loadEq with
      glb := { s.loadEq.glb with eqLoaded := true }, msc := { s.loadEq.msc with eqDigest := Config.sha3 s.loadEq.eeprom } }))
  obtain ⟨r, a, hr⟩ := State.noteReady_writes { s.loadEq with
    lnk := { s.loadEq.lnk with tiles := ts, lanes := ls }, glb := { s.loadEq.glb with eqLoaded := true }
    msc := { s.loadEq.msc with eqDigest := Config.sha3 s.loadEq.eeprom } }
  exact ⟨r, a, ts, ls, hstart.trans ((congrArg State.noteReady h).trans hr)⟩

theorem exec_eqLoaded {s : State} (h : s.held = none) (hf : s.glb.fmpReady = true) (he : s.glb.eqLoaded = false) :
    ∃ t, exec .eqLoaded s = .next t ∧ t.glb.eqLoaded = true ∧ t.lnk.eq = s.loadEq.lnk.eq ∧
      t.msc.eqDigest = Config.sha3 s.eeprom := by
  refine ⟨_, act_running h State.startEq, ?_⟩
  obtain ⟨r, a, ts, ls, hstart⟩ := State.startEq_eq hf he
  rw [State.framed_glb, State.framed_lnk, State.framed_msc, hstart]
  exact ⟨rfl, rfl, congrArg Config.sha3 s.loadEq_eeprom⟩

/-- PPU_RUN where no feed starts by itself (R398). -/
theorem State.startPpu_of_no_auto {s : State} (hf : s.glb.fmpReady = true) (hp : s.glb.ppuRun = false)
    (hauto : ∀ x ∈ s.ppu.feeds, x.2.auto = false) :
    s.startPpu = State.noteReady { s with glb := { s.glb with ppuRun := true } } := by
  have hstart : s.startPpu = State.noteReady _ := State.stepOnce_of_turn _ hf hp
  have hfold : ∀ u : State, s.ppu.feeds.foldl (fun s x => if x.2.auto then s.feedRequest x.1 else s) u = u := fun u =>
    List.foldlRecOn (motive := fun t => t = u) _ _ rfl fun t ht x hx => by
      rw [hauto x hx, if_neg Bool.false_ne_true]
      exact ht
  rw [hstart]
  exact congrArg State.noteReady (hfold _)

/-- MEM_SWEPT once the memory is trained, with no hard row (R238). -/
theorem State.startSwept_eq {s : State} (hf : s.glb.fmpReady = true) (ht : s.glb.memTrained = true)
    (hm : s.glb.memSwept = false) (hhard : ∀ x ∈ s.mem.retire, x.2.valid = true → x.2.hard = []) : ∃ ready at' chans mse,
    s.startSwept = { s with
      mem := { s.mem with chans := chans, swept := true, lines := [], fills := [] }, mse := mse
      glb := { s.glb with memSwept := true, mseRun := s.glb.mseRun || s.isF, ready := ready, readyFt := at' } } := by
  have hany : (s.mem.retire.any fun x => x.2.valid && x.2.hard != []) = false := by
    rw [List.any_eq_false]
    intro x hx
    cases hv : x.2.valid with
    | false => simp
    | true => simp [hhard x hx hv]
  have hstart : s.startSwept = State.noteReady _ := State.stepOnce_of_turn _ (by rw [hf, ht, hany]; rfl) hm
  obtain ⟨cs, hcs⟩ := s.foldl_modChan_writes (List.range 32) fun s x => { x with lapStart := s.clock, lastScrub := s.clock }
  obtain ⟨m, hmse⟩ := State.runEngines_writes { s with mem := { s.mem with chans := cs } }
  dsimp only at hstart
  rw [hcs, hmse] at hstart
  obtain ⟨r, a, hr⟩ := State.noteReady_writes _
  exact ⟨r, a, cs, m, hstart.trans hr⟩

theorem exec_memSwept {s : State} (h : s.held = none) (hf : s.glb.fmpReady = true) (ht : s.glb.memTrained = true)
    (hm : s.glb.memSwept = false) (hhard : ∀ x ∈ s.mem.retire, x.2.valid = true → x.2.hard = []) :
    ∃ t, exec .memSwept s = .next t ∧ t.glb.memSwept = true ∧ t.mem.lines = [] ∧ t.mem.fills = [] ∧
      (∀ k, t.line k = {}) ∧ (s.isF = true → t.glb.mseRun = true) := by
  refine ⟨_, act_running h State.startSwept, ?_⟩
  obtain ⟨r, a, cs, m, hstart⟩ := State.startSwept_eq hf ht hm hhard
  obtain ⟨c, hc⟩ := s.framed_mem s.startSwept
  rw [State.framed_glb, hc, hstart]
  exact ⟨rfl, rfl, rfl, fun k => by rw [State.line_framed]; rfl, fun hF => by simp [hF]⟩

theorem startUpStepsSetReadiness : Claims.StartUpStepsSetReadiness := by
  intro st s h
  refine ⟨fun hf => acts_of_act (f := State.startFtu) rfl h (State.stepOnce_of_turn _ rfl hf), exec_sramSwept h,
    exec_memTrained h, fun hf => ⟨acts_of_act (f := State.startSram) rfl h (State.stepOnce_of_early _ hf),
      acts_of_act (f := State.startTrained) rfl h (State.stepOnce_of_early _ hf)⟩, fun hm hf hst => hst ▸ exec_fmpReady h hm hf,
    exec_eqLoaded h, fun hf hp ha => acts_of_act (f := State.startPpu) rfl h (State.startPpu_of_no_auto hf hp ha),
    exec_memSwept h, fun hf => ⟨acts_of_act (f := State.startEq) rfl h (State.stepOnce_of_early _ hf),
      acts_of_act (f := State.startPpu) rfl h (State.stepOnce_of_early _ hf),
      acts_of_act (f := State.startSwept) rfl h (State.stepOnce_of_early _ (by rw [hf]; rfl))⟩⟩

/-! ### The boot ROM -/

/-- The MSC that runs the image of slot `b`. -/
def Msc.running (m : Msc) (b trial : Bool) : Msc :=
  { m with state := .running, runB := b, onTrial := trial, runDigest := imgDigest (m.nor.slot b)
           runVersion := imgVersion (m.nor.slot b), runSvn := imgSvn (m.nor.slot b)
           nor := if trial then m.nor else { m.nor with confirmedB := b } }

/-- An image that runs sets FW_VERIFIED (R412). -/
theorem State.runImage_writes (s : State) (b trial : Bool) : ∃ ready at', s.runImage b trial =
    { s with msc := s.msc.running b trial, glb := { s.glb with fwVerified := true, ready := ready, readyFt := at' } } :=
  State.noteReady_writes _

@[simp] theorem State.slotBad_msc (s : State) (b : Bool) (reason : Nat) :
    (s.slotBad b reason).msc = { s.msc with err := s.msc.err ||| 1 } := by
  rw [State.slotBad, State.record_msc]

@[simp] theorem State.slotBad_glb (s : State) (b : Bool) (reason : Nat) : (s.slotBad b reason).glb = s.glb := by
  rw [State.slotBad, State.record_glb]

@[simp] theorem State.slotReason_slotBad (s : State) (b : Bool) (reason : Nat) (x : Bool) :
    (s.slotBad b reason).slotReason x = s.slotReason x := by
  rw [State.slotReason, State.slotBad_msc, State.slotReason]

/-- The confirmed slot boots. -/
theorem State.bootConfirmed_of_good {s : State} (tried : Bool) (h : s.slotReason s.msc.nor.confirmedB = 0) :
    s.bootConfirmed tried = s.runImage s.msc.nor.confirmedB false := if_pos h

/-- The confirmed slot does not boot, and the other one does. -/
theorem State.bootConfirmed_of_other {s : State} (h : s.slotReason s.msc.nor.confirmedB ≠ 0)
    (h' : s.slotReason (!s.msc.nor.confirmedB) = 0) : s.bootConfirmed false =
      (s.slotBad s.msc.nor.confirmedB (s.slotReason s.msc.nor.confirmedB)).runImage (!s.msc.nor.confirmedB) false := by
  unfold State.bootConfirmed
  dsimp only
  rw [if_neg h, State.slotReason_slotBad, h']
  rfl

/-- Neither slot boots: recovery (R416). -/
theorem State.bootConfirmed_of_none {s : State} (h : s.slotReason s.msc.nor.confirmedB ≠ 0)
    (h' : s.slotReason (!s.msc.nor.confirmedB) ≠ 0) :
    (s.bootConfirmed false).msc = { s.msc with err := s.msc.err ||| 1 ||| 1, state := .recovery, onTrial := false } ∧
      (s.bootConfirmed false).glb = s.glb := by
  have hother : (!false && s.slotReason (!s.msc.nor.confirmedB) == 0) = false := by simpa using h'
  unfold State.bootConfirmed
  dsimp only
  rw [if_neg h, State.slotReason_slotBad, hother]
  simp

theorem State.boot_of_no_trial {s : State} (hr : s.msc.revert = none) (ht : s.msc.nor.trial = none) :
    s.boot = s.bootConfirmed false := by
  simp only [State.boot, hr, ht]

theorem State.boot_of_trial {s : State} {b : Bool} (hr : s.msc.revert = none) (ht : s.msc.nor.trial = some b)
    (h : s.slotReason b = 0) : s.boot = s.runImage b true := by
  simp only [State.boot, hr, ht, h, if_true]

theorem State.startFw_of_rom {s : State} (hf : s.glb.ftuRun = true) (hm : s.msc.state = .rom) : s.startFw = s.boot := by
  rw [State.startFw, hf, hm]
  rfl

theorem romBootsAVerifiedSlot : Claims.RomBootsAVerifiedSlot := by
  intro s h hf hm hr a
  have hexec : exec .fwVerified s = .next (s.framed s.boot) := by
    rw [← State.startFw_of_rom hf hm]
    exact act_running h State.startFw
  refine ⟨fun b ht hb => ⟨_, hexec, ?_⟩, fun ht ha => ⟨_, hexec, ?_⟩, fun ht ha hb => ⟨_, hexec, ?_⟩,
    fun ht ha hb => ⟨_, hexec, ?_⟩⟩
  · obtain ⟨r, at', hrun⟩ := s.runImage_writes b true
    rw [State.framed_msc, State.framed_glb, State.boot_of_trial hr ht hb, hrun]
    exact ⟨rfl, rfl, rfl, rfl, rfl⟩
  · obtain ⟨r, at', hrun⟩ := s.runImage_writes a false
    rw [State.framed_msc, State.framed_glb, State.boot_of_no_trial hr ht, State.bootConfirmed_of_good false ha, hrun]
    exact ⟨rfl, rfl, rfl, rfl, rfl, rfl, rfl⟩
  · obtain ⟨r, at', hrun⟩ := State.runImage_writes (s.slotBad a (s.slotReason a)) (!a) false
    rw [State.framed_msc, State.boot_of_no_trial hr ht, State.bootConfirmed_of_other ha hb, hrun, State.slotBad_msc]
    exact ⟨rfl, rfl, rfl, by simp [Msc.running]⟩
  · obtain ⟨hmsc, hglb⟩ := State.bootConfirmed_of_none ha hb
    rw [State.framed_msc, State.framed_glb, State.boot_of_no_trial hr ht, hmsc, hglb]
    exact ⟨rfl, rfl, rfl, by simp, rfl⟩

/-- Settles O28: each start-up step by what it writes, and the boot by the slots' reasons. -/
theorem startUpAndBoot : Obligations.StartUpAndBoot := by
  unfold Obligations.StartUpAndBoot
  exact ⟨startUpStepsSetReadiness, romBootsAVerifiedSlot⟩

end Sys2Proof.Machine
end

section
/-!
PROOFS. The firmware opcodes (R413, R414), identity (R419), and the MSC's restarts (R406, R415).
-/

namespace Sys2Proof.Machine

/-- A body that answers with a status and a RESULT. -/
theorem OpSpec.answersWith {o : OpSpec} {i : Instr} {c : Cmd} {s : State} {f : State → State} {st res : Nat} {cl : Option Nat}
    (hi : exec i s = act s (o.submit c)) (h : Instant o c s) (ht : o.taken c (s.accept c) = s.accept c)
    (hd : o.reads c (s.accept c) = [])
    (hb : o.body (c.ticket o.code s.ft) c (s.accept c) = { st := f (s.accept c), done := some (st, res), clamp := cl }) :
    Answers i o.code c s f st res cl := by
  rw [Answers, OpSpec.answers hi h ht hd hb]
  rfl

/-! ### Slots -/

@[simp] theorem Nor.slot_setSlot_self (n : Nor) (b : Bool) (t : Tbl Byte) : (n.setSlot b t).slot b = t := by
  cases b <;> rfl

@[simp] theorem Nor.slot_setSlot_other (n : Nor) (b : Bool) (t : Tbl Byte) : (n.setSlot b t).slot (!b) = n.slot (!b) := by
  cases b <;> rfl

/-- Bytes put from `a` on leave those before. -/
theorem tget_putBytes_before {t : Tbl Byte} {a k : Nat} {bs : List Byte} (h : k < a) :
    tget erasedByte (putBytes t a bs) k = tget erasedByte t k := by
  induction bs generalizing t a with
  | nil => rfl
  | cons b bs ih => rw [putBytes, ih (Nat.lt_succ_of_lt h), tget_tset_ne _ _ (Nat.ne_of_lt h)]

/-- What has been put is read back. -/
theorem tget_putBytes {t : Tbl Byte} {a k : Nat} {bs : List Byte} (h : k < bs.length) :
    tget erasedByte (putBytes t a bs) (a + k) = bs[k] := by
  induction bs generalizing t a k with
  | nil => exact absurd h (Nat.not_lt_zero k)
  | cons b bs ih =>
    rw [putBytes]
    cases k with
    | zero =>
      show tget erasedByte (putBytes (tset erasedByte t a b) (a + 1) bs) a = b
      rw [tget_putBytes_before (Nat.lt_add_one a), tget_tset_self]
    | succ k =>
      have e : a + (k + 1) = a + 1 + k := by omega
      rw [e, ih (by simpa using h), List.getElem_cons_succ]

/-- The sectors of `m` bytes from `off` that this staging has yet to erase (R413). -/
def Msc.freshSectors (z : Msc) (off m : Nat) : List Nat :=
  ((List.range ((off + m - 1) / 65536 + 1 - off / 65536)).map (off / 65536 + ·)).filter fun x => !z.erased.contains x

/-- FW_STAGE of `m` bytes at `src` into slot `b` from `off`. -/
def State.staged (s : State) (b : Bool) (off src m : Nat) : State :=
  { s with msc := { s.msc with
      nor := s.msc.nor.setSlot b (putBytes
        ((s.msc.nor.slot b).filter fun x => !(s.msc.freshSectors off m).contains (x.1 / 65536)) off (s.mgrRead src m))
      stagedValid := false, erased := s.msc.erased ++ s.msc.freshSectors off m } }

@[simp] theorem State.accept_inactiveSlot (s : State) (c : Cmd) : (s.accept c).inactiveSlot = s.inactiveSlot := by
  simp [State.inactiveSlot]

@[simp] theorem State.accept_slotReason (s : State) (c : Cmd) (b : Bool) : (s.accept c).slotReason b = s.slotReason b := by
  simp [State.slotReason]

@[simp] theorem State.accept_fwRunning (s : State) (c : Cmd) : (s.accept c).fwRunning = s.fwRunning := by
  simp [State.fwRunning]

@[simp] theorem State.accept_measurements (s : State) (c : Cmd) : (s.accept c).measurements = s.measurements := by
  simp [State.measurements]

/-! ### Staging and verifying -/

section
variable {c : Cmd} {s : State}

/-- FW_STAGE within the slot. -/
theorem completes_fwStage {b : Bool} (h : Instant opFwStage c s) (hb : s.inactiveSlot = some b)
    (hslot : c.le 24 4 + c.le 28 4 ≤ slotSize) (h1 : 1 ≤ c.le 28 4) (hmax : c.le 28 4 ≤ 1048576) :
    Completes (.fwStage c) 0xB0 c s (fun t => t.staged b (c.le 24 4) (c.le 16 8) (c.le 28 4)) (c.le 28 4) := by
  refine OpSpec.completes (o := opFwStage) rfl h rfl rfl ?_
  have hoff := Cmd.ranged_inside (c := c) (off := 24) (n := 4) (lo := 0) (hi := slotSize - 1) (Nat.zero_le _) (by omega)
  have hlen := Cmd.ranged_inside (c := c) (off := 28) (n := 4) h1 hmax
  have hm : min (c.le 28 4) (slotSize - c.le 24 4) = c.le 28 4 := Nat.min_eq_left (by omega)
  simp only [opFwStage, State.accept_inactiveSlot, hb, hoff, hlen, hm, Nat.lt_irrefl, if_false]
  rfl

theorem State.staged_byte (s : State) (b : Bool) (off src m : Nat) {k : Nat} (hk : k < m) :
    tget erasedByte ((s.staged b off src m).msc.nor.slot b) (off + k) = tget 0 s.mgr ((src + k) % 2 ^ 64) := by
  have hlen : k < (s.mgrRead src m).length := by simpa [State.mgrRead] using hk
  rw [State.staged, Nor.slot_setSlot_self, tget_putBytes hlen]
  simp [State.mgrRead]

theorem endsWith_fwStage_busy (h : Instant opFwStage c s) (hb : s.inactiveSlot = none) :
    EndsWith (.fwStage c) 0xB0 c s stBusy :=
  OpSpec.endsWith (o := opFwStage) rfl h rfl rfl (by simp only [opFwStage, State.accept_inactiveSlot, hb])

theorem endsWith_fwVerify_busy (h : Instant opFwVerify c s) (hb : s.inactiveSlot = none) :
    EndsWith (.fwVerify c) 0xB1 c s stBusy :=
  OpSpec.endsWith (o := opFwVerify) rfl h rfl rfl (by simp only [opFwVerify, State.accept_inactiveSlot, hb])

theorem completes_fwVerify {b : Bool} (h : Instant opFwVerify c s) (hb : s.inactiveSlot = some b) (hr : s.slotReason b = 0) :
    Completes (.fwVerify c) 0xB1 c s
      (fun t => { t with msc := { t.msc with lastReason := 0, stagedValid := true, erased := [] } })
      (imgSvn (s.msc.nor.slot b)) := by
  refine OpSpec.completes (o := opFwVerify) rfl h rfl rfl ?_
  simp only [opFwVerify, State.accept_inactiveSlot, hb, State.accept_slotReason, hr, State.accept_msc, if_true]
  rfl

theorem answers_fwVerify_denied {b : Bool} (h : Instant opFwVerify c s) (hb : s.inactiveSlot = some b)
    (hr : s.slotReason b ≠ 0) : Answers (.fwVerify c) 0xB1 c s
      (fun t => { t with msc := { t.msc with lastReason := s.slotReason b, stagedValid := false, erased := [] } })
      stDenied (s.slotReason b) := by
  refine OpSpec.answersWith (o := opFwVerify) rfl h rfl rfl ?_
  simp only [opFwVerify, State.accept_inactiveSlot, hb, State.accept_slotReason, hr, State.accept_msc, if_false]
  rfl

/-! ### Activating -/

theorem fwMode_of_le (hm : c.byte 16 ≤ 1) : c.ranged 16 1 0 1 = (c.byte 16, none) := Cmd.ranged_byte (Nat.zero_le _) hm

/-- FW_ACTIVATE mode 0 outside recovery puts the slot on trial by a restart. -/
theorem holds_fwActivate {b : Bool} (h : Instant opFwActivate c s) (hm : c.byte 16 = 0) (hrec : s.msc.state ≠ .recovery)
    (hb : s.inactiveSlot = some b) (hr : s.slotReason b = 0) :
    Holds (.fwActivate c) 0xB2 c s fun tk t => State.mscRestart { t with msc := { t.msc with
      nor := { t.msc.nor with trial := some b }, lastReason := 0, erased := [] } } 4 (some tk) := by
  refine OpSpec.holds (o := opFwActivate) rfl h rfl rfl ?_
  simp only [opFwActivate, fwMode_of_le (hm.le.trans zero_le_one), hm, State.accept_inactiveSlot, hb,
    State.accept_slotReason, hr, State.accept_msc, hrec, Nat.zero_ne_one, ne_eq, not_true_eq_false, if_false]
  rfl

/-- FW_ACTIVATE mode 0 in recovery boots the other slot at once (R416). -/
def State.bootDirect (s : State) (b : Bool) : State :=
  (State.runImage { s with msc := { s.msc with lastReason := 0, erased := [] } } b false).fwActivated

theorem completes_fwActivate_direct (h : Instant opFwActivate c s) (hm : c.byte 16 = 0) (hrec : s.msc.state = .recovery)
    (hr : s.slotReason (!s.msc.nor.confirmedB) = 0) :
    Completes (.fwActivate c) 0xB2 c s (fun t => t.bootDirect (!s.msc.nor.confirmedB))
      ((s.accept c).bootDirect (!s.msc.nor.confirmedB)).fwRunning := by
  have hb : s.inactiveSlot = some (!s.msc.nor.confirmedB) := by simp only [State.inactiveSlot, hrec]
  refine OpSpec.completes (o := opFwActivate) rfl h rfl rfl ?_
  simp only [opFwActivate, fwMode_of_le (hm.le.trans zero_le_one), hm, State.accept_inactiveSlot, hb,
    State.accept_slotReason, hr, State.accept_msc, hrec, Nat.zero_ne_one, ne_eq, not_true_eq_false, if_false, if_true,
    State.bootDirect]

theorem State.bootDirect_runs (s : State) (b : Bool) : (s.bootDirect b).msc.state = .running ∧ (s.bootDirect b).msc.runB = b ∧
    (s.bootDirect b).msc.onTrial = false ∧ (s.bootDirect b).glb.fwVerified = true := by
  obtain ⟨r, a, hrun⟩ := State.runImage_writes { s with msc := { s.msc with lastReason := 0, erased := [] } } b false
  rw [State.bootDirect, State.fwActivated, State.tally_msc, State.tally_glb, State.event_msc, State.event_glb, hrun]
  exact ⟨rfl, rfl, rfl, rfl⟩

theorem completes_fwActivate_confirm (h : Instant opFwActivate c s) (hm : c.byte 16 = 1) (ht : s.msc.onTrial = true) :
    Completes (.fwActivate c) 0xB2 c s
      (fun t => { t with msc := { t.msc with
        nor := { t.msc.nor with confirmedB := t.msc.runB, trial := none }, onTrial := false, stagedValid := false
        erased := [] } }) s.fwRunning := by
  refine OpSpec.completes (o := opFwActivate) rfl h rfl rfl ?_
  simp only [opFwActivate, fwMode_of_le hm.le, hm, State.accept_msc, ht, if_true, ← s.accept_fwRunning c]
  simp only [State.fwRunning, Reply.ok, State.accept_msc]

theorem endsWith_fwActivate_confirm (h : Instant opFwActivate c s) (hm : c.byte 16 = 1) (ht : s.msc.onTrial = false) :
    EndsWith (.fwActivate c) 0xB2 c s stDenied := by
  refine OpSpec.endsWith (o := opFwActivate) rfl h rfl rfl ?_
  simp only [opFwActivate, fwMode_of_le hm.le, hm, State.accept_msc, ht, if_true, Bool.false_eq_true, if_false]

/-! ### Queries and the rollback floor -/

theorem fwSelector_of_le (hm : c.byte 16 ≤ 4) : c.ranged 16 1 0 4 = (c.byte 16, none) := Cmd.ranged_byte (Nat.zero_le _) hm

theorem firmwareUpdateOpcodes : Claims.FirmwareUpdateOpcodes := by
  intro c b s
  refine ⟨fun h hb hslot h1 hmax => ⟨_, completes_fwStage h hb hslot h1 hmax, fun k hk => ?_, ?_, rfl, ?_⟩,
    endsWith_fwStage_busy, endsWith_fwVerify_busy, completes_fwVerify, answers_fwVerify_denied, holds_fwActivate,
    fun h hm hrec hr => ⟨_, completes_fwActivate_direct h hm hrec hr, State.bootDirect_runs _ _⟩,
    completes_fwActivate_confirm, endsWith_fwActivate_confirm,
    fun h hm => OpSpec.completes (o := opFwQuery) rfl h rfl rfl ?_,
    fun h hm => OpSpec.completes (o := opFwQuery) rfl h rfl rfl ?_,
    fun h hm hb => OpSpec.completes (o := opFwQuery) rfl h rfl rfl ?_,
    fun h ht hf => OpSpec.completes (o := opFwRollbackAdvance) rfl h rfl rfl ?_,
    fun h hno => OpSpec.endsWith (o := opFwRollbackAdvance) rfl h rfl rfl ?_⟩
  · rw [State.staged_byte _ _ _ _ _ hk, State.accept_mgr]
  · simp [State.staged]
  · simp [State.staged]
  · simp [opFwQuery, fwSelector_of_le (c := c) (by omega), hm]
  · simp [opFwQuery, fwSelector_of_le (c := c) (by omega), hm]
  · simp [opFwQuery, fwSelector_of_le (c := c) (by omega), hm, hb]
  · simp [opFwRollbackAdvance, ht, hf]
  · exact if_pos (by simpa using hno)

end

/-! ### The persistent store -/

/-- What a write of the store leaves: the sections' NOR copies and the changed ones alone are written. -/
theorem State.storeSection_writes (s : State) (sec : Nat) : ∃ feeds retire pbrDev, s.storeSection sec =
    { s with msc := { s.msc with nor := { s.msc.nor with feeds := feeds, retire := retire, pbrDev := pbrDev }
                                 dirty := s.msc.dirty.filter fun x => x.1 != sec } } := by
  unfold State.storeSection
  match sec with
  | 0 => exact ⟨_, _, _, rfl⟩
  | 1 => exact ⟨_, _, _, rfl⟩
  | _ + 2 => exact ⟨_, _, _, rfl⟩

theorem State.foldl_storeSection (xs : List (Nat × Nat)) (s : State) : ∃ feeds retire pbrDev,
    xs.foldl (fun s x => s.storeSection x.1) s =
      { s with msc := { s.msc with nor := { s.msc.nor with feeds := feeds, retire := retire, pbrDev := pbrDev }
                                   dirty := s.msc.dirty.filter fun y => xs.all fun x => y.1 != x.1 } } := by
  induction xs generalizing s with
  | nil =>
    have hd : (s.msc.dirty.filter fun y => ([] : List (Nat × Nat)).all fun x => y.1 != x.1) = s.msc.dirty := by simp
    exact ⟨s.msc.nor.feeds, s.msc.nor.retire, s.msc.nor.pbrDev, by rw [hd]; rfl⟩
  | cons x xs ih =>
    obtain ⟨f, r, p, h⟩ := s.storeSection_writes x.1
    obtain ⟨f', r', p', h'⟩ := ih (s.storeSection x.1)
    refine ⟨f', r', p', ?_⟩
    rw [List.foldl_cons, h', h]
    simp [List.filter_filter, Bool.and_comm]

/-- The whole store is written: nothing is left to write. -/
theorem State.storeWrite_clean (s : State) : ∃ feeds retire pbrDev, s.storeWrite =
    { s with msc := { s.msc with nor := { s.msc.nor with feeds := feeds, retire := retire, pbrDev := pbrDev }
                                 dirty := [] } } := by
  have hclean : (s.msc.dirty.filter fun y => s.msc.dirty.all fun x => y.1 != x.1) = [] := by
    rw [List.filter_eq_nil_iff]
    intro y hy h
    simpa using List.all_eq_true.1 h y hy
  obtain ⟨f, r, p, h⟩ := State.foldl_storeSection s.msc.dirty s
  exact ⟨f, r, p, by rw [State.storeWrite, h, hclean]⟩

theorem State.storeWrite_of_clean {s : State} (h : s.msc.dirty = []) : s.storeWrite = s := by
  rw [State.storeWrite, h]
  rfl

theorem State.storeWrite_pbr {s : State} (h : s.msc.dirty = [(2, s.clock)]) : s.storeWrite =
    { s with msc := { s.msc with nor := { s.msc.nor with pbrDev := s.prt.pbrDev }, dirty := [] } } := by
  simp [State.storeWrite, h, State.storeSection]

/-! ### Restarts -/

/-- A restart (R406): the store is written, sessions end, and the cause is counted. -/
theorem State.mscRestart_msc (s : State) (cause : Nat) (tk : Option Ticket) : ∃ feeds retire pbrDev,
    (s.mscRestart cause tk).msc = { s.msc with
      nor := { s.msc.nor with feeds := feeds, retire := retire, pbrDev := pbrDev }, dirty := []
      state := .restarting, restart := some (s.clock, tk), sessions := [] } ∧
    (s.mscRestart cause tk).glb = { s.glb with causeMsc := cause, mscCount := satAdd 16 s.glb.mscCount 1 } := by
  obtain ⟨f, r, p, h⟩ := s.storeWrite_clean
  refine ⟨f, r, p, ?_⟩
  rw [State.mscRestart, State.tally_msc, State.tally_glb, h]
  exact ⟨rfl, rfl⟩

/-- A trial that the watchdog ends is noted for the ROM (R413). -/
def State.trialEnded (s : State) : State :=
  if s.msc.onTrial then
    { s with msc := { s.msc with nor := { s.msc.nor with trial := none }, revert := some (s.msc.runB, 3), onTrial := false } }
  else s

theorem State.mscWatchdog_of_running {s : State} (h : s.msc.state = .running) : s.mscWatchdog =
    (State.trialEnded (State.record { s with msc := { s.msc with err := s.msc.err ||| 4 } } 0xA2 91 s.now64 [])).mscRestart
      5 none := if_pos h

theorem exec_mscWatchdog {s : State} (hs : s.held = none) (h : s.msc.state = .running) : ∃ t u : State,
    exec .mscWatchdog s = .next t ∧
      u = State.trialEnded (State.record { s with msc := { s.msc with err := s.msc.err ||| 4 } } 0xA2 91 s.now64 []) ∧
      t.msc = (u.mscRestart 5 none).msc ∧ t.glb.causeMsc = 5 ∧ t.glb.mscCount = satAdd 16 s.glb.mscCount 1 := by
  refine ⟨_, _, act_running hs State.mscWatchdog, rfl, ?_⟩
  have hglb : (State.trialEnded (State.record { s with msc := { s.msc with err := s.msc.err ||| 4 } } 0xA2 91 s.now64 [])).glb =
      s.glb := by
    unfold State.trialEnded
    split <;> simp
  rw [State.framed_msc, State.framed_glb, State.mscWatchdog_of_running h]
  obtain ⟨_, _, _, -, hg⟩ := State.mscRestart_msc
    (State.trialEnded (State.record { s with msc := { s.msc with err := s.msc.err ||| 4 } } 0xA2 91 s.now64 [])) 5 none
  rw [hg, hglb]
  exact ⟨rfl, rfl, rfl⟩

theorem exec_mscWatchdog_settled {s : State} (hs : s.held = none) (h : s.msc.state = .running) (ht : s.msc.onTrial = false) :
    ∃ t, exec .mscWatchdog s = .next t ∧ t.msc.state = .restarting ∧ t.glb.causeMsc = 5 ∧ t.msc.sessions = [] ∧
      t.msc.dirty = [] ∧ t.msc.err.getLsbD 2 = true ∧ t.glb.mscCount = satAdd 16 s.glb.mscCount 1 := by
  obtain ⟨t, u, hexec, hu, hmsc, hcause, hcount⟩ := exec_mscWatchdog hs h
  obtain ⟨f, r, p, hz, -⟩ := u.mscRestart_msc 5 none
  have hut : u.msc = { s.msc with err := s.msc.err ||| 4 } := by simp [hu, State.trialEnded, ht]
  refine ⟨t, hexec, ?_⟩
  rw [hmsc, hz, hut]
  exact ⟨rfl, hcause, rfl, rfl, by simp, hcount⟩

theorem exec_mscWatchdog_trial {s : State} (hs : s.held = none) (h : s.msc.state = .running) (ht : s.msc.onTrial = true) :
    ∃ t, exec .mscWatchdog s = .next t ∧ t.msc.state = .restarting ∧ t.msc.nor.trial = none ∧
      t.msc.revert = some (s.msc.runB, 3) := by
  obtain ⟨t, u, hexec, hu, hmsc, -, -⟩ := exec_mscWatchdog hs h
  obtain ⟨f, r, p, hz, -⟩ := u.mscRestart_msc 5 none
  have hut : u.msc = { s.msc with err := s.msc.err ||| 4, nor := { s.msc.nor with trial := none }
                                  revert := some (s.msc.runB, 3), onTrial := false } := by simp [hu, State.trialEnded, ht]
  refine ⟨t, hexec, ?_⟩
  rw [hmsc, hz, hut]
  exact ⟨rfl, rfl, rfl⟩

/-! ### The end of a restart -/

theorem State.Notes.heldReqs {s t : State} (h : s.Notes t) : t.fmp.heldReqs = s.fmp.heldReqs := by
  obtain ⟨_, _, _, _, _, _, _, _, _, rfl⟩ := h
  rfl

@[simp] theorem State.framed_heldReqs (s u : State) : (s.framed u).fmp.heldReqs = u.fmp.heldReqs := by
  obtain ⟨_, _, _, _, _, h, -⟩ := s.framed_parts u
  rw [h]

@[simp] theorem State.cqInterrupt_heldReqs (s : State) (p : Nat) (quiet : Bool) :
    (s.cqInterrupt p quiet).fmp.heldReqs = s.fmp.heldReqs := by
  unfold State.cqInterrupt
  dsimp only
  split
  · rfl
  · split
    · exact (State.sendVector_notes _ _).heldReqs
    · rfl

@[simp] theorem State.cqWrite_heldReqs (s : State) (p : Nat) (x : Completion) :
    (s.cqWrite p x).fmp.heldReqs = s.fmp.heldReqs := by
  rw [State.cqWrite, State.cqInterrupt_heldReqs]
  rfl

/-- The state in which a completion has noted its command's clamp. -/
def State.clampNoted (s : State) (tk : Ticket) : State :=
  match tk.clamp with | some off => s.noteClamp tk off | none => s

@[simp] theorem State.clampNoted_fmp (s : State) (tk : Ticket) : (s.clampNoted tk).fmp = s.fmp := by
  unfold State.clampNoted
  split
  · exact State.noteClamp_fmp ..
  · rfl

theorem State.clampNoted_inflight {s : State} {tk : Ticket} {p : Ring} (h : tk.src = .ring p) :
    ((s.clampNoted tk).pair p).inflight = (s.pair p).inflight := by
  unfold State.clampNoted
  split
  · simp [State.noteClamp, h]
  · rfl

theorem State.complete_of_side {s : State} {tk : Ticket} (st res : Nat) (h : tk.src = .side) :
    s.complete tk st res = s.clampNoted tk := by
  simp only [State.complete, h, State.clampNoted] <;> rfl

/-- A ring's completion is written or held, once its command no longer counts as in flight. -/
theorem State.complete_of_ring {s : State} {tk : Ticket} {p : Ring} (st res : Nat) (h : tk.src = .ring p) : ∃ x,
    s.complete tk st res = ((s.clampNoted tk).landing p).cqWrite p x ∨
      s.complete tk st res = ((s.clampNoted tk).landing p).modPair p fun r => { r with held := r.held ++ [x] } := by
  have hif : s.complete tk st res =
      if ((((s.clampNoted tk).landing p).pair p).state = .running ∨
          (((s.clampNoted tk).landing p).pair p).state = .stopped) ∧ (((s.clampNoted tk).landing p).pair p).held = [] then
        ((s.clampNoted tk).landing p).cqWrite p
          { tag := tk.tag, status := st, clamped := tk.clamp.isSome, late := tk.late, ft := tk.ft % 2 ^ 48
            result := BitVec.ofNat 32 res, quiet := tk.quiet }
      else ((s.clampNoted tk).landing p).modPair p fun r => { r with held := r.held ++
          [{ tag := tk.tag, status := st, clamped := tk.clamp.isSome, late := tk.late, ft := tk.ft % 2 ^ 48
             result := BitVec.ofNat 32 res, quiet := tk.quiet }] } := by
    simp only [State.complete, h] <;> rfl
  split at hif
  · exact ⟨_, .inl hif⟩
  · exact ⟨_, .inr hif⟩

@[simp] theorem State.complete_heldReqs (s : State) (tk : Ticket) (st res : Nat) :
    (s.complete tk st res).fmp.heldReqs = s.fmp.heldReqs := by
  cases h : tk.src with
  | side => rw [State.complete_of_side _ _ h, State.clampNoted_fmp]
  | ring p =>
    obtain ⟨x, hx | hx⟩ := State.complete_of_ring (s := s) st res h
    · rw [hx, State.cqWrite_heldReqs, State.landing, State.modPair_fmp, State.clampNoted_fmp]
    · rw [hx, State.modPair_fmp, State.landing, State.modPair_fmp, State.clampNoted_fmp]

/-- A completed command no longer counts as in flight, however its completion is delivered. -/
theorem State.complete_inflight {s : State} {tk : Ticket} {p : Ring} (st res : Nat) (h : tk.src = .ring p) :
    ((s.complete tk st res).pair p).inflight = (s.pair p).inflight - 1 := by
  obtain ⟨x, hx | hx⟩ := State.complete_of_ring (s := s) st res h
  · obtain ⟨n, t, hw⟩ := State.pair_cqWrite_self ((s.clampNoted tk).landing p) p x
    rw [hx, hw, State.pair_landing_self]
    exact congrArg (· - 1) (State.clampNoted_inflight h)
  · rw [hx, State.pair_modPair_self, State.pair_landing_self]
    exact congrArg (· - 1) (State.clampNoted_inflight h)

/-- The state in which the ROM boots at the end of a restart. -/
def State.restartOver (s : State) : State := { s with msc := { s.msc with restart := none } }

/-- The MSC returns to its confirmed slot, and the MSC_RESTART that waited completes. -/
theorem State.mscReturn_of_restart {s : State} {at16 : Nat} {tk : Ticket} (hst : s.msc.state = .restarting)
    (hr : s.msc.restart = some (at16, some tk)) (hop : tk.op = 0xB7) (hv : s.msc.revert = none)
    (ht : s.msc.nor.trial = none) (hslot : s.slotReason s.msc.nor.confirmedB = 0) : ∃ u : State,
    s.mscReturn = u.complete tk stOk 0 ∧ (∀ p, u.pair p = s.pair p) ∧ u.fmp.heldReqs = s.fmp.heldReqs ∧
      u.msc = Msc.running { s.msc with restart := none } s.msc.nor.confirmedB false := by
  have hboot : s.restartOver.boot = s.restartOver.runImage s.msc.nor.confirmedB false :=
    (State.boot_of_no_trial (s := s.restartOver) hv ht).trans (State.bootConfirmed_of_good (s := s.restartOver) false hslot)
  have hreturn : s.mscReturn = (s.restartOver.boot.event 0xA1 91 s.restartOver.boot.now64
      [(1, s.restartOver.boot.glb.causeMsc)]).complete tk stOk 0 := by
    simp only [State.mscReturn, hst, hr, hop, State.restartOver]
    exact if_neg (by decide)
  obtain ⟨r, a, hrun⟩ := s.restartOver.runImage_writes s.msc.nor.confirmedB false
  refine ⟨_, hreturn, fun p => ?_, ?_, ?_⟩
  · rw [(State.event_notes _ _ _ _ _).pair, hboot, hrun]
    rfl
  · rw [(State.event_notes _ _ _ _ _).heldReqs, hboot, hrun]
    rfl
  · rw [State.event_msc, hboot, hrun]
    rfl

theorem exec_mscReturned {s : State} {at16 : Nat} {tk : Ticket} (hs : s.held = none) (hst : s.msc.state = .restarting)
    (hr : s.msc.restart = some (at16, some tk)) (hop : tk.op = 0xB7) (hv : s.msc.revert = none)
    (ht : s.msc.nor.trial = none) (hslot : s.slotReason s.msc.nor.confirmedB = 0) (hq : s.fmp.heldReqs = []) :
    ∃ t, exec .mscReturned s = .next t ∧ t.msc.state = .running ∧ t.msc.restart = none ∧ t.fmp.heldReqs = [] ∧
      t.msc.runB = s.msc.nor.confirmedB ∧
      (∀ p, tk.src = .ring p → (t.pair p).inflight = (s.pair p).inflight - 1) := by
  obtain ⟨u, hu, hpair, hheld, hmsc⟩ := State.mscReturn_of_restart hst hr hop hv ht hslot
  have hreturn : s.mscReturned = { u.complete tk stOk 0 with fmp := { (u.complete tk stOk 0).fmp with heldReqs := [] } } := by
    have hnone : (u.complete tk stOk 0).fmp.heldReqs = [] := by rw [State.complete_heldReqs, hheld, hq]
    rw [State.mscReturned, if_neg (not_not_intro hst), hu]
    dsimp only
    rw [hnone]
    rfl
  refine ⟨_, act_running hs State.mscReturned, ?_⟩
  rw [State.framed_msc, State.framed_heldReqs, hreturn]
  dsimp only
  rw [State.complete_msc, hmsc]
  exact ⟨rfl, rfl, rfl, rfl, fun p hp => by
    rw [State.framed_pair, ← hpair p]
    exact State.complete_inflight _ _ hp⟩

/-! ### Identity -/

theorem certificateIndex_of_le {c : Cmd} (hk : c.byte 16 ≤ 2) : c.ranged 16 1 0 2 = (c.byte 16, none) :=
  Cmd.ranged_byte (Nat.zero_le _) hk

@[simp] theorem fitTo_length (n : Nat) (bs : List Byte) : (fitTo n bs).length = n := by
  simp [fitTo]

theorem completes_attestSign {c : Cmd} {s : State} (h : Instant opAttestSign c s) : ∃ sig : List Byte, sig.length = 2420 ∧
    Completes (.attestSign c) 0xB6 c s (fun t => t.mgrWrite (c.le 24 8) (s.measurements ++ sig))
      (s.measurements.length + 2420) := by
  refine ⟨fitTo 2420 (Config.aliasSign (Config.sha3
    ([0x4B, 0x52, 0x59, 0x2D, 0x41, 0x54, 0x54, 0x45, 0x53, 0x54] ++ s.mgrRead (c.le 16 8) 32 ++ s.measurements))),
    fitTo_length .., OpSpec.completes (o := opAttestSign) rfl h rfl rfl ?_⟩
  simp only [opAttestSign, State.accept_measurements, State.accept_mgrRead, List.length_append, fitTo_length]

theorem identityAndRestart : Claims.IdentityAndRestart := by
  intro c s
  refine ⟨fun h hk hlen => OpSpec.completes (o := opIdCertRead) rfl h rfl rfl ?_,
    fun h hk hlen => OpSpec.endsWith (o := opIdCertRead) rfl h rfl rfl ?_, completes_attestSign,
    fun h => OpSpec.holds (o := opMscRestart) rfl h rfl rfl rfl, exec_mscWatchdog_settled, exec_mscWatchdog_trial,
    fun at16 tk hs hst hr hop hv ht hslot hq => exec_mscReturned hs hst hr hop hv ht hslot hq,
    fun hs hst => acts_of_act (f := State.mscReturned) rfl hs (if_pos hst),
    fun hs hd => acts_of_act (f := State.storeWrite) rfl hs (State.storeWrite_of_clean hd),
    fun hs hd => acts_of_act (f := State.storeWrite) rfl hs (State.storeWrite_pbr hd)⟩
  · simp only [opIdCertRead, certificateIndex_of_le hk, if_neg (Nat.not_lt.2 hlen)]
  · simp only [opIdCertRead, certificateIndex_of_le hk, if_pos hlen]

/-- Settles O29: each firmware opcode by its body's branch, and the restarts by what the store and the ROM write. -/
theorem firmwareAndIdentity : Obligations.FirmwareAndIdentity := by
  unfold Obligations.FirmwareAndIdentity
  exact ⟨firmwareUpdateOpcodes, identityAndRestart⟩

end Sys2Proof.Machine
end

section
/-!
PROOFS. Requests of the fabric manager, of a switch's mailbox and of SPDM, and requests during a restart (R334 to R336, R415,
R418).
-/

namespace Sys2Proof.Machine

/-! ### Who is served -/

section
variable {q : MscReq} {s : State}

theorem State.request_of_running (hq : s.reachable q = true) (h : s.msc.state = .running) : s.request q = s.serve q := by
  simp only [State.request, hq, h, Bool.not_true, Bool.false_eq_true, if_false]

theorem State.request_of_restarting (hq : s.reachable q = true) (h : s.msc.state = .restarting) :
    s.request q = if s.canHold q then s.holdReq q else s := by
  simp only [State.request, hq, h, Bool.not_true, Bool.false_eq_true, if_false]

/-- In ROM and in recovery a request is discarded. -/
theorem State.request_of_no_firmware (hq : s.reachable q = true) (h : s.msc.state = .rom ∨ s.msc.state = .recovery) :
    s.request q = s := by
  rcases h with h | h <;> simp only [State.request, hq, h, Bool.not_true, Bool.false_eq_true, if_false]

/-- A request over MCTP has a place while fewer than eight wait (R334). -/
theorem State.canHold_of_mctp (hd : q.doe = none) : s.canHold q = decide (s.mctpHeld < 8) := by
  simp only [State.canHold, hd]

theorem State.reachable_of_mctp (ha : s.Alive) (hd : q.doe = none) : s.reachable q = true := by
  simp only [State.reachable, hd, ha.2]

/-- A request that reaches a running MSC is served. -/
theorem acts_of_request {i : Instr} {g : State → State} (hi : exec i s = act s fun s => s.request q) (h : s.held = none)
    (hq : s.reachable q = true) (hm : s.msc.state = .running) (hg : s.serve q = g s) : Acts i s g :=
  acts_of_act hi h ((State.request_of_running hq hm).trans hg)

end

theorem requestsWaitDuringARestart : Claims.RequestsWaitDuringARestart := by
  intro q s hq
  refine ⟨fun h hd hn => ?_, fun h hd hn => ?_, State.request_of_no_firmware hq, State.request_of_running hq⟩
  · rw [State.request_of_restarting hq h, State.canHold_of_mctp hd, if_pos (decide_eq_true hn)]
    rfl
  · rw [State.request_of_restarting hq h, State.canHold_of_mctp hd, if_neg (by simpa using hn)]

/-! ### The FM API -/

/-- Set Timestamp: the epoch makes up the difference to fabric time (R23). -/
theorem State.timestamp_setStamp (s : State) (v : BitVec 64) : (s.setStamp v).timestamp = v.toNat := by
  have hft : (s.setStamp v).ft = s.ft := rfl
  have hv := v.isLt
  rw [State.timestamp, hft]
  simp only [State.setStamp, BitVec.toNat_ofNat, BitVec.toNat_sub]
  omega

theorem exec_setTimestamp {v : BitVec 64} {s : State} (ha : s.Alive) (hm : s.msc.state = .running) :
    ∃ t, exec (.setTimestamp v) s = .next t ∧ t.timestamp = v.toNat ∧ t.clock = s.clock ∧ t.mgr = s.mgr := by
  have hacts : Acts (.setTimestamp v) s fun s => (s.setStamp v).fmSay 0x0301 .success [] :=
    acts_of_request (q := .setTimestamp v) rfl ha.1 (State.reachable_of_mctp ha rfl) hm rfl
  refine ⟨_, hacts, ?_, ?_, ?_⟩
  · rw [State.timestamp, State.ft, State.framed_clock, State.framed_ftu]
    exact s.timestamp_setStamp v
  · rw [State.framed_clock]
    rfl
  · rw [State.framed_mgr]
    rfl

theorem State.portControl_resetPpb {s : State} {fp : Byte} (hp : s.portExists (s.fmPort fp) = true)
    (he : (s.port (s.fmPort fp)).cfg.en = true) (hr : (s.port (s.fmPort fp)).cfg.role = 0) :
    s.portControl fp .resetPpb =
      (s.mctpPush 0x19 (sideCmd (s.fmPort fp) 0 []) []).emit (.fmReply 0x5102 .success []) := by
  simp only [State.portControl, hp, he, hr]
  rfl

theorem fmRequestsAreAnswered : Claims.FmRequestsAreAnswered := by
  intro n v fp page ld req s ha hm
  have hmctp : ∀ q : MscReq, q.doe = none → s.reachable q = true := fun q => State.reachable_of_mctp ha
  refine ⟨acts_of_request (q := .identify) rfl ha.1 (hmctp _ rfl) hm rfl,
    acts_of_request (q := .backgroundStatus) rfl ha.1 (hmctp _ rfl) hm rfl,
    acts_of_request (q := .getLimit) rfl ha.1 (hmctp _ rfl) hm rfl,
    fun h1 h2 => acts_of_request (q := .setLimit n) rfl ha.1 (hmctp _ rfl) hm ?_,
    acts_of_request (q := .getTimestamp) rfl ha.1 (hmctp _ rfl) hm rfl, exec_setTimestamp ha hm,
    acts_of_request (q := .switchDevice) rfl ha.1 (hmctp _ rfl) hm rfl,
    fun hp => acts_of_request (q := .portState fp) rfl ha.1 (hmctp _ rfl) hm (if_pos hp),
    fun hp => acts_of_request (q := .portState fp) rfl ha.1 (hmctp _ rfl) hm (if_neg (by simp [hp])),
    fun hp he hr => acts_of_request (q := .portControl fp .resetPpb) rfl ha.1 (hmctp _ rfl) hm
      (State.portControl_resetPpb hp he hr),
    acts_of_request (q := .portControl fp .assertPerst) rfl ha.1 (hmctp _ rfl) hm rfl,
    acts_of_request (q := .tunnel fp ld req) rfl ha.1 (hmctp _ rfl) hm rfl,
    fun h3 hp => acts_of_request (q := .page page) rfl ha.1 (hmctp _ rfl) hm (if_neg (by simp [hp, h3])),
    fun h3 => acts_of_request (q := .page page) rfl ha.1 (hmctp _ rfl) hm (if_pos (.inl h3)),
    acts_of_request (q := .control (some fp)) rfl ha.1 (hmctp _ rfl) hm rfl⟩
  have hclamp : clampNat 256 4096 n = n := by simp [clampNat, h1, h2]
  simp only [State.serve, hclamp]
  rfl

/-! ### The switch mailbox -/

/-- The mailbox of a port that presents a virtual switch answers. -/
theorem acts_of_vcsSay {i : Instr} {p : Port} {v op : Nat} {body : State → Vfi → List Byte} {s : State}
    (hi : exec i s = act s fun s => s.vcsSay p op body) (h : s.held = none) (hv : s.vcsOf p = some v) :
    Acts i s fun s => s.emit (.cciReply p op .success (body s (Fin.ofNat 256 v))) :=
  acts_of_act hi h (by simp only [State.vcsSay, hv])

theorem mailboxAnswersItsSwitch : Claims.MailboxAnswersItsSwitch := by
  intro p v s h hv
  exact ⟨acts_of_vcsSay (body := fun s _ => s.identityBody) rfl h hv,
    acts_of_vcsSay (body := fun _ _ => Config.cciBody 0x0002 [0]) rfl h hv,
    acts_of_vcsSay (body := fun _ _ => Config.cciBody 0x0003 [1024]) rfl h hv,
    acts_of_vcsSay (body := fun s _ => Config.cciBody 0x0300 [s.timestamp]) rfl h hv,
    acts_of_vcsSay (body := fun s _ => Config.cciBody 0x5100 (s.vcsFields p)) rfl h hv,
    acts_of_vcsSay (body := fun s _ => Config.cciBody 0x5200 (s.vcsFields p)) rfl h hv⟩

/-! ### SPDM -/

section
variable {s : State} {via : SpdmVia} {req : List Byte}

theorem State.finishSession_of_open (hF : s.isF = true) (ho : s.msc.sessions.contains via = true) :
    s.finishSession via req = s.emit (.spdm via 0x65 (Config.spdmBody 0x65 req)) := by
  rw [State.finishSession, hF, ho]
  rfl

theorem State.finishSession_of_none (ho : s.msc.sessions.contains via = false) :
    s.finishSession via req = s.emit (.spdmError via) := by
  rw [State.finishSession, ho, Bool.and_false]
  rfl

theorem State.endSession_of_open (hF : s.isF = true) (ho : s.msc.sessions.contains via = true) : s.endSession via req =
    State.emit { s with msc := { s.msc with sessions := s.msc.sessions.erase via } }
      (.spdm via 0x6C (Config.spdmBody 0x6C req)) := by
  rw [State.endSession, hF, ho]
  rfl

theorem State.endSession_of_none (ho : s.msc.sessions.contains via = false) :
    s.endSession via req = s.emit (.spdmError via) := by
  rw [State.endSession, ho, Bool.and_false]
  rfl

end

theorem spdmRequestsAreAnswered : Claims.SpdmRequestsAreAnswered := by
  intro via req s h hm hq
  exact ⟨acts_of_request (q := .spdm via .version req) rfl h (hq _) hm rfl,
    acts_of_request (q := .spdm via .capabilities req) rfl h (hq _) hm rfl,
    acts_of_request (q := .spdm via .algorithms req) rfl h (hq _) hm rfl,
    acts_of_request (q := .spdm via .digests req) rfl h (hq _) hm rfl,
    acts_of_request (q := .spdm via .certificate req) rfl h (hq _) hm rfl,
    acts_of_request (q := .spdm via .challenge req) rfl h (hq _) hm rfl,
    acts_of_request (q := .spdm via .measurements req) rfl h (hq _) hm rfl,
    fun hF => acts_of_request (q := .spdm via .keyExchange req) rfl h (hq _) hm (if_pos hF),
    fun hF => acts_of_request (q := .spdm via .keyExchange req) rfl h (hq _) hm (if_neg (by simp [hF])),
    fun hF ho => ⟨acts_of_request (q := .spdm via .finish req) rfl h (hq _) hm (State.finishSession_of_open hF ho),
      acts_of_request (q := .spdm via .endSession req) rfl h (hq _) hm (State.endSession_of_open hF ho)⟩,
    fun ho => ⟨acts_of_request (q := .spdm via .finish req) rfl h (hq _) hm (State.finishSession_of_none ho),
      acts_of_request (q := .spdm via .endSession req) rfl h (hq _) hm (State.endSession_of_none ho)⟩⟩

/-- Settles O30: who is served, and each request's answer. -/
theorem managementMessagesAreAnswered : Obligations.ManagementMessagesAreAnswered := by
  unfold Obligations.ManagementMessagesAreAnswered
  exact ⟨fmRequestsAreAnswered, requestsWaitDuringARestart, mailboxAnswersItsSwitch, spdmRequestsAreAnswered⟩

end Sys2Proof.Machine
end

section
/-!
PROOFS. The feed channels: the rules of the operations on a channel (chapter 15), and the trips (R383 to R388).
-/

namespace Sys2Proof.Machine

/-! ### What leaves the channels as they are -/

theorem State.feed_of_ppu {s t : State} (h : t.ppu = s.ppu) (k : Nat) : t.feed k = s.feed k := by
  rw [State.feed, State.feed, h]

section
variable (s : State) (k : Nat)

@[simp] theorem State.feed_event (kind island t64 : Nat) (fields : List (Nat × Nat)) :
    (s.event kind island t64 fields).feed k = s.feed k := State.feed_of_ppu (s.event_ppu ..) k

@[simp] theorem State.feed_record (cause island t64 : Nat) (fields : List (Nat × Nat)) :
    (s.record cause island t64 fields).feed k = s.feed k := State.feed_of_ppu (s.record_ppu ..) k

@[simp] theorem State.feed_tally (i n : Nat) : (s.tally i n).feed k = s.feed k := State.feed_of_ppu (s.tally_ppu ..) k

@[simp] theorem State.feed_complete (tk : Ticket) (status result : Nat) : (s.complete tk status result).feed k = s.feed k :=
  State.feed_of_ppu (s.complete_ppu ..) k

@[simp] theorem State.feed_cntPpu (code x : Nat) : (s.cntPpu code x).feed k = s.feed k := rfl

@[simp] theorem State.feed_emit (o : Output) : (s.emit o).feed k = s.feed k := rfl

@[simp] theorem State.feed_flag (e : BitVec 6) : ({ s with ppu := { s.ppu with err := e } } : State).feed k = s.feed k := rfl

@[simp] theorem State.link_flag (e : BitVec 6) : ({ s with ppu := { s.ppu with err := e } } : State).link k = s.link k := rfl

@[simp] theorem State.feed_modLink (c : Nat) (f : ShelfLink → ShelfLink) : (s.modLink c f).feed k = s.feed k := rfl

@[simp] theorem State.feed_modPort (p : Nat) (f : PortSt → PortSt) : (s.modPort p f).feed k = s.feed k := rfl

@[simp] theorem State.link_modFeed (c : Nat) (f : Feed → Feed) : (s.modFeed c f).link k = s.link k := rfl

@[simp] theorem State.link_setFeed (c : Nat) (f : Feed) : (s.setFeed c f).link k = s.link k := rfl

@[simp] theorem State.link_tally (i n : Nat) : (s.tally i n).link k = s.link k := by
  rw [State.link, State.link, State.tally_lnk]

@[simp] theorem State.link_cntPpu (code x : Nat) : (s.cntPpu code x).link k = s.link k := rfl

@[simp] theorem State.modFeed_err (f : Feed → Feed) : (s.modFeed k f).ppu.err = s.ppu.err := rfl

@[simp] theorem State.framed_ppu (u : State) : (s.framed u).ppu = u.ppu := by
  obtain ⟨_, _, _, _, _, hu, -⟩ := State.framed_parts s u
  rw [hu]

@[simp] theorem State.feed_framed (u : State) : (s.framed u).feed k = u.feed k := State.feed_of_ppu (s.framed_ppu u) k

end

/-! ### A channel changes state -/

section
variable (s : State) (c : Nat) (st : FeedState) (trip : Nat)

theorem State.feedTo_same (h : (s.feed c).state = st) : s.feedTo c st trip = s := if_pos h

theorem State.feedTo_of_ne (h : (s.feed c).state ≠ st) : s.feedTo c st trip =
    (s.modFeed c fun f => { f with state := st, readyAt := none }).event 0x90 92 s.now64
      [(1, c), (1, st.code), (1, trip)] := by
  cases st <;> exact if_neg h

theorem State.feed_feedTo (h : (s.feed c).state ≠ st) :
    (s.feedTo c st trip).feed c = { s.feed c with state := st, readyAt := none } := by
  rw [State.feedTo_of_ne _ _ _ _ h, State.feed_event, State.feed_modFeed_self]

@[simp] theorem State.feedTo_state : ((s.feedTo c st trip).feed c).state = st := by
  by_cases h : (s.feed c).state = st
  · rw [State.feedTo_same _ _ _ _ h, h]
  · rw [State.feed_feedTo _ _ _ _ h]

theorem State.feed_feedTo_ne {k : Nat} (h : k ≠ c) : (s.feedTo c st trip).feed k = s.feed k := by
  by_cases hst : (s.feed c).state = st
  · rw [State.feedTo_same _ _ _ _ hst]
  · rw [State.feedTo_of_ne _ _ _ _ hst, State.feed_event, State.feed_modFeed_ne _ _ h]

@[simp] theorem State.link_feedTo (k : Nat) : (s.feedTo c st trip).link k = s.link k := by
  by_cases hst : (s.feed c).state = st
  · rw [State.feedTo_same _ _ _ _ hst]
  · rw [State.feedTo_of_ne _ _ _ _ hst, State.link_event, State.link_modFeed]

@[simp] theorem State.feedTo_clock : (s.feedTo c st trip).clock = s.clock := by
  by_cases hst : (s.feed c).state = st
  · rw [State.feedTo_same _ _ _ _ hst]
  · rw [State.feedTo_of_ne _ _ _ _ hst, State.event_clock]
    rfl

@[simp] theorem State.feedTo_err : (s.feedTo c st trip).ppu.err = s.ppu.err := by
  by_cases hst : (s.feed c).state = st
  · rw [State.feedTo_same _ _ _ _ hst]
  · rw [State.feedTo_of_ne _ _ _ _ hst, State.event_ppu, State.modFeed_err]

end

/-! ### The gate of a channel on which nothing waits -/

/-- No removal is scheduled, no SHELF_WAKE and no SHELF_SLEEP waits, and the shelf link is OFF. -/
structure State.Quiet (s : State) (c : Nat) : Prop where
  removal : (s.feed c).removal = none
  wake : (s.feed c).wake = []
  sleep : (s.feed c).sleep = []
  link : (s.link c).state = .off

section
variable {s : State} {c : Nat}

theorem State.slOff_of_off (h : (s.link c).state = .off) : s.slOff c = s := if_pos h

theorem State.removalDone_of_none (h : (s.feed c).removal = none) : s.removalDone c = s := by
  rw [State.removalDone, h]

/-- The state with the gate off, before the queue of the shelf link is cleared. -/
def State.gateDark (s : State) (c : Nat) (st : FeedState) (trip : Nat) : State :=
  ((s.feedTo c st trip).modFeed c fun f => { f with inLimit := false, limSince := none, outSince := none }).emit
    (.gate (Fin.ofNat 64 c) false)

theorem State.feed_gateDark {st : FeedState} {trip : Nat} (h : (s.feed c).state ≠ st) : (s.gateDark c st trip).feed c =
    { s.feed c with state := st, readyAt := none, inLimit := false, limSince := none, outSince := none } := by
  rw [State.gateDark, State.feed_emit, State.feed_modFeed_self, State.feed_feedTo _ _ _ _ h]

theorem State.gateOff_of_quiet (hq : s.Quiet c) {st : FeedState} {trip : Nat} (h : (s.feed c).state ≠ st) :
    s.gateOff c st trip = (((s.gateDark c st trip).modFeed c fun f => { f with wake := [] }).modFeed c
      fun f => { f with sleep := [] }).modLink c fun l => { l with queue := [], warns := [] } := by
  have hoff : ((s.gateDark c st trip).link c).state = .off := by
    rw [State.gateDark, State.link_emit, State.link_modFeed, State.link_feedTo, hq.link]
  have hfeed := State.feed_gateDark (trip := trip) h
  have hdone : ((s.gateDark c st trip).slOff c).removalDone c = s.gateDark c st trip := by
    rw [State.slOff_of_off hoff, State.removalDone_of_none (by rw [hfeed, hq.removal])]
  unfold State.gateOff
  dsimp only
  rw [show State.emit _ _ = s.gateDark c st trip from rfl, hdone,
    show ((s.gateDark c st trip).feed c).wake = [] by rw [hfeed, hq.wake], List.foldl_nil,
    State.feed_modFeed_self, show ((s.gateDark c st trip).feed c).sleep = [] by rw [hfeed, hq.sleep], List.foldl_nil]

variable {st : FeedState} {trip : Nat}

theorem State.feed_gateOff (hq : s.Quiet c) (h : (s.feed c).state ≠ st) : (s.gateOff c st trip).feed c =
    { s.feed c with state := st, readyAt := none, inLimit := false, limSince := none, outSince := none } := by
  rw [State.gateOff_of_quiet hq h, State.feed_modLink, State.feed_modFeed_self, State.feed_modFeed_self,
    State.feed_gateDark h, ← hq.wake, ← hq.sleep]

theorem State.feed_gateOff_ne (hq : s.Quiet c) (h : (s.feed c).state ≠ st) {k : Nat} (hk : k ≠ c) :
    (s.gateOff c st trip).feed k = s.feed k := by
  rw [State.gateOff_of_quiet hq h, State.feed_modLink, State.feed_modFeed_ne _ _ hk, State.feed_modFeed_ne _ _ hk,
    State.gateDark, State.feed_emit, State.feed_modFeed_ne _ _ hk, State.feed_feedTo_ne _ _ _ _ hk]

theorem State.gateOff_err (hq : s.Quiet c) (h : (s.feed c).state ≠ st) : (s.gateOff c st trip).ppu.err = s.ppu.err := by
  rw [State.gateOff_of_quiet hq h, State.modLink_ppu, State.modFeed_err, State.modFeed_err, State.gateDark,
    State.emit_ppu, State.modFeed_err, State.feedTo_err]

end

/-- A driven channel is in RAMP or ON. -/
theorem Feed.driven_iff (f : Feed) : f.driven = true ↔ f.state = .ramp ∨ f.state = .on := by
  simp [Feed.driven]

theorem Feed.state_ne_of_driven {f : Feed} {st : FeedState} (h : f.driven = true) (hr : st ≠ .ramp) (ho : st ≠ .on) :
    f.state ≠ st := by
  rintro rfl
  rcases (Feed.driven_iff f).1 h with h | h <;> contradiction

/-! ### A latched channel is recorded -/

section
variable (s : State) (c cause : Nat)

theorem State.feed_latchRecord : (s.latchRecord c cause).feed c = { s.feed c with latchCause := cause } := by
  rw [State.latchRecord, State.feed_record, State.feed_tally, State.feed_flag, State.feed_modFeed_self]

theorem State.feed_latchRecord_ne {k : Nat} (h : k ≠ c) : (s.latchRecord c cause).feed k = s.feed k := by
  rw [State.latchRecord, State.feed_record, State.feed_tally, State.feed_flag, State.feed_modFeed_ne _ _ h]

theorem State.latchRecord_err : (s.latchRecord c cause).ppu.err = s.ppu.err ||| 2 := by
  rw [State.latchRecord, State.record_ppu, State.tally_ppu]
  rfl

end

/-! ### What a trip does -/

/-- The channel's counts and cooldown of a trip (R387). -/
def Feed.tripped (f : Feed) (kind now : Nat) : Feed :=
  { f with trips := min 15 (f.trips + 1), lastTrip := kind, tripsTotal := satAdd 32 f.tripsTotal 1
           coolUntil := now + cooldown16 (f.limitTime now), limTime := f.limitTime now }

/-- The trip has been counted, flagged and recorded; the gate is not yet off. -/
def State.tripNoted (s : State) (c kind milliamps : Nat) : State :=
  let f := s.feed c
  let lim := f.limitTime s.clock
  let s := s.setFeed c { f with trips := min 15 (f.trips + 1), lastTrip := kind, tripsTotal := satAdd 32 f.tripsTotal 1
                                coolUntil := s.clock + cooldown16 lim, limTime := lim }
  let s := (({ s with ppu := { s.ppu with err := s.ppu.err ||| 1 } }).tally 8).cntPpu 0xE1
  s.record 0x80 92 s.now64 [(1, c), (1, kind), (2, milliamps), (1, f.trips + 1), (2, cooldownMs lim)]

section
variable {s : State} {c : Nat} (kind ma : Nat)

theorem State.feed_tripNoted : (s.tripNoted c kind ma).feed c = (s.feed c).tripped kind s.clock := by
  rw [State.tripNoted, State.feed_record, State.feed_cntPpu, State.feed_tally, State.feed_flag, State.feed_setFeed_self]
  rfl

theorem State.feed_tripNoted_ne {k : Nat} (h : k ≠ c) : (s.tripNoted c kind ma).feed k = s.feed k := by
  rw [State.tripNoted, State.feed_record, State.feed_cntPpu, State.feed_tally, State.feed_flag, State.feed_setFeed_ne _ _ h]

theorem State.tripNoted_err : (s.tripNoted c kind ma).ppu.err = s.ppu.err ||| 1 := by
  rw [State.tripNoted, State.record_ppu, State.cntPpu_ppu, State.tally_ppu]
  rfl

theorem State.tripNoted_quiet (hq : s.Quiet c) : (s.tripNoted c kind ma).Quiet c where
  removal := by rw [State.feed_tripNoted]; exact hq.removal
  wake := by rw [State.feed_tripNoted]; exact hq.wake
  sleep := by rw [State.feed_tripNoted]; exact hq.sleep
  link := by
    rw [State.tripNoted, State.link_record, State.link_cntPpu, State.link_tally, State.link_flag, State.link_setFeed]
    exact hq.link

variable (s c) in
theorem State.feedTrip_of_driven (h : (s.feed c).driven = true) : s.feedTrip c kind ma =
    if (s.feed c).tripMax ≤ (s.feed c).trips + 1 then ((s.tripNoted c kind ma).gateOff c .latched kind).latchRecord c 1
    else (s.tripNoted c kind ma).gateOff c .cooldown kind := by
  unfold State.feedTrip
  dsimp only
  rw [h, show State.record _ _ _ _ _ = s.tripNoted c kind ma from rfl, if_neg (by decide)]
  by_cases hmax : (s.feed c).tripMax ≤ (s.feed c).trips + 1
  · simp only [hmax, decide_true, if_true]
  · simp only [hmax, decide_false, Bool.false_eq_true, if_false]

variable (hq : s.Quiet c) (hd : (s.feed c).driven = true)

include hd in
/-- A channel with its gate driven is in neither of the states that a trip ends in. -/
theorem State.tripNoted_state_ne {st : FeedState} (hr : st ≠ .ramp) (ho : st ≠ .on) :
    ((s.tripNoted c kind ma).feed c).state ≠ st := by
  rw [State.feed_tripNoted]
  exact Feed.state_ne_of_driven (f := s.feed c) hd hr ho

include hq hd

theorem State.feed_feedTrip_latched (hmax : (s.feed c).tripMax ≤ (s.feed c).trips + 1) : (s.feedTrip c kind ma).feed c =
    { (s.feed c).tripped kind s.clock with
        state := .latched, readyAt := none, inLimit := false, limSince := none, outSince := none, latchCause := 1 } := by
  rw [State.feedTrip_of_driven s c kind ma hd, if_pos hmax, State.feed_latchRecord,
    State.feed_gateOff (State.tripNoted_quiet kind ma hq) (State.tripNoted_state_ne kind ma hd (by decide) (by decide)),
    State.feed_tripNoted]

theorem State.feed_feedTrip_cooling (hmax : ¬ (s.feed c).tripMax ≤ (s.feed c).trips + 1) : (s.feedTrip c kind ma).feed c =
    { (s.feed c).tripped kind s.clock with
        state := .cooldown, readyAt := none, inLimit := false, limSince := none, outSince := none } := by
  rw [State.feedTrip_of_driven s c kind ma hd, if_neg hmax,
    State.feed_gateOff (State.tripNoted_quiet kind ma hq) (State.tripNoted_state_ne kind ma hd (by decide) (by decide)),
    State.feed_tripNoted]

theorem State.feed_feedTrip_ne {k : Nat} (hk : k ≠ c) : (s.feedTrip c kind ma).feed k = s.feed k := by
  have hn := State.tripNoted_quiet kind ma hq
  have hne {st : FeedState} := State.tripNoted_state_ne (st := st) kind ma hd
  rw [State.feedTrip_of_driven s c kind ma hd]
  split
  · rw [State.feed_latchRecord_ne _ _ _ hk, State.feed_gateOff_ne hn (hne (by decide) (by decide)) hk,
      State.feed_tripNoted_ne _ _ hk]
  · rw [State.feed_gateOff_ne hn (hne (by decide) (by decide)) hk, State.feed_tripNoted_ne _ _ hk]

/-- A trip is flagged in PPU_ERR. -/
theorem State.feedTrip_flags : (s.feedTrip c kind ma).ppu.err.getLsbD 0 = true := by
  have hn := State.tripNoted_quiet kind ma hq
  have hne {st : FeedState} := State.tripNoted_state_ne (st := st) kind ma hd
  rw [State.feedTrip_of_driven s c kind ma hd]
  split
  · rw [State.latchRecord_err, State.gateOff_err hn (hne (by decide) (by decide)), State.tripNoted_err]
    simp
  · rw [State.gateOff_err hn (hne (by decide) (by decide)), State.tripNoted_err]
    simp

end

theorem tripCoolsDownOrLatches : Claims.TripCoolsDownOrLatches := by
  intro g kind ma s hd hr hw hsl hl f t
  have hq : s.Quiet g := ⟨hr, hw, hsl, hl⟩
  have hrest := And.intro (State.feedTrip_flags kind ma hq hd) fun h => State.feed_feedTrip_ne kind ma hq hd (k := h)
  by_cases hmax : f.tripMax ≤ f.trips + 1
  · have htf : t.feed g = _ := State.feed_feedTrip_latched kind ma hq hd hmax
    rw [htf, if_pos hmax]
    exact ⟨rfl, rfl, rfl, rfl, rfl, fun _ => rfl, hrest⟩
  · have htf : t.feed g = _ := State.feed_feedTrip_cooling kind ma hq hd hmax
    rw [htf, if_neg hmax]
    exact ⟨rfl, rfl, rfl, rfl, rfl, fun h => absurd h hmax, hrest⟩

/-! ### The conditions of the trips -/

section
variable {s : State} {c : Nat}

theorem State.tstartOut_iff : s.tstartOut c = true ↔
    (s.feed c).state = .ramp ∧ ms16 (s.feed c).tstart ≤ (s.feed c).limitTime s.clock := by
  simp [State.tstartOut]

theorem State.trunOut_iff : s.trunOut c = true ↔
    (s.feed c).state = .on ∧ us16 (100 * (s.feed c).trun) ≤ (s.feed c).runTimer s.clock := by
  simp [State.trunOut]

/-- An output that is low before TRUN has run out trips with kind 4. -/
theorem State.outputLow_of_low (hon : (s.feed c).state = .on) (ho : (s.feed c).voutOpen = false) (hv : (s.feed c).vout < 10000)
    (hs : 10800 ≤ (s.feed c).senp) (ht : (s.feed c).runTimer s.clock < us16 (100 * (s.feed c).trun)) :
    s.outputLow c = s.feedTrip c 4 (s.feed c).milliamps.toNat := by
  have hno : s.trunOut c ≠ true := fun h => absurd (State.trunOut_iff.1 h).2 (by omega)
  rw [State.outputLow, if_pos ⟨hon, ho, hv, hs⟩, if_neg hno]

/-- A ramp that takes too long before TSTART has run out trips with kind 5. -/
theorem State.rampTimeout_of_late (hr : (s.feed c).state = .ramp)
    (hl : (s.feed c).rampAt + ms16 (4 * (s.feed c).rampMs + (s.feed c).tstart) ≤ s.clock)
    (ht : (s.feed c).limitTime s.clock < ms16 (s.feed c).tstart) :
    s.rampTimeout c = s.feedTrip c 5 (s.feed c).milliamps.toNat := by
  have hno : s.tstartOut c ≠ true := fun h => absurd (State.tstartOut_iff.1 h).2 (by omega)
  rw [State.rampTimeout, if_pos ⟨hr, hl⟩, if_neg hno]

end

theorem feedTripConditions : Claims.FeedTripConditions := by
  intro g ma s h f
  refine ⟨fun hd hm => acts_of_act (f := fun s => s.fastComparator g ma) rfl h (if_pos ⟨hd, hm⟩),
    fun hm => acts_of_act (f := fun s => s.fastComparator g ma) rfl h (if_neg fun hc => absurd hc.2 (Nat.not_le.2 hm)),
    fun hr ht => acts_of_act (f := fun s => s.tstartExpiry g) rfl h (if_pos (State.tstartOut_iff.2 ⟨hr, ht⟩)),
    fun hr => acts_of_act (f := fun s => s.tstartExpiry g) rfl h (if_neg fun hc => hr (State.tstartOut_iff.1 hc).1),
    fun ho ht => acts_of_act (f := fun s => s.trunExpiry g) rfl h (if_pos (State.trunOut_iff.2 ⟨ho, ht⟩)),
    fun ho => acts_of_act (f := fun s => s.trunExpiry g) rfl h (if_neg fun hc => ho (State.trunOut_iff.1 hc).1),
    fun ho hvo hv hs ht => acts_of_act (f := fun s => s.outputLow g) rfl h (State.outputLow_of_low ho hvo hv hs ht),
    fun hv => acts_of_act (f := fun s => s.outputLow g) rfl h (if_neg fun ⟨_, _, hlow, _⟩ => Nat.not_le.2 hlow hv),
    fun hr hl ht => acts_of_act (f := fun s => s.rampTimeout g) rfl h (State.rampTimeout_of_late hr hl ht),
    fun ho ht => acts_of_act (f := fun s => s.episodeEnd g) rfl h (if_pos ⟨ho, ht⟩)⟩

/-- Settles O32: each trip by the branch that names it, and what a trip does by the rules of a gate that goes off on a channel
where nothing waits. -/
theorem feedTrips : Obligations.FeedTrips := by
  unfold Obligations.FeedTrips
  exact ⟨feedTripConditions, tripCoolsDownOrLatches⟩

end Sys2Proof.Machine
end

section
/-!
PROOFS. The feed opcodes (Table 15-9).
-/

namespace Sys2Proof.Machine

/-! ### A request for the feed -/

/-- Only the instant since when the channel is ready may change. -/
theorem State.noteWait_eq (s : State) (c : Nat) :
    s.noteWait c = s ∨ ∃ r, s.noteWait c = s.modFeed c fun f => { f with readyAt := r } := by
  unfold State.noteWait
  dsimp only
  split
  · split
    · exact .inl rfl
    · exact .inr ⟨_, rfl⟩
  · split
    · exact .inl rfl
    · exact .inr ⟨_, rfl⟩

section
variable (s : State) (c k : Nat)

theorem State.feed_noteWait : ∃ r, (s.noteWait c).feed c = { s.feed c with readyAt := r } := by
  obtain h | ⟨r, h⟩ := s.noteWait_eq c
  · exact ⟨(s.feed c).readyAt, by rw [h]⟩
  · exact ⟨r, by rw [h, State.feed_modFeed_self]⟩

@[simp] theorem State.noteWait_onReq : ((s.noteWait c).feed c).onReq = (s.feed c).onReq := by
  obtain ⟨r, h⟩ := s.feed_noteWait c
  rw [h]

@[simp] theorem State.link_noteWait : (s.noteWait c).link k = s.link k := by
  obtain h | ⟨r, h⟩ := s.noteWait_eq c <;> rw [h]
  rfl

/-- A removal that is dropped leaves the next SEQ of the shelf link. -/
theorem State.dropRemoval_txSeq : ((s.dropRemoval c).link c).txSeq = (s.link c).txSeq := by
  have hclear : ((((s.modFeed c fun f => { f with removal := none }).slWarnClear c 2)).link c).txSeq = (s.link c).txSeq := by
    rw [State.slWarnClear, State.link_modLink_self, State.link_modFeed]
  unfold State.dropRemoval
  split
  · rfl
  · dsimp only
    split
    · rw [State.link_complete, hclear]
    · exact hclear

theorem State.feedRequest_txSeq : ((s.feedRequest c).link c).txSeq = (s.link c).txSeq := by
  rw [State.feedRequest, State.link_noteWait]
  split
  · rw [State.link_feedTo, State.link_modFeed, State.dropRemoval_txSeq]
  · rw [State.link_modFeed, State.dropRemoval_txSeq]

theorem State.feedRequest_onReq : ((s.feedRequest c).feed c).onReq = true := by
  have hreq : ∀ t : State, ((t.modFeed c fun f => { f with onReq := true }).feed c).onReq = true := fun t => by
    rw [State.feed_modFeed_self]
  rw [State.feedRequest, State.noteWait_onReq]
  split
  next hoff => rw [State.feed_feedTo _ _ _ _ (by rw [hoff]; decide), hreq]
  next => exact hreq _

/-- Frames on the shelf link leave the channels. -/
@[simp] theorem State.feed_slQueue (kind : Nat) (payload : List Byte) : (s.slQueue c kind payload).feed k = s.feed k := by
  unfold State.slQueue
  dsimp only
  split <;> rfl

end

/-! ### Readings of a channel -/

section
variable {s t : State} (hp : t.ppu = s.ppu) (hc : t.clock = s.clock) (c : Nat)
include hp hc

theorem State.unmet_congr : t.unmet c = s.unmet c := by
  dsimp only [State.unmet]
  rw [State.feed_of_ppu hp, hp, hc]

/-- The status of a channel reads the feeds, the warning and the clock alone. -/
theorem State.feedStatus_congr : t.feedStatus c = s.feedStatus c := by
  dsimp only [State.feedStatus, State.waitReason]
  rw [State.feed_of_ppu hp, State.unmet_congr hp hc]

end

@[simp] theorem State.accept_feedStatus (s : State) (c : Cmd) (k : Nat) : (s.accept c).feedStatus k = s.feedStatus k :=
  State.feedStatus_congr (s.accept_ppu c) (s.accept_clock c) k

@[simp] theorem State.accept_coolLeft (s : State) (c : Cmd) (k : Nat) : (s.accept c).coolLeft k = s.coolLeft k := by
  rw [State.coolLeft, State.accept_feed, State.accept_clock, State.coolLeft]

/-! ### The opcodes -/

/-- The settings of FEED_CFG (Table 15-9). -/
def Feed.withCfg (f : Feed) (c : Cmd) : Feed :=
  { f with ilim := c.le 16 2, rampMs := c.byte 18, tstart := c.byte 19, tripMax := c.byte 22, auto := bitOf (c.byte 23) 0
           trun := c.le 20 2 }

section
variable {c : Cmd} {l : Launch} {s : State}

theorem partSet_of_ring {p : Ring} (h : c.src = .ring p) (i : Nat) : partSet c i = true := by
  rw [partSet, h]

theorem opFeedSet_on (ht : c.target ≤ 63) (h1 : c.byte 16 = 1) (hl : c.le 18 2 ≤ 60000) (tk : Ticket) :
    opFeedSet.body tk c s = .ok (s.feedRequest c.target) ((s.feedRequest c.target).feedStatus c.target) := by
  have hv : c.ranged 16 1 0 1 = (1, none) := by rw [Cmd.ranged_byte (Nat.zero_le _) h1.le, h1]
  simp only [opFeedSet, targetCage_of_le ht, targetClamp_of_le ht, hv, Cmd.ranged_inside (Nat.zero_le _) hl, if_true,
    minClamp_none_left]

theorem opFeedSet_off (ht : c.target ≤ 63) (h0 : c.byte 16 = 0) (hl : c.le 18 2 = 0) (tk : Ticket) :
    opFeedSet.body tk c s = .ok (s.feedOff c.target) ((s.feedOff c.target).feedStatus c.target) := by
  have hv : c.ranged 16 1 0 1 = (0, none) := by rw [Cmd.ranged_byte (Nat.zero_le _) (by omega), h0]
  have hlead : c.ranged 18 2 0 60000 = (0, none) := by rw [Cmd.ranged_inside (Nat.zero_le _) (by omega), hl]
  simp only [opFeedSet, targetCage_of_le ht, targetClamp_of_le ht, hv, hlead, if_true, Nat.zero_ne_one, if_false,
    minClamp_none_left]

theorem opFeedSet_removal (ht : c.target ≤ 63) (h0 : c.byte 16 = 0) (h1 : 0 < c.le 18 2) (hl : c.le 18 2 ≤ 60000)
    (tk : Ticket) : opFeedSet.body tk c s = .later (s.scheduleRemoval c.target
      { at16 := s.clock + ms16 (c.le 18 2), ticket := some tk
        result := s.feedStatus c.target + 2 ^ 18 * bit (s.feed c.target).removal.isNone }) := by
  have hv : c.ranged 16 1 0 1 = (0, none) := by rw [Cmd.ranged_byte (Nat.zero_le _) (by omega), h0]
  simp only [opFeedSet, targetCage_of_le ht, targetClamp_of_le ht, hv, Cmd.ranged_inside (Nat.zero_le _) hl, Nat.zero_ne_one,
    if_false, h1.ne', minClamp_none_right]

theorem opFeedCfg_body (ht : c.target ≤ 63) {p : Ring} (hp : c.src = .ring p) (hi1 : 50 ≤ c.le 16 2) (hi2 : c.le 16 2 ≤ 350)
    (hr1 : 1 ≤ c.byte 18) (hr2 : c.byte 18 ≤ 20) (hs1 : 1 ≤ c.byte 19) (hs2 : c.byte 19 ≤ 100) (hn1 : 1 ≤ c.le 20 2)
    (hn2 : c.le 20 2 ≤ 200) (hm1 : 1 ≤ c.byte 22) (hm2 : c.byte 22 ≤ 15) (tk : Ticket) :
    opFeedCfg.body tk c s = .ok ((s.modFeed c.target fun f => f.withCfg c).markDirty 1)
      (c.le 16 2 + 2 ^ 9 * c.byte 18 + 2 ^ 16 * c.byte 19 + 2 ^ 23 * bit (bitOf (c.byte 23) 0) + 2 ^ 24 * c.byte 22) := by
  simp only [opFeedCfg, targetCage_of_le ht, targetClamp_of_le ht, partSet_of_ring hp, Cmd.ranged_inside hi1 hi2,
    Cmd.ranged_byte hr1 hr2, Cmd.ranged_byte hs1 hs2, Cmd.ranged_inside hn1 hn2, Cmd.ranged_byte hm1 hm2, if_true,
    minClamp_none_left, State.modFeed_modFeed, State.feed_modFeed_self]
  rfl

theorem opFeedClear_body (ht : c.target ≤ 63) (tk : Ticket) : opFeedClear.body tk c s =
    if (s.feed c.target).state ≠ .latched ∨ ((s.feed c.target).fetShort = true ∧ 50 ≤ (s.feed c.target).milliamps) then
      .ok (s.episodeOver c.target) 1
    else .ok ((s.episodeOver c.target).unlatch c.target) 0 := by
  simp only [opFeedClear, targetCage_of_le ht, targetClamp_of_le ht, State.episodeOver, State.feed_modFeed_self]

/-- The ticket of a command whose target was in range is kept as it is. -/
theorem Ticket.keepClamp (tk : Ticket) : { tk with clamp := minClamp tk.clamp none } = tk := by
  rw [minClamp_none_right]

/-- SHELF_WAKE asks for the feed, waits and sends its WAKE frame. -/
def State.wakeShelf (s : State) (g : Nat) (tk : Ticket) : State :=
  ((s.feedRequest g).modFeed g fun f => { f with wake := f.wake ++ [(tk, 16 * tk.ft, ((s.feedRequest g).link g).txSeq)] }).slQueue
    g 0x30 []

theorem opShelfWake_body (ht : c.target ≤ 63) (hf : (s.feed c.target).faulted = false)
    (hp : (s.feed c.target).present = true) (tk : Ticket) :
    opShelfWake.body tk c s = .later (s.wakeShelf c.target tk) := by
  simp only [opShelfWake, targetCage_of_le ht, targetClamp_of_le ht, hf, hp, Bool.false_eq_true, Bool.not_true, if_false,
    minClamp_none_right, State.wakeShelf]

theorem State.wakeShelf_waits (s : State) (g : Nat) (tk : Ticket) : ((s.wakeShelf g tk).feed g).onReq = true ∧
    ∃ w ∈ ((s.wakeShelf g tk).feed g).wake, w.1 = tk ∧ w.2.2 = (s.link g).txSeq := by
  rw [State.wakeShelf, State.feed_slQueue, State.feed_modFeed_self, State.feedRequest_txSeq]
  exact ⟨s.feedRequest_onReq g, _, List.mem_append_right _ (List.mem_singleton_self _), rfl, rfl⟩

theorem State.noted_feed (o : OpSpec) (t : State) (k : Nat) : (o.noted l s t).feed k = t.feed k := by
  unfold OpSpec.noted State.noteLaunched
  split
  · rfl
  · split
    · exact State.feed_of_ppu (by rw [State.cntFtu_ppu, State.noteLate_ppu]) k
    · rfl

theorem Reply.finish_later (t : State) (tk : Ticket) : (Reply.later t).finish tk = t := rfl

theorem exec_shelfWake_due (h : Due opShelfWake l s) (ht : l.cmd.target ≤ 63)
    (hf : (s.feed l.cmd.target).faulted = false) (hp : (s.feed l.cmd.target).present = true) :
    ∃ t, exec .launchExecute s = .next t ∧ (t.feed l.cmd.target).onReq = true ∧ ∃ w ∈ (t.feed l.cmd.target).wake,
      w.1 = opShelfWake.launchTicket l (s.unqueue l) ∧ w.2.2 = (s.link l.cmd.target).txSeq := by
  have hexec := OpSpec.launchExecute_due h rfl
  rw [opShelfWake_body ht (by rw [State.unqueue_feed, hf]) (by rw [State.unqueue_feed, hp])] at hexec
  refine ⟨_, hexec, ?_⟩
  have hwaits := State.wakeShelf_waits (s.unqueue l) l.cmd.target (opShelfWake.launchTicket l (s.unqueue l))
  rw [State.unqueue_link] at hwaits
  rw [State.feed_framed, State.noted_feed, Reply.finish_later]
  exact hwaits

theorem opShelfSleep_off (ht : c.target ≤ 63) (hl : (s.link c.target).state = .off) (tk : Ticket) :
    opShelfSleep.body tk c s = .bad s stAborted := by
  simp only [opShelfSleep, targetCage_of_le ht, targetClamp_of_le ht, hl, if_true]

theorem opShelfSleep_sent (ht : c.target ≤ 63) (hl : (s.link c.target).state ≠ .off) (tk : Ticket) :
    opShelfSleep.body tk c s = .later ((s.modFeed c.target fun f =>
      { f with sleep := f.sleep ++ [(tk, bitOf (c.byte 16) 0, c.le 18 2, (s.link c.target).txSeq)] }).slQueue
        c.target 0x31 []) := by
  simp only [opShelfSleep, targetCage_of_le ht, targetClamp_of_le ht, hl, if_false, minClamp_none_right]

theorem feedSelector_of_le {n : Nat} (hk : c.byte 16 = n) (hn : n ≤ 6) : c.ranged 16 1 0 6 = (n, none) := by
  rw [Cmd.ranged_byte (Nat.zero_le _) (by omega), hk]

theorem ppuSelector_of_le {n : Nat} (hk : c.byte 16 = n) (hn : n ≤ 7) : c.ranged 16 1 0 7 = (n, none) := by
  rw [Cmd.ranged_byte (Nat.zero_le _) (by omega), hk]

theorem opPpuInputCfg_body (hw1 : 144 ≤ c.byte 16) (hw2 : c.byte 16 ≤ 156) (hm1 : 1 ≤ c.byte 18) (hm2 : c.byte 18 ≤ 64)
    (tk : Ticket) : opPpuInputCfg.body tk c s = .ok
      { s with ppu := { s.ppu with warn := c.byte 16, pfailInEn := bitOf (c.byte 17) 0, maxRamps := c.byte 18 } }
      (c.byte 16 + 2 ^ 8 * bit (bitOf (c.byte 17) 0) + 2 ^ 16 * c.byte 18) := by
  simp only [opPpuInputCfg, Cmd.ranged_byte hw1 hw2, Cmd.ranged_byte hm1 hm2]
  rfl

end

/-- Settles O31: each feed opcode by its body's branch; SHELF_WAKE as the due action's body leaves it. -/
theorem feedOpcodes : Obligations.FeedOpcodes := by
  unfold Obligations.FeedOpcodes
  intro c l s ht g
  refine ⟨fun h h1 hl => OpSpec.completes (o := opFeedSet) rfl h rfl rfl (opFeedSet_on ht h1 hl _),
    fun h h0 hl => OpSpec.completes (o := opFeedSet) rfl h rfl rfl (opFeedSet_off ht h0 hl _),
    fun h h0 h1 hl => OpSpec.holds (o := opFeedSet) rfl h rfl rfl ?_,
    fun h ⟨p, hp⟩ hi1 hi2 hr1 hr2 hs1 hs2 hn1 hn2 hm1 hm2 => OpSpec.completes (o := opFeedCfg) rfl h rfl rfl
      (opFeedCfg_body ht hp hi1 hi2 hr1 hr2 hs1 hs2 hn1 hn2 hm1 hm2 _),
    fun h hl => OpSpec.completes (o := opFeedClear) rfl h rfl rfl ?_,
    fun h hl hs => OpSpec.completes (o := opFeedClear) rfl h rfl rfl ?_,
    fun h hl hs hm => OpSpec.completes (o := opFeedClear) rfl h rfl rfl ?_,
    fun h => OpSpec.takesPlace (o := opShelfWake) rfl h rfl,
    fun h hg => hg ▸ exec_shelfWake_due h (hg ▸ ht),
    fun h hl => OpSpec.holds (o := opShelfSleep) rfl h rfl rfl ?_,
    fun h hl => OpSpec.endsWith (o := opShelfSleep) rfl h rfl rfl (opShelfSleep_off ht (by rw [State.accept_link, hl]) _),
    fun h hk => OpSpec.completes (o := opFeedQuery) rfl h rfl rfl ?_,
    fun h hk => OpSpec.completes (o := opFeedQuery) rfl h rfl rfl ?_,
    fun h hk => OpSpec.completes (o := opFeedQuery) rfl h rfl rfl ?_,
    fun h hw1 hw2 hm1 hm2 => OpSpec.completes (o := opPpuInputCfg) rfl h rfl rfl (opPpuInputCfg_body hw1 hw2 hm1 hm2 _),
    fun h hk => OpSpec.completes (o := opPpuQuery) rfl h rfl rfl ?_,
    fun h hk => OpSpec.completes (o := opPpuQuery) rfl h rfl rfl ?_⟩
  · rw [opFeedSet_removal ht h0 h1 hl, State.accept_clock, State.accept_feed]
  · rw [opFeedClear_body ht, State.accept_feed, if_pos (.inl hl)]
    rfl
  · rw [opFeedClear_body ht, State.accept_feed, if_neg (by simp [g, hl, hs])]
    rfl
  · rw [opFeedClear_body ht, State.accept_feed, if_pos (.inr ⟨hs, hm⟩)]
    rfl
  · rw [opShelfSleep_sent ht (by rwa [State.accept_link]), State.accept_link]
  · simp only [opFeedQuery, feedSelector_of_le hk (by omega), targetCage_of_le ht, targetClamp_of_le ht,
      State.accept_feedStatus]
    rfl
  · simp only [opFeedQuery, feedSelector_of_le hk (by omega), targetCage_of_le ht, targetClamp_of_le ht, State.accept_coolLeft]
    rfl
  · simp only [opFeedQuery, feedSelector_of_le hk (by omega), targetCage_of_le ht, targetClamp_of_le ht, State.accept_feed]
    rfl
  · simp only [opPpuQuery, ppuSelector_of_le hk (by omega), State.accept_ppu]
    rfl
  · simp only [opPpuQuery, ppuSelector_of_le hk (by omega), State.accept_ppu]
    rfl

end Sys2Proof.Machine
end

section
/-!
PROOFS. The events of the feed channels, presence, and the early warning (R383 to R397).
-/

namespace Sys2Proof.Machine

/-! ### Sampling and the ramp -/

section
variable {s : State} {c : Nat}

/-- A channel that neither waits nor was ready is left as it is. -/
theorem State.noteWait_of_idle (hs : (s.feed c).state ≠ .wait) (hr : (s.feed c).readyAt = none) : s.noteWait c = s := by
  unfold State.noteWait
  dsimp only
  rw [if_neg fun h => hs h.1, if_pos hr]

/-- A channel that waits and has been noted as ready is left as it is. -/
theorem State.noteWait_of_noted (hs : (s.feed c).state = .wait) (hu : s.unmet c = 0)
    (hr : (s.feed c).readyAt.isSome = true) : s.noteWait c = s := by
  obtain ⟨t, ht⟩ := Option.isSome_iff_exists.1 hr
  unfold State.noteWait
  dsimp only
  rw [if_pos ⟨hs, hu⟩, ht]

/-- The readings of a sample, and what they end (R390, R391). -/
def Feed.sampled (f : Feed) (m : FeedMeasure) : Feed :=
  { f with milliamps := m.milliamps, vout := m.vout, senp := m.senp, senn := m.senn, joules := min (2 ^ 32 - 1) m.joules
           voutOpen := f.voutOpen && !(decide (m.vout ≤ m.senn + 2000) && decide (m.senn ≤ m.vout + 2000))
           supplyLow := f.supplyLow && decide (m.senp < 10800) }

theorem State.feedSample_of_dark (m : FeedMeasure) (hd : (s.feed c).driven = false) (hl : (s.feed c).inLimit = false) :
    s.feedSample c m = (s.setFeed c ((s.feed c).sampled m)).noteWait c := by
  simp only [State.feedSample, Feed.sampled, hd, hl, Bool.false_and]

theorem State.slStart_of_disabled (h : (s.link c).en = false) : s.slStart c = s := by
  rw [State.slStart, h]
  rfl

/-- The channel as its ramp starts (R386). -/
def Feed.ramping (f : Feed) (now : Nat) : Feed :=
  { f with rampAt := now, limTime := 0, limSince := none, runTime := 0, outSince := none, inLimit := false, voutOpen := false }

theorem State.rampStart_of_ready (hw : (s.feed c).state = .wait) (hr : (s.feed c).readyAt.isSome = true)
    (hu : s.unmet c = 0) (hn : s.ramps < s.ppu.maxRamps) (hb : s.rampBefore c = false) (hen : (s.link c).en = false)
    (ht : (s.feed c).trips = 0) : s.rampStart c =
      ((s.feedTo c .ramp 0).modFeed c fun f => f.ramping s.clock).emit (.gate (Fin.ofNat 64 c) true) := by
  have hlink : ((((s.feedTo c .ramp 0).modFeed c fun f => f.ramping s.clock).emit (.gate (Fin.ofNat 64 c) true)).link c).en
      = false := by rw [State.link_emit, State.link_modFeed, State.link_feedTo, hen]
  unfold State.rampStart
  dsimp only
  rw [State.noteWait_of_noted hw hu hr, if_pos ⟨hw, hu, hn, hb⟩, if_pos ht]
  exact State.slStart_of_disabled hlink

theorem State.rampStart_of_not_waiting (hs : (s.feed c).state ≠ .wait) (hr : (s.feed c).readyAt = none) :
    s.rampStart c = s := by
  unfold State.rampStart
  dsimp only
  rw [State.noteWait_of_idle hs hr, if_neg fun h => hs h.1]

/-- The channel that leaves RAMP is ON from now (R390). -/
theorem State.feed_rampOver (h : (s.feed c).state = .ramp) : (s.rampOver c).feed c =
    { s.feed c with
        state := .on, readyAt := none, onAt := s.clock, runTime := 0, limTime := (s.feed c).limitTime s.clock
        limSince := if (s.feed c).inLimit then some s.clock else none } := by
  unfold State.rampOver
  dsimp only
  rw [if_pos h, State.feed_tally, State.feed_cntPpu, State.feed_modFeed_self, State.feedTo_clock,
    State.feed_feedTo _ _ _ _ (by rw [h]; decide)]
  rfl

theorem State.outputGood_of_not {v : Nat} (hv : v = (s.feed c).vout)
    (h : (s.feed c).state ≠ .ramp ∨ v + 300 < (s.feed c).senp) : s.outputGood c = s := by
  subst hv
  rcases h with hr | hv
  · rw [State.outputGood, State.rampOver, if_neg hr, ite_self]
  · exact if_neg (by simpa [Feed.reachedGood] using hv)

theorem State.cooldownExpiry_of_over (hc : (s.feed c).state = .cooldown) (ht : (s.feed c).coolUntil ≤ s.clock)
    (hq : (s.feed c).onReq = false) : s.cooldownExpiry c = (s.feedTo c .off 0).noteWait c := by
  unfold State.cooldownExpiry
  dsimp only
  rw [if_pos ⟨hc, ht⟩, Feed.rest, hq]
  rfl

end

/-! ### Sense faults, short FETs and low supplies -/

section
variable (s : State) (c k finding : Nat)

@[simp] theorem State.feed_senseFault : (s.senseFault c finding).feed k = s.feed k := by
  rw [State.senseFault, State.feed_record, State.feed_flag]

@[simp] theorem State.link_senseFault : (s.senseFault c finding).link k = s.link k := by
  rw [State.senseFault, State.link_record, State.link_flag]

theorem State.senseFault_err : (s.senseFault c finding).ppu.err = s.ppu.err ||| 4 := by
  rw [State.senseFault, State.record_ppu]

variable {s c}

theorem State.Quiet.senseFault (h : s.Quiet c) : (s.senseFault c finding).Quiet c where
  removal := by rw [State.feed_senseFault, h.removal]
  wake := by rw [State.feed_senseFault, h.wake]
  sleep := by rw [State.feed_senseFault, h.sleep]
  link := by rw [State.link_senseFault, h.link]

theorem State.openSense_of_driven (hd : (s.feed c).driven = true) (hk : (s.feed c).kelvinOpen = true) :
    s.openSense c = ((s.senseFault c 1).gateOff c .latched 0).latchRecord c 2 := by
  unfold State.openSense
  dsimp only
  rw [hk, if_neg (by decide), if_pos hd]

theorem State.openSense_of_no_fault (h : (s.feed c).state = .off ∨ (s.feed c).kelvinOpen = false) : s.openSense c = s := by
  unfold State.openSense
  dsimp only
  rcases h with ho | hk
  · have hd : (s.feed c).driven ≠ true := by simp [Feed.driven, ho]
    have hw : ¬ (s.feed c).state = .wait := by rw [ho]; decide
    rw [if_neg hd, if_neg hw, ite_self]
  · exact if_pos hk

theorem State.openSense_latches (hd : (s.feed c).driven = true) (hk : (s.feed c).kelvinOpen = true) (hq : s.Quiet c) :
    ((s.openSense c).feed c).state = .latched ∧ ((s.openSense c).feed c).latchCause = 2 ∧
      (s.openSense c).ppu.err.getLsbD 2 = true := by
  have hne : ((s.senseFault c 1).feed c).state ≠ .latched := by
    rw [State.feed_senseFault]
    exact Feed.state_ne_of_driven hd (by decide) (by decide)
  rw [State.openSense_of_driven hd hk, State.feed_latchRecord, State.feed_gateOff (hq.senseFault 1) hne,
    State.latchRecord_err, State.gateOff_err (hq.senseFault 1) hne, State.senseFault_err]
  exact ⟨rfl, rfl, by simp⟩

theorem State.voutOpenFound_of_ramp (hr : (s.feed c).state = .ramp) (ho : (s.feed c).voutOpen = false)
    (hm : (s.feed c).milliamps * 2 < 10 * (s.feed c).ilim) (hv : (s.feed c).vout + 2000 < (s.feed c).senn) :
    ((s.voutOpenFound c).feed c).voutOpen = true ∧ ((s.voutOpenFound c).feed c).state = .on := by
  have hlost : (s.feed c).voutLost = true := by simp [Feed.voutLost, Feed.driven, hr, ho, hm, hv]
  have hfeed : (((s.modFeed c fun f => { f with voutOpen := true }).senseFault c 2).feed c) =
      { s.feed c with voutOpen := true } := by rw [State.feed_senseFault, State.feed_modFeed_self]
  unfold State.voutOpenFound
  dsimp only
  rw [if_pos hlost, State.feed_rampOver (by rw [hfeed]; exact hr), hfeed]
  exact ⟨rfl, rfl⟩

/-- What `feedTo` leaves of a channel but its state and the instant it was ready. -/
theorem State.feedTo_fetShort (st : FeedState) (trip : Nat) : ((s.feedTo c st trip).feed c).fetShort = (s.feed c).fetShort := by
  by_cases h : (s.feed c).state = st
  · rw [State.feedTo_same _ _ _ _ h]
  · rw [State.feed_feedTo _ _ _ _ h]

theorem State.fetShortFound_latches (hd : (s.feed c).driven = false) (hs : (s.feed c).fetShort = false)
    (hm : 50 ≤ (s.feed c).milliamps) : ((s.fetShortFound c).feed c).fetShort = true ∧
      ((s.fetShortFound c).feed c).state = .latched ∧ ((s.fetShortFound c).feed c).latchCause = 3 := by
  have hno : ¬ ((s.feed c).driven = true ∨ (s.feed c).fetShort = true ∨ (s.feed c).milliamps < 50) := by
    simp [hd, hs, hm]
  unfold State.fetShortFound
  dsimp only
  rw [if_neg hno, State.feed_latchRecord, State.feed_record, State.feed_flag]
  exact ⟨by rw [State.feedTo_fetShort, State.feed_modFeed_self], State.feedTo_state .., rfl⟩

/-- The channel's low supply is noted and flagged, before its record (R391). -/
def State.supplyNoted (s : State) (c : Nat) : State :=
  let s := s.modFeed c fun f => { f with supplyLow := true }
  { s with ppu := { s.ppu with err := s.ppu.err ||| 16 } }

theorem State.supplyLowFound_of_low (ho : (s.feed c).state = .on) (hs : (s.feed c).senp < 10800)
    (hl : (s.feed c).supplyLow = false) :
    ∃ t64 fields, s.supplyLowFound c = (s.supplyNoted c).record 0x84 92 t64 fields := by
  unfold State.supplyLowFound
  dsimp only
  rw [if_pos ⟨ho, hs, hl⟩]
  unfold State.supplyNoted
  exact ⟨_, _, rfl⟩

theorem State.feed_supplyNoted : (s.supplyNoted c).feed c = { s.feed c with supplyLow := true } := by
  rw [State.supplyNoted, State.feed_flag, State.feed_modFeed_self]

theorem partition_one {α : Type} {p : α → Bool} {w : α} (h : p w = true) : [w].partition p = ([w], []) := by
  simp [List.partition, List.partition.loop, h]

theorem State.wakeTimeout_of_one {w : Ticket × Nat × Nat} (hw : (s.feed c).wake = [w]) (ht : w.2.1 + ms16 2000 ≤ s.clock) :
    s.wakeTimeout c = (s.modFeed c fun f => { f with wake := [] }).complete w.1 stTimeout 0 := by
  have hpart := partition_one (p := fun w : Ticket × Nat × Nat => decide (w.2.1 + ms16 2000 ≤ s.clock)) (decide_eq_true ht)
  unfold State.wakeTimeout
  rw [hw, hpart]
  dsimp only
  rw [List.foldl_cons, List.foldl_nil]

theorem Feed.kelvinOpen_iff (f : Feed) : f.kelvinOpen = true ↔
    15000 < f.senp ∨ 15000 < f.senn ∨ f.senn + 150 < f.senp ∨ f.senp + 20 < f.senn := by
  simp [Feed.kelvinOpen, or_assoc]

end

/-! ### The events of a channel -/

theorem feedChannelEvents : Claims.FeedChannelEvents := by
  intro g m s h f
  refine ⟨fun hd ho hl hr => ⟨_, act_running h fun s => s.feedSample g m, ?_⟩,
    fun hw hr hu hn hb hen ht => ⟨_, act_running h fun s => s.rampStart g, ?_⟩,
    fun hs hr => acts_of_act (f := fun s => s.rampStart g) rfl h (State.rampStart_of_not_waiting hs hr),
    fun hr hv => ⟨_, act_running h fun s => s.outputGood g, ?_⟩,
    fun hno => acts_of_act (f := fun s => s.outputGood g) rfl h (State.outputGood_of_not rfl hno),
    fun hc ht hq => acts_of_act (f := fun s => s.cooldownExpiry g) rfl h (State.cooldownExpiry_of_over hc ht hq),
    fun hc ht => acts_of_act (f := fun s => s.cooldownExpiry g) rfl h (if_neg fun ⟨_, hover⟩ => Nat.not_le.2 ht hover),
    fun hd hk hr hw hsl hl => ⟨_, act_running h fun s => s.openSense g, ?_⟩,
    fun hno => acts_of_act (f := fun s => s.openSense g) rfl h (State.openSense_of_no_fault hno),
    fun hr ho hm hv => ⟨_, act_running h fun s => s.voutOpenFound g, ?_⟩,
    fun hd hs hm => ⟨_, act_running h fun s => s.fetShortFound g, ?_⟩,
    fun ho hs hl => ⟨_, act_running h fun s => s.supplyLowFound g, ?_⟩,
    fun hl => acts_of_act (f := fun s => s.supplyLowFound g) rfl h (if_neg fun ⟨_, _, hno⟩ => by
      rw [show (s.feed g).supplyLow = true from hl] at hno; cases hno),
    fun r hr ht => acts_of_act (f := fun s => s.scheduledRemoval g) rfl h ?_,
    fun hr => acts_of_act (f := fun s => s.scheduledRemoval g) rfl h ?_,
    fun w hw ht => acts_of_act (f := fun s => s.wakeTimeout g) rfl h (State.wakeTimeout_of_one hw ht),
    Feed.kelvinOpen_iff f⟩
  · have hfeed := s.feed_setFeed_self g ((s.feed g).sampled m)
    have hidle := State.noteWait_of_idle (s := s.setFeed g ((s.feed g).sampled m)) (c := g)
      (by rw [hfeed, Feed.sampled, show (s.feed g).state = .off from ho]; decide) (by rw [hfeed]; exact hr)
    simp only [State.feed_framed]
    rw [State.feedSample_of_dark m hd hl, hidle, hfeed]
    exact ⟨rfl, rfl, rfl, rfl, ho, fun k hk => State.feed_setFeed_ne s _ hk⟩
  · rw [State.feed_framed, State.rampStart_of_ready hw hr hu hn hb hen ht, State.feed_emit, State.feed_modFeed_self]
    exact ⟨State.feedTo_state .., rfl, rfl, rfl⟩
  · have hgood : (s.feed g).reachedGood = true := by simpa [Feed.reachedGood] using hv
    rw [State.feed_framed, State.outputGood, if_pos hgood, State.feed_rampOver hr]
    exact ⟨rfl, rfl, rfl⟩
  · rw [State.feed_framed, State.framed_ppu]
    exact State.openSense_latches hd hk ⟨hr, hw, hsl, hl⟩
  · rw [State.feed_framed]
    exact State.voutOpenFound_of_ramp hr ho hm hv
  · rw [State.feed_framed]
    exact State.fetShortFound_latches hd hs hm
  · obtain ⟨_, _, hlow⟩ := State.supplyLowFound_of_low ho hs hl
    rw [State.feed_framed, State.framed_devRing, hlow, State.feed_record, State.record_seq,
      State.feed_supplyNoted]
    exact ⟨rfl, ho, rfl⟩
  · simp only [State.scheduledRemoval, show (s.feed g).removal = some r from hr, if_pos ht]
  · simp only [State.scheduledRemoval, show (s.feed g).removal = none from hr, id]

/-! ### Presence -/

@[simp] theorem State.slotNote_ppu (s : State) (p : Nat) (link on : Bool) : (s.slotNote p link on).ppu = s.ppu := by
  unfold State.slotNote
  split
  · rfl
  · refine State.foldl_keeps State.ppu (fun t b => ?_) _ s
    rfl

/-- A port that is told of its shelf only neither changes the ports nor the feeds. -/
theorem State.slotNote_keeps (s : State) (p : Nat) (on b : Bool) :
    let t := if b then s.slotNote p false on else s
    t.prt = s.prt ∧ t.ppu = s.ppu := by
  cases b
  · exact ⟨rfl, rfl⟩
  · exact ⟨s.slotNote_prt p false on, s.slotNote_ppu p false on⟩

section
variable {s : State} {c : Nat}

theorem State.port_of_prt {s t : State} (h : t.prt = s.prt) (p : Nat) : t.port p = s.port p := by
  rw [State.port, State.port, h]

/-- Changes that leave the ports and the feeds wherever the ports are those of `s` leave them together. -/
theorem State.foldl_ports_kept {f : State → Nat → State} (is : List Nat)
    (hf : ∀ t : State, t.prt = s.prt → ∀ i ∈ is, (f t i).prt = t.prt ∧ (f t i).ppu = t.ppu) :
    (is.foldl f s).prt = s.prt ∧ (is.foldl f s).ppu = s.ppu := by
  refine List.foldlRecOn is f (motive := fun t : State => t.prt = s.prt ∧ t.ppu = s.ppu) ⟨rfl, rfl⟩
    fun t ⟨hprt, hppu⟩ i hi => ?_
  obtain ⟨hp, hq⟩ := hf t hprt i hi
  exact ⟨hp.trans hprt, hq.trans hppu⟩

/-- Ports that do not recover by themselves are told of their shelf, and nothing else of them changes (R389, R90). -/
theorem State.foldl_inserted_keeps (is : List Nat) (h : ∀ i ∈ is, (s.port (16 * c + i)).cfg.dpcAuto = false) :
    let t := is.foldl (fun s i =>
      let p := 16 * c + i
      let s := if (s.port p).cfg.en then s.slotNote p false true else s
      if (s.port p).cfg.dpcAuto then s.dpcRelease p else s) s
    t.prt = s.prt ∧ t.ppu = s.ppu := by
  refine State.foldl_ports_kept is fun t hprt i hi => ?_
  have hnote := t.slotNote_keeps (16 * c + i) true (t.port (16 * c + i)).cfg.en
  dsimp only at hnote ⊢
  rwa [State.port_of_prt (hnote.1.trans hprt), h i hi, if_neg (by decide)]

/-- Ports that are not UP are told that their shelf has gone, and nothing else of them changes (R389, R90). -/
theorem State.foldl_removed_keeps (is : List Nat) (h : ∀ i ∈ is, (s.port (16 * c + i)).state ≠ .up) :
    let t := is.foldl (fun s i =>
      let p := 16 * c + i
      let s := if (s.port p).cfg.en then s.slotNote p false false else s
      if (s.port p).state = .up then s.linkDownEvent p true else s) s
    t.prt = s.prt ∧ t.ppu = s.ppu := by
  refine State.foldl_ports_kept is fun t hprt i hi => ?_
  have hnote := t.slotNote_keeps (16 * c + i) false (t.port (16 * c + i)).cfg.en
  dsimp only at hnote ⊢
  rwa [if_neg (by rw [State.port_of_prt (hnote.1.trans hprt)]; exact h i hi)]

theorem State.inserted_off (hp : (s.feed c).present = false)
    (hd : ∀ i, i < 16 → (s.port (16 * c + i)).cfg.dpcAuto = false) (ho : (s.feed c).state = .off)
    (hr : (s.feed c).readyAt = none) :
    (s.inserted c).feed c = { s.feed c with present := true, debouncing := false } ∧ (s.inserted c).prt = s.prt := by
  have hnote : ∀ u : State, u = ((s.modFeed c fun f => { f with present := true, debouncing := false }).event 0x91 92
      (s.modFeed c fun f => { f with present := true, debouncing := false }).now64 [(1, c), (1, 1)]).cntPpu 0xE4 →
      u.feed c = { s.feed c with present := true, debouncing := false } ∧ u.prt = s.prt := by
    rintro _ rfl
    rw [State.feed_cntPpu, State.feed_event, State.feed_modFeed_self, State.cntPpu_prt, State.event_prt, State.modFeed_prt]
    exact ⟨rfl, rfl⟩
  unfold State.inserted
  rw [if_neg (by simp [hp])]
  dsimp only
  generalize hu : State.cntPpu _ _ _ = u
  obtain ⟨hfeed, hprt⟩ := hnote u hu.symm
  have hports : ∀ i ∈ List.range 16, (u.port (16 * c + i)).cfg.dpcAuto = false := fun i hi => by
    rw [State.port_of_prt hprt]
    exact hd i (List.mem_range.1 hi)
  obtain ⟨hkprt, hkppu⟩ := State.foldl_inserted_keeps (s := u) (c := c) (List.range 16) hports
  dsimp only at hkprt hkppu
  generalize List.foldl _ u (List.range 16) = v at hkprt hkppu ⊢
  have hv : v.feed c = _ := (State.feed_of_ppu hkppu c).trans hfeed
  rw [State.noteWait_of_idle (by rw [hv]; simp [ho]) (by rw [hv]; exact hr)]
  exact ⟨hv, hkprt.trans hprt⟩

theorem State.removed_off (hp : (s.feed c).present = true) (ho : (s.feed c).state = .off) (hw : (s.feed c).wake = [])
    (hup : ∀ i, i < 16 → (s.port (16 * c + i)).state ≠ .up) :
    (s.removed c).feed c = { s.feed c with present := false, debouncing := false, trips := 0, readyAt := none } ∧
      (s.removed c).prt = s.prt := by
  have hfeed : (s.modFeed c fun f => { f with present := false, debouncing := false, trips := 0 }).feed c =
      { s.feed c with present := false, debouncing := false, trips := 0 } := s.feed_modFeed_self c _
  have hoff : ((s.modFeed c fun f => { f with present := false, debouncing := false, trips := 0 }).feed c).state = .off :=
    (congrArg Feed.state hfeed).trans ho
  have hwake : ((s.modFeed c fun f => { f with present := false, debouncing := false, trips := 0 }).feed c).wake = [] :=
    (congrArg Feed.wake hfeed).trans hw
  unfold State.removed
  rw [if_neg (by simp [hp])]
  dsimp only
  rw [hoff]
  dsimp only
  rw [hwake, List.foldl_nil]
  generalize hu : State.cntPpu _ _ _ = u
  have hnote : u.feed c = { s.feed c with present := false, debouncing := false, trips := 0, readyAt := none } ∧
      u.prt = s.prt := by
    rw [← hu, State.feed_cntPpu, State.feed_event, State.feed_modFeed_self, hfeed, State.cntPpu_prt, State.event_prt,
      State.modFeed_prt, State.modFeed_prt, ← hw]
    exact ⟨rfl, rfl⟩
  obtain ⟨hufeed, huprt⟩ := hnote
  have hports : ∀ i ∈ List.range 16, (u.port (16 * c + i)).state ≠ .up := fun i hi => by
    rw [State.port_of_prt huprt]
    exact hup i (List.mem_range.1 hi)
  obtain ⟨hkprt, hkppu⟩ := State.foldl_removed_keeps (s := u) (c := c) (List.range 16) hports
  exact ⟨(State.feed_of_ppu hkppu c).trans hufeed, hkprt.trans huprt⟩

end

/-! ### Outputs are not taken back -/

section
variable {s : State} {o : Output}

theorem State.mem_out_devWrite (d : Nat) (bs : List Byte) (h : o ∈ s.out) : o ∈ (s.devWrite d bs).out := by
  unfold State.devWrite
  dsimp only
  split
  · obtain ⟨os, hos⟩ := State.sendVector_out (State.cntCmd (State.setDevRing _ _ _) _ _) _
    rw [hos]
    exact List.mem_append_left _ h
  · exact h

theorem State.mem_out_devProduce (d : Nat) (bs : List Byte) (h : o ∈ s.out) : o ∈ (s.devProduce d bs).out := by
  unfold State.devProduce
  dsimp only
  split
  · exact State.mem_out_devWrite d bs h
  · split <;> exact h

theorem State.mem_out_event (kind island t64 : Nat) (fields : List (Nat × Nat)) (h : o ∈ s.out) :
    o ∈ (s.event kind island t64 fields).out := by
  unfold State.event
  dsimp only
  split
  · exact State.mem_out_devProduce 0 _ (by rwa [State.journalAdd_out])
  · exact h

theorem State.mem_out_framed (u : State) (h : o ∈ u.out) : o ∈ (s.framed u).out := by
  obtain ⟨os, hos⟩ := State.framed_out s u
  rw [hos]
  exact List.mem_append_left _ h

end

/-! ### Every channel is looked at again -/

theorem State.noteWait_writes (s : State) (c : Nat) : ∃ fs, s.noteWait c = { s with ppu := { s.ppu with feeds := fs } } := by
  obtain h | ⟨r, h⟩ := s.noteWait_eq c
  · exact ⟨s.ppu.feeds, h⟩
  · exact ⟨_, h⟩

/-- Only the feeds may change. -/
theorem State.noteWaits_writes (s : State) : ∃ fs, s.noteWaits = { s with ppu := { s.ppu with feeds := fs } } := by
  refine List.foldlRecOn s.ppu.feeds _ (motive := fun t : State => ∃ fs, t = { s with ppu := { s.ppu with feeds := fs } })
    ⟨s.ppu.feeds, rfl⟩ fun t ⟨_, ht⟩ x _ => ?_
  obtain ⟨fs, hfs⟩ := t.noteWait_writes x.1
  exact ⟨fs, by rw [hfs, ht]⟩

/-! ### The early warning -/

section
variable {s : State}

/-- The input stage as an early warning of a low input leaves it (R392, R393). -/
def Ppu.warned (p : Ppu) (mv now : Nat) : Ppu :=
  { p with warning := true, warnExt := false, warnAt := now, warnCount := satAdd 32 p.warnCount 1, inputMv := mv
           pfailDriven := true, err := p.err ||| 32 }

/-- The warning has been noted and PFAIL driven; its event is not yet out. -/
def State.warnedOut (s : State) (mv : Nat) : State := State.emit { s with ppu := s.ppu.warned mv s.clock } (.pfail true)

theorem State.earlyWarning_of_low {mv : Nat} (hw : s.ppu.warning = false) (hmv : mv < 250 * s.ppu.warn)
    (hl : ∀ k, (s.link k).state = .off) : s.earlyWarning false mv =
      (((s.warnedOut mv).event 0x92 92 (s.warnedOut mv).now64 [(1, 1), (2, mv)]).cntPpu 0xE5).noteWaits := by
  have hgo : ¬ (s.ppu.warning || (false && (!s.ppu.pfailInEn || s.ppu.pfailDriven)) ||
      (!false && decide (250 * s.ppu.warn ≤ mv))) = true := by simp [hw, hmv]
  have hlinks : ∀ (ks : List Nat) (f : State → Nat → State) (u : State), (∀ k, (u.link k).state = .off) →
      ks.foldl (fun s c => if (s.link c).state = .off then s else f s c) u = u := fun ks f u hu => by
    induction ks with
    | nil => rfl
    | cons k ks ih => rw [List.foldl_cons, if_pos (hu k), ih]
  unfold State.earlyWarning
  dsimp only
  rw [if_neg hgo]
  simp only [Bool.false_eq_true, if_false, Bool.not_false]
  rw [hlinks]
  · rfl
  · exact hl

theorem State.earlyWarning_leaves {mv : Nat} (hw : s.ppu.warning = false) (hmv : mv < 250 * s.ppu.warn)
    (hl : ∀ k, (s.link k).state = .off) :
    (∃ fs, (s.earlyWarning false mv).ppu = { s.ppu.warned mv s.clock with feeds := fs }) ∧
      Output.pfail true ∈ (s.earlyWarning false mv).out := by
  have hmem : Output.pfail true ∈ (s.warnedOut mv).out := List.mem_append_right _ (List.mem_singleton_self _)
  obtain ⟨fs, hfs⟩ := State.noteWaits_writes (((s.warnedOut mv).event 0x92 92 (s.warnedOut mv).now64
    [(1, 1), (2, mv)]).cntPpu 0xE5)
  rw [State.earlyWarning_of_low hw hmv hl, hfs]
  exact ⟨⟨fs, by rw [State.cntPpu_ppu, State.event_ppu]; rfl⟩, State.mem_out_event _ _ _ _ hmem⟩

theorem State.earlyWarning_of_good {mv : Nat} (hmv : 250 * s.ppu.warn ≤ mv) : s.earlyWarning false mv = s :=
  if_pos (by simp [hmv])

/-- The input stage after the end of a warning that lasted `us` microseconds (R394). -/
def Ppu.cleared (p : Ppu) (us : Nat) : Ppu :=
  { p with warning := false, warnExt := false, pfailDriven := false, warnLast := min (2 ^ 32 - 1) us }

theorem State.inputClear_of_warned (hw : s.ppu.warning = true) (hp : s.ppu.pfailDriven = true) :
    (∃ fs, s.inputClear.ppu = { s.ppu.cleared ((s.clock - s.ppu.warnAt) / 16000) with feeds := fs }) ∧
      Output.pfail false ∈ s.inputClear.out := by
  have hmem : Output.pfail false ∈ (s.emit (.pfail false)).out := List.mem_append_right _ (List.mem_singleton_self _)
  have hfold : ∀ (ks : List Nat) (u : State), (ks.foldl (fun s c => s.slWarnClear c 1) u).ppu = u.ppu ∧
      (ks.foldl (fun s c => s.slWarnClear c 1) u).out = u.out := fun ks u =>
    ⟨State.foldl_keeps (f := fun s c => s.slWarnClear c 1) State.ppu (fun _ _ => rfl) ks u,
      State.foldl_keeps (f := fun s c => s.slWarnClear c 1) State.out (fun _ _ => rfl) ks u⟩
  unfold State.inputClear
  dsimp only
  rw [if_neg (by simp [hw]), if_pos hp]
  generalize hu : List.foldl _ _ _ = u
  obtain ⟨hppu, hout⟩ := hu ▸ hfold _ _
  obtain ⟨fs, hfs⟩ := State.noteWaits_writes ((u.histAdd 6 (min 255 ((s.clock - s.ppu.warnAt) / 16000 / 100))).event 0x93 92
    u.now64 [(4, min (2 ^ 32 - 1) ((s.clock - s.ppu.warnAt) / 16000))])
  rw [hfs]
  exact ⟨⟨fs, by rw [State.event_ppu]; exact congrArg (fun p : Ppu => { p with feeds := fs }) hppu⟩,
    State.mem_out_event _ _ _ _ (hout ▸ hmem)⟩

end

theorem presenceAndEarlyWarning : Claims.PresenceAndEarlyWarning := by
  intro g mv s h
  refine ⟨fun hp hd ho hr => ⟨_, act_running h fun s => s.inserted g, ?_⟩,
    fun hp => acts_of_act (f := fun s => s.inserted g) rfl h (if_pos hp),
    fun hp ho hw hup => ⟨_, act_running h fun s => s.removed g, ?_⟩,
    fun hp => acts_of_act (f := fun s => s.removed g) rfl h (if_pos (by simp [hp])),
    fun hw hmv hl => ⟨_, act_running h fun s => s.earlyWarning false mv.toNat, ?_⟩,
    fun hmv => acts_of_act (f := fun s => s.earlyWarning false mv.toNat) rfl h (State.earlyWarning_of_good hmv),
    fun hw hp => ⟨_, act_running h State.inputClear, ?_⟩,
    fun hw => acts_of_act (f := State.inputClear) rfl h (if_pos (by simp [hw]))⟩
  · rw [State.feed_framed, State.framed_prt]
    exact State.inserted_off hp hd ho hr
  · rw [State.feed_framed, State.framed_prt]
    exact State.removed_off hp ho hw hup
  · obtain ⟨⟨fs, hppu⟩, hout⟩ := State.earlyWarning_leaves hw hmv hl
    rw [State.framed_ppu, hppu]
    exact ⟨rfl, rfl, rfl, rfl, rfl, rfl, State.mem_out_framed _ hout⟩
  · obtain ⟨⟨fs, hppu⟩, hout⟩ := State.inputClear_of_warned hw hp
    rw [State.framed_ppu, hppu]
    exact ⟨rfl, rfl, rfl, State.mem_out_framed _ hout⟩

/-- Settles O33: each event of a channel by its branch, presence by what the ports and the feeds keep, and the early warning by
what the input stage and the outputs become. -/
theorem feedEvents : Obligations.FeedEvents := by
  unfold Obligations.FeedEvents
  exact ⟨feedChannelEvents, presenceAndEarlyWarning⟩

end Sys2Proof.Machine
end

section
/-!
PROOFS. The counters (chapter 14): what a capture does and leaves, the gathered image, a counter's events, and the counter
opcodes (R354 to R360, R376).
-/

namespace Sys2Proof.Machine

/-! ### What leaves the captured image -/

/-- The counters may differ; the image's marks, the freezes and the reads that wait are the same. -/
def State.SameCapture (s t : State) : Prop := ∃ cs, t.pcn = { s.pcn with counters := cs }

section
variable {s t u : State}

theorem State.SameCapture.refl (s : State) : s.SameCapture s := ⟨s.pcn.counters, rfl⟩

theorem State.SameCapture.of_pcn (h : t.pcn = s.pcn) : s.SameCapture t := ⟨s.pcn.counters, h⟩

theorem State.SameCapture.trans (h : s.SameCapture t) (h' : t.SameCapture u) : s.SameCapture u := by
  obtain ⟨_, hs⟩ := h
  obtain ⟨cs, ht⟩ := h'
  exact ⟨cs, by rw [ht, hs]⟩

theorem State.SameCapture.congr (h : s.SameCapture t) (hu : u.pcn = t.pcn) : s.SameCapture u := by
  obtain ⟨cs, ht⟩ := h
  exact ⟨cs, hu.trans ht⟩

theorem State.Notes.sameCapture (h : s.Notes t) : s.SameCapture t := by
  obtain ⟨_, _, _, _, _, _, _, _, _, rfl⟩ := h
  exact ⟨_, rfl⟩

variable (s)

theorem State.countAt_sameCapture (lo n code : Nat) (vfi port : Option Nat) (amount : Nat) :
    s.SameCapture (s.countAt lo n code vfi port amount) := (s.countAt_notes ..).sameCapture

theorem State.cntCmd_sameCapture (code n : Nat) : s.SameCapture (s.cntCmd code n) := State.countAt_sameCapture ..

theorem State.cntFtu_sameCapture (code n : Nat) : s.SameCapture (s.cntFtu code n) := State.countAt_sameCapture ..

theorem State.cntMem_sameCapture (m code : Nat) : s.SameCapture (s.cntMem m code) := State.countAt_sameCapture ..

theorem State.cqInterrupt_sameCapture (p : Nat) (quiet : Bool) : s.SameCapture (s.cqInterrupt p quiet) := by
  unfold State.cqInterrupt
  dsimp only
  split
  · exact .refl s
  · split
    · refine .trans ?_ (State.sendVector_notes ..).sameCapture
      exact .of_pcn rfl
    · exact .of_pcn rfl

theorem State.cqWrite_sameCapture (p : Nat) (x : Completion) : s.SameCapture (s.cqWrite p x) := by
  unfold State.cqWrite
  dsimp only
  refine .trans ?_ (State.cqInterrupt_sameCapture _ p _)
  refine .trans ?_ (State.cntCmd_sameCapture ..)
  exact .of_pcn rfl

theorem State.noteClamp_sameCapture (tk : Ticket) (off : Nat) : s.SameCapture (s.noteClamp tk off) := by
  unfold State.noteClamp
  split
  · refine .trans ?_ (State.cntCmd_sameCapture ..)
    exact .of_pcn rfl
  · exact .of_pcn rfl

theorem State.clampNoted_sameCapture (tk : Ticket) : s.SameCapture (s.clampNoted tk) := by
  unfold State.clampNoted
  split
  · exact s.noteClamp_sameCapture tk _
  · exact .refl s

/-- A completion changes counts alone. -/
theorem State.complete_sameCapture (tk : Ticket) (status result : Nat) : s.SameCapture (s.complete tk status result) := by
  cases h : tk.src with
  | side => exact State.complete_of_side status result h ▸ s.clampNoted_sameCapture tk
  | ring p =>
    have hland : s.SameCapture ((s.clampNoted tk).landing p) := (s.clampNoted_sameCapture tk).congr rfl
    obtain ⟨x, hx | hx⟩ := State.complete_of_ring (s := s) status result h
    · exact hx ▸ hland.trans (State.cqWrite_sameCapture _ p x)
    · exact hx ▸ hland.congr rfl

theorem State.noteLate_sameCapture (c : Cmd) (ft lateness : Nat) : s.SameCapture (s.noteLate c ft lateness) := by
  cases h : c.src <;> simp only [State.noteLate, h]
  case side =>
    refine .trans ?_ (State.cntFtu_sameCapture ..)
    exact .of_pcn rfl
  case ring p =>
    refine .trans ?_ (State.cntFtu_sameCapture ..)
    exact (s.event_notes 0x20 89 (t64Ns ft) [(1, p), (2, c.tag), (4, min (2 ^ 32 - 1) lateness)]).sameCapture.congr rfl

theorem State.foldl_sameCapture {α : Type} {f : State → α → State} (hf : ∀ (t : State) x, t.SameCapture (f t x))
    (xs : List α) : s.SameCapture (xs.foldl f s) :=
  List.foldlRecOn xs f (motive := s.SameCapture) (.refl s) fun t ht x _ => ht.trans (hf t x)

theorem State.noteLaunched_sameCapture (c : Cmd) (ft lag : Nat) : s.SameCapture (s.noteLaunched c ft lag) := by
  unfold State.noteLaunched
  refine .trans ?_ (State.cntFtu_sameCapture ..)
  split
  · exact s.noteLate_sameCapture c ft lag
  · exact .refl s

theorem State.memSubmit_sameCapture (r : ChReq) : s.SameCapture (s.memSubmit r) := by
  unfold State.memSubmit
  dsimp only
  split
  · refine .trans ?_ (State.cntMem_sameCapture ..)
    exact .of_pcn rfl
  · exact .of_pcn rfl

theorem State.framed_sameCapture (u : State) : u.SameCapture (s.framed u) := by
  have hsum : u.SameCapture u.noteSummary := by
    unfold State.noteSummary
    dsimp only
    split
    · refine .trans ?_ (State.sendVector_notes ..).sameCapture
      exact .of_pcn rfl
    · exact .of_pcn rfl
  have hout : u.noteSummary.SameCapture (u.noteSummary.journalOut s.evr.journalNext) := by
    exact State.foldl_sameCapture _ (fun t i => t.memSubmit_sameCapture _) _
  exact (hsum.trans hout).trans (.of_pcn rfl)

end

/-- An executed action leaves what its body left, but for counts. -/
theorem OpSpec.noted_sameCapture (o : OpSpec) (l : Launch) (s t : State) : t.SameCapture (o.noted l s t) := by
  unfold OpSpec.noted
  split
  · exact .refl t
  · exact State.noteLaunched_sameCapture ..

/-! ### A table changed entry by entry -/

section
variable {α : Type} [DecidableEq α] {d : α} {f : Nat → α → α} {t : Tbl α}

theorem image_of_mem_tmap {x : Nat × α} (h : x ∈ tmap d f t) : ∃ y ∈ t, x.2 = f y.1 y.2 := by
  induction t with
  | nil => simp [tmap] at h
  | cons y ys ih =>
    obtain ⟨k, a⟩ := y
    have hcases : x = (k, f k a) ∨ x ∈ tmap d f ys := by
      rw [tmap] at h
      split at h
      · exact .inr h
      · exact List.mem_cons.1 h
    rcases hcases with rfl | hx
    · exact ⟨(k, a), List.mem_cons_self, rfl⟩
    · obtain ⟨y, hy, hxy⟩ := ih hx
      exact ⟨y, List.mem_cons_of_mem _ hy, hxy⟩

end

/-! ### A capture -/

/-- A counter's image is its value and its wraps, but for the counts of the device rings and of the vectors (Table 14-2). -/
def Counter.Caught (x : Counter) : Prop :=
  x.image = x.value ∧ x.imageWraps = x.wraps ∨ x.event = 0xD3 ∨ x.event = 0xD4 ∨ x.event = 0xD5

/-- Every counter is caught. -/
def State.AllCaught (s : State) : Prop := ∀ x ∈ s.pcn.counters, x.2.Caught

section
variable {s : State}

/-- Counts of the rings' own events leave the others as they were caught. -/
theorem State.AllCaught.cntCmd (h : s.AllCaught) {code : Nat} (hc : code = 0xD3 ∨ code = 0xD4 ∨ code = 0xD5) :
    (s.cntCmd code).AllCaught := by
  intro x hx
  obtain ⟨y, hy, hxy⟩ := image_of_mem_tmap hx
  rw [hxy]
  split
  next hcond =>
    obtain ⟨-, -, hevent, -⟩ := hcond
    exact .inr (hevent ▸ hc)
  next => exact h y hy

theorem State.AllCaught.of_counters {t : State} (h : s.AllCaught) (ht : t.pcn.counters = s.pcn.counters) : t.AllCaught := by
  rw [State.AllCaught, ht]
  exact h

theorem State.AllCaught.sendVector (h : s.AllCaught) (v : Nat) : (s.sendVector v).AllCaught := by
  unfold State.sendVector
  split
  · split
    · exact h
    · split
      · exact h
      · exact State.AllCaught.cntCmd (h.of_counters rfl) (.inr (.inr rfl))
  · exact h

theorem State.AllCaught.devProduce (h : s.AllCaught) (d : Nat) (bs : List Byte) : (s.devProduce d bs).AllCaught := by
  have hwrite : ∀ t : State, t.AllCaught → (t.devWrite d bs).AllCaught := fun t ht => by
    have hcount := State.AllCaught.cntCmd (s := (t.mgrWrite ((t.devRing d).base + (t.devRing d).tail * devEntrySize d)
      (withFlags bs (t.devRing d).phase (t.devRing d).lostBefore)).setDevRing d (t.devRing d).wrote) (ht.of_counters rfl)
      (.inl (rfl : (0xD3 : Nat) = 0xD3))
    unfold State.devWrite
    dsimp only
    split
    · exact hcount.sendVector _
    · exact hcount
  unfold State.devProduce
  dsimp only
  split
  · exact hwrite _ (h.of_counters rfl)
  · split
    · exact h.of_counters rfl
    · exact State.AllCaught.cntCmd (h.of_counters rfl) (.inr (.inl rfl))

theorem State.AllCaught.event (h : s.AllCaught) (kind island t64 : Nat) (fields : List (Nat × Nat)) :
    (s.event kind island t64 fields).AllCaught := by
  unfold State.event
  dsimp only
  split
  · refine State.AllCaught.devProduce (h.of_counters ?_) 0 _
    unfold State.journalAdd
    split <;> rfl
  · exact h

/-- The marks and the images of a capture at `b`, before its event goes out (R357). -/
def Pcn.captured (p : Pcn) (b : Nat) : Pcn :=
  { p with counters := tmap {} (fun _ x => { x with image := x.value, imageWraps := x.wraps }) p.counters
           freezeNum := (p.freezeNum + 1) % 2 ^ 32, freezeFt := b, frozen := true, gathering := true }

/-- One capture is made at a boundary. -/
theorem State.freezeAt_of_new {b : Nat} (h : s.pcn.freezeFt ≠ b) (late : Bool) : s.freezeAt b late =
    State.event { s with pcn := s.pcn.captured b } 0x80 93 (t64Ns b) [(4, (s.pcn.captured b).freezeNum), (1, bit late)] := by
  rw [State.freezeAt, if_neg fun hsame => h hsame.2]
  rfl

theorem State.freezeAt_sameCapture {b : Nat} (h : s.pcn.freezeFt ≠ b) (late : Bool) :
    State.SameCapture { s with pcn := s.pcn.captured b } (s.freezeAt b late) := by
  rw [State.freezeAt_of_new h]
  exact (State.event_notes ..).sameCapture

theorem State.freezeAt_caught {b : Nat} (h : s.pcn.freezeFt ≠ b) (late : Bool) : (s.freezeAt b late).AllCaught := by
  rw [State.freezeAt_of_new h]
  refine State.AllCaught.event (fun x hx => ?_) _ _ _ _
  obtain ⟨y, -, hxy⟩ := image_of_mem_tmap hx
  rw [hxy]
  exact .inl ⟨rfl, rfl⟩

end

theorem freezeCapturesEveryCounter : Claims.FreezeCapturesEveryCounter := by
  intro s b late
  refine ⟨fun hn hb => if_pos ⟨hn, hb⟩, fun hb => ⟨State.freezeAt_caught hb late, ?_⟩⟩
  obtain ⟨cs, hcs⟩ := State.freezeAt_sameCapture hb late
  rw [hcs]
  exact ⟨rfl, rfl⟩

/-! ### The gathered image -/

section
variable {s : State}

/-- The gathering has ended, and what waited on it is taken (R358, R359). -/
def Pcn.gathered (p : Pcn) : Pcn := { p with gathering := false, imageValid := true, snaps := [], reads := [] }

theorem State.snapWrite_sameCapture (s : State) (f n : Nat) : s.SameCapture (s.snapWrite f n) :=
  State.foldl_sameCapture s (fun t _ => (t.devProduce_notes 2 _).sameCapture) _

theorem State.imageRead_sameCapture (s : State) (tk : Ticket) (i dest : Nat) : s.SameCapture (s.imageRead tk i dest) := by
  unfold State.imageRead
  dsimp only
  split <;> exact (State.mgrWrite_notes ..).sameCapture.trans (State.complete_sameCapture ..)

theorem State.imageGathered_sameCapture (h : s.pcn.gathering = true) :
    State.SameCapture { s with pcn := s.pcn.gathered } s.imageGathered := by
  unfold State.imageGathered
  dsimp only
  rw [h, Bool.or_true]
  refine .trans (.trans ?_ (State.foldl_sameCapture _ (fun t x => ?_) _)) (State.foldl_sameCapture _ (fun t x => ?_) _)
  · exact .of_pcn rfl
  · exact (State.snapWrite_sameCapture ..).trans (State.complete_sameCapture ..)
  · exact State.imageRead_sameCapture ..

end

theorem gatheringMakesTheImageValid : Claims.GatheringMakesTheImageValid := by
  intro s h hg
  refine ⟨fun hs hr => acts_of_act (f := State.imageGathered) rfl h ?_, _, act_running h State.imageGathered, ?_⟩
  · simp only [State.imageGathered, hs, hr, hg, Bool.or_true, List.foldl_nil]
  · obtain ⟨cs, hcs⟩ := (State.imageGathered_sameCapture hg).trans (s.framed_sameCapture s.imageGathered)
    rw [hcs]
    exact ⟨rfl, rfl, rfl, rfl, rfl⟩

theorem countersCountTheirEvents : Claims.CountersCountTheirEvents := by
  intro s lo n code amount vfi port
  exact ⟨by simp [State.countAt], rfl⟩

/-- Settles O35: a capture by its marks and the counts of its event, the gathering by what completions leave of the image, and
a counter's events by the counters' table. -/
theorem freezeAndCounting : Obligations.FreezeAndCounting := by
  unfold Obligations.FreezeAndCounting
  exact ⟨freezeCapturesEveryCounter, gatheringMakesTheImageValid, countersCountTheirEvents⟩

end Sys2Proof.Machine
end

section
/-!
PROOFS. The counter opcodes (R355 to R360, R376).
-/

namespace Sys2Proof.Machine

/-! ### Ranges of counters -/

section
variable {c : Cmd} {l : Launch} {s : State}

/-- A range within the 2,784 counters is taken as it stands. -/
theorem pcnRange_inside (h1 : c.le 16 2 ≤ 2783) (h2 : 1 ≤ c.le 18 2) (h3 : c.le 16 2 + c.le 18 2 ≤ 2784) :
    pcnRange c = (c.le 16 2, c.le 18 2, none) := by
  have hm : min (c.le 18 2) (2784 - c.le 16 2) = c.le 18 2 := by omega
  simp only [pcnRange, Cmd.ranged_inside (c := c) (off := 16) (n := 2) (hi := 2784 - 1) (Nat.zero_le _) (by omega),
    Cmd.ranged_inside (c := c) (off := 18) (n := 2) (hi := 2784) h2 (by omega), hm, Nat.lt_irrefl, if_false,
    minClamp_none_left]

@[simp] theorem State.accept_counterHere (s : State) (c : Cmd) (i : Nat) : (s.accept c).counterHere i = s.counterHere i := by
  simp only [State.counterHere, State.tileExists, State.isF, State.accept_variant]

@[simp] theorem State.accept_pcnHere (s : State) (c : Cmd) (f n : Nat) : (s.accept c).pcnHere f n = s.pcnHere f n := by
  exact congrArg (fun p => ((List.range n).map (f + ·)).filter p) (funext (s.accept_counterHere c))

theorem State.mem_pcnHere {f n i : Nat} :
    i ∈ s.pcnHere f n ↔ (decide (f ≤ i) && decide (i < f + n) && s.counterHere i) = true := by
  have hrange : (∃ a, a < n ∧ f + a = i) ↔ f ≤ i ∧ i < f + n :=
    ⟨fun ⟨a, ha, hi⟩ => by omega, fun h => ⟨i - f, by omega, by omega⟩⟩
  simp [State.pcnHere, hrange]

/-- A change that does not matter twice changes the listed counters once and no other. -/
theorem State.counter_foldl_modCounter {f : Nat → Counter → Counter} (hf : ∀ i x, f i (f i x) = f i x) (is : List Nat)
    (s : State) (k : Nat) : (is.foldl (fun s i => s.modCounter i (f i)) s).counter k =
      if k ∈ is then f k (s.counter k) else s.counter k := by
  induction is generalizing s with
  | nil => simp
  | cons i is ih =>
    rw [List.foldl_cons, ih]
    by_cases hk : k = i
    · subst hk
      rw [State.counter_modCounter_self, hf, ite_self, if_pos List.mem_cons_self]
    · simp only [State.counter_modCounter_ne s _ hk, List.mem_cons, hk, false_or]

theorem State.accept_sameCapture (s : State) (c : Cmd) : s.SameCapture (s.accept c) := by
  unfold State.accept
  split
  · refine .trans ?_ (State.cntCmd_sameCapture ..)
    exact .of_pcn rfl
  · exact s.cntCmd_sameCapture 0xD7 1

/-! ### Selecting, clearing and reading -/

/-- A counter with a new selection, and the image as it was (R356). -/
def Counter.reselected (v i : Nat) (x : Counter) : Counter :=
  { selected i v with image := x.image, imageWraps := x.imageWraps }

/-- The counters of a list, selected anew. -/
def State.selectAll (s : State) (is : List Nat) (v : Nat) : State :=
  is.foldl (fun s i => s.modCounter i (Counter.reselected v i)) s

/-- The counters of a list, cleared. -/
def State.clearAll (s : State) (is : List Nat) : State :=
  is.foldl (fun s i => s.modCounter i fun x => { x with value := 0, wraps := 0 }) s

theorem completes_pcnSelect (h : Instant opPcnSelect c s) (h1 : c.le 16 2 ≤ 2783) (h2 : 1 ≤ c.le 18 2)
    (h3 : c.le 16 2 + c.le 18 2 ≤ 2784)
    (hsel : ∀ i ∈ s.pcnHere (c.le 16 2) (c.le 18 2), selClamped i (c.le 20 4) = false) :
    Completes (.pcnSelect c) 0x80 c s (fun t => t.selectAll (s.pcnHere (c.le 16 2) (c.le 18 2)) (c.le 20 4))
      (s.pcnHere (c.le 16 2) (c.le 18 2)).length := by
  have hany : ((s.pcnHere (c.le 16 2) (c.le 18 2)).any fun i => selClamped i (c.le 20 4)) = false := by
    simpa using hsel
  refine OpSpec.completes (o := opPcnSelect) rfl h rfl rfl ?_
  simp only [opPcnSelect, pcnRange_inside h1 h2 h3, State.accept_pcnHere, hany, Bool.false_eq_true, if_false,
    minClamp_none_left]
  rfl

theorem completes_pcnClear (h : Instant opPcnClear c s) (h1 : c.le 16 2 ≤ 2783) (h2 : 1 ≤ c.le 18 2)
    (h3 : c.le 16 2 + c.le 18 2 ≤ 2784) :
    Completes (.pcnClear c) 0x85 c s (fun t => t.clearAll (s.pcnHere (c.le 16 2) (c.le 18 2)))
      (s.pcnHere (c.le 16 2) (c.le 18 2)).length := by
  refine OpSpec.completes (o := opPcnClear) rfl h rfl rfl ?_
  simp only [opPcnClear, pcnRange_inside h1 h2 h3, State.accept_pcnHere]
  rfl

theorem pcnIndex_of_le (h1 : c.le 16 2 ≤ 2783) : c.ranged 16 2 0 (2784 - 1) = (c.le 16 2, none) :=
  Cmd.ranged_inside (Nat.zero_le _) h1

theorem pcnSource_of_eq {n : Nat} (h : c.byte 18 = n) (hn : n ≤ 1) : c.ranged 18 1 0 1 = (n, none) := by
  rw [Cmd.ranged_byte (Nat.zero_le _) (by omega), h]

theorem opPcnRead_live (h1 : c.le 16 2 ≤ 2783) (h0 : c.byte 18 = 0) (tk : Ticket) : opPcnRead.body tk c s = .ok
    (s.mgrWrite (c.le 24 8) (counterBytes (s.counter (c.le 16 2)).value (s.counter (c.le 16 2)).wraps s.now64))
    ((s.counter (c.le 16 2)).value % 2 ^ 32) := by
  simp only [opPcnRead, pcnIndex_of_le h1, pcnSource_of_eq h0 (by omega), if_true, minClamp_none_left]

theorem opPcnRead_waits (h1 : c.le 16 2 ≤ 2783) (hs : c.byte 18 = 1) (hg : s.pcn.gathering = true) (tk : Ticket) :
    opPcnRead.body tk c s =
      .later { s with pcn := { s.pcn with reads := s.pcn.reads ++ [(tk, c.le 16 2, c.le 24 8)] } } := by
  simp only [opPcnRead, pcnIndex_of_le h1, pcnSource_of_eq hs (by omega), Nat.one_ne_zero, if_false, hg, if_true,
    minClamp_none_right]

theorem opPcnRead_image (h1 : c.le 16 2 ≤ 2783) (hs : c.byte 18 = 1) (hg : s.pcn.gathering = false)
    (hv : s.pcn.imageValid = false) (tk : Ticket) : opPcnRead.body tk c s =
      .later ((s.mgrWrite (c.le 24 8) (List.replicate 16 0)).complete tk stOk 0) := by
  have hbytes : counterBytes 0 0 0 = List.replicate 16 0 := by decide
  simp only [opPcnRead, pcnIndex_of_le h1, pcnSource_of_eq hs (by omega), Nat.one_ne_zero, if_false, hg,
    minClamp_none_right, State.imageRead, hv, hbytes, Bool.false_eq_true]

/-- With no image a read answers zeros at once. -/
theorem completes_pcnRead_empty (h : Instant opPcnRead c s) (h1 : c.le 16 2 ≤ 2783) (hs : c.byte 18 = 1)
    (hg : s.pcn.gathering = false) (hv : s.pcn.imageValid = false) : Completes (.pcnRead c) 0x84 c s
      (fun t => t.mgrWrite (c.le 24 8) (List.replicate 16 0)) 0 := by
  obtain ⟨cs, hcs⟩ := s.accept_sameCapture c
  rw [Completes, OpSpec.answers (o := opPcnRead) rfl h rfl rfl (opPcnRead_image (s := s.accept c) h1 hs (by rw [hcs, hg])
    (by rw [hcs, hv]) _), Reply.finish_later]
  rfl

/-! ### Freezes and snapshots that fall due -/

/-- Nothing is gathered: a freeze is not blocked. -/
theorem State.freezeBlocked_of_idle (h : s.pcn.gathering = false) (b : Nat) : s.freezeBlocked b = false := by
  rw [State.freezeBlocked, h, Bool.false_and]

theorem State.freezeBlocked_of_gathering (h : s.pcn.gathering = true) {b : Nat} (hb : s.pcn.freezeFt ≠ b) :
    s.freezeBlocked b = true := by
  rw [State.freezeBlocked, h, Bool.true_and, bne_iff_ne]
  exact hb

theorem OpSpec.launchTicket_ft (o : OpSpec) (l : Launch) (s : State) : (o.launchTicket l (s.unqueue l)).ft = l.at' s := rfl

/-- A freeze or snapshot captures at its boundary. -/
theorem State.freezeRun_captures {b : Nat} (hb : s.pcn.freezeFt ≠ b) (tk : Ticket) (range : Option (Nat × Nat)) (late : Bool) :
    ∃ cs, (s.freezeRun tk range b late).pcn = { s.pcn.captured b with
      counters := cs
      snaps := s.pcn.snaps ++ (range.map fun r => { first := r.1, count := r.2, ticket := tk }).toList } := by
  have hat := State.freezeAt_sameCapture hb late
  cases range with
  | none =>
    obtain ⟨cs, hcs⟩ := hat.trans (State.complete_sameCapture _ tk stOk (s.freezeAt b late).pcn.freezeNum)
    exact ⟨cs, hcs.trans (by simp [Pcn.captured])⟩
  | some r =>
    obtain ⟨cs, hcs⟩ := hat
    refine ⟨cs, ?_⟩
    rw [State.freezeRun]
    dsimp only
    rw [hcs]
    rfl

/-- What LAUNCH_EXECUTE leaves of the captures is what the due action's body leaves, but for counts. -/
theorem exec_launch_sameCapture {o : OpSpec} {t : State} (h : Due o l s) (ho : opOf o.code = some o)
    (hb : o.body (o.launchTicket l (s.unqueue l)) l.cmd (s.unqueue l) = .later t) :
    ∃ u, exec .launchExecute s = .next u ∧ t.SameCapture u := by
  have hexec := OpSpec.launchExecute_due h ho
  rw [hb] at hexec
  exact ⟨_, hexec, (o.noted_sameCapture l s t).trans (s.framed_sameCapture _)⟩

theorem exec_pcnFreeze_due (h : Due opPcnFreeze l s) (hg : s.pcn.gathering = false) (hb : s.pcn.freezeFt ≠ l.at' s) :
    ∃ t, exec .launchExecute s = .next t ∧ t.pcn.freezeNum = (s.pcn.freezeNum + 1) % 2 ^ 32 ∧ t.pcn.freezeFt = l.at' s ∧
      t.pcn.frozen = true ∧ t.pcn.gathering = true := by
  have hbody : opPcnFreeze.body (opPcnFreeze.launchTicket l (s.unqueue l)) l.cmd (s.unqueue l) =
      .later ((s.unqueue l).freezeRun (opPcnFreeze.launchTicket l (s.unqueue l)) none (l.at' s) false) := by
    simp only [opPcnFreeze, OpSpec.launchTicket_ft, State.freezeBlocked_of_idle (s := s.unqueue l) hg, Bool.false_eq_true,
      if_false]
  obtain ⟨u, hexec, cs, hu⟩ := exec_launch_sameCapture h rfl hbody
  obtain ⟨ds, hrun⟩ := State.freezeRun_captures (s := s.unqueue l) hb (opPcnFreeze.launchTicket l (s.unqueue l)) none false
  refine ⟨u, hexec, ?_⟩
  rw [hu, hrun]
  exact ⟨rfl, rfl, rfl, rfl⟩

/-- The ticket of a due snapshot, with the clamp of its range. -/
def Launch.snapTicket (l : Launch) (s : State) : Ticket :=
  let tk := opPcnSnapshot.launchTicket l (s.unqueue l)
  { tk with clamp := minClamp tk.clamp (pcnRange l.cmd).2.2 }

theorem opPcnSnapshot_body : opPcnSnapshot.body (opPcnSnapshot.launchTicket l (s.unqueue l)) l.cmd (s.unqueue l) = .later
    (if (s.unqueue l).freezeBlocked (l.at' s) then
      (s.unqueue l).freezeDefer (l.snapTicket s) l.cmd (some ((pcnRange l.cmd).1, (pcnRange l.cmd).2.1))
    else (s.unqueue l).freezeRun (l.snapTicket s) (some ((pcnRange l.cmd).1, (pcnRange l.cmd).2.1)) (l.at' s) false) := rfl

theorem exec_pcnSnapshot_due (h : Due opPcnSnapshot l s) (hg : s.pcn.gathering = false) (hb : s.pcn.freezeFt ≠ l.at' s) :
    ∃ t, exec .launchExecute s = .next t ∧ t.pcn.freezeNum = (s.pcn.freezeNum + 1) % 2 ^ 32 ∧ t.pcn.freezeFt = l.at' s ∧
      t.pcn.gathering = true ∧ t.pcn.snaps.length = s.pcn.snaps.length + 1 := by
  have hbody := opPcnSnapshot_body (l := l) (s := s)
  rw [State.freezeBlocked_of_idle (s := s.unqueue l) hg, if_neg Bool.false_ne_true] at hbody
  obtain ⟨u, hexec, cs, hu⟩ := exec_launch_sameCapture h rfl hbody
  obtain ⟨ds, hrun⟩ := State.freezeRun_captures (s := s.unqueue l) hb (l.snapTicket s)
    (some ((pcnRange l.cmd).1, (pcnRange l.cmd).2.1)) false
  refine ⟨u, hexec, ?_⟩
  rw [hu, hrun]
  exact ⟨rfl, rfl, rfl, List.length_append⟩

theorem exec_pcnSnapshot_put_off (h : Due opPcnSnapshot l s) (hg : s.pcn.gathering = true) (hb : s.pcn.freezeFt ≠ l.at' s) :
    ∃ t, exec .launchExecute s = .next t ∧ t.pcn.freezeNum = s.pcn.freezeNum ∧ t.pcn.freezeLate = true ∧
      t.pcn.deferred.length = s.pcn.deferred.length + 1 := by
  have hbody := opPcnSnapshot_body (l := l) (s := s)
  rw [State.freezeBlocked_of_gathering (s := s.unqueue l) hg hb, if_pos rfl] at hbody
  obtain ⟨u, hexec, cs, hu⟩ := exec_launch_sameCapture h rfl hbody
  refine ⟨u, hexec, ?_⟩
  rw [hu]
  exact ⟨rfl, rfl, List.length_append⟩

end

theorem counterOpcodes : Claims.CounterOpcodes := by
  intro c l s here
  have hmem : ∀ i, (i ∈ s.pcnHere (c.le 16 2) (c.le 18 2)) = (here i = true) := fun i => propext State.mem_pcnHere
  have hmarks : (s.accept c).pcn.gathering = s.pcn.gathering ∧ (s.accept c).pcn.frozen = s.pcn.frozen := by
    obtain ⟨cs, hcs⟩ := s.accept_sameCapture c
    rw [hcs]
    exact ⟨rfl, rfl⟩
  refine ⟨fun h h1 h2 h3 hsel => ⟨_, completes_pcnSelect h h1 h2 h3 fun i hi => hsel i (hmem i ▸ hi), fun i => ?_⟩,
    fun h h1 h2 h3 => ⟨_, completes_pcnClear h h1 h2 h3, fun i => ?_⟩,
    fun h => OpSpec.completes (o := opPcnRelease) rfl h rfl rfl ?_,
    fun h h1 h0 => OpSpec.completes (o := opPcnRead) rfl h rfl rfl (opPcnRead_live h1 h0 _),
    fun h h1 hs hg => OpSpec.holds (o := opPcnRead) rfl h rfl rfl (opPcnRead_waits h1 hs (hmarks.1.trans hg) _),
    completes_pcnRead_empty, fun h => OpSpec.takesPlace (o := opPcnFreeze) rfl h rfl,
    fun h => OpSpec.takesPlace (o := opPcnSnapshot) rfl h rfl, exec_pcnFreeze_due, exec_pcnSnapshot_due,
    exec_pcnSnapshot_put_off⟩
  · rw [State.selectAll, State.counter_foldl_modCounter (f := Counter.reselected (c.le 20 4)) fun _ _ => rfl]
    simp only [hmem]
    rfl
  · rw [State.clearAll, State.counter_foldl_modCounter (f := fun _ x => { x with value := 0, wraps := 0 }) fun _ _ => rfl]
    simp only [hmem]
  · simp only [opPcnRelease, hmarks.2]

end Sys2Proof.Machine
end

section
/-!
PROOFS. The recorder's opcodes (R366, R374, R376).
-/

namespace Sys2Proof.Machine

/-! ### What acceptance leaves of the recorder -/

section
variable (s : State) (c : Cmd)

@[simp] theorem State.accept_opSeconds : (s.accept c).opSeconds = s.opSeconds := by
  simp only [State.opSeconds, State.accept_evr, State.accept_ft]

@[simp] theorem State.accept_recordImage (r : Record) : (s.accept c).recordImage r = s.recordImage r := by
  simp only [State.recordImage, State.accept_fwRunning]

@[simp] theorem State.accept_composed : (s.accept c).composed = s.composed := by
  simp only [State.composed, State.accept_evr, State.accept_opSeconds, State.now64, State.accept_clock]

@[simp] theorem State.accept_runSlot : (s.accept c).runSlot = s.runSlot := by
  simp only [State.runSlot, State.accept_msc]

end

/-! ### Reading -/

section
variable {c : Cmd} {s : State}

theorem evrQuerySelector_of_eq {n : Nat} (h : c.byte 16 = n) (hn : n ≤ 6) : c.ranged 16 1 0 6 = (n, none) := by
  rw [Cmd.ranged_byte (Nat.zero_le _) (by omega), h]

theorem evrReadSelector_of_eq {n : Nat} (h : c.byte 16 = n) (hn : n ≤ 4) : c.ranged 16 1 0 4 = (n, none) := by
  rw [Cmd.ranged_byte (Nat.zero_le _) (by omega), h]

/-- A slot whose digest matches gives its record's bytes. -/
theorem State.slotImage_of_valid {r : Record} (h : r.valid = true) : s.slotImage (some r) = (s.recordImage r, true) :=
  if_pos h

theorem opEvrRead_composed (hk : c.byte 16 = 0) (tk : Ticket) :
    opEvrRead.body tk c s = .ok (s.mgrWrite (c.le 32 8) (s.recordImage s.composed)) 16384 := by
  simp only [opEvrRead, evrReadSelector_of_eq hk (by omega)]

theorem opEvrRead_newest {r : Record} (hk : c.byte 16 = 1) (hlog : tget none s.evr.log s.evr.recSlot = some r)
    (hv : r.valid = true) (tk : Ticket) :
    opEvrRead.body tk c s = .ok (s.mgrWrite (c.le 32 8) (s.recordImage r)) (s.recordImage r).length := by
  simp only [opEvrRead, evrReadSelector_of_eq hk (by omega), hlog, State.slotImage_of_valid hv, if_true]

theorem opEvrRead_erased (hk : c.byte 16 = 2) (hn : c.le 18 2 ≤ 991) (hlog : tget none s.evr.log (c.le 18 2) = none)
    (tk : Ticket) : opEvrRead.body tk c s = .ok (s.mgrWrite (c.le 32 8) (List.replicate 16384 0xFF)) 0 := by
  simp only [opEvrRead, evrReadSelector_of_eq hk (by omega), Cmd.ranged_inside (Nat.zero_le _) hn, hlog, State.slotImage,
    Bool.false_eq_true, if_false, minClamp_none_left]

/-! ### Clearing -/

/-- A challenge of open bytes is issued for 60 s. -/
def State.challenged (s : State) : State :=
  { s with free := s.free + 1
           evr := { s.evr with challenge := some (leBytes 16 (Config.freeNat s.free), s.clock + ms16 60000)
                               challengeN := s.evr.challengeN + 1 } }

theorem opEvrClear_challenge (hm : c.byte 16 = 0) (tk : Ticket) : opEvrClear.body tk c s =
    .ok (s.challenged.mgrWrite (c.le 32 8) (leBytes 16 (Config.freeNat s.free))) 0 := by
  have hsel : c.ranged 16 1 0 1 = (0, none) := by rw [Cmd.ranged_byte (Nat.zero_le _) (by omega), hm]
  simp only [opEvrClear, hsel, if_true]
  rfl

/-- Whether the signature in the manager's memory verifies over the challenge (R374). -/
def State.clearSigned (s : State) (c : Cmd) (ch : List Byte) : Bool :=
  Config.mldsaVerify (imgClearKey s.runSlot (c.byte 24)) (clearDigest ch (c.le 20 4)) (s.mgrRead (c.le 32 8) 2420)

/-- The due that a verified clear leaves. -/
def clearDue (c : Cmd) (tk : Ticket) (ch : List Byte) : SwapDue :=
  { kind := 3, ticket := some tk, scope := c.le 20 4 % 2 ^ 10, key := c.byte 24, challenge := ch }

section
variable (hm : c.byte 16 = 1) (hk : c.byte 24 ≤ 3) (tk : Ticket)
include hm hk

theorem opEvrClear_missing (hch : s.evr.challenge = none) :
    opEvrClear.body tk c s = .bad (s.clearDenied (c.byte 24) 1) stDenied := by
  have hsel : c.ranged 16 1 0 1 = (1, none) := by rw [Cmd.ranged_byte (Nat.zero_le _) hm.le, hm]
  simp only [opEvrClear, hsel, Cmd.ranged_byte (Nat.zero_le _) hk, Nat.one_ne_zero, if_false, hch, minClamp_none_left]

variable {ch : List Byte} {exp : Nat} (hch : s.evr.challenge = some (ch, exp))
include hch

theorem opEvrClear_answered : opEvrClear.body tk c s =
    if exp ≤ s.clock then .bad (s.clearDenied (c.byte 24) 1) stDenied
    else if s.clearSigned c ch then
      .later { s with evr := { s.evr with challenge := none, due := s.evr.due ++ [clearDue c tk ch] } }
    else .bad (s.clearDenied (c.byte 24) 2) stDenied := by
  have hsel : c.ranged 16 1 0 1 = (1, none) := by rw [Cmd.ranged_byte (Nat.zero_le _) hm.le, hm]
  simp only [opEvrClear, hsel, Cmd.ranged_byte (Nat.zero_le _) hk, Nat.one_ne_zero, if_false, hch, minClamp_none_right]
  rfl

end

theorem State.accept_clearSigned (s : State) (c : Cmd) (ch : List Byte) : (s.accept c).clearSigned c ch = s.clearSigned c ch := by
  simp only [State.clearSigned, State.accept_runSlot, State.accept_mgrRead]

end

theorem recorderOpcodes : Claims.RecorderOpcodes := by
  intro c s
  refine ⟨fun h hk => OpSpec.completes (o := opEvrQuery) rfl h rfl rfl ?_,
    fun h hk => OpSpec.completes (o := opEvrQuery) rfl h rfl rfl ?_,
    fun h hk => OpSpec.completes (o := opEvrQuery) rfl h rfl rfl ?_,
    fun h hk => OpSpec.completes (o := opEvrRead) rfl h rfl rfl ?_,
    fun r h hk hlog hv => OpSpec.completes (o := opEvrRead) rfl h rfl rfl ?_,
    fun h hk hn hlog => OpSpec.completes (o := opEvrRead) rfl h rfl rfl (opEvrRead_erased hk hn (by rwa [State.accept_evr]) _),
    fun h => OpSpec.holds (o := opEvrWriteNow) rfl h rfl rfl rfl,
    fun h hm => OpSpec.completes (o := opEvrClear) rfl h rfl rfl ?_,
    fun h hm hk hch => OpSpec.answersWith (o := opEvrClear) rfl h rfl rfl
      (opEvrClear_missing hm hk _ (by rwa [State.accept_evr])),
    fun ch exp h hm hk hch hexp => OpSpec.answersWith (o := opEvrClear) rfl h rfl rfl ?_,
    fun ch exp h hm hk hch hexp hsig => OpSpec.answersWith (o := opEvrClear) rfl h rfl rfl ?_,
    fun ch exp h hm hk hch hexp hsig => OpSpec.holds (o := opEvrClear) rfl h rfl rfl ?_,
    fun h h1 h2 => OpSpec.completes (o := opEvrCfg) rfl h rfl rfl ?_⟩
  · simp only [opEvrQuery, evrQuerySelector_of_eq hk (by omega), State.accept_opSeconds, id]
  · simp only [opEvrQuery, evrQuerySelector_of_eq hk (by omega), State.accept_evr, id]
  · simp only [opEvrQuery, evrQuerySelector_of_eq hk (by omega), State.accept_evr, id]
  · rw [opEvrRead_composed hk, State.accept_composed, State.accept_recordImage]
  · rw [opEvrRead_newest (s := s.accept c) hk (by rwa [State.accept_evr]) hv, State.accept_recordImage]
  · rw [opEvrClear_challenge hm, State.challenged, State.accept_free, State.accept_clock]
  · rw [opEvrClear_answered hm hk _ (by rwa [State.accept_evr]), State.accept_clock, if_pos hexp]
    rfl
  · rw [opEvrClear_answered hm hk _ (by rwa [State.accept_evr]), State.accept_clock, if_neg (Nat.not_le.2 hexp),
      State.accept_clearSigned, if_neg (show ¬ s.clearSigned c ch = true from ne_true_of_eq_false hsig)]
    rfl
  · rw [opEvrClear_answered hm hk _ (by rwa [State.accept_evr]), State.accept_clock, if_neg (Nat.not_le.2 hexp),
      State.accept_clearSigned, if_pos (show s.clearSigned c ch = true from hsig)]
    rfl
  · simp only [opEvrCfg, Cmd.ranged_inside h1 h2]

/-- Settles O34: the counter opcodes by their bodies and what a capture leaves, the recorder's by the branches of theirs. -/
theorem counterAndRecorderOpcodes : Obligations.CounterAndRecorderOpcodes := by
  unfold Obligations.CounterAndRecorderOpcodes
  exact ⟨counterOpcodes, recorderOpcodes⟩

end Sys2Proof.Machine
end

section
/-!
PROOFS. The recorder's events: samples, swaps, records, time entries, the clearing challenge and the start (R361 to R371).
-/

namespace Sys2Proof.Machine

/-! ### What leaves the recorder but for its banks and the journal -/

/-- The two banks and the journal may differ. -/
def State.SameRecorder (s t : State) : Prop :=
  ∃ b0 b1 j n, t.evr = { s.evr with bank0 := b0, bank1 := b1, journal := j, journalNext := n }

section
variable {s t u : State}

theorem State.SameRecorder.of_evr (h : t.evr = s.evr) : s.SameRecorder t := ⟨_, _, _, _, h⟩

theorem State.SameRecorder.trans (h : s.SameRecorder t) (h' : t.SameRecorder u) : s.SameRecorder u := by
  obtain ⟨_, _, _, _, hs⟩ := h
  obtain ⟨b0, b1, j, n, ht⟩ := h'
  exact ⟨b0, b1, j, n, by rw [ht, hs]⟩

theorem State.Notes.sameRecorder (h : s.Notes t) : s.SameRecorder t := by
  obtain ⟨_, _, _, _, _, _, _, _, _, rfl⟩ := h
  exact ⟨_, _, _, _, rfl⟩

variable (s)

theorem State.tally_sameRecorder (i n : Nat) : s.SameRecorder (s.tally i n) := by
  unfold State.tally
  dsimp only
  split <;> exact ⟨_, _, _, _, rfl⟩

theorem State.tallied_sameRecorder (h : Prop) [Decidable h] (i n : Nat) :
    s.SameRecorder (if h then s else s.tally i n) := by
  split
  · exact .of_evr rfl
  · exact s.tally_sameRecorder i n

theorem State.noteReady_sameRecorder : s.SameRecorder s.noteReady := by
  obtain ⟨_, _, h⟩ := s.noteReady_writes
  exact .of_evr (by rw [h])

@[simp] theorem State.framed_evr (u : State) : (s.framed u).evr = u.evr := by
  obtain ⟨_, _, _, _, _, h, -⟩ := State.framed_parts s u
  rw [h]

end

/-! ### The active bank -/

section
variable (e : Evr) (b : Bank)

theorem Evr.active_setActive : (e.setActive b).active = b := by
  unfold Evr.setActive Evr.active
  split <;> simp_all

theorem Evr.inactive_setActive : (e.setActive b).inactive = e.inactive := by
  unfold Evr.setActive Evr.inactive
  split <;> simp_all

/-- A change of the active bank leaves all else of the recorder. -/
theorem Evr.setActive_writes : ∃ b0 b1, e.setActive b = { e with bank0 := b0, bank1 := b1 } := by
  unfold Evr.setActive
  split <;> exact ⟨_, _, rfl⟩

end

/-- The readings have been taken at the same instant, and the inactive bank is the same. -/
structure State.SameInterval (s t : State) : Prop where
  second : t.evr.lastSecond = s.evr.lastSecond
  secs : t.opSeconds = s.opSeconds
  cycles : t.evr.cycles = s.evr.cycles
  inactive : t.evr.inactive = s.evr.inactive

theorem State.SameInterval.trans {s t u : State} (h : s.SameInterval t) (h' : t.SameInterval u) : s.SameInterval u :=
  ⟨h'.second.trans h.second, h'.secs.trans h.secs, h'.cycles.trans h.cycles, h'.inactive.trans h.inactive⟩

section
variable (s : State) (f : Bank → Bank)

theorem State.active_modActive : (s.modActive f).evr.active = f s.evr.active := Evr.active_setActive ..

theorem State.modActive_sameInterval : s.SameInterval (s.modActive f) := by
  obtain ⟨b0, b1, h⟩ := s.evr.setActive_writes (f s.evr.active)
  have hevr : (s.modActive f).evr = { s.evr with bank0 := b0, bank1 := b1 } := h
  exact ⟨by rw [hevr], by rw [State.opSeconds, hevr]; rfl, by rw [hevr], Evr.inactive_setActive ..⟩

end

/-! ### Histograms and extremes -/

section
variable (s : State)

theorem binOf_le (v : Int) : binOf v ≤ 255 := by
  simp only [binOf, clampNat]
  omega

/-- A count in a bin of another histogram leaves the first one's bins. -/
theorem State.bins_histAdd_of_pos {h bin k : Nat} (hh : 0 < h) (hk : k ≤ 255) :
    tget 0 (s.histAdd h bin).evr.active.bins k = tget 0 s.evr.active.bins k := by
  rw [State.histAdd, State.active_modActive]
  exact tget_tset_ne _ _ (by omega)

theorem State.bins_histAdd_first (bin : Nat) : tget 0 (s.histAdd 0 bin).evr.active.bins bin =
    satAdd 32 (tget 0 s.evr.active.bins bin) 1 := by
  rw [State.histAdd, State.active_modActive, Nat.mul_zero, Nat.zero_add]
  exact tget_tset_self ..

theorem State.extremes_histAdd (h bin : Nat) : (s.histAdd h bin).evr.active.extremes = s.evr.active.extremes := by
  rw [State.histAdd, State.active_modActive]

theorem State.histAdd_sameInterval (h bin : Nat) : s.SameInterval (s.histAdd h bin) := State.modActive_sameInterval ..

theorem State.bins_extremeAdd (q : Nat) (v : Int) : (s.extremeAdd q v).evr.active.bins = s.evr.active.bins := by
  rw [State.extremeAdd, State.active_modActive]

/-- A sample of another quantity leaves the first extreme. -/
theorem State.extremes_extremeAdd_of_pos {q : Nat} (hq : 0 < q) (v : Int) :
    tget none (s.extremeAdd q v).evr.active.extremes 0 = tget none s.evr.active.extremes 0 := by
  rw [State.extremeAdd, State.active_modActive]
  exact (tget_tset_ne _ _ (by omega)).trans (tget_tset_ne _ _ (by omega))

theorem State.extremes_extremeAdd_first (v : Int) : tget none (s.extremeAdd 0 v).evr.active.extremes 0 =
    pickExtreme true (tget none s.evr.active.extremes 0) (some { value := v, secs := s.opSeconds, cycles := s.evr.cycles }) := by
  rw [State.extremeAdd, State.active_modActive]
  exact (tget_tset_ne _ _ (by omega)).trans (tget_tset_self ..)

theorem State.extremeAdd_sameInterval (q : Nat) (v : Int) : s.SameInterval (s.extremeAdd q v) := by
  unfold State.extremeAdd
  exact State.modActive_sameInterval ..

end

/-! ### A sample -/

section
variable (s : State) (r : Readings)

/-- The six histograms of a sample. -/
def State.histAdds : State :=
  (((((s.histAdd 0 (binOf (r.die0 / 16 + 64))).histAdd 1 (binOf (r.die1 / 16 + 64))).histAdd 2
    (binOf (r.memory / 16 + 64))).histAdd 3 (binOf (r.volts / 4))).histAdd 4 (binOf (r.watts / 64))).histAdd 5
    (min 255 (r.lanes / 4))

/-- The five extremes of a sample. -/
def State.extremeAdds : State :=
  ((((s.extremeAdd 0 r.die0).extremeAdd 1 r.die1).extremeAdd 2 r.memory).extremeAdd 3 r.volts).extremeAdd 4 r.watts

theorem State.bins_histAdds : tget 0 (s.histAdds r).evr.active.bins (binOf (r.die0 / 16 + 64)) =
    satAdd 32 (tget 0 s.evr.active.bins (binOf (r.die0 / 16 + 64))) 1 := by
  have hbin := binOf_le (r.die0 / 16 + 64)
  rw [State.histAdds, State.bins_histAdd_of_pos _ (by decide) hbin, State.bins_histAdd_of_pos _ (by decide) hbin,
    State.bins_histAdd_of_pos _ (by decide) hbin, State.bins_histAdd_of_pos _ (by decide) hbin,
    State.bins_histAdd_of_pos _ (by decide) hbin, State.bins_histAdd_first]

theorem State.extremes_histAdds : (s.histAdds r).evr.active.extremes = s.evr.active.extremes := by
  simp only [State.histAdds, State.extremes_histAdd]

theorem State.histAdds_sameInterval : s.SameInterval (s.histAdds r) :=
  (((((s.histAdd_sameInterval ..).trans (State.histAdd_sameInterval ..)).trans (State.histAdd_sameInterval ..)).trans
    (State.histAdd_sameInterval ..)).trans (State.histAdd_sameInterval ..)).trans (State.histAdd_sameInterval ..)

theorem State.bins_extremeAdds : (s.extremeAdds r).evr.active.bins = s.evr.active.bins := by
  simp only [State.extremeAdds, State.bins_extremeAdd]

theorem State.extremes_extremeAdds : tget none (s.extremeAdds r).evr.active.extremes 0 =
    pickExtreme true (tget none s.evr.active.extremes 0)
      (some { value := r.die0, secs := s.opSeconds, cycles := s.evr.cycles }) := by
  rw [State.extremeAdds, State.extremes_extremeAdd_of_pos _ (by decide), State.extremes_extremeAdd_of_pos _ (by decide),
    State.extremes_extremeAdd_of_pos _ (by decide), State.extremes_extremeAdd_of_pos _ (by decide),
    State.extremes_extremeAdd_first]

theorem State.extremeAdds_sameInterval : s.SameInterval (s.extremeAdds r) :=
  ((((s.extremeAdd_sameInterval ..).trans (State.extremeAdd_sameInterval ..)).trans (State.extremeAdd_sameInterval ..)).trans
    (State.extremeAdd_sameInterval ..)).trans (State.extremeAdd_sameInterval ..)

/-- The second of the sample has been noted. -/
def State.secondNoted : State := { s with evr := { s.evr with lastSecond := s.ft / 10 ^ 9 } }

variable {s}

/-- Within the hour a sample adds to its histograms and extremes and widens the hour's swing. -/
theorem State.recorderSample_in_hour (h1 : s.evr.lastSecond < s.ft / 10 ^ 9) (h2 : s.opSeconds / 3600 ≤ s.evr.lastHour) :
    ∃ hour, s.recorderSample r = { (s.secondNoted.histAdds r).extremeAdds r with
      evr := { ((s.secondNoted.histAdds r).extremeAdds r).evr with hour := some hour } } := by
  have hhour : ¬ decide (s.evr.lastHour < State.opSeconds { s with evr := { s.evr with lastSecond := s.ft / 10 ^ 9 } } / 3600) =
      true := fun h => Nat.not_lt.2 h2 (of_decide_eq_true h)
  unfold State.recorderSample
  rw [if_neg (Nat.not_le.2 h1)]
  dsimp only
  rw [if_neg hhour]
  exact ⟨_, rfl⟩

end

theorem exec_recorderSample {s : State} (r : Readings) (h : s.held = none) (h1 : s.evr.lastSecond < s.ft / 10 ^ 9)
    (h2 : s.opSeconds / 3600 ≤ s.evr.lastHour) :
    ∃ t, exec (.recorderSample r) s = .next t ∧ t.evr.lastSecond = s.ft / 10 ^ 9 ∧
      tget 0 t.evr.active.bins (256 * 0 + binOf (r.die0 / 16 + 64)) =
        satAdd 32 (tget 0 s.evr.active.bins (binOf (r.die0 / 16 + 64))) 1 ∧
      tget none t.evr.active.extremes 0 = pickExtreme true (tget none s.evr.active.extremes 0)
        (some { value := r.die0, secs := s.opSeconds, cycles := s.evr.cycles }) ∧
      t.evr.inactive = s.evr.inactive := by
  refine ⟨_, act_running h fun s => s.recorderSample r, ?_⟩
  obtain ⟨hour, hsample⟩ := State.recorderSample_in_hour r h1 h2
  have hhist := s.secondNoted.histAdds_sameInterval r
  have hboth := hhist.trans ((s.secondNoted.histAdds r).extremeAdds_sameInterval r)
  rw [State.framed_evr, hsample]
  refine ⟨hboth.second, ?_, ?_, hboth.inactive⟩
  · rw [Nat.mul_zero, Nat.zero_add]
    refine Eq.trans ?_ (s.secondNoted.bins_histAdds r)
    rw [← State.bins_extremeAdds (s.secondNoted.histAdds r) r]
    rfl
  · refine ((s.secondNoted.histAdds r).extremes_extremeAdds r).trans ?_
    rw [State.extremes_histAdds, hhist.secs, hhist.cycles]
    rfl

/-! ### Swaps -/

section
variable {s : State}

theorem State.notePeriodic_of_early (h : s.ft < s.evr.nextPeriodic) : s.notePeriodic = s := if_neg (Nat.not_le.2 h)

theorem State.recordSwap_of_writing (hw : s.evr.writing.isSome = true) (hp : s.ft < s.evr.nextPeriodic) :
    s.recordSwap = s := by
  unfold State.recordSwap
  rw [State.notePeriodic_of_early hp]
  dsimp only
  rw [hw, Bool.or_true, Bool.true_or, if_pos rfl]

/-- The banks are exchanged and a record is on its way (R365). -/
theorem State.recordSwap_of_due (hr : s.glb.evrRun = true) (hp : s.ft < s.evr.nextPeriodic) (hd : s.evr.due ≠ [])
    (hw : s.evr.writing = none) (hl : s.evr.lastSwap = none) (hi : s.evr.inactive = {}) :
    ∃ e : Evr, State.SameRecorder { s with evr := e } s.recordSwap ∧ e.second = (!s.evr.second) ∧
      e.lastSwap = some s.clock ∧ e.writing.isSome = true ∧ e.log = s.evr.log := by
  have hgo : ¬ (!s.glb.evrRun || s.evr.due.isEmpty || s.evr.writing.isSome || !true) = true := by simp [hr, hd, hw]
  unfold State.recordSwap
  rw [State.notePeriodic_of_early hp]
  dsimp only
  rw [hl]
  dsimp only
  rw [if_neg hgo, hi]
  exact ⟨_, State.tallied_sameRecorder _ _ 23 _, rfl, rfl, rfl, rfl⟩

theorem exec_recordSwap (h : s.held = none) (hr : s.glb.evrRun = true) (hp : s.ft < s.evr.nextPeriodic) (hd : s.evr.due ≠ [])
    (hw : s.evr.writing = none) (hl : s.evr.lastSwap = none) (hi : s.evr.inactive = {}) :
    ∃ t, exec .recordSwap s = .next t ∧ t.evr.second = !s.evr.second ∧ t.evr.lastSwap = some s.clock ∧
      t.evr.writing.isSome = true ∧ t.evr.log = s.evr.log := by
  obtain ⟨e, ⟨b0, b1, j, n, hsame⟩, hrest⟩ := State.recordSwap_of_due hr hp hd hw hl hi
  refine ⟨_, act_running h State.recordSwap, ?_⟩
  rw [State.framed_evr, hsame]
  exact hrest

/-! ### Records -/

theorem tget_putSlot_self (t : Tbl (Option Record)) (n : Nat) (r : Record) : tget none (putSlot t n r) n = some r :=
  tget_tset_self ..

/-- The record has been verified in its slot, before its event goes out (R365). -/
def Evr.verified (e : Evr) (q : Record) (n : Nat) : Evr :=
  Evr.setInactive { e with
    log := putSlot e.log ((e.recSlot + n) % 992) q, recSlot := (e.recSlot + n) % 992, recSeq := q.seq, life := q.image
    writing := none } {}

theorem State.recordWriteDone_of_ok {q : Record} {n : Nat} (hw : s.evr.writing = some (q, n, [])) :
    State.SameRecorder { s with evr := s.evr.verified q n } (s.recordWriteDone true) := by
  unfold State.recordWriteDone
  rw [hw]
  dsimp only
  rw [if_pos rfl, List.foldl_nil]
  exact (State.tally_sameRecorder ..).trans (State.event_notes ..).sameRecorder

theorem Evr.setInactive_writes (e : Evr) (b : Bank) : ∃ b0 b1, e.setInactive b = { e with bank0 := b0, bank1 := b1 } := by
  unfold Evr.setInactive
  split <;> exact ⟨_, _, rfl⟩

theorem exec_recordWriteDone_ok (h : s.held = none) {q : Record} {n : Nat} (hw : s.evr.writing = some (q, n, [])) :
    ∃ t, exec (.recordWriteDone true) s = .next t ∧ t.evr.writing = none ∧ t.evr.recSeq = q.seq ∧
      t.evr.recSlot = (s.evr.recSlot + n) % 992 ∧ t.evr.life = q.image ∧
      tget none t.evr.log ((s.evr.recSlot + n) % 992) = some q := by
  obtain ⟨b0, b1, j, m, hsame⟩ := State.recordWriteDone_of_ok hw
  obtain ⟨c0, c1, hver⟩ := Evr.setInactive_writes _ _
  refine ⟨_, act_running h fun s => s.recordWriteDone true, ?_⟩
  rw [State.framed_evr, hsame, Evr.verified, hver]
  exact ⟨rfl, rfl, rfl, rfl, tget_putSlot_self ..⟩

theorem State.recordWriteDone_of_failed {q : Record} {n : Nat} {ds : List SwapDue} (hw : s.evr.writing = some (q, n, ds))
    (hn : n < 3) : s.recordWriteDone false = { s with evr := { s.evr with
      log := putSlot s.evr.log ((s.evr.recSlot + n) % 992) { q with valid := false }, writing := some (q, n + 1, ds) } } := by
  unfold State.recordWriteDone
  rw [hw]
  dsimp only
  rw [if_neg Bool.false_ne_true, if_pos hn]

/-- The record's last try has failed: what it held falls due again (R368). -/
def Evr.lastFailed (e : Evr) (q : Record) (ds : List SwapDue) : Evr :=
  { e with log := putSlot e.log ((e.recSlot + 3) % 992) { q with valid := false }, writing := none, carried := ds ++ e.carried
           err := e.err ||| 1 }

theorem State.recordWriteDone_of_last {q : Record} {ds : List SwapDue} (hw : s.evr.writing = some (q, 3, ds)) :
    ∃ t64 fields, s.recordWriteDone false =
      State.record { s with evr := s.evr.lastFailed q ds } 0x90 93 t64 fields := by
  unfold State.recordWriteDone
  rw [hw]
  dsimp only
  rw [if_neg Bool.false_ne_true, if_neg (Nat.lt_irrefl 3)]
  exact ⟨_, _, rfl⟩

theorem exec_recordWriteDone_last (h : s.held = none) {q : Record} {ds : List SwapDue} (hw : s.evr.writing = some (q, 3, ds)) :
    ∃ t, exec (.recordWriteDone false) s = .next t ∧ t.evr.writing = none ∧ t.evr.carried = ds ++ s.evr.carried ∧
      t.evr.due = s.evr.due ∧ t.evr.err.getLsbD 0 = true ∧ t.evr.recSeq = s.evr.recSeq ∧
      (t.devRing 1).seq = ((s.devRing 1).seq + 1) % 2 ^ 32 := by
  obtain ⟨t64, fields, hlast⟩ := State.recordWriteDone_of_last hw
  obtain ⟨b0, b1, j, m, hsame⟩ := (State.record_notes { s with evr := s.evr.lastFailed q ds } 0x90 93 t64 fields).sameRecorder
  refine ⟨_, act_running h fun s => s.recordWriteDone false, ?_⟩
  rw [State.framed_evr, State.framed_devRing, hlast, State.record_seq, hsame]
  refine ⟨rfl, rfl, rfl, ?_, rfl, rfl⟩
  change (s.evr.err ||| 1).getLsbD 0 = true
  simp

/-! ### Time entries -/

/-- The time entries with a new one, the sectors behind erased (R370). -/
def Evr.timed (e : Evr) (t : TimeRec) : List TimeRec := (e.times ++ [t]).drop ((e.times ++ [t]).length - (513 + t.seq % 256))

theorem Evr.timed_last (e : Evr) (t : TimeRec) : (e.timed t).getLast? = some t := by
  have hlen : (e.times ++ [t]).length - (513 + t.seq % 256) < (e.times ++ [t]).length := by
    rw [List.length_append, List.length_singleton]
    omega
  rw [Evr.timed, List.getLast?_drop, if_neg (Nat.not_le.2 hlen), List.getLast?_concat]

theorem Evr.timed_length (e : Evr) (t : TimeRec) : (e.timed t).length ≤ 1024 := by
  rw [Evr.timed, List.length_drop]
  omega

theorem State.timeEntry_periodic (hd : s.evr.nextTime ≤ s.opSeconds) : ∃ t : TimeRec, t.secs = s.opSeconds ∧
    State.SameRecorder { s with evr := { s.evr with nextTime := (s.opSeconds / 600 + 1) * 600, times := s.evr.timed t } }
      (s.timeEntry .periodic) := by
  unfold State.timeEntry
  dsimp only
  rw [if_pos hd]
  exact ⟨_, rfl, State.tally_sameRecorder ..⟩

theorem exec_timeEntry_periodic (h : s.held = none) (hd : s.evr.nextTime ≤ s.opSeconds) :
    ∃ t, exec (.timeEntry .periodic) s = .next t ∧ (t.evr.times.getLast?).map (·.secs) = some s.opSeconds ∧
      t.evr.times.length ≤ 1024 ∧ t.evr.nextTime = (s.opSeconds / 600 + 1) * 600 := by
  obtain ⟨t, ht, b0, b1, j, n, hsame⟩ := State.timeEntry_periodic hd
  refine ⟨_, act_running h fun s => s.timeEntry .periodic, ?_⟩
  rw [State.framed_evr, hsame]
  dsimp only
  exact ⟨by rw [Evr.timed_last, Option.map_some, ht], Evr.timed_length .., rfl⟩

/-! ### The start -/

/-- The recorder with an empty load, of an empty log and no time entries (R371). -/
def Evr.emptied (e : Evr) (cycles : Nat) : Evr :=
  { e with s0 := max 0 0, cycles := cycles, timeMerged := decide (0 < 0), life := {}, recSeq := 0, recSlot := e.recSlot
           clears := 0, log := [], times := [], emptyLoad := true, due := e.due ++ [{ kind := 4 }], nextPeriodic := e.period * 60000000000
           nextTime := (max 0 0 / 600 + 1) * 600, lastHour := max 0 0 / 3600 }

/-- The start is tallied by its cause (Table 14-4). -/
def State.startTallied (s : State) (cause : Nat) : State :=
  match cause with
  | 2 => s.tally 1
  | 3 => s.tally 2
  | 4 => s.tally 3
  | 5 => s.tally 4
  | _ => s

/-- Tallies of the start leave the rings and the global unit, and the recorder but for its banks. -/
theorem State.startTallied_keeps (s : State) (cause : Nat) : (s.startTallied cause).cmd = s.cmd ∧
    (s.startTallied cause).glb = s.glb ∧ s.SameRecorder (s.startTallied cause) := by
  have htally : ∀ i, (s.tally i).cmd = s.cmd ∧ (s.tally i).glb = s.glb ∧ s.SameRecorder (s.tally i) := fun i =>
    ⟨s.tally_cmd i 1, s.tally_glb i 1, s.tally_sameRecorder i 1⟩
  unfold State.startTallied
  split
  · exact htally 1
  · exact htally 2
  · exact htally 3
  · exact htally 4
  · exact ⟨rfl, rfl, .of_evr rfl⟩

/-- A start after power-up or brown-out (R371). -/
def poweredStart (cause : Nat) : Bool := cause == 1 || cause == 5

/-- The image is loaded empty and EVR_RUN set. -/
def State.emptyLoaded (s : State) : State :=
  { s with evr := s.evr.emptied (max 0 0 + bit (poweredStart s.glb.causeModule)), glb := { s.glb with evrRun := true } }

/-- Nothing stored: neither a record nor a time entry is found, which two error records say. -/
def State.emptyRecorded (s : State) : State :=
  (s.emptyLoaded.record 0x91 93 s.emptyLoaded.now64 [(1, 1), (2, 0)]).record 0x91 93
    (s.emptyLoaded.record 0x91 93 s.emptyLoaded.now64 [(1, 1), (2, 0)]).now64 [(1, 2), (2, 0)]

theorem State.evrLoad_of_empty (hr : s.glb.evrRun = false) (hf : s.glb.ftuRun = true) (hl : s.evr.log = [])
    (ht : s.evr.times = []) : s.evrLoad =
      ((if poweredStart s.glb.causeModule then s.emptyRecorded.tally 0 else s.emptyRecorded).startTallied
        s.glb.causeModule).noteReady := by
  have hgo : ¬ (s.glb.evrRun || !s.glb.ftuRun) = true := by simp [hr, hf]
  unfold State.evrLoad
  rw [if_neg hgo]
  dsimp only
  rw [hl, ht]
  rfl

theorem exec_evrRun_empty (h : s.held = none) (hr : s.glb.evrRun = false) (hf : s.glb.ftuRun = true) (hl : s.evr.log = [])
    (ht : s.evr.times = []) :
    ∃ t, exec .evrRun s = .next t ∧ t.glb.evrRun = true ∧ t.evr.emptyLoad = true ∧ t.evr.s0 = 0 ∧ t.evr.life = {} ∧
      t.evr.cycles = bit (s.glb.causeModule == 1 || s.glb.causeModule == 5) ∧
      t.evr.due = s.evr.due ++ [{ kind := 4 }] ∧ (t.devRing 1).seq = ((s.devRing 1).seq + 2) % 2 ^ 32 := by
  have hseq : (s.emptyRecorded.devRing 1).seq = ((s.devRing 1).seq + 2) % 2 ^ 32 := by
    rw [State.emptyRecorded, State.record_seq, State.record_seq]
    exact Nat.mod_add_mod _ _ 1
  have hglb : s.emptyRecorded.glb = s.emptyLoaded.glb := by rw [State.emptyRecorded, State.record_glb, State.record_glb]
  have hload : s.emptyLoaded.SameRecorder s.emptyRecorded :=
    ((s.emptyLoaded.record_notes ..).trans (State.record_notes ..)).sameRecorder
  generalize hu : (if poweredStart s.glb.causeModule then s.emptyRecorded.tally 0 else s.emptyRecorded) = u
  have hkeeps : u.cmd = s.emptyRecorded.cmd ∧ u.glb = s.emptyRecorded.glb ∧ s.emptyRecorded.SameRecorder u := by
    rw [← hu]
    split
    · exact ⟨State.tally_cmd .., State.tally_glb .., State.tally_sameRecorder ..⟩
    · exact ⟨rfl, rfl, .of_evr rfl⟩
  obtain ⟨hucmd, huglb, husame⟩ := hkeeps
  obtain ⟨hvcmd, hvglb, hvsame⟩ := u.startTallied_keeps s.glb.causeModule
  obtain ⟨ready, at', hready⟩ := (u.startTallied s.glb.causeModule).noteReady_writes
  obtain ⟨b0, b1, j, n, hsame⟩ := ((hload.trans husame).trans hvsame).trans (State.noteReady_sameRecorder _)
  refine ⟨_, act_running h State.evrLoad, ?_⟩
  rw [State.framed_evr, State.framed_glb, State.framed_devRing, State.evrLoad_of_empty hr hf hl ht, hu, hsame]
  refine ⟨?_, rfl, rfl, rfl, Nat.zero_add _, rfl, ?_⟩
  · rw [hready]
    dsimp only
    rw [hvglb, huglb, hglb]
    rfl
  · rw [hready, State.devRing]
    dsimp only
    rw [hvcmd, hucmd]
    exact hseq

end

/-! ### The events -/

/-- Settles O36: each event by the branch of its condition, and what it leaves of the recorder but for the banks and the
journal, which tallies and entries write. -/
theorem recorderEvents : Obligations.RecorderEvents := by
  unfold Obligations.RecorderEvents
  intro r s h
  refine ⟨exec_recorderSample r h, fun hs => acts_of_act (f := fun s => s.recorderSample r) rfl h (if_pos hs),
    exec_recordSwap h, fun hw hp => acts_of_act (f := State.recordSwap) rfl h (State.recordSwap_of_writing hw hp),
    fun q n hw => exec_recordWriteDone_ok h hw,
    fun q n ds hw hn => acts_of_act (f := fun s => s.recordWriteDone false) rfl h (State.recordWriteDone_of_failed hw hn),
    fun q ds hw => exec_recordWriteDone_last h hw,
    fun hw => acts_of_act (f := fun s => s.recordWriteDone true) rfl h (by rw [State.recordWriteDone, hw]; rfl),
    exec_timeEntry_periodic h, fun ht => acts_of_act (f := fun s => s.timeEntry .periodic) rfl h (if_neg (Nat.not_le.2 ht)),
    fun hw => acts_of_act (f := fun s => s.timeEntry .holdUp) rfl h (if_neg (by simp [hw])),
    fun ch exp hc he => acts_of_act (f := State.challengeExpiry) rfl h ?_,
    fun hc => acts_of_act (f := State.challengeExpiry) rfl h ?_, exec_evrRun_empty h,
    fun hr => acts_of_act (f := State.evrLoad) rfl h (if_pos (by simp [hr]))⟩
  · simp only [State.challengeExpiry, hc, if_pos he]
  · simp only [State.challengeExpiry, hc, id]

end Sys2Proof.Machine
end
